-- ==== Sys2Proof/Word.lean ====
section
/-! DEFINITION. The word types of the module: bytes, 64-bit registers, Lea times, and sparse tables. -/

namespace Sys2Proof

/-- One byte. -/
abbrev Byte := BitVec 8

/-- One register: every register is 64 bits wide (R6). -/
abbrev Word := BitVec 64

/-- A Lea time: the 64-bit nanosecond counter, whose arithmetic is modulo 2^64 (R10). -/
abbrev Lea := BitVec 64

/-- A sparse table from unit numbers to values. It lists, with keys strictly rising, only the units whose
value differs from the table's default (see Machine/Tab.lean). -/
abbrev Tab (α : Type) := List (Nat × α)

/-- A memory: the bytes that differ from what an unlisted address reads as. The same type as a list of
`Host.Cell`. -/
abbrev Memory := Tab Byte

/-- Two like things, one per I/O die, port, Spindle or slot. -/
structure Two (α : Type) where
  a : α
  b : α
deriving DecidableEq, Repr, Inhabited

/-- A port: 0 is port A (host A, I/O die X0), 1 is port B (R312). -/
abbrev Port := Fin 2

/-- An I/O die, its Spindle and its Distaff: 0 is X0 (A), 1 is X1 (B) (R349). -/
abbrev IoDie := Fin 2

/-- A queue number, 0 to 16,383 (R320). -/
abbrev Queue := Fin 16384

/-- An event source, 0x000 to 0x3FF (R373). -/
abbrev Source := Fin 1024

/-- An event target: 0 Spindle A, 1 Spindle B, 2 host A, 3 host B (R373). -/
abbrev Target := Fin 4

/-- An external line of R381. -/
abbrev ExtLine := Fin 25

/-- A die of POWER.DIE: 0-7 compute, 8-15 memory-side, 16-17 I/O, 18 the Skein (R401). -/
abbrev DieIx := Fin 19

/-- A compute region C00-C15 (R11). -/
abbrev Region := Fin 16

/-- A linear block index (R18). -/
abbrev Block := Fin 256

/-- A linear cell index (R18). -/
abbrev Cell := Fin 4096

/-- A thread context of a cell (R80). -/
abbrev Thread := Fin 8

/-- A Skein station 0-33 (R11). -/
abbrev Stn := Fin 34

/-- A Skein loop L000-L127 (R11). -/
abbrev Loop := Fin 128

/-- A wavelength line 0-47 (R11). -/
abbrev Line := Fin 48

/-- A loop group G0-G7 (R11). -/
abbrev Group := Fin 8

/-- A laser cage 0-9 (R232). -/
abbrev Cage := Fin 10

/-- An HBM stack M00-M15 (R11). -/
abbrev Stack := Fin 16

/-- A Reel port 0-7 (R13). -/
abbrev RPort := Fin 8

/-- A Reel virtual channel. -/
abbrev Vc := Fin 8

/-- A ply port index of R230. -/
abbrev PlyIx := Fin 1024

/-- A scalar or vector register number of a thread (R80). -/
abbrev Reg := Fin 32

end Sys2Proof
end

