-- ==== Sys2Proof/Syntax.lean ====
section
/-! DEFINITION. The commands of the block: one constructor of `Instr` for each row of the opcode table, and the
types of their operands. A Selkan command carries its entry; an event of the hardware carries the readings and
outcomes that the part itself would supply. -/

namespace Sys2Proof

/-- A command entry as a Distaff took it (R331): the queue it came from, the Lea stamp of its doorbell, and
every field of the entry but OPCODE, which the row implies. `params` are entry bytes 16 to 63. -/
structure Cmd where
  queue : Queue
  stamp : Lea
  flags : BitVec 8 := 0
  paramLen : BitVec 8 := 0
  seq : BitVec 32 := 1
  deadline : Lea := 0
  params : BitVec 384 := 0
deriving DecidableEq, Repr

/-- An owner key slot (R439): public key and role byte; both 0 when empty. -/
structure OwnerKey where
  key : BitVec 256 := 0
  role : BitVec 8 := 0
deriving DecidableEq, Repr

/-- A trust-list entry (R441). -/
structure Trust where
  key : BitVec 256
  node : BitVec 16
  isSwitch : Bool
deriving DecidableEq, Repr

/-- The settings of the five profiles of a configuration version (R361), with the defaults of the rules cited
there. -/
structure Settings where
  /-- POWER: active cap, W, and sag cap, % (R387) -/
  capW : Nat := 5000
  sagPct : Nat := 60
  /-- CREEL: standing bobbins per pair (R191) and HANDOVER_WAIT in ms (R239) -/
  standing : Nat := 2
  handoverMs : Nat := 20
  /-- FABRIC: node ID (R264), request timeout in us (R274), CREDIT_TIMEOUT in us (R293), TIME_MASTER (R308),
  gateway mode per port (R282) -/
  node : BitVec 16 := 0
  requestUs : Nat := 40
  creditUs : Nat := 200
  timeMaster : BitVec 16 := 0
  gateway : BitVec 8 := 0
  /-- CAL: crossing modes that are not the default, by crossing number (R150), and the policy -/
  crossing : Tab Nat := []
  policy : Nat := 0
  /-- SECURITY: owner keys by slot (R439), trust list (R441) -/
  keys : Tab OwnerKey := []
  trust : List Trust := []
deriving DecidableEq, Repr

/-- How a command's write to host memory went: whole, or ended by the port after `written` bytes (R344). -/
inductive HostWr where
  | whole
  | failed (written : Nat)
deriving DecidableEq, Repr

/-- A data-mover entry (R328) as the data mover takes it. -/
structure Move where
  queue : Queue
  /-- the entry's OP is a reserved one -/
  badOp : Bool := false
  seq : BitVec 32
  /-- FLAGS and byte 3 -/
  flags : BitVec 16 := 0
  hostAddr : Word
  devAddr : Word
  bytes : Word
  /-- bytes 32-63 -/
  rest : BitVec 256 := 0
deriving DecidableEq, Repr

/-- Kind of a micro-ring (R15): transmit, drop, or ply-drop. -/
inductive RingKind where
  | tx | drop | ply
deriving DecidableEq, Repr

/-- A micro-ring: station, loop, kind and number (0-7, or 0-15 for ply-drop). -/
structure RingIx where
  stn : Stn
  loop : Loop
  kind : RingKind
  n : Fin 16
deriving DecidableEq, Repr

/-- What a region reset finds (R421): rings that fail the check in place, and the measured round trips of the
calibration attempts of the two crossings, none for a voided attempt (R151). -/
structure ResetRead where
  failed : List RingIx := []
  seam : List (Option Nat) := [some 36]
  stn : List (Option Nat) := [some 4]
deriving DecidableEq, Repr

/-- Region resets of several regions, by region number. -/
abbrev ResetReads := List (Nat × ResetRead)

/-- A failure that Carding finds: UNIT, INDEX, ADDRESS, BIT of R430, the kind of repair that the unit has left
(spares of the kind left after it; none when it has run out or has none). -/
structure CardFail where
  unit_ : Nat
  index : Nat
  address : Nat := 0
  bit : Nat := 0xFFFF
  /-- spare row, spare column, HBM row, HBM lane: 1 to 4; 0 none -/
  spare : Nat := 0
  spareLeft : Nat := 0xFFFF
deriving DecidableEq, Repr

/-- A SCALAR_ALU instruction as decoded (R110): operation, destination, first source, second source register or
immediate; whether class, operation and fields are legal; whether the residue check agrees (R57). -/
structure AluOp where
  op : BitVec 8
  rd : Reg
  rs : Reg
  rt : Option Reg
  imm : BitVec 32 := 0
  legal : Bool := true
  residueOk : Bool := true
deriving DecidableEq, Repr

/-- A SCALAR_MEM instruction: load or store of 1 to 8 bytes; `signExtend` is the operation's choice for a load. -/
structure MemOp where
  load : Bool
  reg : Reg
  base : Reg
  offset : BitVec 32
  bytes : Nat
  signExtend : Bool := false
  legal : Bool := true
deriving DecidableEq, Repr

/-- A VECTOR_ALU instruction: operation, element type, destination, sources, lane mask register. -/
structure VecOp where
  op : BitVec 8
  etype : BitVec 4
  vd : Reg
  vs : Reg
  vt : Reg
  vu : Option Reg := none
  mask : Reg
  legal : Bool := true
  residueOk : Bool := true
deriving DecidableEq, Repr

/-- A VECTOR_MEM instruction: `count` elements of `elem` bytes, at most 256 bytes. -/
structure VMemOp where
  load : Bool
  v : Reg
  base : Reg
  offset : BitVec 32
  stride : Int
  elem : Nat
  count : Nat
  legal : Bool := true
deriving DecidableEq, Repr

/-- A CONVERT instruction: formats coded as OUT_FORMAT of R105, ROUND of R111. -/
structure CvtOp where
  vd : Reg
  vs : Reg
  src : Nat
  dst : Nat
  round : Fin 4
  legal : Bool := true
  residueOk : Bool := true
deriving DecidableEq, Repr

/-- What went wrong in a tile's hardware by the time its outputs are compared (R55, R57): nothing; one
multiply-accumulate cell, by the comparison it feeds and the amount its sum is off; the 65th column, likewise; a twin
pair that disagrees on an output of the tile, by number; or another checked unit (a decoder pair, activation parity, the
twin adders of the FP32 path). -/
inductive TileUpset where
  | none
  | mac (i : Nat) (delta : Int)
  | column65 (i : Nat) (delta : Int)
  | twin (n : Nat)
  | unit_
deriving DecidableEq, Repr

/-- Where a DESC instruction finds its descriptor: address in a register, or index into DESCRIPTORS. -/
inductive DescRef where
  | reg (r : Reg)
  | index (n : Nat)
deriving DecidableEq, Repr

/-- An ATOMIC instruction. -/
structure AtomOp where
  op : BitVec 8
  data : Reg
  compare : Reg
  addr : Reg
  wide : Bool
  legal : Bool := true
deriving DecidableEq, Repr

/-- A BRANCH instruction: condition, and 40-bit signed offset or target register. -/
structure BrOp where
  cond : BitVec 8
  target : Option Reg
  offset : BitVec 40 := 0
  legal : Bool := true
deriving DecidableEq, Repr

/-- What SPECIAL reads. -/
inductive SpecialRead where
  | lea | cellId | tileSeq
deriving DecidableEq, Repr

/-- Who read the SRAM word (R96): a thread or the array feed of a cell, a stream engine, a merge for a partial
write, a host; or the word lies in a cell's register file. -/
inductive Consumer where
  | thread (c : Cell)
  | feed (c : Cell)
  | stream (b : Block)
  | merge
  | host (p : Port)
  | regfile (c : Cell)
deriving DecidableEq, Repr

/-- A VC1-VC3 flit (R129): HEADER fields and payload. -/
structure Flit where
  ring : Fin 4
  cw : Bool
  vc : Fin 4
  dst : Fin 16
  dstPort : Fin 4
  src : Fin 16
  srcPort : Fin 4
  type_ : Nat
  last : Bool := false
  poison : Bool := false
  rangeCount : Nat := 0
  tag : BitVec 16
  group : BitVec 12 := 0
  addr : BitVec 48 := 0
  /-- bytes it carries, or that a READ_REQ asks for; SIZE is their number / 8 - 1 -/
  bytes : Nat := 256
  data : List Byte := []
  /-- generation of the slot that its request holds; no field of HEADER (DESIGN CHOICE, log 134) -/
  gen : BitVec 10 := 0
deriving DecidableEq, Repr

/-- The error check of a flit (R141). -/
inductive RingErr where
  | none | ce | ue | hdr
deriving DecidableEq, Repr

/-- A pair of stations, a ring, a direction and a VC: the unit of ring credits (R132). -/
structure CreditKey where
  sender : Fin 16
  receiver : Fin 16
  ring : Fin 4
  cw : Bool
  vc : Fin 4
deriving DecidableEq, Repr

/-- A VC0 message (R131): KIND 0 SIGNAL, 1 ARRIVE, 2 RELEASE, 3 EVENT. -/
structure CtrlMsg where
  kind : Fin 4
  dst : Fin 16
  src : Fin 16
  number : Nat
  count : Nat := 1
  gen : BitVec 8 := 0
  broadcast : Bool := false
deriving DecidableEq, Repr

/-- A crossing (R150): the seam of a compute die, or the station crossing of a region. -/
inductive Crossing where
  | seam (d : Fin 8)
  | stn (r : Region)
deriving DecidableEq, Repr

/-- Power of the 48 lines of a loop from one source at LIGHT_COMMISSION, 0.01 dBm (R236). -/
structure LinePower where
  loop : Loop
  standby : Bool
  powers : List Int
deriving DecidableEq, Repr

/-- One window of a tap detector (R235, R237): power of the 48 lines in 0.01 dBm, and how far the total input power
lies below the commissioned total, in 0.01 dB. -/
structure LightMeas where
  powers : List Int
  totalDrop : Int := 0
deriving DecidableEq, Repr

/-- What lost its light (R237): a loop by its total power, or everything a source feeds by its lines. -/
inductive LightWhat where
  | loop (n : Loop)
  | cage (k : Cage)
deriving DecidableEq, Repr

/-- What a cage answers to a poll (R245). `ready` says that the source reports READY or lit. -/
structure CageRead where
  tempC : Nat
  minLine : Int
  faultCode : BitVec 16 := 0
  ready : Bool
deriving DecidableEq, Repr

/-- Bits a drop ring corrected and received in a window (R173). -/
structure RingBer where
  stn : Stn
  n : Fin 8
  corrected : Nat
  bits : Nat
deriving DecidableEq, Repr

/-- A Skein packet (R174). -/
structure SPkt where
  dst : Nat
  src : Nat
  type_ : Nat
  tag : BitVec 16
  gen : BitVec 10
  length : Nat
  poison : Bool := false
  status : Nat := 0
  space : Nat := 0
  aop : BitVec 4 := 0
  addr : Word := 0
  data : List Byte := []
deriving DecidableEq, Repr

/-- What a ply port measures (R215, R220, R221, R228): equalisation residual in 0.1 %, sigma in micro-counts, the one-levels of its
members in 1/64 LSB with the reference they are compared with, alignment delays, trims in 0.1 %, and the converter codes of the
proof slots q = 0 to 31. -/
structure PlyMeas where
  eqRes : Nat
  sigmaUc : Nat
  levels : List Nat := []
  reference : Nat := 0
  delays : List (Nat × Nat) := []
  trims : List Int := []
  codes : List Nat := []
deriving DecidableEq, Repr

/-- Lanes that each end of the inter-I/O-die link reports trained (R199). -/
structure LinkEnds where
  x0 : Nat
  x1 : Nat
  /-- the link round trip measured, ns -/
  rttNs : Nat := 0
deriving DecidableEq, Repr

/-- What a Spindle computed of a step (R351): its writes to shared state, address and data, in order, and the STATUS and RESULT of the
completions that the step yields. -/
structure StepWrites where
  writes : List (Word × Word) := []
  ends : List (BitVec 16 × BitVec 128) := []
deriving DecidableEq, Repr

/-- On whose behalf an HBM line is read (R250): a module unit, a host, or the Spindle pair for a command. -/
inductive HbmWho where
  | unit | host | spindle
deriving DecidableEq, Repr

/-- End of a stack's training (R262): passed with the spare rows read from it, repair needed, or failed. -/
inductive TrainOutcome where
  | pass (spareRows : Nat)
  | repair
  | fail
deriving DecidableEq, Repr

/-- A Reel packet (R265) with its payload (R266); the virtual channel follows from the opcode. -/
structure Pkt where
  dst : BitVec 16
  src : BitVec 16
  opcode : BitVec 8
  poison : Bool := false
  status : BitVec 4 := 0
  tag : BitVec 16 := 0
  epoch : BitVec 12 := 0
  aop : BitVec 4 := 0
  handle : BitVec 16 := 0
  key : BitVec 32 := 0
  offset : BitVec 48 := 0
  aux : BitVec 16 := 0
  count : BitVec 32 := 0
  flags : BitVec 8 := 0
  age : BitVec 16 := 0
  data : List Byte := []
deriving DecidableEq, Repr

/-- What timed out on the fabric (R274, R279, R286): a read or write slot, a read or write that only met RETRY, an
invalidation, a multicast line. -/
inductive ReelTimeoutWhat where
  | request (tag : BitVec 16)
  | starved (tag : BitVec 16)
  | invalidation
  | multicast (tag : BitVec 16)
deriving DecidableEq, Repr

/-- A link flit: its header and its payload (R291). -/
structure LFlit where
  seq : BitVec 12
  ack : BitVec 12 := 0
  ackValid : Bool := false
  nak : Bool := false
  /-- 0 IDLE, 1 DATA, 2 CONTROL -/
  kind : Fin 4
  crVc : Vc := 0
  crCount : Nat := 0
  /-- START and START_OFFSET: the payload byte at which the first packet begins -/
  start : Option (Fin 244) := none
  /-- payload; bytes that it leaves out are zero -/
  data : List Byte := []
  /-- what the port's FEC reports as the flit arrives: the worst lane and its pre-FEC ratio, -log10 in tenths, 0xFF without error -/
  worstLane : Fin 8 := 0
  preFec : BitVec 8 := 0xFF
deriving DecidableEq, Repr

/-- A watched temperature (R395): the junction of a die, the Skein beneath a die, a stack, the Skein beneath a stack. -/
inductive Watched where
  | die (d : Fin 18)
  | skein (d : Fin 18)
  | stack (s : Stack)
  | stackSkein (s : Stack)
deriving DecidableEq, Repr

/-- Cause of a power-fail (R392): the input at this many mV, PWR_GOOD low, or the over-voltage trip. -/
inductive FailCause where
  | low (mv : Nat)
  | pwrGood
  | overvolt (mv : Nat)
deriving DecidableEq, Repr

/-- A sample of the ageing monitors (R411): stage completion per compute die in ps, referred to 85 °C; headroom in % and
receive margin (0.1 dB, station) per loop; weakest laser line per loop in 0.01 dB; eye per port in %; ply linearity per
station in 0.01 LSB; and whether R219 is met at the present WIDTH_CAP. -/
structure AgeRead where
  stagePs : List Nat := []
  headroom : List Nat := []
  margin : List (Nat × Nat) := []
  laser : List Int := []
  eye : List Nat := []
  lin : List Nat := []
  widthOk : Bool := true
deriving DecidableEq, Repr

/-- What the check of a firmware image says: its digest agrees, both signatures hold (R434, R438); and of an image that comes
over SMBus, its VERSION, SVN and MIN_IO_REV. -/
structure FwRead where
  digestOk : Bool := true
  sigOk : Bool := true
  version : BitVec 32 := 1
  svn : Nat := 0
  minIoRev : Nat := 0
deriving DecidableEq, Repr

/-- Domains of a calibration snapshot that fail their spot check (R408), bit c for domain c. -/
structure SnapRead where
  misses : Nat := 0
deriving DecidableEq, Repr

/-- A board-management request (R445): MCTP control, PLDM sensors, PLDM firmware update, SPDM, or one that would change state. -/
inductive BmcReq where
  | control | sensors | firmware | spdm | change
deriving DecidableEq, Repr

/-- What a bring-up finds (R419). -/
structure BringUp where
  /-- firmware slots that fail their check, bit 2d + k for slot k of die d; slots whose digests differ, bit k (R435) -/
  fwBad : Nat := 0
  fwDiffer : Nat := 0
  /-- self-check code of each Spindle's boot self-check, 0 when it passes (R360 LAST_CHECK) -/
  spFail : Nat × Nat := (0, 0)
  /-- lanes of the inter-I/O-die link that train, and its round trip -/
  lanes : Nat := 0xFFFF
  rttNs : Nat := 0
  /-- factory records that are no longer as shipped: die, domain, and the bytes that its flash now holds (R403, R404) -/
  records : List (IoDie × Nat × List Byte) := []
  /-- commit blocks that the stores no longer hold as last written: slot, die, and the bytes found there (R363, R364) -/
  config : List (Fin 2 × IoDie × List Byte) := []
  /-- I/O dies whose record store no longer holds a valid latest header copy (R454) -/
  heads : List IoDie := []
  /-- the 19 band-gaps in uV; none when they agree (R402) -/
  bandgap : List Nat := []
  /-- cages whose source reports READY, bit k (R244) -/
  cages : Nat := 0x3FF
  /-- how the training of each stack ends, by stack; none while it runs on (R262) -/
  trained : List (Option TrainOutcome) := List.replicate 16 (some (.pass 2))
  /-- rings that do not lock at the first attempt of the lock phase (R182, R183) -/
  rings : List RingIx := []
  /-- what the quick Carding pass finds, and the pairs that a throttle level stops, in order (R423, R425) -/
  fails : List CardFail := []
  stops : List Nat := []
  /-- what the region resets find (R421) -/
  resets : ResetReads := []
  /-- BOOT_MS, length of the lock phase, calibration time and bring-up time, ms -/
  bootMs : Nat := 0
  lockMs : Nat := 0
  calMs : Nat := 0
  ms : Nat := 0
deriving DecidableEq, Repr
/-- What PHASE_CHECK finds at a crossing (R153): the net slip in periods and which end of the crossing received. -/
structure PhaseRead where
  slip : Int
  far : Bool
  deriving DecidableEq, Repr

/-- What LEA_COMPARE finds (R158): the differences of the dies' copies from X0's in ns, and those between the two regions of each
compute die. -/
structure LeaRead where
  skews : List Int
  halves : List Nat
  deriving DecidableEq, Repr

/-- What the converter of a ply port reads in a slot (R215, R221): the port, the number of the slot and the code. -/
structure ProofRead where
  port : PlyIx
  slot : Nat
  code : Nat
  deriving DecidableEq, Repr

/-- What a pause of R240 leaves: the rings whose confirmation failed and the loops that crossed -2.5 dB in it (R241). -/
structure PauseRead where
  failed : List RingIx
  faded : List Loop
  deriving DecidableEq, Repr

/-- A command of the block: one constructor per row of the opcode table. -/
inductive Instr where
  /-- NOP (R345): Command 0x0100 returns the Lea time at execution. -/
  | nop (c : Cmd)
  /-- MODULE_STATUS (R345): Command 0x0101 returns MODULE.STATE and MODULE.CAP. -/
  | moduleStatus (c : Cmd)
  /-- MODULE_RESET (R416): Command 0x0102 resets the whole module at level 0, or resets one Spindle at level 1 or 2, optionally restoring a calibration snapshot. -/
  | moduleReset (c : Cmd) (b : BringUp) (snap : SnapRead)
  /-- QUEUE_CREATE (R324): Command 0x0110 makes a queue of the issuing port. -/
  | queueCreate (c : Cmd)
  /-- QUEUE_DELETE (R324): Command 0x0111 puts a queue of the issuing port into DRAINING and then FREE. -/
  | queueDelete (c : Cmd)
  /-- CONFIG_STAGE (R366): Command 0x0201 validates a version image and writes it to the non-active slot. -/
  | configStage (c : Cmd) (set : Settings) (sig : Bool)
  /-- CONFIG_APPLY (R367): Command 0x0202 commits the staged version, brings its profiles into force and opens the watch window. -/
  | configApply (c : Cmd) (sig : Bool) (recheck : Bool)
  /-- CONFIG_ROLLBACK (R369): Command 0x0203 makes the kept slot active again. -/
  | configRollback (c : Cmd)
  /-- CONFIG_READ (R345): Command 0x0204 writes a stored version image to host memory. -/
  | configRead (c : Cmd) (w : HostWr)
  /-- JOB_OPEN (R103): Command 0x0301 opens a job and assigns the next job identifier. -/
  | jobOpen (c : Cmd)
  /-- LOAD_IMAGE (R107): Command 0x0302 checks a kernel image, copies it into the regions of its mask and assigns its tensor guard slots. -/
  | loadImage (c : Cmd)
  /-- UNLOAD_IMAGE (R107): Command 0x0303 frees an image and its tensor slots. -/
  | unloadImage (c : Cmd)
  /-- LAUNCH (R108): Command 0x0304 checks a launch against its regions and queues it to start. -/
  | launch (c : Cmd)
  /-- JOB_CLEAR (R103): Command 0x0305 frees the job's objects, resets its regions and closes the job. -/
  | jobClear (c : Cmd) (rr : ResetReads)
  /-- JOB_ABORT (R341): Command 0x0306 ends the open job through the job-fault sequence with cause HOST_ABORT. -/
  | jobAbort (c : Cmd)
  /-- REEL_REGISTER (R268): Command 0x0401 registers an HBM region for Reel access and returns its handle. -/
  | reelRegister (c : Cmd)
  /-- REEL_DEREGISTER (R270): Command 0x0402 refuses new requests to a handle and completes when the admitted ones are answered. -/
  | reelDeregister (c : Cmd)
  /-- SHARER_GROUP_SET (R268): Command 0x0403 defines a sharer group of node IDs. -/
  | sharerGroupSet (c : Cmd)
  /-- MCAST_GROUP_SET (R285): Command 0x0404 defines a multicast group and its member table. -/
  | mcastGroupSet (c : Cmd)
  /-- REEL_INVALIDATE (R279): Command 0x0405 sends INVALIDATE to every member of a sharer group and collects the acknowledgements. -/
  | reelInvalidate (c : Cmd)
  /-- REEL_KEY_ROTATE (R442): Command 0x0406 admits both the old and the new region key for 250 µs, then the new key only. -/
  | reelKeyRotate (c : Cmd)
  /-- CREEL_STATUS (R205): Command 0x0501 returns the epoch, the usable loops and the tables loaded. -/
  | creelStatus (c : Cmd)
  /-- TABLE_LOAD (R204): Command 0x0502 places every phase of a phase table and classes it RESIDENT or STREAMED. -/
  | tableLoad (c : Cmd)
  /-- TABLE_UNLOAD (R205): Command 0x0503 unloads a phase table. -/
  | tableUnload (c : Cmd)
  /-- TABLE_START (R205): Command 0x0504 tunes and verifies a table's rings and arms its first phase. -/
  | tableStart (c : Cmd) (ply : List (PlyIx × PlyMeas))
  /-- TABLE_STOP (R205): Command 0x0505 stops the running table at the next switch point, or at once with FORCE. -/
  | tableStop (c : Cmd)
  /-- FENCE (R209): Command 0x0506 fences the stations of a mask. -/
  | fence (c : Cmd)
  /-- UNFENCE (R209): Command 0x0507 unfences the stations of a mask. -/
  | unfence (c : Cmd)
  /-- LOOP_WITHDRAW (R188): Command 0x0508 withdraws a loop with cause COMMAND and commits a new epoch. -/
  | loopWithdraw (c : Cmd)
  /-- REQUALIFY (R200): Command 0x0509 relocks FAULTY rings, re-tests withdrawn loops and the inter-I/O-die link, and widens the map. -/
  | requalify (c : Cmd) (lanes : LinkEnds)
  /-- REEL_STATUS (R310): Command 0x0601 returns the node ID, the up ports and the active routing table. -/
  | reelStatus (c : Cmd)
  /-- ROUTE_LOAD (R303): Command 0x0602 writes entries of the shadow routing table from HBM. -/
  | routeLoad (c : Cmd)
  /-- ROUTE_SWAP (R305): Command 0x0603 drains request injection and exchanges the active and shadow routing tables. -/
  | routeSwap (c : Cmd)
  /-- PORT_SET (R310): Command 0x0604 enables or disables a Reel port and sets endpoint or gateway mode. -/
  | portSet (c : Cmd)
  /-- PORT_RETRAIN (R310): Command 0x0605 takes a port down, re-injects its packets and retrains it at the widest width. -/
  | portRetrain (c : Cmd)
  /-- LEA_STEP (R160): Command 0x0606 steps Lea forward or back while no job is open. -/
  | leaStep (c : Cmd)
  /-- POWER_STATUS (R345): Command 0x0701 returns the input power and the active cap. -/
  | powerStatus (c : Cmd)
  /-- POWER_CAP_SET (R387): Command 0x0702 sets the active cap and the sag cap. -/
  | powerCapSet (c : Cmd)
  /-- REGION_PARK (R391): Command 0x0703 switches the seam to Queued mode and ramps the named compute halves to the retention level. -/
  | regionPark (c : Cmd)
  /-- REGION_UNPARK (R391): Command 0x0704 ramps parked halves back to their set-point and resets them. -/
  | regionUnpark (c : Cmd)
  /-- THERMAL_ACK (R398): Command 0x0705 acknowledges a shutdown record so that bring-up can continue. -/
  | thermalAck (c : Cmd) (b : BringUp)
  /-- CAL_STATUS (R415): Command 0x0801 returns CAL.STAT. -/
  | calStatus (c : Cmd)
  /-- CAL_SAVE (R406): Command 0x0802 writes a calibration snapshot of every domain to host memory. -/
  | calSave (c : Cmd) (w : HostWr)
  /-- CAL_RESTORE (R407): Command 0x0803 checks a snapshot and applies its domains to the live values under the ramp limits. -/
  | calRestore (c : Cmd) (snap : SnapRead)
  /-- AGEING_READ (R412): Command 0x0804 writes the ageing plan and the hourly summaries to host memory. -/
  | ageingRead (c : Cmd) (w : HostWr)
  /-- LIGHT_COMMISSION (R236): Command 0x0810 records P_c of every line from the primary and from the standby sources. -/
  | lightCommission (c : Cmd) (pw : List LinePower)
  /-- LIGHT_RETURN (R243): Command 0x0811 moves a group in STANDBY back to its primary at the next gap. -/
  | lightReturn (c : Cmd)
  /-- SEC_STATUS (R446): Command 0x0901 returns SEC.STAT. -/
  | secStatus (c : Cmd)
  /-- ATTEST (R440): Command 0x0902 writes a signed attestation report to host memory. -/
  | attest (c : Cmd) (w : HostWr)
  /-- FW_UPDATE (R438): Command 0x0903 verifies a firmware image and writes it to the non-running slot as TRIAL and preferred. -/
  | fwUpdate (c : Cmd) (sig : Bool) (fw : FwRead)
  /-- TEST_LOCK (R443): Command 0x0904 blows the TEST_LOCK fuse on X0 and then on X1. -/
  | testLock (c : Cmd) (sig : Bool)
  /-- DEBUG_MAILBOX (R444): Command 0x0905 exchanges mailbox words with the debug path and sets DEBUG_USED. -/
  | debugMailbox (c : Cmd)
  /-- SNAPSHOT (R449): Command 0x0A01 copies the selected counter groups to their shadows at one Lea time. -/
  | snapshot (c : Cmd)
  /-- SNAPSHOT_CLEAR (R449): Command 0x0A02 captures the selected counter groups and zeroes the live counters. -/
  | snapshotClear (c : Cmd)
  /-- TELEMETRY_START (R452): Command 0x0A03 starts or restarts a telemetry stream into a circular buffer. -/
  | telemetryStart (c : Cmd)
  /-- TELEMETRY_STOP (R345): Command 0x0A04 stops a telemetry stream. -/
  | telemetryStop (c : Cmd)
  /-- RECORD_READ (R458): Command 0x0A05 writes one I/O die's record store header and records to host memory. -/
  | recordRead (c : Cmd) (w : HostWr)
  /-- RECORD_CLEAR (R458): Command 0x0A06 marks records up to a given RSEQ as CLEARED. -/
  | recordClear (c : Cmd)
  /-- CARDING_RUN (R423): Command 0x0B01 runs a quick or full Carding pass. -/
  | cardingRun (c : Cmd)
  /-- CARDING_RESULT (R429): Command 0x0B02 writes the latest Carding result record to host memory. -/
  | cardingResult (c : Cmd) (w : HostWr)
  /-- TO_DEVICE (R329): Data-mover entry 0x0001 moves bytes from host memory into the BAR2 space. -/
  | toDevice (m : Move)
  /-- FROM_DEVICE (R329): Data-mover entry 0x0002 moves bytes from the BAR2 space to host memory. -/
  | fromDevice (m : Move)
  /-- COMMAND_DOORBELL (R321): A host write of a new tail to a command queue's doorbell, which the Distaff stamps. -/
  | commandDoorbell (p : Port) (q : Queue) (index : BitVec 32)
  /-- DATA_MOVER_DOORBELL (R321): A host write of a new tail to a data-mover queue's doorbell. -/
  | dataMoverDoorbell (p : Port) (q : Queue) (index : BitVec 32)
  /-- HEAD_DOORBELL (R326): A host write of a new head to a completion or event queue's doorbell, which frees ring room and rearms the queue. -/
  | headDoorbell (p : Port) (q : Queue) (index : BitVec 32)
  /-- HOST_EOS (R378): A host write to EVC.HOST_EOS ends that host's service of an event source. -/
  | hostEos (p : Port) (value : BitVec 64)
  /-- ADMIN_RING_ENABLE (R323): A write that sets ENABLE in MODULE.ADMIN_RING places an admin queue, makes it ACTIVE and clears ERROR. -/
  | adminRingEnable (p : Port) (k : Fin 4) (value : BitVec 64)
  /-- ADMIN_RING_DISABLE (R323): A write that clears ENABLE in MODULE.ADMIN_RING puts the admin queue into DRAINING. -/
  | adminRingDisable (p : Port) (k : Fin 4) (value : BitVec 64)
  /-- BAR2_BASE_WRITE (R317): A host write to MODULE.BAR2_BASE moves the port's BAR2 aperture. -/
  | bar2BaseWrite (p : Port) (target : Port) (value : BitVec 64)
  /-- MSIX_TABLE_WRITE (R316): A host access to its port's MSI-X table or pending-bit array. -/
  | msixTableWrite (p : Port) (offset : Nat) (size : Nat) (write : Bool) (value : BitVec 64)
  /-- HOST_RO_WRITE (R315): A host write to any other BAR0 register, or from the wrong port, is discarded and logged. -/
  | hostRoWrite (p : Port) (offset : Nat) (foreign : Bool)
  /-- BAD_SHAPE_ACCESS (R6): A register access that is not 64-bit and 8-byte aligned reads all ones or is discarded, and is logged. -/
  | badShapeAccess (p : Port) (offset : Nat) (write : Bool)
  /-- BAR2_READ (R318): A host read through BAR2 of an HBM line or of SRAM words. -/
  | bar2Read (p : Port) (offset : Nat) (len : Nat)
  /-- BAR2_WRITE (R318): A host write through BAR2 to an HBM line or to SRAM words. -/
  | bar2Write (p : Port) (offset : Nat) (data : List (Option Byte)) (ep : Bool)
  /-- BAR4_ACCESS (R319): A host access to queue memory through BAR4. -/
  | bar4Access (p : Port) (offset : Nat) (len : Nat) (data : Option (List Byte))
  /-- QUEUE_DRAINED (R323): A DRAINING queue becomes FREE once its taken commands have ended. -/
  | queueDrained (q : Queue)
  /-- PERST_ASSERT (R330): A PERST of one port frees its queues, resets its MSI-X structures and BAR2_BASE, and ends event service for its host. -/
  | perstAssert (p : Port)
  /-- PERST_RELEASE (R314): Release of PERST lets the port answer configuration requests within 100 ms. -/
  | perstRelease (p : Port)
  /-- HOST_LINK_DOWN (R330): Loss of a port's PCI Express link puts all its queues in ERROR with cause LINK_DOWN. -/
  | hostLinkDown (p : Port)
  /-- DISTAFF_HEARTBEAT (R350): Every 100 ns each Distaff sends its Lea time to the peer. -/
  | distaffHeartbeat (d : IoDie)
  /-- PEER_STAMP_RECEIVE (R350): A Distaff receives a stamp or heartbeat from the peer Distaff. -/
  | peerStampReceive (d : IoDie) (t : BitVec 64)
  /-- COMMAND_RELEASE (R350): A Distaff releases a stamped command into the merged order once the peer has shown a later time. -/
  | commandRelease (d : IoDie)
  /-- DIGEST_EXCHANGE (R351): At a commit mark the Spindles exchange and compare their write digests. -/
  | digestExchange (a : StepWrites) (b : StepWrites)
  /-- SELF_CHECK_DONE (R352): The end of the self-checks after a digest mismatch decides reset, takeover or HELD. -/
  | selfCheckDone (failA : Bool) (failB : Bool)
  /-- SPINDLE_SELFCHECK_FAIL (R353): A Spindle fails its self-check and deasserts its claim line within 100 ns. -/
  | spindleSelfcheckFail (d : IoDie) (check : Nat)
  /-- CLAIM_RELEASED (R354): The peer sees the holder's claim line low for 100 ns and takes over the claim. -/
  | claimReleased (unproven : List Source)
  /-- COLD_CLAIM_B (R353): At cold start B asserts its claim if ACTIVE_CLAIM_A has stayed low for 10 ms after B's self-check. -/
  | coldClaimB
  /-- SPINDLE_BOOT_TIMEOUT (R356): A Spindle not through BOOT within 2 s enters FAILED. -/
  | spindleBootTimeout (d : IoDie)
  /-- CATCHUP_TIMEOUT (R356): A Spindle still in CATCHUP 100 ms after the link is up makes a new attempt, and the third lapse leaves it in FAILED. -/
  | catchupTimeout (d : IoDie)
  /-- MIRROR_REJOIN (R357): A peer whose mirror is current enters STANDBY at the next command boundary. -/
  | mirrorRejoin (d : IoDie)
  /-- IODIE_LOST (R358): The loss of an I/O die loses its Spindle, Distaff, port, queue memory half, Reel ports and station. -/
  | iodieLost (d : IoDie)
  /-- IODIE_RETURN (R358): A returning I/O die re-enumerates its port and its Spindle rejoins through CATCHUP. -/
  | iodieReturn (d : IoDie) (lanes : LinkEnds)
  /-- IOLINK_DOWN (R359): The inter-I/O-die link below 4 lanes ends lockstep and ends an open job. -/
  | iolinkDown
  /-- WATCH_WINDOW_EXPIRY (R368): 30 s after CONFIG_APPLY without a failure, the watch window closes with PASSED. -/
  | watchWindowExpiry
  /-- CONFIG_AUTO_ROLLBACK (R368): A failed health check during the watch window rolls back at once. -/
  | configAutoRollback (code : Nat)
  /-- NVM_WINDOW_OPEN (R399): When both write windows open, non-volatile writes that waited (commit blocks, records, fuses, ageing) are made. -/
  | nvmWindowOpen (tempC : Int) (railMv : Nat)
  /-- FAILED_BOOT (R371): A boot that misses its bound or enters HELD advances FAILED_BOOTS and rolls back on the second failure. -/
  | failedBoot (held : Bool)
  /-- EVENT_FIRE (R375): An event source fires and becomes PENDING, or merges into a pending delivery, at each target in its mask. -/
  | eventFire (src : Source) (code : Nat) (index : Nat) (value : BitVec 64)
  /-- EVENT_DELIVER (R376): The controller delivers the highest eligible pending source to a target and raises its running priority. -/
  | eventDeliver (t : Target)
  /-- LINE_CHANGE (R380): An external sense line's filtered output takes a new level and fires its source. -/
  | lineChange (l : ExtLine) (level : Bool)
  /-- LINE_GLITCH (R380): A pulse shorter than the filter count is rejected and counted. -/
  | lineGlitch (l : ExtLine)
  /-- SUPPLY_ON (R385): The input rises through 48.0 V with PWR_GOOD high, and a cold bring-up begins. -/
  | supplyOn (mv : Nat) (levels : BitVec 25) (b : BringUp)
  /-- SAG_ENTER (R386): The input falls below 47.0 V, or HOLD_N is asserted, and the sag cap applies within 2 µs. -/
  | sagEnter (mv : Nat)
  /-- SAG_EXIT (R386): The input ≥ 48.0 V and HOLD_N released for 100 µs returns the supply to RUN. -/
  | sagExit (mv : Nat)
  /-- UPPER_BAND (R383): The input enters or leaves 57.0 to 60.0 V and OVER changes. -/
  | upperBand (mv : Nat)
  /-- POWER_FAIL (R392): A fall through 43.0 V, PWR_GOOD low or the over-voltage trip halts compute and writes fault records. -/
  | powerFail (cause : FailCause) (samples : List (Nat × Nat))
  /-- HOLDUP_END (R392): The hold-up ends and the I/O die rails fall. -/
  | holdupEnd
  /-- SUPPLY_OFF (R386): The input falls below 40.0 V and the supply returns to OFF. -/
  | supplyOff
  /-- FAIL_RECOVER (R386): The input ≥ 48.0 V for 10 ms in FAIL with PWR_GOOD high restarts with a cold bring-up. -/
  | failRecover (mv : Nat) (b : BringUp)
  /-- POWER_WINDOW (R389): Each 1 µs average of input power above the effective cap raises the throttle level one step. -/
  | powerWindow (watts : Nat) (mv : Nat) (amp10 : Nat)
  /-- POWER_RELAX (R389): Each 100 µs with the average at or below 90 % of the cap lowers the throttle level one step. -/
  | powerRelax (avg : Nat)
  /-- TERMINAL_OVERCURRENT (R461): A terminal above 65 A for 10 µs sets the effective cap to 3,000 W until the sharing is balanced for 1 s. -/
  | terminalOvercurrent (term : Fin 2)
  /-- THERMAL_READING (R395): A temperature reading crosses a warning, throttle or shutdown level. -/
  | thermalReading (w : Watched) (tempC : Nat)
  /-- THERMAL_THROTTLE_STEP (R396): A throttled compute die's thermal level rises each 100 µs or falls each 1 ms once released. -/
  | thermalThrottleStep (d : DieIx)
  /-- THERMAL_SHUTDOWN (R398): A shutdown level halts compute, writes shutdown records, disables lasers and enters HELD. -/
  | thermalShutdown
  /-- RAIL_RAMP_STEP (R409): A rail set-point ramp moves 1 mV per ms. -/
  | railRampStep (d : Fin 8)
  /-- BANDGAP_COMPARE (R402): Every 1 s the I/O dies compare all band-gaps with their median. -/
  | bandgapCompare (uv : List Nat)
  /-- AGEING_SAMPLE (R411): Once per second the ageing monitors are sampled. -/
  | ageingSample (a : AgeRead)
  /-- AGEING_ACCUMULATE (R412): Every 10 s the accumulator and LIFE_S are written to the ageing area. -/
  | ageingAccumulate
  /-- AGEING_SUMMARY (R413): Every hour a summary is written and margins are re-planned. -/
  | ageingSummary
  /-- REGION_RESET (R421): A region enters RESET, is fenced, clears its threads, checks its rings, calibrates its crossings and commits its narrowed set. -/
  | regionReset (r : Region) (x : ResetRead)
  /-- REGION_RESET_TIMEOUT (R101): A region still in RESET after 5 ms puts the module in HELD. -/
  | regionResetTimeout (r : Region)
  /-- CARDING_PAIR (R423): One pair of compute regions is tested as one commit mark of a Carding pass. -/
  | cardingPair (d : Fin 8) (fails : List CardFail) (tail : List CardFail) (x : ResetReads)
  /-- CARDING_THERMAL_STOP (R425): A tested die reaching a throttle level stops its pair. -/
  | cardingThermalStop (d : Fin 8) (x : ResetReads)
  /-- JOB_FAULT (R25): The Spindle pair receives a job-fault report, refuses launches, halts cells and withdraws the job's bobbins. -/
  | jobFault
  /-- JOB_FAULT_DRAIN_END (R25): When module-local traffic has drained, the cause record is written, the event raised and launches completed with FAULT. -/
  | jobFaultDrainEnd
  /-- LAUNCH_START (R108): A waiting launch starts when every region in its mask is READY, clearing tokens and starting threads and schedules. -/
  | launchStart
  /-- LAUNCH_COMPLETE (R108): A launch completes when its threads, descriptors, tiles and schedules have ended. -/
  | launchComplete (n : Nat)
  /-- SCALAR_ALU (R110): Instruction class 0x0 performs a scalar ALU operation. -/
  | scalarAlu (c : Cell) (t : Thread) (i : AluOp)
  /-- SCALAR_MEM (R81): Instruction class 0x1 loads or stores 1 to 8 bytes, leaving the store when the address is remote. -/
  | scalarMem (c : Cell) (t : Thread) (i : MemOp)
  /-- VECTOR_ALU (R111): Instruction class 0x2 performs a vector operation. -/
  | vectorAlu (c : Cell) (t : Thread) (i : VecOp)
  /-- VECTOR_MEM (R81): Instruction class 0x3 loads or stores up to 256 bytes. -/
  | vectorMem (c : Cell) (t : Thread) (i : VMemOp)
  /-- CONVERT (R111): Instruction class 0x4 converts between formats under its ROUND field. -/
  | convert (c : Cell) (t : Thread) (i : CvtOp)
  /-- ARRAY (R77): Instruction class 0x5 issues a tile from an array-program entry, or waits for an array place. -/
  | array (c : Cell) (t : Thread) (rs : Reg) (legal : Bool)
  /-- SYNC_SIGNAL (R118): A SYNC signal adds 1 to 255 to a token. -/
  | syncSignal (c : Cell) (t : Thread) (token : Nat) (n : Nat)
  /-- SYNC_WAIT (R118): A consuming SYNC wait holds the thread until the token reaches n, then subtracts n. -/
  | syncWait (c : Cell) (t : Thread) (token : Nat) (n : Nat)
  /-- SYNC_PEEK (R118): A peeking SYNC wait holds the thread until the token reaches n, subtracting nothing. -/
  | syncPeek (c : Cell) (t : Thread) (token : Nat) (n : Nat)
  /-- SYNC_FENCE (R113): The SYNC form FENCE holds the thread until all its posted accesses are acknowledged. -/
  | syncFence (c : Cell) (t : Thread)
  /-- SYNC_ARRIVE (R119): A thread arrives at a barrier, with or without waiting. -/
  | syncArrive (c : Cell) (t : Thread) (barrier : Nat) (wait : Bool)
  /-- MODULE_BARRIER_RELEASE (R119): A module-scope barrier releases when every region in the launch mask has reached its count. -/
  | moduleBarrierRelease (n : Nat) (barrier : Nat)
  /-- BARRIER_TIMEOUT (R119): A barrier generation not released within BARRIER_TIMEOUT ends the job. -/
  | barrierTimeout (r : Region) (barrier : Nat)
  /-- DESC (R89): Instruction class 0x7 posts a stream-engine descriptor to the cell queue. -/
  | desc (c : Cell) (t : Thread) (ref : DescRef) (legal : Bool)
  /-- ATOMIC (R110): Instruction class 0x8 issues an 8- or 16-byte atomic. -/
  | atomic (c : Cell) (t : Thread) (i : AtomOp)
  /-- BRANCH (R110): Instruction class 0x9 branches. -/
  | branch (c : Cell) (t : Thread) (i : BrOp)
  /-- SPECIAL (R110): Instruction class 0xA reads Lea time, cell identity or tile sequence. -/
  | special (c : Cell) (t : Thread) (rd : Reg) (what : SpecialRead) (legal : Bool)
  /-- END (R110): The END instruction frees the thread. -/
  | endThread (c : Cell) (t : Thread)
  /-- THREAD_QUANTUM (R82): A thread that has issued for 64 consecutive beats gives up its turn if another is READY. -/
  | threadQuantum (c : Cell)
  /-- SLOT_GRANT (R88): A released stream-engine slot is given to a waiting thread request or a head descriptor. -/
  | slotGrant (b : Block)
  /-- MEMORY_REPLY (R75): A reply or acknowledgement arrives for a tracker slot, writing data and freeing the slot or being discarded as stale. -/
  | memoryReply (tag : BitVec 16) (gen : BitVec 10) (status : Nat) (poison : Bool) (data : List Byte)
  /-- SE_TIMEOUT (R93): A request unanswered within its timeout stamps SE_TIMEOUT. -/
  | seTimeout (tag : BitVec 16)
  /-- COPY (R90): Descriptor operation 0x01 starts and copies rows. -/
  | copy (c : Cell)
  /-- GATHER (R90): Descriptor operation 0x02 starts and gathers rows by an index list. -/
  | gather (c : Cell)
  /-- SCATTER (R90): Descriptor operation 0x03 starts and scatters rows by an index list. -/
  | scatter (c : Cell)
  /-- FILL (R90): Descriptor operation 0x04 starts and writes a pattern over rows. -/
  | fill (c : Cell)
  /-- RAW_TX (R178): Descriptor operation 0x05 starts and sends rows as a raw stream on a phase bobbin. -/
  | rawTx (c : Cell)
  /-- RAW_RX (R179): Descriptor operation 0x06 starts and receives a raw stream into rows. -/
  | rawRx (c : Cell)
  /-- RING_REDUCE (R136): Descriptor operation 0x07 starts and joins the block to a reduction group. -/
  | ringReduce (c : Cell)
  /-- PLY_TX (R225): Descriptor operation 0x08 starts as a member or sink of a ply group. -/
  | plyTx (c : Cell)
  /-- DESCRIPTOR_COMPLETE (R93): A descriptor completes when all its requests are answered, and signals its token. -/
  | descriptorComplete (c : Cell) (n : Nat)
  /-- TILE_ISSUE (R76): A queued tile enters execution in the array. -/
  | tileIssue (c : Cell)
  /-- TEASEL_COMPARE (R56): A tile's Teasel and twin comparisons complete and its outputs are released or discarded. -/
  | teaselCompare (c : Cell) (upset : TileUpset)
  /-- REPLAY_ISSUE (R60): A replayed tile reloads its weights and re-executes on the same cell. -/
  | replayIssue (c : Cell)
  /-- ENTROPY_HEALTH_FAIL (R49): An entropy source fails its health test, switching to the other or ending the job. -/
  | entropyHealthFail (r : Region)
  /-- SRAM_READ_ERROR (R96): An SRAM read finds a corrected or uncorrectable word, returning corrected data or poisoning it. -/
  | sramReadError (word : Nat) (bits : Nat) (consumer : Consumer)
  /-- SRAM_CE_WRITEBACK (R95): The corrected word is written back within 16 beats unless a port has written it. -/
  | sramCeWriteback (word : Nat)
  /-- SRAM_SCRUB (R97): Patrol scrub reads an SRAM word and corrects it or marks it poisoned. -/
  | sramScrub (word : Nat) (bits : Nat)
  /-- SE_PARITY (R96): A parity error in a descriptor queue or slot table freezes the engine. -/
  | seParity (b : Block)
  /-- SCHED_END (R121): A schedule entry END ends the block's schedule. -/
  | schedEnd (b : Block)
  /-- SCHED_ISSUE_TILE (R121): A schedule entry ISSUE_TILE issues an array-program entry to a cell. -/
  | schedIssueTile (b : Block)
  /-- SCHED_POST_DESC (R121): A schedule entry POST_DESC posts a descriptor. -/
  | schedPostDesc (b : Block)
  /-- SCHED_SIGNAL (R121): A schedule entry SIGNAL signals a token. -/
  | schedSignal (b : Block)
  /-- SCHED_ARRIVE (R121): A schedule entry ARRIVE arrives at a barrier. -/
  | schedArrive (b : Block)
  /-- SCHED_START_THREAD (R121): A schedule entry START_THREAD makes a thread READY. -/
  | schedStartThread (b : Block)
  /-- PHASE_READY (R123): A schedule entry PHASE_READY tells the Creel the block is ready for a phase. -/
  | phaseReady (b : Block)
  /-- RING_FLIT_ARRIVAL (R132): A core-ring flit reaches its destination station and is ejected into its buffer. -/
  | ringFlitArrival (r : Region) (f : Flit) (err : RingErr)
  /-- RING_CREDIT_RETURN (R132): A credit returned in a slot's CR fields reaches its sender. -/
  | ringCreditReturn (r : Region) (k : CreditKey)
  /-- RING_RSV (R133): A head flit that waited 16 beats with a credit reserves the next unmarked slot. -/
  | ringRsv (r : Region) (stn : Fin 16) (ring : Fin 4) (cw : Bool)
  /-- CONTROL_MESSAGE (R131): A VC0 control message (signal, arrive, release, event) reaches its station. -/
  | controlMessage (r : Region) (m : CtrlMsg) (parityOk : Bool)
  /-- RED_FLIT_ADD (R137): A reduction flit reaches a contributor and is added in the hop, captured, or finalised at the destination. -/
  | redFlitAdd (r : Region) (stn : Fin 16) (f : Flit) (err : RingErr)
  /-- RED_TIMEOUT (R141): A reduction group not complete 100 µs after starting stamps RED_TIMEOUT. -/
  | redTimeout (b : Block) (group : Nat)
  /-- DROOP_CHANGE (R148): The rail droop crosses a step and the beat length changes. -/
  | droopChange (r : Region) (mv : Nat)
  /-- DROOP_RELEASE (R148): After 8 periods below 20 mV droop, beats return to one period. -/
  | droopRelease (r : Region)
  /-- GATE_HOLD (R145): A late handshake stage holds the beat edge. -/
  | gateHold (r : Region) (periods : Nat) (ps : Nat)
  /-- PHASE_CHECK (R153): A Forwarded burst slips beyond ±2 periods; credits are withheld and DET_OK clears. -/
  | phaseCheck (x : Crossing) (m : PhaseRead)
  /-- CROSSING_RECENTRE (R153): A crossing whose buffer was empty for a beat ends the burst and re-centres. -/
  | crossingRecentre (x : Crossing)
  /-- SEAM_MODE_SWITCH (R155): The seam switches to Queued before a set-point difference or returns after settling and recalibration. -/
  | seamModeSwitch (d : Fin 8) (rt : Option Nat)
  /-- REF_ABSENT (R156): No reference edge for 100 ns puts the PLLs in holdover. -/
  | refAbsent
  /-- REF_RETURN (R156): The reference returns and the PLLs relock. -/
  | refReturn
  /-- REF_LOST (R156): The reference still absent after 1 ms ends the job with REF_LOST. -/
  | refLost
  /-- PLL_UNLOCK (R156): A PLL unlocks with the reference present, ending the job and relocking up to 3 times. -/
  | pllUnlock (d : DieIx) (relocked : Bool)
  /-- LEA_COMPARE (R158): Every 1 ms X0 compares the Lea copies and slews any that differ. -/
  | leaCompare (m : LeaRead)
  /-- TIME_REQ (R308): The module sends a TIME_REQ to the time master once per ms. -/
  | timeReq
  /-- TIME_RESP (R308): A TIME_RESP arrives and the offset slews Lea. -/
  | timeResp (src : BitVec 16) (t1 : BitVec 64) (t2 : BitVec 64) (t3 : BitVec 64) (t4 : BitVec 64) (corr : Int)
  /-- FRAME_RECEIVE (R171): A drop ring receives a 544-bit frame and decodes, aligns or loses SYNC. -/
  | frameReceive (id : BitVec 32) (stn : Stn) (f : BitVec 544)
  /-- HUNT_TIMEOUT (R171): 64 frames in HUNT with light granted send a DARK notice. -/
  | huntTimeout (id : BitVec 32) (stn : Stn)
  /-- PACKET_RECEIVE (R175): A destination station applies or discards a whole Skein packet. -/
  | packetReceive (id : BitVec 32) (stn : Stn) (p : SPkt) (ok : Bool)
  /-- NAK (R177): A NAK notice reaches a source, which reissues the named packets. -/
  | nak (id : BitVec 32) (lo : BitVec 5) (hi : BitVec 5)
  /-- DARK (R186): A DARK notice reaches a source, which sends IDLE frames, reissues packets and checks identities. -/
  | dark (id : BitVec 32) (last : BitVec 5)
  /-- SYNC_NOTICE (R186): A SYNC notice resumes packets on a bobbin. -/
  | syncNotice (id : BitVec 32)
  /-- DARK_BOBBIN_TIMEOUT (R186): A bobbin still dark 2 ms after its DARK notice is withdrawn. -/
  | darkBobbinTimeout (id : BitVec 32)
  /-- RAW_CHECK_ACK (R196): A drop's acknowledgement notice of a check frame reaches the RAW_TX source. -/
  | rawCheckAck (id : BitVec 32) (stn : Stn) (final : Bool)
  /-- SKEIN_HEALTH_WINDOW (R173): Every 10 ms each loop's error estimate sets ADVISORY, marks rings FAULTY or withdraws the loop. -/
  | skeinHealthWindow (n : Loop) (rings : List RingBer) (ue : Nat)
  /-- IDENTITY_WINDOW (R181): A 100 µs pilot window checks a ring's line identity and mutes it on failure. -/
  | identityWindow (i : RingIx) (pilot : Option Line)
  /-- RESONANCE_HELD (R183): A LOCKING ring holds resonance and enters VERIFY. -/
  | resonanceHeld (i : RingIx)
  /-- LOCK_TIMEOUT (R183): A ring that does not lock within 1.8 ms fails its attempt. -/
  | lockTimeout (i : RingIx)
  /-- RING_MUTE_DONE (R183): A MUTED ring is detuned and enters RELOCK. -/
  | ringMuteDone (i : RingIx)
  /-- DEMAND_REQUEST (R192): A backlog above 64 KiB for 2 µs requests a DEMAND bobbin. -/
  | demandRequest (src : Stn) (dst : Stn)
  /-- DEMAND_IDLE_RELEASE (R190): A DEMAND bobbin idle for 100 µs is released. -/
  | demandIdleRelease (id : BitVec 32)
  /-- PHASE_DECISION (R206): At S_p − 1,000 ns the Creel arms the switch or defers the phase one slot. -/
  | phaseDecision
  /-- PHASE_BARRIER_TRIGGER (R206): A module barrier release reaches the Creel and starts a BARRIER phase switch. -/
  | phaseBarrierTrigger (barrier : Nat)
  /-- PHASE_SWITCH (R207): A phase switch parks and unparks rings, confirms lock, commits and signals its token. -/
  | phaseSwitch (failed : List (BitVec 32 × Nat)) (ns : Nat) (ply : List (PlyIx × PlyMeas))
  /-- RING_RETUNE_DONE (R204): A lock engine finishes retuning a STREAMED table's ring for a later phase. -/
  | ringRetuneDone (i : RingIx)
  /-- PLY_GROUP_START (R226): When sink and all members are READY, the sink sends GO, or stamps PLY_MISMATCH. -/
  | plyGroupStart (p : PlyIx)
  /-- PLY_TIMEOUT (R226): A ply group not started 100 µs after its first descriptor stamps PLY_TIMEOUT. -/
  | plyTimeout (p : PlyIx)
  /-- PLY_WINDOW (R221): Each window of 4,096 proof slots predicts the error, narrows the split and sends trims. -/
  | plyWindow (p : PlyIx) (w : PlyMeas)
  /-- PLY_PROOF_MISS (R221): A proof slot read as the wrong count narrows the port at once. -/
  | plyProofMiss (m : ProofRead)
  /-- PLY_RESIDUE_CHECK (R222): A member's residue packet arrives and each block is accepted or sent for recomputation. -/
  | plyResidueCheck (p : PlyIx) (codes : List Nat)
  /-- PLY_REDO (R224): A member receives REDO and sends the block's values as a WRITE packet for exact summing. -/
  | plyRedo (p : PlyIx) (m : Fin 16)
  /-- PLY_UNDERRUN (R224): An UNDERRUN notice makes the sink recompute the block. -/
  | plyUnderrun (p : PlyIx) (m : Fin 16)
  /-- PLY_CONFIRM (R224): A CONFIRM reaches a member and its PLY_TX may complete. -/
  | plyConfirm (p : PlyIx) (m : Fin 16)
  /-- PLY_TRAIN_DONE (R228): A port in TRAIN finishes and enters READY or DIGITAL. -/
  | plyTrainDone (p : PlyIx) (w : PlyMeas)
  /-- PLY_TRAIN_TIMEOUT (R228): TRAIN beyond 50 µs puts the port in DIGITAL with TRAIN_FAIL. -/
  | plyTrainTimeout (p : PlyIx)
  /-- PLY_CHECK_TIMEOUT (R228): CHECK beyond 1.4 µs sends the port to TRAIN. -/
  | plyCheckTimeout (p : PlyIx)
  /-- PLY_LOST (R229): A lost member ends the running ply group and faults the port. -/
  | plyLost (p : PlyIx) (m : Fin 16)
  /-- LIGHT_WINDOW (R237): Each tap-detector window judges every loop's level against the fade thresholds. -/
  | lightWindow (n : Loop) (w : LightMeas)
  /-- LIGHT_LOST (R242): A lost source withdraws its loops and moves its group to TRANSFER or DARK. -/
  | lightLost (what : LightWhat)
  /-- SOURCE_READY (R238): The target source of an ARMING group becomes READY and lit. -/
  | sourceReady (g : Group)
  /-- ARMING_TIMEOUT (R238): An ARMING group not ready in 5 ms marks the source FAULT and returns. -/
  | armingTimeout (g : Group)
  /-- PAUSE_OPEN (R240): A pause opens at a gap and moves the group's selectors to the new source. -/
  | pauseOpen (g : Group) (o : PauseRead) (ns : Nat)
  /-- HANDOVER_WAIT_LAPSE (R239): HANDOVER_WAIT lapses and a forced hand-over opens. -/
  | handoverWaitLapse (g : Group) (o : PauseRead) (ns : Nat)
  /-- LIGHT_TRANSFER (R238): An unpaused transfer moves the group's selectors at once. -/
  | lightTransfer (g : Group)
  /-- CAGE_POLL (R245): Every 10 ms the module polls a cage over its management bus. -/
  | cagePoll (k : Cage) (r : Option CageRead)
  /-- HBM_READ (R250): The home die reads a line, checks its code and replies. -/
  | hbmRead (pa : Nat) (errs : Nat) (tag : BitVec 16) (gen : BitVec 10) (who : HbmWho)
  /-- HBM_WRITE (R249): The home die writes a line with its code in arrival order. -/
  | hbmWrite (pa : Nat) (data : List Byte) (errs : Nat) (poison : Bool)
  /-- HBM_ATOMIC (R254): The home die's atomic engine applies an atomic and journals its reply. -/
  | hbmAtomic (pa : Nat) (aop : BitVec 4) (size : Nat) (opnd : BitVec 128) (cmp : BitVec 128) (tag : BitVec 16) (gen : BitVec 10) (errs : Nat)
  /-- HBM_CE_WRITEBACK (R250): A corrected line is written back within 1 µs in its arrival order. -/
  | hbmCeWriteback (line : Nat)
  /-- HBM_SCRUB (R250): Patrol scrub reads a line and corrects or poisons it. -/
  | hbmScrub (line : Nat) (errs : Nat)
  /-- HBM_LINK (R247): A command and address parity error reissues the command, and the fourth stamps HBM_LINK. -/
  | hbmLink (s : Stack)
  /-- STACK_TEMP_READ (R260): A stack temperature read every 1 ms sets refresh interval and throttle. -/
  | stackTempRead (s : Stack) (tempC : Nat) (skeinC : Nat)
  /-- HOT_SLOT_FREE (R257): A hot-line slot idle for 1 µs writes its line back and is freed. -/
  | hotSlotFree (line : Nat)
  /-- JOURNAL_EXPIRE (R256): A reply-journal entry is dropped at the end of its keep time. -/
  | journalExpire (k : Fin 8)
  /-- STACK_TRAIN_DONE (R262): A stack finishes training and enters READY or REPAIR, or times out to FAILED. -/
  | stackTrainDone (s : Stack) (r : TrainOutcome)
  /-- REEL_READ (R269): A Reel READ arrives at the home, is checked and answered. -/
  | reelRead (p : RPort) (k : Pkt) (errs : Nat)
  /-- REEL_WRITE (R271): A Reel WRITE arrives at the home, is admitted and acknowledged. -/
  | reelWrite (p : RPort) (k : Pkt)
  /-- REEL_ATOMIC (R276): A Reel ATOMIC arrives, is checked against the journal and applied or replayed. -/
  | reelAtomic (p : RPort) (k : Pkt) (errs : Nat)
  /-- INVALIDATE (R279): An INVALIDATE arrives at a sharer, which drops cached lines and answers INV_ACK. -/
  | invalidate (p : RPort) (k : Pkt)
  /-- MCAST_WRITE (R286): A MCAST_WRITE arrives at a member and is answered MCAST_ACK. -/
  | mcastWrite (p : RPort) (k : Pkt)
  /-- BULK_WRITE (R282): A gathered BULK_WRITE arrives at the home and its lines are applied. -/
  | bulkWrite (p : RPort) (k : Pkt)
  /-- BULK_READ (R283): A BULK_READ arrives at the home and is answered BULK_DATA. -/
  | bulkRead (p : RPort) (k : Pkt)
  /-- READ_RESP (R271): A READ_RESP reaches the requester and may fill the remote-line cache. -/
  | readResp (p : RPort) (k : Pkt)
  /-- WRITE_ACK (R271): A WRITE_ACK completes a write slot. -/
  | writeAck (p : RPort) (k : Pkt)
  /-- ATOMIC_RESP (R275): An ATOMIC_RESP completes an atomic, or is discarded as a duplicate. -/
  | atomicResp (p : RPort) (k : Pkt)
  /-- INV_ACK (R279): An INV_ACK counts a sharer as acknowledged. -/
  | invAck (p : RPort) (k : Pkt)
  /-- MCAST_ACK (R286): An MCAST_ACK records OK or DROPPED for a branch. -/
  | mcastAck (p : RPort) (k : Pkt)
  /-- BULK_DATA (R283): BULK_DATA reaches a gateway, which answers its collected READs. -/
  | bulkData (p : RPort) (k : Pkt)
  /-- BULK_ACK (R282): A BULK_ACK lets the gateway send the gathered writes' acknowledgements. -/
  | bulkAck (p : RPort) (k : Pkt)
  /-- REEL_RETRY_RESEND (R274): After a RETRY hint and random draw, the requester resends. -/
  | reelRetryResend (tag : BitVec 16)
  /-- REEL_TIMEOUT (R274): A Reel read or write timeout lapses, stamping SE_TIMEOUT or REEL_STARVED. -/
  | reelTimeout (what : ReelTimeoutWhat)
  /-- ATOMIC_TRY (R275): An atomic unanswered for 20 µs is sent again as a new try. -/
  | atomicTry (tag : BitVec 16)
  /-- OUTCOME_UNKNOWN (R277): An atomic with no reply after its last try ends as OUTCOME_UNKNOWN or REEL_STARVED. -/
  | outcomeUnknown (tag : BitVec 16)
  /-- GATHER_FLUSH (R282): A gateway gather window flushes as BULK_WRITE packets when full, idle for 2 µs, hit or evicted. -/
  | gatherFlush (p : RPort) (window : Nat)
  /-- STAGED_FETCH (R283): After collecting READs for 0.5 µs the gateway sends one BULK_READ. -/
  | stagedFetch (p : RPort) (piece : Nat)
  /-- MCAST_BRANCH_DROP (R286): A branch held 20 µs without multicast credit is dropped. -/
  | mcastBranchDrop (tag : BitVec 16) (member : Nat)
  /-- LINES_HELD_END (R302): 100 µs after re-injection the held lines may be written again. -/
  | linesHeldEnd (p : RPort)
  /-- LINK_FLIT (R292): A link flit is received, acknowledged or refused with NAK, and its packets delivered. -/
  | linkFlit (p : RPort) (f : LFlit) (crcOk : Bool)
  /-- LANE_FAIL (R290): A lane fails and the port enters NARROW to retrain narrower. -/
  | laneFail (p : RPort) (lane : Fin 8)
  /-- NARROW_DONE (R294): A NARROW port retrains and returns UP, or times out to DOWN. -/
  | narrowDone (p : RPort) (ok : Bool)
  /-- PORT_DOWN (R293): A cause of R293 takes a port DOWN and its packets are re-injected. -/
  | portDown (p : RPort) (cause : Nat)
  /-- CREDIT_TIMEOUT (R293): A VC with waiting packets and no partner credit for CREDIT_TIMEOUT takes the port DOWN. -/
  | creditTimeout (p : RPort) (v : Vc)
  /-- ACK_TIMEOUT (R293): DATA flits unacknowledged for 10 µs take the port DOWN. -/
  | ackTimeout (p : RPort)
  /-- SEEK_BURST (R294): Every 1 ms a SEEK port sends a wake burst and listens. -/
  | seekBurst (p : RPort)
  /-- PARTNER_SIGNAL (R294): A partner signal on any lane moves a SEEK port to TRAIN. -/
  | partnerSignal (p : RPort)
  /-- TRAIN_DONE (R294): A training port agrees a width and enters PROVE, or times out to SEEK. -/
  | trainDone (p : RPort) (lanes : Option (BitVec 8)) (rtt : Nat)
  /-- PROVE_TIMEOUT (R294): A proof not passed in 10 ms moves the port to QUARANTINE. -/
  | proveTimeout (p : RPort)
  /-- QUARANTINE_RETRY (R294): Every 1 s a quarantined port repeats the link proof. -/
  | quarantineRetry (p : RPort)
  /-- DOWN_HOLD_END (R294): 100 ms after DOWN the port returns to SEEK unless it flaps. -/
  | downHoldEnd (p : RPort)
  /-- LINK_CHALLENGE (R295): A LINK_CHALLENGE arrives and is answered with LINK_RESPONSE. -/
  | linkChallenge (p : RPort) (nonce : BitVec 256) (challenger : BitVec 16)
  /-- LINK_RESPONSE (R295): A LINK_RESPONSE arrives and is checked against the trust list. -/
  | linkResponse (p : RPort) (node : BitVec 16) (port : Nat) (key : BitVec 256) (sigOk : Bool)
  /-- LINK_VERDICT (R295): A LINK_VERDICT arrives and decides the port's entry to UP. -/
  | linkVerdict (p : RPort) (accepted : Bool)
  /-- CMAP_REQ (R307): A CMAP_REQ is answered with congestion samples. -/
  | cmapReq (p : RPort) (src : BitVec 16) (first : Nat) (count : Nat)
  /-- PORT_REQ (R307): A PORT_REQ is answered with REEL.PORT of all ports. -/
  | portReq (p : RPort) (src : BitVec 16)
  /-- CMAP_SAMPLE (R309): Every 10 µs the module samples the egress congestion map. -/
  | cmapSample
  /-- DRAIN_TIMEOUT (R305): A drain not finished in 50 µs discards queued requests and proceeds. -/
  | drainTimeout
  /-- CAGE_MODULE_CHANGE (R294): A Reel cage module is inserted or removed. -/
  | cageModuleChange (p : RPort) (present : Bool)
  /-- TELEMETRY_SAMPLE (R453): At each period multiple a telemetry sample is written to its buffer, or skipped. -/
  | telemetrySample (st : Nat) (late : Bool)
  /-- RECOVERY_IMAGE (R437): An image received by PLDM firmware update in recovery is written to slot 0 and booted. -/
  | recoveryImage (d : IoDie) (fw : FwRead)
  /-- SMBUS_REQUEST (R445): A board management request over MCTP is answered read-only. -/
  | smbusRequest (d : IoDie) (q : BmcReq)
  /-- SPINDLE_BOOT_DONE (R356): A Spindle in BOOT passes its boot chain and self-check and enters ACTIVE by taking the claim, or CATCHUP when the peer holds it. -/
  | spindleBootDone (d : IoDie) (digestOk : Bool)
  /-- SPINDLE_RESET_TIMEOUT (R417): A level 1 or 2 MODULE_RESET whose named Spindle has not reached STANDBY 2.2 s after the start completes with TIMEOUT. -/
  | spindleResetTimeout
  /-- IOLINK_UP (R359): The inter-I/O-die link trains to 4 lanes or more, so the CATCHUP Spindle can receive the mirror and lockstep can resume. -/
  | iolinkUp (lanes : LinkEnds)
  /-- STACK_REPAIR_DONE (R262): A stack in REPAIR finishes applying its row and lane repairs and returns to TRAIN, or enters FAILED when spares are exhausted or 2 s pass. -/
  | stackRepairDone (s : Stack) (ok : Bool) (rows : List Nat) (lanes : Nat)
  /-- DEADLINE_EXPIRY (R337): A command that waits after being taken, such as a LAUNCH, and can no longer start by its DEADLINE completes with LATE and stops holding back the commands behind it. -/
  | deadlineExpiry (q : Queue) (seq : BitVec 32)
  /-- KEY_ROTATION_END (R442): 250 µs after a REEL_KEY_ROTATE is accepted, the home stops admitting the old key and the command completes, returning the old key. -/
  | keyRotationEnd
  /-- HOST_LINK_UP (R330): A host port's PCI Express link comes back up, PORT_A_UP or PORT_B_UP is set, and the host may recreate its queues. -/
  | hostLinkUp (p : Port)
  /-- DATA_MOVE_COMPLETE (R328): A data-mover transfer finishes moving its bytes and the I/O die writes its completion with status and bytes moved. -/
  | dataMoveComplete (q : Queue) (seq : BitVec 32)
  /-- TERMINAL_CAP_RELEASE (R461): After both power terminals have shared current within 40 % to 60 % for 1 s, the 3,000 W cap set by a terminal overcurrent is lifted. -/
  | terminalCapRelease
  /-- PLY_GO (R226): A GO notice reaches a ply member, which starts sending its staged blocks at the named start slot. -/
  | plyGo (p : PlyIx) (m : Fin 16) (slot : Nat)
  /-- TIME_REQ_ANSWER (R308): A TIME_REQ arrives from another node and the module, as time master or otherwise, stamps it and answers with TIME_RESP without aligning itself. -/
  | timeReqAnswer (p : RPort) (src : BitVec 16) (t1 : BitVec 64) (t2 : BitVec 64) (t3 : BitVec 64)
deriving DecidableEq, Repr

end Sys2Proof
end

