-- ==== Sys2Proof/Decode.lean ====
section
/-! DEFINITION. Commands spelled by words. The opcode table gives no row any bits: an entry of a command queue is read by
the Distaffs (Machine/Queues.lean) and by the fields of `Cmd`. -/

namespace Sys2Proof

/-- The command that a word of the opcode table spells: no row of the table gives bits. -/
def decodeTableWord (_nbits _w : Nat) : Option Instr := none

end Sys2Proof
end

