-- ==== Sys2Proof/Config.lean ====
section
/-! DEFINITION. The free values: results and choices the manual leaves open. Each is an opaque constant with no
body, so no proof can lean on what it is. A value that may differ at every use is applied to the counter
`State.free`, which every use advances (DESIGN CHOICE, log 1). -/

namespace Sys2Proof.Config

/-- A fresh 64-bit value, by the state's counter (DESIGN CHOICE, log 1). -/
opaque word : Nat → BitVec 64

/-- Draws of the entropy sources under SR_ENTROPY (R49): counter, conversion point, step, index. -/
opaque entropy : Nat → Nat → Nat → Nat → BitVec 16

/-- FP4 code of a NaN (0), +infinity (1) or -infinity (2) converted without a block scale, whose result R51
states only for a block scale (DESIGN CHOICE, log 20). -/
opaque unscaledFp4 : Nat → BitVec 4

/-- CODE of event 0x3F2 that names a signature check, by the opcode of the command or 0 for a LINK_RESPONSE: R432
says that the check is named and not how (DESIGN CHOICE, log 22). -/
opaque sigCheckCode : Nat → BitVec 32

/-- Where a thread's address outside its own store leads: HBM (true) or SRAM, and the address there. The layout of
the thread's local space beyond its own store is delivered with the tool kit (DESIGN CHOICE, log 26). -/
opaque threadPlace : Word → Bool × Nat

/-- Where a thread's ATOMIC address that leads onto the fabric goes: node, handle, key and offset there; none when it
stays in the module (DESIGN CHOICE, log 26). -/
opaque threadReel : Word → Option (BitVec 16 × BitVec 16 × BitVec 32 × Nat)

/-- Is the SWAP of an ATOMIC packet one of 16 bytes? The packet carries no size (R265; DESIGN CHOICE, log 45). -/
opaque reelSwapWide : Bool

/-- Eight-byte words of the identity key and signature of a LINK_RESPONSE (0-11), by nonce and challenger, and, with nonce
and challenger 0, of the device's certificate, digests and signatures in a report (DESIGN CHOICE, log 47). -/
opaque identity : BitVec 256 → BitVec 16 → Nat → BitVec 64

/-- SHA-512 of the firmware image of a version, eight words: the model holds no firmware bytes (R440; DESIGN CHOICE, log 47). -/
opaque fwDigest : BitVec 32 → Nat → BitVec 64

/-- Length and bytes of the image of the version that leaves the factory: the profile bodies are laid out by the tool kit
(R361, R364; DESIGN CHOICE, log 60). -/
opaque factoryBytes : Nat
opaque factoryImage : Nat → BitVec 8

/-- FORMAT of the calibration snapshots of a firmware version, and the bytes of their domain bodies (R406; DESIGN CHOICE, log 61). -/
opaque calFormat : BitVec 32 → BitVec 16
opaque calBodies : BitVec 32 → Nat

/-- FORMAT and body of the factory record of a domain, as shipped: the manual lists neither (R403; DESIGN CHOICE, log 145). -/
opaque factoryFormat : Nat → BitVec 16
opaque factoryBody : Nat → List (BitVec 8)

/-- The line of the Creel's initial map that a ring is locked to at bring-up, when no rule places a bobbin on it
(DESIGN CHOICE, log 30): station, loop, ring. -/
opaque initialLine : Nat → Nat → Nat → Nat

/-- Result of a SCALAR_ALU operation on two operands: the list of operations is delivered with the tool kit
(R110; DESIGN CHOICE, log 23). -/
opaque scalarAlu : BitVec 8 → Word → Word → Word

/-- Condition state after a SCALAR_ALU operation (DESIGN CHOICE, log 23). -/
opaque scalarCond : BitVec 8 → Word → Word → Word → Word

/-- Result of a VECTOR_ALU operation: operation, element type, sources, lane mask, old destination (DESIGN CHOICE, log 23). -/
opaque vectorAlu : BitVec 8 → BitVec 4 → List (BitVec 2048) → BitVec 2048 → BitVec 2048 → BitVec 2048

/-- Arithmetic of a VECTOR_ALU operation code: 1 fused multiply-add, 2 sum, 3 difference, 4 product, any other number an
operation that is none of these (DESIGN CHOICE, log 23). -/
opaque vectorArith : BitVec 8 → Nat

/-- Element type of a VECTOR_ALU instruction: FP32 (false), BF16 (true), or another one (DESIGN CHOICE, log 23). -/
opaque vectorType : BitVec 4 → Option Bool

/-- Does a lane mask register select a lane (DESIGN CHOICE, log 23)? -/
opaque laneOn : BitVec 2048 → Nat → Bool

/-- Linear index in its tensor of element `ix`, row-major in the tile, of the tile of a cell whose array-program entry lies at
an address: the entry says where the outputs go and not which part of the tensor they are (R50, R105; DESIGN CHOICE,
log 127). -/
opaque tensorIndex : Nat → Nat → Nat → Nat

/-- Check bits of a 64-bit word of ring DATA: the spec asks for SECDED with 8 of them and names no code (R128; DESIGN CHOICE,
log 134). -/
opaque secded : BitVec 64 → BitVec 8

/-- Does the code of a cached remote line show an uncorrectable error as the line is read, by the counter (R258; DESIGN CHOICE,
log 158)? -/
opaque lineLost : Nat → Bool

/-- Is a BRANCH taken: condition field, condition state (DESIGN CHOICE, log 23)? -/
opaque branchTaken : BitVec 8 → Word → Bool

end Sys2Proof.Config
end

