-- ==== Sys2Proof/Machine/Tab.lean ====
section
/-! DEFINITION. Sparse tables in one canonical form: keys strictly rising, no entry equal to the default. -/

namespace Sys2Proof

/-- The value of unit `n`: what the table lists, and the default `d` where it lists nothing. -/
def Tab.get {α : Type} : Tab α → α → Nat → α
  | [], d, _ => d
  | (k, v) :: t, d, n => if n = k then v else if n < k then d else Tab.get t d n

/-- Give unit `n` the value `v`. Setting the default removes the entry, so equal contents are equal data. -/
def Tab.set {α : Type} [DecidableEq α] : Tab α → α → Nat → α → Tab α
  | [], d, n, v => if v = d then [] else [(n, v)]
  | (k, w) :: t, d, n, v =>
    if n < k then (if v = d then (k, w) :: t else (n, v) :: (k, w) :: t)
    else if n = k then (if v = d then t else (n, v) :: t)
    else (k, w) :: Tab.set t d n v

/-- Change unit `n` by `f`. -/
def Tab.mod {α : Type} [DecidableEq α] (t : Tab α) (d : α) (n : Nat) (f : α → α) : Tab α :=
  t.set d n (f (t.get d n))

/-- Keys above `lo` and strictly rising, no value equal to the default. -/
def Tab.wfFrom {α : Type} [DecidableEq α] (d : α) : Option Nat → Tab α → Bool
  | _, [] => true
  | lo, (k, v) :: t => (match lo with | none => true | some l => decide (l < k)) && decide (v ≠ d) && Tab.wfFrom d (some k) t

/-- The canonical form. -/
def Tab.wf {α : Type} [DecidableEq α] (t : Tab α) (d : α) : Bool := Tab.wfFrom d none t

/-- Write consecutive values from unit `n` up. -/
def Tab.setAll {α : Type} [DecidableEq α] (t : Tab α) (d : α) (n : Nat) : List α → Tab α
  | [] => t
  | v :: vs => Tab.setAll (t.set d n v) d (n + 1) vs

/-- Read `len` consecutive values from unit `n` up. -/
def Tab.getAll {α : Type} (t : Tab α) (d : α) (n len : Nat) : List α :=
  (List.range len).map fun i => t.get d (n + i)

/-- Set every unit below `m` and at or above `n` to the default. -/
def Tab.clear {α : Type} (t : Tab α) (n m : Nat) : Tab α := t.filter fun e => e.1 < n || m ≤ e.1

/-- One of two, by port, I/O die or slot. -/
def Two.get {α : Type} (t : Two α) (i : Fin 2) : α := if i = 0 then t.a else t.b

/-- Replace one of two. -/
def Two.set {α : Type} (t : Two α) (i : Fin 2) (v : α) : Two α := if i = 0 then { t with a := v } else { t with b := v }

/-- Change one of two. -/
def Two.mod {α : Type} (t : Two α) (i : Fin 2) (f : α → α) : Two α := t.set i (f (t.get i))

/-- The other of two. -/
def other (i : Fin 2) : Fin 2 := if i = 0 then 1 else 0

/-- A bit of a number. -/
def bit (n i : Nat) : Bool := n / 2 ^ i % 2 = 1

/-- A list of truth values as a number, the first at bit 0. -/
def bitsOf : List Bool → Nat
  | [] => 0
  | b :: bs => (if b then 1 else 0) + 2 * bitsOf bs

/-- The numbers below `w` at which `n` has a 1. -/
def onesOf (w n : Nat) : List Nat := (List.range w).filter fun i => bit n i

/-- Little-endian value of a list of bytes (R5). -/
def leNat : List Byte → Nat
  | [] => 0
  | b :: bs => b.toNat + 256 * leNat bs

/-- The `n` little-endian bytes of `v` (R5). -/
def leBytes (n v : Nat) : List Byte := (List.range n).map fun i => BitVec.ofNat 8 (v / 256 ^ i)

/-- A count that stays at its largest value. -/
def satAdd (m a b : Nat) : Nat := if a + b ≥ m then m else a + b

/-- A register from its fields: (lowest bit, width, value), each value taken modulo its width. -/
def packNat : List (Nat × Nat × Nat) → Nat
  | [] => 0
  | (lo, w, v) :: fs => 2 ^ lo * (v % 2 ^ w) + packNat fs

/-- The 64-bit register that holds these fields, which do not overlap. -/
def pack (fs : List (Nat × Nat × Nat)) : Word := BitVec.ofNat 64 (packNat fs)

/-- Bytes of a memory from an address up. Unlisted bytes read 0x00 (logs 3 and 4; R426). -/
def Memory.read (m : Memory) (a n : Nat) : List Byte := Tab.getAll m 0 a n

/-- Write bytes from an address up, keeping the canonical form. -/
def Memory.write (m : Memory) (a : Nat) (bs : List Byte) : Memory := Tab.setAll m 0 a bs

/-- The canonical form: addresses strictly rising, no entry equal to what an unlisted address reads as. -/
def Memory.wf (m : Memory) : Bool := Tab.wf m 0

end Sys2Proof
end

