-- ==== Sys2Proof/Machine/NumFormat.lean ====
section
/-! DEFINITION. The narrow number formats and the rounding of conversion points (chapter 2). Values are exact:
a finite value is an integer times a power of two. -/

namespace Sys2Proof.Machine

/-- A numeric value: finite `m * 2^e`, infinite, or NaN. The sign of a zero is not kept (R30, R51). -/
inductive Num where
  | fin (m : Int) (e : Int)
  | inf (neg : Bool)
  | nan
deriving DecidableEq, Repr

/-- The formats, coded as OUT_FORMAT of R105. -/
inductive Fmt where
  | fp32 | fp4 | e4m3 | e5m2 | int4 | int2 | t2 | t5b | bf16
deriving DecidableEq, Repr

/-- OUT_FORMAT codes (R105). -/
def Fmt.ofCode : Nat → Option Fmt
  | 0 => some .fp32 | 1 => some .fp4 | 2 => some .e4m3 | 3 => some .e5m2 | 4 => some .int4
  | 5 => some .int2 | 6 => some .t2 | 7 => some .t5b | 8 => some .bf16 | _ => none

/-- Bytes of a row of `k` elements (R28, R38). -/
def Fmt.rowBytes (f : Fmt) (k : Nat) : Nat :=
  match f with
  | .fp32 => 4 * k | .bf16 => 2 * k | .e4m3 | .e5m2 => k
  | .fp4 | .int4 => (k + 1) / 2 | .int2 | .t2 => (k + 3) / 4 | .t5b => (k + 4) / 5

/-- Formats that may carry a block scale (R28). -/
def Fmt.scalable : Fmt → Bool
  | .fp4 | .e4m3 | .e5m2 => true
  | _ => false

/-- The code of element `i` of a packed row (R28): for T5B the trit's digit, with 3 for an element of an invalid
byte (R38, R39). -/
def Fmt.code (f : Fmt) (row : List Byte) (i : Nat) : Nat :=
  let by_ (j : Nat) : Nat := (row.getD j 0).toNat
  match f with
  | .fp32 => by_ (4 * i) + 256 * by_ (4 * i + 1) + 65536 * by_ (4 * i + 2) + 16777216 * by_ (4 * i + 3)
  | .bf16 => by_ (2 * i) + 256 * by_ (2 * i + 1)
  | .e4m3 | .e5m2 => by_ i
  | .fp4 | .int4 => by_ (i / 2) / 2 ^ (4 * (i % 2)) % 16
  | .int2 | .t2 => by_ (i / 4) / 2 ^ (2 * (i % 4)) % 4
  | .t5b => if by_ (i / 5) ≥ 243 then 3 else by_ (i / 5) / 3 ^ (i % 5) % 3

/-- A signed field of `w` bits. -/
def signed (w n : Nat) : Int := if n ≥ 2 ^ (w - 1) then (n : Int) - 2 ^ w else n

/-- Magnitude of an FP4 code in halves (R29). -/
def fp4Halves (c : Nat) : Int :=
  let m := [0, 1, 2, 3, 4, 6, 8, 12].getD (c % 8) 0
  if c ≥ 8 then -(m : Int) else m

/-- A binary floating-point code with `eb` exponent bits, `mb` mantissa bits and the given bias, all codes
finite. -/
def floatFin (eb mb bias c : Nat) : Num :=
  let e := c / 2 ^ mb % 2 ^ eb
  let f := c % 2 ^ mb
  let s : Int := if c / 2 ^ (eb + mb) % 2 = 1 then -1 else 1
  if e = 0 then .fin (s * f) (1 - (bias : Int) - mb) else .fin (s * (2 ^ mb + f : Nat)) ((e : Int) - bias - mb)

/-- The value of a code (R29, R36-R41). T2 code 10 and an invalid T5B byte count as 0. -/
def Fmt.value (f : Fmt) (c : Nat) : Num :=
  match f with
  | .fp4 => .fin (fp4Halves c) (-1)
  | .int4 => .fin (signed 4 c) 0
  | .int2 => .fin (signed 2 c) 0
  | .t2 => .fin (if c = 1 then 1 else if c = 3 then -1 else 0) 0
  | .t5b => .fin (if c = 1 then 1 else if c = 2 then -1 else 0) 0
  | .e4m3 => if c % 128 = 127 then .nan else floatFin 4 3 7 c
  | .e5m2 =>
    if c % 128 = 124 then .inf (c ≥ 128) else if c % 128 > 124 then .nan else floatFin 5 2 15 c
  | .bf16 =>
    if c / 128 % 256 = 255 then (if c % 128 = 0 then .inf (c ≥ 32768) else .nan) else floatFin 8 7 127 c
  | .fp32 =>
    if c / 2 ^ 23 % 256 = 255 then (if c % 2 ^ 23 = 0 then .inf (c ≥ 2 ^ 31) else .nan) else floatFin 8 23 127 c

/-- Exact product of two values (IEEE 754 for infinities and NaN). -/
def Num.mul : Num → Num → Num
  | .fin m e, .fin n f => .fin (m * n) (e + f)
  | .nan, _ => .nan
  | _, .nan => .nan
  | .inf s, .inf t => .inf (s != t)
  | .inf s, .fin n _ => if n = 0 then .nan else .inf (s != decide (n < 0))
  | .fin n _, .inf s => if n = 0 then .nan else .inf (s != decide (n < 0))

/-- Exact sum of two values. -/
def Num.add : Num → Num → Num
  | .fin m e, .fin n f => .fin (m * 2 ^ (e - min e f).toNat + n * 2 ^ (f - min e f).toNat) (min e f)
  | .nan, _ => .nan
  | _, .nan => .nan
  | .inf s, .inf t => if s = t then .inf s else .nan
  | .inf s, .fin _ _ => .inf s
  | .fin _ _, .inf s => .inf s

/-- A value times a power of two. -/
def Num.scale : Num → Int → Num
  | .fin m e, k => .fin m (e + k)
  | x, _ => x

/-- A rounding of one conversion: to nearest with ties to even, toward zero, or stochastic with the draw u
(R46, R48, R111). -/
inductive Rnd where
  | rne
  | rtz
  | sr (u : Nat)
deriving DecidableEq, Repr

/-- Is the discarded part `r` of `d` rounded up, when the kept integer is `k`? -/
def Rnd.up (md : Rnd) (k r d : Nat) : Bool :=
  match md with
  | .rne => decide (2 * r > d) || (decide (2 * r = d) && decide (k % 2 = 1))
  | .rtz => false
  | .sr u => decide (u < r * 65536 / d)

/-- Round the magnitude `m * 2^e` to a multiple of `2^q`: the multiple. -/
def roundAt (md : Rnd) (q : Int) (m : Nat) (e : Int) : Nat :=
  if e ≥ q then m * 2 ^ (e - q).toNat
  else
    let d := 2 ^ (q - e).toNat
    if md.up (m / d) (m % d) d then m / d + 1 else m / d

/-- The unit in the last place, as a power of two, of a format with `p` significant bits and smallest unit
`2^qmin`, at the magnitude `m * 2^e`. -/
def ulpExp (p : Nat) (qmin : Int) (m : Nat) (e : Int) : Int := max qmin ((Nat.log2 m : Int) + e - (p - 1))

/-- Round a magnitude to a format with `p` significant bits, unbounded above: multiple and unit. -/
def roundMag (p : Nat) (qmin : Int) (md : Rnd) (m : Nat) (e : Int) : Nat × Int :=
  if m = 0 then (0, qmin) else (roundAt md (ulpExp p qmin m e) m e, ulpExp p qmin m e)

/-- Does `k * 2^q` exceed `n * 2^f`? -/
def magGt (k : Nat) (q : Int) (n : Nat) (f : Int) : Bool :=
  decide (k * 2 ^ (q - min q f).toNat > n * 2 ^ (f - min q f).toNat)

/-- Code of the magnitude `k * 2^q`, rounded and in range, in a format of `mb` mantissa bits whose smallest
unit is `2^qmin`. -/
def encMag (mb : Nat) (qmin : Int) (k : Nat) (q : Int) : Nat :=
  let (k, q) := if k = 2 ^ (mb + 1) then (2 ^ mb, q + 1) else (k, q)
  if k < 2 ^ mb then k else ((q - qmin).toNat + 1) * 2 ^ mb + (k - 2 ^ mb)

/-- Counts of the range events of R65. -/
structure Cnt where
  sat : Nat := 0
  ovf : Nat := 0
  unf : Nat := 0
  t5b : Nat := 0
  snan : Nat := 0
deriving DecidableEq, Repr

/-- Counts added. -/
def Cnt.add (a b : Cnt) : Cnt :=
  { sat := a.sat + b.sat, ovf := a.ovf + b.ovf, unf := a.unf + b.unf, t5b := a.t5b + b.t5b, snan := a.snan + b.snan }

/-- FP32 code of an infinity or of the quiet NaN (R41). -/
def fp32Inf (neg : Bool) : Nat := if neg then 0xFF800000 else 0x7F800000

/-- Quiet NaN of R41. -/
def fp32Nan : Nat := 0x7FC00000

/-- CP1, CP2, CP3: round an exact value to FP32, clamped and counted under R52. -/
def toFp32 (md : Rnd) : Num → Nat × Cnt
  | .nan => (fp32Nan, {})
  | .inf s => (fp32Inf s, {})
  | .fin m e =>
    let (k, q) := roundMag 24 (-149) md m.natAbs e
    let s := if m < 0 then 2 ^ 31 else 0
    if k = 0 then (0, { unf := if m = 0 then 0 else 1 })
    else if magGt k q (2 ^ 24 - 1) 104 then (s + 0x7F7FFFFF, { ovf := 1 })
    else (s + encMag 23 (-149) k q, {})

/-- Largest finite magnitude of a float format as (integer, power). -/
def Fmt.maxFin : Fmt → Nat × Int
  | .fp4 => (6, 0) | .e4m3 => (448, 0) | .e5m2 => (57344, 0) | .bf16 => (255, 120) | .fp32 => (2 ^ 24 - 1, 104)
  | .int4 => (7, 0) | .int2 => (1, 0) | .t2 | .t5b => (1, 0)

/-- Mantissa bits and smallest unit of a float format. -/
def Fmt.shape : Fmt → Nat × Int
  | .fp4 => (1, -1) | .e4m3 => (3, -9) | .e5m2 => (2, -16) | .bf16 => (7, -133) | .fp32 => (23, -149)
  | _ => (0, 0)

/-- Is the format one of integers? -/
def Fmt.isInt : Fmt → Bool
  | .int4 | .int2 | .t2 | .t5b => true
  | _ => false

/-- Lowest and highest value of an integer or ternary format (R51). -/
def Fmt.range : Fmt → Int × Int
  | .int4 => (-8, 7) | .int2 => (-2, 1) | _ => (-1, 1)

/-- The code of an integer in range. -/
def Fmt.intCode (f : Fmt) (v : Int) : Nat :=
  match f with
  | .int4 => (v % 16).toNat | .int2 | .t2 => (v % 4).toNat
  | .t5b => if v = 1 then 1 else if v = -1 then 2 else 0
  | _ => 0

/-- FP4 code of a NaN (0) or an infinity (1, 2) converted without a block scale: a free value, but never the code 0x8, which no
output takes (R30; DESIGN CHOICE, log 20). -/
def fp4Open (n : Nat) : Nat := if Config.unscaledFp4 n = 8 then 0 else (Config.unscaledFp4 n).toNat

/-- Output conversion at CP4 to an unscaled or already scaled value (R51): code and counts. A NaN bound for
scaled FP4 is the caller's (R35); into unscaled FP4 its code is a free value. -/
def cp4 (f : Fmt) (md : Rnd) (x : Num) : Nat × Cnt :=
  let sgn (neg : Bool) (top : Nat) : Nat := if neg then top else 0
  match x with
  | .nan =>
    match f with
    | .e4m3 | .e5m2 => (0x7F, {}) | .bf16 => (0x7FC0, {}) | .fp32 => (fp32Nan, {})
    | .fp4 => (fp4Open 0, {}) | _ => (0, { sat := 1 })
  | .inf neg =>
    match f with
    | .e4m3 => (sgn neg 0x80 + 0x7E, { sat := 1 })
    | .e5m2 => (sgn neg 0x80 + 0x7C, {})
    | .bf16 => (sgn neg 0x8000 + 0x7F80, {})
    | .fp32 => (fp32Inf neg, {})
    | .fp4 => (fp4Open (if neg then 2 else 1), { sat := 1 })
    | g => (g.intCode (if neg then g.range.1 else g.range.2), { sat := 1 })
  | .fin m e =>
    if f.isInt then
      let k := roundAt md 0 m.natAbs e
      let v : Int := if m < 0 then -(k : Int) else k
      if v < f.range.1 then (f.intCode f.range.1, { sat := 1 })
      else if v > f.range.2 then (f.intCode f.range.2, { sat := 1 })
      else (f.intCode v, {})
    else
      let (mb, qmin) := f.shape
      let (k, q) := roundMag (mb + 1) qmin md m.natAbs e
      let signBit := match f with | .fp4 => 8 | .e4m3 | .e5m2 => 0x80 | .bf16 => 0x8000 | _ => 2 ^ 31
      let s := sgn (decide (m < 0)) signBit
      if k = 0 then (0, {})
      else if magGt k q f.maxFin.1 f.maxFin.2 then
        match f with
        | .bf16 => (s + 0x7F80, { sat := 1 })
        | .fp32 => (s + 0x7F800000, { sat := 1 })
        | .fp4 => (s + 7, { sat := 1 })
        | .e4m3 => (s + 0x7E, { sat := 1 })
        | _ => (s + 0x7B, { sat := 1 })
      else (s + encMag mb qmin k q, {})

/-- floor(log2 (m * 2^e)) of a nonzero magnitude. -/
def log2Floor (m : Nat) (e : Int) : Int := (Nat.log2 m : Int) + e

/-- ceil(log2 (m * 2^e / (n * 2^f))) of nonzero magnitudes: the least power that, times n * 2^f, reaches
m * 2^e. -/
def log2CeilDiv (m : Nat) (e : Int) (n : Nat) (f : Int) : Int :=
  let g := log2Floor m e - log2Floor n f
  if magGt m e n (f + (g - 1)) then (if magGt m e n (f + g) then g + 1 else g) else g - 1

/-- The draw u of SR_SEEDED (R50). -/
def srDraw (seed : Word) (stream point step index : Nat) : Nat :=
  let w (n : Nat) : Word := BitVec.ofNat 64 n
  let a := (w stream <<< 32) ||| w (step % 2 ^ 32)
  let b := (w point <<< 56) ||| w (index % 2 ^ 56)
  let x := seed ^^^ (a * w 0x5B1D47C3E9A26F0B) ^^^ (b * w 0x8C3F1A75D2E4B96D)
  let x := x ^^^ (x >>> 32)
  let x := x * w 0xE7A43B910C5DF26F
  let x := x ^^^ (x >>> 29)
  let x := x * w 0x3D6B92E0A17C45D9
  let x := x ^^^ (x >>> 32)
  (x >>> 48).toNat

/-! ### IEEE 754 arithmetic of the vector units and atomics (R41, R111, R254) -/

/-- A value rounded RNE to binary32, or to BF16: subnormals kept, overflow to infinity, the one quiet NaN; an exact zero is
negative when `neg0` says so. -/
def ieeeRound (bf neg0 : Bool) (x : Num) : Nat :=
  let mb := if bf then 7 else 23
  let qmin : Int := if bf then -133 else -149
  let top : Int := if bf then 120 else 104
  let sh := if bf then 2 ^ 16 else 1
  match x with
  | .nan => fp32Nan / sh
  | .inf s => fp32Inf s / sh
  | .fin m e =>
    if m = 0 then (if neg0 then 2 ^ 31 / sh else 0)
    else
      let (k, q) := roundMag (mb + 1) qmin .rne m.natAbs e
      if magGt k q (2 ^ (mb + 1) - 1) top then fp32Inf (m < 0) / sh else (if m < 0 then 2 ^ 31 / sh else 0) + encMag mb qmin k q

/-- Is the code of a binary32 or BF16 number negative? -/
def ieeeNeg (bf : Bool) (c : Nat) : Bool := decide (c ≥ if bf then 2 ^ 15 else 2 ^ 31)

/-- Fused multiply-add of one lane, rounded once: a NaN operand gives the quiet NaN (R41, R80). -/
def ieeeFma (bf : Bool) (a b c : Nat) : Nat :=
  let v (x : Nat) : Num := (if bf then Fmt.bf16 else Fmt.fp32).value x
  ieeeRound bf ((ieeeNeg bf a != ieeeNeg bf b) && ieeeNeg bf c) (((v a).mul (v b)).add (v c))

/-- Sum and product of one lane. -/
def ieeeAdd (bf : Bool) (a b : Nat) : Nat :=
  let v (x : Nat) : Num := (if bf then Fmt.bf16 else Fmt.fp32).value x
  ieeeRound bf (ieeeNeg bf a && ieeeNeg bf b) ((v a).add (v b))
def ieeeMul (bf : Bool) (a b : Nat) : Nat :=
  let v (x : Nat) : Num := (if bf then Fmt.bf16 else Fmt.fp32).value x
  ieeeRound bf (ieeeNeg bf a != ieeeNeg bf b) ((v a).mul (v b))

end Sys2Proof.Machine
end

