-- ==== Sys2Proof/Machine/Tile.lean ====
section
/-! DEFINITION. One array pass of a cell: the array-program entry, the exact accumulation, the conversion points
and the output block scales (chapters 2, 3 and 5). -/

namespace Sys2Proof.Machine

/-- An array-program entry (R105). -/
structure ArrayProg where
  pair : Nat
  scaleMode : Nat
  outFormat : Nat
  control : Nat
  k : Nat
  rows : Nat
  cols : Nat
  outTensor : Nat
  signalToken : Nat
  aFormat : Nat
  bFormat : Nat
  aAddr : Nat
  bAddr : Nat
  aScale : Nat
  bScale : Nat
  outAddr : Nat
  oscaleAddr : Nat
deriving DecidableEq, Repr

/-- Read the 40 bytes of an entry. -/
def ArrayProg.read (b : List Byte) : ArrayProg :=
  let f (o n : Nat) := leNat ((b.drop o).take n)
  { pair := f 0 1, scaleMode := f 1 1, outFormat := f 2 1, control := f 3 1, k := f 4 4, rows := f 8 1, cols := f 9 1,
    outTensor := f 10 2, signalToken := f 12 2, aFormat := f 14 1, bFormat := f 15 1, aAddr := f 16 4, bAddr := f 20 4,
    aScale := f 24 4, bScale := f 28 4, outAddr := f 32 4, oscaleAddr := f 36 4 }

/-- PAIR of two formats, in either order (R42, R105); 0 when they form none. -/
def pairCode (a b : Fmt) : Nat :=
  let narrow (f : Fmt) : Bool := f = .int2 || f = .t2 || f = .t5b
  let fp8 (f : Fmt) : Bool := f = .e4m3 || f = .e5m2
  let one (a b : Fmt) : Nat :=
    if a = .fp4 then (match b with | .fp4 => 1 | .int4 => 2 | .int2 => 3 | .t2 => 4 | .t5b => 5 | _ => 0)
    else if a = .int4 then (if b = .int4 then 6 else if narrow b then 7 else 0)
    else if narrow a && narrow b then 8
    else if fp8 a && fp8 b then 9
    else if a = .bf16 && b = .bf16 then 10 else 0
  if one a b = 0 then one b a else one a b

/-- Is the entry valid (R105, R118; DEDUCED, log 153)? -/
def ArrayProg.valid (p : ArrayProg) : Bool :=
  let round := p.control % 4
  let rule := p.control / 4 % 4
  match Fmt.ofCode p.outFormat, Fmt.ofCode p.aFormat, Fmt.ofCode p.bFormat with
  | some o, some a, some b =>
    let any8 := [o, a, b].any fun f => f = .e4m3 || f = .e5m2
    round != 3 && rule != 3 && decide (p.control < 64) &&
    !((rule = 1 || rule = 2) && (!o.scalable || p.scaleMode = 0)) &&
    (p.scaleMode = 0 || p.scaleMode = 1 || p.scaleMode = 3) &&
    !(p.scaleMode = 3 && any8) &&
    !(p.scaleMode != 0 && !(o = .fp4 || a = .fp4 || b = .fp4 || any8)) &&
    p.aFormat != 0 && p.bFormat != 0 && pairCode a b = p.pair && p.pair != 0 &&
    decide (p.signalToken ≤ 4095) && decide (1 ≤ p.k) && decide (1 ≤ p.rows) && decide (p.rows ≤ 64) &&
    decide (1 ≤ p.cols) && decide (p.cols ≤ 64) &&
    [p.aAddr, p.bAddr, p.aScale, p.bScale, p.outAddr].all (fun x => decide (x < 1048576))
  | _, _, _ => false

/-- One operand's row along the reduction: its elements and its scale bytes. -/
structure OperRow where
  fmt : Fmt
  row : List Byte
  scale : List Byte
deriving DecidableEq, Repr

/-- Scale bytes of one row of `k` elements (R32, R33). -/
def scaleRowBytes (f : Fmt) (mode k : Nat) : Nat :=
  if !f.scalable then 0 else if mode = 1 then (k + 31) / 32 else if mode = 3 then 8 * ((k + 255) / 256) else 0

/-- Block length of a scale mode. -/
def blockLen (mode : Nat) : Nat := if mode = 3 then 256 else 32

/-- E8M0 byte of block `b`: 0x7F for an operand that carries no scale (R32, R42). -/
def OperRow.e8m0 (o : OperRow) (mode b : Nat) : Nat :=
  if !o.fmt.scalable || mode = 0 then 127 else (o.scale.getD (if mode = 3 then 8 * b else b) 0).toNat

/-- Nudge of micro-block `j` of block `b` (R33). -/
def OperRow.nudge (o : OperRow) (mode b j : Nat) : Nat :=
  if mode = 3 && o.fmt = .fp4 then leNat ((o.scale.drop (8 * b)).take 8) / 2 ^ (8 + 3 * j) % 8 else 0

/-- Element `k` in half units, for the FP4 path (R43). -/
def OperRow.halves (o : OperRow) (k : Nat) : Int :=
  match o.fmt.value (o.fmt.code o.row k) with
  | .fin m e => if e = -1 then m else 2 * m
  | _ => 0

/-- Element `k` as an integer. -/
def OperRow.int (o : OperRow) (k : Nat) : Int :=
  match o.fmt.value (o.fmt.code o.row k) with
  | .fin m _ => m
  | _ => 0

/-- Sum of `f` over `n` consecutive numbers from `lo`. -/
def sumFrom (f : Nat → Int) (lo : Nat) : Nat → Int
  | 0 => 0
  | n + 1 => sumFrom f lo n + f (lo + n)

/-- Value V of block `b` of two rows on the FP4 path: micro-block sums in quarters, the combiner, the scales
(R43). -/
def fp4Block (a w : OperRow) (mode k b : Nat) : Num :=
  let len := blockLen mode
  let micro := if mode = 3 then 16 else 32
  let top := min k (len * (b + 1))
  let s (j : Nat) : Int :=
    sumFrom (fun i => if i < top then a.halves i * w.halves i else 0) (len * b + micro * j) micro
  let c := sumFrom (fun j => s j * 2 ^ (14 - a.nudge mode b j - w.nudge mode b j)) 0 (len / micro)
  if a.e8m0 mode b = 255 || w.e8m0 mode b = 255 then .nan
  else .fin c (-16 + ((a.e8m0 mode b : Int) - 127) + ((w.e8m0 mode b : Int) - 127))

/-- How a conversion point rounds: point, step, index (R46, R50). -/
abbrev Draw := Nat → Nat → Nat → Rnd

/-- FP4 path of one output: CP1 of each block value, CP2 of the running sum in ascending order (R45). -/
def fp4Dot (draw : Draw) (a w : OperRow) (mode k ix : Nat) : Nat × Cnt :=
  (List.range ((k + blockLen mode - 1) / blockLen mode)).foldl (fun acc b =>
    let v := toFp32 (draw 1 b ix) (fp4Block a w mode k b)
    let t := toFp32 (draw 2 b ix) ((Fmt.fp32.value acc.1).add (Fmt.fp32.value v.1))
    (t.1, (acc.2.add v.2).add t.2)) (0, {})

/-- Integer path: exact sum, readout clamp (R44). -/
def intDot (a w : OperRow) (k : Nat) : Int × Cnt :=
  let y := sumFrom (fun i => a.int i * w.int i) 0 k
  if y < -(2 ^ 31) then (-(2 ^ 31), { sat := 1 }) else if y > 2 ^ 31 - 1 then (2 ^ 31 - 1, { sat := 1 }) else (y, {})

/-- FP32 path: each product, scaled exactly, added at CP2 in ascending order (R43). -/
def fp32Dot (draw : Draw) (a w : OperRow) (mode k ix : Nat) : Nat × Cnt :=
  (List.range k).foldl (fun acc i =>
    let ea := a.e8m0 mode (i / 32)
    let ew := w.e8m0 mode (i / 32)
    let p := if ea = 255 || ew = 255 then Num.nan
      else ((a.fmt.value (a.fmt.code a.row i)).mul (w.fmt.value (w.fmt.code w.row i))).scale (((ea : Int) - 127) + ((ew : Int) - 127))
    let t := toFp32 (draw 2 i ix) ((Fmt.fp32.value acc.1).add p)
    (t.1, acc.2.add t.2)) (0, {})

/-- Range events of reading one operand row: invalid T5B bytes, T2 code 10 outside the weight operand, scale-NaN
blocks (R65). -/
def rowEvents (o : OperRow) (weight : Bool) (mode k : Nat) : Cnt :=
  { t5b := if o.fmt = .t5b then (((List.range ((k + 4) / 5)).filter fun i => decide ((o.row.getD i 0).toNat ≥ 243)).length) else 0
    sat := if o.fmt = .t2 && !weight then ((List.range k).filter fun i => decide (o.fmt.code o.row i = 2)).length else 0
    snan := if o.fmt.scalable && mode != 0 then
      ((List.range ((k + blockLen mode - 1) / blockLen mode)).filter fun b => decide (o.e8m0 mode b = 255)).length else 0 }

/-- Magnitude of a finite nonzero value. -/
def Num.mag? : Num → Option (Nat × Int)
  | .fin m e => if m = 0 then none else some (m.natAbs, e)
  | _ => none

/-- Largest finite magnitude, none when all are zero (R53, R67). -/
def amaxOf (ys : List Num) : Option (Nat × Int) :=
  ys.foldl (fun acc y => match y.mag?, acc with
    | none, a => a
    | some x, none => some x
    | some x, some a => if magGt x.1 x.2 a.1 a.2 then some x else some a) none

/-- The m of FIT and the k of OCP (R53). -/
def Fmt.ocpK : Fmt → Int
  | .fp4 => 2 | .e4m3 => 8 | _ => 15

/-- Block scale power of FIT or OCP, before the clamp. -/
def scalePower (f : Fmt) (rule : Nat) (a : Nat × Int) : Int :=
  if rule = 1 then log2Floor a.1 a.2 - f.ocpK else log2CeilDiv a.1 a.2 f.maxFin.1 f.maxFin.2

/-- The DELAYED power, ceil(log2(HIST_MAX * 2^g / m)), from an FP32 magnitude (R68). -/
def delayedPower (f : Fmt) (histMax margin : Nat) : Int :=
  match (Fmt.fp32.value histMax).mag? with
  | some a => log2CeilDiv a.1 (a.2 + margin) f.maxFin.1 f.maxFin.2
  | none => 0

/-- Clamp a scale power, counting (R53). -/
def clampPower (e : Int) : Int × Cnt :=
  if e > 127 then (127, { ovf := 1 }) else if e < -127 then (-127, { unf := 1 }) else (e, {})

/-- Convert one output block that carries a scale: element codes, scale byte, nudges, counts (R33, R35, R53).
`delayed` is the DELAYED power when that rule is in force. -/
def blockOut (f : Fmt) (mode rule : Nat) (delayed : Option Int) (md : Nat → Rnd) (ys : List Num) :
    List Nat × Nat × List Nat × Cnt :=
  let bad := f = .fp4 && ys.any fun y => match y with | .fin _ _ => false | _ => true
  if bad then
    (ys.map fun _ => 0, 255, [], { snan := 1, sat := (ys.filter fun y => match y with | .inf _ => true | _ => false).length })
  else
    let am := amaxOf ys
    let (e, c0) := match delayed, am with
      | some d, _ => clampPower d
      | none, some a => clampPower (scalePower f rule a)
      | none, none => (0, {})
    let plain := delayed.isNone && am.isNone
    let nudge (j : Nat) : Nat :=
      if mode != 3 || plain || ys.length ≤ 16 * j then 0
      else match amaxOf ((ys.drop (16 * j)).take 16) with
        | none => 7
        | some a => (min 7 (max 0 (e - scalePower f (if delayed.isSome then 0 else rule) a))).toNat
    let outs := (List.range ys.length).map fun i =>
      cp4 f (md i) ((ys.getD i .nan).scale (-(e - (nudge (i / 16) : Int))))
    (outs.map (·.1), (e + 127).toNat, if mode = 3 then (List.range 16).map nudge else [],
      outs.foldl (fun c o => c.add o.2) c0)

/-- Pack element codes into a row (R28, R38). -/
def packRow (f : Fmt) (cs : List Nat) : List Byte :=
  let by_ (j : Nat) : Nat :=
    let c (i : Nat) := cs.getD i 0
    match f with
    | .fp32 => c (j / 4) / 256 ^ (j % 4) | .bf16 => c (j / 2) / 256 ^ (j % 2) | .e4m3 | .e5m2 => c j
    | .fp4 | .int4 => c (2 * j) + 16 * c (2 * j + 1)
    | .int2 | .t2 => c (4 * j) + 4 * c (4 * j + 1) + 16 * c (4 * j + 2) + 64 * c (4 * j + 3)
    | .t5b => c (5 * j) + 3 * c (5 * j + 1) + 9 * c (5 * j + 2) + 27 * c (5 * j + 3) + 81 * c (5 * j + 4)
  (List.range (f.rowBytes cs.length)).map fun j => BitVec.ofNat 8 (by_ j)

/-- What a tile leaves in the output stage (R56): writes to the cell store, counts, amax contribution; and what its
Teasel lane compares: for each comparison the sum over the columns and the register T (R54, R55), and the outputs, by
number in the tile, that a scale-NaN input forces to NaN (R35, R58). -/
structure TileOut where
  writes : List (Nat × List Byte) := []
  cnt : Cnt := {}
  amax : Nat := 0
  nanSeen : Bool := false
  infSeen : Bool := false
  checks : List (Int × Int) := []
  forced : List Nat := []
deriving DecidableEq, Repr

/-! ### The Teasel lane (R54, R55) -/

/-- Column sum s_k of one step: the decoded weights of the row's 64 columns, those not used being 0 (R54). -/
def columnSum (ws : List OperRow) (dec : OperRow → Nat → Int) (k : Nat) : Int := (ws.map fun w => dec w k).sum

/-- One comparison over `n` steps from `lo`: the sum of the columns' own sums, and T = Σ a_k s_k. -/
def dotCheck (a : OperRow) (ws : List OperRow) (dec : OperRow → Nat → Int) (lo n : Nat) : Int × Int :=
  ((ws.map fun w => sumFrom (fun k => dec a k * dec w k) lo n).sum, sumFrom (fun k => dec a k * columnSum ws dec k) lo n)

/-- Element `k` in half units within a reduction of length `top`; 0 beyond it. -/
def halvesTo (top : Nat) (o : OperRow) (k : Nat) : Int := if k < top then o.halves k else 0

/-- FP4 path: one comparison at each micro-block close, in quarter units (R55). -/
def fp4Checks (a : OperRow) (ws : List OperRow) (mode k : Nat) : List (Int × Int) :=
  let micro := if mode = 3 then 16 else 32
  (List.range ((k + micro - 1) / micro)).map fun j => dotCheck a ws (halvesTo k) (micro * j) micro

/-- Significand and exponent of an FP32-path element; none for a NaN or an infinity, which the identities leave out. -/
def OperRow.parts (o : OperRow) (k : Nat) : Option (Int × Int) :=
  match o.fmt.value (o.fmt.code o.row k) with
  | .fin m e => some (m, e)
  | _ => none

/-- Weights of row `k` over the 64 columns; a column that is not used holds weight 0 (R54). -/
def weightParts (ws : List OperRow) (k : Nat) : List (Int × Int) :=
  ws.filterMap (·.parts k) ++ List.replicate (64 - ws.length) (0, 0)

/-- FP32 path: the two product-stage identities of step `k` (R55). -/
def fp32Checks (a : OperRow) (ws : List OperRow) (k : Nat) : List (Int × Int) :=
  match a.parts k with
  | some x =>
    let w := weightParts ws k
    [((w.map fun y => x.1 * y.1).sum, x.1 * (w.map (·.1)).sum), ((w.map fun y => x.2 + y.2).sum, w.length * x.2 + (w.map (·.2)).sum)]
  | none => []

/-- All comparisons of one row of the array (R55): by path, FP4 and integer pairs being 1 to 5 and 6 to 8. -/
def rowChecks (p : ArrayProg) (ws : List OperRow) (a : OperRow) : List (Int × Int) :=
  if p.pair ≤ 5 then fp4Checks a ws p.scaleMode p.k
  else if p.pair ≤ 8 then [dotCheck a ws OperRow.int 0 p.k]
  else (List.range p.k).flatMap (fp32Checks a ws)

/-- Does a scale-NaN block of either operand force the output of two rows to NaN (R35)? -/
def forcedNan (p : ArrayProg) (a w : OperRow) : Bool :=
  (List.range ((p.k + blockLen p.scaleMode - 1) / blockLen p.scaleMode)).any fun b =>
    decide (a.e8m0 p.scaleMode b = 255) || decide (w.e8m0 p.scaleMode b = 255)

/-- Do all comparisons of the tile hold (R54-R58)? `upset` is what the hardware got wrong on the way, if anything. -/
def TileOut.holds (o : TileOut) (upset : TileUpset) : Bool :=
  match upset with
  | .none => o.checks.all fun c => decide (c.1 = c.2)
  | .mac i d => o.checks.zipIdx.all fun c => decide (c.1.1 + (if c.2 = i then d else 0) = c.1.2)
  | .column65 i d => o.checks.zipIdx.all fun c => decide (c.1.1 = c.1.2 + (if c.2 = i then d else 0))
  | .twin n => o.forced.contains n && o.checks.all fun c => decide (c.1 = c.2)
  | .unit_ => false

/-- Convert one row of FP32 results (R46 CP4, R53): the row's bytes, its scale bytes, counts. -/
def rowOut (o : Fmt) (mode rule : Nat) (delayed : Option Int) (md : Nat → Rnd) (ys : List Num) :
    List Byte × List Byte × Cnt :=
  if o.scalable && mode != 0 then
    let len := blockLen mode
    let bs := (List.range ((ys.length + len - 1) / len)).map fun b =>
      blockOut o mode rule delayed (fun i => md (len * b + i)) ((ys.drop (len * b)).take len)
    (packRow o (bs.flatMap (·.1)),
      bs.flatMap (fun b => if mode = 3 then
          leBytes 8 (b.2.1 + 256 * (b.2.2.1.zipIdx.foldl (fun t n => t + n.1 * 8 ^ n.2) 0))
        else [BitVec.ofNat 8 b.2.1]),
      bs.foldl (fun (c : Cnt) b => c.add b.2.2.2) {})
  else
    let cs := (List.range ys.length).map fun i => cp4 o (md i) (ys.getD i .nan)
    (packRow o (cs.map (·.1)), [], cs.foldl (fun (c : Cnt) x => c.add x.2) {})

/-- One output of the pass before CP4, as an FP32 code (R43, R46). -/
def outputOf (p : ArrayProg) (draw : Draw) (a w : OperRow) (oscale : Option Nat) (ix : Nat) : Nat × Cnt :=
  let cp3 (x : Num) (s : Nat) : Nat × Cnt := toFp32 (draw 3 0 ix) (x.mul (Fmt.fp32.value s))
  let post (y : Nat × Cnt) : Nat × Cnt :=
    match oscale with
    | some s => let t := cp3 (Fmt.fp32.value y.1) s; (t.1, y.2.add t.2)
    | none => y
  if p.pair ≤ 5 then post (fp4Dot draw a w p.scaleMode p.k ix)
  else if p.pair ≤ 8 then
    let y := intDot a w p.k
    let t := cp3 (.fin y.1 0) (oscale.getD 0x3F800000)
    (t.1, y.2.add t.2)
  else post (fp32Dot draw a w p.scaleMode p.k ix)

/-- The whole pass. `rd` reads cell-local bytes. Rows of A, of B (one row along the reduction for each output
column), of the scale arrays and of the output follow one another without gaps; the output's scale array follows
its rows (DEDUCED, log 21). `delayed` is the DELAYED power in force, if any. -/
def tileEval (p : ArrayProg) (rd : Nat → Nat → List Byte) (draw : Draw) (delayed : Option Int) : TileOut :=
  match Fmt.ofCode p.outFormat, Fmt.ofCode p.aFormat, Fmt.ofCode p.bFormat with
  | some o, some fa, some fb =>
    let oper (f : Fmt) (addr sc i : Nat) : OperRow :=
      { fmt := f, row := rd (addr + i * f.rowBytes p.k) (f.rowBytes p.k),
        scale := rd (sc + i * scaleRowBytes f p.scaleMode p.k) (scaleRowBytes f p.scaleMode p.k) }
    let as_ := (List.range p.rows).map (oper fa p.aAddr p.aScale)
    let ws := (List.range p.cols).map (oper fb p.bAddr p.bScale)
    let ev := (as_.foldl (fun (c : Cnt) r => c.add (rowEvents r false p.scaleMode p.k)) {}).add
      (ws.foldl (fun (c : Cnt) r => c.add (rowEvents r true p.scaleMode p.k)) {})
    let osc (m : Nat) : Option Nat :=
      if bit p.control 4 then some (leNat (rd (p.oscaleAddr + (if bit p.control 5 then 4 * m else 0)) 4)) else none
    let ys := as_.zipIdx.map fun a => ws.zipIdx.map fun w => outputOf p draw a.1 w.1 (osc a.2) (a.2 * p.cols + w.2)
    let rows := ys.zipIdx.map fun r =>
      rowOut o p.scaleMode (p.control / 4 % 4) delayed (fun n => draw 4 0 (r.2 * p.cols + n)) (r.1.map fun y => Fmt.fp32.value y.1)
    let flat := ys.flatten
    let isNan (c : Nat) : Bool := decide (c % 2 ^ 31 > 0x7F800000)
    let isInf (c : Nat) : Bool := decide (c % 2 ^ 31 = 0x7F800000)
    { writes := (rows.zipIdx.map fun r => (p.outAddr + r.2 * o.rowBytes p.cols, r.1.1)) ++
        (rows.zipIdx.map fun r => (p.outAddr + p.rows * o.rowBytes p.cols + r.2 * scaleRowBytes o p.scaleMode p.cols, r.1.2.1))
      cnt := (flat.foldl (fun (c : Cnt) y => c.add y.2) ev).add (rows.foldl (fun (c : Cnt) r => c.add r.2.2) {})
      amax := flat.foldl (fun m y => if isNan y.1 || isInf y.1 then m else max m (y.1 % 2 ^ 31)) 0
      nanSeen := flat.any fun y => isNan y.1
      infSeen := flat.any fun y => isInf y.1
      checks := as_.flatMap (rowChecks p ws)
      forced := ((as_.zipIdx.flatMap fun a => ws.zipIdx.map fun w => (a.2 * p.cols + w.2, forcedNan p a.1 w.1)).filter (·.2)).map (·.1) }
  | _, _, _ => {}

/-- Byte ranges of cell-local addresses that a tile reads: operands, block scales, output scales (R60, R96, R116). -/
def ArrayProg.inputs (p : ArrayProg) : List (Nat × Nat) :=
  match Fmt.ofCode p.aFormat, Fmt.ofCode p.bFormat with
  | some fa, some fb =>
    [(p.aAddr, p.rows * fa.rowBytes p.k), (p.bAddr, p.cols * fb.rowBytes p.k),
      (p.aScale, p.rows * scaleRowBytes fa p.scaleMode p.k), (p.bScale, p.cols * scaleRowBytes fb p.scaleMode p.k),
      (p.oscaleAddr, if !bit p.control 4 then 0 else if bit p.control 5 then 4 * p.rows else 4)]
  | _, _ => []

/-- Beats of a tile (R76). -/
def ArrayProg.beats (p : ArrayProg) : Nat :=
  if p.pair = 8 then (p.k + 1) / 2 else if p.pair ≤ 7 then p.k else if p.pair = 9 then 4 * p.k else 16 * p.k

end Sys2Proof.Machine
end

