-- ==== Sys2Proof/Machine/State.lean ====
section
/-! DEFINITION. The state of the module: every piece of state the manual names, group by group, and the state
after reset. Indexed state is kept in sparse canonical tables (Machine/Tab.lean): a unit that is not listed has
its default, which is its reset value. -/

namespace Sys2Proof.Machine

/-! ### Time (chapter 7) -/

/-- The Lea counter, the reference and the PLLs (R156-R162). -/
structure Time where
  lea : Lea := 0
  /-- signed ppm, -100 to 100 -/
  slew : Int := 0
  /-- parts of a tick owed by the slew, in millionths -/
  frac : Int := 0
  /-- ticks that the slew has still to add or withhold (R159) -/
  toClose : Nat := 0
  /-- how far each die's copy of Lea is from X0's, ns (R158) -/
  copies : Tab Int := []
  /-- last measured offset, local minus master, ns -/
  offset : Int := 0
  stepped : Bool := false
  masterValid : Bool := false
  synced : Bool := false
  /-- exchanges in a row with |OFFSET| at most 5 ns, up to 16 -/
  good : Nat := 0
  pllLock : Nat := 0
  refPresent : Bool := false
  holdover : Bool := false
  /-- REF_LOST has stood, and no reference of 100 ms has been seen to end it (R156) -/
  refLost : Bool := false
  /-- Lea when the reference last returned -/
  refAt : Lea := 0
  /-- failed relocks in a row, by die -/
  relocks : Tab Nat := []
  skewNow : Nat := 0
  skewMax : Nat := 0
deriving DecidableEq, Repr

/-! ### Events, counters and telemetry (chapters 19 and 24) -/

/-- State of a source at one target (R375). -/
inductive SrcState where
  | idle | pending | active | activePending
deriving DecidableEq, Repr, Inhabited

/-- A source at one target: its state, and what the record of the delivery in hand or to come carries
(R375, R377). -/
structure SrcAt where
  state : SrcState := .idle
  /-- firings merged into this delivery beyond the first, at most 0xFF -/
  merged : Nat := 0
  /-- Lea time of the first firing of the delivery -/
  stamp : Lea := 0
  code : BitVec 32 := 0
  index : BitVec 32 := 0
  value : Word := 0
  /-- made PENDING by an end of service: delivered before any other of its priority (R376) -/
  again : Bool := false
  /-- record of the delivery being served at a host target, its phase bit 0, for a repeat under R379 -/
  served : List Byte := []
deriving DecidableEq, Repr

/-- A target of the event controller (R376, R382 EVC.TARGET). -/
structure TargetSt where
  /-- next EVSEQ, modulo 2^24 -/
  evseq : BitVec 24 := 0
  waiting : Bool := false
deriving DecidableEq, Repr

/-- An external line's filter (R380, R382 EVC.FILTER). -/
structure LineSt where
  level : Bool := true
  /-- Lea time at which the output took its level -/
  since_ : Lea := 0
  glitches : Nat := 0
deriving DecidableEq, Repr

/-- A record of the record store (R455), its CONTEXT as 352 bytes (R456). -/
structure Rec where
  kind : Nat := 0
  acked : Bool := false
  cleared : Bool := false
  sole : Bool := false
  rseq : BitVec 32 := 0
  job : BitVec 32 := 0
  stamp : Lea := 0
  cause : Nat := 0
  index : Nat := 0
  secondaries : Nat := 0
  /-- up to seven of (code, index, stamp) -/
  secondary : List (Nat × Nat × Lea) := []
  context : List Byte := []
deriving DecidableEq, Repr

/-- A header copy of a record store (R454). -/
structure StoreHead where
  nextRseq : BitVec 32 := 0
  failedBoots : Nat := 0
  trialBoots : Nat := 0
  lost : Nat := 0
  writes : Nat := 0
deriving DecidableEq, Repr

/-- A record store of one I/O die: the header as last written, the copy before it, and 31 pairs (R454). A pair is listed under its
number. -/
structure Store where
  nextRseq : BitVec 32 := 0
  failedBoots : Nat := 0
  trialBoots : Nat := 0
  lost : Nat := 0
  writes : Nat := 0
  older : StoreHead := {}
  pairs : Tab (Option Rec) := []
deriving DecidableEq, Repr

/-- A running telemetry stream (R452, R453). -/
structure Stream where
  running : Bool := false
  periodUs : Nat := 0
  /-- bytes [31:24] of TELEMETRY_START: bit 63 selects HBM -/
  target : Word := 0
  port : Port := 0
  sseq : BitVec 32 := 0
  skipped : Bool := false
deriving DecidableEq, Repr

/-- Events, statistics counters, shadows, access log, records and telemetry. -/
structure Obs where
  /-- COUNT of every statistics counter, by its live BAR0 address (R448); SATURATED is COUNT = 2^48 - 1 -/
  counters : Tab Nat := []
  /-- shadows of R449, by the live address copied -/
  shadows : Tab Word := []
  /-- FIRES of each source (R382) -/
  fires : Tab Nat := []
  /-- each source at each target, under 4 * source + target -/
  src : Tab SrcAt := []
  target : Tab TargetSt := []
  line : Tab LineSt := []
  /-- COUNTERS.ACCESS_LOG of ports A and B (R450) -/
  accessLog : Two Word := ⟨0, 0⟩
  store : Two Store := ⟨{}, {}⟩
  /-- JOB_FAULT and HELD records made and waiting for the windows of R399 -/
  recWaiting : List Rec := []
  streams : Tab Stream := []
deriving DecidableEq, Repr

/-! ### Host ports, queues and memories (chapters 15 and 16) -/

/-- State of a queue (R322). -/
inductive QState where
  | free | active | draining | error
deriving DecidableEq, Repr, Inhabited

/-- Cause of a queue's ERROR (R322). -/
inductive QCause where
  | none | badDoorbell | ringRead | cqOverflow | linkDown | badEntry
deriving DecidableEq, Repr, Inhabited

/-- Type of a queue (R320). -/
inductive QKind where
  | command | completion | event | dataMover
deriving DecidableEq, Repr, Inhabited

/-- A completion entry but for its phase bit, which its slot fixes (R334, R325). -/
structure Completion where
  seq : BitVec 32
  status : BitVec 16
  origin : Nat
  final : Bool
  sole : Bool
  takeover : Bool
  stamp : Lea
  result : BitVec 128
deriving DecidableEq, Repr

/-- A queue (R320, R322, R325, R326, R335). -/
structure QueueSt where
  state : QState := .free
  cause : QCause := .none
  kind : QKind := .command
  /-- 0 host memory, 1 queue memory -/
  space : Bool := false
  port : Port := 0
  base : Nat := 0
  sizeLog2 : Nat := 0
  /-- MSI-X vector, 0xFFFF none -/
  vector : Nat := 0
  cq : Nat := 0
  head : BitVec 32 := 0
  tail : BitVec 32 := 0
  lastDb : Lea := 0
  done : Word := 0
  lastSeq : BitVec 32 := 0
  /-- a command has been taken since the queue was made -/
  seqSeen : Bool := false
  armed : Bool := false
  /-- completions waiting for room in the ring, at most 256 (R325) -/
  held : List Completion := []
deriving DecidableEq, Repr

/-- One entry of a port's MSI-X table (PCI Express specification; R316). -/
structure MsixEntry where
  addrLo : BitVec 32 := 0
  addrHi : BitVec 32 := 0
  data : BitVec 32 := 0
  /-- Vector Control; bit 0 masks the vector -/
  control : BitVec 32 := 1
deriving DecidableEq, Repr

/-- A host port (R312-R316, R330). -/
structure PortSt where
  up : Bool := false
  perst : Bool := true
  bar2Base : Word := 0
  /-- log2 of the size of BAR2: 16 GiB at reset (R313) -/
  bar2Log2 : Nat := 34
  msix : Tab MsixEntry := []
  pba : Tab Bool := []
  /-- MSI-X messages sent, by vector: the model's own record of an output -/
  sent : Tab Nat := []
  /-- command doorbells that arrived while BOOTING: (queue, index), held until READY (R314) -/
  heldDb : List (Nat × BitVec 32) := []
deriving DecidableEq, Repr

/-- A data-mover transfer in progress (R328, R329). -/
structure Transfer where
  queue : Nat
  port : Port
  cq : Nat
  /-- its queue was lost with its port (R330): no completion is written -/
  lost : Bool := false
  seq : BitVec 32
  toDevice : Bool
  hostAddr : Nat
  devAddr : Nat
  bytes : Nat
deriving DecidableEq, Repr

/-- Ports, queues, admin rings and data movers. -/
structure HostSide where
  ports : Two PortSt := ⟨{}, {}⟩
  queues : Tab QueueSt := []
  /-- MODULE.ADMIN_RING[k] without ERROR, which is the queue's state (R323) -/
  adminRing : Tab Word := []
  transfers : List Transfer := []
deriving DecidableEq, Repr

/-- The memories of the module and, as the model's own fields, the two host memories its ports reach.
Each is in the canonical form of Tab over the default 0x00. Poison marks are kept per unit: HBM per 128-byte
line (R250), SRAM per 64-bit word (R97), host memory per byte address returned with EP (R332). -/
structure Mems where
  /-- HBM by physical address (R251) -/
  hbm : Memory := []
  /-- SRAM by the address form of R91 -/
  sram : Memory := []
  /-- queue memory, BAR4 offsets (R319) -/
  bar4 : Memory := []
  hostA : Memory := []
  hostB : Memory := []
  hbmPoison : Tab Bool := []
  sramPoison : Tab Bool := []
deriving DecidableEq, Repr

/-! ### The Spindle pair (chapter 17), module state (22) and configuration versions (18) -/

/-- State of a Spindle (R356). -/
inductive SpState where
  | off | boot | active | standby | catchup | failed
deriving DecidableEq, Repr, Inhabited

/-- A Spindle (R356, R360 SPINDLE.SELF). -/
structure Spindle where
  state : SpState := .off
  fails : Nat := 0
  lastCheck : Nat := 0
  /-- Lea times of the failures within the last hour, latest first, at most three -/
  recent : List Lea := []
  /-- lapses of CATCHUP in a row -/
  lapses : Nat := 0
  /-- Lea time at which BOOT, or the present attempt in CATCHUP, began -/
  bootFrom : Lea := 0
  /-- in BOOT: the self-check has passed, at this time, and no claim could be taken yet (R353) -/
  passed : Option Lea := none
deriving DecidableEq, Repr

/-- An entry a Distaff has stamped (R350). -/
structure Stamped where
  queue : Nat
  stamp : Lea
  /-- the 64 bytes of the entry -/
  entry : List Byte
  /-- its queue was lost with its port since (R330): the command runs and its entries are discarded -/
  lost : Bool := false
deriving DecidableEq, Repr

/-- A Distaff (R350, R360 SPINDLE.DISTAFF). -/
structure Distaff where
  /-- entries stamped and not yet released, in the order taken -/
  waiting : List Stamped := []
  /-- latest Lea time received from the peer -/
  peerSeen : Lea := 0
  /-- latest heartbeat or stamp of its own -/
  ownSent : Lea := 0
deriving DecidableEq, Repr

/-- A command in progress past its ACCEPTED entry (R339). `aux` is what the command's own rule needs to end. -/
structure LOp where
  opcode : Nat
  cmd : Cmd
  aux : Nat := 0
  /-- its queue was lost with its port (R330): no entry is written any more -/
  lost : Bool := false
  /-- the claim was taken over while it was in progress (R347) -/
  takeover : Bool := false
deriving DecidableEq, Repr

/-- SPINDLE.LAST_TAKEOVER (R360). -/
structure Takeover where
  at_ : Lea := 0
  durationNs : Nat := 0
  cause : Nat := 0
  planned : Bool := false
  inProgress : Bool := false
  toDie : IoDie := 0
deriving DecidableEq, Repr

/-- The Spindle pair, the Distaffs and the interlock. -/
structure Spin where
  spindle : Two Spindle := ⟨{}, {}⟩
  /-- the claim line that is asserted, if any: at most one is (R353) -/
  claim : Option IoDie := none
  /-- HOLDER as SPINDLE.CLAIM shows it -/
  holder : IoDie := 0
  since : Lea := 0
  blocked : Nat := 0
  distaff : Two Distaff := ⟨{}, {}⟩
  /-- the merged order: released and not yet executed (R327, R350) -/
  merged : List Stamped := []
  released : BitVec 32 := 0
  releaseMax : Nat := 0
  releaseLast : Nat := 0
  commands : BitVec 32 := 0
  digestHeld : Bool := false
  /-- a digest mismatch is under self-check; execution pauses (R352) -/
  checking : Bool := false
  /-- writes in the gated buffer of each Spindle, of a step that is not committed (R349, R351) -/
  gated : Two (List (Word × Word)) := ⟨[], []⟩
  takeover : Takeover := {}
  /-- the holder has let its line go and no Spindle has taken the claim: t0, self-check code, planned (R354, R355) -/
  releasing : Option (Lea × Nat × Bool) := none
  lops : List LOp := []
  /-- the model's own: the command whose step was uncommitted when the claim was taken over, and which still owes its entries (R354) -/
  midStep : Option Cmd := none
  /-- the model's own: the command in execution whose queue was lost (R330) -/
  mute : Option Cmd := none
  /-- lanes good, running width and round trip of the inter-I/O-die link (R360 SPINDLE.IOLINK) -/
  lanesOk : Nat := 0
  width : Nat := 0
  rttNs : Nat := 0
  /-- I/O dies present: neither lost (R358) -/
  present : Two Bool := ⟨true, true⟩
deriving DecidableEq, Repr

/-- MODULE.STATE STATE (R316). -/
inductive ModState where
  | booting | ready | held
deriving DecidableEq, Repr, Inhabited

/-- The module's state, and what keeps it HELD (R431). -/
structure Mod where
  state : ModState := .booting
  /-- cause code of HELD (R457); 0 when not HELD -/
  heldCause : Nat := 0
  /-- bring-up has not begun since the supply entered RUN (R386, R419) -/
  bringupDue : Bool := true
  /-- t0 of the bring-up under way or last run (R419) -/
  bootAt : Lea := 0
  bringupMs : Nat := 0
  /-- the MODULE_RESET level 0 that runs, with the admin completion queue its final entry goes to (R341) -/
  resetCmd : Option (Nat × BitVec 32) := none
  /-- the bring-up under way -/
  boot : Option BringUp := none
  /-- the steps of R419 up to the training of the stacks have been taken -/
  stacksUp : Bool := false
  /-- this bring-up found the stacks unpowered: they hold nothing (R426) -/
  coldStacks : Bool := true
  /-- this bring-up has been neither successful nor counted as a failed boot (R371) -/
  failDue : Bool := false
deriving DecidableEq, Repr

/-- State of a configuration slot (R372 CONFIG.SLOT). -/
inductive SlotState where
  | empty | active | kept | staged | invalid
deriving DecidableEq, Repr, Inhabited

/-- A configuration slot: the image, the settings its bodies hold, and the commit block (R363). -/
structure Slot where
  state : SlotState := .empty
  version : BitVec 32 := 0
  actSeq : BitVec 32 := 0
  image : List Byte := []
  settings : Settings := {}
deriving DecidableEq, Repr

/-- The configuration store and the settings in force (R361-R371). -/
structure Conf where
  slot : Two Slot := ⟨{ state := .active, version := 1, actSeq := 1 }, {}⟩
  /-- the settings in force; bodies that take effect later wait in `coming` -/
  inForce : Settings := {}
  highWater : BitVec 32 := 1
  /-- a watch window is open, until this Lea time (R368) -/
  watching : Bool := false
  until_ : Lea := 0
  /-- the FABRIC or SECURITY body changed at the apply being watched -/
  fabSecChanged : Bool := false
  lastResult : Nat := 0
  rollbackCause : Nat := 0
  failedBoots : Nat := 0
  writePending : Bool := false
  /-- power was lost before that commit block was written: a watch window opens at command-ready (R370) -/
  watchAgain : Bool := false
  /-- CREEL settings applied, in force from the next epoch commit (R361) -/
  creelDue : Bool := false
deriving DecidableEq, Repr

/-! ### Supply, power and temperature (chapter 20) -/

/-- Supply state (R386). -/
inductive Supply where
  | off | run | sag | fail | shutdown
deriving DecidableEq, Repr, Inhabited

/-- A die of POWER.DIE (R395, R396, R401). Readings in degrees Celsius. -/
structure Die where
  tempC : Nat := 0
  skeinC : Nat := 0
  peakC : Nat := 0
  /-- thermal level: 0-3 of a compute die, 0 or 1 otherwise -/
  level : Nat := 0
  /-- own reading holds the throttle; Skein beneath holds it -/
  srcOwn : Bool := false
  srcSkein : Bool := false
  /-- zone of the die's own temperature and of the Skein beneath: 0 normal .. 3 shutdown -/
  zone : Nat := 0
  skeinZone : Nat := 0
  /-- Lea time of the last change of `level` of a compute die (R396) -/
  stepAt : Option Lea := none
deriving DecidableEq, Repr

/-- The supply and power controller. -/
structure Pow where
  supply : Supply := .run
  capW : Nat := 5000
  sagPct : Nat := 60
  level : Nat := 0
  ackPending : Bool := false
  thermAlert : Bool := false
  overV : Bool := false
  voltMv : Nat := 0
  amp10 : Nat := 0
  watts : Nat := 0
  minMv : Nat := 65535
  sagAt : Lea := 0
  sagMin : Nat := 0
  sagUs : Nat := 0
  /-- write rail and hotter I/O die (R399, POWER.NVM) -/
  railMv : Nat := 0
  ioTempC : Int := 0
  supplyOk : Bool := false
  tempOk : Bool := false
  die : Tab Die := []
  /-- a terminal overcurrent caps the module (R461) -/
  termCap : Bool := false
  /-- THERM_ALERT_N was released at this Lea time; its throttle ends 1 ms later (R396) -/
  alertOff : Option Lea := none
  /-- Lea time of the last change of LEVEL (R389) -/
  stepAt : Lea := 0
deriving DecidableEq, Repr

/-! ### Jobs, images and launches (chapters 1 and 5) -/

/-- A stamped job-fault cause (R25 step 1, R26) with the CONTEXT of R456. -/
structure Cause where
  code : Nat
  index : Nat
  station : Nat
  stamp : Lea
  cookie : Word := 0
  ip : Nat := 0
  cell : Nat := 0
  tile : Nat := 0
  addr : Nat := 0
deriving DecidableEq, Repr

/-- An entry of an image's ENTRY section (R104). -/
structure EntryPoint where
  blockMask : Nat
  cellMask : Nat
  thread : Nat
  addr : Nat
deriving DecidableEq, Repr

/-- An image loaded by the job (R104, R107). -/
structure Image where
  handle : BitVec 32
  mask : Nat
  entries : List EntryPoint := []
  /-- barrier table: ID, module scope, participants per region (R119) -/
  barriers : List (Nat × Bool × Nat) := []
  /-- DESCRIPTORS sections in directory order: block mask, block-store offset, descriptors (R104) -/
  descs : List (Nat × Nat × Nat) := []
  firstSlot : Nat := 0
  tensors : Nat := 0
deriving DecidableEq, Repr

/-- A launch that waits or runs (R108). -/
structure Launch where
  cmd : Cmd
  seqNo : BitVec 32
  image : BitVec 32
  mask : Nat
  replay : Bool
  seed : Word
  barrierUs : Nat
  argBytes : Nat
  argAddr : Nat
  running : Bool := false
  startAt : Lea := 0
  deferrals : Nat := 0
  /-- SAT, SCALE_OVF, SCALE_UNF, T5B_INVALID, SCALE_NAN advanced (R65) -/
  marks : Nat := 0
deriving DecidableEq, Repr

/-- How far the job-fault sequence of R25 has come. -/
inductive FaultStep where
  | none      -- no cause acted on
  | draining  -- steps 2 to 5 begun
  | done      -- step 6 done: the job has ended and awaits JOB_CLEAR
deriving DecidableEq, Repr, Inhabited

/-- The open job and everything made under its identifier. -/
structure Job where
  /-- identifier of the open job -/
  open_ : Option (BitVec 32) := none
  /-- identifier of the latest job opened since cold power-on; 0 when none (R103) -/
  prev : BitVec 32 := 0
  fault : FaultStep := .none
  causes : List Cause := []
  images : List Image := []
  nextHandle : BitVec 32 := 1
  launches : List Launch := []
  launchSeq : BitVec 32 := 0
  /-- regions that the job has loaded an image in, bit r: JOB_CLEAR resets them (R103) -/
  used : Nat := 0
  /-- MODULE.STATE, SKEIN.STAT, CREEL.PHASE_STAT and POWER.STAT at step 1 of R25, for the record -/
  snap : List Word := []
deriving DecidableEq, Repr

/-! ### Calibration and ageing (chapter 21), identity and firmware (23), Carding (22) -/

/-- An hourly summary of the ageing monitors (R411, R412). -/
structure Summary where
  lifeS : Nat := 0
  /-- worst stage completion per compute die, ps -/
  stagePs : List Nat := []
  /-- lowest headroom % and receive margin (0.1 dB) with its station, per loop -/
  headroom : List Nat := []
  margin : List (Nat × Nat) := []
  /-- weakest laser line per loop, lowest eye per port, worst ply linearity per station, corrected errors per stack -/
  laser : List Int := []
  eye : List Nat := []
  lin : List Nat := []
  hbmCe : List Nat := []
  /-- R219 has been met at the present WIDTH_CAP (R413) -/
  widthOk : Bool := true
deriving DecidableEq, Repr

/-- The ageing plan (R412, R414): guardband in mV per compute die, WIDTH_CAP, LIFE_S. -/
structure Plan where
  guard : Tab Nat := []
  widthCap : Nat := 16
  lifeS : Nat := 0
deriving DecidableEq, Repr

/-- Calibration state (R402-R415). -/
structure Cal where
  calibrated : Bool := false
  bringupMs : Nat := 0
  restoreMiss : Nat := 0
  restored : Nat := 0
  lastRestore : Nat := 0
  bgSuspect : Bool := false
  noCopy : Nat := 0
  oneCopy : Nat := 0
  /-- factory records in the configuration flash of X0 and X1 that are not as shipped, by domain: their bytes (R403) -/
  flash : Two (Tab (Option (List Byte))) := ⟨[], []⟩
  /-- present rail set-point and retention or ramp target of each compute half, mV -/
  railNow : Tab Nat := []
  railTarget : Tab Nat := []
  /-- Lea time, by compute die, at which the rails of its halves last moved (R155) -/
  rampAt : Tab Lea := []
  /-- the 10 s accumulator's seconds and the readings sampled since the last summary -/
  accS : Nat := 0
  sample : Summary := {}
  /-- the accumulator as last written to the ageing areas -/
  stored : Summary := {}
  /-- HBM_CE and HBM_SCRUB_CE at the last summary, by stack -/
  ceBase : Tab Nat := []
  /-- oldest first, at most 252; CAL.GUARD and CAL.LOOP_MARGIN show the latest (R415) -/
  summaries : List Summary := []
  /-- an accumulator write, a summary, waiting for the windows of R399 -/
  writeWaiting : Bool := false
  sumWaiting : Bool := false
  /-- compute dies whose guardband has risen and whose ramp has not ended -/
  replanDue : Tab Bool := []
deriving DecidableEq, Repr

/-- State of a firmware slot (R435). -/
inductive FwState where
  | empty | good | trial | bad
deriving DecidableEq, Repr, Inhabited

/-- A firmware slot of both I/O dies. -/
structure FwSlot where
  state : FwState := .empty
  version : BitVec 32 := 0
  svn : Nat := 0
deriving DecidableEq, Repr

/-- What the module answers board management (R437, R445): nothing, the protocol's own error code, the MCTP control answer, the sensors
(input power in W, the temperatures of POWER.DIE, MODULE.STATE), the certificate and measurements of SPDM, or the acceptance of a
firmware update. -/
inductive BmcAnswer where
  | silent
  | refused
  | control
  | sensors (watts : Nat) (temps : List Nat) (state : Nat)
  | spdm (certificate fwDigest configDigest : List Byte)
  | update
deriving DecidableEq, Repr

/-- Identity, firmware and board management (R432-R446). -/
structure Sec where
  fw : Two FwSlot := ⟨{ state := .good, version := 1 }, {}⟩
  preferred : Fin 2 := 0
  running : Fin 2 := 0
  debugUsed : Bool := false
  bootMs : Nat := 0
  mismatch : Bool := false
  recovery : Two Bool := ⟨false, false⟩
  failedSlot : Nat := 0
  trialBoots : Nat := 0
  /-- fuse writes due at the next opening of the windows of R399: SVN -/
  svnDue : Option Nat := none
  /-- the latest answer on the SMBus port of each I/O die (R445) -/
  bmc : Two BmcAnswer := ⟨.silent, .silent⟩
deriving DecidableEq, Repr

/-- A failure that Carding found (R430). -/
structure CardEntry where
  unit_ : Nat
  action : Nat
  pending : Bool
  index : Nat
  address : Nat
  bit : Nat
  spareLeft : Nat
  stamp : Lea
deriving DecidableEq, Repr

/-- The result record of the latest pass (R429), and the pass in progress (R423). -/
structure Card where
  present : Bool := false
  full : Bool := false
  bringup : Bool := false
  entries : List CardEntry := []
  found : Nat := 0
  mask : Nat := 0
  outcome : Nat := 0
  stopPair : Nat := 255
  start : Lea := 0
  end_ : Lea := 0
  /-- pairs of the pass in progress still to run; none when no pass runs -/
  todo : List Nat := []
  /-- repairs held pending until a bring-up (R428) -/
  pending : List CardEntry := []
  /-- spare rows and columns taken in each SRAM bank (R427), by `bankKey` -/
  used : Tab Nat := []
deriving DecidableEq, Repr

/-! ### Compute regions, blocks and cells (chapters 2 to 7) -/

/-- State of a compute region (R101). -/
inductive RState where
  | off | reset | ready | running | halted | parked | test
deriving DecidableEq, Repr, Inhabited

/-- A named barrier of a region (R119). -/
structure Barrier where
  moduleScope : Bool := false
  participants : Nat := 0
  arrived : Nat := 0
  /-- generations released -/
  gen : Nat := 0
  /-- Lea time of the first arrival of the generation -/
  firstAt : Lea := 0
  /-- threads waiting with the generation: (linear cell, thread) -/
  waiters : List (Nat × Nat) := []
  /-- a module-scope generation has reached its count here and waits for the other regions -/
  reached : Bool := false
  /-- arrivals of the next generation meanwhile, the first one's time, and who waits with it (R119) -/
  early : Nat := 0
  earlyAt : Lea := 0
  earlyWaiters : List (Nat × Nat) := []
deriving DecidableEq, Repr

/-- A slot of one direction of a core ring (R125, R128): the flit and the VC0 message it carries, its credit return and its
reservation. -/
structure RingSlot where
  flit : Option Flit := none
  /-- CR_DST and CR_VC, and the station that returns the credit (no field of HEADER; DESIGN CHOICE, log 134) -/
  credit : Option (Nat × Nat × Nat) := none
  /-- RSV_STN (R133) -/
  rsv : Option Nat := none
  ctrl : Option CtrlMsg := none
deriving DecidableEq, Repr

/-- A flit that waits for injection, and its source at the station (R86): 0 the stream engine's requests, 1 its replies, 2 the
ring-reduction unit, 3 a gateway. -/
structure Waiting where
  flit : Flit
  source : Nat := 0
deriving DecidableEq, Repr

/-- A VC0 message that waits at its station, and the directions it has still to be sent in (R131). -/
structure CtrlOut where
  msg : CtrlMsg
  cw : Bool
  ccw : Bool
deriving DecidableEq, Repr

/-- A crossing end (R150-R155, R161). `mode` is 0 Forwarded, 1 Queued. -/
structure Xing where
  /-- words in the buffer or asynchronous queue toward the other end, at most 16, oldest first (R152) -/
  queue : List Flit := []
  /-- flits that the gateway holds in its receive buffer until there is room, their credits with it (R127, R132) -/
  held : List Flit := []
  slipMax : Nat := 0
  d : Nat := 0
  rt : Nat := 0
  calFails : Nat := 0
  hold : Bool := false
  detOk : Bool := false
  mode : Nat := 1
  cfg : Nat := 0
deriving DecidableEq, Repr

/-- A compute region: job state, tokens and barriers, pace, droop, crossings, ring-wide state. -/
structure RegionSt where
  state : RState := .reset
  /-- Lea time at which RESET was entered (R101) -/
  resetAt : Lea := 0
  job : BitVec 32 := 0
  entropyAlt : Bool := false
  entropyDead : Bool := false
  tokens : Tab Nat := []
  barriers : Tab Barrier := []
  peak : Nat := 0
  ueSeen : Nat := 0
  ceSeen : Nat := 0
  /-- POISON_WORDS has reached 0xFFFF, where it stays (R101) -/
  poisonFull : Bool := false
  /-- beats since region reset; BEATS shows the low 32 bits (R149, R161) -/
  beats : Nat := 0
  /-- picoseconds run since the last beat edge -/
  psAcc : Nat := 0
  /-- beat length set by the droop detector, in periods (R148) -/
  droopLen : Nat := 1
  droopMv : Nat := 0
  trips : Nat := 0
  deepest : Nat := 0
  /-- periods added to the current beat by the completion gate (R145) -/
  gate : Nat := 0
  hsWorst : Nat := 0
  /-- stage completions that held a beat edge within the last 1 us: Lea time and ps (R161) -/
  hsRecent : List (Lea × Nat) := []
  gateHolds : Nat := 0
  seam : Xing := {}
  stn : Xing := {}
  /-- station reservations held, bit 8 * station + 2q + d (R133) -/
  rsv : Nat := 0
  slotsFullMax : Nat := 0
  vc0Max : Nat := 0
  /-- slots of the rings by 16 * lane + station, where a lane is 2q + d: ring q, d 0 CW and 1 CCW (R125) -/
  slots : Tab RingSlot := []
  /-- flits waiting for injection by 4 * (8 * station + lane) + VC, oldest first (R134) -/
  inject : Tab (List Waiting) := []
  /-- source served last and slots its head has been passed over for, by the same number (R86, R134) -/
  lastSource : Tab Nat := []
  passed : Tab Nat := []
  /-- beats that a head with a credit has waited for a usable slot, by 8 * station + lane (R133) -/
  waits : Tab Nat := []
  /-- credits to be returned by 8 * station + lane that takes them: sender and VC (R132) -/
  creditBack : Tab (List (Nat × Nat)) := []
  /-- RED flits that a station holds captured, in order of arrival (R137) -/
  captured : Tab (List Flit) := []
  /-- longest injection wait by station -/
  injWaitMax : Tab Nat := []
  /-- VC0 messages queued by station (R131) -/
  vc0 : Tab (List CtrlOut) := []
  /-- credits used, by sender station, destination station, ring, direction and VC (R132) -/
  credits : Tab Nat := []
  rangeSeen : Bool := false
  poisonSeen : Bool := false
  lastDone : Nat := 0
  ringCe : Nat := 0
  ringUe : Nat := 0
  /-- LAST fields of RING_ERR: (station, ring, direction, kind) -/
  ringLast : Option (Nat × Nat × Nat × Nat) := none
deriving DecidableEq, Repr

/-- What a tracker slot waits for (R75, R87). -/
inductive SlotKind where
  | free
  | load       -- a thread's scalar load: register
  | vload      -- a thread's vector load
  | store      -- a thread's posted store
  | atomic     -- a thread's posted atomic
  | desc       -- a request of a descriptor
  | reduce     -- a reduction group
deriving DecidableEq, Repr, Inhabited

/-- A tracker slot (R75, R174, R273). -/
structure SlotSt where
  kind : SlotKind := .free
  gen : BitVec 10 := 0
  epoch : BitVec 12 := 0
  cell : Nat := 0
  thread : Nat := 0
  /-- destination register of a load or atomic -/
  reg : Nat := 0
  bytes : Nat := 0
  /-- number of the descriptor it belongs to, within its cell -/
  desc : Nat := 0
  /-- where reply data of a descriptor request goes: space (0 SRAM, 1 HBM) and address -/
  dstSpace : Nat := 0
  dst : Nat := 0
  /-- the request was taken at this Lea time; a Reel request's latest try -/
  at_ : Lea := 0
  sentAt : Lea := 0
  /-- a Reel request: destination node, handle, offset, key, opcode, tries made, no-cache -/
  reel : Bool := false
  node : BitVec 16 := 0
  handle : BitVec 16 := 0
  offset : Nat := 0
  key : BitVec 32 := 0
  opcode : Nat := 0
  /-- AOP of an atomic (R254) -/
  aop : Nat := 0
  tries : Nat := 0
  noCache : Bool := false
  /-- the reply is delivered and not cached (R279) -/
  noFill : Bool := false
  /-- not sent yet: an earlier write or atomic of the module to the line is outstanding (R272), injection is stopped
  (R305), or the wait after a RETRY, until `until_` (R274) -/
  waiting : Bool := false
  until_ : Lea := 0
  retries : Nat := 0
  firstAt : Lea := 0
  /-- place in the order in which the module issued its Reel requests (R272) -/
  order : Nat := 0
  /-- the next send follows a RETRY, and is no try (R275) -/
  resend : Bool := false
  operand : BitVec 128 := 0
  compare : BitVec 128 := 0
  /-- bytes a store or Reel write carries, and whether they are poisoned -/
  data : List Byte := []
  bad : Bool := false
  /-- a descriptor's request that copies from HBM, at `offset`, within the module -/
  fromHbm : Bool := false
  /-- space that a descriptor's request within the module reads from, at `offset`; 3 when none -/
  srcSpace : Nat := 3
  /-- a descriptor's request for a piece of its index list -/
  index : Bool := false
  /-- the one request of a RAW_TX, RAW_RX or PLY_TX on its bobbin, or of a RING_REDUCE group (R93, R138) -/
  stream : Bool := false
  /-- an atomic that its home refuses: code, size or alignment not allowed (R254) -/
  refused : Bool := false
  /-- the access to another block of the region is under way on a core ring, which answers it (R130) -/
  onRing : Bool := false
  /-- every flit of its write or atomic has reached the home block -/
  landed : Bool := false
deriving DecidableEq, Repr

/-- A stream-engine descriptor (R89). -/
structure Desc where
  op : Nat
  flags : Nat
  spaces : Nat
  scaleMode : Nat
  rowBytes : Nat
  rows : Nat
  srcStride : Int
  dstStride : Int
  signalToken : Nat
  waitToken : Nat
  srcAddr : Nat
  dstAddr : Nat
  aux : Nat
  ext : Nat
  cookie : Word
deriving DecidableEq, Repr

/-- A descriptor in a cell queue: started or waiting, requests outstanding (R93). -/
structure DescSt where
  /-- the number the cell gave it -/
  no : Nat
  desc : Desc
  started : Bool := false
  /-- row and byte within it of the next request to issue -/
  row : Nat := 0
  col : Nat := 0
  /-- bytes of the scale array asked for (R89) -/
  scaleAt : Nat := 0
  /-- bytes of the index list asked for, and indices that have come (R89, R92) -/
  indexAt : Nat := 0
  indexGot : Nat := 0
  outstanding : Nat := 0
  /-- it issues nothing more: a row beyond its space, or a poisoned word of its index list (R92) -/
  stopped : Bool := false
  /-- AND of the per-member OK bits of its answered multicast lines (R286) -/
  mcMask : Nat := 2 ^ 64 - 1
deriving DecidableEq, Repr

/-- A reduction group at one member (R136-R138). -/
structure RedGroup where
  cell : Nat
  ext : Nat
  startAt : Lea
  flits : Nat
  /-- own elements sent or results written, in flits -/
  done : Nat := 0
  /-- DEST only: chain results held for a flit, by 2 * flit + chain: payload, POISON, RANGE_COUNT -/
  chains : Tab (Option (List Byte × Bool × Nat)) := []
deriving DecidableEq, Repr

/-- A schedule entry (R121). -/
structure SchedEntry where
  action : Nat
  target : Nat
  anchorId : Nat
  anchor : Nat
  offset : Nat
  operand : Nat
deriving DecidableEq, Repr

/-- A block: stream engine, schedule engine, reduction unit. -/
structure BlockSt where
  slots : Tab SlotSt := []
  /-- slot releases waiting for a grant (R88) -/
  frozen : Bool := false
  /-- injection held for want of credit (R102 RING_HOLD) -/
  ringHold : Bool := false
  /-- next cell queue to be granted a slot (R88) -/
  grantNext : Nat := 0
  sched : List SchedEntry := []
  /-- the schedule runs, and its current entry (R120) -/
  schedRunning : Bool := false
  schedPos : Nat := 0
  /-- beat the previous entry issued, and the beat the schedule was started -/
  schedPrev : Nat := 0
  schedStart : Nat := 0
  /-- the beat of the current entry's anchor, once it has come -/
  schedAnchor : Option Nat := none
  /-- phases for which the block has issued PHASE_READY (R123) -/
  phases : List Nat := []
  groups : Tab (Option RedGroup) := []
deriving DecidableEq, Repr

/-- A tile in the array or queued behind it (R77), with what its comparison will release (R56). -/
structure Tile where
  entry : Nat
  seq : BitVec 32
  /-- the entry, read once when the ARRAY instruction or ISSUE_TILE took it (DESIGN CHOICE, log 125) -/
  prog : ArrayProg
  /-- the comparison failed once and the tile is to be, or has been, executed again (R60) -/
  replay : Bool := false
  out : Option TileOut := none
deriving DecidableEq, Repr

/-- State of a thread context (R84). -/
inductive TState where
  | free | ready | running | waitMem | waitSync | faulted
deriving DecidableEq, Repr, Inhabited

/-- What a thread in WAIT_SYNC waits for, or in WAIT_MEM beside the reply of a load. -/
inductive SyncWait where
  | none
  | token (number n : Nat) (consume : Bool)
  | barrier (number : Nat)
  | arrayPlace
  | fence        -- every posted access acknowledged (R113)
  | room         -- one posted access acknowledged (R81)
  | slot         -- a slot for its request, which waits in the request buffer (R83)
  | held         -- the release of its store, which R60 holds (DEDUCED, log 124)
  | vc0          -- a place in the VC0 queue of its station (R131)
deriving DecidableEq, Repr

/-- A thread context (R80, R84). -/
structure ThreadSt where
  state : TState := .free
  ip : Nat := 0
  /-- scalar registers -/
  x : Tab Word := []
  /-- vector registers, 256 bytes each -/
  v : Tab (BitVec 2048) := []
  /-- condition state -/
  cond : Word := 0
  posted : Nat := 0
  waiting : SyncWait := .none
  /-- Lea time at which it entered WAIT_SYNC (R84) -/
  waitFrom : Lea := 0
  /-- consecutive beats issued (R82) -/
  issued : Nat := 0
deriving DecidableEq, Repr

/-- Who waits for a store that R60 holds: a thread of the cell, a request in a tracker slot, or the descriptor of a cell. -/
inductive HeldBy where
  | nobody
  | thread (t : Nat)
  | slot (tag : Nat)
  | desc (c no : Nat)
deriving DecidableEq, Repr

/-- A store held under R60: cell-local address, bytes, poison. -/
structure HeldStore where
  addr : Nat
  data : List Byte
  bad : Bool := false
  owner : HeldBy := .nobody
deriving DecidableEq, Repr

/-- How a descriptor ended (R93, R124, R210). -/
inductive DescEnd where
  | ok | fault | pruned
deriving DecidableEq, Repr, Inhabited

/-- A cell: threads, array, cell queue. `exec` is the tile in the execution place, which has no output until it issues;
`queued` the one behind it (R77). -/
structure CellSt where
  threads : Tab ThreadSt := []
  runValid : Bool := false
  lastRun : Nat := 0
  exec : Option Tile := none
  queued : Option Tile := none
  tileSeq : BitVec 32 := 0
  lastSeq : BitVec 32 := 0
  replayPending : Bool := false
  /-- Lea times of mismatches within the storm window (R61) -/
  mismatches : List Lea := []
  /-- stores held under R60, oldest first -/
  heldStores : List HeldStore := []
  /-- register-file words marked poisoned (R96): 1,056 words of a thread, 32 scalar registers then 32 vector registers of
  32 words (DESIGN CHOICE, log 126) -/
  regBad : Tab Bool := []
  queue : List DescSt := []
  descNo : Nat := 0
  /-- the descriptor that ended last: its number, and how -/
  lastEnd : Option (Nat × DescEnd) := none
  /-- thread requests waiting for a slot (R83), oldest first: thread and the request as the slot will hold it -/
  requests : List (Nat × SlotSt) := []
deriving DecidableEq, Repr

/-- A tensor guard slot (R64-R69); its five counters are statistics counters. -/
structure Guard where
  valid : Bool := false
  job : BitVec 32 := 0
  amaxEn : Bool := false
  delayed : Bool := false
  margin : Nat := 0
  depth : Nat := 0
  format : Nat := 0
  amax : Nat := 0
  nanSeen : Bool := false
  infSeen : Bool := false
  fallback : Bool := false
  /-- history, newest first, at most depth + 1 entries -/
  hist : List Nat := []
deriving DecidableEq, Repr

/-- Identification and features fused at the factory (R316, R100, R446; the values at reset: DESIGN CHOICE, log 10). -/
structure Fuse where
  order : Nat := 0
  ioRev : Nat := 0
  dieRev : Tab Nat := []
  serial : BitVec 32 := 0
  bar2OneTiB : Bool := true
  cmap : Bool := true
  mcast : Bool := true
  gateway : Bool := true
  /-- SVN fuse count and TEST_LOCK, per I/O die -/
  svn : Two Nat := ⟨0, 0⟩
  testLock : Two Bool := ⟨false, false⟩
deriving DecidableEq, Repr

/-! ### The light (chapter 11) -/

/-- State of a laser cage (R246 LIGHT.CAGE). -/
inductive CageState where
  | absent | warming | ready | lit | fault
deriving DecidableEq, Repr, Inhabited

/-- A cage (R233, R245, R246). -/
structure CageSt where
  state : CageState := .absent
  tempC : Nat := 0
  /-- 0.1 dBm -/
  minLine : Int := 0
  bundle : Nat := 15
  faultCode : Nat := 0
  mgmtOk : Bool := false
  faultPin : Bool := false
  present : Bool := false
  /-- failed management transactions in a row -/
  misses : Nat := 0
deriving DecidableEq, Repr

/-- State of a light group (R238). -/
inductive GState where
  | primary | arming | waiting | paused | transfer | standby | dark
deriving DecidableEq, Repr, Inhabited

/-- A light group (R238, R246 LIGHT.GROUP). -/
structure GroupSt where
  state : GState := .primary
  changedAt : Lea := 0
  returning : Bool := false
  forced : Bool := false
  denied : Bool := false
  /-- the selectors of the group stand on the standby port (R234) -/
  onStandby : Bool := false
  /-- the ARMING under way leads to TRANSFER -/
  unpaused : Bool := false
deriving DecidableEq, Repr

/-- Light of a loop (R235, R237, R246 LIGHT.LOOP). Levels in 0.01 dB. -/
structure LoopLight where
  /-- levels of the latest windows from the selected source, newest first, at most 10 -/
  windows : List Int := []
  worstLine : Nat := 0
  advisory : Bool := false
  /-- consecutive windows at or below -2.5 dB, up to 2 -/
  below : Nat := 0
  /-- crossed -2.5 dB during a pause: withdrawn at its end (R241) -/
  fadeDue : Bool := false
deriving DecidableEq, Repr

/-- The light controller (R236-R246). -/
structure Light where
  ready : Bool := false
  commissioned : Bool := false
  lastPause : Nat := 0
  maxPause : Nat := 0
  waitMs : Nat := 20
  lastGroup : Nat := 0
  lastKind : Nat := 0
  defers : Nat := 0
  cage : Tab CageSt := []
  group : Tab GroupSt := []
  loop : Tab LoopLight := []
  /-- P_c in 0.01 dBm, by 96 * loop + 48 * (0 primary, 1 standby) + line; -1.00 dBm until commissioned (R236) -/
  pc : Tab Int := []
deriving DecidableEq, Repr

/-! ### The Skein (chapter 8) -/

/-- State of a loop (R189 SKEIN.LOOP_HEALTH). -/
inductive LoopState where
  | dark | locking | active | advisory | withdrawn
deriving DecidableEq, Repr, Inhabited

/-- A loop (R173, R188, R189). -/
structure LoopSt where
  state : LoopState := .dark
  /-- 1 BER, 2 FADE, 3 LIGHT_LOST, 4 COMMAND -/
  cause : Nat := 0
  /-- consecutive windows above 1e-9, and at or below it, up to 2 -/
  hot : Nat := 0
  cool : Nat := 0
  /-- the estimate keeps the loop ADVISORY (R173) -/
  ber : Bool := false
  ueFrames : Nat := 0
  berLog : Nat := 255
  worstStn : Nat := 0
  /-- the loop's window so far: bits corrected, bits received, uncorrectable frames -/
  corrected : Nat := 0
  bits : Nat := 0
  ue : Nat := 0
  /-- the window of each drop ring so far, by 8 * station + ring: bits corrected and received -/
  rings : Tab (Nat × Nat) := []
deriving DecidableEq, Repr

/-- State of a micro-ring (R183). -/
inductive RingState where
  | rest | locking | verify | locked | muted | relock | faulty
deriving DecidableEq, Repr, Inhabited

/-- A micro-ring (R165, R181, R183, R204). -/
structure RingSt where
  state : RingState := .rest
  /-- the line it is tuned to; none: the line of the Creel's initial map, which the manual does not list (DESIGN CHOICE, log 30) -/
  line : Option Nat := none
  attempts : Nat := 0
  /-- identity windows passed in VERIFY -/
  passed : Nat := 0
  /-- a drop ring drops 1 / `ratio` of the light that reaches it, all of it at 1 (R165, R195) -/
  ratio : Nat := 1
deriving DecidableEq, Repr

/-- Frame alignment of a receiving drop ring (R171). -/
inductive Align where
  | hunt | presync | sync
deriving DecidableEq, Repr, Inhabited

/-- A receiver of a bobbin (R171, R178, R179). -/
structure Receiver where
  align : Align := .hunt
  /-- correctable frames in a row in PRESYNC, uncorrectable ones in SYNC, frames hunted in HUNT -/
  run : Nat := 0
  /-- SEQ expected of the next non-IDLE frame; none until a frame has given it -/
  expect : Option (BitVec 5) := none
  /-- last SEQ accepted -/
  last : BitVec 5 := 0
  /-- a DARK notice stands -/
  dark : Bool := false
  /-- raw stream: payload bytes since the last check frame, data frames since the descriptor began, those up to
  the last good check frame, poisoned, and final check frame passed -/
  since_ : List Byte := []
  frames : Nat := 0
  good : Nat := 0
  bad : Bool := false
  finished : Bool := false
  /-- decoded frames that wait in the buffer of R179, at most 64, oldest first -/
  waiting : List Nat := []
  /-- payloads of the packet that is coming in, unbroken from its PKT_FIRST frame (R174, R175) -/
  packet : Option (List Nat) := none
  /-- the SEQ range that the latest NAK named as lost (R177) -/
  nak : Option (BitVec 5 × BitVec 5) := none
deriving DecidableEq, Repr

/-- The source of a bobbin (R168, R171, R177, R186, R196). -/
structure Sender where
  nextSeq : BitVec 5 := 0
  /-- the last 32 non-IDLE frames, before scrambling, and the tracker tag of the request that each belongs to -/
  log : List (Nat × Nat) := []
  /-- packets that have a frame in the log -/
  sent : List SPkt := []
  /-- packets that wait: for the end of the IDLE frames after the grant, or for a SYNC notice (R171, R186) -/
  queue : List SPkt := []
  /-- Lea time from which a PHASE or DEMAND bobbin carries non-IDLE frames (R171, R207) -/
  openAt : Lea := 0
  /-- failed sends of a packet, by tag -/
  fails : Tab Nat := []
  idleOnly : Bool := false
  darkAt : Lea := 0
  /-- stations that acknowledged the final check frame, bit s -/
  acked : Nat := 0
deriving DecidableEq, Repr

/-- The Skein (R164-R189). -/
structure Skein where
  epoch : BitVec 32 := 0
  lockDone : Bool := false
  lockMs : Nat := 0
  /-- 0 DARK, 1 LOCKING, 2 RUNNING -/
  state : Nat := 0
  /-- the lock phase has run: a ring that is not listed is LOCKED on its line of the initial map; otherwise REST -/
  locked : Bool := false
  loop : Tab LoopSt := []
  ring : Tab RingSt := []
  /-- receivers by 64 * bobbin identifier + station, senders by bobbin identifier -/
  rcv : Tab Receiver := []
  snd : Tab Sender := []
deriving DecidableEq, Repr

/-! ### The Creel (chapter 9) -/

/-- An entry of a phase table (R203). -/
structure PEntry where
  /-- 1 PACKET, 2 RAW, 3 PLY -/
  kind : Nat
  carry : Bool
  src : Nat
  drops : List Nat
  count : Nat
  sel : Nat
  port : Nat
deriving DecidableEq, Repr

/-- A phase descriptor (R202). -/
structure PhaseD where
  first : Nat
  count : Nat
  barrier : Bool
  barrierId : Nat
  token : Nat
  tokenCount : Nat
  slot : Nat
deriving DecidableEq, Repr

/-- A placed bobbin (R166, R194): loop, line, transmit ring, and drops with their drop rings in visiting order.
A ply bobbin's one drop ring is a ply-drop ring. -/
structure Bob where
  kind : Nat
  src : Nat
  drops : List (Nat × Nat)
  loop : Nat
  line : Nat
  tx : Nat
  carry : Bool := false
  port : Nat := 0
deriving DecidableEq, Repr

/-- A loaded phase table (R201, R204, R212 CREEL.TABLE). -/
structure TableSt where
  job : BitVec 32
  phases : List PhaseD
  entries : List PEntry
  slotNs : Nat
  /-- FENCE_CONTINUE, LOOP, and DEFER_MAX with 0 read as 16 -/
  cont : Bool
  loops : Bool
  deferMax : Nat
  resident : Bool
  /-- placement, by phase: bobbin number is the place in the list -/
  placed : List (List Bob)
deriving DecidableEq, Repr

/-- The table that runs (R206, R212). -/
structure Run where
  handle : Nat
  base : Lea
  d : Nat := 0
  live : Option Nat := none
  next : Option Nat := some 0
  deferNow : Nat := 0
  defers : Nat := 0
  runs : Nat := 0
  /-- the decision of R206 has armed the switch of a LEA phase -/
  armed : Bool := false
  /-- arrival of the barrier release that starts a BARRIER switch -/
  trigger : Option Lea := none
  /-- a TABLE_STOP without FORCE takes effect at the next switch point -/
  stopping : Bool := false
  /-- a pause of R240 opened at this switch and ends then -/
  pauseEnd : Option Lea := none
  /-- deferrals counted since the barrier release arrived (R206) -/
  waited : Nat := 0
deriving DecidableEq, Repr

/-- A DEMAND bobbin (R190, R192). -/
structure Demand where
  src : Nat
  dst : Nat
  index : Nat
  bob : Bob
  /-- the grant, or the latest packet on it -/
  at_ : Lea
deriving DecidableEq, Repr

/-- A TABLE_START whose rings are not all verified yet (R204, R205): its table, T_base, and what the ply ports measure. -/
structure Starting where
  handle : Nat
  base : Lea
  ply : List (PlyIx × PlyMeas) := []
deriving DecidableEq, Repr

/-- A REQUALIFY under way (R200): loops lit again and under test, FAULTY rings that relock, the loops that have passed, and the
lanes that each end of the inter-I/O-die link trained. -/
structure Requal where
  loops : List Nat
  rings : List Nat
  passed : List Nat := []
  lanes : LinkEnds
deriving DecidableEq, Repr

/-- The Creel (R190-R212). -/
structure Creel where
  epoch : BitVec 32 := 1
  lastCause : Nat := 0
  commitUs : Nat := 0
  /-- a map has been committed: STANDING bobbins are lit -/
  mapped : Bool := false
  /-- lanes of the inter-I/O-die link in the map -/
  lanes : Nat := 0
  /-- STANDING bobbins per ordered pair -/
  standing : Nat := 2
  /-- STANDING bobbins of the map in force: source, destination, index, placement (R191, R194) -/
  plan : List (Nat × Nat × Nat × Bob) := []
  /-- I/O stations 32 and 33 in the map in force (R197) -/
  mapStn : Two Bool := ⟨true, true⟩
  /-- Lea time of the latest commit -/
  commitAt : Lea := 0
  /-- bobbins withdrawn since they were lit, by identifier -/
  out : List (BitVec 32) := []
  demand : List Demand := []
  /-- latest DEMAND grant of a pair, by 64 * source + destination -/
  grants : List (Nat × Lea) := []
  table : Tab (Option TableSt) := []
  run : Option Run := none
  /-- fenced stations, and stations pruned from the live phase, bit s -/
  fenced : Nat := 0
  pruned : Nat := 0
  /-- a TABLE_START, a REQUALIFY under way -/
  start : Option Starting := none
  requal : Option Requal := none
  /-- rings of a STREAMED table that its lock engines still retune (R204) -/
  retune : List Nat := []
  lastNs : Nat := 0
  maxNs : Nat := 0
  lateStn : Nat := 63
deriving DecidableEq, Repr

/-! ### Ply summation (chapter 10) -/

/-- State of a ply port (R228). -/
inductive PlyState where
  | idle | train | check | ready | run | digital | faulted
deriving DecidableEq, Repr, Inhabited

/-- A member of a port in the live phase (R214, R231 PLY.MEMBER). -/
structure PlyMember where
  bobbin : BitVec 32
  src : Nat
  line : Nat
  /-- signed drive trim, 0.1 % steps -/
  trim : Int := 0
  delaySym : Nat := 0
  delayFine : Nat := 0
  level : Nat := 0
  /-- consecutive proof cycles with its level below half the reference, up to 2 -/
  low : Nat := 0
  /-- trim correction sent, to be applied at the next block boundary (R221) -/
  trimDue : Int := 0
deriving DecidableEq, Repr

/-- A block under recomputation, or carried digitally: its number and the members whose values have come, with the
sums of those values (R224, R228). -/
structure Redo where
  block : Nat
  got : Nat := 0
  sums : List Nat := []
deriving DecidableEq, Repr

/-- A ply group (R226): who has posted, and how far it has come. -/
structure PlyGroup where
  group : Nat
  startAt : Lea
  /-- cell of the sink descriptor -/
  sink : Option Nat := none
  /-- cell of member m's descriptor -/
  cells : Tab (Option Nat) := []
  /-- GO sent: the start slot named, then the slot at which the next block starts (R215); members that received it, bit m -/
  go : Bool := false
  slot : Nat := 0
  going : Nat := 0
  /-- next block to be summed in light or digitally; blocks accepted; blocks confirmed -/
  next : Nat := 0
  accepted : Nat := 0
  confirmed : Nat := 0
  redo : List Redo := []
deriving DecidableEq, Repr

/-- Trims that a port stores for a set of members, each a source and a line: the split chosen, and by member the trim and the
alignment delay (R228). -/
structure PlyTrims where
  members : List (Nat × Nat)
  split : Nat
  trims : List Int
  delays : List (Nat × Nat)
deriving DecidableEq, Repr

/-- A ply port (R213-R231). -/
structure PlyPort where
  state : PlyState := .idle
  split : Nat := 1
  lastCause : Nat := 0
  group : Nat := 0
  width : Nat := 0
  members : List PlyMember := []
  since_ : Lea := 0
  proofMiss : Nat := 0
  eqRes : Nat := 0
  predLog : Nat := 0
  sigmaUc : Nat := 0
  detMc : Nat := 0
  /-- stored trims, one record for each set of members -/
  stored : List PlyTrims := []
  /-- Lea times of residue mismatches within the storm window -/
  mismatches : List Lea := []
  /-- the split doubles at the next block boundary -/
  narrowDue : Bool := false
  grp : Option PlyGroup := none
deriving DecidableEq, Repr

/-! ### HBM and memory-side dies (chapter 12) -/

/-- State of a stack (R262). -/
inductive StkState where
  | off | train | repair | ready | throttled | failed
deriving DecidableEq, Repr, Inhabited

/-- A stack (R247, R259-R263). -/
structure StackSt where
  state : StkState := .off
  since_ : Lea := 0
  tempC : Nat := 0
  skeinC : Nat := 0
  ownHot : Bool := false
  skeinHot : Bool := false
  fast : Bool := false
  rowsRepaired : Nat := 0
  lanesRepaired : Nat := 0
  spareRows : Nat := 0
  lastUe : Option Nat := none
  ceSeen : Bool := false
  /-- MEM.ECC POISON_LINES has reached 0xFFFF -/
  linesFull : Bool := false
  /-- parity errors in a row of the command in hand -/
  linkErrs : Nat := 0
  /-- zone of the stack's own temperature and of the Skein beneath: 0 normal .. 3 shutdown (R395) -/
  zone : Nat := 0
  skeinZone : Nat := 0
deriving DecidableEq, Repr

/-- A reply-journal entry (R256). `local_` marks the local partition. -/
structure JEntry where
  die : Nat
  local_ : Bool
  node : BitVec 16
  tag : BitVec 16
  epoch : Nat
  reply : BitVec 128
  at_ : Lea
deriving DecidableEq, Repr

/-- A hot-line slot (R257, R280): when its queue has been served, and T_free. -/
structure HotSlot where
  line : Nat
  served : Lea
  tFree : Lea
  /-- Lea times at which the Reel requests admitted to its queue will have been served -/
  queue : List Lea := []
deriving DecidableEq, Repr

/-- A line of the remote-line cache (R258, R271). -/
structure RLine where
  node : BitVec 16
  handle : BitVec 16
  offset : Nat
  data : List Byte
deriving DecidableEq, Repr

/-- Stacks and the resources of the memory-side dies. -/
structure Hbm where
  stack : Tab StackSt := []
  journal : List JEntry := []
  hot : List HotSlot := []
  /-- lines with a request within the last 8 ns: (line, arrival) (DEDUCED, log 40) -/
  recent : List (Nat × Lea) := []
  /-- remote lines, most recently used first -/
  rcache : List RLine := []
  /-- corrected lines waiting for their write-back -/
  writeback : List Nat := []
  /-- corrected SRAM words waiting for their write-back (R95) -/
  sramWriteback : List Nat := []
deriving DecidableEq, Repr

/-! ### The Reel fabric (chapter 13) -/

/-- A registered region (R268, R442): RIGHTS [0] READ .. [4] CACHEABLE; the old key while a rotation runs. -/
structure RegionReg where
  base : Nat
  length : Nat
  rights : Nat
  key : BitVec 32
  oldKey : Option (BitVec 32) := none
  rotatedAt : Lea := 0
deriving DecidableEq, Repr

/-- A member of a multicast group (R285). -/
structure McMember where
  node : BitVec 16
  handle : BitVec 16
  key : BitVec 32
  base : Nat
deriving DecidableEq, Repr

/-- A multicast group (R268, R285). -/
structure McGroup where
  members : List McMember
  missFault : Bool
  key : BitVec 32
  maskBase : Nat
deriving DecidableEq, Repr

/-- A multicast line in its slot (R286): the answers so far, by member. -/
structure McLine where
  tag : Nat
  group : Nat
  at_ : Lea
  answers : List (Nat × Bool) := []
  /-- branches answered RETRY: the member, and when it is sent again (R267, R274) -/
  again : List (Nat × Lea) := []
deriving DecidableEq, Repr

/-- An invalidation under way (R279): group members and those that have acknowledged, bit by place in the list. -/
structure Inval where
  cmd : Cmd
  members : List (BitVec 16)
  got : List (BitVec 16) := []
  startAt : Lea
  /-- the INVALIDATE packets have been sent: a drain was not under way (R305) -/
  sent : Bool := true
deriving DecidableEq, Repr

/-- A gather window of a gateway port (R282): lines held, and the gathered writes to acknowledge by their
BULK_ACK. -/
structure Gather where
  port : Nat
  node : BitVec 16
  handle : BitVec 16
  key : BitVec 32
  base : Nat
  lines : Tab (List Byte) := []
  writes : List Pkt := []
  last : Lea
deriving DecidableEq, Repr

/-- A piece sent as BULK_WRITE, whose BULK_ACK lets its writes be acknowledged (R282), or a staged fetch collecting
READs (R283). -/
structure Piece where
  port : Nat
  node : BitVec 16
  handle : BitVec 16
  key : BitVec 32
  base : Nat
  fetch : Bool
  sent : Bool
  /-- TAG of the BULK packet -/
  tag : BitVec 16
  pkts : List Pkt
  at_ : Lea
deriving DecidableEq, Repr

/-- A rejecting source (R300, R311 REEL.REJECT_SRC). -/
structure RejSrc where
  node : BitVec 16
  keyFaults : Nat := 0
  other : Nat := 0
  quiet : Nat := 0
  /-- when it was last sent a reject, and when it last met one -/
  last : Lea
  latest : Lea
deriving DecidableEq, Repr

/-- A drain of R305 or R346 under way: what waits for it, and since when. -/
structure Drain where
  /-- 1 ROUTE_SWAP, 2 a FABRIC profile brought into force, 3 PORT_SET -/
  what : Nat
  at_ : Lea
  cmd : Option Cmd
  aux : Nat := 0
deriving DecidableEq, Repr

/-- The Reel fabric of the module (R264-R288, R303-R309). -/
structure Reel where
  regions : Tab (Option RegionReg) := []
  nextHandle : Nat := 1
  /-- handles deregistered within the last 250 us -/
  gone : List (Nat × Lea) := []
  sharers : Tab (Option (List (BitVec 16))) := []
  mcast : Tab (Option McGroup) := []
  mcLines : List McLine := []
  /-- requests issued so far (R272) -/
  issued : Nat := 0
  inval : Option Inval := none
  gather : List Gather := []
  pieces : List Piece := []
  /-- TAG of the next BULK packet of a gateway -/
  nextTag : BitVec 16 := 0
  /-- lines held after a re-injection: (port, node, handle, line, re-injected at) (R302) -/
  held : List (Nat × BitVec 16 × BitVec 16 × Nat × Lea) := []
  /-- the two routing tables, and which is active -/
  routes : Two (Tab Nat) := ⟨[], []⟩
  active : Fin 2 := 0
  routed : Bool := false
  drain : Option Drain := none
  /-- request packets of a gateway whose injection the drain has stopped, with their route (R305) -/
  parked : List (Pkt × BitVec 16) := []
  drainNs : Nat := 0
  discarded : Nat := 0
  drainResult : Nat := 0
  /-- congestion samples, newest first, at most 16: Lea time and 64 bytes by 8 * port + VC -/
  cmap : List (Lea × List Nat) := []
  rejects : Tab (Option RejSrc) := []
  /-- latest CMAP_REQ or PORT_REQ answered, by source -/
  mgmt : List (BitVec 16 × Lea) := []
  /-- missed time exchanges in a row, and the T1 of the exchange under way (R159, R308) -/
  timeMiss : Nat := 0
  timeT1 : Option Lea := none
deriving DecidableEq, Repr

/-! ### Reel ports (chapter 14) -/

/-- State of a Reel port (R294). -/
inductive PState where
  | off | seek | train | prove | up | narrow | quarantine | down
deriving DecidableEq, Repr, Inhabited

/-- A DATA flit of the link (R291): its header and payload, and the packets whose last byte it carries. -/
structure LinkData where
  seq : BitVec 12
  head : BitVec 64
  data : List Byte
  ends : List Pkt := []
deriving DecidableEq, Repr

/-- A Reel port (R289-R299, R311). -/
structure RPortSt where
  state : PState := .off
  since_ : Lea := 0
  enabled : Bool := true
  /-- a module is in the port's cage -/
  present : Bool := false
  width : Nat := 0
  /-- the widest width that the port may take (R290) -/
  most : Nat := 8
  lanesOk : Nat := 0
  cause : Nat := 0
  partner : BitVec 16 := 0
  gateway : Bool := false
  proven : Bool := false
  /-- the nonce sent, and the two verdicts of the proof: ours on the partner, the partner's on us -/
  nonce : BitVec 256 := 0
  ourVerdict : Bool := false
  theirVerdict : Bool := false
  candidate : BitVec 16 := 0
  /-- a proof runs, since this Lea time: in PROVE, in QUARANTINE, or again while UP (R361, R441) -/
  proving : Option Lea := none
  /-- TRAIN timeouts in a row -/
  trainFails : Nat := 0
  /-- Lea times of entries to DOWN within the last 10 s, newest first -/
  downs : List Lea := []
  rttNs : Nat := 0
  preFec : Nat := 255
  worstLane : Nat := 0
  /-- next SEQ to send, next SEQ expected, a replay asked for from there, replay buffer, oldest first -/
  txSeq : BitVec 12 := 0
  rxSeq : BitVec 12 := 0
  asks : Bool := false
  replay : List LinkData := []
  /-- bytes that have arrived in sequence and complete no packet yet (R291) -/
  rx : List Byte := []
  /-- headers of the IDLE or CONTROL flits sent last: the model's own record of an output -/
  said : List Word := []
  lastAck : Lea := 0
  /-- replays and CRC errors of the present 1 ms window, its start, those of the last one, windows in a row above
  1,000 replays, replays in a row of the oldest flit -/
  windowAt : Lea := 0
  replays : Nat := 0
  crcs : Nat := 0
  replaysMs : Nat := 0
  crcMs : Nat := 0
  badWindows : Nat := 0
  sameFlit : Nat := 0
  /-- egress queues by VC, oldest first, and head packets passed over, by VC -/
  queue : Tab (List Pkt) := []
  passed : Tab Nat := []
  /-- partner credits held and advertised, and when the held ones fell to 0, by VC -/
  credit : Tab Nat := []
  advertised : Tab Nat := []
  dryAt : Tab Lea := []
deriving DecidableEq, Repr

/-! ### The whole state -/

/-- Why the machine stops with a fault. No meaning of this model raises one: the manual gives every command an
effect, and where an event's condition does not hold the state stays as it is (DESIGN CHOICE, log 2). -/
inductive Fault where
  /-- raised by nobody; kept so that the interface has a fault to name: safe -/
  | none
deriving DecidableEq, Repr

/-- Why a command is refused. -/
inductive Refusal where
  /-- raised by Machine/Dispatch.lean for a row that has no meaning yet: safe -/
  | notModelled (mnemonic : String)
deriving DecidableEq, Repr

/-- The module. -/
structure State where
  time : Time := {}
  obs : Obs := {}
  host : HostSide := {}
  mems : Mems := {}
  spin : Spin := {}
  mod : Mod := {}
  conf : Conf := {}
  pow : Pow := {}
  job : Job := {}
  cal : Cal := {}
  plan : Plan := {}
  sec : Sec := {}
  card : Card := {}
  fuse : Fuse := {}
  region : Tab RegionSt := []
  block : Tab BlockSt := []
  cell : Tab CellSt := []
  guard : Tab Guard := []
  light : Light := {}
  skein : Skein := {}
  creel : Creel := {}
  /-- ply ports by the index of R230 -/
  ply : Tab PlyPort := []
  memory : Hbm := {}
  reel : Reel := {}
  rport : Tab RPortSt := []
  /-- the model's own counter that free values are drawn by (DESIGN CHOICE, log 1) -/
  free : Nat := 0
  /-- the commands that are waiting, first in, first out -/
  pending : List Instr := []
deriving DecidableEq, Repr

/-- The module right after reset: every field at its reset value (INVENTORY.md), no command waiting. -/
def State.reset : State := {}

end Sys2Proof.Machine
end

