-- ==== Sys2Proof/Machine/Ops.lean ====
section
/-! DEFINITION. The shared operations over the state: accessors, Lea comparison, memories, statistics counters,
the event controller, job-fault causes, records, completions and entry to HELD. -/

namespace Sys2Proof.Machine

/-! ### Lea -/

/-- `a` precedes `b` (R157). -/
def before (a b : Lea) : Bool := decide (1 ≤ (b - a).toNat) && decide ((b - a).toNat < 2 ^ 63)

/-- Nanoseconds from `a` to `b`. -/
def since (a b : Lea) : Nat := (b - a).toNat

/-- The same comparison at 32 bits (R451): `a` precedes `b`. -/
def before32 (a b : BitVec 32) : Bool := decide (1 ≤ (b - a).toNat) && decide ((b - a).toNat < 2 ^ 31)

/-- The next value of a 32-bit sequence that skips 0 (R451). -/
def succ32 (a : BitVec 32) : BitVec 32 := if a + 1 = 0 then 1 else a + 1

/-! ### Accessors -/

/-- Queue `q`. -/
def HostSide.queue (h : HostSide) (q : Nat) : QueueSt := h.queues.get {} q

/-- Replace queue `q`. -/
def HostSide.setQueue (h : HostSide) (q : Nat) (x : QueueSt) : HostSide := { h with queues := h.queues.set {} q x }

/-- Change port `p`. -/
def HostSide.modPort (h : HostSide) (p : Port) (f : PortSt → PortSt) : HostSide := { h with ports := h.ports.mod p f }

/-- Queue `q` of the module. -/
def State.queue (s : State) (q : Nat) : QueueSt := s.host.queue q

/-- Change queue `q`. -/
def State.modQueue (s : State) (q : Nat) (f : QueueSt → QueueSt) : State :=
  { s with host := s.host.setQueue q (f (s.host.queue q)) }

/-- Change port `p`. -/
def State.modPort (s : State) (p : Port) (f : PortSt → PortSt) : State := { s with host := s.host.modPort p f }

/-- Compute region `r`. -/
def State.reg (s : State) (r : Nat) : RegionSt := s.region.get {} r

/-- Change compute region `r`. -/
def State.modReg (s : State) (r : Nat) (f : RegionSt → RegionSt) : State := { s with region := s.region.mod {} r f }

/-- Block `b`, by linear index. -/
def State.blk (s : State) (b : Nat) : BlockSt := s.block.get {} b

/-- Change block `b`. -/
def State.modBlk (s : State) (b : Nat) (f : BlockSt → BlockSt) : State := { s with block := s.block.mod {} b f }

/-- Cell `c`, by linear index. -/
def State.cel (s : State) (c : Nat) : CellSt := s.cell.get {} c

/-- Change cell `c`. -/
def State.modCel (s : State) (c : Nat) (f : CellSt → CellSt) : State := { s with cell := s.cell.mod {} c f }

/-- Thread `t` of cell `c`. -/
def State.thr (s : State) (c t : Nat) : ThreadSt := (s.cel c).threads.get {} t

/-- Change thread `t` of cell `c`. -/
def State.modThr (s : State) (c t : Nat) (f : ThreadSt → ThreadSt) : State :=
  s.modCel c fun x => { x with threads := x.threads.mod {} t f }

/-- Tensor guard slot `t`. -/
def State.guardSlot (s : State) (t : Nat) : Guard := s.guard.get {} t

/-- Change tensor guard slot `t`. -/
def State.modGuard (s : State) (t : Nat) (f : Guard → Guard) : State := { s with guard := s.guard.mod {} t f }

/-- Die `d` of POWER.DIE. -/
def State.die (s : State) (d : Nat) : Die := s.pow.die.get {} d

/-- Change die `d`. -/
def State.modDie (s : State) (d : Nat) (f : Die → Die) : State :=
  { s with pow := { s.pow with die := s.pow.die.mod {} d f } }

/-- Region of a linear block index (R18). -/
def regionOfBlock (b : Nat) : Nat := b / 16

/-- Region of a linear cell index (R18). -/
def regionOfCell (c : Nat) : Nat := c / 256

/-- Linear block index of a linear cell index (R18). -/
def blockOfCell (c : Nat) : Nat := c / 16

/-- Apply `f` when `b` holds. -/
def State.when (s : State) (b : Bool) (f : State → State) : State := if b then f s else s

/-- Apply `f` for each of a list, in order. -/
def State.forEach {α : Type} (s : State) (xs : List α) (f : α → State → State) : State :=
  xs.foldl (fun s x => f x s) s

/-- Take a free value: the counter before, and the state with it advanced (DESIGN CHOICE, log 1). -/
def State.fresh (s : State) : State := { s with free := s.free + 1 }

/-! ### Memories -/

/-- The memory of the host at port `p`. -/
def Mems.host (m : Mems) (p : Port) : Memory := if p = 0 then m.hostA else m.hostB

/-- Write the memory of the host at port `p`. -/
def Mems.writeHost (m : Mems) (p : Port) (a : Nat) (bs : List Byte) : Mems :=
  if p = 0 then { m with hostA := m.hostA.write a bs } else { m with hostB := m.hostB.write a bs }

/-- Lines of 128 bytes that a range of HBM touches. -/
def linesOf (a n : Nat) : List Nat := (List.range ((a + n + 127) / 128 - a / 128)).map (· + a / 128)

/-- 64-bit words that a range of SRAM touches. -/
def wordsOf (a n : Nat) : List Nat := (List.range ((a + n + 7) / 8 - a / 8)).map (· + a / 8)

/-- Is any HBM line of the range poisoned (R250)? -/
def Mems.hbmBad (m : Mems) (a n : Nat) : Bool := (linesOf a n).any fun l => m.hbmPoison.get false l

/-- Is any SRAM word of the range poisoned (R97)? -/
def Mems.sramBad (m : Mems) (a n : Nat) : Bool := (wordsOf a n).any fun w => m.sramPoison.get false w

/-- Write HBM. A line written whole loses its poison mark; `bad` marks every line touched (R250). -/
def Mems.writeHbm (m : Mems) (a : Nat) (bs : List Byte) (bad : Bool := false) : Mems :=
  { m with
    hbm := m.hbm.write a bs
    hbmPoison := (linesOf a bs.length).foldl (fun t l =>
      if bad then t.set false l true
      else if decide (a ≤ 128 * l) && decide (128 * l + 128 ≤ a + bs.length) then t.set false l false else t) m.hbmPoison }

/-- Write SRAM. A word written whole loses its poison mark; `bad` marks every word touched (R96, R97). -/
def Mems.writeSram (m : Mems) (a : Nat) (bs : List Byte) (bad : Bool := false) : Mems :=
  { m with
    sram := m.sram.write a bs
    sramPoison := (wordsOf a bs.length).foldl (fun t w =>
      if bad then t.set false w true
      else if decide (a ≤ 8 * w) && decide (8 * w + 8 ≤ a + bs.length) then t.set false w false else t) m.sramPoison }

/-- SRAM address of a cell-local address (R91). -/
def cellSram (c a : Nat) : Nat := c * 1048576 + a % 1048576

/-- SRAM address of a block-store offset (R91): [22:0] offset, [27:24] block, [31:28] region, [32] set. -/
def blockSram (b a : Nat) : Nat := 4294967296 + b * 16777216 + a % 8388608

/-- Linear block index of an SRAM address. -/
def blockOfSram (a : Nat) : Nat := a % 4294967296 / 16777216

/-- Linear cell index of a cell-store address. -/
def cellOfSram (a : Nat) : Nat := a % 4294967296 / 1048576

/-- Is this a block-store address? -/
def isBlockStore (a : Nat) : Bool := decide (a ≥ 4294967296)

/-! ### Statistics counters (R447, R448) -/

/-- A statistics counter: group and number within it. -/
structure Ctr where
  g : Nat
  c : Nat
deriving DecidableEq, Repr

namespace Ctr
def teaselMismatch : Ctr := ⟨0, 0⟩
def teaselReplay : Ctr := ⟨0, 1⟩
def cellIdle : Ctr := ⟨0, 2⟩
def cstoreCe : Ctr := ⟨0, 3⟩
def cstoreUe : Ctr := ⟨0, 4⟩
def regfileCe : Ctr := ⟨0, 5⟩
def regfileUe : Ctr := ⟨0, 6⟩
def vectorResidue : Ctr := ⟨0, 7⟩
def seStaleReply : Ctr := ⟨1, 0⟩
def seTimeout : Ctr := ⟨1, 1⟩
def seDesc : Ctr := ⟨1, 2⟩
def seParity : Ctr := ⟨1, 3⟩
def bstoreCe : Ctr := ⟨1, 4⟩
def bstoreUe : Ctr := ⟨1, 5⟩
def schedSlip : Ctr := ⟨1, 6⟩
def entropySwitch : Ctr := ⟨2, 0⟩
def ringCe : Ctr := ⟨2, 1⟩
def ringUe : Ctr := ⟨2, 2⟩
def ringHdr : Ctr := ⟨2, 3⟩
def ringRsv : Ctr := ⟨2, 4⟩
def redCapture : Ctr := ⟨2, 5⟩
def gateHold : Ctr := ⟨2, 6⟩
def stretchBeats : Ctr := ⟨2, 7⟩
def stretchPeriods : Ctr := ⟨2, 8⟩
def crossSlip : Ctr := ⟨2, 9⟩
def skeinCeBits : Ctr := ⟨3, 0⟩
def skeinUeFrame : Ctr := ⟨3, 1⟩
def skeinNak : Ctr := ⟨3, 2⟩
def skeinRetryPkt : Ctr := ⟨3, 3⟩
def skeinRawPoison : Ctr := ⟨3, 4⟩
def skeinDark : Ctr := ⟨3, 5⟩
def pilotMismatch : Ctr := ⟨3, 6⟩
def ringMute : Ctr := ⟨3, 7⟩
def ringRelock : Ctr := ⟨3, 8⟩
def ringFaulty : Ctr := ⟨3, 9⟩
def demandDeny : Ctr := ⟨4, 0⟩
def creelGrant : Ctr := ⟨4, 1⟩
def creelRelease : Ctr := ⟨4, 2⟩
def epochCommit : Ctr := ⟨4, 3⟩
def phaseSwitch : Ctr := ⟨4, 4⟩
def phaseDefer : Ctr := ⟨4, 5⟩
def switchConfirmFail : Ctr := ⟨4, 6⟩
def mcastPrune : Ctr := ⟨4, 7⟩
def loopWithdraw : Ctr := ⟨4, 8⟩
def plyBlock : Ctr := ⟨5, 0⟩
def plyRedo : Ctr := ⟨5, 1⟩
def plyUnderrun : Ctr := ⟨5, 2⟩
def plyNarrow : Ctr := ⟨5, 3⟩
def plyFallback : Ctr := ⟨5, 4⟩
def plyProofMiss : Ctr := ⟨5, 5⟩
def plyLost : Ctr := ⟨5, 6⟩
def lightAdvisory : Ctr := ⟨6, 0⟩
def lightHandover : Ctr := ⟨6, 1⟩
def lightHandoverForced : Ctr := ⟨6, 2⟩
def lightStandbyBusy : Ctr := ⟨6, 3⟩
def lightLost : Ctr := ⟨6, 4⟩
def elsFault : Ctr := ⟨6, 5⟩
def hbmCe : Ctr := ⟨7, 0⟩
def hbmUe : Ctr := ⟨7, 1⟩
def hbmScrubCe : Ctr := ⟨7, 2⟩
def hbmLink : Ctr := ⟨7, 3⟩
def hbmThrottle : Ctr := ⟨7, 4⟩
def journalFull : Ctr := ⟨7, 5⟩
def hotFull : Ctr := ⟨7, 6⟩
def rcacheHit : Ctr := ⟨7, 7⟩
def rcacheMiss : Ctr := ⟨7, 8⟩
def rcacheUe : Ctr := ⟨7, 9⟩
def reelNarrow : Ctr := ⟨8, 0⟩
def reelReplay : Ctr := ⟨8, 1⟩
def reelPortDown : Ctr := ⟨8, 2⟩
def reelProofFail : Ctr := ⟨8, 3⟩
def reelQuarantineDrop : Ctr := ⟨8, 4⟩
def reelFencedDrop : Ctr := ⟨8, 5⟩
def reelRejectQuiet : Ctr := ⟨8, 6⟩
def reelReinject : Ctr := ⟨8, 7⟩
def reelMgmtQuiet : Ctr := ⟨8, 8⟩
def reelBadPkt : Ctr := ⟨8, 9⟩
def reelStale : Ctr := ⟨8, 10⟩
def reelDrainDiscard : Ctr := ⟨8, 11⟩
def reelTimeout : Ctr := ⟨8, 12⟩
def reelRetrySent : Ctr := ⟨8, 13⟩
def reelRetryRcvd : Ctr := ⟨8, 14⟩
def reelAtomicReplay : Ctr := ⟨8, 15⟩
def reelOutcomeUnknown : Ctr := ⟨8, 16⟩
def reelMcastMiss : Ctr := ⟨8, 17⟩
def hostRoWrite : Ctr := ⟨9, 0⟩
def hostForeignDb : Ctr := ⟨9, 1⟩
def hostBadDb : Ctr := ⟨9, 2⟩
def hostPoisonTx : Ctr := ⟨9, 3⟩
def hostPoisonRx : Ctr := ⟨9, 4⟩
def cqHeld : Ctr := ⟨9, 5⟩
def hostBadAccess : Ctr := ⟨9, 6⟩
def spindleTakeover : Ctr := ⟨10, 0⟩
def digestMismatch : Ctr := ⟨10, 1⟩
def spindleSelfcheckFail : Ctr := ⟨10, 2⟩
def mirrorRejoin : Ctr := ⟨10, 3⟩
def iolinkDown : Ctr := ⟨10, 4⟩
def configAutoRollback : Ctr := ⟨10, 5⟩
def configBootFail : Ctr := ⟨10, 6⟩
def evcRefire : Ctr := ⟨10, 7⟩
def evcHostWait : Ctr := ⟨10, 8⟩
def evcBadEos : Ctr := ⟨10, 9⟩
def secSigFail : Ctr := ⟨10, 10⟩
def attestDone : Ctr := ⟨10, 11⟩
def leaSkew : Ctr := ⟨10, 12⟩
def telemSkip : Ctr := ⟨10, 13⟩
def sagEnter : Ctr := ⟨11, 0⟩
def capThrottle : Ctr := ⟨11, 1⟩
def nvmRefused : Ctr := ⟨11, 2⟩
def calRecordBad : Ctr := ⟨11, 3⟩
def calRestoreMiss : Ctr := ⟨11, 4⟩
def ageingReplan : Ctr := ⟨11, 5⟩
def thermWarn : Ctr := ⟨11, 6⟩
def thermThrottle : Ctr := ⟨11, 7⟩
def guardLimit : Ctr := ⟨11, 8⟩
/-- Counter `c` (0 SAT .. 4 SCALE_NAN) of a tensor guard slot (R66). -/
def tensor (c : Nat) : Ctr := ⟨15, c⟩
end Ctr

/-- Base address of each group (R448). -/
def ctrBase (g : Nat) : Nat :=
  match g with
  | 0 => 0x01000000 | 1 => 0x01040000 | 2 => 0x01050000 | 3 => 0x01060000 | 4 => 0x01070000 | 5 => 0x01080000
  | 6 => 0x01090000 | 7 => 0x010A0000 | 8 => 0x010B0000 | 9 => 0x010C0000 | 10 => 0x010D0000 | 11 => 0x010E0000
  | _ => 0x01800000

/-- Stride of each group (R448). -/
def ctrStride (g : Nat) : Nat :=
  match g with
  | 0 => 0x8000 | 1 => 0x800 | 3 => 0x400 | 5 => 0x2000 | _ => 0x100

/-- Live address of instance `i` of a counter (R448, R66). -/
def Ctr.addr (k : Ctr) (i : Nat) : Nat :=
  if k.g = 15 then 0x01800000 + 64 * i + 8 * k.c else ctrBase k.g + ctrStride k.g * k.c + 8 * i

/-- Largest COUNT (R447). -/
def ctrMax : Nat := 2 ^ 48 - 1

/-- A counter register: COUNT, and SATURATED when COUNT is at its largest (R66, R447). -/
def ctrWord (n : Nat) : Word := pack [(0, 48, n), (63, 1, if n ≥ ctrMax then 1 else 0)]

/-! ### The event controller (chapter 19) -/

/-- Priority of an external line (R381). -/
def linePrio (l : Nat) : Nat :=
  match l with
  | 0 => 9 | 1 => 15 | 2 => 12 | 3 => 13 | 4 => 13 | _ => if l < 25 then 7 else 0

/-- Filter COUNT of an external line (R381). -/
def lineCount (l : Nat) : Nat :=
  match l with
  | 0 => 0x64 | 1 => 0x0A | 2 => 0x64 | 3 => 0x0A | 4 => 0x0A | _ => 0xFF

/-- Priority of a source in the assignment table of firmware release 1 (R374). -/
def srcPrio (n : Nat) : Nat :=
  if n < 0x100 then [12, 6, 6, 6, 6, 4, 5, 3].getD (n % 16) 0
  else if n < 0x180 then [10, 5, 11, 3, 1].getD (n % 8) 0
  else if n < 0x200 then 0
  else if n < 0x280 then 5
  else if n < 0x288 then 7
  else if n < 0x292 then 5
  else if n < 0x2A0 then 0
  else if n < 0x2A3 then [3, 6, 11].getD (n - 0x2A0) 0
  else if n < 0x300 then 0
  else if n < 0x308 then 7
  else if n < 0x310 then 8
  else if n < 0x312 then [4, 11].getD (n - 0x310) 0
  else if n < 0x320 then 0
  else if n < 0x325 then [13, 15, 13, 3, 9].getD (n - 0x320) 0
  else if n = 0x330 || n = 0x331 then 9
  else if 0x340 ≤ n && n < 0x346 then [10, 15, 5, 6, 9, 15].getD (n - 0x340) 0
  else if 0x360 ≤ n && n < 0x379 then linePrio (n - 0x360)
  else if 0x3F0 ≤ n && n < 0x3F3 then [2, 1, 8].getD (n - 0x3F0) 0
  else 0

/-- Target mask of a source (R374): bit t for target t. -/
def srcMask (n : Nat) : Nat :=
  if srcPrio n = 0 then 0
  else if 0x100 ≤ n && n < 0x180 && n % 8 = 4 then 3
  else if n = 0x330 then 7
  else if n = 0x331 then 11
  else if n = 0x3F1 then 3
  else 15

/-- Threshold of a target (R376). -/
def thresh (t : Nat) : Nat := if t < 2 then 1 else 2

/-- A source at a target. -/
def Obs.srcAt (o : Obs) (src t : Nat) : SrcAt := o.src.get {} (4 * src + t)

/-- Replace a source at a target. -/
def Obs.setSrc (o : Obs) (src t : Nat) (x : SrcAt) : Obs := { o with src := o.src.set {} (4 * src + t) x }

/-- A firing arriving at one target (R375): what the source becomes there. -/
def SrcAt.fire (x : SrcAt) (lea : Lea) (code index : BitVec 32) (value : Word) : SrcAt :=
  match x.state with
  | .idle => { state := .pending, merged := 0, stamp := lea, code := code, index := index, value := value }
  | .active => { x with state := .activePending, merged := 0, stamp := lea, code := code, index := index, value := value }
  | .pending | .activePending =>
    { x with merged := satAdd 255 x.merged 1, code := code, index := index, value := value }

/-- Does a firing merge at a target: the source is already PENDING or ACTIVE_PENDING there? -/
def SrcAt.merges (x : SrcAt) : Bool := x.state = .pending || x.state = .activePending

/-- Targets at which source `src` is taken: in its mask, priority at least 1, and taking deliveries. -/
def takers (live src : Nat) : List Nat := (List.range 4).filter fun t => bit (srcMask src) t && bit live t

/-- A firing but for EVC_REFIRE: FIRES, and the source at each target (R375, R382). -/
def Obs.fire0 (o : Obs) (lea : Lea) (live src : Nat) (code index : BitVec 32) (value : Word) : Obs :=
  { o with
    fires := o.fires.set 0 src (satAdd 0xFFFFFFFF (o.fires.get 0 src) 1)
    src := (takers live src).foldl (fun m t => m.set {} (4 * src + t) ((o.srcAt src t).fire lea code index value)) o.src }

/-- Number of targets at which a firing merges. -/
def Obs.merging (o : Obs) (live src : Nat) : Nat := ((takers live src).filter fun t => (o.srcAt src t).merges).length

/-- Advance a counter, without its saturation event (R447). -/
def Obs.add (o : Obs) (k : Ctr) (i n : Nat) : Obs :=
  { o with counters := o.counters.set 0 (k.addr i) (satAdd ctrMax (o.counters.get 0 (k.addr i)) n) }

/-- Does advancing by `n` saturate a counter that was not saturated? -/
def Obs.saturates (o : Obs) (k : Ctr) (i n : Nat) : Bool :=
  decide (o.counters.get 0 (k.addr i) < ctrMax) && decide (o.counters.get 0 (k.addr i) + n ≥ ctrMax)

/-- Fire the saturation event 0x3F0 of a counter (R447). -/
def Obs.fireSat (o : Obs) (lea : Lea) (live : Nat) (k : Ctr) (i : Nat) : Obs :=
  o.fire0 lea live 0x3F0 (BitVec.ofNat 32 (256 * k.g + k.c)) (BitVec.ofNat 32 i) (BitVec.ofNat 64 (k.addr i))

/-- A firing of a source: FIRES, states, and EVC_REFIRE for each target at which it merges (R375), whose own
saturation fires 0x3F0. -/
def Obs.fire (o : Obs) (lea : Lea) (live src : Nat) (code index : BitVec 32) (value : Word) : Obs :=
  let n := o.merging live src
  let o1 := o.fire0 lea live src code index value
  let o2 := o1.add Ctr.evcRefire 0 n
  if o1.saturates Ctr.evcRefire 0 n then o2.fireSat lea live Ctr.evcRefire 0 else o2

/-- Advance a counter by `n`; at saturation 0x3F0 fires once (R447). -/
def Obs.bump (o : Obs) (lea : Lea) (live : Nat) (k : Ctr) (i n : Nat) : Obs :=
  let o1 := o.add k i n
  if o.saturates k i n then
    o1.fire lea live 0x3F0 (BitVec.ofNat 32 (256 * k.g + k.c)) (BitVec.ofNat 32 i) (BitVec.ofNat 64 (k.addr i))
  else o1

/-- Does a Spindle target take deliveries (R373)? -/
def SpState.live : SpState → Bool
  | .active | .standby => true
  | _ => false

/-- Targets that take deliveries, bit t for target t (R373). -/
def State.live (s : State) : Nat :=
  bitsOf [s.spin.spindle.a.state.live, s.spin.spindle.b.state.live, true, true]

/-- Fire event source `src`. -/
def State.fire (s : State) (src : Nat) (code : Nat := 0) (index : Nat := 0) (value : Nat := 0) : State :=
  { s with obs := s.obs.fire s.time.lea s.live src (BitVec.ofNat 32 code) (BitVec.ofNat 32 index) (BitVec.ofNat 64 value) }

/-- Advance statistics counter `k`, instance `i`, by `n`. -/
def State.bump (s : State) (k : Ctr) (i : Nat := 0) (n : Nat := 1) : State :=
  { s with obs := s.obs.bump s.time.lea s.live k i n }

/-! ### Status words that a record keeps (R456) -/

/-- Is a job open (R103)? -/
def State.jobOpen (s : State) : Bool := s.job.open_.isSome

/-- Identifier of the open job; 0 when none. -/
def State.jobId (s : State) : BitVec 32 := s.job.open_.getD 0

/-- Loop `n` of the Skein. -/
def State.loopSt (s : State) (n : Nat) : LoopSt := s.skein.loop.get {} n

/-- Is a loop usable: lit, and not withdrawn (R188)? -/
def LoopState.usable : LoopState → Bool
  | .active | .advisory => true
  | _ => false

/-- Number of usable loops (R188). -/
def State.usableLoops (s : State) : Nat := (s.skein.loop.filter fun e => e.2.state.usable).length

/-- Number of withdrawn loops. -/
def State.withdrawnLoops (s : State) : Nat := (s.skein.loop.filter fun e => decide (e.2.state = .withdrawn)).length

/-- DEGRADED: fewer than 96 usable loops, once the Skein runs (R24, R188). -/
def State.degraded (s : State) : Bool := decide (s.skein.state = 2) && decide (s.usableLoops < 96)

/-- STATE of MODULE.STATE (R316). -/
def ModState.code : ModState → Nat
  | .booting => 0 | .ready => 1 | .held => 2

/-- MODULE.STATE (R316). -/
def State.moduleState (s : State) : Word :=
  pack [(0, 3, s.mod.state.code), (3, 1, s.host.ports.a.up.toNat), (4, 1, s.host.ports.b.up.toNat), (5, 1, s.jobOpen.toNat),
    (6, 1, s.degraded.toNat), (32, 32, s.jobId.toNat)]

/-- SKEIN.STAT (R189). -/
def State.skeinStat (s : State) : Word :=
  pack [(0, 2, s.skein.state), (2, 1, s.skein.lockDone.toNat), (3, 1, s.degraded.toNat), (16, 8, s.withdrawnLoops),
    (24, 8, s.usableLoops), (32, 32, s.skein.epoch.toNat)]

/-- The pending switch of the running table is a BARRIER one (R202). -/
def State.nextIsBarrier (s : State) : Bool :=
  match s.creel.run with
  | some r => match s.creel.table.get none r.handle, r.next with
    | some t, some p => (t.phases[p]?.map (·.barrier)).getD false
    | _, _ => false
  | none => false

/-- CREEL.PHASE_STAT (R212). -/
def State.phaseStat (s : State) : Word :=
  match s.creel.run with
  | some r => pack [(0, 8, r.runs), (8, 2, s.nextIsBarrier.toNat), (10, 6, s.creel.lateStn), (19, 1, r.live.isSome.toNat),
      (20, 10, r.live.getD 0), (30, 10, r.next.getD 0), (40, 8, r.deferNow), (48, 16, min r.defers 0xFFFF)]
  | none => pack [(10, 6, s.creel.lateStn)]

/-- Filtered level of an external line (R380, R381): true is high. -/
def State.level (s : State) (l : Nat) : Bool := (s.obs.line.get {} l).level

/-- HOLD_N asserted. -/
def State.hold (s : State) : Bool := !s.level 2

/-- Sag cap in W: a percentage of 5,000 W (R387). -/
def Pow.sagW (p : Pow) : Nat := 50 * p.sagPct

/-- Effective cap (R387), with the 3,000 W cap of a terminal overcurrent (R461). -/
def Pow.effective (p : Pow) : Nat :=
  let w := if p.supply = .sag then min p.capW p.sagW else p.capW
  if p.termCap then min w 3000 else w

/-- STATE of POWER.STAT (R401). -/
def Supply.code : Supply → Nat
  | .off => 0 | .run => 1 | .sag => 2 | .fail => 3 | .shutdown => 4

/-- POWER.STAT (R401). -/
def State.powerStat (s : State) : Word :=
  pack [(0, 3, s.pow.supply.code), (4, 1, s.pow.overV.toNat), (5, 1, s.hold.toNat), (6, 1, s.pow.thermAlert.toNat),
    (7, 1, s.pow.ackPending.toNat), (16, 3, s.pow.level), (24, 16, s.pow.effective), (40, 8, s.pow.sagPct), (48, 16, s.pow.capW)]

/-- The four status words of a JOB_FAULT record (R456). -/
def State.snapWords (s : State) : List Word := [s.moduleState, s.skeinStat, s.phaseStat, s.powerStat]

/-! ### Job-fault causes (R25, R26, R457) -/

/-- Stamp a cause in the list, unless step 6 of the job fault is done (R26). -/
def Job.stamp (j : Job) (c : Cause) (snap : List Word) : Job :=
  if j.open_.isSome && !(j.fault = .done) then
    { j with causes := j.causes ++ [c], snap := if j.causes.isEmpty then snap else j.snap }
  else j

/-- A detecting unit stamps a job-fault cause with the Lea time and its index (R25 step 1). With no job open it
changes nothing (R26). A cause stamped in a compute region fires that region's source (R374). -/
def State.stamp (s : State) (code index station : Nat) (f : Cause → Cause := id) : State :=
  let t := s.when (decide (station < 16)) (·.fire (16 * station) code index s.time.lea.toNat)
  { t with job := t.job.stamp (f { code := code, index := index, station := station, stamp := s.time.lea }) s.snapWords }

/-- `a` comes before `b` as the primary cause (R26): earlier stamp, then lower station. -/
def Cause.le (a b : Cause) : Bool := before a.stamp b.stamp || (decide (a.stamp = b.stamp) && decide (a.station ≤ b.station))

/-- The primary cause of a list of causes (R26). -/
def primary : List Cause → Option Cause
  | [] => none
  | c :: cs => match primary cs with
    | none => some c
    | some d => if c.le d then some c else some d

/-- The causes after the primary, in the order stamped. -/
def secondaries (cs : List Cause) : List Cause :=
  match primary cs with
  | none => []
  | some p => cs.erase p

/-! ### Records (R454-R458) -/

/-- Is the write window of R399 open? -/
def State.nvmOpen (s : State) : Bool := s.pow.tempOk && s.pow.supplyOk

/-- I/O dies that are present (R358). -/
def State.liveDies (s : State) : List IoDie := [(0 : IoDie), 1].filter fun d => s.spin.present.get d

/-- Pairs of a store that are free. -/
def Store.freePairs (st : Store) : List Nat := (List.range 31).filter fun j => (st.pairs.get none j).isNone

/-- The pair, among those whose record satisfies `ok`, that is oldest by RSEQ (R157, R458). -/
def Store.oldest (st : Store) (ok : Rec → Bool) : Option Nat :=
  (List.range 31).foldl (fun acc j => match st.pairs.get none j, acc with
    | none, a => a
    | some r, none => if ok r then some j else none
    | some r, some i => match st.pairs.get none i with
      | some q => if ok r && before32 r.rseq q.rseq then some j else some i
      | none => some i) none

/-- Is this an unacknowledged SHUTDOWN record? -/
def Rec.unackShutdown (r : Rec) : Bool := r.kind = 3 && !r.acked

/-- Where a record goes in a store (R458); none when it is lost. -/
def Store.place (st : Store) (r : Rec) : Option Nat :=
  if r.kind = 1 || r.kind = 4 then
    if st.freePairs.length ≥ 2 then st.freePairs.head?
    else match st.oldest (fun q => q.cleared && !q.unackShutdown) with
      | some j => some j
      | none => st.oldest fun q => q.kind = 1
  else match st.freePairs.head? with
    | some j => some j
    | none => st.oldest fun q => !q.unackShutdown

/-- The header as last written. -/
def Store.head (st : Store) : StoreHead :=
  { nextRseq := st.nextRseq, failedBoots := st.failedBoots, trialBoots := st.trialBoots, lost := st.lost, writes := st.writes }

/-- Write a store: the header goes to the copy that is not the latest, one write count on (R454). -/
def Store.write (st : Store) (f : Store → Store) : Store := { f st with writes := st.writes + 1, older := st.head }

/-- Write a record into a store, or count it lost (R458). -/
def Store.put (st : Store) (r : Rec) : Store :=
  match st.place r with
  | some j => st.write fun st => { st with pairs := st.pairs.set none j (some r) }
  | none => st.write fun st => { st with lost := st.lost + 1 }

/-- Write a record into the store of every live die, SOLE when only one is (R455, R458). -/
def Obs.putRec (o : Obs) (dies : List IoDie) (r : Rec) : Obs :=
  { o with store := dies.foldl (fun t d => t.mod d (·.put { r with sole := decide (dies.length = 1) })) o.store }

/-- Take the next RSEQ for a record made now (R458). -/
def Obs.takeRseq (o : Obs) : BitVec 32 × Obs :=
  let n := o.store.a.nextRseq
  (n, { o with store := ⟨o.store.a.write fun x => { x with nextRseq := n + 1 }, o.store.b.write fun x => { x with nextRseq := n + 1 }⟩ })

/-- Make a record: RSEQ is taken now; a JOB_FAULT or HELD record waits while the windows of R399 are closed. -/
def State.makeRec (s : State) (r : Rec) : State :=
  let (n, o) := s.obs.takeRseq
  let r := { r with rseq := n }
  { s with obs := if (r.kind = 1 || r.kind = 4) && !s.nvmOpen then { o with recWaiting := o.recWaiting ++ [r] }
      else o.putRec s.liveDies r }

/-- Write the records that waited, when both windows are open (R458). -/
def State.flushRecs (s : State) : State :=
  { s with obs := if s.nvmOpen then
      s.obs.recWaiting.foldl (fun o r => o.putRec s.liveDies r) { s.obs with recWaiting := [] } else s.obs }

/-! ### Completions (R325, R326, R334, R347) -/

/-- Status codes (R342). -/
inductive Status where
  | ok | accepted | badOpcode | badParam | badState | badSeq | denied | badSignature | busy | timeout | late
  | fault | held | tempForbidden | supplyForbidden
deriving DecidableEq, Repr

/-- Code of a status (R342). -/
def Status.code : Status → BitVec 16
  | .ok => 0x0000 | .accepted => 0x0001 | .badOpcode => 0x0100 | .badParam => 0x0101 | .badState => 0x0102
  | .badSeq => 0x0103 | .denied => 0x0200 | .badSignature => 0x0201 | .busy => 0x0300 | .timeout => 0x0301
  | .late => 0x0302 | .fault => 0x0400 | .held => 0x0401 | .tempForbidden => 0x0500 | .supplyForbidden => 0x0501

/-- Result bytes 16-31 from fields (byte, width in bytes, value). -/
def result (fs : List (Nat × Nat × Nat)) : BitVec 128 :=
  BitVec.ofNat 128 (packNat (fs.map fun f => (8 * (f.1 - 16), 8 * f.2.1, f.2.2)))

/-- The 32 bytes of an entry whose phase bit is `phase` (R334). -/
def Completion.bytes (e : Completion) (phase : Bool) : List Byte :=
  leBytes 4 e.seq.toNat ++ leBytes 2 e.status.toNat ++
    [BitVec.ofNat 8 e.origin, BitVec.ofNat 8 (bitsOf [phase, e.final, e.sole, e.takeover])] ++
    leBytes 8 e.stamp.toNat ++ leBytes 16 e.result.toNat

/-- Occupancy of a ring (R321). -/
def QueueSt.occupancy (q : QueueSt) : Nat := (q.tail - q.head).toNat

/-- Does the ring have room for one entry? -/
def QueueSt.room (q : QueueSt) : Bool := decide (q.occupancy < 2 ^ q.sizeLog2)

/-- Phase bit of the entry at the tail (R325): 1 on the first lap, 0 on the second, and so on. -/
def QueueSt.phase (q : QueueSt) : Bool := decide (q.tail.toNat / 2 ^ q.sizeLog2 % 2 = 0)

/-- Address of the slot at the tail, for entries of 32 bytes. -/
def QueueSt.slotAddr (q : QueueSt) : Nat := q.base + 32 * (q.tail.toNat % 2 ^ q.sizeLog2)

/-- Write bytes into a queue's ring memory: queue memory or the owner port's host memory (R320). -/
def Mems.writeRing (m : Mems) (q : QueueSt) (a : Nat) (bs : List Byte) : Mems :=
  if q.space then { m with bar4 := m.bar4.write a bs } else m.writeHost q.port a bs

/-- A vector's message: sent, or left pending when the vector is masked (R326, PCI Express specification). -/
def PortSt.message (p : PortSt) (v : Nat) : PortSt :=
  if bit ((p.msix.get {} v).control.toNat) 0 then { p with pba := p.pba.set false v true }
  else { p with sent := p.sent.mod 0 v (· + 1) }

/-- Put 32 bytes into the ring of queue `n`, advance its tail, and send its message if it is armed. -/
def HostSide.advance (h : HostSide) (n : Nat) : HostSide :=
  let q := h.queue n
  let h1 := h.setQueue n { q with tail := q.tail + 1, armed := false }
  if q.armed && q.vector != 0xFFFF then h1.modPort q.port (·.message q.vector)
  else h.setQueue n { q with tail := q.tail + 1 }

/-- How a completion fares at its queue (R325, R330). -/
inductive CqFate where
  | lost | put | hold | overflow
deriving DecidableEq, Repr

/-- Fate of one more entry at completion queue `q`. -/
def QueueSt.fate (q : QueueSt) : CqFate :=
  if q.kind != .completion || (q.state != .active && q.state != .draining) then .lost
  else if q.held.isEmpty && q.room then .put
  else if q.held.length < 256 then .hold
  else .overflow

/-- The queue-ERROR event of a port (R374). -/
def portErrSrc (p : Port) : Nat := 0x330 + p.val

/-- Hand one entry to completion queue `n` (R325). -/
def State.postOne (s : State) (n : Nat) (e : Completion) : State :=
  let q := s.queue n
  let f := q.fate
  let host' := match f with
    | .lost => s.host
    | .put => s.host.advance n
    | .hold => s.host.setQueue n { q with held := q.held ++ [e] }
    | .overflow => s.host.setQueue n { q with state := .error, cause := .cqOverflow }
  let mems' := if f = .put then s.mems.writeRing q q.slotAddr (e.bytes q.phase) else s.mems
  let obs' := match f with
    | .hold => s.obs.bump s.time.lea s.live Ctr.cqHeld q.port.val 1
    | .overflow => s.obs.fire s.time.lea s.live (portErrSrc q.port) 3 (BitVec.ofNat 32 n) 0
    | _ => s.obs
  { s with host := host', mems := mems', obs := obs' }

/-- Are the Spindles in step: one ACTIVE, the other in STANDBY (R356)? -/
def Spin.inStep (p : Spin) : Bool :=
  match p.claim with
  | some d => (p.spindle.get d).state = .active && (p.spindle.get (other d)).state = .standby
  | none => false

/-- Write a command's entry to a completion queue: twin entries of both Spindles while in step, one entry of the
holder with SOLE otherwise (R347). -/
def State.post (s : State) (cq : Nat) (seq : BitVec 32) (st : Status) (stamp : Lea) (res : BitVec 128)
    (takeover : Bool := false) : State :=
  let e (o : Nat) (sole : Bool) : Completion :=
    { seq := seq, status := st.code, origin := o, final := !(st = .accepted), sole := sole, takeover := takeover && decide (o = s.spin.holder.val),
      stamp := stamp, result := res }
  if s.spin.inStep then (s.postOne cq (e 0 false)).postOne cq (e 1 false)
  else s.postOne cq (e s.spin.holder.val true)

end Sys2Proof.Machine
end

