-- ==== Sys2Proof/Machine/Frames.lean ====
section
/-! DEFINITION. Skein frames and packets: the scrambler, the BCH(544, 520) code, CRC-32, and the frames of packets and raw
streams (R167-R170, R174, R178). -/

namespace Sys2Proof.Machine

/-! ### The scrambler (R170) -/

/-- `n` bits of the sequence of x^31 + x^28 + 1 from a register of its last 31 bits, the latest at bit 0: each bit is
the sum of those 31 and 28 before it. The first 31 bits are the register's, all ones (DEDUCED, log 43). -/
def scrambleBits : Nat → Nat → List Bool
  | 0, _ => []
  | n + 1, r => bit r 30 :: scrambleBits n ((2 * r + (bit r 30 ^^ bit r 27).toNat) % 2 ^ 31)

/-- The scrambling sequence of a frame's 520 bits, bit 0 first (R170). -/
def scramble : Nat := bitsOf (scrambleBits 520 (2 ^ 31 - 1))

/-! ### The code (R169) -/

/-- g(x) = m1(x) m3(x) with m1 = x^12 + x^6 + x^4 + x + 1 and m3 the minimal polynomial of the cube of its root. -/
def bchG : Nat := 0x141DF9D

/-- Remainder modulo g of a polynomial given from its highest coefficient down, from remainder `r`. -/
def bchRem : List Bool → Nat → Nat
  | [], r => r
  | b :: bs, r =>
    let t := 2 * r + b.toNat
    bchRem bs (if t ≥ 2 ^ 24 then t ^^^ bchG else t)

/-- The code word of a frame as a polynomial: frame bit i below 520 at x^(24 + i), check bit 520 + j at x^j. -/
def codeword (f : BitVec 544) : Nat := f.toNat % 2 ^ 520 * 2 ^ 24 + f.toNat / 2 ^ 520

/-- Bits of a number from bit `n` - 1 down. -/
def bitsDown : Nat → Nat → List Bool
  | 0, _ => []
  | n + 1, v => bit v n :: bitsDown n v

/-- Syndrome of a received frame. -/
def syndrome (f : BitVec 544) : Nat := bchRem (bitsDown 544 (codeword f)) 0

/-- CHECK of a message of 520 bits (R169): M(x) x^24 mod g. -/
def bchCheck (m : Nat) : Nat := bchRem (bitsDown 544 (m % 2 ^ 520 * 2 ^ 24)) 0

/-- x^k mod g for k from 0, `n` of them. -/
def bchPowers : Nat → Nat → List Nat
  | 0, _ => []
  | n + 1, p => p :: bchPowers n (if 2 * p ≥ 2 ^ 24 then (2 * p) ^^^ bchG else 2 * p)

/-- Places, in the code word, of a pattern of one or two errors that explains a nonzero syndrome; none when the frame
is uncorrectable (R169). -/
def errorPlaces (s : Nat) : Option (List Nat) :=
  let ps := bchPowers 544 1
  if ps.contains s then some [ps.idxOf s]
  else (ps.zipIdx.find? fun p => ps.contains (s ^^^ p.1)).map fun p => [p.2, ps.idxOf (s ^^^ p.1)]

/-- A decoded frame: its 520 scrambled-off bits and the number of bits corrected; none when uncorrectable. -/
def decodeFrame (f : BitVec 544) : Option (Nat × Nat) :=
  let s := syndrome f
  let c := codeword f
  let plain (w : Nat) : Nat := w / 2 ^ 24 % 2 ^ 520 ^^^ scramble
  if s = 0 then some (plain c, 0)
  else (errorPlaces s).map fun ks => (plain (ks.foldl (fun w k => w ^^^ 2 ^ k) c), ks.length)

/-- Fields of a decoded frame (R167, R168). -/
def frameKind (d : Nat) : Nat := d % 4
def frameLast (d : Nat) : Bool := bit d 2
def frameSeq (d : Nat) : BitVec 5 := BitVec.ofNat 5 (d / 8)
def framePayload (d : Nat) : Nat := d / 256 % 2 ^ 512

/-- Header and payload of a frame before scrambling (R167, R168). -/
def framePlain (kind : Nat) (last : Bool) (seq : BitVec 5) (payload : Nat) : Nat :=
  packNat [(0, 2, kind), (2, 1, last.toNat), (3, 5, seq.toNat)] + 256 * (payload % 2 ^ 512)

/-- The 544 bits of a frame as sent (R167-R170): scrambled header and payload, and their CHECK. -/
def encodeFrame (d : Nat) : BitVec 544 :=
  let m := (d % 2 ^ 520) ^^^ scramble
  BitVec.ofNat 544 (m + 2 ^ 520 * bchCheck m)

/-- The IDLE frame of a source whose next non-IDLE frame carries `seq`: an all-zero payload (R168). -/
def idleFrame (seq : BitVec 5) : BitVec 544 := encodeFrame (framePlain 0 false seq 0)

/-! ### CRC-32 (R174) -/

/-- One bit of the reflected CRC-32. -/
def crcBit (c : Nat) : Nat := if c % 2 = 1 then (c / 2) ^^^ 0xEDB88320 else c / 2

/-- One byte. -/
def crcByte (c : Nat) (b : Byte) : Nat := crcBit (crcBit (crcBit (crcBit (crcBit (crcBit (crcBit (crcBit (c ^^^ b.toNat))))))))

/-- IEEE 802.3 CRC-32 of bytes: polynomial 0x04C11DB7, each byte's bit 0 first, initial value and result inverted. -/
def crc32 (bs : List Byte) : Nat := bs.foldl crcByte 0xFFFFFFFF ^^^ 0xFFFFFFFF

/-! ### Packets (R174) -/

/-- Frames of a packet with `d` data bytes (R174). -/
def framesOf (d : Nat) : Nat := (160 + 8 * d + 511) / 512

/-- The 128-bit header of a packet. -/
def pktHeader (p : SPkt) : Nat :=
  packNat [(0, 6, p.dst), (6, 6, p.src), (12, 4, p.type_), (16, 16, p.tag.toNat), (32, 10, p.gen.toNat), (42, 11, p.length), (53, 1, p.poison.toNat),
    (54, 3, p.status), (57, 3, p.space), (60, 4, p.aop.toNat), (64, 64, p.addr.toNat)]

/-- Payloads of the frames of a packet: header, data, zero padding, and the CRC at the end of the last. -/
def pktPayloads (p : SPkt) : List Nat :=
  let body := leBytes 16 (pktHeader p) ++ p.data
  let n := framesOf p.data.length
  let all := body ++ List.replicate (64 * n - 4 - body.length) 0 ++ leBytes 4 (crc32 body)
  (List.range n).map fun i => leNat ((all.drop (64 * i)).take 64)

/-- Frames of a packet, the first carrying `seq`: PKT_FIRST, then PKT_NEXT, LAST in the last. -/
def pktFrames (seq : BitVec 5) (p : SPkt) : List Nat :=
  let ps := pktPayloads p
  ps.zipIdx.map fun x => framePlain (if x.2 = 0 then 1 else 2) (decide (x.2 + 1 = ps.length)) (seq + BitVec.ofNat 5 x.2) x.1

/-- The packet that the payloads of consecutive frames hold; none unless their number is that of its length and the CRC matches
(R174, R175). -/
def pktRead (ps : List Nat) : Option SPkt :=
  let bs := ps.flatMap (leBytes 64)
  let h := leNat (bs.take 16)
  let f (lo w : Nat) : Nat := h / 2 ^ lo % 2 ^ w
  let n := if f 12 4 = 0 then 0 else f 42 11
  if ps.length = framesOf n ∧ n ≤ 1024 ∧ crc32 (bs.take (16 + n)) = leNat (bs.drop (bs.length - 4)) then
    some { dst := f 0 6, src := f 6 6, type_ := f 12 4, tag := BitVec.ofNat 16 (f 16 16), gen := BitVec.ofNat 10 (f 32 10), length := f 42 11,
           poison := bit h 53, status := f 54 3, space := f 57 3, aop := BitVec.ofNat 4 (f 60 4), addr := BitVec.ofNat 64 (f 64 64),
           data := (bs.drop 16).take n }
  else none

/-! ### Raw streams (R178) -/

/-- Payload of a check frame: CHECK, BOBBIN, FRAMES. -/
def checkPayload (since_ : List Byte) (id frames : Nat) : Nat := packNat [(0, 32, crc32 since_), (32, 32, id), (64, 32, frames)]

/-- Frames of a raw stream from its data payloads, each with LAST for a check frame: a check frame follows every 256 data frames
and the last one. `n` data frames have gone, `since_` holds the bytes since the last check frame. -/
def rawPayloads (id : Nat) : List (List Byte) → Nat → List Byte → List (Bool × Nat)
  | [], _, _ => []
  | d :: ds, n, since_ =>
    let all := since_ ++ d
    if ds.isEmpty || (n + 1) % 256 = 0 then (false, leNat d) :: (true, checkPayload all id ((n + 1) % 2 ^ 32)) :: rawPayloads id ds (n + 1) []
    else (false, leNat d) :: rawPayloads id ds (n + 1) all

/-- Bytes in pieces of 64, the last one padded with zeros. -/
def pieces64 (bs : List Byte) : List (List Byte) :=
  (List.range ((bs.length + 63) / 64)).map fun i => let p := (bs.drop (64 * i)).take 64; p ++ List.replicate (64 - p.length) 0

/-- Frames of a raw stream on a bobbin, the first carrying `seq`. -/
def rawFrames (seq : BitVec 5) (id : Nat) (rows : List Byte) : List Nat :=
  (rawPayloads id (pieces64 rows) 0 []).zipIdx.map fun x => framePlain 3 x.1.1 (seq + BitVec.ofNat 5 x.2) x.1.2

end Sys2Proof.Machine
end

