-- ==== Sys2Proof/Machine/Places.lean ====
section
/-! DEFINITION. Where things lie: the HBM address hash and lines (R251), the home station of an address, reads and
writes of SRAM and HBM by module units, poison consumption (R96, R250), and which bobbins a packet is spread over
(R176). -/

namespace Sys2Proof.Machine

/-- The latest hourly summary; an empty one before the first (R412, R415). -/
def Cal.last (c : Cal) : Summary := c.summaries.getLast?.getD {}

/-- Has `ns` nanoseconds passed since `t0`? -/
def State.elapsed (s : State) (t0 : Lea) (ns : Nat) : Bool := decide (since t0 s.time.lea ≥ ns)

/-! ### HBM addresses (R251, R252) -/

/-- Bytes of HBM: physical addresses lie below this (R251). -/
def hbmBytes : Nat := 576000000000

/-- XOR of the four-bit digits of a number, `n` of them. -/
def xorNibbles : Nat → Nat → Nat
  | 0, _ => 0
  | n + 1, g => g % 16 ^^^ xorNibbles n (g / 16)

/-- Stack of a physical address (R251). -/
def stackOf (pa : Nat) : Nat := xorNibbles 8 (pa / 1024)

/-- Local byte address within the stack (R251). -/
def localAddr (pa : Nat) : Nat := 1024 * (pa / 1024 / 16) + pa % 1024

/-- Local line index (R251). -/
def localLine (pa : Nat) : Nat := localAddr pa / 128

/-- Pseudo-channel, bank and row of an address in its stack (R252). -/
def channelOf (pa : Nat) : Nat × Nat × Nat :=
  let l := localAddr pa / 1024
  let r := l / 64
  (l % 64 ^^^ l / 64 % 64 ^^^ l / 4096 % 64 ^^^ l / 262144 % 64, r % 16 ^^^ r / 16 % 16, r / 16)

/-- Memory-side die of a stack. -/
def dieOfStack (st : Nat) : Nat := st / 2

/-- Stack `k`. -/
def State.stk (s : State) (k : Nat) : StackSt := s.memory.stack.get {} k

/-- Change stack `k`. -/
def State.modStk (s : State) (k : Nat) (f : StackSt → StackSt) : State :=
  { s with memory := { s.memory with stack := s.memory.stack.mod {} k f } }

/-- STATE of a stack (R263). -/
def StkState.code : StkState → Nat
  | .off => 0 | .train => 1 | .repair => 2 | .ready => 3 | .throttled => 4 | .failed => 5

/-- Change a stack; a change of its state fires its event (R262, R374). -/
def State.setStk (s : State) (k : Nat) (f : StackSt → StackSt) : State :=
  (s.modStk k f).when (decide ((f (s.stk k)).state ≠ (s.stk k).state)) fun u => u.fire (0x102 + 8 * k) (f (s.stk k)).state.code k

/-! ### Poisoned lines and words -/

/-- What the record of a cause says of the descriptor that met it: its COOKIE (R89, R456). -/
def Desc.mark (d : Desc) (x : Cause) : Cause := { x with cookie := d.cookie }

/-- A module unit consumes a poisoned HBM line (R250): HBM_UE, the event, and the cause. -/
def State.hbmConsume (s : State) (pa : Nat) (f : Cause → Cause := id) : State :=
  let k := stackOf pa
  ((s.bump Ctr.hbmUe k).fire (0x100 + 8 * k) 0x0501 k pa).stamp 0x0501 k (16 + k) fun c => f { c with addr := pa }

/-- A read by the Spindle pair on behalf of a command (R250): counted, its event fired, no cause stamped. -/
def State.hbmSpindleRead (s : State) (pa : Nat) : State :=
  let k := stackOf pa
  (s.bump Ctr.hbmUe k).fire (0x100 + 8 * k) 0x0501 k pa

/-- First byte address of the range that lies in a poisoned HBM line. -/
def Mems.hbmBadAt (m : Mems) (a n : Nat) : Option Nat := ((linesOf a n).find? fun l => m.hbmPoison.get false l).map (· * 128)

/-- Is a poisoned line in the range that a command reads? Its read counts HBM_UE and fires (R250, R332). -/
def State.readCounts (s : State) (a n : Nat) : State :=
  match s.mems.hbmBadAt a n with
  | some pa => s.hbmSpindleRead pa
  | none => s

/-- An uncorrectable or poisoned SRAM word reaches a consumer of the module: the store stamps its cause, by cell
or block (R96). -/
def State.sramCause (s : State) (a : Nat) (f : Cause → Cause := id) : State :=
  if isBlockStore a then s.stamp 0x0202 (blockOfSram a) (blockOfSram a / 16) fun c => f { c with addr := a }
  else s.stamp 0x0201 (cellOfSram a) (cellOfSram a / 256) fun c => f { c with addr := a, cell := cellOfSram a }

/-- Words of a range that are poisoned and not wholly covered by it: a partial write reads and so consumes
them (R97). -/
def Mems.mergesBad (m : Mems) (a n : Nat) : Bool :=
  (wordsOf a n).any fun w => !(decide (a ≤ 8 * w) && decide (8 * w + 8 ≤ a + n)) && m.sramPoison.get false w

/-- Words of a region's stores and register files that are marked poisoned now (R96, R97). -/
def State.poisonWords (s : State) (r : Nat) : Nat :=
  (s.mems.sramPoison.filter fun e => decide (e.1 * 8 % 4294967296 / 268435456 = r)).length +
    ((s.cell.filter fun e => decide (regionOfCell e.1 = r)).map fun e => e.2.regBad.length).sum

/-- POISON_WORDS stays at 0xFFFF once reached (R101). -/
def State.notePoison (s : State) (r : Nat) : State :=
  s.when (decide (s.poisonWords r ≥ 0xFFFF)) fun s => s.modReg r fun x => { x with poisonFull := true }

/-- A store by a module unit: a merge into a poisoned word stamps the cause, and the word stays poisoned. -/
def State.storeSram (s : State) (a : Nat) (bs : List Byte) (bad : Bool := false) : State :=
  let s1 := s.when (s.mems.mergesBad a bs.length) (·.sramCause a)
  let s2 : State := { s1 with mems := s1.mems.writeSram a bs bad }
  s2.when bad (·.notePoison (a % 4294967296 / 268435456))

/-! ### Stores held under REPLAY (R60, R116) -/

/-- The running launch whose mask holds region `r`. -/
def State.launchOf (s : State) (r : Nat) : Option Launch := s.job.launches.find? fun l => l.running && bit l.mask r

/-- Has the tile issued: it waits for its comparison or for its replay? -/
def Tile.inFlight (t : Tile) : Bool := t.out.isSome || t.replay

/-- Do the bytes lie in an input range of a tile of cell `c` that is in flight under REPLAY (R60)? -/
def State.heldByReplay (s : State) (c a n : Nat) : Bool :=
  match (s.cel c).exec, s.launchOf (regionOfCell c) with
  | some tile, some l => l.replay && tile.inFlight && tile.prog.inputs.any fun r => decide (a < r.1 + r.2) && decide (r.1 < a + n)
  | _, _ => false

/-- A store into SRAM by a thread or through a stream engine: held back while R60 asks it, made otherwise. `who` waits for
it. -/
def State.putSram (s : State) (a : Nat) (bs : List Byte) (bad : Bool := false) (who : HeldBy := .nobody) : State :=
  let c := cellOfSram a
  if !isBlockStore a && s.heldByReplay c (a % 1048576) bs.length then
    s.modCel c fun x => { x with heldStores := x.heldStores ++ [{ addr := a % 1048576, data := bs, bad := bad, owner := who }] }
  else s.storeSram a bs bad

/-- Does a store of `who` wait in some cell? -/
def State.holds (s : State) (who : HeldBy) : Bool := s.cell.any fun e => e.2.heldStores.any fun h => decide (h.owner = who)

/-- Poisoned HBM lines that a write of `n` bytes covers only in part: it leaves them unchanged (R250). -/
def Mems.hbmMerges (m : Mems) (a n : Nat) : List Nat :=
  (linesOf a n).filter fun l => m.hbmPoison.get false l && !(decide (a ≤ 128 * l) && decide (128 * l + 128 ≤ a + n))

/-- The part of a write that lies in one 128-byte line: its address and bytes. -/
def lineSlice (a : Nat) (bs : List Byte) (l : Nat) : Nat × List Byte :=
  let lo := max a (128 * l)
  let hi := min (a + bs.length) (128 * l + 128)
  (lo, (bs.drop (lo - a)).take (hi - lo))

/-- Write HBM line by line; a partial write of a poisoned line is left out (R250). -/
def Mems.storeHbm (m : Mems) (a : Nat) (bs : List Byte) (bad : Bool) : Mems :=
  let skip := m.hbmMerges a bs.length
  (linesOf a bs.length).foldl (fun m l => if skip.contains l then m else
    let w := lineSlice a bs l
    m.writeHbm w.1 w.2 bad) m

/-- Lines of a stack that are poisoned now (R263). -/
def Mems.poisonLines (m : Mems) (k : Nat) : Nat := (m.hbmPoison.filter fun e => decide (stackOf (128 * e.1) = k)).length

/-- POISON_LINES stays at 0xFFFF once reached (R263). -/
def State.noteLines (s : State) (k : Nat) : State :=
  s.when (decide (s.mems.poisonLines k ≥ 0xFFFF)) fun s => s.modStk k fun x => { x with linesFull := true }

/-- A write to HBM by a module unit. Corrected lines that wait for their write-back are overtaken by it (R250). -/
def State.storeHbm (s : State) (a : Nat) (bs : List Byte) (bad : Bool := false) : State :=
  let s1 := s.forEach (s.mems.hbmMerges a bs.length) fun l s => s.hbmConsume (128 * l)
  let s2 := { s1 with
    mems := s1.mems.storeHbm a bs bad
    memory := { s1.memory with writeback := s1.memory.writeback.filter fun l => !(linesOf a bs.length).contains l } }
  s2.when bad fun s => s.forEach ((linesOf a bs.length).map fun l => stackOf (128 * l)).eraseDups fun k s => s.noteLines k

/-! ### Atomics (R254) -/

/-- One FP32 lane of FADD_F32: IEEE 754 with RNE, subnormals kept, the NaN of R254, overflow to infinity. -/
def fadd32 (a b : Nat) : Nat := ieeeAdd false a b

/-- Does the table of R254 allow the operation at this size? -/
def aopAllowed (aop size : Nat) : Bool :=
  match aop with
  | 2 => size = 8 || size = 16
  | 4 => size = 16
  | _ => decide (aop ≤ 11) && size = 8

/-- The new value of the operand: AOP code, old value, operand, compare value (R254). -/
def applyAop (aop : Nat) (old op cmp : BitVec 128) : BitVec 128 :=
  let o := old.setWidth 64
  let p := op.setWidth 64
  match aop with
  | 0 => (o + p).setWidth 128
  | 1 => BitVec.ofNat 128 (fadd32 (o.toNat % 2 ^ 32) (p.toNat % 2 ^ 32) + 2 ^ 32 * fadd32 (o.toNat / 2 ^ 32) (p.toNat / 2 ^ 32))
  | 2 => op
  | 3 => if o = cmp.setWidth 64 then p.setWidth 128 else old
  | 4 => if old = cmp then op else old
  | 5 => if p.slt o then p.setWidth 128 else old
  | 6 => if o.slt p then p.setWidth 128 else old
  | 7 => if p.ult o then p.setWidth 128 else old
  | 8 => if o.ult p then p.setWidth 128 else old
  | 9 => (o &&& p).setWidth 128
  | 10 => (o ||| p).setWidth 128
  | 11 => (o ^^^ p).setWidth 128
  | _ => old

/-! ### Homes of module-local addresses -/

/-- Region of an SRAM address (R91). -/
def regionOfSram (a : Nat) : Nat := a % 4294967296 / 268435456

/-- Is this an SRAM address (R91)? -/
def sramValid (a n : Nat) : Bool :=
  decide (a < 2 ^ 33) &&
  if isBlockStore a then decide (a % 16777216 + n ≤ 8388608) else decide (a % 1048576 + n ≤ 1048576)

/-- Do the bytes lie in the space: 0 SRAM within one store, 1 HBM (R91, R92, R251)? -/
def spaceValid (space a n : Nat) : Bool :=
  if space = 0 then sramValid a n else decide (space = 1) && decide (a + n ≤ hbmBytes)

/-- Skein station of an address (R11, R91, R251). -/
def stationOf (space a : Nat) : Nat := if space = 0 then regionOfSram a else 16 + stackOf a

/-- Does the unit answer: a region that is not in RESET, PARKED or OFF (R175, R101), a stack that is not FAILED
(R262)? A region outside the requester's half that is PARKED refuses seam traffic (R155). -/
def State.answers (s : State) (space a : Nat) : Bool :=
  if space = 0 then
    match (s.reg (regionOfSram a)).state with
    | .reset | .parked | .off => false
    | _ => true
  else !(s.stk (stackOf a)).state = .failed

/-- Read bytes of a space. -/
def Mems.readSpace (m : Mems) (space a n : Nat) : List Byte := if space = 0 then m.sram.read a n else m.hbm.read a n

/-- Are any bytes of a space poisoned? -/
def Mems.bad (m : Mems) (space a n : Nat) : Bool := if space = 0 then m.sramBad a n else m.hbmBad a n

/-- A unit of the module consumes a poisoned word or line of a space. -/
def State.consume (s : State) (space a n : Nat) (f : Cause → Cause := id) : State :=
  if space = 0 then s.sramCause a f else s.hbmConsume ((s.mems.hbmBadAt a n).getD a) f

/-- A unit of the module writes bytes of a space. -/
def State.store (s : State) (space a : Nat) (bs : List Byte) (bad : Bool := false) (who : HeldBy := .nobody) : State :=
  if space = 0 then s.putSram a bs bad who else s.storeHbm a bs bad

/-! ### Bobbins and the send log (R176, R177, R193) -/

/-- Identifier of a STANDING (0) or DEMAND (1) bobbin (R193). -/
def packetId (kind src dst index : Nat) : BitVec 32 :=
  BitVec.ofNat 32 (packNat [(0, 5, index), (18, 6, dst), (24, 6, src), (30, 2, kind)])

/-- Identifier of a PHASE bobbin (R193). -/
def phaseId (table phase number : Nat) : BitVec 32 :=
  BitVec.ofNat 32 (packNat [(0, 16, number), (16, 10, phase), (26, 4, table), (30, 2, 2)])

/-- The table that a handle names. -/
def State.table (s : State) (h : Nat) : Option TableSt := s.creel.table.get none h

/-- Bobbins of the live phase with their identifiers. -/
def State.liveBobs (s : State) : List (BitVec 32 × Bob) :=
  match s.creel.run with
  | some r => match r.live, s.table r.handle with
    | some p, some t => ((t.placed[p]?.getD []).zipIdx.map fun b => (phaseId r.handle p b.2, b.1)).filter fun b => !s.creel.out.contains b.1
    | _, _ => []
  | none => []

/-- Number in phase `p` + 1 of the bobbin of phase `p` that is carried into it (R203). -/
def carriedTo (t : TableSt) (p n : Nat) : Option Nat :=
  match (t.placed[p]?).bind (fun bs => bs[n]?), t.placed[p + 1]? with
  | some b, some bs => bs.findIdx? fun x => x.carry && decide (x.src = b.src) && decide (x.loop = b.loop) && decide (x.line = b.line) && decide (x.tx = b.tx)
  | _, _ => none

/-- Number, `k` phases on, of a bobbin of phase `p` that stays carried. -/
def carriedOn (t : TableSt) : Nat → Nat → Nat → Option Nat
  | 0, _, n => some n
  | k + 1, p, n => (carriedTo t p n).bind fun m => carriedOn t k (p + 1) m

/-- The identifier, in the live phase, of a bobbin named in an earlier phase and carried on since (R203); any other
identifier is itself. -/
def State.nowId (s : State) (id : BitVec 32) : BitVec 32 :=
  let n := id.toNat
  match s.creel.run with
  | some r => match r.live, s.table r.handle with
    | some l, some t =>
      let p := n / 65536 % 1024
      if n / 2 ^ 30 = 2 ∧ n / 2 ^ 26 % 16 = r.handle ∧ p < l then
        match carriedOn t (l - p) p (n % 65536) with | some m => phaseId r.handle l m | none => id
      else id
    | _, _ => id
  | none => id

/-- Is a station fenced (R209)? -/
def State.isFenced (s : State) (st : Nat) : Bool := bit s.creel.fenced st

/-! ### Rings (R165, R183) -/

/-- Number of a ring: 32 per station and loop, transmit 0-7, drop 8-15, ply-drop 16-31. -/
def ringNo (stn loop : Nat) (kind : RingKind) (n : Nat) : Nat :=
  (stn * 128 + loop) * 32 + match kind with | .tx => n % 8 | .drop => 8 + n % 8 | .ply => 16 + n % 16

/-- Number of a ring. -/
def ringIx (i : RingIx) : Nat := ringNo i.stn i.loop i.kind i.n

/-- Ply-drop rings exist on the even loops of compute stations (R15). -/
def ringExists (i : RingIx) : Bool := i.kind ≠ .ply || (decide (i.stn.val < 16) && decide (i.loop.val % 2 = 0))

/-- What a ring that is not listed is: LOCKED on its line of the initial map once the lock phase has run, REST
before (R183). -/
def Skein.ringDefault (k : Skein) : RingSt := if k.locked then { state := .locked } else {}

/-- Ring number `n`. -/
def State.ring (s : State) (n : Nat) : RingSt := s.skein.ring.get s.skein.ringDefault n

/-- Change ring number `n`. -/
def State.modRing (s : State) (n : Nat) (f : RingSt → RingSt) : State :=
  { s with skein := { s.skein with ring := s.skein.ring.mod s.skein.ringDefault n f } }

/-- Numbers of the rings a bobbin uses. -/
def Bob.rings (b : Bob) : List Nat :=
  ringNo b.src b.loop .tx b.tx :: b.drops.map fun d => ringNo d.1 b.loop (if b.kind = 3 then .ply else .drop) d.2

/-- Have all rings of a bobbin been locked and verified, so that it carries frames (R181, R183)? -/
def State.lit (s : State) (b : Bob) : Bool := b.rings.all fun r => decide ((s.ring r).state = .locked)

/-! ### Bobbins that carry packets (R176, R190, R191) -/

/-- STANDING bobbins that the Creel grants by the map in force, less those withdrawn since and those of fenced stations (R191,
R209). -/
def State.grantedStanding (s : State) : List (BitVec 32 × Bob) :=
  if s.creel.mapped then
    (s.creel.plan.filter fun x => !s.isFenced x.1 && !s.isFenced x.2.1).filterMap fun x =>
      let id := packetId 0 x.1 x.2.1 x.2.2.1
      if s.creel.out.contains id then none else some (id, x.2.2.2)
  else []

/-- Live STANDING bobbins with their placement. -/
def State.standingBobs (s : State) : List (BitVec 32 × Bob) := s.grantedStanding.filter fun b => s.lit b.2

/-- DEMAND bobbins that the Creel has granted. -/
def State.grantedDemand (s : State) : List (BitVec 32 × Bob) := s.creel.demand.map fun d => (packetId 1 d.src d.dst d.index, d.bob)

/-- Live DEMAND bobbins: lit from the lock and verification of their rings (R190). -/
def State.demandBobs (s : State) : List (BitVec 32 × Bob) := s.grantedDemand.filter fun b => s.lit b.2

/-- Bobbins that a station holds to a destination and that carry packets (R176, R190). -/
def State.bobbinsTo (s : State) (src dst : Nat) : List (BitVec 32) :=
  let goes (b : BitVec 32 × Bob) : Bool := decide (b.2.kind = 1) && decide (b.2.src = src) && b.2.drops.any fun d => decide (d.1 = dst)
  ((s.standingBobs.filter goes) ++ (s.demandBobs.filter goes) ++ (s.liveBobs.filter goes)).map (·.1)

/-- The bobbin that carries a packet: number TAG modulo their count (R176). -/
def State.pick (s : State) (src dst tag : Nat) : Option (BitVec 32) :=
  let l := s.bobbinsTo src dst
  l[tag % l.length]?

/-- The sender of a bobbin, whichever phase's identifier names it (R203). -/
def State.snd (s : State) (id : BitVec 32) : Sender := s.skein.snd.get {} (s.nowId id).toNat

/-- Change the sender of a bobbin. -/
def State.modSnd (s : State) (id : BitVec 32) (f : Sender → Sender) : State :=
  { s with skein := { s.skein with snd := s.skein.snd.mod {} (s.nowId id).toNat f } }

/-- Append frames of one request to the send log, which keeps the last 32 non-IDLE frames; their SEQ advances by one each, and the
packets that no longer have a frame in the log are forgotten (R168, R177). -/
def Sender.put (x : Sender) (tag : Nat) (frames : List Nat) : Sender :=
  let all := x.log ++ frames.map fun f => (f, tag)
  let log := all.drop (all.length - 32)
  { x with nextSeq := x.nextSeq + BitVec.ofNat 5 frames.length, log := log, sent := x.sent.filter fun p => log.any fun e => decide (e.2 = p.tag.toNat) }

/-- A packet goes out (R174). -/
def Sender.send (x : Sender) (p : SPkt) : Sender :=
  let y := x.put p.tag.toNat (pktFrames x.nextSeq p)
  { y with sent := y.sent.filter (fun q => decide (q.tag ≠ p.tag)) ++ [p] }

/-- Packets that waited go out in order. -/
def Sender.flush (x : Sender) : Sender := x.queue.foldl (fun y p => y.send p) { x with queue := [] }

/-- Lea time from which a bobbin carries non-IDLE frames: 64 IDLE frames after its grant, or the end of its switch (R171, R207). -/
def State.opensAt (s : State) (id : BitVec 32) : Lea := if id.toNat < 2 ^ 30 then s.creel.commitAt + 544 else (s.snd id).openAt

/-- Does the source send only IDLE frames on the bobbin now (R171, R186)? -/
def State.idles (s : State) (id : BitVec 32) : Bool := (s.snd id).idleOnly || before s.time.lea (s.opensAt id)

/-- A DEMAND bobbin that carries a packet at `now` is not idle (R190). -/
def usedDemand (id : BitVec 32) (now : Lea) (ds : List Demand) : List Demand :=
  ds.map fun x => if packetId 1 x.src x.dst x.index = id then { x with at_ := now } else x

/-- A packet is given to a bobbin: its frames go out, or wait while the source may send only IDLE frames (R171, R186). -/
def State.sendOn (s : State) (id : BitVec 32) (p : SPkt) : State :=
  let s1 := s.modSnd id fun x => if s.idles id then { x with queue := x.queue ++ [p] } else x.flush.send p
  { s1 with creel := { s1.creel with demand := usedDemand id s.time.lea s1.creel.demand } }

/-- A station sends a packet over the Skein (R176, R177). Across the seam of a compute die, and within a station, nothing crosses
the Skein (R14). -/
def State.send (s : State) (p : SPkt) : State :=
  if p.src = p.dst || (decide (p.src < 16) && decide (p.dst < 16) && decide (p.src / 2 = p.dst / 2)) then s
  else match s.pick p.src p.dst p.tag.toNat with
    | some id => s.sendOn id p
    | none => s

/-- Waiting packets go out on the bobbins whose 64 IDLE frames have passed (R171). -/
def State.openBobs (s : State) : State :=
  s.forEach (s.skein.snd.filter fun e => !e.2.queue.isEmpty) fun e s =>
    let id := BitVec.ofNat 32 e.1
    s.when (!s.idles id) fun s => s.modSnd id (·.flush)

/-- The packet of a request of the module in slot `tag` to a station (R174): TYPE 0 READ_REQ, 2 WRITE, 4 ATOMIC. -/
def reqPkt (src dst type_ tag : Nat) (gen : BitVec 10) (space addr length : Nat) (data : List Byte := []) (bad : Bool := false) (aop : Nat := 0) : SPkt :=
  { dst := dst, src := src, type_ := type_, tag := BitVec.ofNat 16 tag, gen := gen, length := if type_ = 0 then length else data.length, poison := bad,
    space := space, aop := BitVec.ofNat 4 aop, addr := BitVec.ofNat 64 addr, data := data }

/-- The reply to a request's packet (R174): TYPE one more, no address of its own. -/
def replyPkt (src dst type_ : Nat) (tag : BitVec 16) (gen : BitVec 10) (status : Nat) (bad : Bool) (data : List Byte) : SPkt :=
  { dst := dst, src := src, type_ := type_, tag := tag, gen := gen, length := data.length, poison := bad, status := status, data := data }

end Sys2Proof.Machine
end

