-- ==== Sys2Proof/Machine/RingBase.lean ====
section
/-! DEFINITION. The core rings as state: ways and taps, a slot on its wires, injection queues, credits, VC0 queues (R125-R134). -/

namespace Sys2Proof.Machine

/-! ### Ways and taps (R126, R127) -/

/-- Hops from station `a` to station `b` going CW. -/
def hopsCw (a b : Nat) : Nat := (b + 16 - a) % 16

/-- The shorter direction is CW; at 8 hops it is CW too (R126). -/
def goesCw (a b : Nat) : Bool := decide (hopsCw a b ≤ 8)

/-- Hops the shorter way (R126). -/
def ringHops (a b : Nat) : Nat := if goesCw a b then hopsCw a b else 16 - hopsCw a b

/-- Tap stations of a gateway port: 1 SKEIN, 2 SEAM (R127). -/
def tapsOf (port : Nat) : Nat × Nat := if port = 1 then (0, 8) else (4, 12)

/-- Tap at which a flit of station `b` leaves: the nearer; of two as near, the one it reaches CW (R127). -/
def outTap (port b : Nat) : Nat :=
  let t := tapsOf port
  if ringHops b t.1 < ringHops b t.2 ∨ (ringHops b t.1 = ringHops b t.2 ∧ hopsCw b t.1 < hopsCw b t.2) then t.1 else t.2

/-- Tap at which a flit for station `b` enters: the nearer; of two as near, the one it goes CW from (R127). -/
def inTap (port b : Nat) : Nat :=
  let t := tapsOf port
  if ringHops t.1 b < ringHops t.2 b ∨ (ringHops t.1 b = ringHops t.2 b ∧ hopsCw t.1 b < hopsCw t.2 b) then t.1 else t.2

/-- Lane of a ring and direction: 2q + d, d 0 CW and 1 CCW (R142 RSV_ACTIVE). -/
def laneNo (ring : Nat) (cw : Bool) : Nat := 2 * ring + if cw then 0 else 1

/-- Lane of a flit. -/
def flitLane (f : Flit) : Nat := laneNo f.ring.val f.cw

/-- The lane of the same ring that runs the other way. -/
def backLane (lane : Nat) : Nat := if lane % 2 = 0 then lane + 1 else lane - 1

/-! ### What a slot carries on its wires (R128, R129, R131) -/

/-- Number of ones of a number below 2^64. -/
def onesIn (n : Nat) : Nat := (onesOf 64 n).length

/-- Even parity bits of `k` groups of `w` bits, the lowest first. -/
def parities (w k n : Nat) : Nat := bitsOf ((List.range k).map fun i => decide (onesIn (n / 2 ^ (w * i) % 2 ^ w) % 2 = 1))

/-- HEADER of a slot without its parity (R129). -/
def RingSlot.fields (x : RingSlot) : Nat :=
  let body := match x.flit with
    | some f => packNat [(0, 1, 1), (1, 2, f.vc.val), (3, 4, f.dst.val), (7, 2, f.dstPort.val), (9, 4, f.src.val), (13, 2, f.srcPort.val),
        (15, 4, f.type_), (19, 1, f.last.toNat), (20, 1, f.poison.toNat), (21, 8, f.rangeCount), (29, 16, f.tag.toNat), (45, 12, f.group.toNat),
        (57, 6, (f.bytes + 7) / 8 - 1), (64, 48, f.addr.toNat)]
    | none => 0
  let back := match x.credit with
    | some c => packNat [(112, 4, c.1), (116, 2, c.2.1), (118, 1, 1)]
    | none => 0
  let mark := match x.rsv with
    | some st => packNat [(119, 4, st), (123, 1, 1)]
    | none => 0
  body + back + mark

/-- HEADER of a slot: even parity per 32 bits stands in [127:124] (R128, R129). -/
def RingSlot.header (x : RingSlot) : Nat := x.fields + 2 ^ 124 * parities 32 4 x.fields

/-- A VC0 message in the CONTROL subslot without its parity (R131). -/
def ctrlFields (m : CtrlMsg) : Nat :=
  packNat [(0, 1, 1), (1, 3, m.kind.val), (4, 4, m.dst.val), (8, 1, m.broadcast.toNat), (9, 4, m.src.val), (13, 12, m.number), (25, 8, m.count),
    (33, 8, m.gen.toNat)]

/-- The CONTROL subslot: even parity per 16 bits stands in [63:60] (R128, R131). -/
def ctrlWord (m : CtrlMsg) : Nat := ctrlFields m + 2 ^ 60 * parities 16 4 (ctrlFields m)

/-- DATA of a slot and its check bits, 8 for each 64-bit word, of a SECDED code that the spec does not name (R128; DESIGN CHOICE,
log 134). -/
def RingSlot.data (x : RingSlot) : List (Word × BitVec 8) :=
  let bs := match x.flit with | some f => f.data | none => []
  (List.range 32).map fun i =>
    let w : Word := BitVec.ofNat 64 (leNat ((bs.drop (8 * i)).take 8))
    (w, Config.secded w)

/-! ### Credits (R132) -/

/-- Number of a credit pool (R132). -/
def creditIx (k : CreditKey) : Nat :=
  (((k.sender.val * 16 + k.receiver.val) * 4 + k.ring.val) * 2 + k.cw.toNat) * 4 + k.vc.val

/-- Credits of a pool (R132). -/
def creditsOf (vc : Nat) : Nat := if vc = 3 then 4 else 8

/-- The pool that a flit takes its credit from: its sender and its destination station. -/
def flitPool (f : Flit) : Nat := creditIx { sender := f.src, receiver := f.dst, ring := f.ring, cw := f.cw, vc := f.vc }

/-- Replies of VC2 and VC3 take no credits (R132). -/
def isReply (f : Flit) : Bool := f.vc ≠ 1 && (f.type_ = 1 || f.type_ = 3 || f.type_ = 5)

/-- Does the sender hold a credit for the flit (R132)? -/
def RegionSt.holdsCredit (x : RegionSt) (f : Flit) : Bool := isReply f || decide (x.credits.get 0 (flitPool f) < creditsOf f.vc)

/-- The flit's credit is taken. -/
def State.takeCredit (s : State) (r : Nat) (f : Flit) : State :=
  s.when (!isReply f) fun s => s.modReg r fun x => { x with credits := x.credits.mod 0 (flitPool f) (· + 1) }

/-- Station `st` has drained the flit: its credit goes back to its sender in the lane that runs the other way (R132). -/
def State.giveBack (s : State) (r st : Nat) (f : Flit) : State :=
  s.when (!isReply f && decide (f.src.val ≠ st)) fun s => s.modReg r fun x =>
    { x with creditBack := x.creditBack.mod [] (8 * st + backLane (flitLane f)) (· ++ [(f.src.val, f.vc.val)]) }

/-! ### Gateways (R127, R152) -/

/-- The crossing behind a gateway port of a region. -/
def RegionSt.crossing (x : RegionSt) (port : Nat) : Xing := if port = 1 then x.stn else x.seam

/-- Change it. -/
def State.modGate (s : State) (r port : Nat) (f : Xing → Xing) : State :=
  s.modReg r fun x => if port = 1 then { x with stn := f x.stn } else { x with seam := f x.seam }

/-- A gateway takes a flit: into the crossing's queue of 16 words, and its credit goes back; into the gateway's own buffer, the
credit with it, while the queue is full or the crossing holds credits (R152, R153). -/
def State.gateTakes (s : State) (r st : Nat) (f : Flit) : State :=
  let x := (s.reg r).crossing f.dstPort
  if x.hold || decide (x.queue.length ≥ 16) || !x.held.isEmpty then s.modGate r f.dstPort fun x => { x with held := x.held ++ [f] }
  else (s.modGate r f.dstPort fun x => { x with queue := x.queue ++ [f] }).giveBack r st f

/-! ### Injection queues (R86, R126, R130, R134) -/

/-- Number of an injection queue: station, lane, VC. -/
def queueNo (st lane vc : Nat) : Nat := 4 * (8 * st + lane) + vc

/-- A flit waits at its source station; one for that very station rides no slot: its gateway takes it, or its block, where a flit
from a gateway has acted already (DEDUCED, log 42). -/
def State.queueFlit (s : State) (r source : Nat) (f : Flit) : State :=
  if f.src = f.dst then s.when (decide (f.dstPort = 1 ∨ f.dstPort = 2)) fun s => s.gateTakes r f.src f
  else s.modReg r fun x => { x with inject := x.inject.mod [] (queueNo f.src (flitLane f) f.vc) (· ++ [{ flit := f, source := source }]) }

/-- A flit from `src` to `dst` the shorter way, on ring tracker mod 4 (R86, R126). -/
def flitOf (src dst srcPort dstPort vc type_ tag : Nat) : Flit :=
  { ring := Fin.ofNat 4 tag, cw := goesCw src dst, vc := Fin.ofNat 4 vc, dst := Fin.ofNat 16 dst, dstPort := Fin.ofNat 4 dstPort,
    src := Fin.ofNat 16 src, srcPort := Fin.ofNat 4 srcPort, type_ := type_, tag := BitVec.ofNat 16 tag }

/-- The flits of `n` bytes from an address on, 256 bytes each at most; the last carries LAST (R128, R129). -/
def ringFlits (f : Flit) (a n : Nat) (data : List Byte) : List Flit :=
  let k := max 1 ((n + 255) / 256)
  (List.range k).map fun i => { f with
    addr := BitVec.ofNat 48 (a + 256 * i)
    bytes := min 256 (n - 256 * i)
    last := decide (i + 1 = k)
    data := (data.drop (256 * i)).take 256 }

/-- The port that leads from a region to a place: 0 within the region, 2 the seam, 1 the Skein station (R127). -/
def portTo (r space a : Nat) : Nat :=
  if space = 0 ∧ regionOfSram a = r then 0 else if space = 0 ∧ regionOfSram a / 2 = r / 2 then 2 else 1

/-- Does a core ring alone lead from block `b` to a place: another block of the region? -/
def byRing (b space a : Nat) : Bool := decide (portTo (b / 16) space a = 0) && decide (blockOfSram a ≠ b)

/-- An access of block `b` leaves on the rings, on VC2 for a thread and VC3 for a descriptor (R130): to the block it reaches, or
to the gateway that leads there. Type 0 reads, 2 writes, 4 is an atomic (R129). -/
def State.ringAccess (s : State) (b tag vc type_ space a n : Nat) (data : List Byte) (bad : Bool) : State :=
  let r := b / 16
  let port := portTo r space a
  let dst := if port = 0 then blockOfSram a % 16 else outTap port (b % 16)
  let f := { flitOf (b % 16) dst 0 port vc type_ tag with poison := bad, gen := (((s.blk b).slots.get {} (tag % 256)).gen) }
  s.when (decide (port ≠ 0) || byRing b space a) fun s => s.forEach (ringFlits f a n data) fun f s => s.queueFlit r 0 f

/-! ### VC0 (R131) -/

/-- Messages queued at a station. -/
def RegionSt.vc0Depth (x : RegionSt) (st : Nat) : Nat := (x.vc0.get [] st).length

/-- Is the VC0 queue of a block's station full? -/
def State.vc0Full (s : State) (b : Nat) : Bool := decide ((s.reg (b / 16)).vc0Depth (b % 16) ≥ 32)

/-- A station queues a message, which tells the other stations what has acted at its source: a broadcast to 8 stations CW and 7
CCW, another the shorter way (DESIGN CHOICE, log 133). Nothing is queued above 32. -/
def State.tell (s : State) (r : Nat) (m : CtrlMsg) : State :=
  let x := s.reg r
  s.when (decide (x.vc0Depth m.src.val < 32) && (m.broadcast || decide (m.src ≠ m.dst))) fun s => s.modReg r fun x =>
    let out : CtrlOut := { msg := m, cw := m.broadcast || goesCw m.src m.dst, ccw := m.broadcast || !goesCw m.src m.dst }
    { x with vc0 := x.vc0.mod [] m.src.val (· ++ [out]), vc0Max := max x.vc0Max (x.vc0Depth m.src.val + 1) }

/-- A token signal of block `b` is told to every station (R118, R131). -/
def State.tellSignal (s : State) (b k n : Nat) : State :=
  s.tell (b / 16) { kind := 0, dst := 0, src := Fin.ofNat 16 b, number := k, count := n, broadcast := true }

/-- A barrier arrival of block `b` is told to the barrier unit at station 0 (R131). -/
def State.tellArrive (s : State) (b k : Nat) : State :=
  s.tell (b / 16) { kind := 1, dst := 0, src := Fin.ofNat 16 b, number := k, gen := BitVec.ofNat 8 (((s.reg (b / 16)).barriers.get {} k).gen) }

/-- A barrier release is told to every station by the barrier unit at station 0 (R131). -/
def State.tellRelease (s : State) (r k gen : Nat) : State :=
  s.tell r { kind := 2, dst := 0, src := 0, number := k, gen := BitVec.ofNat 8 gen, broadcast := true }

end Sys2Proof.Machine
end

