-- ==== Sys2Proof/Machine/Operands.lean ====
section
/-! DEFINITION. Operand forms of Selkan commands: inline parameters, parameter blocks, the signature trailer, and
the checks of check 4 of R338 that are common to all commands (R331-R333). -/

namespace Sys2Proof

open Machine

/-- Port of the command's queue. -/
def Cmd.port (c : Cmd) (s : State) : Port := (s.queue c.queue.val).port

/-- Is the parameter block form used (R331 FLAGS [0])? -/
def Cmd.ptr (c : Cmd) : Bool := c.flags.getLsbD 0

/-- Is the command SIGNED (R331 FLAGS [1])? -/
def Cmd.signed (c : Cmd) : Bool := c.flags.getLsbD 1

/-- Field of `n` inline parameter bytes from entry byte `lo`. -/
def Cmd.inl (c : Cmd) (lo n : Nat) : Nat := c.params.toNat / 256 ^ (lo - 16) % 256 ^ n

/-- Where a pointer, a length and a space select bytes (R332): space 0 is the issuing port's host memory, 1 is
HBM. None when it cannot be read. -/
def readSpace (s : State) (p : Port) (space addr len : Nat) : Option (List Byte) :=
  if space = 0 then some ((s.mems.host p).read addr len)
  else if space = 1 then
    if decide (addr + len ≤ 576000000000) && !s.mems.hbmBad addr len then some (s.mems.hbm.read addr len) else none
  else none

/-- The parameter block (R332); none when it cannot be read. -/
def Cmd.block (c : Cmd) (s : State) : Option (List Byte) :=
  let len := c.inl 24 4
  if 1 ≤ len ∧ len ≤ 65536 then readSpace s (c.port s) (c.inl 28 1) (c.inl 16 8) len else none

/-- Length of the signature trailer (R333). -/
def trailerLen : Nat := 80

/-- Parameter bytes from byte 16 on: inline, or the block without its trailer when the command is SIGNED. -/
def Cmd.bytes (c : Cmd) (s : State) : List Byte :=
  if c.ptr then
    let b := (c.block s).getD []
    if c.signed then b.take (b.length - trailerLen) else b
  else leBytes 48 c.params.toNat

/-- Field of `n` parameter bytes from byte `lo`, in either form. -/
def Cmd.field (c : Cmd) (s : State) (lo n : Nat) : Nat := leNat (((c.bytes s).drop (lo - 16)).take n)

/-- KEY_SLOT of the signature trailer (R333). -/
def Cmd.keySlot (c : Cmd) (s : State) : Nat :=
  let b := (c.block s).getD []
  leNat ((b.drop (b.length - trailerLen)).take 4)

/-- What the common rules say of a command (R345): opcode, the bytes its definition names as (first, last),
marks, and whether the parameter block form is allowed. -/
structure CmdSpec where
  op : Nat
  named : List (Nat × Nat) := []
  long : Bool := false
  needsJob : Bool := false
  noJob : Bool := false
  nvm : Bool := false
  inHeld : Bool := false
  blockForm : Bool := false
deriving DecidableEq, Repr

/-- First parameter byte that no named field covers and that is not 0 (R331). -/
def strayByte (named : List (Nat × Nat)) (bs : List Byte) : Option Nat :=
  (bs.zipIdx.find? fun b => b.1 != 0 && !named.any fun f => decide (f.1 ≤ b.2 + 16) && decide (b.2 + 16 ≤ f.2)).map (·.2 + 16)

/-- First byte of the entry that breaks R331 or R332, before the command's own checks (check 4 of R338). -/
def Cmd.malformed (c : Cmd) (s : State) (k : CmdSpec) : Option Nat :=
  let f := c.flags.toNat
  if f ≥ 4 || (f != 0 && !k.blockForm) || f = 2 then some 2
  else if c.ptr then
    if c.paramLen != 16 then some 3
    else if c.inl 24 4 = 0 || c.inl 24 4 > 65536 then some 24
    else if c.inl 28 1 > 1 then some 28
    else if c.inl 29 19 != 0 then (strayByte [(16, 28)] (leBytes 48 c.params.toNat))
    else match c.block s with
      | none => some 16
      | some b =>
        if c.signed && b.length < trailerLen then some 24
        else if c.signed && leNat ((b.drop (b.length - 76)).take 12) != 0 then some (16 + (b.length - 76))
        else if b.length - (if c.signed then trailerLen else 0) + 15 < (k.named.map (·.2)).foldl max 15 then some 24
        else strayByte k.named (c.bytes s)
  else if c.paramLen.toNat > 48 then some 3
  else match strayByte k.named (c.bytes s) with
    | some b => some b
    | none => strayByte [(16, 15 + c.paramLen.toNat)] (c.bytes s)

end Sys2Proof
end

