-- ==== Sys2Proof/Machine/Selkan.lean ====
section
/-! DEFINITION. Taking a Selkan command: the eleven checks of R338 in their order, sequence numbers, the ACCEPTED
and final entries, and commands in progress (chapter 16). -/

namespace Sys2Proof.Machine

/-- What a command's own chapter says of the checks: first wrong parameter byte (check 4), an absent feature
(check 3), object state not met (check 6), denied (check 7), signature needed and its outcome (check 8), a
resource held with the hint in us (check 11). -/
structure Verdict where
  noFeature : Bool := false
  bad : Option Nat := none
  state : Bool := false
  denied : Bool := false
  needSig : Bool := false
  sigOk : Bool := true
  /-- what stands in the way is no signature: an image's SVN, MIN_IO_REV or header (R434) -/
  quiet : Bool := false
  busy : Option Nat := none
  /-- range of HBM that the command's parameters name and the Spindle pair reads -/
  reads : Option (Nat × Nat) := none
deriving DecidableEq, Repr

/-- A refusal: status, result, and whether a signature was offered and refused (R432). -/
structure Reject where
  status : Status
  result : BitVec 128 := 0
  sigRefused : Bool := false
deriving DecidableEq, Repr

/-- Is SEQ new on its queue (R335)? -/
def seqNew (q : QueueSt) (seq : BitVec 32) : Bool := !q.seqSeen || before32 q.lastSeq seq

/-- L commands in progress of a family, launches and returns of the light apart (R340). -/
def familyBusy (s : State) (op : Nat) : Bool :=
  s.spin.lops.any fun l => decide (l.opcode / 256 = op / 256) && decide (l.opcode ≠ 0x0304) && decide (l.opcode ≠ 0x0811)

/-- Commands that family exclusion does not refuse (R340): LAUNCH, JOB_ABORT, MODULE_RESET, LIGHT_RETURN. -/
def familyExempt (op : Nat) : Bool := op = 0x0304 || op = 0x0306 || op = 0x0102 || op = 0x0811

/-- Commands never refused with BUSY (R340). -/
def neverBusy (op : Nat) : Bool := op = 0x0306 || op = 0x0102

/-- BUSY of check 11, with the hint of R344. -/
def busyHint (s : State) (k : CmdSpec) (v : Verdict) : Option Nat :=
  if neverBusy k.op then none
  else if k.long && decide (s.spin.lops.length ≥ 256) then some 0
  else if k.long && !familyExempt k.op && familyBusy s k.op then some 0
  else v.busy

/-- Result of a HELD completion (R344). -/
def heldResult (s : State) : BitVec 128 := result [(16, 4, s.jobId.toNat), (24, 4, s.mod.heldCause)]

/-- The first check of R338 that fails, in order. -/
def check (s : State) (k : CmdSpec) (c : Cmd) (v : Verdict) : Option Reject :=
  if !seqNew (s.queue c.queue.val) c.seq then some { status := .badSeq }
  else if c.deadline != 0 && !before c.stamp c.deadline then some { status := .late }
  else if v.noFeature then some { status := .badOpcode }
  else match c.malformed s k with
    | some b => some { status := .badParam, result := result [(16, 2, b)] }
    | none => match v.bad with
      | some b => some { status := .badParam, result := result [(16, 2, b)] }
      | none =>
        if s.mod.state = .held && !k.inHeld then some { status := .held, result := heldResult s }
        else if (k.needsJob && !s.jobOpen) || (k.noJob && s.jobOpen) || v.state then some { status := .badState }
        else if v.denied then some { status := .denied }
        else if v.needSig && !(c.signed && v.sigOk) then some { status := .badSignature, sigRefused := c.signed && !v.quiet }
        else if k.nvm && !s.pow.tempOk then some { status := .tempForbidden }
        else if k.nvm && !s.pow.supplyOk then some { status := .supplyForbidden }
        else match busyHint s k v with
          | some h => some { status := .busy, result := result [(16, 4, h)] }
          | none => none

/-- Completion queue of a command queue. -/
def State.cqOf (s : State) (q : Nat) : Nat := (s.queue q).cq

/-- Is this the released entry of the command? -/
def Stamped.is (m : Stamped) (c : Cmd) : Bool := decide (m.queue = c.queue.val) && decide (leNat ((m.entry.drop 4).take 4) = c.seq.toNat)

/-- The command is executed: it leaves the merged order (R327). -/
def State.take (s : State) (c : Cmd) : State :=
  { s with spin := { s.spin with merged := s.spin.merged.eraseP fun m => m.is c } }

/-- LAST_SEQ takes the SEQ of a command whose SEQ was new (R335). -/
def State.setSeq (s : State) (c : Cmd) : State :=
  if s.spin.mute = some c then s else s.modQueue c.queue.val fun q => { q with lastSeq := c.seq, seqSeen := true }

/-- Is this the command in progress? -/
def LOp.is (l : LOp) (c : Cmd) : Bool := decide (l.cmd = c)

/-- A command leaves progress. -/
def State.leave (s : State) (c : Cmd) : State :=
  { s with spin := { s.spin with lops := s.spin.lops.filter fun l => !l.is c } }

/-- Was the command's queue lost with its port while it ran (R330)? -/
def State.lostCmd (s : State) (c : Cmd) : Bool := decide (s.spin.mute = some c) || s.spin.lops.any fun l => l.is c && l.lost

/-- Was the claim taken over while the command was in progress (R347)? -/
def State.tookOver (s : State) (c : Cmd) : Bool := decide (s.spin.midStep = some c) || s.spin.lops.any fun l => l.is c && l.takeover

/-- A command's final entry, and the end of its progress (R339). The entries of a command whose queue went with its port
are discarded (R330). -/
def State.done (s : State) (c : Cmd) (st : Status) (res : BitVec 128 := 0) : State :=
  if s.lostCmd c then s.leave c else (s.leave c).post (s.cqOf c.queue.val) c.seq st s.time.lea res (s.tookOver c)

/-- Effects of a refusal beside its entry: NVM_REFUSED (R399), SEC_SIG_FAIL and event 0x3F2 (R432). -/
def State.refusalEffects (s : State) (op : Nat) (r : Reject) : State :=
  let s1 := s.when (r.status = .tempForbidden || r.status = .supplyForbidden) (·.bump Ctr.nvmRefused)
  s1.when r.sigRefused fun s => (s.bump Ctr.secSigFail).fire 0x3F2 (Config.sigCheckCode op).toNat

/-- A command that a check refuses (R338, R343). -/
def State.refuse (s : State) (op : Nat) (c : Cmd) (r : Reject) : State :=
  ((s.when (!(r.status = .badSeq)) (·.setSeq c)).refusalEffects op r).done c r.status r.result

/-- A command that passes: LAST_SEQ, COMMANDS, and for an L command its ACCEPTED entry and its place in progress
(R339, R334, R360). -/
def State.accept (s : State) (k : CmdSpec) (c : Cmd) : State :=
  let s1 := s.setSeq c
  let s2 := { s1 with spin := { s1.spin with
    commands := s1.spin.commands + 1
    lops := if k.long then s1.spin.lops ++ [({ opcode := k.op, cmd := c, lost := decide (s.spin.mute = some c), takeover := decide (s.spin.midStep = some c) } : LOp)] else s1.spin.lops } }
  s2.when (k.long && decide (s.spin.mute ≠ some c)) fun s => s.post (s.cqOf c.queue.val) c.seq .accepted c.stamp 0 (decide (s.spin.midStep = some c))

/-- Is the command's Distaff cut off from the claim holder by a link that is down (R359)? -/
def State.cutOff (s : State) (c : Cmd) : Bool :=
  decide (s.spin.width < 4) && s.spin.present.a && s.spin.present.b &&
  match s.spin.claim with
  | some h => decide (h ≠ c.port s)
  | none => false

/-- Ranges of HBM read for a command: its parameter block, and what its parameters name (R332). -/
def cmdReads (c : Cmd) (v : Verdict) : List (Nat × Nat) :=
  (if c.ptr && decide (c.inl 28 1 = 1) && decide (c.inl 24 4 ≤ 65536) then [(c.inl 16 8, c.inl 24 4)] else []) ++ v.reads.toList

/-- Poisoned lines that the Spindle pair meets on behalf of a command count and fire (R250). A range beyond HBM is not
read. -/
def State.readFor (s : State) (c : Cmd) (v : Verdict) : State :=
  s.forEach ((cmdReads c v).filter fun r => decide (r.1 + r.2 ≤ hbmBytes)) fun r s => s.readCounts r.1 r.2

/-- Does a refusal come before the parameters are read (checks 1 to 3 of R338)? -/
def Reject.early (r : Reject) : Bool := r.status = .badSeq || r.status = .late || r.status = .badOpcode

/-- Taking one command: BAD_STATE when its Distaff is cut off (R359); otherwise the checks, then `act`, which gives the
command's effect and its final entry. -/
def takeCmd (k : CmdSpec) (c : Cmd) (v : Verdict) (act : State → State) (s : State) : State :=
  if s.cutOff c then (s.take c).done c .badState
  else match check s k c v with
    | some r => ((s.take c).when (!r.early) fun s => s.readFor c v).refuse k.op c r
    | none => act (((s.take c).readFor c v).accept k c)

/-- A command whose queue was lost with its port runs, and its entries are discarded (R330). -/
def State.muted (s : State) (c : Cmd) : Bool := s.spin.merged.any fun m => m.is c && m.lost

/-- Set or clear the command whose entries are discarded. -/
def State.setMute (s : State) (m : Option Cmd) : State := { s with spin := { s.spin with mute := m } }

/-- A Selkan command in the merged order: none is taken while the module is BOOTING (R314, R338), nor while the Spindles
check themselves or neither holds the claim (R352, R354). -/
def selkan (k : CmdSpec) (c : Cmd) (v : Verdict) (act : State → State) (s : State) : State :=
  if s.mod.state = .booting || s.spin.checking || s.spin.claim.isNone then s
  else if s.muted c then (takeCmd k c v act (s.setMute (some c))).setMute none
  else takeCmd k c v act s

/-- A command that writes host memory: its OK entry with the bytes written, or FAULT when the port failed it
(R344). `bs` are the bytes of the report. -/
def State.writeHostOut (s : State) (c : Cmd) (addr : Nat) (bs : List Byte) (w : HostWr) (extra : State → State := id) : State :=
  match w with
  | .whole => (extra { s with mems := s.mems.writeHost (c.port s) addr bs }).done c .ok (result [(16, 4, bs.length)])
  | .failed n => ({ s with mems := s.mems.writeHost (c.port s) addr (bs.take n) }).done c .fault
      (result [(28, 4, min n bs.length)])

/-- Set what an L command in progress needs to end. -/
def State.setAux (s : State) (c : Cmd) (aux : Nat) : State :=
  { s with spin := { s.spin with lops := s.spin.lops.map fun l => if l.is c then { l with aux := aux } else l } }

/-- First command in progress with this opcode. -/
def State.lop (s : State) (op : Nat) : Option LOp := s.spin.lops.find? fun l => decide (l.opcode = op)

/-- Every L command in progress that `p` selects ends with a status. -/
def State.endLops (s : State) (p : LOp → Bool) (st : Status) (res : BitVec 128) : State :=
  s.forEach (s.spin.lops.filter p) fun l s => s.done l.cmd st res

end Sys2Proof.Machine
end

