-- ==== Sys2Proof/Machine/CellOps.lean ====
section
/-! DEFINITION. Shared operations of the compute regions: which thread issues, ending a thread in FAULTED, tracker
slots, checked SRAM reads and writes, tokens and barriers (chapters 4 and 5). -/

namespace Sys2Proof.Machine

/-- Threads of a cell in READY, in round-robin order from the one after the thread that issued last (R81). -/
def CellSt.readyOrder (x : CellSt) : List Nat :=
  ((List.range 8).map fun i => (x.lastRun + 1 + i) % 8).filter fun t => decide ((x.threads.get {} t).state = .ready)

/-- Does thread `t` of the cell issue next: it is RUNNING, or no thread is and it is next in order (R80-R82)? -/
def CellSt.issues (x : CellSt) (t : Nat) : Bool :=
  if (x.threads.get {} t).state = .running then true
  else !(List.range 8).any (fun u => decide ((x.threads.get {} u).state = .running)) && x.readyOrder.head? = some t

/-- May thread `t` of cell `c` issue: its region is RUNNING and its turn has come? -/
def State.issues (s : State) (c t : Nat) : Bool :=
  decide ((s.reg (regionOfCell c)).state = .running) && (s.cel c).issues t

/-- The thread issues one instruction: it is RUNNING, its count of beats advances (R80, R82). -/
def State.issue (s : State) (c t : Nat) : State :=
  (s.modCel c fun x => { x with runValid := true, lastRun := t }).modThr c t fun x =>
    { x with state := .running, issued := x.issued + 1 }

/-- The instruction pointer moves past the instruction (R110). -/
def State.nextIp (s : State) (c t : Nat) : State := s.modThr c t fun x => { x with ip := x.ip + 8 }

/-- The thread leaves its state for another. RUN_VALID falls when the thread that issued last stops issuing (R102). -/
def State.park (s : State) (c t : Nat) (st : TState) (w : SyncWait := .none) : State :=
  (s.modCel c fun x => { x with runValid := x.runValid && decide (t ≠ x.lastRun) }).modThr c t fun x =>
    { x with state := st, waiting := w, waitFrom := if st = .waitSync then s.time.lea else x.waitFrom, issued := 0 }

/-- What the record of a cause says of the thread that met it (R456). -/
def State.byThread (s : State) (c t : Nat) (x : Cause) : Cause := { x with ip := (s.thr c t).ip, cell := c }

/-- A job-fault cause of an instruction: stamped with the cell and the instruction pointer; the thread is FAULTED
(R84, R110, R456). -/
def State.threadFault (s : State) (c t code : Nat) : State :=
  (s.stamp code c (regionOfCell c) (s.byThread c t)).park c t .faulted

/-- The instruction word at the thread's pointer, an 8-byte-aligned cell-local address (R110). -/
def State.fetch (s : State) (c t : Nat) : Word := BitVec.ofNat 64 (leNat (s.mems.sram.read (cellSram c (8 * ((s.thr c t).ip / 8))) 8))

/-- Encoding class and operation of an instruction word (R110): bits [63:60] and [59:52]. -/
def classOf (w : Word) : Nat := w.toNat / 2 ^ 60
def operationOf (w : Word) : Nat := w.toNat / 2 ^ 52 % 256

/-- Is the word at the thread's pointer marked poisoned? -/
def State.fetchBad (s : State) (c t : Nat) : Bool := s.mems.sramBad (cellSram c (8 * ((s.thr c t).ip / 8))) 8

/-- An uncorrectable word of a store that a thread reads: the store stamps its cause, the thread is FAULTED (R84, R96). -/
def State.threadUe (s : State) (c t a : Nat) : State := (s.sramCause a (s.byThread c t)).park c t .faulted

/-- One instruction of class `k` of a thread: nothing happens unless the thread may issue and the word at its pointer is of the
class. A poisoned word is consumed (R96); a reserved class, or an operation or operand field that is not legal, is
ILLEGAL_OP (R110). -/
def instr (c t k : Nat) (legal : Bool) (act : State → State) (s : State) : State :=
  if !s.issues c t then s
  else if s.fetchBad c t then (s.issue c t).threadUe c t (cellSram c (8 * ((s.thr c t).ip / 8)))
  else if classOf (s.fetch c t) ≥ 11 then (s.issue c t).threadFault c t 0x0105
  else if classOf (s.fetch c t) ≠ k then s
  else if !legal then (s.issue c t).threadFault c t 0x0105
  else act (s.issue c t)

/-! ### Register files (R80, R94, R96) -/

/-- Number of a thread's first register-file word within its cell (DESIGN CHOICE, log 126). -/
def regBase (t : Nat) : Nat := 1056 * t

/-- Is a scalar register marked poisoned? -/
def State.xBad (s : State) (c t r : Nat) : Bool := (s.cel c).regBad.get false (regBase t + r)

/-- Is any word of a vector register marked poisoned? -/
def State.vBad (s : State) (c t r : Nat) : Bool :=
  (s.cel c).regBad.any fun e => e.2 && decide (regBase t + 32 + 32 * r ≤ e.1) && decide (e.1 < regBase t + 64 + 32 * r)

/-- A thread reads a marked register: REGFILE_UE, the thread is FAULTED (R84, R96). -/
def State.regUe (s : State) (c t : Nat) : State := (s.stamp 0x0203 c (regionOfCell c) (s.byThread c t)).park c t .faulted

/-- An instruction's act, once its source registers are read: `xs` scalar, `vs` vector. -/
def reads (c t : Nat) (xs vs : List Nat) (act : State → State) (s : State) : State :=
  if xs.any (s.xBad c t) || vs.any (s.vBad c t) then s.regUe c t else act s

/-- Scalar register `r` of a thread. -/
def State.x (s : State) (c t : Nat) (r : Reg) : Word := (s.thr c t).x.get 0 r.val

/-- Write a scalar register; a mark of R96 goes with the whole word. -/
def State.setX (s : State) (c t : Nat) (r : Nat) (v : Word) : State :=
  (s.modCel c fun x => { x with regBad := x.regBad.set false (regBase t + r) false }).modThr c t fun th => { th with x := th.x.set 0 r v }

/-- Vector register `r` of a thread. -/
def State.v (s : State) (c t : Nat) (r : Reg) : BitVec 2048 := (s.thr c t).v.get 0 r.val

/-- Write a vector register; marks of R96 go with its words. -/
def State.setV (s : State) (c t : Nat) (r : Nat) (v : BitVec 2048) : State :=
  (s.modCel c fun x => { x with regBad := x.regBad.clear (regBase t + 32 + 32 * r) (regBase t + 64 + 32 * r) }).modThr c t fun th =>
    { th with v := th.v.set 0 r v }

/-! ### Tracker slots (R75, R87, R88) -/

/-- Slot `i` of a block. -/
def BlockSt.slot (b : BlockSt) (i : Nat) : SlotSt := b.slots.get {} i

/-- Lowest-numbered free slot. -/
def BlockSt.freeSlot (b : BlockSt) : Option Nat := (List.range 256).find? fun i => decide ((b.slot i).kind = .free)

/-- The slot of a tracker tag: 256 times the block and the slot (R75). -/
def State.slot (s : State) (tag : Nat) : SlotSt := (s.blk (tag / 256)).slot (tag % 256)

/-- Change the slot of a tracker tag. -/
def State.modSlot (s : State) (tag : Nat) (f : SlotSt → SlotSt) : State :=
  s.modBlk (tag / 256) fun b => { b with slots := b.slots.mod {} (tag % 256) f }

/-- Slots held. -/
def BlockSt.inUse (b : BlockSt) : Nat := (b.slots.filter fun e => decide (e.2.kind ≠ .free)).length

/-- Is the slot held for a thread's request? -/
def SlotKind.isThread : SlotKind → Bool
  | .load | .vload | .store | .atomic => true
  | _ => false

/-- Slots held by thread requests (R88). -/
def BlockSt.threadSlots (b : BlockSt) : Nat := (b.slots.filter fun e => e.2.kind.isThread).length

/-- Put a request into slot `i`: its generation stays the slot's own. -/
def BlockSt.fill (b : BlockSt) (i : Nat) (r : SlotSt) : BlockSt :=
  { b with slots := b.slots.set {} i { r with gen := (b.slot i).gen, epoch := (b.slot i).epoch } }

/-- Release slot `i`: it is free, and its generation has advanced, so a late reply is stale (R75, R174). -/
def BlockSt.release (b : BlockSt) (i : Nat) : BlockSt :=
  { b with slots := b.slots.set {} i { gen := (b.slot i).gen + 1, epoch := (b.slot i).epoch } }

/-- Count a Reel request, so that the module's requests have an order (R272). -/
def State.countReel (s : State) (reel : Bool) : State :=
  if reel then { s with reel := { s.reel with issued := s.reel.issued + 1 } } else s

/-- Slots held across a region (R101 TRACKERS IN_USE). -/
def State.inUse (s : State) (r : Nat) : Nat := ((List.range 16).map fun b => (s.blk (16 * r + b)).inUse).sum

/-- Record the highest IN_USE since the launch began. -/
def State.notePeak (s : State) (r : Nat) : State := s.modReg r fun x => { x with peak := max x.peak (s.inUse r) }

/-- Does a thread request get a slot now: one is free, the engine is not frozen, thread requests hold fewer than
128 of the 256, and none of its block waits before it (R88)? -/
def State.threadSlot (s : State) (c : Nat) : Option Nat :=
  let b := s.blk (blockOfCell c)
  if b.frozen || decide (b.threadSlots ≥ 128) || (List.range 16).any (fun k => !(s.cel (16 * blockOfCell c + k)).requests.isEmpty) then none
  else b.freeSlot

/-- Where a thread's remote address leads: space and address there, when it is one that exists (DESIGN CHOICE, log 26). -/
def threadPlace (a n : Nat) : Option (Nat × Nat) :=
  let p := Config.threadPlace (BitVec.ofNat 64 a)
  let space := if p.1 then 1 else 0
  if spaceValid space p.2 n then some (space, p.2) else none

/-- An atomic whose address leads onto the fabric takes its slot as a Reel request that waits to be sent (R273; DESIGN CHOICE, log 26). -/
def SlotSt.onFabric (r : SlotSt) : SlotSt :=
  match if r.kind = .atomic then Config.threadReel (BitVec.ofNat 64 r.offset) else none with
  | some a => { r with reel := true, opcode := 5, node := a.1, handle := a.2.1, key := a.2.2.1, offset := a.2.2.2, waiting := true }
  | none => r

/-- An atomic to SRAM acts at its home as one step; its old value waits in the slot for the reply (R112, R254). Poison is
consumed and writes nothing (R96). -/
def State.atomicSram (s : State) (tag : Nat) (r : SlotSt) (a : Nat) : State :=
  let old := BitVec.ofNat 128 (leNat (s.mems.sram.read a r.bytes))
  if !aopAllowed r.aop r.bytes || decide (a % r.bytes ≠ 0) then s.modSlot tag fun x => { x with refused := true }
  else if s.mems.sramBad a r.bytes then (s.sramCause a (s.byThread r.cell r.thread)).modSlot tag fun x => { x with bad := true }
  else (s.putSram a (leBytes r.bytes (applyAop r.aop old r.operand r.compare).toNat) false (.slot tag)).modSlot tag fun x =>
    { x with data := leBytes 16 old.toNat }

/-- Once a write or an atomic has wholly landed at its home block and R60 holds none of it, the home answers it on the ring
(R60, R129). -/
def State.ringAck (s : State) (tag home : Nat) : State :=
  let r := s.slot tag
  s.when (r.onRing && r.landed && !s.holds (.slot tag)) fun s => s.queueFlit (home / 16) 1
    { flitOf (home % 16) (tag / 256 % 16) 0 0 (if r.kind.isThread then 2 else 3) (if r.kind = .atomic then 5 else 3) tag with
      gen := r.gen, bytes := if r.kind = .atomic then r.bytes else 8, data := if r.kind = .atomic then r.data.take r.bytes else [] }

/-- Type of the flits of a thread's request (R129): READ_REQ, WRITE, ATOMIC. -/
def SlotKind.flitType : SlotKind → Nat
  | .store => 2
  | .atomic => 4
  | _ => 0

/-- A thread's request leaves in slot `i`: it is stamped, and its flits go out on the rings (R81, R86, R87). In another block of the
region it acts when they arrive; beyond the region its packet is sent, and a store reaches its home (DEDUCED, log 42). The slot
stays held until the acknowledgement or the data comes. -/
def State.sendThread (s : State) (c i : Nat) (r0 : SlotSt) : State :=
  let b := blockOfCell c
  let r := r0.onFabric
  let s1 := (s.countReel r.reel).modBlk b fun x =>
    let y := x.fill i { r with at_ := s.time.lea, sentAt := s.time.lea, firstAt := s.time.lea, order := s.reel.issued }
    if r.reel then { y with slots := y.slots.mod {} i fun z => { z with epoch := z.epoch + 1 } } else y
  if r.reel then s1
  else match threadPlace r.offset r.bytes with
  | some p =>
    let data := if r.kind = .atomic then leBytes 16 r.operand.toNat ++ leBytes 16 r.compare.toNat else r.data
    let s2 := (s1.send (reqPkt (regionOfCell c) (stationOf p.1 p.2) r.kind.flitType (256 * b + i) (s1.slot (256 * b + i)).gen p.1 p.2 r.bytes data r.bad
      r.aop)).ringAccess b (256 * b + i) 2 r.kind.flitType p.1 p.2 r.bytes data r.bad
    if byRing b p.1 p.2 then s2.modSlot (256 * b + i) fun x => { x with onRing := true }
    else if decide (r.kind = .store) && s.answers p.1 p.2 then s2.store p.1 p.2 r.data r.bad (.slot (256 * b + i))
    else if decide (r.kind = .atomic) && decide (p.1 = 0) && s.answers 0 p.2 then s2.atomicSram (256 * b + i) r p.2
    else s2
  | none => s1

/-- Send a thread's request out of the cell: a slot, or the cell's request buffer, which holds one entry of each thread
(R83): the thread waits until the entry has left. -/
def State.request (s : State) (c t : Nat) (r : SlotSt) : State :=
  match s.threadSlot c with
  | some i => (s.sendThread c i { r with cell := c, thread := t }).notePeak (regionOfCell c)
  | none => s.modCel c fun x => { x with requests := x.requests ++ [(t, { r with cell := c, thread := t, at_ := s.time.lea })] }

/-! ### Anchors of schedules (R121) -/

/-- The anchor that the current entry of a running schedule waits for. -/
def BlockSt.anchor (b : BlockSt) : Option (Nat × Nat) :=
  if b.schedRunning then (b.sched[b.schedPos]?).map fun e => (e.anchor, e.anchorId) else none

/-- An anchor comes: every schedule of the region whose current entry waits for it notes the beat, which for a token is one
after the beat the previous entry issued (R121). -/
def State.latch (s : State) (r kind id : Nat) : State :=
  s.forEach ((List.range 16).map (· + 16 * r)) fun b s =>
    s.when (decide ((s.blk b).anchor = some (kind, id)) && (s.blk b).schedAnchor.isNone) fun s =>
      s.modBlk b fun x => { x with schedAnchor := some (if kind = 1 then max (s.reg r).beats (x.schedPrev + 1) else (s.reg r).beats) }

/-! ### Tokens (R118) -/

/-- Threads of a region that wait for a token, lower cell and thread first: (cell, thread, n, consuming). -/
def State.tokenWaiters (s : State) (r k : Nat) : List (Nat × Nat × Nat × Bool) :=
  (s.cell.filter fun e => decide (regionOfCell e.1 = r)).flatMap fun e =>
    e.2.threads.filterMap fun t => match t.2.state, t.2.waiting with
      | .waitSync, .token n need cons => if n = k then some (e.1, t.1, need, cons) else none
      | _, _ => none

/-- Let one waiter go when the count allows (R118). -/
def State.tryToken (s : State) (r k : Nat) (w : Nat × Nat × Nat × Bool) : State :=
  let n := (s.reg r).tokens.get 0 k
  if n < w.2.2.1 then s
  else (s.modReg r fun x => { x with tokens := if w.2.2.2 then x.tokens.set 0 k (n - w.2.2.1) else x.tokens }).modThr w.1 w.2.1
    fun x => { x with state := .ready, waiting := .none }

/-- Signal a token `n` times in region `r`: TOKEN_OVF above 65,535, with the count unchanged; otherwise the
waiters that can proceed do, in order (R118). `unit_` is the index a cause carries. -/
def State.signal (s : State) (r k n unit_ : Nat) : State :=
  let m := (s.reg r).tokens.get 0 k + n
  if m > 65535 then s.stamp 0x0106 unit_ r
  else ((s.modReg r fun x => { x with tokens := x.tokens.set 0 k m }).latch r 1 k).forEach (s.tokenWaiters r k) fun w s => s.tryToken r k w

/-! ### Barriers (R119) -/

/-- Barrier `k` of region `r`. -/
def State.bar (s : State) (r k : Nat) : Barrier := (s.reg r).barriers.get {} k

/-- Change a barrier. -/
def State.modBar (s : State) (r k : Nat) (f : Barrier → Barrier) : State :=
  s.modReg r fun x => { x with barriers := x.barriers.mod {} k f }

/-- The barrier after a generation: what arrived meanwhile begins the next (R119). -/
def Barrier.turn (b : Barrier) : Barrier :=
  { b with
    arrived := b.early, firstAt := b.earlyAt, waiters := b.earlyWaiters, gen := b.gen + 1
    reached := b.moduleScope && decide (b.early ≥ b.participants), early := 0, earlyAt := 0, earlyWaiters := [] }

/-- Release a generation in a region: its waiters are READY, the next generation begins, and the barrier unit tells the stations
(R119, R131). -/
def State.releaseBar (s : State) (r k : Nat) : State :=
  let w := (s.bar r k).waiters
  (((s.modBar r k Barrier.turn).tellRelease r k (s.bar r k).gen).latch r 2 k).forEach w fun w s => s.modThr w.1 w.2 fun x => { x with state := .ready, waiting := .none }

/-- One arrival at a barrier: with the next generation when this one has reached its count (R119). -/
def Barrier.come (b : Barrier) (now : Lea) (w : List (Nat × Nat)) : Barrier :=
  if b.reached then { b with early := b.early + 1, earlyAt := if b.early = 0 then now else b.earlyAt, earlyWaiters := b.earlyWaiters ++ w }
  else { b with arrived := b.arrived + 1, firstAt := if b.arrived = 0 then now else b.firstAt, waiters := b.waiters ++ w }

/-- One arrival (R119): a region-scope generation whose count is reached is released; a module-scope one has
reached its count here. -/
def State.arrive (s : State) (r k : Nat) (waiter : Option (Nat × Nat)) : State :=
  let s1 := s.modBar r k fun b => b.come s.time.lea waiter.toList
  if (s1.bar r k).arrived ≥ (s1.bar r k).participants then
    if (s1.bar r k).moduleScope then s1.modBar r k fun b => { b with reached := true } else s1.releaseBar r k
  else s1

/-! ### Launches -/

/-- The image of a handle. -/
def State.image (s : State) (h : BitVec 32) : Option Image := s.job.images.find? fun i => decide (i.handle = h)

/-- Change the launch with this sequence number. -/
def State.modLaunch (s : State) (n : BitVec 32) (f : Launch → Launch) : State :=
  { s with job := { s.job with launches := s.job.launches.map fun l => if l.seqNo = n then f l else l } }

/-- Add range events to guard slot `k`, and their marks to the launch that runs in region `r` (R65, R108). -/
def State.addCounts (s : State) (r : Nat) (k : Nat) (n : Cnt) : State :=
  let s1 := ((((s.bump (Ctr.tensor 0) k n.sat).bump (Ctr.tensor 1) k n.ovf).bump (Ctr.tensor 2) k n.unf).bump
    (Ctr.tensor 3) k n.t5b).bump (Ctr.tensor 4) k n.snan
  let m := bitsOf [decide (n.sat > 0), decide (n.ovf > 0), decide (n.unf > 0), decide (n.t5b > 0), decide (n.snan > 0)]
  match s.launchOf r with
  | some l => s1.modLaunch l.seqNo fun l => { l with marks := l.marks ||| m }
  | none => s1

end Sys2Proof.Machine
end

