-- ==== Sys2Proof/Machine/ReelBase.lean ====
section
/-! DEFINITION. Sending on the Reel fabric: packets, routes, egress queues, credits and the arbiter, and the requests
of tracker slots (chapters 13 and 14). -/

namespace Sys2Proof.Machine

/-! ### Packets -/

/-- Virtual channel of an opcode (R266). -/
def vcOf (op : Nat) : Nat :=
  match op with
  | 0x01 | 0x03 => 0
  | 0x05 => 2
  | 0x06 => 3
  | 0x07 => 4
  | 0x09 => 6
  | 0x0B | 0x0C | 0x0D => 5
  | 0x10 => 7
  | _ => 1

/-- Is the opcode one of R266? -/
def opcodeKnown (op : Nat) : Bool := (decide (1 ≤ op) && decide (op ≤ 0x0E)) || decide (op = 0x10)

/-- Is it the opcode of a request, whose injection a drain stops (R266, R305)? -/
def isRequest (op : Nat) : Bool := [0x01, 0x03, 0x05, 0x07, 0x09, 0x0B, 0x0C].contains op

/-- Credits a packet takes: 64-byte units of its 32-byte header and payload (R297). -/
def creditUnits (k : Pkt) : Nat := (32 + k.data.length + 63) / 64

/-- The 256-bit header of a packet (R265). -/
def reelHeader (k : Pkt) : Nat :=
  packNat [(0, 16, k.dst.toNat), (16, 16, k.src.toNat), (32, 8, k.opcode.toNat), (40, 3, vcOf k.opcode.toNat), (43, 1, k.poison.toNat), (44, 4, k.status.toNat),
    (48, 16, k.tag.toNat), (64, 12, k.epoch.toNat), (76, 4, k.aop.toNat), (80, 16, k.handle.toNat), (96, 32, k.key.toNat), (128, 48, k.offset.toNat),
    (176, 16, k.aux.toNat), (192, 32, k.count.toNat), (224, 8, k.flags.toNat), (240, 16, k.age.toNat)]

/-- A packet as it travels: its header, then its payload (R265). -/
def reelBytes (k : Pkt) : List Byte := leBytes 32 (reelHeader k) ++ k.data

/-- This module's node ID (R264). -/
def State.node (s : State) : BitVec 16 := s.conf.inForce.node

/-- Lea time in µs, modulo 65,536 (R265 AGE). -/
def State.ageNow (s : State) : BitVec 16 := BitVec.ofNat 16 (s.time.lea.toNat / 1000)

/-- Is the packet older than 50 µs (R276, R300)? -/
def State.stale (s : State) (k : Pkt) : Bool := decide ((s.ageNow - k.age).toNat > 50)

/-- Reel port `p`. -/
def State.rp (s : State) (p : Nat) : RPortSt := s.rport.get {} p

/-- Change Reel port `p`. -/
def State.modRp (s : State) (p : Nat) (f : RPortSt → RPortSt) : State := { s with rport := s.rport.mod {} p f }

/-- I/O die of a Reel port (R289). -/
def dieOfPort (p : Nat) : IoDie := if p < 4 then 0 else 1

/-! ### Credits and the arbiter (R297-R299) -/

/-- Credits the module advertises, by VC (R298). -/
def ownCredits (v : Nat) : Nat := [512, 2048, 256, 256, 128, 4096, 768, 128].getD v 0

/-- Fixed order of the egress arbiter (R299). -/
def vcOrder : List Nat := [7, 1, 3, 4, 2, 0, 6, 5]

/-- Packets of a VC in the egress queue. -/
def RPortSt.vcq (x : RPortSt) (v : Nat) : List Pkt := x.queue.get [] v

/-- May the port send this VC in its state: all when UP, management alone in PROVE and QUARANTINE (R294)? -/
def RPortSt.maySend (x : RPortSt) (v : Nat) : Bool :=
  match x.state with
  | .up => true
  | .prove | .quarantine => v = 7
  | _ => false

/-- Link flits that `n` bytes of packets fill, 244 payload bytes each (R291). -/
def flitsOf (n : Nat) : Nat := (n + 243) / 244

/-- Is a VC's head packet ready: it may be sent, holds its credits, and behind `n` bytes of packets its flits have room in the
replay buffer of 2,048 (R292, R294, R297)? -/
def RPortSt.headReady (x : RPortSt) (n v : Nat) : Bool :=
  match x.vcq v with
  | k :: _ => x.maySend v && decide (creditUnits k ≤ x.credit.get 0 v) && decide (x.replay.length + flitsOf (n + 32 + k.data.length) ≤ 2048)
  | [] => false

/-- The VC the arbiter takes next: one passed over 16 times first, the lower-numbered first; then the fixed order (R299). -/
def RPortSt.nextVc (x : RPortSt) (n : Nat) : Option Nat :=
  match (List.range 8).find? fun v => x.headReady n v && decide (x.passed.get 0 v ≥ 16) with
  | some v => some v
  | none => vcOrder.find? (x.headReady n)

/-- Take the head packet of VC `v` at Lea time `t`: it leaves the queue and takes its credits, and every other ready head is passed
over once more. -/
def RPortSt.sendHead (x : RPortSt) (t : Lea) (n v : Nat) : RPortSt :=
  match x.vcq v with
  | k :: ks =>
    let left := x.credit.get 0 v - creditUnits k
    { x with
      queue := x.queue.set [] v ks
      credit := x.credit.set 0 v left
      dryAt := if left = 0 then x.dryAt.set 0 v t else x.dryAt
      passed := (List.range 8).foldl (fun m u => m.set 0 u (if u = v then 0 else if x.headReady n u then m.get 0 u + 1 else m.get 0 u)) x.passed }
  | [] => x

/-- Packets queued for egress at a port. -/
def RPortSt.queued (x : RPortSt) : Nat := (x.queue.map fun e => e.2.length).sum

/-- Bytes of packets. -/
def bytesOf (ks : List Pkt) : Nat := (ks.map fun k => 32 + k.data.length).sum

/-- The packets that leave now, one after another, as credits and the replay buffer allow; `ks` have left already. -/
def RPortSt.batch (x : RPortSt) (t : Lea) : Nat → List Pkt → RPortSt × List Pkt
  | 0, ks => (x, ks)
  | n + 1, ks => match x.nextVc (bytesOf ks) with
    | some v => (x.sendHead t (bytesOf ks) v).batch t n (ks ++ (x.vcq v).take 1)
    | none => (x, ks)

/-- Header of a DATA flit whose first packet begins at byte `start` of its payload (R291): ACK is the last SEQ received in order, NAK
asks for a replay from there. -/
def RPortSt.flitHead (x : RPortSt) (seq : BitVec 12) (start : Option Nat) : BitVec 64 :=
  BitVec.ofNat 64 (packNat [(0, 12, seq.toNat), (12, 12, (x.rxSeq - 1).toNat), (24, 1, 1), (25, 1, x.asks.toNat), (26, 2, 1), (41, 1, start.isSome.toNat),
    (42, 8, start.getD 0)])

/-- Header of an IDLE (0) or CONTROL (2) flit, which returns or advertises `n` credits of VC `v`; its SEQ is that of the next DATA flit,
and an IDLE flit acknowledges (R291, R292, R294). -/
def RPortSt.idleHead (x : RPortSt) (kind v n : Nat) : BitVec 64 :=
  BitVec.ofNat 64 (packNat [(0, 12, x.txSeq.toNat), (12, 12, (x.rxSeq - 1).toNat), (24, 1, (decide (kind = 0)).toNat), (25, 1, x.asks.toNat), (26, 2, kind), (28, 3, v),
    (31, 10, n)])

/-- `n` credits of a VC as CR fields: 1,023 at most in each (R291). -/
def creditRuns (v n : Nat) : List (Nat × Nat) := (List.range ((n + 1022) / 1023)).map fun i => (v, min 1023 (n - 1023 * i))

/-- The IDLE flits with which a port answers: one for each run of credits that it returns, one with none to return (R292, R297). -/
def RPortSt.says (x : RPortSt) (rs : List (Nat × Nat)) : RPortSt :=
  { x with said := if rs.isEmpty then [x.idleHead 0 0 0] else rs.map fun e => x.idleHead 0 e.1 e.2 }

/-- The CONTROL flits of TRAIN advertise the credits of R298 (R294). -/
def RPortSt.advertises (x : RPortSt) : RPortSt :=
  { x with said := (List.range 8).flatMap fun v => (creditRuns v (ownCredits v)).map fun e => x.idleHead 2 e.1 e.2 }

/-- A whole link flit: header, payload and the CRC-32 over both (R291). -/
def LinkData.bytes (f : LinkData) : List Byte :=
  let bs := leBytes 8 f.head.toNat ++ f.data
  bs ++ leBytes 4 (crc32 bs)

/-- Bytes of a packet by what its first bytes say; none while they do not say it, or the packet is not whole (R265, R266, R306). -/
def packetLen (bs : List Byte) : Option Nat :=
  let op := (bs.getD 4 0).toNat
  let need := if op = 0x0B then 36 else if op = 0x10 then 38 else 32
  let n := 32 + match op with
    | 0x02 | 0x03 | 0x09 => 128
    | 0x05 => 32
    | 0x06 => 16
    | 0x0B => 4 + 128 * (onesOf 32 (leNat ((bs.drop 32).take 4))).length
    | 0x0D => 4096
    | 0x10 => 8 + leNat ((bs.drop 36).take 2)
    | _ => 0
  if need ≤ bs.length ∧ n ≤ bs.length then some n else none

/-- Take the whole packets from the front of bytes that have arrived, and what is left of them; zeros where a packet would begin, with
its opcode among them, are padding (R291; DEDUCED, log 41). -/
def takePackets : Nat → List Byte → List (List Byte) × List Byte
  | 0, bs => ([], bs)
  | k + 1, bs =>
    if 5 ≤ bs.length && bs.all (· == 0) then ([], [])
    else match packetLen bs with
      | some n => let r := takePackets k (bs.drop n); (bs.take n :: r.1, r.2)
      | none => ([], bs)

/-- The packets that a DATA flit in sequence completes, and the bytes left after them: a flit whose first packet begins at its byte 0
continues none (R291). -/
def RPortSt.unpacked (x : RPortSt) (f : LFlit) : List (List Byte) × List Byte :=
  let bs := (if f.start = some 0 then [] else x.rx) ++ f.data ++ List.replicate (244 - f.data.length) 0
  takePackets (bs.length / 32 + 1) bs

/-- Credits that a flit gives back: those of the packets that it completes, by their VC (R265, R297; DEDUCED, log 41). -/
def RPortSt.returns (x : RPortSt) (f : LFlit) : List (Nat × Nat) :=
  let ks := if f.kind = 1 ∧ f.seq = x.rxSeq then (x.unpacked f).1 else []
  (List.range 8).flatMap fun v => creditRuns v ((ks.filter fun k => decide ((k.getD 5 0).toNat % 8 = v)).map fun k => (k.length + 63) / 64).sum

/-- Packets with the byte at which each begins in their run. -/
def placed : Nat → List Pkt → List (Nat × Pkt)
  | _, [] => []
  | n, k :: ks => (n, k) :: placed (n + 32 + k.data.length) ks

/-- The DATA flits of packets that leave together: back to back in their payloads, the last one padded with zeros (R291; DEDUCED,
log 41). -/
def RPortSt.dataFlits (x : RPortSt) (ks : List Pkt) : List LinkData :=
  let bs := ks.flatMap reelBytes
  let at_ := placed 0 ks
  (List.range (flitsOf bs.length)).map fun i =>
    let seq := x.txSeq + BitVec.ofNat 12 i
    let begins := (at_.find? fun e => decide (e.1 / 244 = i)).map fun e => e.1 % 244
    let p := (bs.drop (244 * i)).take 244
    { seq := seq, head := x.flitHead seq begins, data := p ++ List.replicate (244 - p.length) 0,
      ends := (at_.filter fun e => decide ((e.1 + 31 + e.2.data.length) / 244 = i)).map (·.2) }

/-- Send as many queued packets as credits and the replay buffer allow: their flits enter the replay buffer. -/
def RPortSt.pump (x : RPortSt) (t : Lea) : RPortSt :=
  let b := x.batch t x.queued []
  let fs := x.dataFlits b.2
  { b.1 with
    replay := x.replay ++ fs
    txSeq := x.txSeq + BitVec.ofNat 12 fs.length
    lastAck := if x.replay.isEmpty && !fs.isEmpty then t else x.lastAck }

/-- A packet joins the egress queue of its VC; with no credit left, its VC is starved from then (R293). -/
def RPortSt.join (x : RPortSt) (t : Lea) (k : Pkt) : RPortSt :=
  let v := vcOf k.opcode.toNat
  { x with
    queue := x.queue.mod [] v (· ++ [k])
    dryAt := if (x.vcq v).isEmpty && decide (x.credit.get 0 v = 0) then x.dryAt.set 0 v t else x.dryAt }

/-- Put a packet at the end of the egress queue of its VC at port `p`, and send what can be sent. -/
def State.enqueue (s : State) (p : Nat) (k : Pkt) : State := s.modRp p fun x => (x.join s.time.lea k).pump s.time.lea

/-! ### Routes (R303, R304) -/

/-- Entry of the active routing table for a node. -/
def State.routeOf (s : State) (node : BitVec 16) : Nat := (s.reel.routes.get s.reel.active).get 0 node.toNat

/-- Fields of a routing entry (R303). -/
def routePorts (e : Nat) : Nat := e % 256
def routeValid (e : Nat) : Bool := bit e 8
def routeFenced (e : Nat) : Bool := bit e 9
def routeGateway (e : Nat) : Bool := bit e 10

/-- Is the I/O die of the port present, and the port UP? -/
def State.portUp (s : State) (p : Nat) : Bool := decide ((s.rp p).state = .up) && s.spin.present.get (dieOfPort p)

/-- UP ports of the route to a node, in ascending order; none when it is not routed (R304). -/
def State.livePorts (s : State) (node : BitVec 16) : List Nat :=
  let e := s.routeOf node
  if routeValid e then (onesOf 8 (routePorts e)).filter s.portUp else []

/-- May requests be sent to the node: routed, not fenced, and a port live (R304)? -/
def State.routeLive (s : State) (node : BitVec 16) : Bool := !routeFenced (s.routeOf node) && !(s.livePorts node).isEmpty

/-- Port of a request to the node or of the reply to it (R304). -/
def State.portFor (s : State) (node tag : BitVec 16) : Option Nat :=
  let l := s.livePorts node
  l[(tag ^^^ node).toNat % l.length]?

/-- Would a packet cross from one I/O die to the other while their link is down (R304, R359)? -/
def State.crosses (s : State) (p q : Nat) : Bool := decide (dieOfPort p ≠ dieOfPort q) && decide (s.spin.width < 4)

/-- Send a packet on its route; none of it is sent when the route is not live. MGMT takes the lowest live port. -/
def State.passOn (s : State) (k : Pkt) (route : BitVec 16) : State :=
  let p := if k.opcode = 0x10 then (s.livePorts route).head? else s.portFor route k.tag
  match p with
  | some p => s.enqueue p { k with age := s.ageNow }
  | none => s

/-- Send a packet; a drain holds back a request (R305). -/
def State.sendPkt (s : State) (k : Pkt) (route : BitVec 16) : State :=
  if s.reel.drain.isSome && isRequest k.opcode.toNat then { s with reel := { s.reel with parked := s.reel.parked ++ [(k, route)] } } else s.passOn k route

/-- Send what a drain held back (R305). -/
def State.unpark (s : State) : State :=
  ({ s with reel := { s.reel with parked := [] } }).forEach s.reel.parked fun k s => s.passOn k.1 k.2

/-! ### Tracker slots on the fabric (R271-R277) -/

/-- Slots held by Reel requests, with their tags. -/
def State.reelSlots (s : State) : List (Nat × SlotSt) :=
  s.block.flatMap fun b => (b.2.slots.filter fun e => e.2.reel).map fun e => (256 * b.1 + e.1, e.2)

/-- Has an earlier WRITE or ATOMIC to the slot's line no answer yet, or is the line held after a re-injection (R272, R302)? -/
def State.lineTaken (s : State) (r : SlotSt) : Bool :=
  (s.reelSlots.any fun e => decide (e.2.order < r.order) && decide (e.2.node = r.node) && decide (e.2.handle = r.handle) &&
    decide (e.2.offset / 128 = r.offset / 128) && decide (e.2.opcode ≠ 1)) ||
  s.reel.held.any fun h => decide (h.2.1 = r.node) && decide (h.2.2.1 = r.handle) && decide (h.2.2.2.1 = r.offset / 128)

/-- The packet of a slot's request (R265, R266). -/
def State.pktOf (s : State) (tag : Nat) (r : SlotSt) : Pkt :=
  { dst := r.node, src := s.node, opcode := BitVec.ofNat 8 r.opcode, poison := r.bad, tag := BitVec.ofNat 16 tag, epoch := r.epoch,
    aop := BitVec.ofNat 4 r.aop, handle := r.handle, key := r.key, offset := BitVec.ofNat 48 r.offset, age := s.ageNow,
    data := if r.opcode = 5 then leBytes 16 r.operand.toNat ++ leBytes 16 r.compare.toNat else r.data }

/-- Lines of the remote-line cache other than the slot's own (R271). -/
def dropLine (c : List RLine) (r : SlotSt) : List RLine :=
  c.filter fun l => !(decide (l.node = r.node) && decide (l.handle = r.handle) && decide (l.offset / 128 = r.offset / 128))

/-- End a slot: it is free, its descriptor has one request less outstanding (R87, R93), and the indices that came with a piece of
its list. -/
def State.endSlot (s : State) (tag : Nat) : State :=
  let r := s.slot tag
  let s1 := s.modBlk (tag / 256) (·.release (tag % 256))
  s1.when (decide (r.kind = .desc)) fun s => s.modCel r.cell fun x =>
    { x with queue := x.queue.map fun d => if d.no = r.desc then
        { d with outstanding := d.outstanding - 1, indexGot := if r.index then d.indexGot + r.bytes / 4 else d.indexGot } else d }

/-- What the record of a cause says of the requester that holds a slot: cell and instruction pointer of a thread,
cell and COOKIE of a descriptor (R89, R456). -/
def State.slotBy (s : State) (tag : Nat) (c : Cause) : Cause :=
  let r := s.slot tag
  if r.kind.isThread then { c with cell := r.cell, ip := (s.thr r.cell r.thread).ip }
  else match (s.cel r.cell).queue.find? fun q => decide (q.no = r.desc) with
    | some q => if r.kind = .desc then { c with cell := r.cell, cookie := q.desc.cookie } else c
    | none => c

/-- The cause of a request's failure: stamped with the requester's block, or with the cell and thread of a thread's
request, whose thread is FAULTED (R84, R93). -/
def State.slotCause (s : State) (tag code : Nat) : State :=
  let r := s.slot tag
  if r.kind.isThread then (s.stamp code r.cell (regionOfCell r.cell) fun c => s.slotBy tag { c with addr := r.offset }).park r.cell r.thread .faulted
  else s.stamp code (tag / 256) (tag / 256 / 16) fun c => s.slotBy tag { c with addr := r.offset }

/-- Members of a multicast line whose branch is pruned at once: fenced, or without a live route (R287). -/
def State.mcPruned (s : State) (g : McGroup) : List (Nat × Bool) :=
  (g.members.zipIdx.filter fun m => !s.routeLive m.1.node).map fun m => (m.2, false)

/-- A multicast line whose branches have all answered: its OK bits join its descriptor's mask, and its slot is free (R286). -/
def State.mcLineDone (s : State) (x : McLine) (n : Nat) : State :=
  let mask := bitsOf ((List.range n).map fun i => x.answers.contains (i, true))
  let r := s.slot x.tag
  (s.modCel r.cell fun c => { c with queue := c.queue.map fun d => if d.no = r.desc then { d with mcMask := d.mcMask &&& mask } else d }).endSlot x.tag

/-- The branch of a multicast line to a member (R285). -/
def State.mcBranch (s : State) (tag : Nat) (r : SlotSt) (m : McMember × Nat) : Pkt :=
  { s.pktOf tag r with dst := m.1.node, opcode := 9, handle := m.1.handle, key := m.1.key, aux := BitVec.ofNat 16 m.2,
                       offset := BitVec.ofNat 48 (m.1.base + r.offset) }

/-- Send the branches of a multicast line (R285, R286). -/
def State.sendMcast (s : State) (tag : Nat) (r : SlotSt) (g : McGroup) (n : Nat) : State :=
  let line : McLine := { tag := tag, group := n, at_ := s.time.lea, answers := s.mcPruned g }
  if line.answers.length ≥ g.members.length then s.mcLineDone line g.members.length
  else
    let s1 := { s with reel := { s.reel with mcLines := s.reel.mcLines ++ [line] } }
    s1.forEach (g.members.zipIdx.filter fun m => s.routeLive m.1.node) fun m s => s.sendPkt (s.mcBranch tag r m) m.1.node

/-- Must a slot's Reel request wait: a drain runs, an earlier write to its line has no answer, the replication buffer of
16,384 lines is full, or it is an atomic 150 µs after its first try (R272, R275, R286, R305; one buffer for the module:
DEDUCED, log 150)? -/
def State.reelWaits (s : State) (r : SlotSt) (mc : Bool) : Bool :=
  s.reel.drain.isSome || (decide (r.opcode = 5) && decide (r.tries > 0) && s.elapsed r.firstAt 150000) || (decide (r.opcode ≠ 1) && !mc && s.lineTaken r) || (mc && decide (s.reel.mcLines.length ≥ 16384))

/-- The requester's own I/O die turns a request down: REEL_REJECT, and its slot ends (R267, R285, R304). -/
def State.turnDown (s : State) (tag : Nat) : State := (s.slotCause tag 0x0601).endSlot tag

/-- Send a slot's Reel request, or leave it waiting (R271, R272, R286, R302, R305). A request to a node that is
fenced or has no live route is answered NOT_PRESENT by the module's own I/O die (R304), and a write to a group that is not
defined, or with another key, is sent nowhere (R285). -/
def State.sendReel (s : State) (tag : Nat) : State :=
  let r := s.slot tag
  let mc := decide (r.node = s.node) && decide (r.handle.toNat ≥ 0xFF00)
  if s.reelWaits r mc then s.modSlot tag fun x => { x with waiting := true }
  else
    let s1 := s.modSlot tag fun x =>
      { x with
        waiting := false
        resend := false
        sentAt := s.time.lea
        tries := if x.resend then x.tries else x.tries + 1
        firstAt := if x.tries = 0 then s.time.lea else x.firstAt }
    if mc then
      match s.reel.mcast.get none (r.handle.toNat - 0xFF00) with
      | some g => if g.key = r.key then s1.sendMcast tag r g (r.handle.toNat - 0xFF00) else s1.turnDown tag
      | none => s1.turnDown tag
    else if s.routeLive r.node then
      let s2 := if r.opcode = 1 then s1 else { s1 with memory := { s1.memory with rcache := dropLine s1.memory.rcache r } }
      s2.sendPkt (s.pktOf tag r) r.node
    else s1.turnDown tag

/-- A list of slots in the order in which the module issued their requests. -/
def byOrder (l : List (Nat × SlotSt)) : List (Nat × SlotSt) :=
  l.foldl (fun a e => (a.filter fun x => decide (x.2.order ≤ e.2.order)) ++ [e] ++ a.filter fun x => decide (e.2.order < x.2.order)) []

/-- Try again the Reel requests that wait for a line, a drain or a hold, but not those in a RETRY wait, in the order of their
issue (R272). -/
def State.wakeReel (s : State) : State :=
  s.forEach (byOrder (s.reelSlots.filter fun e => e.2.waiting && decide (e.2.until_ = 0))) fun e s => s.sendReel e.1

end Sys2Proof.Machine
end

