-- ==== Sys2Proof/Machine/Rings.lean ====
section
/-! DEFINITION. Reduction at the ring stations: errors, elements, chains, results (R136-R141). -/

namespace Sys2Proof.Machine

/-- An error found at station `st` of region `r` (R141, R142): counters, LAST fields, events and causes. -/
def State.ringError (s : State) (r st ring : Nat) (cw : Bool) (e : RingErr) : State :=
  let dir := if cw then 0 else 1
  let i := 16 * r + st
  match e with
  | .none => s
  | .ce => (s.bump Ctr.ringCe r).modReg r fun x => { x with ringCe := x.ringCe ||| 2 ^ st, ringLast := some (st, ring, dir, 0) }
  | .ue => ((((s.bump Ctr.ringUe r).modReg r fun x =>
      { x with ringUe := x.ringUe ||| 2 ^ st, ringLast := some (st, ring, dir, 1) }).fire (16 * r + 4) 0x0301 i)).stamp 0x0301 i r
  | .hdr => ((((s.bump Ctr.ringHdr r).modReg r fun x =>
      { x with ringUe := x.ringUe ||| 2 ^ st, ringLast := some (st, ring, dir, 2) }).fire (16 * r + 4) 0x0302 i)).stamp 0x0302 i r

/-! ### Reduction (R136-R141) -/

/-- Fields of EXT of a RING_REDUCE descriptor (R136). -/
def redFormat (ext : Nat) : Nat := ext % 4
def redOp (ext : Nat) : Nat := ext / 4 % 4
def redDest (ext : Nat) : Nat := ext / 16 % 16
def redContrib (ext : Nat) : Nat := ext / 256 % 65536
def redGroup (ext : Nat) : Nat := ext / 16777216 % 4096
def redTensor (ext : Nat) : Nat := ext / 68719476736 % 4096

/-- Source bytes per flit (R136, R138). -/
def redFlitBytes (ext : Nat) : Nat := if redFormat ext = 2 then 128 else 256

/-- Element of an FP32 sum, maximum or minimum (R139): code and clamps. -/
def redFp32 (op a b : Nat) : Nat × Nat :=
  let x := Fmt.fp32.value a
  let y := Fmt.fp32.value b
  let neg (c : Nat) : Bool := c ≥ 2 ^ 31
  let nan (c : Nat) : Bool := c % 2 ^ 31 > 0x7F800000
  if op = 0 then
    match x.add y with
    | .fin m e =>
      let t := toFp32 .rne (.fin m e)
      if m = 0 then (if neg a && neg b && a % 2 ^ 31 = 0 && b % 2 ^ 31 = 0 then 2 ^ 31 else 0, 0) else (t.1, t.2.ovf)
    | .inf s => (fp32Inf s, 0)
    | .nan => (fp32Nan, 0)
  else if nan a || nan b then (fp32Nan, 0)
  else
    let key (c : Nat) : Int := if neg c then -(c % 2 ^ 31 : Nat) - 1 else c
    if (op = 1) = decide (key a ≥ key b) then (a, 0) else (b, 0)

/-- Element of a BF16 narrow reduction (R139). -/
def redBf16 (op a b : Nat) : Nat × Nat :=
  if op = 0 then
    let t := redFp32 0 (a * 65536) (b * 65536)
    match (Fmt.bf16.value a).add (Fmt.bf16.value b) with
    | .fin m e =>
      let r := cp4 .bf16 .rne (.fin m e)
      if m = 0 then (t.1 / 65536, 0) else if r.2.sat > 0 then (if m < 0 then 0xFF7F else 0x7F7F, 1) else (r.1, 0)
    | _ => (t.1 / 65536, 0)
  else let t := redFp32 op (a * 65536) (b * 65536); (t.1 / 65536, 0)

/-- Element of an INT32 reduction (R139). -/
def redInt (op a b : Nat) : Nat × Nat :=
  let x := signed 32 a
  let y := signed 32 b
  let enc (v : Int) : Nat := (v % 2 ^ 32).toNat
  if op = 0 then
    if x + y > 2 ^ 31 - 1 then (2 ^ 31 - 1, 1) else if x + y < -(2 ^ 31) then (2 ^ 31, 1) else (enc (x + y), 0)
  else if (op = 1) = decide (x ≥ y) then (a, 0) else (b, 0)

/-- Two flits combined element by element, the left operand first (R136, R139): payload and clamps. Formats 0 to 2
carry 4-byte elements, format 3 two-byte ones. -/
def redCombine (ext : Nat) (a b : List Byte) : List Byte × Nat :=
  let w := if redFormat ext = 3 then 2 else 4
  let el (bs : List Byte) (i : Nat) : Nat := leNat ((bs.drop (w * i)).take w)
  let es := (List.range (min a.length b.length / w)).map fun i =>
    match redFormat ext with
    | 0 => redInt (redOp ext) (el a i) (el b i)
    | 3 => redBf16 (redOp ext) (el a i) (el b i)
    | _ => redFp32 (redOp ext) (el a i) (el b i)
  (es.flatMap fun e => leBytes w e.1, (es.map (·.2)).sum)

/-- Widen format 2's BF16 source elements to FP32; other formats are carried as they are (R136). -/
def redWiden (ext : Nat) (src : List Byte) : List Byte :=
  if redFormat ext = 2 then (List.range (src.length / 2)).flatMap fun i => [0, 0] ++ ((src.drop (2 * i)).take 2) else src

/-- Result bytes at the destination: format 2 converts to BF16 once, RNE (R139), with clamps under R51. -/
def redResult (ext : Nat) (bs : List Byte) : List Byte × Nat :=
  if redFormat ext = 2 then
    let cs := (List.range (bs.length / 4)).map fun i => cp4 .bf16 .rne (Fmt.fp32.value (leNat ((bs.drop (4 * i)).take 4)))
    (cs.flatMap fun c => leBytes 2 c.1, (cs.map (·.2.sat)).sum)
  else (bs, 0)

/-- Offset of source byte `n` of a descriptor's rows from its base (R136). -/
def rowOffset (rowBytes : Nat) (stride : Int) (n : Nat) : Int := (n / rowBytes : Nat) * stride + (n % rowBytes : Nat)

/-- The descriptor behind a reduction group: of the cell that posted it, with the same EXT. -/
def State.redDesc (s : State) (g : RedGroup) : Option Desc :=
  ((s.cel g.cell).queue.find? fun d => d.started && decide (d.desc.op = 7) && decide (d.desc.ext = g.ext)).map (·.desc)

/-- A member's own elements of flit `i`, widened, and whether they read poisoned. -/
def State.redOwn (s : State) (g : RedGroup) (d : Desc) (i : Nat) : List Byte × Bool :=
  let n := redFlitBytes g.ext
  let rd (k : Nat) : Nat := (d.srcAddr + rowOffset d.rowBytes d.srcStride (n * i + k)).toNat
  let bs := (List.range n).map fun k => (s.mems.sram.read (rd k) 1).headD 0
  (redWiden g.ext bs, (List.range (n / 8)).any fun k => s.mems.sramPoison.get false (rd (8 * k) / 8))

/-- Which chains a destination waits for: A (stations d-8 to d-1) and B (d+1 to d+7) that hold a contributor
(R136). -/
def redChains (ext : Nat) : List Nat :=
  let d := redDest ext
  (if (List.range 8).any fun k => bit (redContrib ext) ((d + 15 - k) % 16) then [0] else []) ++
  (if (List.range 7).any fun k => bit (redContrib ext) ((d + 1 + k) % 16) then [1] else [])

/-- Counts of `n` clamps of a group, beside `sat` saturations of format 2's one conversion: SAT for INT32, SCALE_OVF for the other
formats, and SAT for that conversion (R51, R139). -/
def redCnt (ext n sat : Nat) : Cnt := if redFormat ext = 0 then { sat := n } else { ovf := n, sat := sat }

/-- Write the result of flit `i` at the destination, and count its clamps in the TENSOR guard slot with their launch marks (R65,
R136, R139, R141). -/
def State.redWrite (s : State) (g : RedGroup) (d : Desc) (i : Nat) (bs : List Byte) (bad : Bool) (clamps : Nat) (r : Nat) : State :=
  let (out, c2) := redResult g.ext bs
  let wr (k : Nat) : Nat := (d.dstAddr + rowOffset d.rowBytes d.dstStride (out.length * i + k)).toNat
  let s1 := s.forEach (List.range (out.length / 8)) fun k s =>
    { s with mems := s.mems.writeSram (wr (8 * k)) ((out.drop (8 * k)).take 8) bad }
  let slot := match s.launchOf r with
    | some l => (s.image l.image).bind fun im => if redTensor g.ext < im.tensors then some (im.firstSlot + redTensor g.ext) else none
    | none => none
  match slot with
  | some k => s1.addCounts r k (redCnt g.ext clamps c2)
  | none => s1

/-- Note what a flit showed of poison and clamps (R142). -/
def State.redSeen (s : State) (r : Nat) (bad : Bool) (clamps : Nat) : State :=
  s.modReg r fun x => { x with poisonSeen := x.poisonSeen || bad, rangeSeen := x.rangeSeen || decide (clamps > 0) }

/-! ### Chains (R136, R137) -/

/-- The station that a chain reaches next from `here`: the next contributor on the way to DEST, or DEST (R136). -/
def redNext (ext here : Nat) : Nat :=
  let d := redDest ext
  let cw := goesCw here d
  ((List.range (ringHops here d - 1)).map fun k => if cw then (here + 1 + k) % 16 else (here + 15 - k) % 16).find? (fun b => bit (redContrib ext) b)
    |>.getD d

/-- Flit `i` of a group as member `here` sends it on (R129, R136): ring (i + GROUP) mod 4. -/
def redFlit (ext here i : Nat) (last : Bool) (data : List Byte) (bad : Bool) (clamps : Nat) : Flit :=
  { flitOf here (redNext ext here) 3 3 1 6 i with
    ring := Fin.ofNat 4 (i + redGroup ext), cw := goesCw here (redDest ext), group := BitVec.ofNat 12 (redGroup ext), last := last
    poison := bad, rangeCount := min 255 clamps, data := data }

/-- The group that a flit belongs to at block `b`, with its descriptor, once it has been posted there (R137). -/
def State.redAt (s : State) (b : Nat) (f : Flit) : Option (RedGroup × Desc) :=
  (((s.blk b).groups.get none f.group.toNat)).bind fun g => (s.redDesc g).map fun d => (g, d)

/-- A flit of the group has left the member, or its results are written (R138, R142 LAST_DONE). -/
def State.redDone (s : State) (b group : Nat) : State :=
  let s1 := s.modBlk b fun x => { x with groups := x.groups.mod none group (·.map fun g => { g with done := g.done + 1 }) }
  match (s1.blk b).groups.get none group with
  | some g => s1.when (decide (g.done ≥ g.flits)) fun s => s.modReg (b / 16) fun x => { x with lastDone := group }
  | none => s1

/-- The flit as a contributor sends it on: its own elements added on the right, the clamps counted on, POISON when they read
poisoned (R136, R139, R141). -/
def State.redSum (s : State) (b : Nat) (g : RedGroup) (d : Desc) (f : Flit) : Flit :=
  let own := s.redOwn g d f.tag.toNat
  let t := redCombine g.ext f.data own.1
  redFlit g.ext (b % 16) f.tag.toNat (decide (f.tag.toNat + 1 = g.flits)) t.1 (f.poison || own.2) (f.rangeCount + t.2)

/-- A contributor has added its own elements: what it read and clamped is noted, and one more flit has gone (R138, R141). -/
def State.redAdded (s : State) (b : Nat) (g : RedGroup) (d : Desc) (f : Flit) : State :=
  let own := s.redOwn g d f.tag.toNat
  let f1 := s.redSum b g d f
  (((s.when own.2 fun s => s.sramCause d.srcAddr d.mark).redSeen (b / 16) f1.poison (redCombine g.ext f.data own.1).2)).redDone b f.group.toNat

/-- DEST takes a flit of a chain: it keeps the chain's result until the other chain's is there too, and then forms
(A + B) + own and writes it (R136, R139, R141). -/
def State.redTake (s : State) (b : Nat) (g : RedGroup) (d : Desc) (f : Flit) : State :=
  let i := f.tag.toNat
  let own := s.redOwn g d i
  let mine := bit (redContrib g.ext) (b % 16)
  let chains := g.chains.set none (2 * i + if f.cw then 0 else 1) (some (f.data, f.poison, f.rangeCount))
  let parts := (redChains g.ext).map fun k => chains.get none (2 * i + k)
  let put (ch : Tab (Option (List Byte × Bool × Nat))) (s : State) : State := s.modBlk b fun x =>
    { x with groups := x.groups.set none f.group.toNat (some { g with chains := ch }) }
  if parts.any (·.isNone) then put chains (s.redSeen (b / 16) f.poison f.rangeCount)
  else
    let got := parts.filterMap id
    let ins := got.map (·.1) ++ (if mine then [own.1] else [])
    let tot := match ins with
      | [] => ([], 0)
      | p :: ps => ps.foldl (fun acc q => let t := redCombine g.ext acc.1 q; (t.1, acc.2 + t.2)) (p, 0)
    let bad := got.any (·.2.1) || (mine && own.2)
    let clamps := (got.map (·.2.2)).sum + tot.2
    let s1 := (s.when (mine && own.2) fun s => s.sramCause d.srcAddr d.mark).redSeen (b / 16) bad clamps
    ((put ((chains.set none (2 * i) none).set none (2 * i + 1) none) s1).redWrite g d i tot.1 bad clamps (b / 16)).redDone b f.group.toNat

end Sys2Proof.Machine
end

