-- ==== Sys2Proof/Machine/Cells.lean ====
section
/-! DEFINITION. The cell instruction set: one meaning for each class of R110 and each form of SYNC. -/

namespace Sys2Proof.Machine

/-- An instruction of class `k` whose operation the class's bits [59:52] give (R110): nothing happens when the word at the
pointer names another one. -/
def instrOp (c t k op : Nat) (legal : Bool) (act : State → State) (s : State) : State :=
  if classOf (s.fetch c t) = k && operationOf (s.fetch c t) ≠ op then s else instr c t k legal act s

/-- SCALAR_ALU (R110): the destination takes the operation's result, which is a free function of the operands
(DESIGN CHOICE, log 23); a residue mismatch stamps VECTOR_RESIDUE and writes nothing (R57). -/
def execScalarAlu (c : Cell) (t : Thread) (i : AluOp) (s : State) : Host.Outcome State Fault Refusal :=
  .next (instrOp c t 0 i.op.toNat i.legal (reads c t (i.rs.val :: (i.rt.map (·.val)).toList) [] fun s =>
    if !i.residueOk then (s.bump Ctr.vectorResidue c).threadFault c t 0x0103
    else
      let a := s.x c t i.rs
      let b := match i.rt with | some r => s.x c t r | none => i.imm.setWidth 64
      ((s.setX c t i.rd (Config.scalarAlu i.op a b)).modThr c t fun x =>
        { x with cond := Config.scalarCond i.op a b x.cond }).nextIp c t) s)

/-- Does a range of the thread's local space lie in the cell's own store (R81)? -/
def ownStore (a n : Nat) : Bool := decide (a + n ≤ 0x100000)

/-- Effective address: base register plus signed 32-bit offset (R110). -/
def State.ea (s : State) (c t : Nat) (base : Reg) (offset : BitVec 32) : Nat :=
  (s.x c t base + offset.signExtend 64).toNat

/-- A load of up to 8 bytes extended to the register (DEDUCED, log 24). -/
def extend (n v : Nat) (sx : Bool) : Word :=
  if sx && v ≥ 2 ^ (8 * n - 1) then BitVec.ofNat 64 (v + (2 ^ 64 - 2 ^ (8 * n))) else BitVec.ofNat 64 v

/-- A store of thread `t` into the cell's own store: held back under R60, made otherwise. -/
def State.storeOwn (s : State) (c t a : Nat) (bs : List Byte) : State := s.putSram (cellSram c a) bs false (.thread t)

/-- After its stores the thread goes on to its next instruction; while one of them is held it waits, so that it observes its
own accesses in order (R60, R113, R114; DEDUCED, log 124). -/
def State.stored (s : State) (c t : Nat) : State :=
  let s1 := s.nextIp c t
  if (s.cel c).heldStores.any fun h => decide (h.owner = .thread t) then s1.park c t .waitMem .held else s1

/-- A posted access (R81): the 17th waits for an acknowledgement and is issued again; otherwise the thread stays
READY and gives up its turn, or waits while no slot is free for its request (R83, R84). -/
def State.postOut (s : State) (c t : Nat) (r : SlotSt) : State :=
  if (s.thr c t).posted ≥ 16 then s.park c t .waitMem .room
  else
    let s1 := ((s.request c t r).wakeReel.modThr c t fun x => { x with posted := x.posted + 1 }).nextIp c t
    if (s.threadSlot c).isSome then s1.park c t .ready else s1.park c t .waitMem .slot

/-- Has the thread a posted access to a line of the range that is not acknowledged? A load waits for it (R113). -/
def State.lineBusy (s : State) (c t a n : Nat) : Bool :=
  let hits (r : SlotSt) : Bool := (decide (r.kind = .store) || decide (r.kind = .atomic)) && decide (r.cell = c) && decide (r.thread = t) &&
    (linesOf a n).any fun l => (linesOf r.offset r.bytes).contains l
  ((s.blk (blockOfCell c)).slots.any fun e => hits e.2) || (s.cel c).requests.any fun q => hits q.2

/-- SCALAR_MEM (R81, R110): within the cell's own store at once; outside it a request, which a load waits for and
a store posts. A load of a poisoned word stamps CSTORE_UE (R96). -/
def execScalarMem (c : Cell) (t : Thread) (i : MemOp) (s : State) : Host.Outcome State Fault Refusal :=
  .next (instr c t 1 (i.legal && decide (1 ≤ i.bytes) && decide (i.bytes ≤ 8)) (reads c t (i.base.val :: if i.load then [] else [i.reg.val]) [] fun s =>
    let a := s.ea c t i.base i.offset
    if ownStore a i.bytes then
      if i.load then
        if s.mems.sramBad (cellSram c a) i.bytes then s.threadUe c t (cellSram c a)
        else (s.setX c t i.reg (extend i.bytes (leNat (s.mems.sram.read (cellSram c a) i.bytes)) i.signExtend)).nextIp c t
      else (s.storeOwn c t a (leBytes i.bytes (s.x c t i.reg).toNat)).stored c t
    else if i.load && s.lineBusy c t a i.bytes then s.park c t .waitMem .room
    else if i.load then
      ((s.request c t { kind := .load, reg := i.reg, bytes := i.bytes, dst := i.signExtend.toNat, offset := a }).nextIp c t).park c t .waitMem
    else s.postOut c t { kind := .store, bytes := i.bytes, offset := a, data := leBytes i.bytes (s.x c t i.reg).toNat }) s)

/-- Lane `k` of a vector register. -/
def laneOf (bf : Bool) (v : BitVec 2048) (k : Nat) : Nat := if bf then v.toNat / 2 ^ (16 * k) % 2 ^ 16 else v.toNat / 2 ^ (32 * k) % 2 ^ 32

/-- FP32 or BF16 arithmetic of one lane (R111), by the kind of operation; none for an operation that is no such arithmetic. -/
def laneArith (bf : Bool) (kind : Nat) (xs : List Nat) : Option Nat :=
  match kind, xs with
  | 1, [a, b, d] => some (ieeeFma bf a b d)
  | 2, a :: b :: _ => some (ieeeAdd bf a b)
  | 3, a :: b :: _ => some (ieeeAdd bf a ((b + if bf then 2 ^ 15 else 2 ^ 31) % if bf then 2 ^ 16 else 2 ^ 32))
  | 4, a :: b :: _ => some (ieeeMul bf a b)
  | _, _ => none

/-- Result of a VECTOR_ALU operation: FP32 and BF16 arithmetic rounds RNE under IEEE 754 and keeps subnormals (R41, R111); other
operations, other element types and lanes that the mask leaves out give what nothing constrains (DESIGN CHOICE, log 23). -/
def vectorResult (op : BitVec 8) (etype : BitVec 4) (srcs : List (BitVec 2048)) (mask old : BitVec 2048) : BitVec 2048 :=
  let free := Config.vectorAlu op etype srcs mask old
  match Config.vectorType etype with
  | none => free
  | some bf => BitVec.ofNat 2048 (leNat ((List.range (if bf then 128 else 64)).flatMap fun k =>
      leBytes (if bf then 2 else 4) (match laneArith bf (Config.vectorArith op) (srcs.map fun v => laneOf bf v k) with
        | some r => if Config.laneOn mask k then r else laneOf bf free k
        | none => laneOf bf free k)))

/-- VECTOR_ALU (R111): the destination takes the operation's result; a residue mismatch stamps VECTOR_RESIDUE (R57). -/
def execVectorAlu (c : Cell) (t : Thread) (i : VecOp) (s : State) : Host.Outcome State Fault Refusal :=
  .next (instrOp c t 2 i.op.toNat i.legal (reads c t [] ([i.vs.val, i.vt.val, i.mask.val] ++ (i.vu.map (·.val)).toList) fun s =>
    if !i.residueOk then (s.bump Ctr.vectorResidue c).threadFault c t 0x0103
    else
      let srcs := [s.v c t i.vs, s.v c t i.vt] ++ (match i.vu with | some r => [s.v c t r] | none => [])
      (s.setV c t i.vd (vectorResult i.op i.etype srcs (s.v c t i.mask) (s.v c t i.vd))).nextIp c t) s)

/-- The bytes of a vector register. -/
def vecBytes (v : BitVec 2048) (n : Nat) : List Byte := leBytes n v.toNat

/-- VECTOR_MEM (R81, R110): up to 256 bytes; in the own store element by element at the stride, outside it one
request. -/
def execVectorMem (c : Cell) (t : Thread) (i : VMemOp) (s : State) : Host.Outcome State Fault Refusal :=
  .next (instr c t 3 (i.legal && decide (1 ≤ i.elem * i.count) && decide (i.elem * i.count ≤ 256)) (reads c t [i.base.val] (if i.load then [] else [i.v.val]) fun s =>
    let a := s.ea c t i.base i.offset
    let at_ (k : Nat) : Nat := ((a : Int) + k * i.stride).toNat
    let ks := List.range i.count
    if ks.all (fun k => decide ((a : Int) + k * i.stride ≥ 0) && ownStore (at_ k) i.elem) then
      if i.load then
        if ks.any (fun k => s.mems.sramBad (cellSram c (at_ k)) i.elem) then s.threadUe c t (cellSram c a)
        else (s.setV c t i.v (BitVec.ofNat 2048 (leNat (ks.flatMap fun k => s.mems.sram.read (cellSram c (at_ k)) i.elem)))).nextIp c t
      else (s.forEach ks fun k s => s.storeOwn c t (at_ k) ((vecBytes (s.v c t i.v) 256).drop (k * i.elem) |>.take i.elem)).stored c t
    else if i.load && s.lineBusy c t a (i.elem * i.count) then s.park c t .waitMem .room
    else if i.load then
      ((s.request c t { kind := .vload, reg := i.v, bytes := i.elem * i.count, offset := a }).nextIp c t).park c t .waitMem
    else s.postOut c t { kind := .store, bytes := i.elem * i.count, offset := a, data := vecBytes (s.v c t i.v) (i.elem * i.count) }) s)

/-- Bits of a format, for the number of lanes of CONVERT. -/
def Fmt.lanes : Fmt → Nat
  | .fp32 => 64 | .bf16 => 128 | .e4m3 | .e5m2 => 256 | .fp4 | .int4 => 512 | .int2 | .t2 => 1024 | .t5b => 1280

/-- Sign bit of a float format's code; 0 for the others. -/
def Fmt.signBit : Fmt → Nat
  | .fp4 => 8 | .e4m3 | .e5m2 => 0x80 | .bf16 => 0x8000 | .fp32 => 2 ^ 31 | _ => 0

/-- Convert one lane (R111): CP4's conversion, but the sign of a zero is kept under IEEE 754 (R51). -/
def convertLane (src dst : Fmt) (md : Rnd) (code : Nat) : Nat :=
  let r := (cp4 dst md (src.value code)).1
  let neg := src.signBit != 0 && code / src.signBit % 2 = 1
  match src.value code with
  | .nan => r
  | _ => if neg && dst.signBit != 0 && r = 0 then dst.signBit else r

/-- CONVERT (R111): each lane under ROUND; SR_SEEDED draws from the launch's seed, scalar register 31 and the lane
with point 5 and step 0; SR_ENTROPY draws free values, and needs a sound source (R49). A residue mismatch stamps
VECTOR_RESIDUE (R57). -/
def execConvert (c : Cell) (t : Thread) (i : CvtOp) (s : State) : Host.Outcome State Fault Refusal :=
  .next (instr c t 4 (i.legal && (Fmt.ofCode i.src).isSome && (Fmt.ofCode i.dst).isSome) (reads c t (if i.round = 3 then [31] else []) [i.vs.val] fun s =>
    match Fmt.ofCode i.src, Fmt.ofCode i.dst with
    | some f, some g =>
      if !i.residueOk then (s.bump Ctr.vectorResidue c).threadFault c t 0x0103
      else if i.round = 2 && (s.reg (regionOfCell c)).entropyDead then s.threadFault c t 0x0104
      else
        let seed := match s.launchOf (regionOfCell c) with | some l => l.seed | none => 0
        let md (lane : Nat) : Rnd :=
          if i.round = 0 then .rne else if i.round = 1 then .rtz
          else if i.round = 2 then .sr (Config.entropy s.free 5 0 lane).toNat
          else .sr (srDraw seed ((s.x c t 31).toNat % 2 ^ 32) 5 0 lane)
        let row := vecBytes (s.v c t i.vs) 256
        let out := (List.range (min f.lanes g.lanes)).map fun k => convertLane f g (md k) (f.code row k)
        ((s.fresh).setV c t i.vd (BitVec.ofNat 2048 (leNat (packRow g out)))).nextIp c t
    | _, _ => s) s)

/-- The array-program entry of a cell at a cell-local address. -/
def State.arrayProg (s : State) (c a : Nat) : ArrayProg := ArrayProg.read (s.mems.sram.read (cellSram c a) 40)

/-- Has the array a place free: the one in execution, or the one behind it (R77)? -/
def CellSt.placeFree (x : CellSt) : Bool := x.exec.isNone || x.queued.isNone

/-- A tile takes the first free place. -/
def CellSt.place (x : CellSt) (t : Tile) : CellSt := if x.exec.isNone then { x with exec := some t } else { x with queued := some t }

/-- The tile in execution leaves, and the one behind it takes its place. -/
def CellSt.vacate (x : CellSt) : CellSt := { x with exec := x.queued, queued := none }

/-- A place of the array is free: the threads that wait for one are READY (R77, R84). -/
def State.wakeArray (s : State) (c : Nat) : State :=
  s.forEach ((List.range 8).filter fun t => decide ((s.thr c t).waiting = .arrayPlace)) fun t s => s.modThr c t fun x =>
    { x with state := .ready, waiting := .none }

/-- Take a tile with the cell's next sequence number, its entry read now (R62, R77; DESIGN CHOICE, log 125). -/
def State.queueTile (s : State) (c a : Nat) : State :=
  s.modCel c fun x => ({ x with tileSeq := x.tileSeq + 1 }).place { entry := a, seq := x.tileSeq + 1, prog := s.arrayProg c a }

/-- ARRAY (R77, R110): the tile takes a place of the array, or the thread waits while both are taken. An entry that is invalid
is ILLEGAL_OP (DEDUCED, log 25); one that reads poisoned is consumed (R96). -/
def execArray (c : Cell) (t : Thread) (rs : Reg) (legal : Bool) (s : State) : Host.Outcome State Fault Refusal :=
  let a := (s.x c t rs).toNat
  .next (instr c t 5 legal (reads c t [rs.val] [] fun s =>
    if !ownStore a 40 then s.threadFault c t 0x0105
    else if s.mems.sramBad (cellSram c a) 40 then s.threadUe c t (cellSram c a)
    else if !(s.arrayProg c a).valid then s.threadFault c t 0x0105
    else if !(s.cel c).placeFree then s.park c t .waitSync .arrayPlace
    else (s.queueTile c a).nextIp c t) s)

/-- Hold a thread until its posted accesses are acknowledged, then let it issue again; act when none is
outstanding (R113, R115). -/
def State.fenced (s : State) (c t : Nat) (act : State → State) : State :=
  if (s.thr c t).posted > 0 then s.park c t .waitMem .fence else act s

/-- Hold a thread in WAIT_SYNC while the 32 VC0 places of its block's station are full (R131). -/
def vc0Room (c t : Nat) (act : State → State) (s : State) : State :=
  if s.vc0Full (blockOfCell c) then s.park c t .waitSync .vc0 else act s

/-- SYNC signal (R115, R118, R131): after the thread's earlier accesses, once VC0 has a place; ILLEGAL_OP for a token above 4,095
or a count outside 1 to 255. -/
def execSyncSignal (c : Cell) (t : Thread) (token n : Nat) (s : State) : Host.Outcome State Fault Refusal :=
  .next (instr c t 6 (decide (token ≤ 4095) && decide (1 ≤ n) && decide (n ≤ 255)) (fun s =>
    s.fenced c t (vc0Room c t fun s => ((s.nextIp c t).signal (regionOfCell c) token n c).tellSignal (blockOfCell c) token n)) s)

/-- SYNC consuming wait (R118): takes n when the count is at least n, else WAIT_SYNC. -/
def execSyncWait (c : Cell) (t : Thread) (token n : Nat) (s : State) : Host.Outcome State Fault Refusal :=
  .next (instr c t 6 (decide (token ≤ 4095) && decide (1 ≤ n) && decide (n ≤ 255)) (fun s =>
    let r := regionOfCell c
    let m := (s.reg r).tokens.get 0 token
    if m ≥ n then (s.modReg r fun x => { x with tokens := x.tokens.set 0 token (m - n) }).nextIp c t
    else (s.nextIp c t).park c t .waitSync (.token token n true)) s)

/-- SYNC peeking wait (R118): as a consuming wait, but subtracts nothing. -/
def execSyncPeek (c : Cell) (t : Thread) (token n : Nat) (s : State) : Host.Outcome State Fault Refusal :=
  .next (instr c t 6 (decide (token ≤ 4095) && decide (1 ≤ n) && decide (n ≤ 255)) (fun s =>
    if (s.reg (regionOfCell c)).tokens.get 0 token ≥ n then s.nextIp c t
    else (s.nextIp c t).park c t .waitSync (.token token n false)) s)

/-- SYNC FENCE (R113): WAIT_MEM until every posted access of the thread is acknowledged. -/
def execSyncFence (c : Cell) (t : Thread) (s : State) : Host.Outcome State Fault Refusal :=
  .next (instr c t 6 true (fun s => s.fenced c t fun s => s.nextIp c t) s)

/-- SYNC arrive (R119): after the thread's earlier accesses, with or without waiting for the generation. -/
def execSyncArrive (c : Cell) (t : Thread) (barrier : Nat) (wait : Bool) (s : State) : Host.Outcome State Fault Refusal :=
  .next (instr c t 6 (decide (barrier ≤ 255)) (fun s =>
    s.fenced c t fun s =>
      let s1 := (s.nextIp c t).tellArrive (blockOfCell c) barrier
      if wait then (s1.park c t .waitSync (.barrier barrier)).arrive (regionOfCell c) barrier (some (c.val, t.val))
      else s1.arrive (regionOfCell c) barrier none) s)

/-- A module-scope barrier of launch `n` is released when every region of its mask has reached its count (R119). -/
def execModuleBarrierRelease (n barrier : Nat) (s : State) : Host.Outcome State Fault Refusal :=
  .next (match s.job.launches.find? (fun l => l.running && decide (l.seqNo.toNat = n)) with
    | some l => s.when ((onesOf 16 l.mask).all fun r => (s.bar r barrier).moduleScope && (s.bar r barrier).reached) fun s =>
        s.forEach (onesOf 16 l.mask) fun r s => s.releaseBar r barrier
    | none => s)

/-- Threads of a region that have waited in WAIT_SYNC for a token, an array place or a VC0 place as long as `ns` (R84). -/
def State.lateWaiters (s : State) (r ns : Nat) : List (Nat × Nat) :=
  (s.cell.filter fun e => decide (regionOfCell e.1 = r)).flatMap fun e => e.2.threads.filterMap fun t =>
    match t.2.state, t.2.waiting with
    | .waitSync, .token _ _ _ | .waitSync, .arrayPlace | .waitSync, .vc0 => if s.elapsed t.2.waitFrom ns then some (e.1, t.1) else none
    | _, _ => none

/-- BARRIER_TIMEOUT of a launch (R84, R119): a barrier generation not released in that time of its first arrival stamps the cause and
its waiting threads are FAULTED; a thread that has waited as long in WAIT_SYNC for a token, an array place or a VC0 place is FAULTED with the
same cause (DEDUCED, log 128). -/
def execBarrierTimeout (r : Region) (barrier : Nat) (s : State) : Host.Outcome State Fault Refusal :=
  .next (match s.launchOf r with
    | some l =>
      let b := s.bar r barrier
      let s1 := s.when (decide (b.arrived > 0) && s.elapsed b.firstAt (1000 * l.barrierUs)) fun s =>
        ((s.stamp 0x0107 barrier r).modBar r barrier fun b => { b with waiters := [] }).forEach b.waiters fun w s =>
          s.park w.1 w.2 .faulted
      s1.forEach (s.lateWaiters r (1000 * l.barrierUs)) fun w s => s.threadFault w.1 w.2 0x0107
    | none => s)

/-- The operand that a register names, of 8 bytes or of 16 with the next register above it. -/
def State.pairOf (s : State) (c t : Nat) (r : Reg) (wide : Bool) : BitVec 128 :=
  (s.x c t r).setWidth 128 + if wide then (s.x c t (r + 1)).setWidth 128 <<< 64 else 0

/-- ATOMIC (R81, R110): always leaves the store, posted. A 16-byte operand or compare value is its register and the next
one (DEDUCED, log 27). -/
def execAtomic (c : Cell) (t : Thread) (i : AtomOp) (s : State) : Host.Outcome State Fault Refusal :=
  .next (instrOp c t 8 i.op.toNat i.legal (reads c t [i.data.val, i.compare.val, i.addr.val] [] fun s =>
    s.postOut c t
      { kind := .atomic, reg := i.data, bytes := if i.wide then 16 else 8, offset := (s.x c t i.addr).toNat, aop := i.op.toNat,
        operand := s.pairOf c t i.data i.wide, compare := s.pairOf c t i.compare i.wide }) s)

/-- BRANCH (R110): to the target register or the offset when taken, to the next instruction otherwise. The offset counts bytes
from the branch's own address (DESIGN CHOICE, log 129). -/
def execBranch (c : Cell) (t : Thread) (i : BrOp) (s : State) : Host.Outcome State Fault Refusal :=
  .next (instr c t 9 i.legal (reads c t (i.target.map (·.val)).toList [] fun s =>
    let dest := match i.target with
      | some r => (s.x c t r).toNat
      | none => (BitVec.ofNat 64 (s.thr c t).ip + i.offset.signExtend 64).toNat
    s.modThr c t fun x => { x with ip := if Config.branchTaken i.cond x.cond then dest else x.ip + 8 }) s)

/-- SPECIAL (R110): reads Lea time, the linear cell index or the tile sequence number into a register. -/
def execSpecial (c : Cell) (t : Thread) (rd : Reg) (what : SpecialRead) (legal : Bool) (s : State) :
    Host.Outcome State Fault Refusal :=
  .next (instr c t 10 legal (fun s =>
    (s.setX c t rd (match what with
      | .lea => s.time.lea | .cellId => BitVec.ofNat 64 c.val | .tileSeq => (s.cel c).lastSeq.setWidth 64)).nextIp c t) s)

/-- END (R110): the thread is FREE. -/
def execEndThread (c : Cell) (t : Thread) (s : State) : Host.Outcome State Fault Refusal :=
  .next (instr c t 10 true (fun s => (s.nextIp c t).park c t .free) s)

/-- A thread that has issued in 64 consecutive beats gives up its turn when another is READY (R82). -/
def execThreadQuantum (c : Cell) (s : State) : Host.Outcome State Fault Refusal :=
  let x := s.cel c
  let th := s.thr c x.lastRun
  .next (s.when (decide (th.state = .running) && decide (th.issued ≥ 64) && !x.readyOrder.isEmpty) fun s => s.park c x.lastRun .ready)

end Sys2Proof.Machine
end

