-- ==== Sys2Proof/Machine/Tiles.lean ====
section
/-! DEFINITION. The array: tiles entering execution, the Teasel comparison, replay, entropy health (chapter 3). -/

namespace Sys2Proof.Machine

/-- Guard slot of a tile's output tensor: the running launch's image and OUT_TENSOR (R65, R106). -/
def State.tensorSlot (s : State) (r : Nat) (p : ArrayProg) : Option Nat :=
  match s.launchOf r with
  | some l => match s.image l.image with
    | some i => if p.outTensor < i.tensors then some (i.firstSlot + p.outTensor) else none
    | none => none
  | none => none

/-- The DELAYED power in force for a tile: none when its rule is not DELAYED or its history is empty (R68, R69). -/
def State.delayedFor (s : State) (r : Nat) (p : ArrayProg) : Option Int :=
  if p.control / 4 % 4 = 2 then
    match s.tensorSlot r p, Fmt.ofCode p.outFormat with
    | some k, some f =>
      let g := s.guardSlot k
      let m := g.hist.foldl max 0
      if m = 0 then none else some (delayedPower f m g.margin)
    | _, _ => none
  else none

/-- How the tile's conversion points round (R46, R49, R50; stream 0 without a guard slot: DESIGN CHOICE, log 127). -/
def State.tileDraw (s : State) (c : Nat) (tile : Tile) : Draw := fun point step ix =>
  let r := regionOfCell c
  match tile.prog.control % 4 with
  | 0 => .rne
  | 1 => .sr (Config.entropy s.free point step ix).toNat
  | _ => .sr (srDraw (match s.launchOf r with | some l => l.seed | none => 0) ((s.tensorSlot r tile.prog).getD 0) point step
      (Config.tensorIndex c tile.entry ix))

/-- What a tile leaves in the output stage. -/
def State.evalTile (s : State) (c : Nat) (tile : Tile) : TileOut :=
  tileEval tile.prog (fun a n => s.mems.sram.read (cellSram c a) n) (s.tileDraw c tile) (s.delayedFor (regionOfCell c) tile.prog)

/-- Does the tile read a poisoned word of the cell store? -/
def State.tilePoison (s : State) (c : Nat) (tile : Tile) : Bool :=
  tile.prog.inputs.any fun r => s.mems.sramBad (cellSram c r.1) r.2

/-- The tile in the execution place leaves the array without a result; the one behind it takes its place (R23, R49, R77). -/
def State.haltTile (s : State) (c : Nat) : State :=
  (s.modCel c fun x => { x.vacate with replayPending := false }).wakeArray c

/-- The tile in the execution place reads its operands and leaves its outputs to be compared. A poisoned operand stamps CSTORE_UE
and the tile halts (R23, R96); SR_ENTROPY with both sources failed stamps ENTROPY_FAIL (R49). -/
def State.runTile (s : State) (c : Nat) (tile : Tile) : State :=
  if s.tilePoison c tile then (s.stamp 0x0201 c (regionOfCell c) fun x => { x with cell := c, tile := tile.seq.toNat }).haltTile c
  else if tile.prog.control % 4 = 1 && (s.reg (regionOfCell c)).entropyDead then
    (s.stamp 0x0104 (regionOfCell c) (regionOfCell c) fun x => { x with cell := c, tile := tile.seq.toNat }).haltTile c
  else (s.modCel c fun x => { x with exec := some { tile with out := some (s.evalTile c tile) } }).fresh

/-- TILE_ISSUE (R76, R77): the tile in the execution place issues. -/
def execTileIssue (c : Cell) (s : State) : Host.Outcome State Fault Refusal :=
  .next (match (s.cel c).exec with
    | some tile => if decide ((s.reg (regionOfCell c)).state = .running) && !tile.inFlight then s.runTile c tile else s
    | none => s)

/-- A store that R60 held is made, and who waited for it goes on. -/
def State.freeHeld (s : State) (c : Nat) (h : HeldStore) : State :=
  let s1 := s.storeSram (cellSram c h.addr) h.data h.bad
  match h.owner with
  | .thread t => s1.when (decide ((s.thr c t).waiting = .held)) fun s => s.modThr c t fun x => { x with state := .ready, waiting := .none }
  | .slot tag => s1.ringAck tag (blockOfCell c)
  | _ => s1

/-- Release a tile's outputs and everything held with them (R56, R67, R69): stores, counts, amax, the held stores
of R60, the token of R105. -/
def State.releaseTile (s : State) (c : Nat) (tile : Tile) (out : TileOut) : State :=
  let r := regionOfCell c
  let p := tile.prog
  let s1 := s.forEach out.writes fun w s => s.when (!w.2.isEmpty) (·.storeSram (cellSram c w.1) w.2)
  let s2 := match s.tensorSlot r p with
    | some k => (s1.addCounts r k out.cnt).modGuard k fun g =>
        { g with
          amax := if g.amaxEn then max g.amax out.amax else g.amax
          nanSeen := g.nanSeen || (g.amaxEn && out.nanSeen)
          infSeen := g.infSeen || (g.amaxEn && out.infSeen)
          fallback := if p.control / 4 % 4 = 2 then (s.delayedFor r p).isNone else g.fallback }
    | none => s1
  let held := (s2.cel c).heldStores
  let s3 := (s2.modCel c fun x => { x.vacate with lastSeq := tile.seq, replayPending := false, heldStores := [] }).wakeArray c
  let s4 := s3.forEach held fun h s => s.freeHeld c h
  s4.when (decide (p.signalToken ≠ 0)) fun s => (s.signal r p.signalToken 1 c).tellSignal (blockOfCell c) p.signalToken 1

/-- Mismatches of a cell within the last 1,000,000 ns (R61). -/
def State.recentMismatches (s : State) (c : Nat) : List Lea :=
  (s.cel c).mismatches.filter fun t => decide (since t s.time.lea < 1000000)

/-- A mismatch ends the job (R59, R61): the tile halts with the cause stamped. -/
def State.teaselFault (s : State) (c code : Nat) (tile : Tile) : State :=
  (s.haltTile c).stamp code c (regionOfCell c) fun x => { x with cell := c, tile := tile.seq.toNat }

/-- TEASEL_COMPARE (R54-R62): the comparisons of the tile in the array are made, with what went wrong in the hardware, if
anything. A match releases the outputs, after a replay as a corrected event; a mismatch discards them and replays once under REPLAY, or ends the
job; the eighth mismatch of a cell within 1,000,000 ns is TEASEL_STORM. -/
def execTeaselCompare (c : Cell) (upset : TileUpset) (s : State) : Host.Outcome State Fault Refusal :=
  .next (match (s.cel c).exec with
    | some tile => match tile.out with
      | some out =>
        if out.holds upset then
          (s.when tile.replay fun s => (s.bump Ctr.teaselReplay c).fire (16 * regionOfCell c + 1) 0 c tile.seq.toNat).releaseTile c tile out
        else
          let recent := s.recentMismatches c
          let s1 := ((s.bump Ctr.teaselMismatch c).fire (16 * regionOfCell c + 1) 0x0101 c tile.seq.toNat).modCel c fun x =>
            { x with mismatches := recent ++ [s.time.lea] }
          let replay := match s.launchOf (regionOfCell c) with | some l => l.replay | none => false
          if recent.length ≥ 7 then s1.teaselFault c 0x0102 tile
          else if replay && !tile.replay then
            s1.modCel c fun x => { x with exec := some { tile with replay := true, out := none }, replayPending := true }
          else s1.teaselFault c 0x0101 tile
      | none => s
    | none => s)

/-- REPLAY_ISSUE (R60): the failed tile is executed again on the same cell, from operands read again; not in a halted region
(R25). -/
def execReplayIssue (c : Cell) (s : State) : Host.Outcome State Fault Refusal :=
  .next (match (s.cel c).exec with
    | some tile =>
      if decide ((s.reg (regionOfCell c)).state = .running) && tile.replay && tile.out.isNone && (s.cel c).replayPending then s.runTile c tile
      else s
    | none => s)

/-- ENTROPY_HEALTH_FAIL (R49): the region switches to its other source, a corrected event; when both have failed,
SR_ENTROPY conversions stop and ENTROPY_FAIL is stamped. -/
def execEntropyHealthFail (r : Region) (s : State) : Host.Outcome State Fault Refusal :=
  let x := s.reg r
  let s1 := (s.bump Ctr.entropySwitch r).fire (16 * r.val + 2) 0 r
  .next (if x.entropyDead then s
    else if x.entropyAlt then (s1.modReg r fun x => { x with entropyDead := true }).stamp 0x0104 r r
    else s1.modReg r fun x => { x with entropyAlt := true })

end Sys2Proof.Machine
end

