-- ==== Sys2Proof/Machine/Stream.lean ====
section
/-! DEFINITION. The stream engine: descriptors, their requests and replies, slots, timeouts, and SRAM error
correction (chapter 4). -/

namespace Sys2Proof.Machine

/-! ### Descriptors (R89-R92) -/

/-- Signed value of `w` bits. -/
def signedNat (w n : Nat) : Int := if n % 2 ^ w ≥ 2 ^ (w - 1) then (n % 2 ^ w : Nat) - 2 ^ w else (n % 2 ^ w : Nat)

/-- A descriptor from its 64 bytes (R89). -/
def Desc.read (bs : List Byte) : Desc :=
  let f (lo n : Nat) : Nat := leNat ((bs.drop lo).take n)
  { op := f 0 1, flags := f 1 1, spaces := f 2 1, scaleMode := f 3 1, rowBytes := f 4 4, rows := f 8 4, srcStride := signedNat 32 (f 12 4),
    dstStride := signedNat 32 (f 16 4), signalToken := f 20 2, waitToken := f 22 2, srcAddr := f 24 8, dstAddr := f 32 8, aux := f 40 8,
    ext := f 48 8, cookie := BitVec.ofNat 64 (f 56 8) }

namespace Desc
/-- FLAGS (R89). -/
def fence (d : Desc) : Bool := bit d.flags 0
def scaled (d : Desc) : Bool := bit d.flags 1
def noCache (d : Desc) : Bool := bit d.flags 2
/-- Space codes (R89, R91). -/
def src (d : Desc) : Nat := d.spaces % 16
def dst (d : Desc) : Nat := d.spaces / 16
end Desc

/-- Scale bytes per row under SCALED (R89). -/
def Desc.scaleBytes (d : Desc) : Nat :=
  match d.scaleMode with
  | 1 => (2 * d.rowBytes + 31) / 32
  | 2 => (d.rowBytes + 31) / 32
  | _ => 8 * ((2 * d.rowBytes + 255) / 256)

/-- Does the operation read source rows, write destination rows (R90)? PLY_TX: by ROLE and LOCAL (R225). -/
def Desc.reads (d : Desc) : Bool :=
  match d.op with
  | 4 | 6 => false
  | 8 => !bit d.ext 0 || bit d.ext 4
  | _ => true
def Desc.writes (d : Desc) (here : Nat) : Bool :=
  match d.op with
  | 5 => false
  | 7 => decide (redDest d.ext = here % 16)
  | 8 => bit d.ext 0
  | _ => true

/-- Alignment of R91 for a side: SRAM 8, REEL 128. -/
def alignOk (space addr rowBytes : Nat) (stride : Int) : Bool :=
  let m := if space = 0 then 8 else if space = 2 then 128 else 1
  decide (addr % m = 0) && decide (rowBytes % m = 0) && decide (stride % m = 0)

/-- A row lies in its space: SRAM in one store, HBM below its end; REEL offsets are judged by the home (R92). -/
def rowIn (space : Nat) (addr : Int) (n : Nat) : Bool :=
  decide (space ≥ 2) || (decide (addr ≥ 0) && spaceValid space addr.toNat n)

/-- Are all rows of a strided side in their space (R92)? -/
def rowsIn (space addr n rows : Nat) (stride : Int) : Bool :=
  (List.range rows).all fun i => rowIn space ((addr : Int) + (i : Int) * stride) n

/-- Bits of EXT that an operation leaves 0 (R89, R136, R193, R225); for RAW_TX the SRAM address of its delivered mask (R196). -/
def Desc.extOk (d : Desc) : Bool :=
  match d.op with
  | 5 => sramValid d.ext 8 && decide (d.ext % 8 = 0)
  | 6 => decide (d.ext = 0)
  | 7 => decide (d.ext < 2 ^ 48) && decide (redOp d.ext ≠ 3)
  | 8 => decide (d.ext < 2 ^ 48) && decide (d.ext / 32 % 8 = 0) && decide (d.ext / 8192 % 8 = 0) && decide (2 ≤ d.ext / 256 % 32) &&
      decide (d.ext / 256 % 32 ≤ 24) && (bit d.ext 0 || (!bit d.ext 3 && !bit d.ext 4)) && decide (signedNat 8 (d.ext / 65536) ≥ -126)
  | _ => if d.src = 2 || d.dst = 2 then decide (d.ext / 65536 % 65536 = 0) else d.scaled || decide (d.ext = 0)

/-- Is the descriptor one that R92, R136, R178, R193 and R225 allow, as far as its own bytes and the block that posts it tell?
(an index list in one store: DESIGN CHOICE, log 152). -/
def Desc.valid (d : Desc) (block : Nat) : Bool :=
  let raw := decide (d.op = 5) || decide (d.op = 6)
  decide (1 ≤ d.op) && decide (d.op ≤ 8) && decide (d.flags < 8) && decide (d.src ≤ 3) && decide (d.dst ≤ 3) &&
  decide (1 ≤ d.rowBytes) && decide (d.rowBytes ≤ 2 ^ 24) && decide (1 ≤ d.rows) && decide (d.rows ≤ 2 ^ 24) &&
  decide (d.signalToken ≤ 4095) && decide (d.waitToken ≤ 4095) && !(decide (d.src = 2) && decide (d.dst = 2)) &&
  (!d.noCache || (d.reads && decide (d.src = 2))) && (d.reads || decide (d.op = 6) || decide (d.src = 0)) &&
  (if d.scaled then decide (d.op = 1) && decide (d.src ≠ 2) && decide (d.dst ≠ 2) && decide (1 ≤ d.scaleMode) && decide (d.scaleMode ≤ 3)
    else decide (d.scaleMode = 0)) &&
  (if d.op = 5 then decide (d.src = 0) && decide (d.dst = 3) && decide (d.dstAddr = 0) else true) &&
  (if d.op = 6 then decide (d.src = 3) && decide (d.dst = 0) && decide (d.srcAddr = 0) else true) &&
  (raw || (decide (d.src ≠ 3) && decide (d.dst ≠ 3))) &&
  (if d.op = 7 || d.op = 8 then decide (d.spaces = 0) && decide (d.rowBytes % 4 = 0) else true) &&
  (if d.op = 7 then (decide (redDest d.ext = block % 16) || bit (redContrib d.ext) (block % 16)) &&
      decide (d.rowBytes * d.rows % redFlitBytes d.ext = 0) && decide (d.rowBytes * d.rows ≤ 2 ^ 24) else true) &&
  d.extOk &&
  (if d.reads then alignOk d.src d.srcAddr d.rowBytes d.srcStride &&
      (if d.op = 2 then true else rowsIn d.src d.srcAddr d.rowBytes d.rows d.srcStride)
    else decide (d.srcAddr = 0) && decide (d.srcStride = 0)) &&
  (if d.writes block then alignOk d.dst d.dstAddr d.rowBytes d.dstStride &&
      (if d.op = 3 then true else rowsIn d.dst d.dstAddr d.rowBytes d.rows d.dstStride)
    else decide (d.dstAddr = 0) && decide (d.dstStride = 0)) &&
  (if d.scaled then alignOk d.src d.aux 8 0 && alignOk d.dst d.ext 8 0 && rowsIn d.src d.aux d.scaleBytes d.rows d.scaleBytes && rowsIn d.dst d.ext d.scaleBytes d.rows d.scaleBytes else true) &&
  (if d.op = 2 || d.op = 3 then sramValid d.aux (4 * d.rows) && decide (d.aux % 8 = 0) else if d.op = 1 && !d.scaled then decide (d.aux = 0) else true) &&
  (if d.op = 8 then decide (d.rowBytes * d.rows / 4 ≤ 4194304) else true)

/-- Does AUX name a PHASE bobbin of a table that the job has loaded (R193)? -/
def State.namesBobbin (s : State) (aux : Nat) : Bool :=
  decide (aux / 2 ^ 30 % 4 = 2) && decide (aux < 2 ^ 32) && (s.table (aux / 2 ^ 26 % 16)).isSome

/-- The bobbin that an identifier of a loaded table names (R193). -/
def State.bobOf (s : State) (aux : Nat) : Option Bob :=
  match s.table (aux / 2 ^ 26 % 16) with
  | some t => ((t.placed[aux / 65536 % 1024]?).getD [])[aux % 65536]?
  | none => none

/-- Validity at run time: the descriptor itself, the bobbin of R193, and the region of R225. -/
def State.descOk (s : State) (block : Nat) (d : Desc) : Bool :=
  d.valid block &&
  if 5 ≤ d.op ∧ d.op ≠ 7 then
    s.namesBobbin d.aux &&
    (if d.op = 8 then match s.bobOf d.aux with
      | some b => if bit d.ext 0 then b.drops.any fun x => decide (x.1 = block / 16) else decide (b.src = block / 16)
      | none => true
    else true)
  else true

/-- An invalid descriptor issues no request and stamps SE_DESC with its block and cookie (R92). -/
def State.badDesc (s : State) (c : Nat) (d : Desc) : State :=
  (s.bump Ctr.seDesc (blockOfCell c)).stamp 0x0205 (blockOfCell c) (regionOfCell c) fun x => { x with cookie := d.cookie, cell := c }

/-- Post a descriptor to a cell queue, behind those that wait (R89). -/
def State.postDesc (s : State) (c : Nat) (d : Desc) : State :=
  if s.descOk (blockOfCell c) d then s.modCel c fun x => { x with queue := x.queue ++ [{ no := x.descNo, desc := d }], descNo := x.descNo + 1 }
  else s.badDesc c d

/-- Offset in a block store of descriptor `n` of an image's DESCRIPTORS sections that select block `b` (R104). -/
def descPlace : List (Nat × Nat × Nat) → Nat → Nat → Option Nat
  | [], _, _ => none
  | (m, at_, k) :: t, b, n => if bit m b then (if n < k then some (at_ + 64 * n) else descPlace t b (n - k)) else descPlace t b n

/-- SRAM address of descriptor `n` of the image of the launch that runs at block `b` (R89, R104, R121). -/
def State.descAddr (s : State) (b n : Nat) : Option Nat :=
  ((s.launchOf (b / 16)).bind fun l => s.image l.image).bind fun im => (descPlace im.descs (b % 16) n).map (blockSram b)

/-- SRAM address of the descriptor that a DESC names: in the thread's own store, or of the image's DESCRIPTORS. -/
def State.descRef (s : State) (c t : Nat) (ref : DescRef) : Option Nat :=
  match ref with
  | .reg r => if ownStore (s.x c t r).toNat 64 then some (cellSram c (s.x c t r).toNat) else none
  | .index n => s.descAddr (blockOfCell c) n

/-- Scalar registers that a DESC reads. -/
def descRegs : DescRef → List Nat
  | .reg r => [r.val]
  | .index _ => []

/-- DESC (R89, R110): the descriptor at an address of the thread's own store, or of the image's DESCRIPTORS, is
posted to the cell's queue. With 16 in the queue the thread gives up its turn and issues it again (DESIGN CHOICE, log 130); a
descriptor that lies nowhere stamps SE_DESC (DESIGN CHOICE, log 130); one that reads poisoned is consumed (R96). -/
def execDesc (c : Cell) (t : Thread) (ref : DescRef) (legal : Bool) (s : State) : Host.Outcome State Fault Refusal :=
  .next (instr c t 7 legal (reads c t (descRegs ref) [] fun s =>
    if (s.cel c).queue.length ≥ 16 then s.park c t .ready
    else match s.descRef c t ref with
      | some a =>
        if s.mems.sramBad a 64 then s.threadUe c t a
        else (s.nextIp c t).postDesc c (Desc.read (s.mems.sram.read a 64))
      | none => (s.nextIp c t).badDesc c (Desc.read [])) s)

/-! ### Requests of a descriptor (R87, R88, R90) -/

/-- Index `i` of a GATHER or SCATTER list (R89). -/
def State.indexAt (s : State) (d : Desc) (i : Nat) : Nat := leNat (s.mems.sram.read (d.aux + 4 * i) 4)

/-- Source and destination addresses of row `i` (R90). -/
def State.rowSrc (s : State) (d : Desc) (i : Nat) : Int :=
  d.srcAddr + (if d.op = 2 then (s.indexAt d i : Int) else i) * d.srcStride
def State.rowDst (s : State) (d : Desc) (i : Nat) : Int :=
  d.dstAddr + (if d.op = 3 then (s.indexAt d i : Int) else i) * d.dstStride

/-- Bytes of the request that begins `col` bytes into a row: to the row's end, to the next 1 KiB granule of either
space, and one line on a REEL side (R87). -/
def pieceLen (d : Desc) (src dst : Nat) (col : Nat) : Nat :=
  let cut (space a : Nat) : Nat := if space = 2 then 128 - a % 128 else 1024 - a % 1024
  min (d.rowBytes - col) (min (if d.reads then cut d.src src else 1024) (cut d.dst dst))

/-- Bytes of FILL from byte `j` of a row (R90). -/
def fillBytes (d : Desc) (j n : Nat) : List Byte := (List.range n).map fun i => BitVec.ofNat 8 (d.aux / 256 ^ ((j + i) % 8))

/-- Node and offset of a REEL address (R91). -/
def reelNode (a : Nat) : BitVec 16 := BitVec.ofNat 16 (a / 2 ^ 48)
def reelOffset (a : Nat) : Nat := a % 2 ^ 48

/-- The slot that a request of descriptor `q` will hold. -/
def slotFor (c : Nat) (q : DescSt) (n : Nat) : SlotSt := { kind := .desc, cell := c, desc := q.no, bytes := n }

/-- What a descriptor asks for next: a piece of its index list, of a row, or of its scale array; nothing when it has asked for
all, or waits for its index list (R87, R89, R92). -/
inductive Want where
  | index | row | scale | nothing
deriving DecidableEq, Repr

/-- Bytes of the scale array that a descriptor moves (R89). -/
def Desc.scaleTotal (d : Desc) : Nat := if d.scaled then d.scaleBytes * d.rows else 0

/-- What a started descriptor of OP 1 to 4 asks for next. -/
def DescSt.want (q : DescSt) : Want :=
  if !q.started || q.stopped || decide (q.desc.op > 4) then .nothing
  else if q.row < q.desc.rows then
    if (q.desc.op = 2 || q.desc.op = 3) && decide (q.indexGot ≤ q.row) then (if q.indexAt ≤ 4 * q.row then .index else .nothing) else .row
  else if q.scaleAt < q.desc.scaleTotal then .scale else .nothing

/-- Change the descriptor of a cell with number `no`. -/
def State.modDesc (s : State) (c no : Nat) (f : DescSt → DescSt) : State :=
  s.modCel c fun x => { x with queue := x.queue.map fun y => if y.no = no then f y else y }

/-- Give slot `i` of block `b` to a request. -/
def State.giveSlot (s : State) (b i : Nat) (r : SlotSt) : State :=
  let now := s.time.lea
  ((s.countReel r.reel).modBlk b fun x =>
    let y := x.fill i { r with at_ := now, sentAt := now, firstAt := now, order := s.reel.issued }
    { y with slots := y.slots.mod {} i fun z => { z with epoch := if r.reel then z.epoch + 1 else z.epoch } }).notePeak (b / 16)

/-- A read over the fabric (R271): from the remote-line cache when it hits, otherwise by a READ. An uncorrectable cached line is
dropped and fetched again (R258). -/
def State.reelRead (s : State) (b i : Nat) (r : SlotSt) : State :=
  let die := (r.offset / 1024 % 8) ^^^ (r.offset / 8192 % 8) ^^^ (r.node.toNat % 8)
  let s1 := s.giveSlot b i r
  match if r.noCache then none else s.memory.rcache.find? fun l => decide (l.node = r.node) && decide (l.handle = r.handle) && decide (l.offset / 128 = r.offset / 128) with
  | some l =>
    if Config.lineLost s1.free then
      (({ s1 with memory := { s1.memory with rcache := s1.memory.rcache.erase l } }.fresh).bump Ctr.rcacheUe die).sendReel (256 * b + i)
    else ((({ s1 with memory := { s1.memory with rcache := l :: s1.memory.rcache.erase l } }).fresh.bump Ctr.rcacheHit die).store r.dstSpace r.dst l.data).endSlot (256 * b + i)
  | none => (s1.when (!r.noCache) fun s => s.bump Ctr.rcacheMiss die).sendReel (256 * b + i)

/-- Descriptor number `no` of cell `c` issues nothing more (R92). -/
def State.stopDesc (s : State) (c no : Nat) : State := s.modDesc c no fun y => { y with stopped := true }

/-- The write side of a descriptor's request in slot `tag`: through the rings to another block of the region, where it acts when its
flits arrive; into the own block or beyond the region at once, poison with it, and the slot waits for the acknowledgement
(R86, R87; DEDUCED, log 42). -/
def State.landPiece (s : State) (tag : Nat) (bs : List Byte) (bad : Bool) : State :=
  let r := s.slot tag
  let b := tag / 256
  let s1 := (s.send (reqPkt (b / 16) (stationOf r.dstSpace r.dst) 2 tag r.gen r.dstSpace r.dst bs.length bs bad)).ringAccess
    b tag 3 2 r.dstSpace r.dst bs.length bs bad
  if byRing b r.dstSpace r.dst then s1.modSlot tag fun x => { x with onRing := true }
  else s1.when (s.answers r.dstSpace r.dst) fun s => s.store r.dstSpace r.dst bs bad (.slot tag)

/-- Copy `n` bytes between two spaces of the module in slot `i`: a READ_REQ goes to another block of the region on the rings;
elsewhere the data are read at once, and written on (R86, R87; DEDUCED, log 42). -/
def State.copyPiece (s : State) (c : Nat) (d : Desc) (i : Nat) (r : SlotSt) (src dst n : Nat) : State :=
  let b := blockOfCell c
  let tag := 256 * b + i
  let s1 := (s.giveSlot b i { r with fromHbm := decide (d.src = 1), srcSpace := d.src, offset := src, dstSpace := d.dst, dst := dst }).ringAccess
    b tag 3 0 d.src src n [] false
  if byRing b d.src src then s1.modSlot tag fun x => { x with onRing := true }
  else
    let bad := s.mems.bad d.src src n
    let s2 := (s1.when bad fun s => s.consume d.src src n d.mark).send (reqPkt (regionOfCell c) (stationOf d.src src) 0 tag (s1.slot tag).gen d.src src n)
    s2.when (s.answers d.src src) fun s => s.landPiece tag (s.mems.readSpace d.src src n) bad

/-- Ask for the next piece of an index list, one granule at most. Its first poisoned word ends the list: the store that reads it
stamps its cause, and no index of that word or a later one is used (R92). -/
def State.issueIndex (s : State) (c : Nat) (q : DescSt) (i : Nat) : State :=
  let b := blockOfCell c
  let a := q.desc.aux + q.indexAt
  let n := min (4 * q.desc.rows - q.indexAt) (1024 - a % 1024)
  let good := match (wordsOf a n).find? fun w => s.mems.sramPoison.get false w with
    | some w => 8 * w - a
    | none => n
  let s1 := s.when (decide (good < n)) fun s => s.sramCause (a + good) q.desc.mark
  let s2 := s1.modDesc c q.no fun y => { y with indexAt := if good < n then 4 * q.desc.rows else q.indexAt + n, outstanding := y.outstanding + 1 }
  let s3 := s2.giveSlot b i { slotFor c q good with index := true, srcSpace := 0, offset := a, onRing := byRing b 0 a }
  (s3.send (reqPkt (regionOfCell c) (stationOf 0 a) 0 (256 * b + i) (s3.slot (256 * b + i)).gen 0 a good)).ringAccess b (256 * b + i) 3 0 0 a good [] false

/-- Ask for the next piece of a scale array (R87, R89). -/
def State.issueScale (s : State) (c : Nat) (q : DescSt) (i : Nat) : State :=
  let d := q.desc
  let src := d.aux + q.scaleAt
  let dst := d.ext + q.scaleAt
  let n := min (d.scaleTotal - q.scaleAt) (min (1024 - src % 1024) (1024 - dst % 1024))
  (s.modDesc c q.no fun y => { y with scaleAt := q.scaleAt + n, outstanding := y.outstanding + 1 }).copyPiece c d i (slotFor c q n) src dst n

/-- The request of a descriptor that begins at its cursor, in slot `i`; REEL sides send one line. Source and destination of the
row that lie beyond their space stamp SE_DESC (R92). -/
def State.issuePiece (s : State) (c : Nat) (q : DescSt) (i : Nat) : State :=
  let d := q.desc
  let b := blockOfCell c
  let src := s.rowSrc d q.row + q.col
  let dst := s.rowDst d q.row + q.col
  let n := pieceLen d src.toNat dst.toNat q.col
  if (decide (d.op = 2) && !rowIn d.src (s.rowSrc d q.row) d.rowBytes) || (decide (d.op = 3) && !rowIn d.dst (s.rowDst d q.row) d.rowBytes) then (s.stopDesc c q.no).badDesc c d
  else
    let s0 := s.modDesc c q.no fun y =>
      { y with row := if q.col + n ≥ d.rowBytes then y.row + 1 else y.row, col := if q.col + n ≥ d.rowBytes then 0 else q.col + n, outstanding := y.outstanding + 1 }
    let r := slotFor c q n
    if d.reads && d.src = 2 then
      s0.reelRead b i { r with reel := true, opcode := 1, node := reelNode src.toNat, handle := BitVec.ofNat 16 d.ext, key := BitVec.ofNat 32 (d.ext / 2 ^ 32),
                               offset := reelOffset src.toNat, noCache := d.noCache, dstSpace := d.dst, dst := dst.toNat }
    else
      let bad := d.reads && s.mems.bad d.src src.toNat n
      let s1 := s0.when bad fun s => s.consume d.src src.toNat n d.mark
      let bytes := if d.reads then s.mems.readSpace d.src src.toNat n else fillBytes d q.col n
      if d.dst = 2 then
        (s1.giveSlot b i { r with reel := true, opcode := 3, node := reelNode dst.toNat, handle := BitVec.ofNat 16 d.ext,
                                  key := BitVec.ofNat 32 (d.ext / 2 ^ 32), offset := reelOffset dst.toNat, data := bytes, bad := bad }).sendReel (256 * b + i)
      else
        if d.reads then s0.copyPiece c d i r src.toNat dst.toNat n
        else (s0.giveSlot b i { r with dstSpace := d.dst, dst := dst.toNat }).landPiece (256 * b + i) bytes false

/-- Issue the next request of descriptor number `no` of cell `c` in slot `i`. -/
def State.issueOne (s : State) (c no i : Nat) : State :=
  match (s.cel c).queue.find? fun d => d.no = no with
  | some q => match q.want with
    | .index => s.issueIndex c q i
    | .row => s.issuePiece c q i
    | .scale => s.issueScale c q i
    | .nothing => s
  | none => s

/-! ### Slot arbitration (R88) -/

/-- Oldest waiting thread request of a block: cell and request (R88). -/
def State.oldestRequest (s : State) (b : Nat) : Option (Nat × Nat × SlotSt) :=
  (List.range 16).foldl (fun acc k =>
    let c := 16 * b + k
    match (s.cel c).requests.head?, acc with
    | some r, none => some (c, r.1, r.2)
    | some r, some a => if before r.2.at_ a.2.2.at_ then some (c, r.1, r.2) else some a
    | none, a => a) none

/-- The next cell of a block, in round-robin from the one granted last, with a started descriptor that has requests
left (R88). -/
def State.nextGrant (s : State) (b : Nat) : Option (Nat × Nat) :=
  ((List.range 16).map fun i => 16 * b + ((s.blk b).grantNext + i) % 16).findSome? fun c =>
    ((s.cel c).queue.find? fun q => decide (q.want ≠ .nothing)).map fun q => (c, q.no)

/-- A thread's request leaves the request buffer; a thread that waited for that alone is READY (R83, R84). -/
def State.leaveBuffer (s : State) (c t : Nat) : State :=
  (s.modCel c fun x => { x with requests := x.requests.drop 1 }).when (decide ((s.thr c t).waiting = .slot)) fun s =>
    s.modThr c t fun x => { x with state := .ready, waiting := .none }

/-- A free slot is given out (R88): to the oldest waiting thread request while requests of threads hold fewer than 128, otherwise
to the head descriptor of the next cell queue. The engines of a halted region issue nothing (R25). -/
def State.grantSlot (s : State) (b : Nat) : State :=
  match (s.blk b).freeSlot with
  | some i =>
    if (s.blk b).frozen || !decide ((s.reg (regionOfBlock b)).state = .running) then s
    else match if (s.blk b).threadSlots < 128 then s.oldestRequest b else none with
      | some (c, t, r) => ((s.leaveBuffer c t).sendThread c i r).wakeReel.notePeak (regionOfBlock b)
      | none => match s.nextGrant b with
        | some (c, no) => (s.modBlk b fun x => { x with grantNext := (c + 1) % 16 }).issueOne c no i
        | none => s
  | none => s

/-! ### Starting (R89, R93) -/

/-- The descriptor of a cell queue that starts next: the first not started. -/
def CellSt.nextDesc (x : CellSt) : Option DescSt := x.queue.find? fun d => !d.started

/-- May a RING_REDUCE join its group: the block has fewer than 16 active groups (R138), and none of that number (DESIGN CHOICE,
log 135)? -/
def BlockSt.groupFree (x : BlockSt) (d : Desc) : Bool :=
  decide (x.groups.length < 16) && (x.groups.get none (redGroup d.ext)).isNone

/-- May it start: its region runs and its engine is not frozen, its WAIT_TOKEN is there, under FENCE every
earlier descriptor has completed, and a slot is free for one that takes one for its duration (R93, R138)? -/
def State.mayStart (s : State) (c : Nat) (q : DescSt) : Bool :=
  decide ((s.reg (regionOfCell c)).state = .running) && !(s.blk (blockOfCell c)).frozen &&
  (decide (q.desc.op ≤ 4) || (s.blk (blockOfCell c)).freeSlot.isSome) &&
  (decide (q.desc.op ≠ 7) || (s.blk (blockOfCell c)).groupFree q.desc) &&
  (decide (q.desc.waitToken = 0) || decide ((s.reg (regionOfCell c)).tokens.get 0 q.desc.waitToken ≥ 1)) &&
  (!q.desc.fence || (s.cel c).queue.head?.map (·.no) = some q.no)

/-- Take the WAIT_TOKEN and mark the descriptor started. -/
def State.markStarted (s : State) (c : Nat) (q : DescSt) (outstanding row : Nat) : State :=
  let s1 := s.when (decide (q.desc.waitToken ≠ 0)) fun s => s.modReg (regionOfCell c) fun x =>
    { x with tokens := x.tokens.mod 0 q.desc.waitToken (· - 1) }
  s1.modCel c fun x => { x with queue := x.queue.map fun d =>
    if d.no = q.no then { d with started := true, outstanding := outstanding, row := row } else d }

/-- Start the next descriptor of cell `c` if it is of operation `op` and may start. -/
def State.startDesc (s : State) (c op : Nat) (act : DescSt → State → State) : State :=
  match (s.cel c).nextDesc with
  | some q => s.when (decide (q.desc.op = op) && s.mayStart c q) (act q)
  | none => s

/-- Start a descriptor that moves rows; the free slots of its block are given out (R87, R88). -/
def State.startMove (s : State) (c : Nat) (q : DescSt) : State :=
  (s.markStarted c q 0 0).forEach (List.range 256) fun _ s => s.grantSlot (blockOfCell c)

/-- The one slot that a stream on a bobbin or a reduction group holds for its duration (R93, R138; DEDUCED, log 131). -/
def State.holdSlot (s : State) (c : Nat) (q : DescSt) : State :=
  match (s.blk (blockOfCell c)).freeSlot with
  | some i => s.giveSlot (blockOfCell c) i { slotFor c q 0 with kind := if q.desc.op = 7 then .reduce else .desc, stream := true }
  | none => s

/-- Start a descriptor that holds one slot for its duration. -/
def State.startStream (s : State) (c : Nat) (q : DescSt) (outstanding : Nat) : State :=
  (s.markStarted c q outstanding q.desc.rows).holdSlot c q

/-- Is this the slot that a stream or a group of the descriptor holds? -/
def SlotSt.streamOf (r : SlotSt) (c no : Nat) : Bool := r.stream && decide (r.kind ≠ .free) && decide (r.cell = c) && decide (r.desc = no)

/-- That slot is given up. -/
def State.dropSlot (s : State) (c no : Nat) : State :=
  s.modBlk (blockOfCell c) fun b => ((b.slots.filter fun e => e.2.streamOf c no).map (·.1)).foldl (fun x i => x.release i) b

/-- A descriptor ends: the slot of a stream is given up, it leaves its queue, and how it ended is kept (R93, R124, R210). -/
def State.endDesc (s : State) (c no : Nat) (how : DescEnd) : State :=
  (s.dropSlot c no).modCel c fun x => { x with queue := x.queue.filter fun d => decide (d.no ≠ no), lastEnd := some (no, how) }

/-- A descriptor ends with fault: the cause is stamped with its cookie (R124). -/
def State.failDesc (s : State) (c : Nat) (q : DescSt) (code : Nat) : State :=
  (s.stamp code (blockOfCell c) (regionOfCell c) fun x => { x with cookie := q.desc.cookie, cell := c }).endDesc c q.no .fault

/-- A stream goes forward: the timeout of its request begins again (R93). -/
def State.touchSlot (s : State) (c no : Nat) : State :=
  s.modBlk (blockOfCell c) fun b => { b with slots := b.slots.map fun e => if e.2.streamOf c no then (e.1, { e.2 with sentAt := s.time.lea }) else e }

/-- COPY (R90). -/
def execCopy (c : Cell) (s : State) : Host.Outcome State Fault Refusal := .next (s.startDesc c 1 fun q s => s.startMove c q)

/-- GATHER (R90, R92): its index list is read before its rows. -/
def execGather (c : Cell) (s : State) : Host.Outcome State Fault Refusal := .next (s.startDesc c 2 fun q s => s.startMove c q)

/-- SCATTER (R90, R92): its index list is read before its rows. -/
def execScatter (c : Cell) (s : State) : Host.Outcome State Fault Refusal := .next (s.startDesc c 3 fun q s => s.startMove c q)

/-- FILL (R90). -/
def execFill (c : Cell) (s : State) : Host.Outcome State Fault Refusal := .next (s.startDesc c 4 fun q s => s.startMove c q)

/-- Is the phase of a bobbin live, and the bobbin in service (R208)? -/
def State.bobLive (s : State) (id : BitVec 32) : Bool := s.liveBobs.any fun b => decide (b.1 = s.nowId id)

/-- Is the phase that an identifier names live? -/
def State.phaseLive (s : State) (id : BitVec 32) : Bool :=
  match s.creel.run with
  | some r => (r.live.map fun p => decide ((s.nowId id).toNat / 65536 = (phaseId r.handle p 0).toNat / 65536)).getD false
  | none => false

/-- A descriptor that starts on a bobbin that is not live ends with fault: PHASE_NOT_LIVE while its phase is not live, CREEL_CUT
when the bobbin was left out of the live phase or taken out of service (R124, R208). -/
def State.notLive (s : State) (c : Nat) (q : DescSt) : State :=
  s.failDesc c q (if s.phaseLive (BitVec.ofNat 32 q.desc.aux) then 0x0405 else 0x0406)

/-- Tag of the slot that a stream holds. -/
def State.streamTag (s : State) (c no : Nat) : Nat :=
  256 * blockOfCell c + ((((s.blk (blockOfCell c)).slots.find? fun e => e.2.streamOf c no).map (·.1)).getD 0)

/-- The rows of a RAW_TX or a PLY_TX go to the Skein gateway as flits of type 7 or 8 on VC3 (R127, R129, R130). -/
def State.streamRows (s : State) (c : Nat) (q : DescSt) (type_ : Nat) : State :=
  let b := blockOfCell c
  let f := flitOf (b % 16) (outTap 1 (b % 16)) 0 1 3 type_ (s.streamTag c q.no)
  s.forEach (List.range q.desc.rows) fun i s =>
    let a := (s.rowSrc q.desc i).toNat
    s.forEach (ringFlits { f with poison := s.mems.sramBad a q.desc.rowBytes } 0 q.desc.rowBytes (s.mems.sram.read a q.desc.rowBytes)) fun f s => s.queueFlit (b / 16) 0 f

/-- RAW_TX (R178, R196): sends its rows on the live bobbin in AUX as data frames and check frames; it waits for the
acknowledgement of the final check frame. -/
def execRawTx (c : Cell) (s : State) : Host.Outcome State Fault Refusal :=
  .next (s.startDesc c 5 fun q s =>
    let id := BitVec.ofNat 32 q.desc.aux
    let s1 := s.startStream c q 0
    if s.bobLive id then
      let bad := (List.range q.desc.rows).any fun i => s.mems.sramBad (s.rowSrc q.desc i).toNat q.desc.rowBytes
      let rows := (List.range q.desc.rows).flatMap fun i => s.mems.sram.read (s.rowSrc q.desc i).toNat q.desc.rowBytes
      ((s1.when bad fun s => s.sramCause q.desc.srcAddr q.desc.mark).streamRows c q 7).modSnd id fun x =>
        { x.put (s1.streamTag c q.no) (rawFrames x.nextSeq q.desc.aux rows) with acked := 0 }
    else s1.notLive c q)

/-- Number of the receiver of a bobbin at a station. -/
def rcvIx (id : BitVec 32) (stn : Nat) : Nat := 64 * id.toNat + stn

/-- A receiver of a bobbin, whichever phase's identifier names it (R203). -/
def State.rcv (s : State) (id : BitVec 32) (stn : Nat) : Receiver := s.skein.rcv.get {} (rcvIx (s.nowId id) stn)

/-- Change a receiver of a bobbin. -/
def State.modRcv (s : State) (id : BitVec 32) (stn : Nat) (f : Receiver → Receiver) : State :=
  { s with skein := { s.skein with rcv := s.skein.rcv.mod {} (rcvIx (s.nowId id) stn) f } }

/-- RAW_RX (R179): receives the raw stream of the live bobbin in AUX; FRAME_RECEIVE writes its rows. -/
def execRawRx (c : Cell) (s : State) : Host.Outcome State Fault Refusal :=
  .next (s.startDesc c 6 fun q s =>
    let id := BitVec.ofNat 32 q.desc.aux
    let s1 := s.startStream c q 0
    if s.bobLive id then s1.modRcv id (regionOfCell c) fun x =>
      { x with since_ := [], frames := 0, good := 0, bad := false, finished := false, waiting := [] }
    else s1.notLive c q)

/-- Flits of a reduction group: total source bytes over the bytes of a flit (R136). -/
def redFlits (d : Desc) : Nat := (d.rowBytes * d.rows + redFlitBytes d.ext - 1) / redFlitBytes d.ext

/-- A member begins a chain when no contributor lies before it on its way to DEST (R136). -/
def redStarts (ext here : Nat) : Bool :=
  let dist (b : Nat) : Nat := (redDest ext + 16 - b) % 16
  if 1 ≤ dist here ∧ dist here ≤ 8 then !(List.range 16).any fun b => bit (redContrib ext) b && decide (dist here < dist b) && decide (dist b ≤ 8)
  else !(List.range 16).any fun b => bit (redContrib ext) b && decide (8 < dist b) && decide (dist b < dist here)

/-- RING_REDUCE (R136-R138): the block joins its group. A contributor that begins a chain queues its flits for injection; a
destination that waits for no chain writes its own elements; every other member waits for flits. -/
def execRingReduce (c : Cell) (s : State) : Host.Outcome State Fault Refusal :=
  .next (s.startDesc c 7 fun q s =>
    let b := blockOfCell c
    let d := q.desc
    let n := redFlits d
    let grp : RedGroup := { cell := c, ext := d.ext, startAt := s.time.lea, flits := n }
    let put (g : RedGroup) (s : State) : State := s.modBlk b fun x => { x with groups := x.groups.set none (redGroup d.ext) (some g) }
    let s1 := put grp (s.startStream c q 0)
    if redDest d.ext = b % 16 then
      if (redChains d.ext).isEmpty then
        (put { grp with done := n } (s1.forEach (List.range n) fun i s =>
          let own := s.redOwn grp d i
          (s.when own.2 fun s => s.sramCause d.srcAddr d.mark).redWrite grp d i own.1 own.2 0 (b / 16))).modReg (b / 16) fun x =>
            { x with lastDone := redGroup d.ext }
      else s1
    else if redStarts d.ext (b % 16) then
      s1.forEach (List.range n) fun i s =>
        let own := s.redOwn grp d i
        ((s.when own.2 fun s => s.sramCause d.srcAddr d.mark).redSeen (b / 16) own.2 0).queueFlit (b / 16) 2
          (redFlit d.ext (b % 16) i (decide (i + 1 = n)) own.1 own.2 0)
    else s1)

/-! ### Completion (R93, R115, R196, R286) -/

/-- Has every drop of a raw stream's bobbin that is not pruned acknowledged its final check frame (R196)? -/
def State.rawAcked (s : State) (aux : Nat) : Bool :=
  match s.bobOf aux with
  | some b => b.drops.all fun d => bit (s.snd (BitVec.ofNat 32 aux)).acked d.1 || bit s.creel.pruned d.1 || bit s.creel.fenced d.1
  | none => true

/-- Are all requests of a descriptor answered: all issued, none outstanding, its reduction group done, its raw stream
acknowledged or received to the final check frame? -/
def State.descDone (s : State) (c : Nat) (q : DescSt) : Bool :=
  q.started && decide (q.outstanding = 0) && decide (q.row ≥ q.desc.rows) && decide (q.scaleAt ≥ q.desc.scaleTotal) && !s.holds (.desc c q.no) &&
  match q.desc.op with
  | 5 => s.rawAcked q.desc.aux
  | 6 => (s.rcv (BitVec.ofNat 32 q.desc.aux) (regionOfCell c)).finished
  | 7 => match (s.blk (blockOfCell c)).groups.get none (redGroup q.desc.ext) with
    | some g => decide (g.done ≥ g.flits)
    | none => false
  | _ => true

/-- Effects of a completion beside the signal: RAW_TX writes its delivered mask at EXT (R196) and stamps
MCAST_PRUNED for a pruned drop without FENCE_CONTINUE (R211); a multicast write stores its mask at MASK_BASE and
stamps MCAST_MISS under MISS_FAULT (R286); a reduction group is freed. -/
def State.completionEffects (s : State) (c : Nat) (q : DescSt) : State :=
  let d := q.desc
  let b := blockOfCell c
  match d.op with
  | 5 =>
    let id := BitVec.ofNat 32 d.aux
    let mask := (s.snd id).acked
    let s1 := s.putSram d.ext (leBytes 8 mask)
    match s.bobOf d.aux, s.table (d.aux / 2 ^ 26 % 16) with
    | some bob, some t => s1.when (bob.drops.any (fun x => !bit mask x.1) && !t.cont) fun s =>
        s.stamp 0x0407 b (b / 16) fun x => { x with cookie := d.cookie, cell := c }
    | _, _ => s1
  | 7 => s.modBlk b fun x => { x with groups := x.groups.set none (redGroup d.ext) none }
  | _ =>
    if d.dst = 2 && reelNode d.dstAddr = s.node && decide (d.ext % 65536 ≥ 0xFF00) then
      match s.reel.mcast.get none (d.ext % 65536 - 0xFF00) with
      | some g =>
        let full := 2 ^ g.members.length - 1
        let mask := q.mcMask &&& full
        let miss := g.members.length - (onesOf 64 mask).length
        let s1 := (s.storeHbm (g.maskBase + 8 * b) (leBytes 8 mask)).when (decide (miss > 0)) fun s => s.bump Ctr.reelMcastMiss 0 miss
        s1.when (decide (miss > 0) && g.missFault) fun s => s.stamp 0x0605 b (b / 16) fun x => { x with cookie := d.cookie, cell := c }
      | none => s
    else s

/-- A descriptor that completes signals its token (R93, R118). -/
def State.tokenOf (s : State) (c : Nat) (d : Desc) : State :=
  s.when (decide (d.signalToken ≠ 0)) fun s => (s.signal (regionOfCell c) d.signalToken 1 c).tellSignal (blockOfCell c) d.signalToken 1

/-- DESCRIPTOR_COMPLETE (R93): descriptor `n` of the cell's queue completes when all its requests are answered; it
leaves the queue and signals its token. -/
def execDescriptorComplete (c : Cell) (n : Nat) (s : State) : Host.Outcome State Fault Refusal :=
  .next (match (s.cel c).queue[n]? with
    | some q => s.when (s.descDone c q) fun s =>
        ((s.completionEffects c q).endDesc c q.no .ok).tokenOf c q.desc
    | none => s)

/-! ### Slots and replies -/

/-- SLOT_GRANT (R88). -/
def execSlotGrant (b : Block) (s : State) : Host.Outcome State Fault Refusal := .next (s.grantSlot b)

/-- A posted access of a thread is acknowledged: it holds one less, and a thread that waited for room or for a fence
may go on (R81, R113). -/
def ThreadSt.acked (x : ThreadSt) : ThreadSt :=
  let left := x.posted - 1
  if x.state = .waitMem && (x.waiting = .room || (x.waiting = .fence && decide (left = 0))) then
    { x with posted := left, state := .ready, waiting := .none }
  else { x with posted := left }

/-- The data of a load reach the register and the thread is READY (R81). -/
def State.loadDone (s : State) (r : SlotSt) (data : List Byte) : State :=
  let s1 := if r.kind = .vload then s.setV r.cell r.thread r.reg (BitVec.ofNat 2048 (leNat (data.take r.bytes)))
    else s.setX r.cell r.thread r.reg (extend r.bytes (leNat (data.take r.bytes)) (r.dst = 1))
  s1.modThr r.cell r.thread fun x => { x with state := .ready, waiting := .none }

/-- The old value of an atomic reaches its data register, and the next one for 16 bytes (R110, R254). -/
def State.atomicDone (s : State) (r : SlotSt) (old : BitVec 128) : State :=
  let s1 := s.setX r.cell r.thread r.reg (old.setWidth 64)
  (s1.when (decide (r.bytes = 16)) fun s => s.setX r.cell r.thread ((r.reg + 1) % 32) ((old >>> 64).setWidth 64)).modThr r.cell r.thread ThreadSt.acked

/-- Cause of a reply whose STATUS is not OK: NOT_PRESENT across the seam, BAD_ADDR (R155, R254). UE is stamped at the
home. -/
def replyCause (status : Nat) : Option Nat := if status = 1 then some 0x0305 else if status = 2 then some 0x0503 else none

/-- Where a thread's request goes within the module, when it goes somewhere the model holds. -/
def SlotSt.place (r : SlotSt) : Option (Nat × Nat) := if r.kind.isThread then threadPlace r.offset r.bytes else none

/-- Does an SRAM place that the request reaches lie in a PARKED region, which answers NOT_PRESENT (R101, R155)? -/
def State.parkedPlace (s : State) (r : SlotSt) : Bool :=
  let parked (a : Nat) : Bool := decide ((s.reg (regionOfSram a)).state = .parked)
  match r.place with
  | some p => decide (p.1 = 0) && parked p.2
  | none => decide (r.kind = .desc) && !r.stream &&
      ((decide (r.srcSpace = 0) && parked r.offset) || (!r.index && !r.reel && decide (r.dstSpace = 0) && parked r.dst))

/-- The data that a load's reply brings: what READ_REPLY flits brought, else what memory holds where the model holds it, and
otherwise what came (R112, R115). -/
def State.loadData (s : State) (r : SlotSt) (data : List Byte) : List Byte :=
  if !r.data.isEmpty then r.data
  else match r.place with
  | some p => s.mems.readSpace p.1 p.2 r.bytes
  | none => data

/-- Does a load meet a poisoned word of SRAM (R96)? -/
def State.loadBad (s : State) (r : SlotSt) : Bool :=
  match r.place with
  | some p => r.data.isEmpty && decide (p.1 = 0) && s.mems.sramBad p.2 r.bytes
  | none => false

/-- Does an atomic act at an SRAM home, which keeps its old value in the slot? -/
def SlotSt.atSram (r : SlotSt) : Bool := match r.place with | some p => decide (p.1 = 0) | none => false

/-- A reply or acknowledgement for a tracker tag (R75, R81, R87, R93, R155, R174). A request that a
core ring answers, one whose store R60 holds, and a stream have no reply yet. -/
def State.reply (s : State) (tag : BitVec 16) (gen : BitVec 10) (status : Nat) (poison : Bool) (data : List Byte) : State :=
  let n := tag.toNat
  let r := s.slot n
  if r.kind = .free || r.gen ≠ gen || r.reel then s.bump Ctr.seStaleReply (n / 256)
  else if r.stream || r.onRing || s.holds (.slot n) then s
  else match replyCause (if s.parkedPlace r then 1 else if r.refused then 2 else status) with
    | some code => (s.slotCause n code).endSlot n
    | none => match r.kind with
      | .load | .vload =>
        if s.loadBad r then (((s.sramCause ((r.place.map (·.2)).getD 0) (s.byThread r.cell r.thread))).park r.cell r.thread .faulted).endSlot n
        else if poison || status = 3 then (s.park r.cell r.thread .faulted).endSlot n
        else (s.loadDone r (s.loadData r data)).endSlot n
      | .store => (s.modThr r.cell r.thread ThreadSt.acked).endSlot n
      | .atomic =>
        if r.bad || poison || status = 3 then ((s.modThr r.cell r.thread ThreadSt.acked).park r.cell r.thread .faulted).endSlot n
        else (s.atomicDone r (BitVec.ofNat 128 (leNat ((if r.atSram then r.data else data).take 16)))).endSlot n
      | _ => s.endSlot n

/-- MEMORY_REPLY (R75): a reply or acknowledgement of a request within the module. One whose slot is free or has been
given out again is discarded and counted. -/
def execMemoryReply (tag : BitVec 16) (gen : BitVec 10) (status : Nat) (poison : Bool) (data : List Byte) (s : State) :
    Host.Outcome State Fault Refusal :=
  .next (s.reply tag gen status poison data)

/-- SE_TIMEOUT (R93): a request to SRAM, HBM or a bobbin unanswered for 100 µs stamps SE_TIMEOUT; its slot is given
up, so that its late reply is stale. -/
def execSeTimeout (tag : BitVec 16) (s : State) : Host.Outcome State Fault Refusal :=
  let r := s.slot tag.toNat
  .next (s.when (decide (r.kind ≠ .free) && decide (r.kind ≠ .reduce) && !r.reel && s.elapsed r.sentAt 100000) fun s =>
    ((s.bump Ctr.seTimeout (tag.toNat / 256)).slotCause tag.toNat 0x0206).modBlk (tag.toNat / 256) (·.release (tag.toNat % 256)))

/-! ### Errors of the stores (R94-R97) -/

/-- SE_PARITY (R26, R96): a parity error in a descriptor queue or slot table stamps SE_PARITY and freezes the engine; with no
job open it only counts and raises its event. -/
def execSeParity (b : Block) (s : State) : Host.Outcome State Fault Refusal :=
  .next (((s.bump Ctr.seParity b).when s.jobOpen fun s => s.modBlk b fun x => { x with frozen := true }).stamp 0x0204 b (regionOfBlock b))

/-- Counter of corrected errors and of uncorrectable words of the store of an SRAM address, and its unit (R94). -/
def sramCtr (a : Nat) : Ctr × Ctr × Nat :=
  if isBlockStore a then (Ctr.bstoreCe, Ctr.bstoreUe, blockOfSram a) else (Ctr.cstoreCe, Ctr.cstoreUe, cellOfSram a)

/-- Block bit of REGION.ECC of an SRAM address. -/
def eccBit (a : Nat) : Nat := 2 ^ (blockOfSram a % 16)

/-- A word found with one wrong bit: corrected, counted, and due for its write-back (R95). -/
def State.sramCe (s : State) (word : Nat) : State :=
  let a := 8 * word
  let s1 := (s.bump (sramCtr a).1 (sramCtr a).2.2).modReg (regionOfSram a) fun x => { x with ceSeen := x.ceSeen ||| eccBit a }
  { s1 with memory := { s1.memory with sramWriteback := s1.memory.sramWriteback ++ [word] } }

/-- A word found uncorrectable: marked poisoned, counted once, its event raised (R96, R97). -/
def State.sramUe (s : State) (word : Nat) : State :=
  let a := 8 * word
  let r := regionOfSram a
  let s1 := ((s.bump (sramCtr a).2.1 (sramCtr a).2.2).fire (16 * r + 3) (if isBlockStore a then 0x0202 else 0x0201) (sramCtr a).2.2 a).modReg r fun x =>
    { x with ueSeen := x.ueSeen ||| eccBit a }
  ({ s1 with mems := { s1.mems with sramPoison := s1.mems.sramPoison.set false word true } } : State).notePoison r

/-- What a consumer that meets an uncorrectable or poisoned word does: the store stamps its cause, a thread is
FAULTED, a tile halts; a host stamps nothing (R23, R84, R96). -/
def State.consumedBy (s : State) (a : Nat) (who : Consumer) : State :=
  match who with
  | .thread c => (s.sramCause a (s.byThread c (s.cel c).lastRun)).park c (s.cel c).lastRun .faulted
  | .feed c => (s.sramCause a).haltTile c
  | .stream _ | .merge => s.sramCause a
  | .host _ => s
  | .regfile c => s.regUe c (a / 1056 % 8)

/-- A register-file word of a cell found uncorrectable: marked, counted once, its event raised (R96). -/
def State.regfileUe (s : State) (c word : Nat) : State :=
  ((((s.bump Ctr.regfileUe c).fire (16 * regionOfCell c + 3) 0x0203 c).modReg (regionOfCell c) fun x =>
    { x with ueSeen := x.ueSeen ||| 2 ^ (blockOfCell c % 16) }).modCel c fun x => { x with regBad := x.regBad.set false word true }).notePoison (regionOfCell c)

/-- SRAM_READ_ERROR (R94-R96): a read finds `bits` wrong bits. One is corrected; more poison the word, and the
consumer stamps the cause. A register file's words are numbered within the cell (log 126). -/
def execSramReadError (word bits : Nat) (consumer : Consumer) (s : State) : Host.Outcome State Fault Refusal :=
  .next (match consumer with
    | .regfile c =>
      if (s.cel c).regBad.get false word then s.consumedBy word consumer
      else if bits = 0 then s
      else if bits = 1 then (s.bump Ctr.regfileCe c).modReg (regionOfCell c) fun x => { x with ceSeen := x.ceSeen ||| 2 ^ (blockOfCell c % 16) }
      else (s.regfileUe c word).consumedBy word consumer
    | _ =>
      if s.mems.sramPoison.get false word then s.consumedBy (8 * word) consumer
      else if bits = 0 then s
      else if bits = 1 then s.sramCe word
      else (s.sramUe word).consumedBy (8 * word) consumer)

/-- SRAM_CE_WRITEBACK (R95): the corrected word is written back; it is dropped when a port has written the word. -/
def execSramCeWriteback (word : Nat) (s : State) : Host.Outcome State Fault Refusal :=
  .next { s with memory := { s.memory with sramWriteback := s.memory.sramWriteback.erase word } }

/-- SRAM_SCRUB (R97): patrol scrub corrects a single-bit error, and marks an uncorrectable word poisoned. -/
def execSramScrub (word bits : Nat) (s : State) : Host.Outcome State Fault Refusal :=
  .next (if s.mems.sramPoison.get false word || bits = 0 then s
    else if bits = 1 then s.sramCe word
    else s.sramUe word)

end Sys2Proof.Machine
end

