-- ==== Sys2Proof/Machine/Sched.lean ====
section
/-! DEFINITION. Beat schedules (R120-R123): one meaning for each action of an entry. -/

namespace Sys2Proof.Machine

/-- A schedule entry from its 16 bytes (R121). -/
def SchedEntry.read (bs : List Byte) : SchedEntry :=
  let f (lo n : Nat) : Nat := leNat ((bs.drop lo).take n)
  { action := f 0 1, target := f 1 1, anchorId := f 2 2, anchor := f 4 1, offset := f 8 4, operand := f 12 4 }

/-- Is an entry one that R118 and R121 allow? -/
def SchedEntry.valid (e : SchedEntry) (zeros : Bool) : Bool :=
  zeros && decide (e.action ≤ 6) && decide (e.target < 128) && decide (e.anchor ≤ 3) &&
  (if e.anchor = 1 then decide (e.anchorId ≤ 4095) else if e.anchor = 2 then decide (e.anchorId ≤ 255) else true) &&
  (if e.action = 3 then decide (e.operand ≤ 4095) else if e.action = 4 then decide (e.operand ≤ 255)
    else if e.action = 6 then decide (e.operand ≤ 1023) else true)

/-- Cell and thread that an entry names (R121 TARGET). -/
def schedCell (b : Nat) (e : SchedEntry) : Nat := 16 * b + e.target % 16
def schedThread (e : SchedEntry) : Nat := e.target / 16 % 8

/-- The beat of the current entry's anchor, once it has come (R121). -/
def State.anchorBeat (s : State) (b : Nat) (e : SchedEntry) : Option Nat :=
  match e.anchor with
  | 0 => some (s.blk b).schedStart
  | 3 => some (s.blk b).schedPrev
  | _ => (s.blk b).schedAnchor

/-- Beats that the entry has been due for: none when it is not due (R120). -/
def State.due (s : State) (b : Nat) (e : SchedEntry) : Option Nat :=
  match s.anchorBeat b e with
  | some a => if (s.reg (b / 16)).beats ≥ a + e.offset then some ((s.reg (b / 16)).beats - (a + e.offset)) else none
  | none => none

/-- Go on to the next entry: the beat the entry issued is kept, and an anchor on a token that is already nonzero has
come (R121). -/
def State.schedAdvance (s : State) (b slip : Nat) : State :=
  let now := (s.reg (b / 16)).beats
  let s1 := (s.bump Ctr.schedSlip b slip).modBlk b fun x => { x with schedPos := x.schedPos + 1, schedPrev := now, schedAnchor := none }
  match (s1.blk b).anchor with
  | some (1, k) => s1.when (decide ((s1.reg (b / 16)).tokens.get 0 k > 0)) fun s => s.modBlk b fun x => { x with schedAnchor := some (now + 1) }
  | _ => s1

/-- Issue the current entry of a block's schedule if its action is `action`, it is due, and its target can accept it
(R120). -/
def State.schedIssue (s : State) (b action : Nat) (ready : SchedEntry → State → Bool) (act : SchedEntry → State → State) : State :=
  match (s.blk b).sched[(s.blk b).schedPos]? with
  | some e =>
    if (s.blk b).schedRunning && decide ((s.reg (b / 16)).state = .running) && decide (e.action = action) && ready e s then
      match s.due b e with
      | some slip => (act e s).schedAdvance b slip
      | none => s
    else s
  | none => s

/-- SCHED_END (R121): the block's schedule ends. -/
def execSchedEnd (b : Block) (s : State) : Host.Outcome State Fault Refusal :=
  .next (s.schedIssue b 0 (fun _ _ => true) fun _ s => s.modBlk b fun x => { x with schedRunning := false })

/-- SCHED_ISSUE_TILE (R121): the tile of an array-program entry, whose cell-local address is OPERAND, takes a place of the
target cell's array once one is free; an invalid entry stamps ILLEGAL_OP (DEDUCED, log 25), and one that reads poisoned is
consumed (R96). -/
def execSchedIssueTile (b : Block) (s : State) : Host.Outcome State Fault Refusal :=
  .next (s.schedIssue b 1 (fun e s => (s.cel (schedCell b e)).placeFree) fun e s =>
    let c := schedCell b e
    if ownStore e.operand 40 && s.mems.sramBad (cellSram c e.operand) 40 then s.sramCause (cellSram c e.operand)
    else if ownStore e.operand 40 && (s.arrayProg c e.operand).valid then s.queueTile c e.operand
    else s.stamp 0x0105 c (regionOfCell c) fun x => { x with cell := c })

/-- SCHED_POST_DESC (R121): post a descriptor of the image at the target cell's queue, which holds 16; an index beyond
the section stamps SE_DESC (DESIGN CHOICE, log 130), and one that reads poisoned is consumed (R96). -/
def execSchedPostDesc (b : Block) (s : State) : Host.Outcome State Fault Refusal :=
  .next (s.schedIssue b 2 (fun e s => decide ((s.cel (schedCell b e)).queue.length < 16)) fun e s =>
    match s.descAddr b e.operand with
    | some a => if s.mems.sramBad a 64 then s.sramCause a else s.postDesc (schedCell b e) (Desc.read (s.mems.sram.read a 64))
    | none => s.badDesc (schedCell b e) (Desc.read []))

/-- SCHED_SIGNAL (R118, R121): signal the token once; it waits while the station's 32 VC0 places are full (R131). -/
def execSchedSignal (b : Block) (s : State) : Host.Outcome State Fault Refusal :=
  .next (s.schedIssue b 3 (fun _ s => !s.vc0Full b) fun e s =>
    (s.signal (regionOfBlock b) e.operand 1 b).tellSignal b e.operand 1)

/-- SCHED_ARRIVE (R119, R121): arrive at the barrier. -/
def execSchedArrive (b : Block) (s : State) : Host.Outcome State Fault Refusal :=
  .next (s.schedIssue b 4 (fun _ _ => true) fun e s => (s.tellArrive b e.operand).arrive (regionOfBlock b) e.operand none)

/-- SCHED_START_THREAD (R121): the FREE thread named becomes READY at the instruction address of the ENTRY that
OPERAND indexes. -/
def execSchedStartThread (b : Block) (s : State) : Host.Outcome State Fault Refusal :=
  .next (s.schedIssue b 5 (fun e s => decide ((s.thr (schedCell b e) (schedThread e)).state = .free)) fun e s =>
    match (s.launchOf (regionOfBlock b)).bind fun l => s.image l.image with
    | some im => match im.entries[e.operand]? with
      | some p => s.modThr (schedCell b e) (schedThread e) fun x => { x with state := .ready, ip := p.addr, waiting := .none, issued := 0 }
      | none => s.stamp 0x0105 (schedCell b e) (regionOfBlock b) fun x => { x with cell := schedCell b e }
    | none => s)

/-- PHASE_READY (R121, R123): tell the Creel that the block is ready for a phase. -/
def execPhaseReady (b : Block) (s : State) : Host.Outcome State Fault Refusal :=
  .next (s.schedIssue b 6 (fun _ _ => true) fun e s => s.modBlk b fun x =>
    { x with phases := if x.phases.contains e.operand then x.phases else x.phases ++ [e.operand] })

end Sys2Proof.Machine
end

