-- ==== Sys2Proof/Machine/Bobbins.lean ====
section
/-! DEFINITION. Rings, segments and the placement of bobbins (R164-R166, R191, R194, R195, R204). -/

namespace Sys2Proof.Machine

/-! ### Usable rings and their lines (R165, R189, R197) -/

/-- Does a REQUALIFY under way relock the ring, which is in no map until it commits (R200)? -/
def Creel.relocks (k : Creel) (n : Nat) : Bool := match k.requal with | some q => q.rings.contains n | none => false

/-- Is a station in the map: an I/O station when its die was there at the first commit (R197, R358)? -/
def State.stnPresent (s : State) (stn : Nat) : Bool :=
  if stn = 32 then s.creel.mapStn.a else if stn = 33 then s.creel.mapStn.b else true

/-- Is a ring usable: its loop is, it is not FAULTY nor out of the map while it relocks, and its station is in the map (R189
SKEIN.RING_MAP)? -/
def State.ringOk (s : State) (n : Nat) : Bool :=
  (s.loopSt (n / 32 % 128)).state.usable && s.stnPresent (n / 4096) && !(s.ring n).state = .faulty && !s.creel.relocks n

/-- Line of the STANDING bobbin that the ring serves (R191). -/
def State.planLine (s : State) (n : Nat) : Option Nat := (s.creel.plan.find? fun x => x.2.2.2.rings.contains n).map fun x => x.2.2.2.line

/-- Line a ring is meant to stand on: that of its STANDING bobbin, else the one it was last assigned, else that of the initial map
(DESIGN CHOICE, log 30). -/
def State.ringLine (s : State) (n : Nat) : Nat :=
  match s.planLine n with
  | some l => l
  | none => ((s.ring n).line).getD (Config.initialLine (n / 4096) (n / 32 % 128) (n % 32) % 48)

/-- The Creel assigns a line to a ring (R183): one that stands locked on it stays so, any other begins LOCKING. -/
def State.assignRing (s : State) (n line : Nat) : State :=
  s.when (!((s.ring n).state = .locked && decide (s.ringLine n = line))) fun s =>
    s.modRing n fun x => { x with state := .locking, line := some line, attempts := 0, passed := 0, ratio := 1 }

/-- The Creel releases rings: they rest between lines, but for those that fail, relock or are detuned (R165, R183). -/
def State.restRings (s : State) (rs : List Nat) : State :=
  s.forEach rs fun r s => match (s.ring r).state with
    | .locking | .verify | .locked => s.modRing r fun x => { x with state := .rest, line := none, attempts := 0, passed := 0, ratio := 1 }
    | _ => s

/-! ### Segments (R164, R166) -/

/-- Stations in visiting order of the even loops (R164). -/
def visiting : List Nat :=
  [32, 0, 1, 16, 17, 2, 3, 18, 19, 4, 5, 20, 21, 6, 7, 22, 23, 33, 15, 14, 31, 30, 13, 12, 29, 28, 11, 10, 27, 26, 9, 8, 25, 24]

/-- Position of a station in a loop's direction (R164). -/
def position (loop stn : Nat) : Nat := if loop % 2 = 0 then visiting.idxOf stn else 33 - visiting.idxOf stn

/-- Hops from one station to another in a loop's direction. -/
def hops (loop src dst : Nat) : Nat := (position loop dst + 34 - position loop src) % 34

/-- Hops a bobbin occupies: to its last drop (R166). -/
def Bob.span (b : Bob) : Nat := (b.drops.map fun d => hops b.loop b.src d.1).foldl max 0

/-- Do two segments of a loop overlap: `a` begins within `b`, or `b` within `a` (R166)? -/
def overlap (loop src span src' span' : Nat) : Bool := decide (hops loop src src' < span) || decide (hops loop src' src < span')

/-- Insert by rising key. -/
def insertBy (key : Nat → Nat) (x : Nat) : List Nat → List Nat
  | [] => [x]
  | y :: ys => if key x ≤ key y then x :: y :: ys else y :: insertBy key x ys

/-- Drop stations in a loop's visiting order from the source (R195). -/
def dropOrder (loop src : Nat) (drops : List Nat) : List Nat := drops.foldr (insertBy (hops loop src)) []

/-! ### Placement (R194, R195) -/

/-- What a bobbin needs: its kind, stations, place `i` within its entry, LOOP_SEL, and for PLY its port and member
number. -/
structure Need where
  kind : Nat
  src : Nat
  drops : List Nat
  i : Nat
  sel : Nat
  port : Nat := 0
  member : Nat := 0
  /-- groups that a bobbin of the same pair already uses (R191) -/
  avoid : List Nat := []
deriving Repr

/-- Loops to be tried, in order (R194): upward modulo 128 from 41 i, or within the group from 16 g + 5 i; a ply
bobbin's loop is fixed (R214). -/
def loopOrder (n : Need) : List Nat :=
  if n.kind = 3 then [2 * n.port]
  else
    let all := if n.sel % 16 = 15 then (List.range 128).map fun k => (41 * n.i + k) % 128
      else (List.range 16).map fun k => 16 * (n.sel % 16) + (5 * n.i + k) % 16
    all.filter fun l => (!bit n.sel 4 || decide (l % 2 = 0)) && !n.avoid.contains (l / 16)

/-- Receive margin in 0.1 dB that a bobbin with `m` drops needs: its splitting loss and 3.0 dB (R195). -/
def marginFor (m : Nat) : Nat := if m ≤ 1 then 0 else if m = 2 then 60 else if m = 3 then 78 else 90

/-- Receive margin recorded for a loop, 0.1 dB (R411). -/
def State.marginOf (s : State) (loop : Nat) : Nat := (s.cal.last.margin.getD loop (0, 0)).1

/-- Rings that are taken on a loop at the same time: by their numbers, with the line they are tuned to by another
phase of the table (`tuned`), or by no line that can be shared (`taken`). -/
structure RingUse where
  taken : List Nat := []
  tuned : List (Nat × Nat) := []

/-- The ring of a kind at a station: one tuned to the line by another phase first, then the lowest-numbered that is
usable and free (R194). -/
def State.pickRing (s : State) (use : RingUse) (stn loop line : Nat) (kind : RingKind) : Option Nat :=
  let ns := (List.range 8).map fun k => (k, ringNo stn loop kind k)
  let ok (n : Nat × Nat) : Bool := s.ringOk n.2 && !use.taken.contains n.2
  match ns.find? fun n => ok n && use.tuned.contains (n.2, line) with
  | some n => some n.1
  | none => (ns.find? fun n => ok n && !use.tuned.any fun t => decide (t.1 = n.2)).map (·.1)

/-- The m-th usable ply-drop ring of a port (R214). -/
def State.plyRing (s : State) (sink port m : Nat) : Option Nat :=
  ((List.range 16).filter fun j => s.ringOk (ringNo sink (2 * port) .ply j))[m]?

/-- Place a bobbin on one loop, among those lit with it on the loop: lowest line free on the whole segment, then the
rings (R194). -/
def State.placeOn (s : State) (lit : List Bob) (use : RingUse) (n : Need) (loop : Nat) : Option Bob :=
  let order := dropOrder loop n.src n.drops
  let span := (order.map fun d => hops loop n.src d).foldl max 0
  let on := lit.filter fun b => decide (b.loop = loop)
  let free (l : Nat) : Bool := !on.any fun b => decide (b.line = l) && overlap loop n.src span b.src b.span
  if (s.loopSt loop).state.usable && decide (n.drops.length ≤ 1 || s.marginOf loop ≥ marginFor n.drops.length) then
    match (List.range 48).find? free with
    | some line =>
      let rx := if n.kind = 3 then order.map fun d => (s.plyRing d n.port n.member).map fun k => (d, k)
        else order.map fun d => (s.pickRing use d loop line .drop).map fun k => (d, k)
      match s.pickRing use n.src loop line .tx with
      | some tx => if rx.all (·.isSome) then
          some { kind := n.kind, src := n.src, drops := rx.filterMap id, loop := loop, line := line, tx := tx, port := n.port } else none
      | none => none
    | none => none
  else none

/-- Place a bobbin on the first loop that has room for it. -/
def State.place (s : State) (lit : List Bob) (use : RingUse) (n : Need) : Option Bob := (loopOrder n).findSome? fun l => s.placeOn lit use n l

/-- Loops and rings in use by lit bobbins: what a further bobbin of the same time may not take. -/
def ringsOf (bs : List Bob) : List Nat := bs.flatMap (·.rings)

/-- STANDING bobbins of the map in force: every ordered pair in ascending order, the pair's bobbins on loops of different groups,
beside the bobbins `busy` that stay lit or whose rings a table holds (R166, R191, R194; DESIGN CHOICE, log 31). A pair whose bobbin
finds no room goes without it. -/
def State.standingPlan (s : State) (busy : List Bob) (n : Nat) : List (Nat × Nat × Nat × Bob) :=
  let pairs := (List.range 34).flatMap fun a => ((List.range 34).filter fun b => decide (b ≠ a)).map fun b => (a, b)
  let lit0 : Tab (List Bob) := busy.foldl (fun t b => t.mod [] b.loop (b :: ·)) []
  (pairs.foldl (fun (acc : List (Nat × Nat × Nat × Bob) × Tab (List Bob)) p =>
    (List.range n).foldl (fun acc i =>
      let mine := (acc.1.take i).filter fun x => decide (x.1 = p.1) && decide (x.2.1 = p.2)
      let need : Need := { kind := 1, src := p.1, drops := [p.2], i := i, sel := 15, avoid := mine.map fun x => x.2.2.2.loop / 16 }
      match (loopOrder need).findSome? fun l => let lit := acc.2.get [] l; s.placeOn lit { taken := ringsOf lit } need l with
      | some b => ((p.1, p.2, i, b) :: acc.1, acc.2.mod [] b.loop (b :: ·))
      | none => acc) acc) ([], lit0)).1.reverse

/-- Bobbins of the STANDING plan in force. -/
def Creel.planBobs (k : Creel) : List Bob := k.plan.map fun x => x.2.2.2

/-- Bobbins that loaded tables place. -/
def Creel.tableBobs (k : Creel) : List Bob := k.table.flatMap fun e => match e.2 with | some t => t.placed.flatten | none => []

/-- Every live bobbin. -/
def State.allBobs (s : State) : List (BitVec 32 × Bob) := s.standingBobs ++ s.demandBobs ++ s.liveBobs

/-- Every bobbin that the Creel has granted, lit yet or not. -/
def State.granted (s : State) : List (BitVec 32 × Bob) := s.grantedStanding ++ s.grantedDemand ++ s.liveBobs

/-- The live bobbin that an identifier names. -/
def State.bobById (s : State) (id : BitVec 32) : Option Bob :=
  match id.toNat / 2 ^ 30 with
  | 0 => (s.standingBobs.find? fun b => decide (b.1 = id)).map (·.2)
  | 1 => (s.demandBobs.find? fun b => decide (b.1 = id)).map (·.2)
  | _ => (s.liveBobs.find? fun b => decide (b.1 = s.nowId id)).map (·.2)

/-! ### Placing a phase table (R194, R203, R204) -/

/-- Rings that other loaded tables hold. -/
def State.otherRings (s : State) (h : Nat) : List Nat :=
  s.creel.table.flatMap fun e => if e.1 = h then [] else match e.2 with | some t => t.placed.flatMap ringsOf | none => []

/-- The bobbins that a phase's carried entries bring along (R203): each keeps the placement of the entry at the same place of the
phase before, whose entries are `before` and whose bobbins are `prev`. By entry. -/
def carriedBobs (prev : List Bob) (before es : List PEntry) : List (List Bob) :=
  es.zipIdx.map fun e =>
    if e.1.carry then ((prev.drop ((before.take e.2).map (·.count)).sum).take e.1.count).map fun b => { b with carry := true } else []

/-- Place the bobbins of one entry that is not carried, beside `lit`: the STANDING ones, all that are carried into the phase, and
those of the entries before. -/
def State.placeEntry (s : State) (lit : List Bob) (held : List Nat) (tuned : List (Nat × Nat)) (e : PEntry) (members : Nat) : Option (List Bob) :=
  (List.range e.count).foldl (fun acc i => match acc with
    | some got =>
      let now := lit ++ got
      (s.place now { taken := held ++ ringsOf now, tuned := tuned }
        { kind := e.kind, src := e.src, drops := e.drops, i := i, sel := e.sel, port := e.port, member := members }).map fun b => got ++ [b]
    | none => none) (some [])

/-- Members that a port of a station has among earlier entries of the phase (R214). -/
def membersBefore (es : List PEntry) (e : PEntry) : Nat :=
  (es.filter fun x => decide (x.kind = 3) && decide (x.drops = e.drops) && decide (x.port = e.port)).length

/-- Place one phase: carried bobbins are lit from the start, so no entry takes their lines or rings (R166, R203). -/
def State.placePhase (s : State) (standing : List Bob) (held : List Nat) (tuned : List (Nat × Nat)) (prev : List Bob) (before es : List PEntry) :
    Option (List Bob) :=
  let kept := carriedBobs prev before es
  ((es.zip kept).foldl (fun acc e => match acc with
    | some (got, seen) =>
      (if e.1.carry then some e.2 else s.placeEntry (standing ++ kept.flatten ++ got) held tuned e.1 (membersBefore seen e.1)).map fun bs =>
        (got ++ bs, seen ++ [e.1])
    | none => none) (some (([] : List Bob), ([] : List PEntry)))).map (·.1)

/-- Ring and line pairs of a phase. -/
def tunedBy (bs : List Bob) : List (Nat × Nat) := bs.flatMap fun b => b.rings.map fun r => (r, b.line)

/-- Entries of a phase (R202). -/
def phaseEntries (t : TableSt) (p : PhaseD) : List PEntry := (t.entries.drop p.first).take p.count

/-- Place every phase: RESIDENT when the rings of all phases fit together, STREAMED when those of every two consecutive phases do,
which in LOOP mode the last and the first are (R201, R204). -/
def State.placeTable (s : State) (h : Nat) (t : TableSt) : Option TableSt :=
  let held := s.otherRings h
  let go (all : Bool) : Option (List (List Bob)) := t.phases.foldl (fun acc p => match acc with
    | some got =>
      let wrap := t.loops && decide (got.length + 1 = t.phases.length) && decide (2 < t.phases.length)
      let others := if all then got else got.drop (got.length - 1) ++ if wrap then got.take 1 else []
      let before := match got.length with | 0 => [] | k + 1 => (t.phases[k]?.map (phaseEntries t)).getD []
      (s.placePhase s.creel.planBobs held (others.flatMap tunedBy) (got.getLast?.getD []) before (phaseEntries t p)).map fun bs => got ++ [bs]
    | none => none) (some [])
  match go true with
  | some ps => some { t with placed := ps, resident := true }
  | none => (go false).map fun ps => { t with placed := ps, resident := false }

end Sys2Proof.Machine
end

