-- ==== Sys2Proof/Machine/Circuits.lean ====
section
/-! DEFINITION. Shared operations of the Creel: bobbins leaving service, fences, ply ports that lose a member, loops
withdrawn, epochs committed, rings that fail, and light groups that lose every loop (chapters 8 to 11). -/

namespace Sys2Proof.Machine

/-! ### Descriptors that a lost circuit ends (R124, R208) -/

/-- Started descriptors of the stream engines: cell and descriptor. -/
def State.started (s : State) : List (Nat × DescSt) :=
  s.cell.flatMap fun c => (c.2.queue.filter (·.started)).map fun q => (c.1, q)

/-- Does the descriptor run on one of these bobbins: RAW_TX or RAW_RX? -/
def State.rawOn (s : State) (ids : List (BitVec 32)) (q : DescSt) : Bool :=
  (q.desc.op = 5 || q.desc.op = 6) && (ids.contains (BitVec.ofNat 32 q.desc.aux) || ids.contains (s.nowId (BitVec.ofNat 32 q.desc.aux)))

/-- End every raw stream on these bobbins with CREEL_CUT (R208). -/
def State.cutRaw (s : State) (ids : List (BitVec 32)) : State :=
  s.forEach (s.started.filter fun d => s.rawOn ids d.2) fun d s => s.failDesc d.1 d.2 0x0405

/-! ### Ply ports (R228, R229) -/

/-- Ply port `i`. -/
def State.plyPort (s : State) (i : Nat) : PlyPort := s.ply.get {} i

/-- Change ply port `i`. -/
def State.modPly (s : State) (i : Nat) (f : PlyPort → PlyPort) : State := { s with ply := s.ply.mod {} i f }

/-- Station of a ply port (R230). -/
def plyStn (i : Nat) : Nat := i / 64

/-- End every PLY_TX of a port's running group with one cause, stamped at the station that found it. -/
def State.endGroup (s : State) (i code stn : Nat) : State :=
  match (s.plyPort i).grp with
  | some g =>
    let cells := g.sink.toList ++ g.cells.filterMap (·.2)
    let mine (q : DescSt) : Bool := q.started && decide (q.desc.op = 8) && decide (q.desc.ext / 2 ^ 24 % 4096 = g.group)
    let ds := cells.flatMap fun c => (((s.cel c).queue.filter mine).map fun q => (c, q))
    let s1 := s.forEach ds fun d s => s.endDesc d.1 d.2.no .fault
    let cookie := match ds.head? with | some d => d.2.desc.cookie | none => 0
    (s1.stamp code i stn fun x => { x with cookie := cookie, cell := cells.headD 0 }).modPly i fun x => { x with grp := none }
  | none => s

/-- Enter FAULTED with cause LOST (R228): counted, its event raised. -/
def State.faultPort (s : State) (i : Nat) : State :=
  ((s.bump Ctr.plyLost i).modPly i fun x => { x with state := .faulted, lastCause := 5 }).fire (16 * plyStn i + 6) 5 i

/-- A port loses a member: a running group ends with `code` at `stn`, and the port is FAULTED (R229). -/
def State.loseMember (s : State) (i code stn : Nat) : State :=
  let st := (s.plyPort i).state
  if st = .ready || st = .run then ((s.when (decide (st = .run)) fun s => s.endGroup i code stn).faultPort i)
  else if st = .digital && (((s.plyPort i).grp).map (·.go)).getD false then s.endGroup i code stn
  else s

/-- Ports in use of which one of these bobbins is a member: port and member's station. -/
def State.plyOn (s : State) (ids : List (BitVec 32)) : List (Nat × Nat) :=
  s.ply.filterMap fun p => (p.2.members.find? fun m => ids.contains m.bobbin).map fun m => (p.1, m.src)

/-! ### Retry (R177) -/

/-- Loop of a live bobbin; 0 when the identifier names none. -/
def State.loopOfBob (s : State) (id : BitVec 32) : Nat := ((s.bobById id).map (·.loop)).getD 0

/-- Bobbin for a reissue: one of another loop when the station holds one to the destination, which carries packets now if any does,
else the same while it is held. -/
def State.otherBob (s : State) (id : BitVec 32) (loop : Nat) (p : SPkt) : Option (BitVec 32) :=
  let held := s.bobbinsTo p.src p.dst
  let away := held.filter fun i => decide (s.loopOfBob i ≠ loop)
  match away.find? fun i => !s.idles i with
  | some i => some i
  | none => match away.head? with
    | some i => some i
    | none => if held.contains id then some id else held.head?

/-- A packet as its station sends it again: the originating slot reissues a request, a read is read again, an acknowledgement is sent
again, and an ATOMIC_REPLY is replayed (R177). -/
def State.again (s : State) (p : SPkt) : SPkt :=
  let r := s.slot p.tag.toNat
  let place := match r.place with | some x => some x | none => if r.kind = .desc && decide (r.srcSpace ≤ 1) then some (r.srcSpace, r.offset) else none
  match if p.type_ = 1 && decide (p.status = 0) && r.gen = p.gen then place else none with
  | some x => { p with data := s.mems.readSpace x.1 x.2 p.data.length, poison := s.mems.bad x.1 x.2 p.data.length }
  | none => p

/-- Reissue one packet whose send on a bobbin of `loop` has failed: the fourth failed send stamps SKEIN_RETRY at the station that
sent it; otherwise it goes out again, and the count of failed sends goes with it. -/
def State.reissue (s : State) (id : BitVec 32) (loop : Nat) (p : SPkt) : State :=
  let tag := p.tag.toNat
  let n := (s.snd id).fails.get 0 tag + 1
  let s1 := s.modSnd id fun y =>
    { y with fails := y.fails.set 0 tag 0, log := y.log.filter fun e => decide (e.2 ≠ tag), sent := y.sent.filter fun q => decide (q.tag ≠ p.tag) }
  if n ≥ 4 then s1.stamp 0x0401 p.src p.src
  else match s1.otherBob id loop p with
    | some dest => (s1.sendOn dest (s1.again p)).modSnd dest fun y => { y with fails := y.fails.set 0 tag n }
    | none => s1

/-- Packets of a bobbin's log that have a frame whose SEQ is in `p`. -/
def Sender.lost (x : Sender) (p : BitVec 5 → Bool) : List SPkt :=
  x.sent.filter fun k => x.log.any fun e => decide (e.2 = k.tag.toNat) && p (frameSeq e.1)

/-- Reissue the packets of a bobbin's log that have a frame in `p`. -/
def State.reissueAll (s : State) (id : BitVec 32) (p : BitVec 5 → Bool) : State :=
  s.forEach ((s.snd id).lost p) fun k u => u.reissue id (s.loopOfBob id) k

/-- Is the request of a packet still without its answer? -/
def State.unanswered (s : State) (p : SPkt) : Bool := decide ((s.slot p.tag.toNat).kind ≠ .free) && decide ((s.slot p.tag.toNat).gen = p.gen)

/-- A bobbin has left service: its packets in flight are sent again, and those that wait go to other bobbins (R177, R188). -/
def State.moveFlight (s : State) (id : BitVec 32) : State :=
  let x := s.snd id
  let s1 := (s.forEach (x.sent.filter s.unanswered) fun p s => s.reissue id 128 p).modSnd id fun y => { y with queue := [] }
  s1.forEach x.queue fun p s => match s.otherBob id 128 p with
    | some dest => s.sendOn dest p
    | none => s

/-! ### Bobbins leaving service (R188, R208) -/

/-- Take bobbins out of service (R124, R177, R188): raw streams and ply sums on them end with CREEL_CUT (R208, R229), the rings of
DEMAND bobbins rest, and packets in flight on them are sent again on the bobbins that are left. -/
def State.withdraw (s : State) (ids : List (BitVec 32)) : State :=
  let s1 := s.cutRaw ids
  let s2 := s1.forEach (s1.plyOn ids) fun p s => s.loseMember p.1 0x0405 p.2
  let gone := s2.creel.demand.filter fun d => ids.contains (packetId 1 d.src d.dst d.index)
  let s3 := ({ s2 with creel := { s2.creel with
      out := s2.creel.out ++ ids.filter fun i => !s2.creel.out.contains i
      demand := s2.creel.demand.filter fun d => !ids.contains (packetId 1 d.src d.dst d.index) } }).bump Ctr.creelRelease 0 ids.length
  (s3.restRings (ringsOf (gone.map (·.bob)))).forEach ids fun id s => s.moveFlight id

/-! ### Fences (R209, R210) -/

/-- Poison the rows that a RAW_RX wrote from frame `a` up to frame `b` (R97, R179): 64 bytes a frame, in row order. -/
def State.poisonRows (s : State) (d : Desc) (a b : Nat) : State :=
  let total := d.rowBytes * d.rows
  s.forEach ((List.range ((min (64 * b) total) / 8)).filter fun w => decide (64 * a ≤ 8 * w)) fun w s =>
    let addr := (d.dstAddr + rowOffset d.rowBytes d.dstStride (8 * w)).toNat
    { s with mems := { s.mems with sramPoison := s.mems.sramPoison.set false (addr / 8) true } }

/-- A drop of a multicast bobbin is pruned: its RAW_RX completes with PRUNED, signals its token, and the rows written since its last
good check frame are poisoned; no cause (R210). -/
def State.prune (s : State) (id : BitVec 32) (stn : Nat) : State :=
  let x := s.rcv id stn
  let ds := s.started.filter fun d => decide (d.2.desc.op = 6) && decide (regionOfCell d.1 = stn) && decide (s.nowId (BitVec.ofNat 32 d.2.desc.aux) = id)
  let s1 := s.forEach ds fun d s => ((s.poisonRows d.2.desc x.good x.frames).endDesc d.1 d.2.no .pruned).tokenOf d.1 d.2.desc
  ((s1.bump Ctr.mcastPrune).fire 0x2A1 0 stn id.toNat)

/-- Ply ports that a station's fence takes a member from: its own ports, and those it is a member of (R229). -/
def State.plyOf (s : State) (stn : Nat) : List (Nat × Nat) :=
  s.ply.filterMap fun p => if plyStn p.1 = stn then (p.2.members.head?).map fun m => (p.1, m.src)
    else (p.2.members.find? fun m => decide (m.src = stn)).map fun m => (p.1, m.src)

/-- Fence a station (R209): the Creel grants it nothing, its unicast bobbins are withdrawn, a multicast loses its
branch, or every branch when the source is fenced. -/
def State.fence (s : State) (stn : Nat) : State :=
  if s.isFenced stn then s
  else
    let live := s.liveBobs ++ s.grantedDemand
    let gone := (live.filter fun b => decide (b.2.src = stn) || (decide (b.2.drops.length = 1) && b.2.drops.any fun d => decide (d.1 = stn))).map (·.1)
    let pruned := (s.liveBobs.filter fun b => decide (b.2.src ≠ stn) && decide (b.2.drops.length > 1) && b.2.drops.any fun d => decide (d.1 = stn)).map (·.1)
    let s1 := (s.withdraw gone).forEach pruned fun id s => s.prune id stn
    let s2 := s1.forEach (s1.plyOf stn) fun p s => s.loseMember p.1 0x0405 p.2
    { s2 with creel := { s2.creel with fenced := s2.creel.fenced ||| 2 ^ stn, pruned := if s2.creel.run.isSome then s2.creel.pruned ||| 2 ^ stn else s2.creel.pruned } }

/-- Unfence a station (R209): phase bobbins come back at the next switch. -/
def State.unfence (s : State) (stn : Nat) : State :=
  if s.isFenced stn then { s with creel := { s.creel with fenced := s.creel.fenced - 2 ^ stn } } else s

/-! ### Epochs (R197, R198) -/

/-- Fire 0x2A2 when DEGRADED has been entered or left since `old` (R188). -/
def State.degradedEvent (s : State) (old : Bool) : State :=
  s.when (decide (s.degraded ≠ old)) fun s => s.fire 0x2A2 s.degraded.toNat 0 s.usableLoops

/-- Rings and lines that the plan of a map assigns and that do not stand locked there (R181, R183). -/
def State.toAssign (s : State) (plan : List (Nat × Nat × Nat × Bob)) : List (Nat × Nat) :=
  (plan.flatMap fun x => x.2.2.2.rings.map fun r => (r, x.2.2.2.line)).filter fun a => !(decide ((s.ring a.1).state = .locked) && decide (s.ringLine a.1 = a.2))

/-- STANDING bobbins are granted afresh by a new plan (R171, R190, R191): rings that served only the old one rest, rings that are to
move begin to lock, and every receiver of a STANDING bobbin hunts. The first map takes the rings as the lock phase left them. -/
def State.regrant (s : State) (plan : List (Nat × Nat × Nat × Bob)) : State :=
  let move := if s.creel.mapped then s.toAssign plan else []
  let keep := ringsOf (plan.map fun x => x.2.2.2)
  let old := (ringsOf s.creel.planBobs).filter fun r => !keep.contains r
  let s1 := { s with
    creel := { s.creel with plan := plan, mapped := true, commitAt := s.time.lea, out := s.creel.out.filter fun i => decide (i.toNat ≥ 2 ^ 30) }
    skein := { s.skein with rcv := s.skein.rcv.filter fun e => decide (e.1 ≥ 64 * 2 ^ 30) } }
  (s1.restRings old).forEach move fun a s => s.modRing a.1 fun _ => { state := .locking, line := some a.2 }

/-- Commit an epoch (R190, R191, R197, R198, R212): the number advances, STANDING bobbins are granted afresh, every station applies the
map; COMMIT_US is a free value of at most 5 (DESIGN CHOICE, log 137). -/
def State.commit (s : State) (cause : Nat) : State :=
  let e := succ32 s.creel.epoch
  let n := if s.conf.creelDue then s.conf.inForce.standing else s.creel.standing
  let plan := s.standingPlan (s.grantedDemand.map (·.2) ++ s.creel.tableBobs) n
  let released := s.grantedStanding.length
  let s1 := { s with
    creel := { s.creel with epoch := e, lastCause := cause, standing := n, commitUs := (Config.word s.free).toNat % 6 }
    skein := { s.skein with epoch := e }
    light := { s.light with waitMs := if s.conf.creelDue then s.conf.inForce.handoverMs else s.light.waitMs }
    conf := { s.conf with creelDue := false }
    free := s.free + 1 }
  ((((s1.regrant plan).bump Ctr.epochCommit).bump Ctr.creelRelease 0 released).bump Ctr.creelGrant 0 plan.length).fire 0x2A0 cause 0 e.toNat

/-! ### Light groups (R238) -/

/-- Group `g`. -/
def State.grp (s : State) (g : Nat) : GroupSt := s.light.group.get {} g

/-- Change group `g`. -/
def State.modGrp (s : State) (g : Nat) (f : GroupSt → GroupSt) : State :=
  { s with light := { s.light with group := s.light.group.mod {} g f } }

/-- Cage `k`. -/
def State.cage (s : State) (k : Nat) : CageSt := s.light.cage.get {} k

/-- Change cage `k`. -/
def State.modCage (s : State) (k : Nat) (f : CageSt → CageSt) : State :=
  { s with light := { s.light with cage := s.light.cage.mod {} k f } }

/-- A group enters a state: its event, and the Lea time (R238, R374). -/
def State.enterGrp (s : State) (g : Nat) (st : GState) (f : GroupSt → GroupSt := id) : State :=
  (s.modGrp g fun x => { f x with state := st, changedAt := s.time.lea }).fire (0x280 + g) 0 g
    (match st with | .primary => 0 | .arming => 1 | .waiting => 2 | .paused => 3 | .transfer => 4 | .standby => 5 | .dark => 6)

/-- Loops of a group (R11). -/
def loopsOf (g : Nat) : List Nat := (List.range 16).map (· + 16 * g)

/-- Cage of a group's standby (R233). -/
def standbyCage (g : Nat) : Nat := 8 + g / 4

/-- Does a group hold the standby of its half (R238)? -/
def GroupSt.holdsStandby (x : GroupSt) : Bool :=
  match x.state with
  | .arming | .waiting | .paused | .transfer | .standby => true
  | _ => false

/-- Is the standby busy for group `g`: another group of its half holds it (R238)? -/
def State.standbyBusy (s : State) (g : Nat) : Bool :=
  ((List.range 4).map (· + 4 * (g / 4))).any fun h => decide (h ≠ g) && (s.grp h).holdsStandby

/-- Is the standby of group `g` free: READY, answering its bus, and not busy (R238, R245)? -/
def State.standbyFree (s : State) (g : Nat) : Bool :=
  !s.standbyBusy g && decide ((s.cage (standbyCage g)).state = .ready) && (s.cage (standbyCage g)).mgmtOk

/-- Begin a hand-over to the standby, planned or unpaused (R238): the bundle of the group is selected. -/
def State.arm (s : State) (g : Nat) (unpaused : Bool) : State :=
  (s.enterGrp g .arming fun x => { x with returning := false, forced := false, denied := false, unpaused := unpaused }).modCage (standbyCage g) fun c =>
    { c with bundle := g % 4 }

/-- Every loop of a group is withdrawn: a group on its primary arms an unpaused hand-over if its standby is free and
goes DARK if not, a waiting one transfers, one on its standby goes DARK (R238, R241, R242). -/
def State.groupOut (s : State) (g : Nat) : State :=
  if (loopsOf g).all fun l => decide ((s.loopSt l).state = .withdrawn) then
    match (s.grp g).state with
    | .primary => if s.standbyFree g then s.arm g true else s.enterGrp g .dark
    | .arming => s.modGrp g fun x => { x with unpaused := true }
    | .waiting => s.enterGrp g .transfer fun x => { x with unpaused := true }
    | .standby => s.enterGrp g .dark
    | _ => s
  else s

/-! ### Loops and rings -/

/-- Change loop `n`. -/
def State.modLoop (s : State) (n : Nat) (f : LoopSt → LoopSt) : State :=
  { s with skein := { s.skein with loop := s.skein.loop.mod {} n f } }

/-- Change the light of loop `n`. -/
def State.modLight (s : State) (n : Nat) (f : LoopLight → LoopLight) : State :=
  { s with light := { s.light with loop := s.light.loop.mod {} n f } }

/-- Bobbins granted that use one of these loops. -/
def State.bobsOnLoops (s : State) (ns : List Nat) : List (BitVec 32) := (s.granted.filter fun b => ns.contains b.2.loop).map (·.1)

/-- A loop leaves the usable set, its bobbins withdrawn already (R188). -/
def State.dropLoop (s : State) (n cause : Nat) : State :=
  ((s.modLoop n fun x => { x with state := .withdrawn, cause := cause, ber := false, hot := 0, cool := 0, corrected := 0, bits := 0, ue := 0, rings := [] }).modLight n
    fun x => { x with advisory := false }).bump Ctr.loopWithdraw |>.fire (0x200 + n) cause n 4

/-- Is the loop in use, or under the test of a REQUALIFY? -/
def LoopState.fed (x : LoopState) : Bool := x.usable || decide (x = .locking)

/-- Loops under the test of a REQUALIFY that lose their light or fail it are withdrawn as before: they are in no map (R200). -/
def State.failLoops (s : State) (ns : List Nat) (cause : Nat) : State :=
  s.forEach (ns.filter fun n => decide ((s.loopSt n).state = .locking)) fun n s => s.modLoop n fun _ => { state := .withdrawn, cause := cause }

/-- Withdraw usable loops with one cause: their bobbins leave service, packets on them are retried, and one epoch is committed without
them (R188, R198). -/
def State.withdrawLoops (s0 : State) (ns : List Nat) (cause : Nat) : State :=
  let s := s0.failLoops ns cause
  let us := ns.filter fun n => (s.loopSt n).state.usable
  if us.isEmpty then s
  else ((((s.withdraw (s.bobsOnLoops us)).forEach us fun n s => s.dropLoop n cause).commit cause).degradedEvent s.degraded).forEach
    (us.map (· / 16)).eraseDups fun g s => s.groupOut g

/-- Bobbins granted that use one of these rings. -/
def State.bobsOn (s : State) (rs : List Nat) : List (BitVec 32) := (s.granted.filter fun b => b.2.rings.any fun r => rs.contains r).map (·.1)

/-- Rings become FAULTY (R173, R183, R184, R187): counted by loop. An epoch without them is committed; the Creel ignores the report
of a ring that is in no map (R199). -/
def State.faultRings (s : State) (rs : List Nat) (cause : Nat := 7) : State :=
  let new := rs.filter fun r => !(s.ring r).state = .faulty
  let known := new.filter s.ringOk
  let s1 := (s.withdraw (s.bobsOn known)).forEach new fun r s =>
    (s.modRing r fun x => { x with state := .faulty, attempts := 0, passed := 0 }).bump Ctr.ringFaulty (r / 32 % 128)
  if known.isEmpty then s1 else s1.commit cause

/-- A ring in service is muted (R185): its bobbins are withdrawn. -/
def State.muteRing (s : State) (r : Nat) : State :=
  let ids := s.bobsOn [r]
  (((s.withdraw ids).modRing r fun x => { x with state := .muted, passed := 0 }).bump Ctr.ringMute (r / 32 % 128)).fire (0x200 + r / 32 % 128) 0 (r / 32 % 128) r

/-- An attempt to lock a ring fails (R183, R184): RELOCK, or FAULTY on the third. -/
def State.attemptFails (s : State) (r : Nat) : State :=
  if (s.ring r).attempts ≥ 2 then s.faultRings [r]
  else (s.modRing r fun x => { x with state := .relock, attempts := x.attempts + 1, passed := 0 }).bump Ctr.ringRelock (r / 32 % 128)

/-- Is any phase of a table live or its switch pending, so that a table runs? -/
def State.tableRuns (s : State) : Bool := s.creel.run.isSome

end Sys2Proof.Machine
end

