-- ==== Sys2Proof/Machine/Skein.lean ====
section
/-! DEFINITION. The Skein base layer: frames and alignment, packets, retry and raw streams (chapter 8). -/

namespace Sys2Proof.Machine

/-- Source station of a live bobbin. -/
def State.srcOfBob (s : State) (id : BitVec 32) : Nat := ((s.bobById id).map (·.src)).getD 34

/-- What the source of a bobbin sends when it has nothing else: the IDLE frame with the SEQ to come (R168). -/
def State.idleOn (s : State) (id : BitVec 32) : BitVec 544 := idleFrame (s.snd id).nextSeq

/-! ### Notices on the control network (R177, R186) -/

/-- NAK (R177): the source reissues every logged packet with a frame in the lost range, `lo` to `hi` modulo 32. -/
def execNak (id : BitVec 32) (lo hi : BitVec 5) (s : State) : Host.Outcome State Fault Refusal :=
  .next (s.reissueAll id fun q => decide ((q - lo).toNat ≤ (hi - lo).toNat))

/-- SEQ of the frames in a bobbin's log after the last one accepted. -/
def Sender.after (x : Sender) (last : BitVec 5) : List (BitVec 5) :=
  let log := x.log.map fun e => frameSeq e.1
  match log.reverse.idxOf? last with | some k => log.drop (log.length - k) | none => log

/-- DARK (R186): the source sends IDLE frames only, reissues every logged packet after the last SEQ accepted, and the
rings of both ends begin an identity check afresh. -/
def execDark (id : BitVec 32) (last : BitVec 5) (s : State) : Host.Outcome State Fault Refusal :=
  let after := (s.snd id).after last
  let s1 := (s.modSnd id fun x => { x with idleOnly := true, darkAt := s.time.lea }).reissueAll id fun q => after.contains q
  .next (match s.bobById id with
    | some b => s1.forEach b.rings fun r s => s.modRing r fun x => { x with passed := 0 }
    | none => s1)

/-- SYNC_NOTICE (R186): packets resume on the bobbin, those that waited first. -/
def execSyncNotice (id : BitVec 32) (s : State) : Host.Outcome State Fault Refusal :=
  let s1 := s.modSnd id fun x => { x with idleOnly := false }
  .next (s1.when (!s1.idles id) fun s => s.modSnd id (·.flush))

/-- DARK_BOBBIN_TIMEOUT (R186): a bobbin still dark 2 ms after its DARK notice is withdrawn, and an event raised. -/
def execDarkBobbinTimeout (id : BitVec 32) (s : State) : Host.Outcome State Fault Refusal :=
  let x := s.snd id
  .next (s.when (x.idleOnly && s.elapsed x.darkAt 2000000) fun s =>
    ((s.withdraw [s.nowId id]).modSnd id fun y => { y with idleOnly := false }).fire (0x200 + s.loopOfBob id) 0 (s.loopOfBob id) id.toNat)

/-! ### Raw streams (R178, R179, R196) -/

/-- Does a descriptor of operation `op` run on the bobbin, under any of its names (R203)? -/
def State.streams (s : State) (op : Nat) (id : BitVec 32) (q : DescSt) : Bool :=
  decide (q.desc.op = op) && decide (s.nowId (BitVec.ofNat 32 q.desc.aux) = s.nowId id)

/-- The RAW_RX that runs at a station on a bobbin: cell and descriptor. -/
def State.rawRx (s : State) (id : BitVec 32) (stn : Nat) : Option (Nat × DescSt) :=
  s.started.find? fun d => s.streams 6 id d.2 && decide (regionOfCell d.1 = stn)

/-- The RAW_TX that runs on a bobbin. -/
def State.rawTx (s : State) (id : BitVec 32) : Option (Nat × DescSt) := s.started.find? fun d => s.streams 5 id d.2

/-- The consumer of a raw stream is poisoned (R179): every row since the last good check frame and every later one
takes the mark, RAW_RX completes with fault and its cause is stamped; RAW_TX at the other end completes with fault
too, stamped after the consumer, whose cause is primary. -/
def State.rawFault (s : State) (id : BitVec 32) (stn code : Nat) : State :=
  match s.rawRx id stn with
  | some (c, q) =>
    let total := (q.desc.rowBytes * q.desc.rows + 63) / 64
    let s1 := ((s.bump Ctr.skeinRawPoison (s.loopOfBob id)).poisonRows q.desc (s.rcv id stn).good total).failDesc c q code
    let s2 := s1.modRcv id stn fun x => { x with bad := true, since_ := [], waiting := [] }
    match s2.rawTx id with
    | some (d, p) => (s2.stamp code (blockOfCell d) (regionOfCell d) fun x =>
        { x with cookie := p.desc.cookie, cell := d, stamp := x.stamp + 1 }).endDesc d p.no .fault
    | none => s2
  | none => s

/-- Payload bytes of a frame. -/
def payloadBytes (d : Nat) : List Byte := leBytes 64 (framePayload d)

/-- A data frame of a raw stream: its 64 bytes go to the rows of the descriptor, as far as they reach; stores that R60 holds wait
for their tile. A data frame beyond 256 since the last check frame, where the check frame is due, is a mismatch (R178, R179). -/
def State.rawData (s : State) (id : BitVec 32) (stn d : Nat) : State :=
  match s.rawRx id stn with
  | some (c, q) =>
    let x := s.rcv id stn
    if x.frames - x.good ≥ 256 then s.rawFault id stn 0x0402
    else
      let bs := payloadBytes d
      let n := min 64 (q.desc.rowBytes * q.desc.rows - 64 * x.frames)
      let s1 := s.forEach (List.range (n / 8)) fun k s =>
        s.putSram (q.desc.dstAddr + rowOffset q.desc.rowBytes q.desc.dstStride (64 * x.frames + 8 * k)).toNat ((bs.drop (8 * k)).take 8) false (.desc c q.no)
      s1.modRcv id stn fun x => { x with since_ := x.since_ ++ bs, frames := x.frames + 1 }
  | none => s

/-- A check frame of a raw stream (R178, R196): CHECK, BOBBIN and FRAMES must agree; the one after the last data frame
is the final one. -/
def State.rawCheck (s : State) (id : BitVec 32) (stn d : Nat) : State :=
  match s.rawRx id stn with
  | some (_, q) =>
    let x := s.rcv id stn
    let f (i : Nat) : Nat := framePayload d / 2 ^ (32 * i) % 2 ^ 32
    if f 0 = crc32 x.since_ ∧ f 1 = q.desc.aux ∧ f 2 = x.frames % 2 ^ 32 then
      s.modRcv id stn fun x => { x with since_ := [], good := x.frames, finished := decide (64 * x.frames ≥ q.desc.rowBytes * q.desc.rows) }
    else s.rawFault id stn 0x0402
  | none => s

/-- A stream frame taken from the buffer. -/
def State.rawTake (s : State) (id : BitVec 32) (stn d : Nat) : State := if frameLast d then s.rawCheck id stn d else s.rawData id stn d

/-- A stream frame reaches RAW_RX through its buffer of 64 frames: while the engine is frozen it waits there, and overflow is a
fault; otherwise what waited is taken first (R179). -/
def State.rawFrame (s : State) (id : BitVec 32) (stn d : Nat) : State :=
  match s.rawRx id stn with
  | some (c, q) =>
    let x := s.rcv id stn
    let s1 := s.touchSlot c q.no
    if (s.blk (blockOfCell c)).frozen then
      if x.waiting.length ≥ 64 then s1.rawFault id stn 0x0403 else s1.modRcv id stn fun x => { x with waiting := x.waiting ++ [d] }
    else (s1.modRcv id stn fun x => { x with waiting := [] }).forEach (x.waiting ++ [d]) fun d s => s.rawTake id stn d
  | none => s

/-- RAW_CHECK_ACK (R196): the acknowledgement of a drop that has passed a check frame reaches the source, whose stream goes on. Of
a drop that is not pruned and has passed its final check frame, it counts toward the completion of RAW_TX. -/
def execRawCheckAck (id : BitVec 32) (stn : Stn) (final : Bool) (s : State) : Host.Outcome State Fault Refusal :=
  let drop := ((s.bobById id).map fun b => b.drops.any fun d => decide (d.1 = stn.val)).getD false
  .next (match if drop && !s.isFenced stn && !bit s.creel.pruned stn then s.rawTx id else none with
    | some (c, q) => (s.touchSlot c q.no).when (final && (s.rcv id stn).finished) fun s => s.modSnd id fun x => { x with acked := x.acked ||| 2 ^ stn.val }
    | none => s)

/-! ### Packets (R174, R175) -/

/-- A packet whose earlier sends failed has come through: a corrected event (R177). -/
def State.retried (s : State) (id : BitVec 32) (tag : Nat) : State :=
  s.when (decide ((s.snd id).fails.get 0 tag > 0)) fun s =>
    (s.bump Ctr.skeinRetryPkt (s.loopOfBob id)).modSnd id fun x => { x with fails := x.fails.set 0 tag 0 }

/-- TYPE of the answer to a packet (R174): the reply of a READ_REQ, WRITE or ATOMIC; an answer to MGMT or REEL keeps its type
(DESIGN CHOICE, log 138). -/
def answerType (t : Nat) : Nat := if t = 0 ∨ t = 2 ∨ t = 4 then t + 1 else t

/-- Is a packet a reply? -/
def isAnswer (p : SPkt) : Bool := decide (p.type_ = 1) || decide (p.type_ = 3) || decide (p.type_ = 5)

/-- The station answers a packet. -/
def State.answerPkt (s : State) (stn : Nat) (p : SPkt) (status : Nat) (bad : Bool := false) (data : List Byte := []) : State :=
  s.send (replyPkt stn p.src (answerType p.type_) p.tag p.gen status bad data)

/-- A region's SKEIN gateway puts a packet on the core rings, at the tap nearer the block it is for (R127, R130). Its flits carry
what acts here (DEDUCED, log 42). -/
def State.gateIn (s : State) (stn : Nat) (p : SPkt) : State :=
  let dst := (if isAnswer p then p.tag.toNat / 256 else blockOfSram p.addr.toNat) % 16
  let f : Flit := { flitOf (inTap 1 dst) dst 1 0 (if (s.slot p.tag.toNat).kind.isThread then 2 else 3) p.type_ p.tag.toNat with poison := p.poison, gen := p.gen }
  s.forEach (ringFlits f p.addr.toNat p.length p.data) fun f s => s.queueFlit stn 3 f

/-- A packet acts at a compute station (R174, R175): a READ_REQ is answered with the data, a WRITE writes and is acknowledged, an
address that does not lie in the region's SRAM is answered BAD_ADDR, and a reply goes to its slot. A request of a tracker
slot has acted when it was sent (DEDUCED, log 42): it is answered from there. -/
def State.pktHere (s : State) (stn : Nat) (p : SPkt) : State :=
  let a := p.addr.toNat
  let here (n : Nat) : Bool := decide (p.space = 0) && sramValid a n && decide (regionOfSram a = stn)
  let acted := s.unanswered p && decide (p.tag.toNat / 4096 = p.src)
  match p.type_ with
  | 0 => if here p.length then s.answerPkt stn p (if s.mems.sramBad a p.length then 3 else 0) (s.mems.sramBad a p.length) (s.mems.sram.read a p.length)
      else s.answerPkt stn p 2
  | 2 => if here p.data.length then (s.when (!acted) fun s => s.storeSram a p.data p.poison).answerPkt stn p 0 else s.answerPkt stn p 2
  | 4 => s.when acted fun s => s.answerPkt stn p (if (s.slot p.tag.toNat).refused then 2 else 0) (s.slot p.tag.toNat).bad (s.slot p.tag.toNat).data
  | 1 | 3 | 5 => if p.tag.toNat / 4096 = stn then s.reply p.tag p.gen p.status p.poison p.data else s
  | _ => s

/-- A whole packet has come to a station on a bobbin (R175): it acts when it names the station and the bobbin's source. A region in
RESET discards it, and answers a request with NOT_PRESENT. HBM traffic is served by the stack's own events. -/
def State.packetCame (s : State) (id : BitVec 32) (stn : Nat) (p : SPkt) : State :=
  let good := decide (p.dst = stn) && match s.bobById id with
    | some b => decide (b.src = p.src) && b.drops.any fun d => decide (d.1 = stn)
    | none => false
  s.when good fun s =>
    let s1 := s.retried id p.tag.toNat
    if stn ≥ 16 then s1
    else if (s.reg stn).state = .reset then s1.when (!isAnswer p) fun s => s.answerPkt stn p 1
    else (s1.gateIn stn p).pktHere stn p

/-- PACKET_RECEIVE (R175): a packet reaches a station; `ok` says that every frame decoded, SEQ ran unbroken and the CRC
matched. -/
def execPacketReceive (id : BitVec 32) (stn : Stn) (p : SPkt) (ok : Bool) (s : State) : Host.Outcome State Fault Refusal :=
  .next (s.when ok fun s => s.packetCame id stn p)

/-! ### Frames and alignment (R171, R173, R177, R179, R186) -/

/-- SYNC is lost, or has not come for 64 frames: a DARK notice goes to the source. -/
def State.darkNotice (s : State) (id : BitVec 32) (stn : Nat) : State :=
  (s.bump Ctr.skeinDark (s.loopOfBob id)).modRcv id stn fun x => { x with dark := true, run := 0 }

/-- A receiver in SYNC finds frames lost, from SEQ `lo` to `hi`: a NAK names them for a packet bobbin, whose packet in hand is
broken; a raw stream is poisoned. -/
def State.framesLost (s : State) (id : BitVec 32) (stn : Nat) (lo hi : BitVec 5) : State :=
  if (s.rawRx id stn).isSome then s.rawFault id stn 0x0402
  else (s.bump Ctr.skeinNak (s.loopOfBob id)).modRcv id stn fun x => { x with nak := some (lo, hi), packet := none }

/-- Payloads of the packet in hand after a frame: it begins at PKT_FIRST, goes on with PKT_NEXT, and is broken by any other. -/
def nextPacket (x : Option (List Nat)) (d : Nat) : Option (List Nat) :=
  match frameKind d with
  | 1 => some [framePayload d]
  | 2 => x.map (· ++ [framePayload d])
  | _ => none

/-- A packet frame in SYNC: with its LAST frame the packet is whole, and acts when its length and CRC are right (R174, R175). -/
def State.pktFrame (s : State) (id : BitVec 32) (stn d : Nat) : State :=
  let ps := nextPacket (s.rcv id stn).packet d
  let whole := (decide (frameKind d = 1) || decide (frameKind d = 2)) && frameLast d
  let s1 := s.modRcv id stn fun x => { x with packet := if whole then none else ps }
  match if whole then ps.bind pktRead else none with
  | some p => s1.packetCame id stn p
  | none => s1

/-- A receiver in SYNC decodes a frame: SEQ must follow; a stream frame goes to its raw stream, a packet's to its packet. -/
def State.syncFrame (s : State) (id : BitVec 32) (stn d : Nat) : State :=
  let q := frameSeq d
  let idle := frameKind d = 0
  let x := s.rcv id stn
  let s1 := (match x.expect with
    | some e => s.when (decide (e ≠ q)) fun s => s.framesLost id stn e (q - 1)
    | none => s).modRcv id stn fun x => { x with run := 0, expect := some (if idle then q else q + 1), last := if idle then x.last else q }
  if frameKind d = 3 then s1.rawFrame id stn d else s1.pktFrame id stn d

/-- A drop ring counts the bits of a frame and those it corrected, its loop an uncorrectable frame (R173). -/
def LoopSt.count (x : LoopSt) (ring corrected bits ue : Nat) : LoopSt :=
  { x with corrected := x.corrected + corrected, bits := x.bits + bits, ue := x.ue + ue
           rings := x.rings.mod (0, 0) ring fun r => (r.1 + corrected, r.2 + bits) }

/-- The drop ring that receives a bobbin at a station: none for a ply bobbin, which carries no frames (R214), and for a pruned or
fenced drop (R209, R210). -/
def State.dropOf (s : State) (id : BitVec 32) (stn : Nat) : Option (Bob × Nat) :=
  match s.bobById id with
  | some b => if b.kind = 3 || s.isFenced stn || (decide (id.toNat ≥ 2 ^ 31) && bit s.creel.pruned stn) then none
      else (b.drops.find? fun d => decide (d.1 = stn)).map fun d => (b, d.2)
  | none => none

/-- FRAME_RECEIVE (R169-R171, R173): the drop ring of a live bobbin receives a frame. HUNT waits for a zero syndrome, PRESYNC for
six correctable frames in a row, SYNC decodes and is lost at seven uncorrectable frames in a row. -/
def execFrameReceive (id : BitVec 32) (stn : Stn) (f : BitVec 544) (s : State) : Host.Outcome State Fault Refusal :=
  .next (match s.dropOf id stn with
    | none => s
    | some (b, k) =>
      let x := s.rcv id stn
      let seen (n ue : Nat) (s : State) : State :=
        ((s.modLoop b.loop fun y => y.count (8 * stn + k) n 544 ue).bump Ctr.skeinCeBits b.loop n).bump Ctr.skeinUeFrame b.loop ue
      match x.align with
      | .hunt =>
        if syndrome f = 0 then (seen 0 0 s).modRcv id stn fun x => { x with align := .presync, run := 0 }
        else (seen 0 0 s).modRcv id stn fun x => { x with run := x.run + 1 }
      | .presync => match decodeFrame f with
        | some (_, n) =>
          if x.run ≥ 5 then (seen n 0 s).modRcv id stn fun x => { x with align := .sync, run := 0, dark := false, expect := none, packet := none }
          else (seen n 0 s).modRcv id stn fun x => { x with run := x.run + 1 }
        | none => (seen 0 1 s).modRcv id stn fun x => { x with align := .hunt, run := 0 }
      | .sync => match decodeFrame f with
        | some (d, n) => (seen n 0 s).syncFrame id stn d
        | none =>
          let e := x.expect.getD (x.last + 1)
          let s1 := (seen 0 1 s).framesLost id stn e e
          if x.run ≥ 6 then (s1.modRcv id stn fun x => { x with align := .hunt, expect := none }).darkNotice id stn
          else s1.modRcv id stn fun x => { x with run := x.run + 1, expect := none })

/-- HUNT_TIMEOUT (R171): after 64 frames in HUNT a DARK notice goes out, and hunting continues. -/
def execHuntTimeout (id : BitVec 32) (stn : Stn) (s : State) : Host.Outcome State Fault Refusal :=
  let x := s.rcv id stn
  .next (s.when (decide (x.align = .hunt) && decide (x.run ≥ 64)) fun s => s.darkNotice id stn)

end Sys2Proof.Machine
end

