-- ==== Sys2Proof/Machine/Ply.lean ====
section
/-! DEFINITION. Ply summation in light (chapter 10): ports, groups, blocks, live margin, residue check,
recomputation, training. -/

namespace Sys2Proof.Machine

/-! ### The predicted error (R219-R221, R231)

P = 2 Q(z). Entry t - 1 of the table is the least z, in millionths, at which P is at most 10^(-t/10), rounded up. -/

/-- Part 0 of the table of predicted errors. -/
def zTable0 : List Nat :=
  [260695, 480380, 672623, 845007, 1002240, 1147468, 1282903, 1410171, 1530502, 1644854, 1753987, 1858517, 1958950,
   2055708, 2149147, 2239570, 2327238, 2412376, 2495182, 2575830, 2654472, 2731245, 2806270, 2879658, 2951507,
   3021906, 3090937, 3158673, 3225183, 3290527, 3354764, 3417946, 3480122, 3541336, 3601631, 3661045, 3719616,
   3777377, 3834359, 3890592, 3946105, 4000924, 4055073, 4108576, 4161454, 4213730, 4265421, 4316547, 4367126,
   4417174, 4466707]

/-- Part 1 of the table of predicted errors. -/
def zTable1 : List Nat :=
  [4515742, 4564291, 4612369, 4659989, 4707163, 4753904, 4800223, 4846131, 4891639, 4936756, 4981493, 5025858,
   5069861, 5113510, 5156813, 5199779, 5242414, 5284727, 5326724, 5368413, 5409799, 5450889, 5491690, 5532207,
   5572446, 5612412, 5652111, 5691549, 5730729, 5769658, 5808339, 5846778, 5884978, 5922945, 5960682, 5998193,
   6035482, 6072553, 6109411, 6146057, 6182497, 6218733, 6254769, 6290607, 6326252, 6361706, 6396972, 6432053,
   6466952, 6501671, 6536214]

/-- Part 2 of the table of predicted errors. -/
def zTable2 : List Nat :=
  [6570583, 6604781, 6638810, 6672672, 6706370, 6739906, 6773283, 6806503, 6839568, 6872479, 6905240, 6937852,
   6970317, 7002638, 7034815, 7066851, 7098748, 7130507, 7162131, 7193620, 7224977, 7256204, 7287301, 7318270,
   7349114, 7379833, 7410428, 7440903, 7471257, 7501492, 7531610, 7561612, 7591499, 7621272, 7650934, 7680484,
   7709925, 7739257, 7768482, 7797600, 7826614, 7855524, 7884330, 7913036, 7941640, 7970145, 7998551, 8026859,
   8055071, 8083188, 8111209]

/-- Part 3 of the table of predicted errors. -/
def zTable3 : List Nat :=
  [8139137, 8166972, 8194715, 8222367, 8249929, 8277402, 8304786, 8332083, 8359293, 8386417, 8413455, 8440410,
   8467281, 8494069, 8520775, 8547400, 8573945, 8600409, 8626794, 8653101, 8679330, 8705483, 8731558, 8757558,
   8783483, 8809334, 8835110, 8860814, 8886445, 8912004, 8937491, 8962908, 8988255, 9013532, 9038740, 9063879,
   9088951, 9113955, 9138892, 9163763, 9188568, 9213308, 9237983, 9262594, 9287141, 9311624, 9336045, 9360404,
   9384701, 9408936, 9433110]

/-- Part 4 of the table of predicted errors. -/
def zTable4 : List Nat :=
  [9457224, 9481278, 9505272, 9529207, 9553084, 9576902, 9600662, 9624365, 9648011, 9671600, 9695133, 9718610,
   9742031, 9765398, 9788710, 9811967, 9835171, 9858321, 9881418, 9904462, 9927454, 9950394, 9973282, 9996118,
   10018903, 10041638, 10064322, 10086957, 10109541, 10132076, 10154562, 10176999, 10199388, 10221729, 10244022,
   10266267, 10288465, 10310616, 10332721, 10354779, 10376791, 10398757, 10420678, 10442554, 10464385, 10486171,
   10507912, 10529610, 10551264, 10572874, 10594441]

/-- The whole table, t = 1 to 255. -/
def zTable : List Nat := zTable0 ++ zTable1 ++ zTable2 ++ zTable3 ++ zTable4

/-- PRED_LOG for D in milli-counts and σ in micro-counts: -log10 P in tenths (R231), z = (0.5 - D) / σ. -/
def plyPredLog (detMc sigmaUc : Nat) : Nat :=
  if detMc ≥ 500 then 0
  else if sigmaUc = 0 then 255
  else (zTable.takeWhile fun z => decide (z * sigmaUc ≤ (500 - detMc) * 1000 * 1000000)).length

/-! ### Subsets, gain and thresholds (R215, R217, R218) -/

/-- Width per slot of `n` members at split `sp` (R217). -/
def widthPerSlot (n sp : Nat) : Nat := (n + sp - 1) / sp

/-- Does the port run at the gain of widths 9 to 16, 3.75 LSB per count? Widths up to 8 take 7.5 LSB per count (R218; a width of 1 with
them, DESIGN CHOICE, log 139). -/
def plyWide (n sp : Nat) : Bool := decide (9 ≤ widthPerSlot n sp)

/-- Members of subset `k` (R217). -/
def subsetSize (n sp k : Nat) : Nat := ((List.range n).filter fun m => decide (m % sp = k)).length

/-- Least code that is read as more than `c` counts: the levels of `c` and `c + 1` lie at 2 + 3.75 c or 2 + 7.5 c, the threshold
midway, moved to the nearer boundary between two codes (R218). -/
def codeAbove (wide : Bool) (c : Nat) : Nat := if wide then (31 + 30 * c) / 8 + 1 else (46 + 60 * c) / 8 + 1

/-- Count that a converter code is read as (R218). -/
def countOf (wide : Bool) (code : Nat) : Nat := ((List.range (if wide then 16 else 8)).filter fun c => decide (codeAbove wide c ≤ code)).length

/-- Counts of the symbols whose slot codes these are: a symbol takes `sp` slots, and its count is their sum (R217). -/
def symbolCounts (wide : Bool) (sp : Nat) (codes : List Nat) : List Nat :=
  (List.range (codes.length / sp)).map fun k => (((codes.drop (sp * k)).take sp).map (countOf wide)).sum

/-- Is slot `n` of a stream that carries blocks a proof slot (R215)? -/
def proofSlot (n : Nat) : Bool := decide (n % 256 = 255)

/-- Slot reached after `d` data slots from slot `n`, over the proof slots between (R215). -/
def slotAfter (n d : Nat) : Nat := n - n / 256 + d + (n - n / 256 + d) / 255

/-- Count that proof slot `q` is to show: member `q` alone, or its subset but for member `q` - 16 (R215). -/
def proofCount (n sp q : Nat) : Nat :=
  if q < 16 then (if q < n then 1 else 0) else subsetSize n sp (q % sp) - if q - 16 < n then 1 else 0

/-- Were all 32 proof slots read as what they are to show? -/
def proofsRight (n sp : Nat) (codes : List Nat) : Bool :=
  (List.range 32).all fun q => decide (countOf (plyWide n sp) (codes.getD q 0) = proofCount n sp q)

/-! ### D and P (R219, R221) -/

/-- Distance between two levels, 1/64 LSB. -/
def levelGap (a b : Nat) : Nat := max a b - min a b

/-- Distance of the levels of subset `k` from the reference, summed. -/
def subsetGap (n sp : Nat) (w : PlyMeas) (k : Nat) : Nat :=
  (((List.range n).filter fun m => decide (m % sp = k)).map fun m => levelGap (w.levels.getD m w.reference) w.reference).sum

/-- D in milli-counts: the subset whose levels stand furthest off, in counts of the gain band rounded up, and the quantisation and
non-linearity lines of R219 for that band (R221; the worst of the subsets, DEDUCED, log 140). -/
def plyDet (n sp : Nat) (w : PlyMeas) : Nat :=
  let gap := ((List.range sp).map (subsetGap n sp w)).foldl max 0
  if plyWide n sp then (25 * gap + 5) / 6 + 186 else (25 * gap + 11) / 12 + 94

/-- Does P meet the 1e-12 target: PRED_LOG 0x78 or more (R221, R231)? -/
def meets (n sp : Nat) (w : PlyMeas) : Bool := decide (plyPredLog (plyDet n sp w) w.sigmaUc ≥ 0x78)

/-- Largest width per slot for an equalisation residual in 0.1 % (R220); none: DIGITAL. -/
def widthLimit (eqRes : Nat) : Option Nat :=
  if eqRes ≤ 10 then some 16 else if eqRes ≤ 15 then some 12 else if eqRes ≤ 25 then some 8 else if eqRes ≤ 50 then some 4 else none

/-- Does a split of `n` members meet R220 and WIDTH_CAP? -/
def splitOk (n eqRes cap sp : Nat) : Bool := match widthLimit eqRes with | some lim => decide (widthPerSlot n sp ≤ min lim cap) | none => false

/-- Smallest split that meets R220 and WIDTH_CAP with P at most 1e-12 (R220, R228). -/
def splitFor (n cap : Nat) (w : PlyMeas) : Option Nat := [1, 2, 4].find? fun sp => splitOk n w.eqRes cap sp && meets n sp w

/-! ### Descriptors of a group (R216, R225) -/

/-- Fields of EXT of a PLY_TX descriptor. -/
def plySink (ext : Nat) : Bool := bit ext 0
def plySigned (ext : Nat) : Bool := bit ext 1
def plySrcF (ext : Nat) : Bool := bit ext 2
def plyOutF (ext : Nat) : Bool := bit ext 3
def plyLocal (ext : Nat) : Bool := bit ext 4
def plyWidth (ext : Nat) : Nat := ext / 256 % 32
def plyExp (ext : Nat) : Int := signedNat 8 (ext / 65536)
def plyGroup (ext : Nat) : Nat := ext / 2 ^ 24 % 4096
def plyTensor (ext : Nat) : Nat := ext / 2 ^ 36 % 4096

/-- Elements and blocks of a descriptor (R216, R225). -/
def plyElems (d : Desc) : Nat := d.rows * d.rowBytes / 4
def plyBlocks (d : Desc) : Nat := (plyElems d + 63) / 64

/-- Least and greatest element of width `w` (R216). -/
def plyRange (ext : Nat) : Int × Int :=
  let w := plyWidth ext
  if plySigned ext then (-(2 ^ (w - 1)), 2 ^ (w - 1) - 1) else (0, 2 ^ w - 1)

/-- A source word converted (R227): the element, and whether SAT advances. -/
def plyElem (ext code : Nat) : Int × Nat :=
  let (lo, hi) := plyRange ext
  let clamp (v : Int) : Int × Nat := if v > hi then (hi, 1) else if v < lo then (lo, 1) else (v, 0)
  if plySrcF ext then
    match Fmt.fp32.value code with
    | .nan => (0, 1)
    | .inf neg => (if neg then lo else hi, 1)
    | .fin m e =>
      let k : Int := roundAt .rne 0 m.natAbs (e - plyExp ext)
      clamp (if m < 0 then -k else k)
  else clamp (signed 32 code)

/-- Address of element `n` of the source or result rows. -/
def plySrcAt (d : Desc) (n : Nat) : Nat := (d.srcAddr + rowOffset d.rowBytes d.srcStride (4 * n)).toNat
def plyDstAt (d : Desc) (n : Nat) : Nat := (d.dstAddr + rowOffset d.rowBytes d.dstStride (4 * n)).toNat

/-- Elements of block `k` of a member's source rows, padded with 0 to 64, with the range events (R216, R227). -/
def State.plyXs (s : State) (d : Desc) (k : Nat) : List (Int × Nat) :=
  (List.range 64).map fun e =>
    if 64 * k + e < plyElems d then plyElem d.ext (leNat (s.mems.sram.read (plySrcAt d (64 * k + e)) 4)) else (0, 0)

/-- The unsigned values v sent for block `k` (R216). -/
def State.plyVals (s : State) (d : Desc) (k : Nat) : List Nat :=
  (s.plyXs d k).map fun x => (x.1 + if plySigned d.ext then 2 ^ (plyWidth d.ext - 1) else 0).toNat

/-- Does the descriptor read a poisoned word in block `k` (R227)? -/
def State.plyBad (s : State) (d : Desc) (k : Nat) : Bool :=
  (List.range 64).any fun e => decide (64 * k + e < plyElems d) && s.mems.sramBad (plySrcAt d (64 * k + e)) 4

/-! ### Who takes part (R225, R226) -/

/-- The running PLY_TX of cell `c` in a group of a port. -/
def State.plyDesc (s : State) (c group : Nat) : Option DescSt :=
  (s.cel c).queue.find? fun q => q.started && decide (q.desc.op = 8) && decide (plyGroup q.desc.ext = group)

/-- The sink's descriptor, and the members' with their numbers. -/
def State.plySinkDesc (s : State) (g : PlyGroup) : Option Desc := (g.sink.bind fun c => s.plyDesc c g.group).map (·.desc)
def State.plyMemberDescs (s : State) (g : PlyGroup) : List (Nat × Desc) :=
  g.cells.filterMap fun e => (e.2.bind fun c => s.plyDesc c g.group).map fun q => (e.1, q.desc)

/-- Port of a ply bobbin's descriptor (R214, R225). -/
def State.plyIxOf (s : State) (aux : Nat) : Option Nat :=
  (s.bobOf aux).bind fun b => (b.drops.head?).map fun d => 64 * d.1 + b.port

/-- Member number of a bobbin at a port: by its source and line. -/
def State.memberOf (s : State) (i aux : Nat) : Option Nat :=
  (s.bobOf aux).bind fun b => (s.plyPort i).members.findIdx? fun m => decide (m.src = b.src) && decide (m.line = b.line)

/-- May a descriptor join the port now: no group runs, or its own does and its place there is open (R226)? -/
def PlyPort.open_ (x : PlyPort) (ext : Nat) (m : Option Nat) : Bool :=
  match x.grp with
  | none => true
  | some g => decide (g.group = plyGroup ext) && !g.go &&
    (if plySink ext then g.sink.isNone else match m with | some k => (g.cells.get none k).isNone | none => true)

/-- PLY_TX (R225, R226): a member or the sink of a group posts its descriptor at its port. While another group runs
there it waits at the head of its queue; a bobbin whose phase is not live ends it (R208). -/
def execPlyTx (c : Cell) (s : State) : Host.Outcome State Fault Refusal :=
  .next (s.startDesc c 8 fun q s =>
    let d := q.desc
    match s.plyIxOf d.aux with
    | some i =>
      let m := s.memberOf i d.aux
      if !s.bobLive (BitVec.ofNat 32 d.aux) then (s.startStream c q 1).notLive c q
      else if !(s.plyPort i).open_ d.ext m then s
      else ((s.startStream c q 1).when (!plySink d.ext) fun s => s.streamRows c q 8).modPly i fun x =>
        let g := x.grp.getD { group := plyGroup d.ext, startAt := s.time.lea }
        { x with grp := some (if plySink d.ext then { g with sink := some c.val }
            else match m with | some k => { g with cells := g.cells.set none k (some c.val) } | none => g) }
    | none => (s.startStream c q 1).notLive c q)

/-! ### Narrowing and DIGITAL (R221, R228) -/

/-- The members of a port as its stored trims name them. -/
def PlyPort.key (x : PlyPort) : List (Nat × Nat) := x.members.map fun m => (m.src, m.line)

/-- The trims stored for these members. -/
def PlyPort.trimsOf (x : PlyPort) (k : List (Nat × Nat)) : Option PlyTrims := x.stored.find? fun t => decide (t.members = k)

/-- Store the port's present split, trims and delays for its members. -/
def PlyPort.keep (x : PlyPort) : PlyPort :=
  { x with stored := { members := x.key, split := x.split, trims := x.members.map (·.trim), delays := x.members.map fun m => (m.delaySym, m.delayFine) } ::
      x.stored.filter fun t => decide (t.members ≠ x.key) }

/-- The trims stored for the members that a port parks, as they stand now. -/
def PlyPort.park (x : PlyPort) : PlyPort := if (x.trimsOf x.key).isSome then x.keep else x

/-- The port runs at another split: it stays so until the port trains (R221). -/
def PlyPort.resplit (x : PlyPort) (sp : Nat) : PlyPort :=
  { x with split := sp, stored := x.stored.map fun t => if t.members = x.key then { t with split := sp } else t }

/-- Event of a port that narrows, goes DIGITAL or is FAULTED (R374). -/
def State.plyEvent (s : State) (i cause st : Nat) : State := s.fire (16 * plyStn i + 6) cause i st

/-- Enter DIGITAL with a cause. -/
def State.goDigital (s : State) (i cause : Nat) : State :=
  ((s.bump Ctr.plyFallback i).modPly i fun x => { x with state := .digital, lastCause := cause, narrowDue := false }).plyEvent i cause 5

/-- The margin of a port is spent: in RUN the split doubles, at once or at the next block boundary; at split 4, and
there in READY too, the port goes DIGITAL. -/
def State.narrow (s : State) (i cause : Nat) (atOnce : Bool) : State :=
  let x := s.plyPort i
  if x.state ≠ .run ∧ x.state ≠ .ready then s
  else if x.split ≥ 4 then s.goDigital i cause
  else if x.state = .run then
    ((s.bump Ctr.plyNarrow i).modPly i fun x =>
      { (if atOnce then x.resplit (2 * x.split) else x) with lastCause := cause, narrowDue := !atOnce }).plyEvent i cause 4
  else s

/-- A block ends (R221): a split that is due doubles, and the members apply the trims they were sent. -/
def PlyPort.boundary (x : PlyPort) : PlyPort :=
  let y := if x.narrowDue then x.resplit (2 * x.split) else x
  { y with narrowDue := false, members := y.members.map fun m => { m with trim := m.trim + m.trimDue, trimDue := 0 } }

/-- What a window leaves in a port's registers (R221, R231): margin, levels, and the trims sent, of at most 0.1 % a window. While no
group runs no block is in hand, and a trim applies as it comes (DEDUCED, log 141). -/
def PlyPort.measured (x : PlyPort) (w : PlyMeas) : PlyPort :=
  let y : PlyPort := { x with
    sigmaUc := min w.sigmaUc 65535
    detMc := min (plyDet x.members.length x.split w) 65535
    predLog := plyPredLog (plyDet x.members.length x.split w) w.sigmaUc
    members := x.members.zipIdx.map fun m =>
      let lev := w.levels.getD m.2 m.1.level
      { m.1 with level := lev, low := if 2 * lev < w.reference then min (m.1.low + 1) 2 else 0,
                 trimDue := m.1.trimDue + max (-1) (min 1 (w.trims.getD m.2 0)) } }
  if x.state = .run then y else y.boundary

/-- PLY_WINDOW (R221, R229): a window of 4,096 proof slots on a READY or running port. -/
def execPlyWindow (p : PlyIx) (w : PlyMeas) (s : State) : Host.Outcome State Fault Refusal :=
  let x := s.plyPort p
  .next (if x.state ≠ .run ∧ x.state ≠ .ready then s
    else
      let s1 := s.modPly p (·.measured w)
      match (s1.plyPort p).members.find? fun m => decide (m.low ≥ 2) with
      | some _ => s1.loseMember p 0x040A (plyStn p)
      | none => if meets x.members.length x.split w then s1 else s1.narrow p 1 false)

/-- Proof slot `q` that slot `n` of the port's stream is: while blocks run, slot 255 of every 256; while none does, every slot
(R215). -/
def PlyPort.proofAt (x : PlyPort) (n : Nat) : Option Nat :=
  match x.state with
  | .run => if proofSlot n then some (n / 256 % 32) else none
  | .ready => some (n % 32)
  | _ => none

/-- PLY_PROOF_MISS (R215, R221): the converter has read `m.code` in slot `m.slot`, a proof slot: a wrong count acts at once. -/
def execPlyProofMiss (m : ProofRead) (s : State) : Host.Outcome State Fault Refusal :=
  let p := m.port
  let x := s.plyPort p
  .next (match x.proofAt m.slot with
    | some q => s.when (decide (countOf (plyWide x.members.length x.split) m.code ≠ proofCount x.members.length x.split q)) fun s =>
        ((s.bump Ctr.plyProofMiss p).modPly p fun x => { x with proofMiss := satAdd 0xFFFF x.proofMiss 1 }).narrow p 2 true
    | none => s)

/-! ### Starting a group (R226) -/

/-- Have the sink and every member posted? -/
def PlyPort.posted (x : PlyPort) : Bool :=
  match x.grp with
  | some g => g.sink.isSome && (List.range x.members.length).all fun m => (g.cells.get none m).isSome
  | none => false

/-- Do two descriptors agree in WIDTH, SIGNED and N? -/
def plyAgree (a b : Desc) : Bool :=
  decide (plyWidth a.ext = plyWidth b.ext) && decide (plySigned a.ext = plySigned b.ext) && decide (plyElems a = plyElems b)

/-- PLY_GROUP_START (R226, R229): sink and members are READY. The sink sends GO on a READY or DIGITAL port; a
disagreement stamps PLY_MISMATCH, a FAULTED port ends the group with PLY_LOST. -/
def execPlyGroupStart (p : PlyIx) (s : State) : Host.Outcome State Fault Refusal :=
  let x := s.plyPort p
  .next (match x.grp with
    | some g =>
      if g.go || !x.posted then s
      else
        let agree := match s.plySinkDesc g with
          | some d => (s.plyMemberDescs g).all fun m => plyAgree d m.2
          | none => false
        let go (st : PlyState) (s : State) : State := s.modPly p fun x =>
          { x with state := st, group := g.group, width := ((s.plySinkDesc g).map fun d => plyWidth d.ext).getD 0, grp := some { g with go := true } }
        if !agree then s.endGroup p 0x0408 (plyStn p)
        else match x.state with
          | .faulted => s.endGroup p 0x040A (plyStn p)
          | .ready => go .run s
          | .digital => go .digital s
          | _ => s
    | none => s)

/-- PLY_GO (R226): GO reaches a member, which sends from the start slot named. -/
def execPlyGo (p : PlyIx) (m : Fin 16) (slot : Nat) (s : State) : Host.Outcome State Fault Refusal :=
  .next (s.modPly p fun x => match x.grp with
    | some g => if g.go && decide (m.val < x.members.length) then { x with grp := some { g with slot := slot, going := g.going ||| 2 ^ m.val } } else x
    | none => x)

/-- PLY_TIMEOUT (R226): a group that has not started 100 µs after the first of its descriptors stamps PLY_TIMEOUT. -/
def execPlyTimeout (p : PlyIx) (s : State) : Host.Outcome State Fault Refusal :=
  .next (match (s.plyPort p).grp with
    | some g => s.when (!g.go && s.elapsed g.startAt 100000) fun s => s.endGroup p 0x0409 (plyStn p)
    | none => s)

/-! ### Blocks (R216, R222, R224, R227) -/

/-- Guard slot that counts a descriptor's range events. -/
def State.plySlot (s : State) (r : Nat) (d : Desc) : Option Nat :=
  (s.launchOf r).bind fun l => (s.image l.image).map fun im => im.firstSlot + plyTensor d.ext

/-- Count range events in a descriptor's guard slot, and mark the launch (R65, R108, R227). -/
def State.plyCount (s : State) (r : Nat) (d : Desc) (n : Cnt) : State :=
  match s.plySlot r d with
  | some k => s.addCounts r k n
  | none => s

/-- A result word from an exact sum (R227): code and range events. -/
def plyOut (ext : Nat) (sum : Int) : Nat × Cnt :=
  if plyOutF ext then toFp32 .rne (.fin sum (plyExp ext))
  else if sum > 2 ^ 31 - 1 then (2 ^ 31 - 1, { sat := 1 })
  else if sum < -(2 ^ 31) then (2 ^ 31, { sat := 1 })
  else ((sum % 2 ^ 32).toNat, {})

/-- The sink accepts block `k` with the sums U_e of all members' values: it takes the offset off, adds its own partial
under LOCAL, converts, and writes the results, with the poison mark when a source word was poisoned. The members'
conversions of the block are counted with it. -/
def State.writeBlock (s : State) (p : Nat) (g : PlyGroup) (k : Nat) (us : List Nat) : State :=
  match s.plySinkDesc g with
  | some d =>
    let ms := s.plyMemberDescs g
    let n := ms.length
    let off : Int := if plySigned d.ext then n * 2 ^ (plyWidth d.ext - 1) else 0
    let loc := if plyLocal d.ext then s.plyXs d k else []
    let bad := (ms.any fun m => s.plyBad m.2 k) || (plyLocal d.ext && s.plyBad d k)
    let s1 := s.forEach ms fun m s =>
      let r := ((s.plyPort p).members.getD m.1 { bobbin := 0, src := 0, line := 0 }).src
      (s.when (s.plyBad m.2 k) fun s => s.sramCause m.2.srcAddr m.2.mark).plyCount r m.2 { sat := ((s.plyXs m.2 k).map (·.2)).sum }
    let s2 := (s1.when (plyLocal d.ext && s.plyBad d k) fun s => s.sramCause d.srcAddr d.mark).plyCount (plyStn p) d { sat := (loc.map (·.2)).sum }
    s2.forEach ((List.range 64).filter fun e => decide (64 * k + e < plyElems d)) fun e s =>
      let o := plyOut d.ext ((us.getD e 0 : Nat) - off + ((loc.map (·.1)).getD e 0))
      (s.putSram (plyDstAt d (64 * k + e)) (leBytes 4 o.1) bad).plyCount (plyStn p) d o.2
  | none => s

/-- Blocks of a group. -/
def State.plyTotal (s : State) (g : PlyGroup) : Nat := ((s.plySinkDesc g).map plyBlocks).getD 0

/-- A descriptor of a cell has no request outstanding any more. -/
def State.settle (s : State) (c group : Nat) : State :=
  s.modCel c fun x => { x with queue := x.queue.map fun q => if q.desc.op = 8 && plyGroup q.desc.ext = group then { q with outstanding := 0 } else q }

/-- One more block accepted: with the last the sink's descriptor may complete and the port is READY again, unless DIGITAL (R226,
R228). -/
def State.accepted (s : State) (p : Nat) : State :=
  match (s.plyPort p).grp with
  | some g =>
    let g1 := { g with accepted := g.accepted + 1 }
    let last := decide (g1.accepted ≥ s.plyTotal g)
    let s1 := s.modPly p fun x =>
      { x with grp := some g1, state := if last && decide (x.state = .run) then .ready else x.state }
    s1.when last fun s => match g.sink with | some c => s.settle c g.group | none => s
  | none => s

/-- Counts of a block's symbols, plane by plane, as the sums U_e (R216). -/
def countSums (w : Nat) (counts : List Nat) : List Nat :=
  (List.range 64).map fun e => ((List.range w).map fun b => 2 ^ b * counts.getD (64 * b + e) 0).sum

/-- Mismatches of a port within the storm window (R224). -/
def State.plyRecent (s : State) (p : Nat) : List Lea := (s.plyPort p).mismatches.filter fun t => decide (since t s.time.lea < 1000000)

/-- Put the next block under recomputation. -/
def State.redoNext (s : State) (p : Nat) : State :=
  s.modPly p fun x => match x.grp with
    | some g => { x with grp := some { g with next := g.next + 1, redo := g.redo ++ [{ block := g.next, sums := List.replicate 64 0 }] } }
    | none => x

/-- Does a running port take its next block in light: all members send, blocks are left, fewer than 4 recomputations
are outstanding? -/
def State.plyRuns (s : State) (p : Nat) : Option PlyGroup :=
  match (s.plyPort p).state, (s.plyPort p).grp with
  | .run, some g => if g.next < s.plyTotal g ∧ g.redo.length < 4 ∧ g.going = 2 ^ (s.plyPort p).members.length - 1 then some g else none
  | _, _ => none

/-- A block of `n` data slots has passed at a running port: its stream has moved on, and the block's boundary has come (R215,
R221). -/
def State.blockPassed (s : State) (p n : Nat) : State :=
  s.modPly p fun x => { x.boundary with grp := x.grp.map fun g => { g with slot := slotAfter g.slot n } }

/-- Bits of an element of the port's running group. -/
def State.plyBits (s : State) (g : PlyGroup) : Nat := ((s.plySinkDesc g).map fun d => plyWidth d.ext).getD 0

/-- The sums U_e that a port reads from the converter codes of a block, slot by slot and plane by plane (R216-R218). -/
def State.plySums (s : State) (p : Nat) (g : PlyGroup) (codes : List Nat) : List Nat :=
  let x := s.plyPort p
  countSums (s.plyBits g) (symbolCounts (plyWide x.members.length x.split) x.split codes)

/-- Sum of the residues that the members send for block `k` (R222). -/
def State.plyResidues (s : State) (g : PlyGroup) (k : Nat) : Nat := ((s.plyMemberDescs g).map fun m => (s.plyVals m.2 k).sum % 255).sum

/-- PLY_RESIDUE_CHECK (R215-R218, R222-R224): the next block has passed, `codes` what the converter read in its data slots. It is
accepted when the sums agree with the members' residues modulo 255, and recomputed otherwise; the eighth mismatch within
1,000,000 ns sends the port to DIGITAL. -/
def execPlyResidueCheck (p : PlyIx) (codes : List Nat) (s : State) : Host.Outcome State Fault Refusal :=
  .next (match s.plyRuns p with
    | some g0 =>
      let us := s.plySums p g0 codes
      let rho := s.plyResidues g0 g0.next
      let s1 := (s.bump Ctr.plyBlock p).blockPassed p (64 * s.plyBits g0 * (s.plyPort p).split)
      let g := { g0 with slot := slotAfter g0.slot (64 * s.plyBits g0 * (s.plyPort p).split) }
      if us.sum % 255 = rho % 255 then
        ((s1.writeBlock p g g.next us).modPly p fun x => { x with grp := some { g with next := g.next + 1 } }).accepted p
      else
        let recent := s.plyRecent p ++ [s.time.lea]
        let s2 := (s1.modPly p fun x => { x with mismatches := recent }).redoNext p
        s2.when (decide (recent.length ≥ 8)) fun s => s.goDigital p 3
    | none => s)

/-- PLY_UNDERRUN (R224): a member was dark for its whole next block: the block is recomputed without its residue. -/
def execPlyUnderrun (p : PlyIx) (m : Fin 16) (s : State) : Host.Outcome State Fault Refusal :=
  .next (match s.plyRuns p with
    | some g => s.when (decide (m.val < (s.plyPort p).members.length)) fun s =>
        ((s.bump Ctr.plyUnderrun p).blockPassed p (64 * s.plyBits g * (s.plyPort p).split)).redoNext p
    | none => s)

/-- The block that member `m`'s next packet of values belongs to: the oldest recomputation it has not answered; in
DIGITAL, the next block of the group after those. -/
def PlyGroup.redoFor (g : PlyGroup) (m : Nat) : Option Redo := g.redo.find? fun r => !bit r.got m

/-- PLY_REDO (R224, R228): member `m` has converted a block again, or for the first time in DIGITAL, and its values
have come: the sink adds them exactly, and writes the block when every member's are there. -/
def execPlyRedo (p : PlyIx) (m : Fin 16) (s : State) : Host.Outcome State Fault Refusal :=
  let ready (s : State) : State := match (s.plyPort p).grp with
    | some g => s.when (decide ((s.plyPort p).state = .digital) && g.go && (g.redoFor m).isNone && decide (g.next < s.plyTotal g)) fun s => s.redoNext p
    | none => s
  let s := ready s
  .next (match (s.plyPort p).grp with
    | some g => match g.redoFor m, (s.plyMemberDescs g).find? fun d => decide (d.1 = m.val) with
      | some r, some d =>
        let vs := s.plyVals d.2 r.block
        let r1 := { r with got := r.got ||| 2 ^ m.val, sums := r.sums.zipWith (· + ·) vs }
        let rest := g.redo.map fun x => if x.block = r.block then r1 else x
        if r1.got = 2 ^ (s.plyPort p).members.length - 1 then
          let g1 := { g with redo := g.redo.filter fun x => decide (x.block ≠ r.block) }
          (((s.bump Ctr.plyRedo p).writeBlock p g r.block r1.sums).modPly p fun x => { x with grp := some g1 }).accepted p
        else s.modPly p fun x => { x with grp := some { g with redo := rest } }
      | _, _ => s
    | none => s)

/-- PLY_CONFIRM (R224, R226): CONFIRM of the blocks accepted reaches member `m`; with the last block its descriptor may
complete, and when every member's may, the port's group is over. -/
def execPlyConfirm (p : PlyIx) (m : Fin 16) (s : State) : Host.Outcome State Fault Refusal :=
  .next (match (s.plyPort p).grp with
    | some g =>
      let s1 := s.modPly p fun x => { x with grp := some { g with confirmed := g.accepted } }
      if g.go && decide (g.accepted ≥ s.plyTotal g) then
        match g.cells.get none m.val with
        | some c =>
          let cells := g.cells.set none m.val none
          (s1.settle c g.group).modPly p fun x =>
            { x with grp := if cells.isEmpty then none else some { g with confirmed := g.accepted, cells := cells } }
        | none => s1
      else s1
    | none => s)

/-! ### Training (R215, R220, R228) -/

/-- A port measured at split `sp` in its training: margin, residual, and the alignment delays of its members. -/
def PlyPort.aligned (x : PlyPort) (sp : Nat) (w : PlyMeas) : PlyPort :=
  let y := ({ x with split := sp, narrowDue := false } : PlyPort).measured w
  { y with
    eqRes := min w.eqRes 255
    members := y.members.zipIdx.map fun m => { m.1 with delaySym := (w.delays.getD m.2 (0, 0)).1, delayFine := (w.delays.getD m.2 (0, 0)).2 } }

/-- A port's training has been measured: READY at the smallest split that meets R220 with P at most 1e-12, its trims stored for its
members; DIGITAL when none does. -/
def State.trained (s : State) (i : Nat) (w : PlyMeas) : State :=
  match splitFor (s.plyPort i).members.length s.plan.widthCap w with
  | some sp => s.modPly i fun x => { (x.aligned sp w).keep with state := .ready }
  | none => (s.modPly i (·.aligned 4 w)).goDigital i 4

/-- A check of stored trims: READY when the 32 proof slots were read right and P meets the target, otherwise TRAIN (R228). -/
def State.checked (s : State) (i : Nat) (w : PlyMeas) : State :=
  let x := s.plyPort i
  if meets x.members.length x.split w && proofsRight x.members.length x.split w.codes then s.modPly i fun x => { x.measured w with state := .ready }
  else s.modPly i fun x => { x.measured w with state := .train, since_ := s.time.lea }

/-- PLY_TRAIN_DONE (R228): the training, or the check, of a port ends with these readings. -/
def execPlyTrainDone (p : PlyIx) (w : PlyMeas) (s : State) : Host.Outcome State Fault Refusal :=
  .next (match (s.plyPort p).state with
    | .train => s.trained p w
    | .check => s.checked p w
    | _ => s)

/-- PLY_TRAIN_TIMEOUT (R228): 50 µs in TRAIN: DIGITAL with cause TRAIN_FAIL. -/
def execPlyTrainTimeout (p : PlyIx) (s : State) : Host.Outcome State Fault Refusal :=
  let x := s.plyPort p
  .next (s.when (decide (x.state = .train) && s.elapsed x.since_ 50000) fun s => s.goDigital p 4)

/-- PLY_CHECK_TIMEOUT (R228): 1.4 µs in CHECK: TRAIN. -/
def execPlyCheckTimeout (p : PlyIx) (s : State) : Host.Outcome State Fault Refusal :=
  let x := s.plyPort p
  .next (s.when (decide (x.state = .check) && s.elapsed x.since_ 1400) fun s => s.modPly p fun x => { x with state := .train, since_ := s.time.lea })

/-- PLY_LOST (R229): the proof levels find member `m` lost. -/
def execPlyLost (p : PlyIx) (m : Fin 16) (s : State) : Host.Outcome State Fault Refusal :=
  .next (s.when (decide (m.val < (s.plyPort p).members.length)) fun s => s.loseMember p 0x040A (plyStn p))

/-- Members with the trims and delays stored for them. -/
def PlyTrims.onto (t : PlyTrims) (ms : List PlyMember) : List PlyMember :=
  ms.zipIdx.map fun m =>
    { m.1 with trim := t.trims.getD m.2 0, delaySym := (t.delays.getD m.2 (0, 0)).1, delayFine := (t.delays.getD m.2 (0, 0)).2 }

/-- Light a port for a phase with these members: CHECK, at the split stored, when trims are stored for them, TRAIN otherwise; a
reading that came with the switch decides at once (R207, R228). -/
def State.lightPort (s : State) (i : Nat) (members : List PlyMember) (w : Option PlyMeas) : State :=
  match (s.plyPort i).park.trimsOf (members.map fun m => (m.src, m.line)) with
  | some t =>
    let s1 := s.modPly i fun x => { x.park with state := .check, members := t.onto members, split := t.split, narrowDue := false, since_ := s.time.lea }
    match w with | some m => s1.checked i m | none => s1
  | none =>
    let s1 := s.modPly i fun x => { x.park with state := .train, members := members, narrowDue := false, since_ := s.time.lea }
    match w with | some m => s1.trained i m | none => s1

/-- A port leaves use: IDLE, its stored trims kept (R228). -/
def State.idlePort (s : State) (i : Nat) : State :=
  s.modPly i fun x => { x.park with state := .idle, members := [], grp := none, narrowDue := false }

/-- Members of a port in a placed phase, with their identifiers (R214). -/
def membersIn (bs : List (BitVec 32 × Bob)) (i : Nat) : List PlyMember :=
  (bs.filter fun b => decide (b.2.kind = 3) && decide (b.2.drops.head?.map (fun d => 64 * d.1 + b.2.port) = some i)).map fun b =>
    { bobbin := b.1, src := b.2.src, line := b.2.line }

/-- Ports that a placed phase lights. -/
def portsIn (bs : List (BitVec 32 × Bob)) : List Nat :=
  (bs.filterMap fun b => if b.2.kind = 3 then b.2.drops.head?.map fun d => 64 * d.1 + b.2.port else none).eraseDups

end Sys2Proof.Machine
end

