-- ==== Sys2Proof/Machine/Light.lean ====
section
/-! DEFINITION. The light: tap-detector windows, fades, hand-overs and returns, lost light, cages, commissioning
(chapter 11). -/

namespace Sys2Proof.Machine

/-! ### Levels (R235, R237) -/

/-- Is the loop's group on its standby port (R234)? -/
def State.onStandby (s : State) (loop : Nat) : Bool := (s.grp (loop / 16)).onStandby

/-- P_c of a line from a source of the loop, 0.01 dBm (R236). -/
def State.pcOf (s : State) (loop : Nat) (standby : Bool) (line : Nat) : Int :=
  s.light.pc.get (-100) (96 * loop + (if standby then 48 else 0) + line)

/-- The weakest line of a window against P_c of the selected source: its level in 0.01 dB, and the line. -/
def State.weakest (s : State) (loop : Nat) (powers : List Int) : Int × Nat :=
  (powers.zipIdx.map fun p => (p.1 - s.pcOf loop (s.onStandby loop) p.2, p.2)).foldl (fun b x => if x.1 < b.1 then x else b)
    (match powers with | p :: _ => p - s.pcOf loop (s.onStandby loop) 0 | [] => 0, 0)

/-- Level of a loop, the average of its windows, 0.01 dB; none before it has a window. -/
def LoopLight.level (x : LoopLight) : Option Int := if x.windows.isEmpty then none else some (x.windows.sum / (x.windows.length : Int))

/-- The 10-window average: none before there are ten. -/
def LoopLight.average (x : LoopLight) : Option Int := if x.windows.length < 10 then none else x.level

/-! ### Losses (R241, R242) -/

/-- A loop has lost its light (R237, R242). -/
def State.lightLost (s : State) (ns : List Nat) (g : Nat) : State :=
  s.when (ns.any fun n => (s.loopSt n).state.fed) fun s => (s.bump Ctr.lightLost g).withdrawLoops ns 3

/-- The groups that a cage lights (R233): a primary its own while on it, a standby the one that stands on it. -/
def State.groupsOfCage (s : State) (k : Nat) : List Nat :=
  if k < 8 then (if (s.grp k).onStandby then [] else [k])
  else ((List.range 4).map (· + 4 * (k - 8))).filter fun g => (s.grp g).onStandby

/-- LIGHT_LOST (R237, R242): a loop's input power is gone, or a source has signalled its fault or left its cage. Its
loops are withdrawn at once, and the group takes its path. -/
def execLightLost (what : LightWhat) (s : State) : Host.Outcome State Fault Refusal :=
  .next (match what with
    | .loop n => s.lightLost [n.val] (n.val / 16)
    | .cage k => s.when ((s.cage k).faultPin || !(s.cage k).present) fun s =>
        s.forEach (s.groupsOfCage k) fun g s => s.lightLost (loopsOf g) g)

/-! ### Hand-over (R238-R242) -/

/-- The planned hand-over of a group on its primary: armed if its standby is free; denied, once, if it is busy. -/
def State.handover (s : State) (g : Nat) : State :=
  let x := s.grp g
  if x.state ≠ .primary ∨ x.denied = true then s
  else if s.standbyBusy g then (s.modGrp g fun x => { x with denied := true }).bump Ctr.lightStandbyBusy g
  else if s.standbyFree g then s.arm g false
  else s

/-- The light of a loop enters or leaves ADVISORY: flagged in LIGHT.LOOP, beside the loop's state of R173, and an event
raised (R237, DEDUCED, log 72). -/
def State.flagLight (s : State) (n : Nat) (on : Bool) : State :=
  (s.modLight n fun x => { x with advisory := on }).fire (0x200 + n) 0 n on.toNat

/-- The averages of a loop's windows judged (R237). -/
def State.judge (s : State) (n : Nat) : State :=
  match (s.light.loop.get {} n).average with
  | some a =>
    let adv := (s.light.loop.get {} n).advisory
    let s1 := if a ≤ -100 ∧ adv = false then (s.flagLight n true).bump Ctr.lightAdvisory (n / 16)
      else if a ≥ -70 ∧ adv = true then s.flagLight n false
      else s
    s1.when (decide (a ≤ -150)) fun s => s.handover (n / 16)
  | none => s

/-- The hand-over row of R237 for a loop that is withdrawn already: its fade still moves its group (R241, DEDUCED, log 71). -/
def State.judgeWithdrawn (s : State) (n : Nat) : State :=
  match (s.light.loop.get {} n).average with
  | some a => s.when (decide ((s.loopSt n).state = .withdrawn) && decide (a ≤ -150)) fun s => s.handover (n / 16)
  | none => s

/-- LIGHT_WINDOW (R235, R237): a window of a loop's tap detector. -/
def execLightWindow (n : Loop) (w : LightMeas) (s : State) : Host.Outcome State Fault Refusal :=
  let lv := s.weakest n w.powers
  let x := s.light.loop.get {} n.val
  let below := if lv.1 ≤ -250 then min (x.below + 1) 2 else 0
  let s1 := s.modLight n fun x => { x with windows := (lv.1 :: x.windows).take 10, worstLine := lv.2, below := below }
  .next (if !(s.loopSt n).state.fed then s1.judgeWithdrawn n
    else if w.totalDrop > 1000 then s1.lightLost [n.val] (n.val / 16)
    else if below ≥ 2 then s1.withdrawLoops [n.val] 2
    else s1.judge n)

/-- Source that an arming group moves to: its primary on a return, its standby otherwise. -/
def State.targetCage (s : State) (g : Nat) : Nat := if (s.grp g).returning then g else standbyCage g

/-- SOURCE_READY (R238): the target source is READY and lit: WAITING, or TRANSFER when unpaused. -/
def execSourceReady (g : Group) (s : State) : Host.Outcome State Fault Refusal :=
  let k := s.targetCage g
  .next (if (s.grp g).state = .arming ∧ (s.cage k).state ≠ .fault ∧ (s.cage k).state ≠ .absent then
      (s.modCage k fun c => { c with state := .lit }).enterGrp g (if (s.grp g).unpaused then .transfer else .waiting)
    else s)

/-- End every LIGHT_RETURN in progress for a group. -/
def State.endReturn (s : State) (g : Nat) (st : Status) : State :=
  s.endLops (fun l => decide (l.opcode = 0x0811) && decide (l.aux = g)) st 0

/-- ARMING_TIMEOUT (R238, R242): 5 ms in ARMING: the target source is marked FAULT and the group goes back; to a primary that feeds no
loop any more, it is DARK. -/
def execArmingTimeout (g : Group) (s : State) : Host.Outcome State Fault Refusal :=
  let k := s.targetCage g
  .next (s.when (decide ((s.grp g).state = .arming) && s.elapsed (s.grp g).changedAt 5000000) fun s =>
    let back := (s.grp g).returning
    (((s.modCage k fun c => { c with state := .fault, bundle := 15 }).fire (0x288 + k) 0 k 4).enterGrp g (if back then .standby else .primary)
      fun x => { x with returning := false, unpaused := false }) |> fun s => if back then s.endReturn g .fault else s.groupOut g)

/-- The selectors of a group have moved: the new source lights its loops, the old one is dark or ready, the windows and
the stored ply trims of its even loops begin afresh (R234, R235, R240). -/
def State.moved (s : State) (g kind : Nat) : State :=
  let back := (s.grp g).returning
  let kOld := if back then standbyCage g else g
  let kNew := if back then g else standbyCage g
  let s1 := (s.modCage kOld fun c => { c with state := if c.state = .lit then .ready else c.state, bundle := 15 }).modCage kNew fun c =>
    { c with state := if c.state = .fault || c.state = .absent then c.state else .lit, bundle := if back then 15 else g % 4 }
  let s2 := s1.forEach (loopsOf g) fun n s => s.modLight n fun x => { x with windows := [], below := 0 }
  let ports := (s2.ply.filter fun p => decide (p.1 % 64 / 8 = g)).map (·.1)
  let s3 := s2.forEach ports fun p s => s.modPly p fun x => { x with stored := [] }
  let s4 := { s3 with light := { s3.light with lastGroup := g, lastKind := if back then 3 else kind } }
  ((s4.bump Ctr.lightHandover g).enterGrp g (if back then .primary else .standby) fun x =>
    { x with onStandby := !back, returning := false, unpaused := false }).when back fun s => s.endReturn g .ok

/-- Loops of a group that crossed -2.5 dB while its pause ran are withdrawn at its end (R241). -/
def State.fadeEnd (s : State) (g : Nat) : State :=
  let due := (loopsOf g).filter fun n => (s.light.loop.get {} n).fadeDue
  (s.forEach due fun n s => s.modLight n fun x => { x with fadeDue := false }).withdrawLoops due 2

/-- A pause of R240, `ns` long, in which the rings `failed` miss their confirmation and the loops `faded` cross -2.5 dB: those are
withdrawn at its end (R241). -/
def State.pause (s : State) (g : Nat) (failed : List RingIx) (faded : List Loop) (ns kind : Nat) : State :=
  let s1 := (s.enterGrp g .paused).forEach (faded.filter fun n => decide (n.val / 16 = g)) fun n s => s.modLight n fun x => { x with fadeDue := true }
  let rs := (failed.filter fun i => decide (i.loop.val / 16 = g)).map ringIx
  let s2 := s1.forEach rs fun r s => (s.muteRing r).bump Ctr.switchConfirmFail
  let s3 := { s2 with light := { s2.light with lastPause := min ns 65535, maxPause := max s2.light.maxPause (min ns 65535), defers := 0 } }
  (s3.moved g kind).fadeEnd g

/-- PHASE bobbins of the live phase on a group's loops. -/
def State.phaseOn (s : State) (g : Nat) : List (BitVec 32) := (s.liveBobs.filter fun b => decide (b.2.loop / 16 = g)).map (·.1)

/-- Lea time at which phase `p` is due (R206). -/
def dueAt (t : TableSt) (r : Run) (p : Nat) : Lea :=
  r.base + BitVec.ofNat 64 (((t.phases[p]?.map (·.slot)).getD 0 + r.d) * t.slotNs)

/-- Has phase `p` a CARRY entry placed on the group's loops? -/
def carriesOn (t : TableSt) (g p : Nat) : Bool := (t.placed[p]?.getD []).any fun b => b.carry && decide (b.loop / 16 = g)

/-- May a pause open at the switch in hand: it starts, at S_p or with its barrier's release, and neither its outgoing nor its incoming
phase has a CARRY entry on the group's loops (R239)? -/
def State.gapAt (s : State) (r : Run) (g : Nat) : Bool :=
  match r.next, s.table r.handle with
  | some p, some t => (r.trigger.isSome || (r.armed && !before s.time.lea (dueAt t r p))) && !carriesOn t g p &&
      !match r.live with | some l => carriesOn t g l | none => false
  | _, _ => false

/-- PAUSE_OPEN (R239, R240): the first gap after WAITING: at once when no table runs, otherwise at a switch. The
outgoing phase's bobbins on the group's loops go out of service, and the switch waits for the end of the pause. -/
def execPauseOpen (g : Group) (o : PauseRead) (ns : Nat) (s : State) : Host.Outcome State Fault Refusal :=
  .next (if (s.grp g).state ≠ .waiting then s
    else match s.creel.run with
      | none => s.pause g o.failed o.faded ns 0
      | some r => s.when (s.gapAt r g) fun s =>
          let s1 := (s.withdraw (s.phaseOn g)).pause g o.failed o.faded ns 0
          { s1 with creel := { s1.creel with run := s1.creel.run.map fun r => { r with pauseEnd := some (s.time.lea + BitVec.ofNat 64 ns) } } })

/-- HANDOVER_WAIT_LAPSE (R239): HANDOVER_WAIT has lapsed: a forced hand-over; every PHASE bobbin on the group's loops
leaves service. -/
def execHandoverWaitLapse (g : Group) (o : PauseRead) (ns : Nat) (s : State) : Host.Outcome State Fault Refusal :=
  .next (s.when (decide ((s.grp g).state = .waiting) && s.elapsed (s.grp g).changedAt (1000000 * s.light.waitMs)) fun s =>
    (((s.bump Ctr.lightHandoverForced g).withdraw (s.phaseOn g)).modGrp g fun x => { x with forced := true }).pause g o.failed o.faded ns 1)

/-- LIGHT_TRANSFER (R238, R242): the selectors move at once. -/
def execLightTransfer (g : Group) (s : State) : Host.Outcome State Fault Refusal :=
  .next (s.when (decide ((s.grp g).state = .transfer)) fun s => s.moved g 2)

/-! ### Cages (R245) -/

/-- I/O die that drives a cage's management bus. -/
def dieOfCage (k : Nat) : IoDie := if k < 4 ∨ k = 8 then 0 else 1

/-- CAGE_POLL (R245): the cage's answer, or none. Three failed transactions in a row clear MGMT_OK, and raise the
event. -/
def execCagePoll (k : Cage) (r : Option CageRead) (s : State) : Host.Outcome State Fault Refusal :=
  let c := s.cage k
  .next (match (if s.spin.present.get (dieOfCage k) then r else none) with
    | none =>
      let lost := decide (c.misses ≥ 2) && c.mgmtOk
      (s.modCage k fun c => { c with misses := min (c.misses + 1) 3, mgmtOk := c.mgmtOk && decide (c.misses < 2) }).when lost fun s => s.fire (0x288 + k) 1 k
    | some r =>
      let up := r.ready && decide (c.state = .warming)
      (s.modCage k fun c =>
        { c with misses := 0, mgmtOk := true, tempC := r.tempC, minLine := r.minLine, state := if up then .ready else c.state,
                 faultCode := if r.faultCode = 0 then c.faultCode else r.faultCode.toNat }).when up fun s => s.fire (0x288 + k) 0 k 2)

/-! ### Commands -/

/-- Loops that fall short of -1.0 dBm on a source in a commissioning (R236). -/
def shortLoops (pw : List LinePower) : List Nat := ((pw.filter fun p => p.powers.any (· < -100)).map fun p => p.loop.val).eraseDups

/-- LIGHT_COMMISSION (R236): the powers measured become P_c when none falls short; loops that do are withdrawn, and the
command completes with FAULT and a bit per loop. -/
def execLightCommission (c : Cmd) (pw : List LinePower) (s : State) : Host.Outcome State Fault Refusal :=
  .next (selkan { op := 0x0810, long := true, noJob := true, nvm := true } c {} (fun s =>
    let short := shortLoops pw
    let fresh (s : State) : State := s.forEach ((pw.map fun p => p.loop.val).eraseDups) fun n s => s.modLight n fun x => { x with windows := [], below := 0 }
    if short.isEmpty then
      (fresh { s with light := { s.light with
          commissioned := true
          pc := pw.foldl (fun t p => t.setAll (-100) (96 * p.loop.val + if p.standby then 48 else 0) (p.powers.take 48)) s.light.pc } }).done c .ok
    else ((fresh s).withdrawLoops short 2).done c .fault (BitVec.ofNat 128 ((short.map fun n => 2 ^ n).sum))) s)

/-- LIGHT_RETURN (R243): a group in STANDBY with its primary READY goes back; the command ends with its hand-over (the bus of
the primary cage: DEDUCED, log 90). -/
def execLightReturn (c : Cmd) (s : State) : Host.Outcome State Fault Refusal :=
  let g := c.field s 16 1
  let twin := s.spin.lops.any fun l => decide (l.opcode = 0x0811) && decide (l.aux = g)
  .next (selkan { op := 0x0811, named := [(16, 16)], long := true } c
    { bad := if g ≥ 8 then some 16 else none
      state := decide ((s.grp g).state ≠ .standby) || decide ((s.cage g).state ≠ .ready)
      busy := if twin || !(s.cage g).mgmtOk then some 0 else none } (fun s =>
    (s.setAux c g).enterGrp g .arming fun x => { x with returning := true, forced := false, unpaused := false }) s)

end Sys2Proof.Machine
end

