-- ==== Sys2Proof/Machine/Tables.lean ====
section
/-! DEFINITION. Phase tables as they lie in HBM: reading and checking one (R201-R203, R214). -/

namespace Sys2Proof.Machine

/-- Field of `n` bytes at offset `lo`. -/
def fieldAt (bs : List Byte) (lo n : Nat) : Nat := leNat ((bs.drop lo).take n)

/-- A phase descriptor from its 16 bytes (R202). -/
def PhaseD.read (b : List Byte) : PhaseD :=
  { first := fieldAt b 0 2, count := fieldAt b 2 2, barrier := fieldAt b 4 1 = 1, barrierId := fieldAt b 5 1, token := fieldAt b 6 2,
    tokenCount := fieldAt b 8 1, slot := fieldAt b 12 4 }

/-- Is a phase descriptor one that R202 allows in a table of `entries` entries? -/
def phaseOk (b : List Byte) (entries : Nat) : Bool :=
  let p := PhaseD.read b
  decide (p.first + p.count ≤ entries) && decide (p.count ≤ 16384) && decide (fieldAt b 4 1 ≤ 1) &&
  (if p.barrier then decide (0xF0 ≤ p.barrierId) && decide (p.slot = 0) else decide (p.barrierId = 0)) &&
  decide (p.token ≤ 4095) && decide (1 ≤ p.tokenCount) && decide (fieldAt b 9 3 = 0)

/-- Do the slot numbers of the LEA phases rise strictly? -/
def slotsRise : Option Nat → List PhaseD → Bool
  | _, [] => true
  | lo, p :: ps => if p.barrier then slotsRise lo ps
      else (match lo with | some l => decide (l < p.slot) | none => true) && slotsRise (some p.slot) ps

/-- An entry from its 16 bytes (R203). -/
def PEntry.read (b : List Byte) : PEntry :=
  { kind := fieldAt b 0 1 % 8, carry := bit (fieldAt b 0 1) 7, src := fieldAt b 1 1,
    drops := ((List.range 4).map fun k => fieldAt b (2 + k) 1).filter (· ≠ 0xFF), count := fieldAt b 6 1, sel := fieldAt b 7 1, port := fieldAt b 8 2 }

/-- Are drops distinct? -/
def distinct : List Nat → Bool
  | [] => true
  | d :: ds => !ds.contains d && distinct ds

/-- Is an entry one that R203 and R214 allow? Unused drops follow the used ones. -/
def entryOk (b : List Byte) : Bool :=
  let e := PEntry.read b
  let raw := (List.range 4).map fun k => fieldAt b (2 + k) 1
  decide (fieldAt b 0 1 / 8 % 16 = 0) && decide (1 ≤ e.kind) && decide (e.kind ≤ 3) && decide (e.src ≤ 33) && !e.drops.isEmpty &&
  decide (raw = e.drops ++ List.replicate (4 - e.drops.length) 0xFF) && (e.drops.all fun d => decide (d ≤ 33) && decide (d ≠ e.src)) &&
  distinct e.drops && decide (1 ≤ e.count) && decide (fieldAt b 10 6 = 0) &&
  (if e.kind = 3 then decide (e.count = 1) && decide (e.drops.length = 1) && decide (e.src ≤ 15) && (e.drops.all fun d => decide (d ≤ 15)) && decide (e.port ≤ 63)
    else decide (e.port = 0) && decide (e.sel / 32 = 0) && (decide (e.sel % 16 ≤ 7) || decide (e.sel % 16 = 15)))

/-- CARRY in order: each carried entry is identical, apart from CARRY, to the entry at the same place of the phase
before (R203). -/
def carryOk : List (List PEntry) → Bool
  | [] => true
  | [_] => true
  | a :: b :: rest =>
    (b.zipIdx.all fun e => !e.1.carry || (a[e.2]?).map (fun x => { x with carry := true }) = some e.1) && carryOk (b :: rest)

/-- Do the phase's entries keep within 65,536 bobbins, and each port within its members: 16, its usable ply-drop rings,
and WIDTH_CAP (R203, R214)? -/
def State.phaseFits (s : State) (es : List PEntry) : Bool :=
  decide ((es.map (·.count)).sum ≤ 65536) &&
  es.all fun e => decide (e.kind ≠ 3) ||
    decide (membersBefore es e ≤ min 16 (min s.plan.widthCap
      ((List.range 16).filter fun j => s.ringOk (ringNo (e.drops.headD 0) (2 * e.port) .ply j)).length))

/-- A phase table read from its bytes for the open job; none when a rule of R201 to R203 or R214 is broken. -/
def State.readTable (s : State) (bs : List Byte) : Option TableSt :=
  let np := fieldAt bs 6 2
  let ne := fieldAt bs 8 4
  let slot := fieldAt bs 12 4
  let pol := fieldAt bs 16 1
  if decide (bs.length ≥ 64) && decide (fieldAt bs 0 4 = 0x4A585054) && decide (fieldAt bs 4 2 = 1) && decide (1 ≤ np) && decide (np ≤ 1024) && decide (1 ≤ ne) &&
      decide (ne ≤ 16384) && decide (4000 ≤ slot) && decide (slot ≤ 1000000) && decide (pol < 4) && decide (fieldAt bs 18 42 = 0) &&
      decide (bs.length = 64 + 16 * np + 16 * ne) && decide (crc32 (bs.take 60 ++ [0, 0, 0, 0] ++ bs.drop 64) = fieldAt bs 60 4) then
    let pb := (List.range np).map fun i => (bs.drop (64 + 16 * i)).take 16
    let eb := (List.range ne).map fun i => (bs.drop (64 + 16 * np + 16 * i)).take 16
    let t : TableSt := { job := s.jobId, phases := pb.map PhaseD.read, entries := eb.map PEntry.read, slotNs := slot, cont := bit pol 0, loops := bit pol 1,
                         deferMax := if fieldAt bs 17 1 = 0 then 16 else fieldAt bs 17 1, resident := true, placed := [] }
    let per := t.phases.map (phaseEntries t)
    if (pb.all fun b => phaseOk b ne) && eb.all entryOk && slotsRise none t.phases && carryOk ([] :: per) && (per.all fun es => s.phaseFits es) then some t else none
  else none

/-- Largest number of rings that a table uses at one station and loop (R205; DEDUCED, log 44). -/
def mostRings (t : TableSt) : Nat :=
  let rs := (t.placed.flatMap ringsOf).eraseDups
  ((rs.map (· / 32)).eraseDups.map fun k => (rs.filter fun r => decide (r / 32 = k)).length).foldl max 0

end Sys2Proof.Machine
end

