-- ==== Sys2Proof/Machine/Creel.lean ====
section
/-! DEFINITION. The Creel: DEMAND bobbins, phase tables and their switches, fences and epochs by command (chapter 9). -/

namespace Sys2Proof.Machine

/-! ### DEMAND bobbins (R190, R192) -/

/-- What a DEMAND bobbin may not take: lines and rings of the STANDING and DEMAND bobbins granted, and of every loaded table
(R192). -/
def State.demandUse (s : State) : List Bob × RingUse :=
  let lit := s.creel.planBobs ++ s.grantedDemand.map (·.2) ++ s.creel.tableBobs
  (lit, { taken := ringsOf lit })

/-- A bobbin begins with a fresh sender, which carries non-IDLE frames from `at_`, and fresh receivers, which hunt (R171). -/
def State.freshBob (s : State) (b : BitVec 32 × Bob) (at_ : Lea) : State :=
  { s with skein := { s.skein with
      snd := s.skein.snd.set {} b.1.toNat { openAt := at_ }
      rcv := b.2.drops.foldl (fun m d => m.set {} (rcvIx b.1 d.1) {}) s.skein.rcv } }

/-- Index of a pair's next DEMAND bobbin (R193): the lowest of 4 to 19 not in use. -/
def State.demandIndex (s : State) (src dst : Nat) : Option Nat :=
  ((List.range 16).map (· + 4)).find? fun i => !s.creel.demand.any fun d => decide (d.src = src) && decide (d.dst = dst) && decide (d.index = i)

/-- DEMAND_REQUEST (R183, R190, R192): a backlog asks for a bobbin: at most one per ordered pair in any 10 µs, at most 16 per pair,
from rings that no loaded table holds; otherwise the request is dropped and counted. The rings granted begin to lock. -/
def execDemandRequest (src dst : Stn) (s : State) : Host.Outcome State Fault Refusal :=
  let key := 64 * src.val + dst.val
  let recent := s.creel.grants.any fun g => decide (g.1 = key) && decide (since g.2 s.time.lea < 10000)
  let open_ := decide (src ≠ dst) && !s.isFenced src && !s.isFenced dst && !recent
  let u := s.demandUse
  let b := if open_ then (s.demandIndex src dst).bind fun i => (s.place u.1 u.2 { kind := 1, src := src, drops := [dst.val], i := i, sel := 15 }).map fun b => (i, b) else none
  .next (match b with
    | some (i, b) =>
      let d : Demand := { src := src, dst := dst, index := i, bob := b, at_ := s.time.lea }
      let s1 := (s.forEach b.rings fun r s => s.assignRing r b.line).freshBob (packetId 1 src dst i, b) s.time.lea
      ({ s1 with creel := { s1.creel with
          demand := s1.creel.demand ++ [d]
          grants := (key, s.time.lea) :: s1.creel.grants.filter fun g => decide (g.1 ≠ key) } }).bump Ctr.creelGrant
    | none => s.bump Ctr.demandDeny)

/-- Ring `r` is LOCKED: a DEMAND bobbin that it was the last to wait for is lit, sends 64 IDLE frames, and its 100 µs begin (R171,
R190). -/
def State.lightDemand (s : State) (r : Nat) : State :=
  let new := s.creel.demand.filter fun d => d.bob.rings.contains r && s.lit d.bob
  let s1 := { s with creel := { s.creel with
    demand := s.creel.demand.map fun (d : Demand) => if d.bob.rings.contains r && s.lit d.bob then { d with at_ := s.time.lea } else d } }
  s1.forEach new fun d s => s.freshBob (packetId 1 d.src d.dst d.index, d.bob) (s.time.lea + 544)

/-- DEMAND_IDLE_RELEASE (R190): a DEMAND bobbin that is lit and has had no packet for 100 µs is released. -/
def execDemandIdleRelease (id : BitVec 32) (s : State) : Host.Outcome State Fault Refusal :=
  .next (match s.creel.demand.find? fun d => decide (packetId 1 d.src d.dst d.index = id) with
    | some d => s.when (s.lit d.bob && s.elapsed d.at_ 100000) fun s => s.withdraw [id]
    | none => s)

/-! ### The running table (R206, R207) -/

/-- Change the running table's state. -/
def State.modRun (s : State) (f : Run → Run) : State := { s with creel := { s.creel with run := s.creel.run.map f } }

/-- Bobbins of a placed phase with their identifiers. -/
def phaseBobs (h : Nat) (t : TableSt) (p : Nat) : List (BitVec 32 × Bob) :=
  (t.placed[p]?.getD []).zipIdx.map fun b => (phaseId h p b.2, b.1)

/-- Compute regions that take part in a phase: the source or a drop of an entry (R206). -/
def takingPart (t : TableSt) (p : Nat) : List Nat :=
  (((t.placed[p]?.getD []).flatMap fun b => b.src :: b.drops.map (·.1)).eraseDups.filter (· < 16))

/-- Blocks of the launch in region `r`: those with a schedule, and those that an entry of its image names. -/
def State.launchBlocks (s : State) (r : Nat) : List Nat :=
  let mask := match (s.launchOf r).bind fun l => s.image l.image with
    | some im => im.entries.foldl (fun m e => m ||| e.blockMask) 0
    | none => 0
  ((List.range 16).filter fun b => !(s.blk (16 * r + b)).sched.isEmpty || bit mask b).map (· + 16 * r)

/-- Is region `r` ready for phase `p`: every block of its launch has issued PHASE_READY (R123, R206)? Without a launch it awaits
nothing (DEDUCED, log 96). -/
def State.regionReady (s : State) (r p : Nat) : Bool :=
  (s.launchOf r).isNone || (s.launchBlocks r).all fun b => (s.blk b).phases.contains p

/-- Rings that a bobbin uses now: not those of a fenced drop, which is pruned from it (R209). -/
def State.ringsUsed (s : State) (b : Bob) : List Nat := Bob.rings { b with drops := b.drops.filter fun d => !s.isFenced d.1 }

/-- Can the bobbin be lit: its loop and rings are usable, its source and at least one drop are not fenced (R197,
R209)? -/
def State.lightable (s : State) (b : Bob) : Bool :=
  (s.ringsUsed b).all s.ringOk && !s.isFenced b.src && b.drops.any fun d => !s.isFenced d.1

/-- Is a ring tuned to a line and verified (R204)? -/
def State.tuned (s : State) (r line : Nat) : Bool := decide ((s.ring r).state = .locked) && decide (s.ringLine r = line)

/-- Are the rings of a phase tuned to their lines and verified (R204, R206)? -/
def State.ringsReady (s : State) (bs : List Bob) : Bool := (bs.filter s.lightable).all fun b => (s.ringsUsed b).all fun r => s.tuned r b.line

/-- `n` deferrals of the pending switch (R206): counted, and toward DEFER_MAX unless a pause of the light caused them
(R239). The DEFER_MAX-th in a row stamps PHASE_STALL. -/
def State.defer (s : State) (t : TableSt) (p n : Nat) (paused : Bool) : State :=
  match s.creel.run with
  | some r =>
    let now := if paused then r.deferNow else r.deferNow + n
    let mine (l : Launch) : Bool := l.running && (takingPart t p).any fun x => bit l.mask x
    let s1 := (s.bump Ctr.phaseDefer 0 n).modRun fun r => { r with d := r.d + n, defers := r.defers + n, deferNow := min now 255 }
    let s2 := { s1 with
      job := { s1.job with launches := s1.job.launches.map fun l => if mine l then { l with deferrals := min (l.deferrals + n) 255 } else l }
      light := { s1.light with defers := if paused then min (s1.light.defers + n) 255 else s1.light.defers } }
    s2.when (decide (r.deferNow < t.deferMax) && decide (now ≥ t.deferMax)) fun s => s.stamp 0x0404 r.handle (32 + s.spin.holder.val)
  | none => s

/-- PHASE_DECISION (R206): 1,000 ns before a LEA phase is due the Creel arms its switch when every region that takes
part is ready and every ring verified, and defers it one slot otherwise. -/
def execPhaseDecision (s : State) : Host.Outcome State Fault Refusal :=
  .next (match s.creel.run with
    | some r => match r.next, s.table r.handle with
      | some p, some t =>
        if r.armed || s.nextIsBarrier || before s.time.lea (dueAt t r p - 1000) then s
        else
          let late := (takingPart t p).filter fun x => !s.regionReady x p
          let s1 := { s with creel := { s.creel with lateStn := late.foldl min 63 } }
          if late.isEmpty && s.ringsReady (t.placed[p]?.getD []) then s1.modRun fun r => { r with armed := true }
          else s1.defer t p 1 false
      | _, _ => s
    | none => s)

/-- PHASE_BARRIER_TRIGGER (R206): the release of a module barrier reaches the Creel and starts the BARRIER switch that
names it. -/
def execPhaseBarrierTrigger (barrier : Nat) (s : State) : Host.Outcome State Fault Refusal :=
  .next (match s.creel.run with
    | some r => match r.next, s.table r.handle with
      | some p, some t =>
        let named := match t.phases[p]? with | some d => d.barrier && decide (d.barrierId = barrier) | none => false
        s.when (named && r.trigger.isNone) fun s => s.modRun fun r => { r with trigger := some s.time.lea }
      | _, _ => s
    | none => s)

/-- Descriptors that still run on bobbins which a switch or a stop takes out of service end with CREEL_CUT (R208); the
bobbins are counted released. -/
def State.retire (s : State) (ids : List (BitVec 32)) : State :=
  let s1 := s.cutRaw ids
  let groups := (s1.plyOn ids).filter fun p => ((s1.plyPort p.1).grp).isSome
  (s1.forEach groups fun p s => s.endGroup p.1 0x0405 p.2).bump Ctr.creelRelease 0 ids.length

/-- The table stops (R205): its bobbins leave service and every ply port it lit is IDLE (its rings stay tuned: DEDUCED, log
143). -/
def State.stopTable (s : State) : State :=
  let s1 := s.retire (s.liveBobs.map (·.1))
  let s2 := s1.forEach ((s1.ply.filter fun p => decide (p.2.state ≠ .idle)).map (·.1)) fun p s => s.idlePort p
  { s2 with creel := { s2.creel with run := none, retune := [] } }

/-- Is the pending switch at its point: a LEA one that is armed and due, a BARRIER one that is triggered; and is no
pause still open (R206, R239)? -/
def State.atSwitch (s : State) (t : TableSt) (r : Run) (p : Nat) : Bool :=
  (match r.pauseEnd with | some e => !before s.time.lea e | none => true) &&
  if s.nextIsBarrier then r.trigger.isSome else (r.armed || r.stopping) && !before s.time.lea (dueAt t r p)

/-- Retune, for a later phase, the rings that do not stand on its lines (R204 STREAMED). -/
def State.retuneFor (s : State) (bs : List Bob) : State :=
  let due := (bs.flatMap fun b => (b.rings.filter fun r => s.ringOk r && !s.tuned r b.line).map fun r => (r, b.line)).eraseDups
  let s1 := s.forEach due fun a s => s.assignRing a.1 a.2
  { s1 with creel := { s1.creel with retune := s1.creel.retune ++ (due.map (·.1)).filter fun r => !s1.creel.retune.contains r } }

/-- Light the ply ports of the incoming phase, whose bobbins are `bs` less those left out. A port whose members are all carried stays
as it is, under their new identifiers; one that lacks a member is FAULTED; ports that the phase does not light are IDLE (R208, R215,
R228, R229). -/
def State.lightPorts (s : State) (bs : List (BitVec 32 × Bob)) (out : List (BitVec 32)) (w : List (PlyIx × PlyMeas)) : State :=
  let ports := portsIn bs
  let s1 := s.forEach ((s.ply.filter fun p => decide (p.2.state ≠ .idle) && !ports.contains p.1).map (·.1)) fun p s => s.idlePort p
  s1.forEach ports fun p s =>
    let ms := membersIn bs p
    let carried := bs.all fun b => b.2.carry || !ms.any fun m => decide (m.bobbin = b.1)
    if carried && decide ((s.plyPort p).state ≠ .idle) then
      s.modPly p fun x => { x with members := x.members.zipWith (fun o m => { o with bobbin := m.bobbin }) ms }
    else if ms.any fun m => out.contains m.bobbin then (s.modPly p fun x => { x.park with members := ms }).faultPort p
    else s.lightPort p ms ((w.find? fun m => decide (m.1.val = p)).map (·.2))

/-- Live bobbins that are carried into phase `p`, with their identifiers there (R203). -/
def State.carriedIds (s : State) (t : TableSt) (r : Run) (p : Nat) : List (BitVec 32 × BitVec 32) :=
  match r.live with
  | some l => if l + 1 = p then s.liveBobs.filterMap fun b => (carriedTo t l (b.1.toNat % 65536)).map fun n => (b.1, phaseId r.handle p n) else []
  | none => []

/-- The sender and receivers of a carried bobbin go on under its new identifier (R203). -/
def State.renameBob (s : State) (old new : BitVec 32) (drops : List Nat) : State :=
  { s with skein := { s.skein with
      snd := (s.skein.snd.set {} new.toNat (s.skein.snd.get {} old.toNat)).set {} old.toNat {}
      rcv := drops.foldl (fun m d => (m.set {} (rcvIx new d) (m.get {} (rcvIx old d))).set {} (rcvIx old d) {}) s.skein.rcv } }

/-- Does a ring of an incoming bobbin fail the lock confirmation: it is not verified on the bobbin's line, or its report says so
(R207 step 6)? -/
def State.unconfirmed (s : State) (failed : List (BitVec 32 × Nat)) (b : BitVec 32 × Bob) : List Nat :=
  (s.ringsUsed b.2).filter fun k => !s.tuned k b.2.line || failed.any fun f => decide (f.1 = b.1) && decide (f.2 = k / 4096)

/-- A ring fails its lock confirmation: MUTED and counted (R207, R208). -/
def State.confirmFail (s : State) (k : Nat) : State :=
  ((s.when (decide ((s.ring k).state ≠ .muted)) fun s => s.bump Ctr.ringMute (k / 32 % 128)).modRing k fun x =>
    { x with state := .muted, passed := 0 }).bump Ctr.switchConfirmFail

/-- The drop ratios of a multicast bobbin are set: drop j of m takes 1 / (m - j) of the light that reaches it (R195). -/
def State.setRatios (s : State) (b : Bob) : State :=
  s.forEach ((b.rings.drop 1).zipIdx) fun k s => s.modRing k.1 fun x => { x with ratio := b.drops.length - k.2 }

/-- Bobbins of an incoming phase that are left out of it: those that cannot be lit, those that fail their confirmation, and carried
ones that are out of service (R203, R208, R209). -/
def State.leftOut (s : State) (failed : List (BitVec 32 × Nat)) (new : List (BitVec 32 × Bob)) (carried : List (BitVec 32)) : List (BitVec 32) :=
  (new.filter fun b => if b.2.carry then !carried.contains b.1 else !s.lightable b.2 || !(s.unconfirmed failed b).isEmpty).map (·.1)

/-- Steps 2 to 9 of a switch into phase `p` (R207, R208), `ns` long: `failed` are the bobbins and stations whose ring
misses its confirmation. -/
def State.switchTo (s : State) (t : TableSt) (r : Run) (p : Nat) (failed : List (BitVec 32 × Nat)) (ns : Nat) (w : List (PlyIx × PlyMeas)) : State :=
  let new := phaseBobs r.handle t p
  let carried := s.carriedIds t r p
  let out := s.leftOut failed new (carried.map (·.2))
  let fresh := new.filter fun b => !b.2.carry
  let rings := ((fresh.filter fun b => s.lightable b.2).flatMap (s.unconfirmed failed)).eraseDups
  let s1 := s.retire ((s.liveBobs.map (·.1)).filter fun i => !(carried.map (·.1)).contains i)
  let s2 := s1.forEach carried fun c s => s.renameBob c.1 c.2 (((new.find? fun b => decide (b.1 = c.2)).map fun b => b.2.drops.map (·.1)).getD [])
  let s3 := s2.forEach fresh fun b s => (s.setRatios b.2).freshBob b (s.time.lea + BitVec.ofNat 64 ns)
  let s4 := s3.forEach rings fun k s => s.confirmFail k
  let s5 := { s4 with creel := { s4.creel with
    out := (s4.creel.out.filter fun (i : BitVec 32) => decide (i.toNat / 2 ^ 30 ≠ 2)) ++ out
    pruned := s4.creel.fenced
    lastNs := min ns 65535
    maxNs := max s4.creel.maxNs (min ns 65535) } }
  let s6 := ((s5.modRun fun r => { r with live := some p, armed := false, trigger := none, deferNow := 0, waited := 0 }).bump Ctr.phaseSwitch).bump
    Ctr.creelGrant 0 (fresh.filter fun b => !out.contains b.1).length
  let s7 := s6.lightPorts new out w
  let parts := takingPart t p
  let s8 := s7.forEach (parts.flatMap s.launchBlocks) fun b s => s.modBlk b fun x => { x with phases := x.phases.filter (· ≠ p) }
  match t.phases[p]? with
  | some d => s8.when (decide (d.token ≠ 0)) fun s => s.forEach parts fun x s => s.signal x d.token d.tokenCount x
  | none => s8

/-- Number of slots that a LEA phase due at `at_` must wait so as not to be due less than 1,000 ns after `done`
(R206). -/
def slotsToWait (at_ done : Lea) (slot : Nat) : Nat :=
  if before at_ (done + 1000) then (since at_ (done + 1000) + slot - 1) / slot else 0

/-- The next switch becomes pending (R206): in LOOP mode a new run, with its own count of deferrals, begins after the last phase; a LEA phase that is due
too soon is deferred, and those deferrals do not count when the switch waited for a pause of the light (R239). -/
def State.pendNext (s : State) (t : TableSt) (p : Nat) (done : Lea) (paused : Bool) : State :=
  let n := t.phases.length
  let last := ((t.phases.filter fun d => !d.barrier).getLast?.map (·.slot)).getD 0
  let s1 := s.modRun fun r =>
    if p + 1 < n then { r with next := some (p + 1), pauseEnd := none }
    else if t.loops then { r with next := some 0, pauseEnd := none, base := r.base + BitVec.ofNat 64 ((last + 1 + r.d) * t.slotNs), d := 0, runs := (r.runs + 1) % 256, defers := 0 }
    else { r with next := none, pauseEnd := none }
  match s1.creel.run with
  | some r => match r.next with
    | some q =>
      let k := if s1.nextIsBarrier then 0 else slotsToWait (dueAt t r q) done t.slotNs
      s1.when (decide (k > 0)) fun s => s.defer t q k paused
    | none => s1
  | none => s1

/-- A BARRIER switch whose rings are not yet verified waits: one deferral for each slot that it has waited (R206). -/
def State.waitBarrier (s : State) : State :=
  match s.creel.run with
  | some r => match r.next, s.table r.handle, r.trigger with
    | some p, some t, some a =>
      let n := since a s.time.lea / t.slotNs
      s.when (s.nextIsBarrier && !r.stopping && !s.ringsReady (t.placed[p]?.getD []) && decide (n > r.waited)) fun s =>
        (s.defer t p (n - r.waited) r.pauseEnd.isSome).modRun fun r => { r with waited := n }
    | _, _, _ => s
  | none => s

/-- PHASE_SWITCH (R206-R208): the pending switch runs at its point, or the table stops there in its place. A BARRIER
switch waits for its rings. -/
def execPhaseSwitch (failed : List (BitVec 32 × Nat)) (ns : Nat) (ply : List (PlyIx × PlyMeas)) (s : State) : Host.Outcome State Fault Refusal :=
  .next (match s.creel.run with
    | some r => match r.next, s.table r.handle with
      | some p, some t =>
        if !s.atSwitch t r p then s
        else if r.stopping then
          (s.stopTable).endLops (fun l => decide (l.opcode = 0x0505)) .ok (result [(16, 2, r.live.getD 0)])
        else if s.nextIsBarrier && !s.ringsReady (t.placed[p]?.getD []) then s.waitBarrier
        else
          let s2 := s.switchTo t r p failed ns ply
          let s3 := s2.pendNext t p (s.time.lea + BitVec.ofNat 64 ns) r.pauseEnd.isSome
          s3.when (!t.resident) fun s => match s.creel.run with
            | some r => match r.next with | some q => s.retuneFor (t.placed[q]?.getD []) | none => s
            | none => s
      | _, _ => s
    | none => s)

/-! ### Commands (R205) -/

/-- CREEL_STATUS (R205). -/
def execCreelStatus (c : Cmd) (s : State) : Host.Outcome State Fault Refusal :=
  .next (selkan { op := 0x0501, inHeld := true } c {} (fun s =>
    s.done c .ok (result [(16, 4, s.creel.epoch.toNat), (20, 1, s.usableLoops), (21, 1, s.creel.table.length)])) s)

/-- Lowest free table handle. -/
def State.freeTable (s : State) : Option Nat := (List.range 16).find? fun h => (s.table h).isNone

/-- DEMAND bobbins that a table's placement displaces: one of their rings, or their line on an overlapping segment
(R190). -/
def State.displaced (s : State) (t : TableSt) : List (BitVec 32) :=
  let all := t.placed.flatten
  let rs := ringsOf all
  (s.grantedDemand.filter fun b => (b.2.rings.any fun r => rs.contains r) ||
    all.any fun x => decide (x.loop = b.2.loop) && decide (x.line = b.2.line) && overlap x.loop x.src x.span b.2.src b.2.span).map (·.1)

/-- TABLE_LOAD (R201-R205, R214): reads and places a table of the job. -/
def execTableLoad (c : Cmd) (s : State) : Host.Outcome State Fault Refusal :=
  let a := c.field s 16 8
  let n := c.field s 24 4
  let t := (readSpace s (c.port s) 1 a n).bind s.readTable
  let placed := t.bind fun t => s.placeTable ((s.freeTable).getD 16) t
  .next (selkan { op := 0x0502, named := [(16, 27)], long := true, needsJob := true } c
    { bad := if placed.isNone then some 16 else none, busy := if (s.freeTable).isNone then some 0 else none, reads := some (a, n) } (fun s =>
    match placed, s.freeTable with
    | some t, some h =>
      let s1 := s.withdraw (s.displaced t)
      ({ s1 with creel := { s1.creel with table := s1.creel.table.set none h (some t) } }).done c .ok
        (result [(16, 1, h), (17, 1, if t.resident then 1 else 2), (18, 2, mostRings t)])
    | _, _ => s.done c .badParam) s)

/-- Does a table run under this handle? -/
def State.runs (s : State) (h : Nat) : Bool := match s.creel.run with | some r => decide (r.handle = h) | none => false

/-- Does a table run, or start, under this handle? -/
def State.tableInUse (s : State) (h : Nat) : Bool := s.runs h || match s.creel.start with | some x => decide (x.handle = h) | none => false

/-- A table is unloaded: the Creel releases the rings that it held (R183, R205). -/
def State.unloadTable (s : State) (h : Nat) : State :=
  let rs := match s.table h with | some t => ringsOf t.placed.flatten | none => []
  ({ s with creel := { s.creel with table := s.creel.table.set none h none } }).restRings rs

/-- TABLE_UNLOAD (R205). A table that runs or starts is work in progress. -/
def execTableUnload (c : Cmd) (s : State) : Host.Outcome State Fault Refusal :=
  let h := c.field s 16 1
  .next (selkan { op := 0x0503, named := [(16, 16)], needsJob := true } c
    { bad := if (s.table h).isNone then some 16 else none, busy := if s.tableInUse h then some 0 else none } (fun s => (s.unloadTable h).done c .ok) s)

/-- Bobbins whose rings a TABLE_START verifies: those of every phase of a RESIDENT table, of phases 0 and 1 of a STREAMED one (R205). -/
def startBobs (h : Nat) (t : TableSt) : List (BitVec 32 × Bob) :=
  (if t.resident then List.range t.phases.length else List.range (min 2 t.phases.length)).flatMap fun p => phaseBobs h t p

/-- Train the ply ports of every phase of a RESIDENT table, one phase after another, as the readings say; their trims stay with them
while they are parked (R228). -/
def State.trainTable (s : State) (h : Nat) (t : TableSt) (ply : List (PlyIx × PlyMeas)) : State :=
  s.forEach (List.range t.phases.length) fun p s =>
    let bs := phaseBobs h t p
    s.forEach (portsIn bs) fun i s => match ply.find? fun m => decide (m.1.val = i) with
      | some m =>
        let s1 := (s.modPly i fun x => { x.park with state := .train, members := membersIn bs i }).trained i m.2
        s1.when (decide ((s1.plyPort i).state = .ready)) fun s => s.idlePort i
      | none => s

/-- A TABLE_START under way completes when every usable ring that it tunes is LOCKED on its line (R205): ports train, the first phase
is pending, and the result names the Lea time. -/
def State.tryStart (s : State) : State :=
  match s.creel.start with
  | some x => match s.table x.handle with
    | some t =>
      let rings := (startBobs x.handle t).flatMap fun b => b.2.rings.map fun r => (r, b.2.line)
      s.when (rings.all fun a => !s.ringOk a.1 || s.tuned a.1 a.2) fun s =>
        let s1 := s.when t.resident fun s => s.trainTable x.handle t x.ply
        ({ s1 with creel := { s1.creel with run := some { handle := x.handle, base := x.base }, start := none } }).endLops
          (fun l => decide (l.opcode = 0x0504)) .ok (result [(16, 8, s.time.lea.toNat)])
    | none => s
  | none => s

/-- TABLE_START (R183, R204, R205, R228): the Creel assigns the table's rings their lines; the command completes when they are
verified. -/
def execTableStart (c : Cmd) (ply : List (PlyIx × PlyMeas)) (s : State) : Host.Outcome State Fault Refusal :=
  let h := c.field s 16 1
  .next (selkan { op := 0x0504, named := [(16, 16), (24, 31)], long := true, needsJob := true } c
    { bad := if (s.table h).isNone then some 16 else none, busy := if s.creel.run.isSome || s.creel.start.isSome then some 0 else none } (fun s =>
    match s.table h with
    | some t =>
      let s1 := s.forEach ((startBobs h t).flatMap fun b => (b.2.rings.filter s.ringOk).map fun r => (r, b.2.line)) fun a s => s.assignRing a.1 a.2
      ({ s1 with creel := { s1.creel with start := some { handle := h, base := BitVec.ofNat 64 (c.field s 24 8), ply := ply } } }).tryStart
    | none => s.done c .badParam) s)

/-- TABLE_STOP (R205): at once with FORCE, or when no switch is to come; otherwise at the next switch point, where the
command completes. -/
def execTableStop (c : Cmd) (s : State) : Host.Outcome State Fault Refusal :=
  let h := c.field s 16 1
  let force := c.field s 17 1
  .next (selkan { op := 0x0505, named := [(16, 17)], long := true, needsJob := true } c
    { bad := if (s.table h).isNone then some 16 else if force > 1 then some 17 else none, state := !s.runs h } (fun s =>
    let phase := (s.creel.run.bind (·.live)).getD 0
    if force = 1 ∨ (s.creel.run.bind (·.next)).isNone then (s.stopTable).done c .ok (result [(16, 2, phase)])
    else s.modRun fun r => { r with stopping := true }) s)

/-- First bad byte of a station mask: bits [33:0] name stations. -/
def maskBad (m : Nat) : Option Nat := if m < 2 ^ 34 then none else ((List.range 30).find? fun k => bit m (34 + k)).map fun k => 16 + (34 + k) / 8

/-- FENCE (R205, R209). -/
def execFence (c : Cmd) (s : State) : Host.Outcome State Fault Refusal :=
  let m := c.field s 16 8
  .next (selkan { op := 0x0506, named := [(16, 23)], needsJob := true } c { bad := maskBad m } (fun s =>
    let s1 := s.forEach (onesOf 34 m) fun st s => s.fence st
    s1.done c .ok (result [(16, 8, s1.creel.fenced)])) s)

/-- UNFENCE (R205, R209): a station whose region is in RESET or PARKED stays fenced. -/
def execUnfence (c : Cmd) (s : State) : Host.Outcome State Fault Refusal :=
  let m := c.field s 16 8
  .next (selkan { op := 0x0507, named := [(16, 23)], needsJob := true } c { bad := maskBad m } (fun s =>
    let stays (st : Nat) : Bool := decide (st < 16) && ((s.reg st).state = .reset || (s.reg st).state = .parked)
    (s.forEach ((onesOf 34 m).filter fun st => !stays st) fun st s => s.unfence st).done c .ok) s)

/-- LOOP_WITHDRAW (R188, R205): with an open job; a loop that is withdrawn already commits nothing. -/
def execLoopWithdraw (c : Cmd) (s : State) : Host.Outcome State Fault Refusal :=
  let n := c.field s 16 1
  .next (selkan { op := 0x0508, named := [(16, 16)], needsJob := true } c { bad := if n ≥ 128 then some 16 else none } (fun s =>
    let s1 := s.withdrawLoops [n] 4
    s1.done c .ok (result [(16, 4, s1.creel.epoch.toNat)])) s)

end Sys2Proof.Machine
end

