-- ==== Sys2Proof/Machine/Timing.lean ====
section
/-! DEFINITION. Beats, droop, crossings, the reference and Lea (chapter 7). -/

namespace Sys2Proof.Machine

/-- Beat length of a region in periods: the longest of droop, module throttle and thermal throttle, and what the
completion gate adds (R145, R390). -/
def State.beatLen (s : State) (r : Nat) : Nat :=
  let module_ := [1, 2, 3, 4, 4].getD s.pow.level 4
  max (s.reg r).droopLen (max module_ ((s.die (r / 2)).level + 1)) + (s.reg r).gate

/-- Beat length the droop detector sets (R148). -/
def droopBeat (mv : Nat) : Nat := if mv < 25 then 1 else if mv < 50 then 2 else if mv < 75 then 3 else 4

/-- DROOP_CHANGE (R148): the droop below set-point is `mv`: from 25 mV on beats take the length of its step at once; below that
their length stays until DROOP_RELEASE. -/
def execDroopChange (r : Region) (mv : Nat) (s : State) : Host.Outcome State Fault Refusal :=
  .next (s.modReg r fun x =>
    { x with
      droopMv := mv
      droopLen := if mv < 25 then x.droopLen else droopBeat mv
      deepest := max x.deepest (min mv 0xFF) })

/-- DROOP_RELEASE (R148): after 8 consecutive periods with the droop below 20 mV, beats last 1 period again. -/
def execDroopRelease (r : Region) (s : State) : Host.Outcome State Fault Refusal :=
  .next (s.when (decide ((s.reg r).droopMv < 20)) fun s => s.modReg r fun x => { x with droopLen := 1 })

/-- GATE_HOLD (R145): a late stage holds the beat edge; the beat stretches by whole periods. -/
def execGateHold (r : Region) (periods ps : Nat) (s : State) : Host.Outcome State Fault Refusal :=
  .next ((s.bump Ctr.gateHold r).modReg r fun x =>
    { x with
      gate := x.gate + periods, hsWorst := max x.hsWorst ps, gateHolds := satAdd 0xFFFF x.gateHolds 1
      hsRecent := (x.hsRecent.filter fun e => decide (since e.1 s.time.lea < 1000)) ++ [(s.time.lea, ps)] })

/-- Slowest stage completion that the last 1 us of Lea time saw (R161 NOW_PS). -/
def State.hsNow (s : State) (r : Nat) : Nat :=
  (((s.reg r).hsRecent.filter fun e => decide (since e.1 s.time.lea < 1000)).map (·.2)).foldl max 0

/-- The crossing ends that share a crossing: both regions of a seam (R150). -/
def xingEnds : Crossing → List Nat
  | .seam d => [2 * d.val, 2 * d.val + 1]
  | .stn r => [r.val]

/-- A crossing end of region `r`. -/
def State.xing (s : State) (x : Crossing) (r : Nat) : Xing :=
  match x with
  | .seam _ => (s.reg r).seam
  | .stn _ => (s.reg r).stn

/-- Change every end of a crossing. -/
def State.modXing (s : State) (x : Crossing) (f : Xing → Xing) : State :=
  s.forEach (xingEnds x) fun r s => s.modReg r fun y =>
    match x with
    | .seam _ => { y with seam := f y.seam }
    | .stn _ => { y with stn := f y.stn }

/-- The region that receives a burst over a crossing: of a seam the second half when `far`, the first otherwise. -/
def xingReceiver (x : Crossing) (far : Bool) : Nat :=
  match x with
  | .seam d => 2 * d.val + far.toNat
  | .stn r => r.val

/-- PHASE_CHECK (R153): the net slip of a Forwarded burst is `m.slip`. Outside -2 to +2 credits are withheld, DET_OK
clears, CROSS_SLIP of the receiver advances and its event fires; inside, only the largest magnitude is kept. -/
def execPhaseCheck (x : Crossing) (m : PhaseRead) (s : State) : Host.Outcome State Fault Refusal :=
  let r := xingReceiver x m.far
  let s1 := s.modXing x fun y => { y with slipMax := max y.slipMax (min m.slip.natAbs 0xFF) }
  .next (if (s.xing x r).mode != 0 then s
    else if m.slip.natAbs ≤ 2 then s1
    else ((s1.modXing x fun y => { y with hold := true, detOk := false }).bump Ctr.crossSlip r).fire (16 * r + 5) 0 r m.slip.natAbs)

/-- CROSSING_RECENTRE (R153): the buffer has been empty for a beat; the burst ends and withheld credits are
released. -/
def execCrossingRecentre (x : Crossing) (s : State) : Host.Outcome State Fault Refusal :=
  .next (s.modXing x fun y => { y with hold := false })

/-- Calibrate a crossing end from the attempts' round trips (R151): the first that is not voided, of at most
three; Queued with CAL_FAILS 3 when none is. -/
def Xing.calibrate (x : Xing) (tries : List (Option Nat)) : Xing :=
  let ts := tries.take 3
  match ts.find? (·.isSome) with
  | some (some rt) =>
    { x with rt := rt, d := (rt + 1) / 2 + 2, calFails := (ts.takeWhile (·.isNone)).length, detOk := decide (x.cfg = 0), mode := x.cfg, hold := false }
  | _ => { x with calFails := 3, detOk := false, mode := 1, hold := false }

/-- Set-point difference of the two halves of compute die `d`, mV. -/
def State.railGap (s : State) (d : Nat) : Nat :=
  let a := s.cal.railTarget.get 750 (2 * d)
  let b := s.cal.railTarget.get 750 (2 * d + 1)
  max a b - min a b

/-- Have the rails of both halves of a compute die stood at their set-points, these within 25 mV of each other, for 10 us (R155)? -/
def State.railsSettled (s : State) (d : Nat) : Bool :=
  decide (s.railGap d ≤ 25) && ([2 * d, 2 * d + 1].all fun r => decide (s.cal.railNow.get 750 r = s.cal.railTarget.get 750 r)) &&
  s.elapsed (s.cal.rampAt.get 0 d) 10000

/-- Recalibrate a crossing end outside a region reset: its configured mode is back; DET_OK and CAL_FAILS are the last reset's
(R153, R155, R161). -/
def Xing.recalibrate (x : Xing) (rt : Nat) : Xing := { x with rt := rt, d := (rt + 1) / 2 + 2, mode := x.cfg, hold := false }

/-- SEAM_MODE_SWITCH (R151, R155): without a round trip the seam goes to Queued, as it does before a set-point difference above
25 mV; with one it returns to its configured mode, once the rails have settled, neither half is PARKED, and the calibration of the
last reset has not failed three times. -/
def execSeamModeSwitch (d : Fin 8) (rt : Option Nat) (s : State) : Host.Outcome State Fault Refusal :=
  let ends := xingEnds (.seam d)
  let ev (s : State) : State := s.forEach ends fun r s => s.fire (16 * r + 5) 0 r (s.reg r).seam.mode
  .next (if ends.any fun r => decide ((s.reg r).state = .parked) then s
    else match rt with
      | none => ev (s.modXing (.seam d) fun y => { y with mode := 1, detOk := false })
      | some rt => s.when (s.railsSettled d && decide ((s.reg (2 * d.val)).seam.calFails < 3)) fun s => ev (s.modXing (.seam d) (·.recalibrate rt)))

/-- Are launches refused for the reference: it was lost, and has not been back for 100 ms with every PLL relocked (R156)? -/
def State.refOut (s : State) : Bool := s.time.refLost && !(s.time.refPresent && s.elapsed s.time.refAt 100000000 && decide (s.time.pllLock = 0x7FFFF))

/-- REF_ABSENT (R156): no reference edge for 100 ns: REF_PRESENT clears, every PLL is in holdover, an event. -/
def execRefAbsent (s : State) : Host.Outcome State Fault Refusal :=
  .next (s.when s.time.refPresent fun s =>
    ({ s with time := { s.time with refPresent := false, holdover := true, refLost := s.refOut } }).fire 0x311 0 0 s.time.lea.toNat)

/-- REF_RETURN (R156): the reference is back: every PLL relocks, and a refusal of launches ends 100 ms from now. -/
def execRefReturn (s : State) : Host.Outcome State Fault Refusal :=
  .next (s.when (!s.time.refPresent) fun s =>
    { s with time := { s.time with refPresent := true, holdover := false, pllLock := 0x7FFFF, refAt := s.time.lea, relocks := [] } })

/-- REF_LOST (R156): the reference is still absent after 1 ms: the job ends with REF_LOST, and launches complete
with BAD_STATE until it has been back for 100 ms. -/
def execRefLost (s : State) : Host.Outcome State Fault Refusal :=
  .next (s.when (!s.time.refPresent && s.time.holdover) fun s =>
    ({ s with time := { s.time with refLost := true } }).stamp 0x0306 0 32)

/-- Largest difference between the copies of Lea, of which X0's is 0 (R162 SKEW_NOW). -/
def skewSpread (skews : List Int) : Nat := (skews.foldl max 0 - skews.foldl min 0).toNat

/-- The copies as found, the copies more than 4 ns off, and SYNCED by the bounds between any two regions and between the two
of a die (R158). -/
def State.compareLea (s : State) (skews : List Int) (halves : List Nat) : State :=
  let now := min (skewSpread skews) 0xFF
  let far := (skews.filter fun k => decide (k.natAbs > 4)).length
  let s1 := { s with time := { s.time with
    copies := Tab.setAll [] 0 0 skews, skewNow := now, skewMax := max s.time.skewMax now
    synced := decide (skewSpread skews ≤ 4) && halves.all fun h => decide (h ≤ 2) } }
  s1.when (decide (far > 0)) fun s => (s.bump Ctr.leaSkew 0 far).fire 0x311 1 0 (skews.foldl (fun m k => max m k.natAbs) 0)

/-- LEA_COMPARE (R158): every 1 ms X0 compares the copies: `m.skews` are the differences of the dies' copies from its own in ns,
`m.halves` those between the two regions of each compute die. A copy that differs is brought back as time goes on; one more than
4 ns off advances LEA_SKEW and fires. -/
def execLeaCompare (m : LeaRead) (s : State) : Host.Outcome State Fault Refusal :=
  .next (s.compareLea m.skews m.halves)

end Sys2Proof.Machine
end

