-- ==== Sys2Proof/Machine/Held.lean ====
section
/-! DEFINITION. HELD (R431): entering it, and the Carding result record that its record quotes (R429, R430). -/

namespace Sys2Proof.Machine

/-! ### The Carding result record (R429, R430) -/

/-- A result entry. -/
def CardEntry.bytes (e : CardEntry) : List Byte :=
  leBytes 1 e.unit_ ++ leBytes 1 (e.action % 128 + if e.pending then 128 else 0) ++ leBytes 2 0 ++ leBytes 4 e.index ++ leBytes 8 e.address ++
    leBytes 2 e.bit ++ leBytes 2 e.spareLeft ++ leBytes 8 e.stamp.toNat ++ leBytes 4 0

/-- The header but for its CHECK. -/
def Card.head (k : Card) : List Byte :=
  leBytes 4 0x4A584352 ++ leBytes 2 1 ++ leBytes 1 k.full.toNat ++ leBytes 1 k.bringup.toNat ++ leBytes 4 k.entries.length ++ leBytes 4 k.found ++
    leBytes 2 k.mask ++ leBytes 1 k.outcome ++ leBytes 1 k.stopPair ++ leBytes 4 0 ++ leBytes 8 k.start.toNat ++ leBytes 8 k.end_.toNat ++ leBytes 20 0

/-- The record, with its CHECK over the whole of it. -/
def Card.record (k : Card) : List Byte :=
  let es := k.entries.flatMap (·.bytes)
  k.head ++ leBytes 4 (crc32 (k.head ++ leBytes 4 0 ++ es)) ++ es

/-! ### Entering HELD -/

/-- CONTEXT of a HELD record (R456). -/
def State.heldContext (s : State) : List Byte :=
  leBytes 8 s.moduleState.toNat ++ if s.card.present then s.card.record.take 16 else leBytes 16 0

/-- A cage whose laser is disabled over its management bus is READY where it was lit. -/
def CageSt.disable (x : CageSt) : CageSt := if x.state = .lit then { x with state := .ready } else x

/-- Everything but the I/O dies loses its power (R431): regions, blocks, cells, threads, stacks, Skein, Creel, ply ports
and light. A FAILED stack stays FAILED (R262). -/
def State.unpower (s : State) : State :=
  let s1 := s.forEach (List.range 16) fun k s => s.setStk k fun x => { state := if x.state = .failed then .failed else .off }
  let s2 := s1.forEach (List.range 10) fun k s => s.modCage k CageSt.disable
  let s3 := s2.forEach (List.range 16) fun r s =>
    (s.modReg r fun x => { state := .off, entropyAlt := x.entropyAlt, entropyDead := x.entropyDead, job := x.job }).when
      (decide ((s.reg r).state ≠ .off)) fun s => s.fire (16 * r + 7) 0 r
  { s3 with
    pow := { s3.pow with die := s3.pow.die.filter fun e => decide (16 ≤ e.1) && decide (e.1 < 18) }
    block := []
    cell := []
    ply := []
    skein := { s3.skein with state := 0, locked := false, loop := [], ring := [], rcv := [], snd := [] }
    creel := { s3.creel with mapped := false, plan := [], out := [], demand := [], table := [], run := none, start := none, requal := none, retune := [], pruned := 0 }
    light := { s3.light with ready := false, group := [], loop := [] }
    memory := { s3.memory with journal := [], hot := [], recent := [], rcache := [], writeback := [], sramWriteback := [] } }

/-- The job ends with a job fault (R24). -/
def State.heldFault (s : State) (code index : Nat) : State :=
  s.when s.jobOpen fun s => s.stamp code index (32 + s.spin.holder.val)

/-- The module-reset command in hand, if any, ends with a status (R341). -/
def State.endReset (s : State) (st : Status) (res : BitVec 128) : State :=
  match s.mod.resetCmd with
  | some (cq, seq) => { s.post cq seq st s.time.lea res with mod := { s.mod with resetCmd := none } }
  | none => s

/-- Enter HELD (R431, R458): the job ends, every command in progress completes with HELD (R342, R344), waiting launches
too (R108), the HELD record is made with the code, the event fires, and all but the I/O dies lose their power. A module
that is HELD keeps the first cause. -/
def State.enterHeld (s : State) (code : Nat) (index : Nat := 0) : State :=
  if s.mod.state = .held then s
  else
    let s1 := s.heldFault code index
    let s2 := { s1 with mod := { s1.mod with state := .held, heldCause := code, bringupDue := false, boot := none, stacksUp := false } }
    let s3 := (s2.endLops (fun _ => true) .held (heldResult s2)).endReset .held (heldResult s2)
    let s4 := s3.makeRec { kind := 4, job := s3.jobId, stamp := s3.time.lea, cause := code, index := index, context := s3.heldContext }
    let s5 := (s4.fire 0x321 code index).unpower
    { s5 with
      job := { s5.job with launches := [] }
      card := { s5.card with todo := [] }
      reel := { s5.reel with inval := none, drain := none, parked := [], mcLines := [] } }

end Sys2Proof.Machine
end

