-- ==== Sys2Proof/Machine/Hbm.lean ====
section
/-! DEFINITION. The memory-side dies: reading a protected line, hot lines, atomics and the reply journal, scrub, refresh
and throttling (chapter 12). -/

namespace Sys2Proof.Machine

/-! ### Reading a protected line (R248, R250) -/

/-- What the check of a line says. -/
inductive LineCheck where
  | clean | corrected | found | poisoned
deriving DecidableEq, Repr

/-- Is the line unreadable? -/
def LineCheck.bad : LineCheck → Bool
  | .found | .poisoned => true
  | _ => false

/-- A corrected line: counted, and due for its write-back. -/
def State.lineCe (s : State) (l : Nat) : State :=
  let k := stackOf (128 * l)
  let s1 := (s.bump Ctr.hbmCe k).modStk k fun x => { x with ceSeen := true }
  { s1 with memory := { s1.memory with writeback := s1.memory.writeback.filter (· ≠ l) ++ [l] } }

/-- A line found uncorrectable is poisoned and recorded. -/
def State.lineBad (s : State) (l : Nat) : State :=
  let s1 := { s.modStk (stackOf (128 * l)) fun x => { x with lastUe := some (localLine (128 * l)) } with
    mems := { s.mems with hbmPoison := s.mems.hbmPoison.set false l true } }
  s1.noteLines (stackOf (128 * l))

/-- 128 bytes that nothing constrains (DESIGN CHOICE, log 1). -/
def State.freeLine (s : State) : List Byte := (List.range 16).flatMap fun i => leBytes 8 (Config.word (s.free + 1 + i)).toNat

/-- The line now holds bytes that nothing constrains. -/
def State.spoil (s : State) (l : Nat) : State :=
  { s with mems := { s.mems with hbm := s.mems.hbm.write (128 * l) s.freeLine }, free := s.free + 17 }

/-- The home die checks line `l`, found with `errs` erroneous bytes. For 6 or more the manual guarantees nothing: found
uncorrectable, corrected to a wrong value, or accepted as sound, by a free value. -/
def State.probe (s : State) (l errs : Nat) : LineCheck × State :=
  if s.mems.hbmPoison.get false l then (.poisoned, s)
  else if errs = 0 then (.clean, s)
  else if errs ≤ 3 then (.corrected, s.lineCe l)
  else if errs ≤ 5 then (.found, s.lineBad l)
  else match (Config.word s.free).toNat % 3 with
    | 0 => (.found, s.fresh.lineBad l)
    | 1 => (.corrected, (s.spoil l).lineCe l)
    | _ => (.clean, s.spoil l)

/-- Counting and causes of a check, by who reads (R250). -/
def State.countCheck (s : State) (who : HbmWho) (f : LineCheck) (l : Nat) (g : Cause → Cause := id) : State :=
  match who, f with
  | .unit, .found | .unit, .poisoned => s.hbmConsume (128 * l) g
  | .spindle, .found | .spindle, .poisoned | .host, .found => s.hbmSpindleRead (128 * l)
  | _, _ => s

/-! ### Hot lines (R257, R280) -/

/-- Die that serves a line. -/
def dieOfLine (l : Nat) : Nat := dieOfStack (stackOf (128 * l))

/-- The later of two Lea times. -/
def later (a b : Lea) : Lea := if before a b then b else a

/-- The hot-line slot of a line. -/
def State.hotSlot (s : State) (l : Nat) : Option HotSlot := s.memory.hot.find? fun h => decide (h.line = l)

/-- Hot-line slots taken at a die. -/
def State.hotUsed (s : State) (die : Nat) : Nat := (s.memory.hot.filter fun h => decide (dieOfLine h.line = die)).length

/-- Is another request to the line in progress: it arrived within the last 8 ns (DEDUCED, log 40)? -/
def State.lineInProgress (s : State) (l : Nat) : Bool := s.memory.recent.any fun r => decide (r.1 = l) && !s.elapsed r.2 8

/-- Does a request to the line need a slot that its die does not have? -/
def State.hotFull (s : State) (l : Nat) : Bool :=
  (s.hotSlot l).isNone && s.lineInProgress l && decide (s.hotUsed (dieOfLine l) ≥ 4096)

/-- A slot with one more request queued: served 8 ns after those before it. -/
def HotSlot.join (h : HotSlot) (now : Lea) (reel : Bool) : HotSlot :=
  let t := later h.served now + 8
  { h with served := t, tFree := later h.tFree now + 8, queue := (h.queue.filter fun q => before now q) ++ if reel then [t] else [] }

/-- A request to a line is admitted: it joins the line's slot, or takes one when another request is in progress. -/
def State.admitLine (s : State) (l : Nat) (reel : Bool) : State :=
  let now := s.time.lea
  let hot := match s.hotSlot l with
    | some _ => s.memory.hot.map fun h => if h.line = l then h.join now reel else h
    | none => if s.lineInProgress l then s.memory.hot ++ [(⟨l, now + 8, now, []⟩ : HotSlot).join now reel] else s.memory.hot
  let recent := (s.memory.recent.filter fun r => !s.elapsed r.2 8 && decide (r.1 ≠ l)) ++ [(l, now)]
  { s with memory := { s.memory with hot := hot, recent := recent } }

/-- HOT_SLOT_FREE (R257, R280): the slot of a line is freed 1 µs after its queue has been served, unless T_free lies
ahead. -/
def execHotSlotFree (line : Nat) (s : State) : Host.Outcome State Fault Refusal :=
  .next (match s.hotSlot line with
    | some h =>
      if !before s.time.lea h.served && s.elapsed h.served 1000 && !before s.time.lea h.tFree then
        { s with memory := { s.memory with hot := s.memory.hot.filter fun x => !decide (x.line = line) } }
      else s
    | none => s)

/-! ### Reads, writes and atomics of module units -/

/-- Does a stack serve requests (R262)? -/
def State.serves (s : State) (k : Nat) : Bool := (s.stk k).state = .ready || (s.stk k).state = .throttled

/-- A command reached the stack without a parity error (R247). -/
def State.linkGood (s : State) (k : Nat) : State := s.modStk k fun x => { x with linkErrs := 0 }

/-- The reply to a tracker tag leaves the home die over the Skein and arrives (R75, R176). -/
def State.answer (s : State) (pa : Nat) (tag : BitVec 16) (gen : BitVec 10) (status : Nat) (poison : Bool) (data : List Byte) : State :=
  let type_ := if (s.slot tag.toNat).kind = .atomic then 5 else 1
  (s.send (replyPkt (16 + stackOf pa) (tag.toNat / 256 / 16) type_ tag gen status poison data)).reply tag gen status poison data

/-- What a module unit's request meets at an address before its line is read: beyond the map BAD_ADDR, a FAILED stack
NOT_PRESENT (R251, R262); no answer from a stack that does not serve. -/
inductive AtHome where
  | refused (status : Nat)
  | silent
  | serve
deriving DecidableEq, Repr

/-- Where a request to an address stands. -/
def State.atHome (s : State) (pa : Nat) : AtHome :=
  if pa ≥ hbmBytes then .refused 2
  else if (s.stk (stackOf pa)).state = .failed then .refused 1
  else if s.serves (stackOf pa) then .serve
  else .silent

/-- The line of an address, as its check leaves it, for a descriptor's request that has moved it (DEDUCED, log 42): its bytes in
the destination are those read, poisoned with the line (R92, R250). -/
def State.recopy (s : State) (pa tag : Nat) (gen : BitVec 10) : State :=
  let r := s.slot tag
  let l := pa / 128
  let lo := max r.offset (128 * l)
  let hi := min (r.offset + r.bytes) (128 * l + 128)
  s.when (decide (r.kind = .desc) && r.gen = gen && r.fromHbm && decide (lo < hi)) fun s =>
    s.store r.dstSpace (r.dst + (lo - r.offset)) (s.mems.hbm.read lo (hi - lo)) (s.mems.hbmPoison.get false l)

/-- HBM_READ (R248-R250): the line of an address, read for a unit with its reply, for a host, or for a command. A
module-local request waits while the line needs a hot-line slot and none is free. -/
def execHbmRead (pa errs : Nat) (tag : BitVec 16) (gen : BitVec 10) (who : HbmWho) (s : State) : Host.Outcome State Fault Refusal :=
  let l := pa / 128
  .next (match s.atHome pa with
    | .refused st => s.when (decide (who = .unit)) fun s => s.answer pa tag gen st false []
    | .silent => s
    | .serve =>
      if s.hotFull l then s
      else
        let p := ((s.linkGood (stackOf pa)).admitLine l false).probe l errs
        let s1 := p.2.countCheck who p.1 l (s.slotBy tag.toNat)
        let n := (s.slot tag.toNat).bytes
        s1.when (decide (who = .unit)) fun s =>
          let bad := s.mems.hbmBad pa n
          (s.recopy pa tag.toNat gen).answer pa tag gen (if bad then 3 else 0) bad (s.mems.hbm.read pa n))

/-- HBM_WRITE (R249, R250): a write enters its line's arrival order. A partial write reads the line, and leaves one that
it finds bad poisoned and unchanged. -/
def execHbmWrite (pa : Nat) (data : List Byte) (errs : Nat) (poison : Bool) (s : State) : Host.Outcome State Fault Refusal :=
  let l := pa / 128
  .next (match s.atHome pa with
    | .serve =>
      if s.hotFull l || decide (pa + data.length > hbmBytes) then s
      else
        let s1 := (s.linkGood (stackOf pa)).admitLine l false
        if pa % 128 = 0 ∧ data.length ≥ 128 then s1.storeHbm pa data poison
        else
          let p := s1.probe l errs
          if p.1 = .found then p.2.hbmConsume (128 * l) else p.2.storeHbm pa data poison
    | _ => s)

/-- Keep time of a journal entry: 10 µs in the local partition, 250 µs in the Reel partition (R256). -/
def JEntry.keep (e : JEntry) : Nat := if e.local_ then 10000 else 250000

/-- Is a journal entry live? -/
def State.jLive (s : State) (e : JEntry) : Bool := !s.elapsed e.at_ e.keep

/-- Live entry of a key in a partition of a die. -/
def State.journaled (s : State) (die : Nat) (lcl : Bool) (node tag : BitVec 16) (epoch : Nat) : Option JEntry :=
  s.memory.journal.find? fun e => s.jLive e && decide (e.die = die) && decide (e.local_ = lcl) && decide (e.node = node) && decide (e.tag = tag) &&
    decide (e.epoch = epoch)

/-- Live entries of a partition of a die. -/
def State.jUsed (s : State) (die : Nat) (lcl : Bool) : Nat :=
  (s.memory.journal.filter fun e => s.jLive e && decide (e.die = die) && decide (e.local_ = lcl)).length

/-- Journal a reply. -/
def State.journal (s : State) (e : JEntry) : State := { s with memory := { s.memory with journal := s.memory.journal ++ [e] } }

/-- Apply an atomic of `size` bytes at an address, reading and writing its line as one step: the old value (R254). -/
def State.atomicAt (s : State) (pa aop size : Nat) (op cmp : BitVec 128) : BitVec 128 × State :=
  let old := BitVec.ofNat 128 (leNat (s.mems.hbm.read pa size))
  (old, s.storeHbm pa (leBytes size (applyAop aop old op cmp).toNat))

/-- HBM_ATOMIC (R254, R256): a live journal entry answers; otherwise a code, size or alignment that the table does not
allow is answered BAD_ADDR, a bad line UE, and the atomic is applied and journaled. It waits while the local partition
is full. -/
def execHbmAtomic (pa : Nat) (aop : BitVec 4) (size : Nat) (opnd cmp : BitVec 128) (tag : BitVec 16) (gen : BitVec 10) (errs : Nat)
    (s : State) : Host.Outcome State Fault Refusal :=
  let l := pa / 128
  let die := dieOfLine l
  .next (match s.atHome pa with
    | .refused st => s.answer pa tag gen st false []
    | .silent => s
    | .serve =>
      match s.journaled die true s.node tag gen.toNat with
      | some e => s.answer pa tag gen 0 false (leBytes 16 e.reply.toNat)
      | none =>
        if !aopAllowed aop.toNat size || decide (pa % size ≠ 0) then s.answer pa tag gen 2 false []
        else if decide (s.jUsed die true ≥ 32768) || s.hotFull l then s
        else
          let p := ((s.linkGood (stackOf pa)).admitLine l false).probe l errs
          if p.1.bad then (p.2.hbmConsume (128 * l) (s.slotBy tag.toNat)).answer pa tag gen 3 true []
          else
            let a := p.2.atomicAt pa aop.toNat size opnd cmp
            (a.2.journal ⟨die, true, s.node, tag, gen.toNat, a.1, s.time.lea⟩).answer pa tag gen 0 false (leBytes 16 a.1.toNat))

/-- JOURNAL_EXPIRE (R256): entries of a die whose keep time has ended are dropped. -/
def execJournalExpire (k : Fin 8) (s : State) : Host.Outcome State Fault Refusal :=
  .next { s with memory := { s.memory with journal := s.memory.journal.filter fun e => decide (e.die ≠ k.val) || s.jLive e } }

/-! ### Write-back, scrub, link, heat -/

/-- HBM_CE_WRITEBACK (R250): a corrected line is written back, unless a write came first and dropped it. -/
def execHbmCeWriteback (line : Nat) (s : State) : Host.Outcome State Fault Refusal :=
  .next { s with memory := { s.memory with writeback := s.memory.writeback.filter (· ≠ line) } }

/-- HBM_SCRUB (R250): patrol scrub reads a line; it corrects and counts, or poisons and counts without a cause. -/
def execHbmScrub (line errs : Nat) (s : State) : Host.Outcome State Fault Refusal :=
  let k := stackOf (128 * line)
  .next (if s.serves k && decide (128 * line < hbmBytes) then
      let p := s.probe line errs
      match p.1 with
      | .corrected => p.2.bump Ctr.hbmScrubCe k
      | .found => p.2.hbmSpindleRead (128 * line)
      | _ => p.2
    else s)

/-- HBM_LINK (R247): a parity error reissues the command; the fourth in a row stamps HBM_LINK. -/
def execHbmLink (k : Stack) (s : State) : Host.Outcome State Fault Refusal :=
  .next (s.when (s.serves k) fun s =>
    let s1 := s.bump Ctr.hbmLink k
    if (s.stk k).linkErrs ≥ 3 then (s1.linkGood k).stamp 0x0502 k (16 + k) else s1.modStk k fun x => { x with linkErrs := x.linkErrs + 1 })

/-- Refresh of a stack by its temperature (R259): halved above 85, standard again at or below 80. -/
def fastAt (fast : Bool) (t : Nat) : Bool := decide (t > 85) || (fast && decide (t > 80))

/-- A stack after a reading (R259, R260): a level reached throttles; the throttle ends when both temperatures stand
5 degrees below. What stands above that holds the throttle. -/
def StackSt.heat (x : StackSt) (t k : Nat) : StackSt :=
  let hot := decide (t ≥ 95) || decide (k ≥ 85) || (decide (x.state = .throttled) && (decide (t > 90) || decide (k > 80)))
  let y := { x with tempC := t, skeinC := k, fast := fastAt x.fast t }
  if x.state = .ready ∨ x.state = .throttled then
    { y with state := if hot then .throttled else .ready, ownHot := hot && decide (t > 90), skeinHot := hot && decide (k > 80) }
  else y

/-- STACK_TEMP_READ (R259, R260). A stack that is not powered is not read. -/
def execStackTempRead (k : Stack) (t sk : Nat) (s : State) : Host.Outcome State Fault Refusal :=
  let x := s.stk k
  let y := x.heat t sk
  .next (if x.state = .off ∨ x.state = .failed then s
    else
      let s1 := (s.modStk k fun _ => y).when (decide (y.fast ≠ x.fast)) fun s => s.fire (0x104 + 8 * k) y.fast.toNat k t
      let s2 := s1.when (decide (y.state ≠ x.state)) fun s => s.fire (0x101 + 8 * k) (decide (y.state = .throttled)).toNat k t
      s2.when (decide (y.state = .throttled) && decide (x.state = .ready)) fun s => s.bump Ctr.hbmThrottle k)

end Sys2Proof.Machine
end

