-- ==== Sys2Proof/Machine/Reel.lean ====
section
/-! DEFINITION. Reel packets arriving: ingress checks, the home's checks and answers, sharers, members, and the gateway
(chapters 13 and 14). -/

namespace Sys2Proof.Machine

/-! ### Reception (R294, R295, R300) -/

/-- Is the MOP of a management packet one of R306? -/
def mopKnown (mop : Nat) : Bool := [1, 2, 3, 0x10, 0x11, 0x20, 0x21, 0x22, 0x23].contains mop

/-- A packet of opcode `op` arrives at port `p`. A port that is not UP discards it and counts it; nothing arrives at a
port without a partner; a reserved opcode or MOP is discarded and counted (R266, R295, R306). -/
def State.receive (s : State) (p : RPort) (op : Nat) (k : Pkt) (act : State → State) : State :=
  if !s.spin.present.get (dieOfPort p) then s
  else match (s.rp p).state with
    | .up =>
      if !opcodeKnown k.opcode.toNat || (decide (k.opcode = 0x10) && !mopKnown (leNat (k.data.take 2))) then s.bump Ctr.reelBadPkt p
      else if k.opcode.toNat = op then act s
      else s
    | .prove | .quarantine => s.bump Ctr.reelQuarantineDrop p
    | _ => s

/-- A request passes the checks of R300 that come before those of R269. -/
def State.ingress (s : State) (p : RPort) (k : Pkt) (act : State → State) : State :=
  if s.stale k then s.bump Ctr.reelStale p
  else if routeFenced (s.routeOf k.src) then s.bump Ctr.reelFencedDrop p
  else act s

/-- Payload bytes of an answer, whatever its STATUS (R266). -/
def replyBytes (op : Nat) : Nat := if op = 0x02 then 128 else if op = 0x06 then 16 else if op = 0x0D then 4096 else 0

/-- The answer to a packet (R265); a payload that its STATUS leaves without a value is zero (DESIGN CHOICE, log 157). -/
def State.replyTo (s : State) (k : Pkt) (op status : Nat) (data : List Byte := []) (f : Pkt → Pkt := id) : State :=
  s.sendPkt (f { dst := k.src, src := s.node, opcode := BitVec.ofNat 8 op, status := BitVec.ofNat 4 status, poison := decide (status = 6),
                 tag := k.tag, epoch := k.epoch, data := data ++ List.replicate (replyBytes op - data.length) 0 }) k.src

/-- Index of a source in the reject table: its entry, a free one, or the one whose latest reject is oldest (R300). -/
def State.rejectIx (s : State) (node : BitVec 16) : Nat :=
  let es := (List.range 64).map fun i => s.reel.rejects.get none i
  match es.findIdx? fun e => match e with | some x => decide (x.node = node) | none => false with
  | some i => i
  | none => match es.findIdx? (·.isNone) with
    | some i => i
    | none => (List.range 64).foldl (fun a i => match s.reel.rejects.get none i, s.reel.rejects.get none a with
        | some x, some y => if before x.latest y.latest then i else a
        | _, _ => a) 0

/-- Has a source been sent a reject within the last µs (R300)? -/
def State.quietNow (s : State) (r : Option RejSrc) : Bool := match r with | some x => !s.elapsed x.last 1000 | none => false

/-- The home rejects a request with a status: counted per source, its reply limited (R269, R300). -/
def State.reject (s : State) (p : RPort) (k : Pkt) (op status : Nat) (f : Pkt → Pkt := id) : State :=
  let i := s.rejectIx k.src
  let old := (s.reel.rejects.get none i).filter fun x => decide (x.node = k.src)
  let x := old.getD { node := k.src, last := s.time.lea, latest := s.time.lea }
  let quiet := s.quietNow old
  let key := decide (status = 2)
  let y : RejSrc := { x with
    keyFaults := satAdd 65535 x.keyFaults key.toNat
    other := satAdd 65535 x.other (!key).toNat
    quiet := satAdd 32767 x.quiet quiet.toNat
    last := if quiet then x.last else s.time.lea
    latest := s.time.lea }
  let s1 := { s with reel := { s.reel with rejects := s.reel.rejects.set none i (some y) } }
  let s2 := s1.when (key && decide (x.keyFaults = 0)) fun s => s.fire (0x308 + p) 2 p k.src.toNat
  if quiet then s2.bump Ctr.reelRejectQuiet p else s2.replyTo k op status [] f

/-- RETRY with a back-off hint in units of 100 ns (R280). -/
def State.retry (s : State) (k : Pkt) (op hint : Nat) (f : Pkt → Pkt := id) : State :=
  (s.bump Ctr.reelRetrySent).replyTo k op 1 [] fun x => { f x with aux := BitVec.ofNat 16 hint }

/-! ### The home (R269, R270, R280) -/

/-- The registered region of a handle. -/
def State.regionReg (s : State) (h : BitVec 16) : Option RegionReg := s.reel.regions.get none h.toNat

/-- Does a key open a region: its key, or the old one while a rotation runs (R442)? -/
def RegionReg.opens (r : RegionReg) (key : BitVec 32) : Bool := decide (r.key = key) || decide (r.oldKey = some key)

/-- The first check of R269 that a request of `n` bytes fails: the status it is answered with. `right` is the bit of
RIGHTS it needs, `unit` the alignment of its offset. -/
def State.homeCheck (s : State) (k : Pkt) (right unit n : Nat) (sound : Bool := true) : Option Nat :=
  match s.regionReg k.handle with
  | none => some 5
  | some r =>
    let o := k.offset.toNat
    if !r.opens k.key then some 2
    else if !bit r.rights right then some 3
    else if !sound || decide (o % unit ≠ 0) || decide (o / 128 * 128 + max n 128 > r.length) then some 4
    else if (s.stk (stackOf (r.base + o))).state = .failed then some 5
    else none

/-- Physical address of an admitted request (R269). -/
def State.homeAddr (s : State) (k : Pkt) : Nat := match s.regionReg k.handle with | some r => r.base + k.offset.toNat | none => 0

/-- Admission at a hot line (R280): the hint of a RETRY, or none when admitted. -/
def State.hotRetry (s : State) (l : Nat) : Option (Nat × State) :=
  match s.hotSlot l with
  | some h =>
    if ((h.queue.filter fun q => before s.time.lea q).length) ≥ 16 then
      let ns := if before s.time.lea h.tFree then since s.time.lea h.tFree else 0
      some (max 1 (min 640 ((ns + 99) / 100)),
        { s with memory := { s.memory with hot := s.memory.hot.map fun x => if x.line = l then { x with tFree := later x.tFree s.time.lea + 8 } else x } })
    else none
  | none =>
    if s.hotFull l then some (10, (s.bump Ctr.hotFull (dieOfLine l)).fire (0x103 + 8 * stackOf (128 * l)) 1 (stackOf (128 * l)))
    else none

/-- A request to one line at the home: the checks, a stack that serves, admission, then the act on the address. -/
def State.atLine (s : State) (p : RPort) (k : Pkt) (op right : Nat) (f : Pkt → Pkt) (act : Nat → State → State) : State :=
  match s.homeCheck k right 128 128 with
  | some st => s.reject p k op st f
  | none =>
    let pa := s.homeAddr k
    if !s.serves (stackOf pa) then s
    else match s.hotRetry (pa / 128) with
      | some h => h.2.retry k op h.1 f
      | none => act pa (s.admitLine (pa / 128) true)

/-! ### The gateway (R282-R284) -/

/-- The gateway port that a packet crosses: the one it arrives at, or the one it is to leave by; none when neither is a
gateway, and the packet is not forwarded. -/
def State.crossing (s : State) (p : RPort) (k : Pkt) : Option Nat :=
  if (s.rp p).gateway then some p.val
  else match s.portFor k.dst k.tag with
    | some q => if (s.rp q).gateway then some q else none
    | none => none

/-- Pass a packet on to its destination, AGE rewritten (R284). -/
def State.pass (s : State) (k : Pkt) : State := s.sendPkt k k.dst

/-- A BULK packet of a gateway, with its record. -/
def State.sendBulk (s : State) (op : Nat) (x : Piece) (data : List Byte) (poison : Bool) : State :=
  let s1 := { s with reel := { s.reel with nextTag := s.reel.nextTag + 1, pieces := s.reel.pieces ++ [{ x with sent := true, tag := s.reel.nextTag, at_ := s.time.lea }] } }
  s1.sendPkt { dst := x.node, src := s.node, opcode := BitVec.ofNat 8 op, poison := poison, tag := s.reel.nextTag, handle := x.handle, key := x.key,
               offset := BitVec.ofNat 48 x.base, aux := BitVec.ofNat 16 (x.base / 4096 % 16), count := 32, flags := if op = 0x0B then 2 else 0, data := data } x.node

/-- Payload of a BULK_WRITE: the line-valid mask, then the valid lines in order (R266). -/
def bulkData (lines : Tab (List Byte)) (first : Nat) : List Byte :=
  let ls := (List.range 32).filter fun i => !(lines.get [] (first + i)).isEmpty
  leBytes 4 (bitsOf ((List.range 32).map fun i => ls.contains i)) ++ ls.flatMap fun i => lines.get [] (first + i)

/-- Flush a window: one BULK_WRITE for each 4 KiB piece that holds a line (R282). -/
def State.flushWindow (s : State) (g : Gather) (poison : Bool := false) : State :=
  let s1 := { s with reel := { s.reel with gather := s.reel.gather.filter fun x => !decide (x = g) } }
  s1.forEach ((List.range 16).filter fun i => g.lines.any fun e => decide (e.1 / 32 = i)) fun i s =>
    s.sendBulk 0x0B { port := g.port, node := g.node, handle := g.handle, key := g.key, base := g.base + 4096 * i, fetch := false, sent := true, tag := 0,
                      pkts := g.writes.filter fun w => decide (w.offset.toNat % 65536 / 4096 = i), at_ := s.time.lea } (bulkData g.lines (32 * i)) poison

/-- Flush the window of a node's region whose range a READ or INVALIDATE of `lo` up to `hi` reaches (R282). -/
def State.flushReached (s : State) (node handle : BitVec 16) (lo hi : Nat) : State :=
  s.forEach (s.reel.gather.filter fun g => decide (g.node = node) && decide (g.handle = handle) && decide (lo < g.base + 65536) && decide (g.base < hi)) fun g s =>
    s.flushWindow g

/-- Flush the windows of a node's region that hold lines from `lo` up to `hi` (R283). -/
def State.flushRange (s : State) (node handle : BitVec 16) (lo hi : Nat) : State :=
  s.forEach (s.reel.gather.filter fun g => decide (g.node = node) && decide (g.handle = handle) &&
    g.lines.any fun e => decide (lo < g.base + 128 * e.1 + 128) && decide (g.base + 128 * e.1 < hi)) fun g s => s.flushWindow g

/-- A WRITE that the gateway forwards joins its window (R282). A poisoned line is sent alone, so that its mark reaches no
other line (an ATOMIC is not gathered: DEDUCED, log 149). -/
def State.gatherWrite (s : State) (port : Nat) (k : Pkt) : State :=
  let base := k.offset.toNat / 65536 * 65536
  let line := k.offset.toNat % 65536 / 128
  let mine (g : Gather) : Bool := decide (g.port = port) && decide (g.node = k.dst) && decide (g.handle = k.handle) && decide (g.base = base)
  let fresh : Gather := { port := port, node := k.dst, handle := k.handle, key := k.key, base := base, last := s.time.lea }
  let held := s.reel.gather.filter fun g => decide (g.port = port)
  let put (g : Gather) : Gather := { g with key := k.key, lines := g.lines.set [] line k.data, writes := g.writes ++ [k], last := s.time.lea }
  if k.poison then (s.flushRange k.dst k.handle base (base + 65536)).flushWindow (put fresh) true
  else match s.reel.gather.find? mine with
    | some g =>
      let g' := put g
      if g'.lines.length ≥ 512 then { s with reel := { s.reel with gather := s.reel.gather.filter fun x => !mine x } }.flushWindow g'
      else { s with reel := { s.reel with gather := s.reel.gather.map fun x => if mine x then g' else x } }
    | none =>
      let oldest := held.foldl (fun a g => match a with | some x => if before g.last x.last then some g else some x | none => some g) none
      let s1 := if held.length ≥ 256 then (match oldest with | some g => s.flushWindow g | none => s) else s
      { s1 with reel := { s1.reel with gather := s1.reel.gather ++ [put fresh] } }

/-- A READ that the gateway forwards is collected with those of its 4 KiB piece (R283); a window whose range it reaches is flushed
(R282). -/
def State.stageRead (s : State) (port : Nat) (k : Pkt) : State :=
  let base := k.offset.toNat / 4096 * 4096
  let mine (x : Piece) : Bool := x.fetch && !x.sent && decide (x.port = port) && decide (x.node = k.dst) && decide (x.handle = k.handle) && decide (x.base = base)
  let s1 := s.flushReached k.dst k.handle k.offset.toNat (k.offset.toNat + 128)
  if s1.reel.pieces.any mine then
    { s1 with reel := { s1.reel with pieces := s1.reel.pieces.map fun x => if mine x then { x with pkts := x.pkts ++ [k] } else x } }
  else { s1 with reel := { s1.reel with pieces := s1.reel.pieces ++
      [{ port := port, node := k.dst, handle := k.handle, key := k.key, base := base, fetch := true, sent := false, tag := 0, pkts := [k], at_ := s.time.lea }] } }

/-- A packet for another node: it crosses this module only at a gateway, and not from one die to the other while the link between them
is down (R282, R359). -/
def State.forward (s : State) (p : RPort) (k : Pkt) : State :=
  match s.crossing p k with
  | some q => if (match s.portFor k.dst k.tag with | some o => s.crosses p o | none => false) then s
    else match k.opcode.toNat with
    | 0x01 => s.stageRead q k
    | 0x03 => s.gatherWrite q k
    | 0x07 => (s.flushReached k.dst k.handle k.offset.toNat (k.offset.toNat + 128 * k.count.toNat)).pass k
    | 0x09 => s
    | _ => s.pass k
  | none => s

/-- A request arrives: received, through the checks of R300, and at its destination or on its way. -/
def State.request' (s : State) (p : RPort) (op : Nat) (k : Pkt) (act : State → State) : State :=
  s.receive p op k fun s => s.ingress p k fun s => if k.dst = s.node then act s else s.forward p k

/-- A reply arrives, at its destination or on its way. -/
def State.response (s : State) (p : RPort) (op : Nat) (k : Pkt) (act : State → State) : State :=
  s.receive p op k fun s => if k.dst = s.node then act s else s.forward p k

/-- GATHER_FLUSH (R282): window number `window` of a port is flushed when it is full or 2 µs have passed without a
store. -/
def execGatherFlush (p : RPort) (window : Nat) (s : State) : Host.Outcome State Fault Refusal :=
  .next (match (s.reel.gather.filter fun g => decide (g.port = p.val))[window]? with
    | some g => s.when (s.elapsed g.last 2000 || decide (g.lines.length ≥ 512)) fun s => s.flushWindow g
    | none => s)

/-- STAGED_FETCH (R283): 0.5 µs after a piece's first READ, the gateway flushes windows that hold lines of it and sends one
BULK_READ. -/
def execStagedFetch (p : RPort) (piece : Nat) (s : State) : Host.Outcome State Fault Refusal :=
  .next (match (s.reel.pieces.filter fun x => decide (x.port = p.val) && x.fetch && !x.sent)[piece]? with
    | some x => s.when (s.elapsed x.at_ 500) fun s =>
        let s1 := { s with reel := { s.reel with pieces := s.reel.pieces.filter fun y => !decide (y = x) } }
        (s1.flushRange x.node x.handle x.base (x.base + 4096)).sendBulk 0x0C x [] false
    | none => s)

/-- The sent piece of a gateway that a BULK answer names. -/
def State.pieceOf (s : State) (k : Pkt) (fetch : Bool) : Option Piece :=
  s.reel.pieces.find? fun x => x.sent && (x.fetch == fetch) && decide (x.tag = k.tag) && decide (x.node = k.src)

/-- The piece is done with. -/
def State.endPiece (s : State) (x : Piece) : State := { s with reel := { s.reel with pieces := s.reel.pieces.filter fun y => !decide (y = x) } }

/-- BULK_DATA (R283): the gateway answers each collected READ with its line, then discards the data. -/
def execBulkData (p : RPort) (k : Pkt) (s : State) : Host.Outcome State Fault Refusal :=
  .next (s.response p 0x0D k fun s => match s.pieceOf k true with
    | some x => (s.endPiece x).forEach x.pkts fun r s =>
        s.replyTo r 0x02 k.status.toNat ((k.data.drop (r.offset.toNat % 4096)).take 128) fun y => { y with src := k.src, flags := k.flags }
    | none => s)

/-- BULK_ACK (R282): the gateway sends the acknowledgement of each write gathered in the piece, with its status. -/
def execBulkAck (p : RPort) (k : Pkt) (s : State) : Host.Outcome State Fault Refusal :=
  .next (s.response p 0x0E k fun s => match s.pieceOf k false with
    | some x => (s.endPiece x).forEach x.pkts fun w s => s.replyTo w 0x04 k.status.toNat [] fun y => { y with src := k.src }
    | none => s)

/-! ### Requests at the home -/

/-- REEL_READ (R269, R271): checked, admitted, and answered with the line; CACHEABLE as the region's rights say. -/
def execReelRead (p : RPort) (k : Pkt) (errs : Nat) (s : State) : Host.Outcome State Fault Refusal :=
  .next (s.request' p 0x01 k fun s => s.atLine p k 0x02 0 id fun pa s =>
    let c := s.probe (pa / 128) errs
    let s1 := c.2.countCheck .unit c.1 (pa / 128)
    let cache := match s.regionReg k.handle with | some r => bit r.rights 4 | none => false
    s1.replyTo k 0x02 (if c.1.bad then 6 else 0) (s1.mems.hbm.read (128 * (pa / 128)) 128) fun y => { y with flags := if cache then 1 else 0 })

/-- REEL_WRITE (R269, R271): acknowledged once the line has entered its arrival order. -/
def execReelWrite (p : RPort) (k : Pkt) (s : State) : Host.Outcome State Fault Refusal :=
  .next (s.request' p 0x03 k fun s => s.atLine p k 0x04 1 id fun pa s => (s.storeHbm pa (k.data.take 128) k.poison).replyTo k 0x04 0)

/-- Size of an ATOMIC packet's operation: 16 bytes for CAS128; for SWAP the packet does not say (DESIGN CHOICE, log 45). -/
def reelAopSize (aop : Nat) : Nat := if aop = 4 then 16 else if aop = 2 then (if Config.reelSwapWide then 16 else 8) else 8

/-- REEL_ATOMIC (R254, R269, R276): checked; a live journal entry answers again; a full journal or hot line is answered
RETRY; otherwise applied and journaled. -/
def execReelAtomic (p : RPort) (k : Pkt) (errs : Nat) (s : State) : Host.Outcome State Fault Refusal :=
  let aop := k.aop.toNat
  let size := reelAopSize aop
  .next (s.request' p 0x05 k fun s =>
    match s.homeCheck k 2 size size (decide (aop ≤ 11)) with
    | some st => s.reject p k 0x06 st
    | none =>
      let pa := s.homeAddr k
      let l := pa / 128
      let die := dieOfLine l
      match s.journaled die false k.src k.tag k.epoch.toNat with
      | some e => (s.bump Ctr.reelAtomicReplay).replyTo k 0x06 0 (leBytes 16 e.reply.toNat)
      | none =>
        if !s.serves (stackOf pa) then s
        else if s.jUsed die false ≥ 98304 then
          ((s.bump Ctr.journalFull die).fire (0x103 + 8 * stackOf pa) 0 (stackOf pa)).retry k 0x06 10
        else match s.hotRetry l with
          | some h => h.2.retry k 0x06 h.1
          | none =>
            let c := (s.admitLine l true).probe l errs
            if c.1.bad then (c.2.hbmConsume (128 * l)).replyTo k 0x06 6
            else
              let a := c.2.atomicAt pa aop size (BitVec.ofNat 128 (leNat (k.data.take 16))) (BitVec.ofNat 128 (leNat ((k.data.drop 16).take 16)))
              (a.2.journal ⟨die, false, k.src, k.tag, k.epoch.toNat, a.1, s.time.lea⟩).replyTo k 0x06 0 (leBytes 16 a.1.toNat))

/-- Lines of the range that an INVALIDATE covers: of home node `node` and a handle, `n` lines from an offset. -/
def covers (node handle : BitVec 16) (offset n : Nat) (node' handle' : BitVec 16) (o : Nat) : Bool :=
  decide (node' = node) && decide (handle' = handle) && decide (offset ≤ o / 128 * 128) && decide (o / 128 * 128 < offset + 128 * n)

/-- Drop cached lines of a range, and mark its outstanding reads no-fill (R279). -/
def State.dropRange (s : State) (node handle : BitVec 16) (offset n : Nat) : State :=
  let s1 := { s with memory := { s.memory with rcache := s.memory.rcache.filter fun l => !covers node handle offset n l.node l.handle l.offset } }
  s1.forEach (s1.reelSlots.filter fun e => decide (e.2.opcode = 1) && covers node handle offset n e.2.node e.2.handle e.2.offset) fun e s =>
    s.modSlot e.1 fun x => { x with noFill := true }

/-- INVALIDATE (R279): the sharer drops the range's lines and answers. The home node travels in KEY, for which an
INVALIDATE has no other use (DEDUCED, log 46). -/
def execInvalidate (p : RPort) (k : Pkt) (s : State) : Host.Outcome State Fault Refusal :=
  .next (s.request' p 0x07 k fun s =>
    (s.dropRange (k.key.setWidth 16) k.handle k.offset.toNat k.count.toNat).replyTo k 0x08 0)

/-- MCAST_WRITE (R269, R286): written as a WRITE is, under the MCAST right; the answer names the member. -/
def execMcastWrite (p : RPort) (k : Pkt) (s : State) : Host.Outcome State Fault Refusal :=
  let f (y : Pkt) : Pkt := { y with aux := k.aux }
  .next (s.request' p 0x09 k fun s => s.atLine p k 0x0A 3 f fun pa s => (s.storeHbm pa (k.data.take 128) k.poison).replyTo k 0x0A 0 [] f)

/-- Valid lines of a BULK_WRITE: number within the piece and bytes. -/
def bulkLines (data : List Byte) : List (Nat × List Byte) :=
  (onesOf 32 (leNat (data.take 4))).zipIdx.map fun e => (e.1, ((data.drop 4).drop (128 * e.2)).take 128)

/-- BULK_WRITE (R269, R282): checked as one request over its segment, its lines applied in arrival order. -/
def execBulkWrite (p : RPort) (k : Pkt) (s : State) : Host.Outcome State Fault Refusal :=
  .next (s.request' p 0x0B k fun s =>
    let ls := bulkLines k.data
    let last := ls.foldl (fun a e => max a (e.1 + 1)) 1
    match s.homeCheck k 1 128 (128 * last) with
    | some st => s.reject p k 0x0E st
    | none =>
      let pa := s.homeAddr k
      (s.forEach (ls.filter fun e => s.serves (stackOf (pa + 128 * e.1))) fun e s =>
        (s.admitLine ((pa + 128 * e.1) / 128) true).storeHbm (pa + 128 * e.1) e.2 k.poison).replyTo k 0x0E 0)

/-- BULK_READ (R269, R283): checked as one request over its segment and answered with its lines; a bad line makes the
answer UE, and is consumed. -/
def execBulkRead (p : RPort) (k : Pkt) (s : State) : Host.Outcome State Fault Refusal :=
  .next (s.request' p 0x0C k fun s =>
    let n := min 32 k.count.toNat
    match s.homeCheck k 0 128 (128 * n) with
    | some st => s.reject p k 0x0D st
    | none =>
      let pa := s.homeAddr k
      let bad := (linesOf pa (128 * n)).filter fun l => s.mems.hbmPoison.get false l
      let s1 := s.forEach bad fun l s => s.hbmConsume (128 * l)
      let cache := match s.regionReg k.handle with | some r => bit r.rights 4 | none => false
      let data := s.mems.hbm.read pa (128 * n)
      s1.replyTo k 0x0D (if bad.isEmpty then 0 else 6) (data ++ leBytes (4096 - data.length) 0) fun y =>
        { y with aux := k.aux, count := k.count, flags := if cache then 1 else 0 })

end Sys2Proof.Machine
end

