-- ==== Sys2Proof/Machine/Requester.lean ====
section
/-! DEFINITION. The requester's side of the Reel fabric: replies, resends, timeouts, atomics exactly once, multicast and
invalidation answers (chapter 13). -/

namespace Sys2Proof.Machine

/-! ### Replies (R267, R271, R273, R274) -/

/-- A reply reaches its requester. One whose TAG and EPOCH do not both match a slot's current request of the opcode is
discarded and counted (R273). -/
def State.reelReply (s : State) (p : RPort) (op req : Nat) (k : Pkt) (act : SlotSt → State → State) : State :=
  s.response p op k fun s =>
    let r := s.slot k.tag.toNat
    if r.reel && decide (r.kind ≠ .free) && decide (r.opcode = req) && decide (r.epoch = k.epoch) && !(decide (r.node = s.node) && decide (r.handle.toNat ≥ 0xFF00))
    then act r s else s.bump Ctr.seStaleReply (k.tag.toNat / 256)

/-- When a request answered RETRY is sent again: after the hint and a draw of 0 to 99 ns from the region's entropy source (R274). -/
def State.retryAt (s : State) (hint : Nat) : Lea :=
  let t := s.time.lea + BitVec.ofNat 64 (100 * hint + (Config.word s.free).toNat % 100)
  if t = 0 then 1 else t

/-- RETRY (R274): the timer stops, and the slot waits. -/
def State.retryWait (s : State) (tag : Nat) (hint : Nat) : State :=
  (s.fresh.bump Ctr.reelRetryRcvd).modSlot tag fun x => { x with waiting := true, until_ := s.retryAt hint, retries := x.retries + 1 }

/-- The slot of a request ends, and requests that waited for its line may go (R272). -/
def State.endReel (s : State) (tag : Nat) : State := (s.endSlot tag).wakeReel

/-- What the requester does on a STATUS (R267): `ok` on OK, `ue` the data of a UE reply. -/
def State.onStatus (s : State) (tag : Nat) (k : Pkt) (ok ue : State → State) : State :=
  match k.status.toNat with
  | 0 => (ok s).endReel tag
  | 1 => s.retryWait tag k.aux.toNat
  | 6 => ((ue s).slotCause tag 0x0602).endReel tag
  | _ => (s.slotCause tag 0x0601).endReel tag

/-- Die that caches a remote line (R258). -/
def cacheDie (node : BitVec 16) (offset : Nat) : Nat := (offset / 1024 % 8) ^^^ (offset / 8192 % 8) ^^^ (node.toNat % 8)

/-- Install a line: the least recently used line of its die goes when the die holds 524,288 (R258, R255). -/
def installLine (c : List RLine) (x : RLine) : List RLine :=
  let die (l : RLine) : Nat := cacheDie l.node l.offset
  let rest := c.filter fun l => !(decide (l.node = x.node) && decide (l.handle = x.handle) && decide (l.offset / 128 = x.offset / 128))
  let same := rest.filter fun l => decide (die l = die x)
  match if same.length ≥ 524288 then same.getLast? else none with
  | some old => x :: rest.erase old
  | none => x :: rest

/-- READ_RESP (R271): the line goes to the requester, and into the cache when it may. -/
def execReadResp (p : RPort) (k : Pkt) (s : State) : Host.Outcome State Fault Refusal :=
  .next (s.reelReply p 0x02 0x01 k fun r s =>
    s.onStatus k.tag.toNat k
      (fun s =>
        let fill := k.flags.getLsbD 0 && !r.noFill && !r.noCache
        let s1 := if fill then { s with memory := { s.memory with rcache := installLine s.memory.rcache ⟨r.node, r.handle, r.offset, k.data⟩ } } else s
        s1.store r.dstSpace r.dst (k.data.take r.bytes) k.poison)
      (fun s => s.store r.dstSpace r.dst (k.data.take r.bytes) true))

/-- WRITE_ACK (R271). -/
def execWriteAck (p : RPort) (k : Pkt) (s : State) : Host.Outcome State Fault Refusal :=
  .next (s.reelReply p 0x04 0x03 k fun _ s => s.onStatus k.tag.toNat k id id)

/-- ATOMIC_RESP (R275): the old value completes the atomic; a duplicate is stale. -/
def execAtomicResp (p : RPort) (k : Pkt) (s : State) : Host.Outcome State Fault Refusal :=
  .next (s.reelReply p 0x06 0x05 k fun r s =>
    s.onStatus k.tag.toNat k (fun s => s.atomicDone r (BitVec.ofNat 128 (leNat (k.data.take 16)))) id)

/-- The branches of a multicast line whose wait after a RETRY is over are sent again; their timeout restarts (R267, R274). -/
def State.mcResend (s : State) (x : McLine) : State :=
  match s.reel.mcast.get none x.group with
  | some g =>
    let due := x.again.filter fun a => !before s.time.lea a.2
    let ms := g.members.zipIdx.filter fun m => due.any fun a => decide (a.1 = m.2)
    let y := { x with again := x.again.filter fun a => before s.time.lea a.2, at_ := if due.isEmpty then x.at_ else s.time.lea }
    ({ s with reel := { s.reel with mcLines := s.reel.mcLines.map fun z => if z = x then y else z } }).forEach ms fun m s =>
      s.sendPkt (s.mcBranch x.tag (s.slot x.tag) m) m.1.node
  | none => s

/-- REEL_RETRY_RESEND (R274, R275): after the hint and the draw the request, or the branches of a multicast line, are sent again; it
is no try, and no atomic is sent later than 150 µs after its first try. -/
def execReelRetryResend (tag : BitVec 16) (s : State) : Host.Outcome State Fault Refusal :=
  let n := tag.toNat
  let r := s.slot n
  .next (match s.reel.mcLines.find? fun x => decide (x.tag = n) with
    | some x => s.mcResend x
    | none => s.when (r.reel && r.waiting && decide (r.until_ ≠ 0) && !before s.time.lea r.until_ && !(decide (r.opcode = 5) && s.elapsed r.firstAt 150000)) fun s =>
        (s.modSlot n fun x => { x with until_ := 0, resend := true }).sendReel n)

/-! ### Timeouts (R274, R275, R277) -/

/-- Request timeout in ns (R274). -/
def State.requestNs (s : State) : Nat := 1000 * s.conf.inForce.requestUs

/-- A request is given up: its cause, REEL_TIMEOUT, and its slot, whose late reply is then stale. -/
def State.giveUp (s : State) (tag code : Nat) : State := (((s.bump Ctr.reelTimeout).slotCause tag code).modBlk (tag / 256) (·.release (tag % 256))).wakeReel

/-- ATOMIC_TRY (R275): tries 2 and 3, each 20 µs after the send before it, none later than 150 µs after the first. -/
def execAtomicTry (tag : BitVec 16) (s : State) : Host.Outcome State Fault Refusal :=
  let n := tag.toNat
  let r := s.slot n
  .next (s.when (r.reel && decide (r.opcode = 5) && !r.waiting && decide (r.tries < 3) && s.elapsed r.sentAt 20000 && !s.elapsed r.firstAt 150000) fun s => s.sendReel n)

/-- OUTCOME_UNKNOWN (R277): no reply of any kind 20 µs after try 3, or none but RETRY by the 150 µs limit. -/
def execOutcomeUnknown (tag : BitVec 16) (s : State) : Host.Outcome State Fault Refusal :=
  let n := tag.toNat
  let r := s.slot n
  .next (if r.reel && decide (r.opcode = 5) && decide (r.tries > 0) then
      if s.elapsed r.firstAt 150000 && decide (r.retries > 0) then s.giveUp n 0x0603
      else if s.elapsed r.firstAt 150000 || (decide (r.retries = 0) && decide (r.tries ≥ 3) && s.elapsed r.sentAt 20000) then
        (((s.bump Ctr.reelOutcomeUnknown).slotCause n 0x0604).modBlk (n / 256) (·.release (n % 256))).wakeReel
      else s
    else s)

/-! ### Multicast (R286, R287) -/

/-- Record a branch's answer; a line whose branches have all answered leaves its mask and frees its slot (R286). -/
def State.mcAnswer (s : State) (tag m : Nat) (ok : Bool) : State :=
  match s.reel.mcLines.find? fun x => decide (x.tag = tag) && !x.answers.any fun a => decide (a.1 = m) with
  | some x =>
    let y := { x with answers := x.answers ++ [(m, ok)] }
    let n := match s.reel.mcast.get none x.group with | some g => g.members.length | none => 0
    let rest := s.reel.mcLines.filter fun z => !decide (z = x)
    if y.answers.length ≥ n then ({ s with reel := { s.reel with mcLines := rest } }.mcLineDone y n).wakeReel
    else { s with reel := { s.reel with mcLines := rest ++ [y] } }
  | none => s

/-- A branch is answered RETRY: it is sent again after the hint and a draw (R267, R274). -/
def State.mcRetry (s : State) (tag m hint : Nat) : State :=
  let t := s.retryAt hint
  let s1 := s.fresh.bump Ctr.reelRetryRcvd
  { s1 with reel := { s1.reel with mcLines := s1.reel.mcLines.map fun x => if x.tag = tag then { x with again := x.again ++ [(m, t)] } else x } }

/-- MCAST_ACK (R267, R286, R287): OK; DROPPED, or NOT_PRESENT, which prunes the member; RETRY, after which the branch is sent again;
any other status stamps REEL_REJECT. -/
def execMcastAck (p : RPort) (k : Pkt) (s : State) : Host.Outcome State Fault Refusal :=
  let tag := k.tag.toNat
  let m := k.aux.toNat
  .next (s.response p 0x0A k fun s =>
    if (s.slot tag).reel && decide ((s.slot tag).epoch = k.epoch) && s.reel.mcLines.any (fun x => decide (x.tag = tag)) then
      match k.status.toNat with
      | 0 => s.mcAnswer tag m true
      | 1 => s.mcRetry tag m k.aux.toNat
      | 5 | 7 => s.mcAnswer tag m false
      | 6 => (s.slotCause tag 0x0602).mcAnswer tag m false
      | _ => (s.slotCause tag 0x0601).mcAnswer tag m false
    else s.bump Ctr.seStaleReply (tag / 256))

/-- MCAST_BRANCH_DROP (R286, R287): a branch that has waited 20 µs for multicast credit, or whose member is fenced
while it waits, is dropped. -/
def execMcastBranchDrop (tag : BitVec 16) (member : Nat) (s : State) : Host.Outcome State Fault Refusal :=
  .next (match s.reel.mcLines.find? fun x => decide (x.tag = tag.toNat) with
    | some x => match (s.reel.mcast.get none x.group).bind fun g => g.members[member]? with
      | some g =>
        let mine (k : Pkt) : Bool := decide (k.opcode = 9) && decide (k.tag = tag) && decide (k.aux.toNat = member) && decide (k.dst = g.node)
        let held := s.rport.any fun e => (e.2.vcq 6).any mine
        if held && (s.elapsed x.at_ 20000 || routeFenced (s.routeOf g.node)) then
          (s.forEach ((s.rport.filter fun e => (e.2.vcq 6).any mine).map (·.1)) fun p s =>
            s.modRp p fun y => { y with queue := y.queue.mod [] 6 fun q => q.filter fun k => !mine k }).mcAnswer tag.toNat member false
        else s
      | none => s
    | none => s)

/-! ### Invalidation (R279) -/

/-- Result of REEL_INVALIDATE: members acknowledged, and the first that has not (R268). -/
def Inval.result (v : Inval) : BitVec 128 :=
  let missing := v.members.filter fun m => !v.got.contains m
  Machine.result [(16, 4, v.members.length - missing.length), (20, 2, (missing.head?.map (·.toNat)).getD 0xFFFF)]

/-- The invalidation ends with a status. -/
def State.endInval (s : State) (v : Inval) (st : Status) : State :=
  { s with reel := { s.reel with inval := none } }.done v.cmd st v.result

/-- A member has acknowledged; when all have, the command completes. -/
def State.invAcked (s : State) (m : BitVec 16) : State :=
  match s.reel.inval with
  | some v =>
    if v.members.contains m && !v.got.contains m then
      let w := { v with got := v.got ++ [m] }
      if w.members.all w.got.contains then s.endInval w .ok else { s with reel := { s.reel with inval := some w } }
    else s
  | none => s

/-- INV_ACK (R279): OK or NOT_PRESENT counts the member as acknowledged. -/
def execInvAck (p : RPort) (k : Pkt) (s : State) : Host.Outcome State Fault Refusal :=
  .next (s.response p 0x08 k fun s => s.when (decide (k.status = 0) || decide (k.status = 5)) fun s => s.invAcked k.src)

/-- REEL_TIMEOUT (R274, R279, R286): a read or write unanswered for the timeout, or still incomplete 16 timeouts after its
first send; an invalidation with a silent member; a multicast line's silent branches. -/
def execReelTimeout (what : ReelTimeoutWhat) (s : State) : Host.Outcome State Fault Refusal :=
  .next (match what with
    | .request tag =>
      let r := s.slot tag.toNat
      s.when (r.reel && decide (r.opcode ≠ 5) && !r.waiting && s.elapsed r.sentAt s.requestNs &&
        !s.reel.mcLines.any (fun x => decide (x.tag = tag.toNat))) fun s => s.giveUp tag.toNat 0x0206
    | .starved tag =>
      let r := s.slot tag.toNat
      s.when (r.reel && decide (r.opcode ≠ 5) && decide (r.retries > 0) && s.elapsed r.firstAt (16 * s.requestNs)) fun s => s.giveUp tag.toNat 0x0603
    | .invalidation => match s.reel.inval with
      | some v => s.when (v.sent && s.elapsed v.startAt s.requestNs) fun s => s.endInval v .timeout
      | none => s
    | .multicast tag => match s.reel.mcLines.find? fun x => decide (x.tag = tag.toNat) with
      | some x => s.when (s.elapsed x.at_ s.requestNs) fun s =>
          let n := match s.reel.mcast.get none x.group with | some g => g.members.length | none => 0
          s.forEach ((List.range n).filter fun m => !x.answers.any fun a => decide (a.1 = m)) fun m s => s.mcAnswer tag.toNat m false
      | none => s)

/-- LINES_HELD_END (R302): 100 µs after the re-injection, the held lines may be written again. -/
def execLinesHeldEnd (p : RPort) (s : State) : Host.Outcome State Fault Refusal :=
  .next { s with reel := { s.reel with held := s.reel.held.filter fun h => decide (h.1 ≠ p.val) || !s.elapsed h.2.2.2.2 100000 } }.wakeReel

/-! ### Commands (R268, R279, R442) -/

/-- The first handle that may be given out (R268). -/
def State.freeHandle (s : State) : Option Nat :=
  ((List.range 8192).map fun i => (s.reel.nextHandle - 1 + i) % 8192 + 1).find? fun h =>
    (s.reel.regions.get none h).isNone && !s.reel.gone.any fun g => decide (g.1 = h) && !s.elapsed g.2 250000

/-- Hint of a BUSY registration (R268): 0 when 8,192 regions are live, else the µs until the oldest handle deregistered
becomes free. -/
def State.handleHint (s : State) : Nat :=
  if s.reel.regions.length ≥ 8192 then 0
  else match s.reel.gone.filter fun g => !s.elapsed g.2 250000 with
    | g :: gs =>
      let oldest := gs.foldl (fun a b => max a (since b.2 s.time.lea)) (since g.2 s.time.lea)
      (250000 - oldest + 999) / 1000
    | [] => 0

/-- REEL_REGISTER (R268). -/
def execReelRegister (c : Cmd) (s : State) : Host.Outcome State Fault Refusal :=
  let base := c.field s 16 8
  let len := c.field s 24 8
  let rights := c.field s 32 1
  let key := c.field s 36 4
  let bad := if base % 1024 ≠ 0 ∨ base ≥ hbmBytes then some 16
    else if len % 1024 ≠ 0 ∨ len < 1024 ∨ base + len > hbmBytes then some 24
    else if rights ≥ 32 then some 32 else if key = 0 then some 36 else none
  .next (selkan { op := 0x0401, named := [(16, 32), (36, 39)], needsJob := true } c
    { bad := bad, busy := if s.freeHandle.isNone then some s.handleHint else none } (fun s =>
    match s.freeHandle with
    | some h =>
      { s with reel := { s.reel with
          regions := s.reel.regions.set none h (some { base := base, length := len, rights := rights, key := BitVec.ofNat 32 key })
          nextHandle := h % 8192 + 1
          gone := s.reel.gone.filter fun g => !s.elapsed g.2 250000 } }.done c .ok (result [(16, 2, h)])
    | none => s.done c .badState) s)

/-- Deregister a handle. -/
def State.deregister (s : State) (h : Nat) : State :=
  { s with reel := { s.reel with regions := s.reel.regions.set none h none, gone := s.reel.gone ++ [(h, s.time.lea)] } }

/-- REEL_DEREGISTER (R270): every request admitted before has been answered in its own step, so the command completes. -/
def execReelDeregister (c : Cmd) (s : State) : Host.Outcome State Fault Refusal :=
  let h := c.field s 16 2
  .next (selkan { op := 0x0402, named := [(16, 17)], long := true, needsJob := true } c
    { bad := if (s.reel.regions.get none h).isNone then some 16 else none } (fun s => (s.deregister h).done c .ok) s)

/-- SHARER_GROUP_SET (R268). -/
def execSharerGroupSet (c : Cmd) (s : State) : Host.Outcome State Fault Refusal :=
  let n := c.field s 20 2
  let a := c.field s 24 8
  let list := readSpace s (c.port s) 1 a (2 * n)
  .next (selkan { op := 0x0403, named := [(16, 16), (20, 31)], needsJob := true } c
    { bad := if n = 0 ∨ n > 4096 then some 20 else if list.isNone then some 24 else none, reads := some (a, 2 * n) } (fun s =>
    let nodes := (List.range n).map fun i => BitVec.ofNat 16 (leNat (((list.getD []).drop (2 * i)).take 2))
    { s with reel := { s.reel with sharers := s.reel.sharers.set none (c.field s 16 1) (some nodes) } }.done c .ok) s)

/-- A member of a member table (R285). -/
def mcMember (bs : List Byte) (i : Nat) : McMember :=
  let f (lo n : Nat) : Nat := leNat ((bs.drop (16 * i + lo)).take n)
  { node := BitVec.ofNat 16 (f 0 2), handle := BitVec.ofNat 16 (f 2 2), key := BitVec.ofNat 32 (f 4 4), base := f 8 8 }

/-- MCAST_GROUP_SET (R268, R284, R285): no member may lie beyond a gateway. -/
def execMcastGroupSet (c : Cmd) (s : State) : Host.Outcome State Fault Refusal :=
  let n := c.field s 17 1
  let policy := c.field s 18 1
  let a := c.field s 24 8
  let mask := c.field s 32 8
  let list := readSpace s (c.port s) 1 a (16 * n)
  let ms := (List.range n).map fun i => mcMember (list.getD []) i
  let bad := if n = 0 ∨ n > 64 then some 17 else if policy > 1 then some 18
    else if list.isNone || ms.any (fun m => routeGateway (s.routeOf m.node)) then some 24
    else if mask + 2048 > hbmBytes then some 32 else none
  .next (selkan { op := 0x0404, named := [(16, 18), (20, 39)], needsJob := true } c
    { noFeature := !s.fuse.mcast, bad := bad, reads := some (a, 16 * n) } (fun s =>
    let g : McGroup := { members := ms, missFault := decide (policy = 1), key := BitVec.ofNat 32 (c.field s 20 4), maskBase := mask }
    { s with reel := { s.reel with mcast := s.reel.mcast.set none (c.field s 16 1) (some g) } }.done c .ok) s)

/-- Send the INVALIDATE packets of an invalidation. A member without a live route is answered NOT_PRESENT by the module's
own I/O die, and so counts as acknowledged (R279, R304); the module itself drops its own lines. -/
def State.sendInval (s : State) (v : Inval) (home handle : BitVec 16) (offset n group : Nat) : State :=
  let s1 := s.forEach v.members fun m s =>
    if m = s.node then s.dropRange home handle offset n
    else s.sendPkt { dst := m, src := s.node, opcode := 7, handle := handle, key := home.setWidth 32, offset := BitVec.ofNat 48 offset, aux := BitVec.ofNat 16 group,
                     count := BitVec.ofNat 32 n } m
  let got := v.members.filter fun m => decide (m = s.node) || !s.routeLive m
  let w := { v with got := got, sent := true, startAt := s.time.lea }
  if v.members.all got.contains then s1.endInval w .ok else { s1 with reel := { s1.reel with inval := some w } }

/-- Can an invalidation that waits no longer start by its deadline (R337)? -/
def State.lateInval (s : State) (v : Inval) : Bool := !v.sent && v.cmd.deadline != 0 && !before s.time.lea v.cmd.deadline

/-- It completes with LATE, and changes nothing (R337). -/
def State.dropInval (s : State) (v : Inval) : State := ({ s with reel := { s.reel with inval := none } }).done v.cmd .late

/-- The packets of an invalidation that waited for the end of a drain, unless its deadline has passed (R305, R337). -/
def State.wakeInval (s : State) : State :=
  match s.reel.inval with
  | some v => if v.sent then s
    else if s.lateInval v then s.dropInval v
    else s.sendInval v (BitVec.ofNat 16 (v.cmd.inl 20 2)) (BitVec.ofNat 16 (v.cmd.inl 22 2)) (v.cmd.inl 24 8) (v.cmd.inl 32 4) (v.cmd.inl 16 1)
  | none => s

/-- REEL_INVALIDATE (R279). -/
def execReelInvalidate (c : Cmd) (s : State) : Host.Outcome State Fault Refusal :=
  let o := c.field s 24 8
  let n := c.field s 32 4
  let group := s.reel.sharers.get none (c.field s 16 1)
  let bad := if group.isNone then some 16 else if o % 128 ≠ 0 ∨ o ≥ 2 ^ 48 then some 24 else if n = 0 ∨ n > 65536 then some 32 else none
  .next (selkan { op := 0x0405, named := [(16, 16), (20, 35)], long := true, needsJob := true } c { bad := bad } (fun s =>
    let v : Inval := { cmd := c, members := group.getD [], startAt := s.time.lea, sent := false }
    let s1 := { s with reel := { s.reel with inval := some v } }
    if s.reel.drain.isSome then s1 else s1.wakeInval) s)

/-- REEL_KEY_ROTATE (R442): both keys are admitted from now; KEY_ROTATION_END completes the command. -/
def execReelKeyRotate (c : Cmd) (s : State) : Host.Outcome State Fault Refusal :=
  let h := c.field s 16 2
  let key := BitVec.ofNat 32 (c.field s 20 4)
  let bad := match s.reel.regions.get none h with
    | none => some 16
    | some r => if key = 0 ∨ key = r.key then some 20 else none
  .next (selkan { op := 0x0406, named := [(16, 17), (20, 23)], long := true, needsJob := true } c { bad := bad } (fun s =>
    let turn (r : RegionReg) : RegionReg := { r with key := key, oldKey := some r.key, rotatedAt := s.time.lea }
    { s with reel := { s.reel with regions := s.reel.regions.mod none h fun r => r.map turn } }.setAux c h) s)

/-- KEY_ROTATION_END (R442): 250 µs after acceptance the old key is admitted no more; the command returns it. -/
def execKeyRotationEnd (s : State) : Host.Outcome State Fault Refusal :=
  .next (match s.lop 0x0406 with
    | some l => match s.reel.regions.get none l.aux with
      | some r => s.when (s.elapsed r.rotatedAt 250000) fun s =>
          { s with reel := { s.reel with regions := s.reel.regions.set none l.aux (some { r with oldKey := none }) } }.done l.cmd .ok
            (result [(20, 4, (r.oldKey.getD 0).toNat)])
      | none => s.done l.cmd .ok
    | none => s)

end Sys2Proof.Machine
end

