-- ==== Sys2Proof/Machine/Versions.lean ====
section
/-! DEFINITION. Configuration versions in force: comparing profiles, activating a slot, the watch window (chapter 18). -/

namespace Sys2Proof.Machine

/-! ### Profiles (R361) -/

/-- Do two versions agree in the POWER, CREEL, FABRIC, CAL, SECURITY profile? -/
def powerSame (a b : Settings) : Bool := decide (a.capW = b.capW) && decide (a.sagPct = b.sagPct)
def creelSame (a b : Settings) : Bool := decide (a.standing = b.standing) && decide (a.handoverMs = b.handoverMs)
def fabricSame (a b : Settings) : Bool :=
  decide (a.node = b.node) && decide (a.requestUs = b.requestUs) && decide (a.creditUs = b.creditUs) && decide (a.timeMaster = b.timeMaster) &&
    decide (a.gateway = b.gateway)
def calSame (a b : Settings) : Bool := decide (a.crossing = b.crossing) && decide (a.policy = b.policy)
def secSame (a b : Settings) : Bool := decide (a.keys = b.keys) && decide (a.trust = b.trust)

/-- Do they differ in the POWER profile, and in no other (R346, R367)? -/
def onlyPower (a b : Settings) : Bool :=
  !(decide (a.capW = b.capW) && decide (a.sagPct = b.sagPct)) && creelSame a b && fabricSame a b && calSame a b && secSame a b

/-- A 256-bit value that nothing constrains: a nonce (R295; DESIGN CHOICE, log 1). -/
def State.freeNonce (s : State) : BitVec 256 :=
  BitVec.ofNat 256 (leNat ((List.range 4).flatMap fun i => leBytes 8 (Config.word (s.free + i)).toNat))

/-- A port begins the proof of R295: a nonce is drawn, and neither verdict has come. -/
def State.prove (s : State) (p : Nat) : State :=
  { s.modRp p fun x => { x with nonce := s.freeNonce, ourVerdict := false, theirVerdict := false, proving := some s.time.lea } with free := s.free + 4 }

/-- Bring settings into force (R361): the power caps at once, CREEL at the next epoch commit, crossing modes at each
region's next RESET; with a new SECURITY profile every UP port proves again. -/
def State.putInForce (s : State) (n : Settings) : State :=
  let o := s.conf.inForce
  let s1 := { s with conf := { s.conf with inForce := n, creelDue := s.conf.creelDue || !creelSame o n } }
  let s2 := if powerSame o n then s1 else { s1 with pow := { s1.pow with capW := n.capW, sagPct := n.sagPct } }
  let s3 := s2.when (!fabricSame o n) fun s => s.forEach (List.range 8) fun p s => s.modRp p fun x => { x with gateway := n.gateway.getLsbD p }
  s3.when (!secSame o n) fun s => s.forEach ((List.range 8).filter fun p => decide ((s.rp p).state = .up)) fun p s => s.prove p

/-! ### Slots (R363-R365, R369) -/

/-- The active slot and the other one. -/
def Conf.activeIx (c : Conf) : Fin 2 := if c.slot.a.state = .active then 0 else 1
def Conf.active (c : Conf) : Slot := c.slot.get c.activeIx
def Conf.other (c : Conf) : Slot := c.slot.get (Sys2Proof.other c.activeIx)

/-- The other slot becomes ACTIVE, and the one it leaves KEPT (R365, R369). -/
def Conf.turn (c : Conf) : Conf :=
  let k := Sys2Proof.other c.activeIx
  { c with slot := (c.slot.mod c.activeIx fun x => { x with state := .kept }).mod k fun x => { x with state := .active } }

/-- Write the active slot's commit block with the activation sequence after the other's (R365). -/
def Conf.commit (c : Conf) : Conf :=
  { c with slot := c.slot.mod c.activeIx fun x => { x with actSeq := succ32 c.other.actSeq }, writePending := false }

/-- Activate the other slot. -/
def Conf.activate (c : Conf) : Conf := c.turn.commit

/-- CONFIG_APPLY steps 2 to 5 (R367): the commit block, the profiles, the OK entry, and the watch window, which a change of
the POWER body alone does not open. -/
def State.applyNow (s : State) (c : Cmd) : State :=
  let o := s.conf.active
  let n := s.conf.other
  let s1 := { s with conf := s.conf.activate }.putInForce n.settings
  let s2 := s1.done c .ok (result [(16, 4, n.version.toNat), (20, 4, o.version.toNat)])
  if onlyPower o.settings n.settings then s2
  else { s2 with conf := { s2.conf with
    watching := true
    until_ := s2.time.lea + 30000000000
    fabSecChanged := !fabricSame o.settings n.settings || !secSame o.settings n.settings } }

/-- Make the KEPT slot active and bring its profiles into force (R369); in HELD only the store is written. -/
def State.rollback (s : State) : State :=
  let n := s.conf.other
  let s1 := { s with conf := s.conf.activate }
  if s.mod.state = .held then s1 else s1.putInForce n.settings

/-- The watch window closes with a result (R368). -/
def State.closeWatch (s : State) (res : Nat) : State :=
  ({ s with conf := { s.conf with watching := false, lastResult := res } }).fire 0x324 res 0 s.conf.active.version.toNat

/-- A failed health check rolls back at once (R368, R370): with the write windows closed the commit block waits. -/
def State.autoRollback (s : State) (code : Nat) : State :=
  if s.conf.watching then
    let n := s.conf.other
    let conf := if s.nvmOpen then s.conf.activate else { s.conf.turn with writePending := true }
    let s1 := { s with conf := { conf with rollbackCause := 1 } }
    let s2 := if s.mod.state = .held then s1 else s1.putInForce n.settings
    (s2.bump Ctr.configAutoRollback).closeWatch code
  else s

end Sys2Proof.Machine
end

