-- ==== Sys2Proof/Machine/Regions.lean ====
section
/-! DEFINITION. Compute regions: state changes and the launches they end, region reset, parking, and PLLs that unlock
(chapters 4, 7, 20 and 22). -/

namespace Sys2Proof.Machine

/-! ### Region states (R101) -/

/-- STATE of REGION.STATE (R100). -/
def RState.code : RState → Nat
  | .off => 0 | .reset => 1 | .ready => 2 | .running => 3 | .halted => 4 | .parked => 5 | .test => 6

/-- States that end a waiting launch (R109). -/
def RState.refuses : RState → Bool
  | .off | .halted | .parked | .test => true
  | _ => false

/-- Remove a launch. -/
def State.dropLaunch (s : State) (n : BitVec 32) : State :=
  { s with job := { s.job with launches := s.job.launches.filter fun l => !decide (l.seqNo = n) } }

/-- Judge the waiting launches after a change of a region's state (R109). Those of a job that is ending wait for step 6
of R25. -/
def State.judgeLaunches (s : State) : State :=
  if s.job.fault = .none then
    s.forEach (s.job.launches.filter fun l => !l.running && (onesOf 16 l.mask).any fun r => (s.reg r).state.refuses) fun l s =>
      (s.dropLaunch l.seqNo).done l.cmd .badState
  else s

/-- A region enters a state: its event fires, and the waiting launches are judged. -/
def State.setRegion (s : State) (r : Nat) (st : RState) : State :=
  if (s.reg r).state = st then s
  else ((s.modReg r fun x => { x with state := st }).fire (16 * r + 7) st.code r).judgeLaunches

/-! ### Region reset (R421) -/

/-- A block after step 2: slots free, each with its generation advanced so that a late reply is stale (R75); the engine
idle. What an image loaded stays. -/
def BlockSt.cleared (b : BlockSt) : BlockSt :=
  { (onesOfSlots b).foldl (fun x i => x.release i) b with
    frozen := false, ringHold := false, grantNext := 0, schedRunning := false, schedPos := 0, schedAnchor := none, phases := [], groups := [] }
where
  /-- Slots that are held. -/
  onesOfSlots (b : BlockSt) : List Nat := (b.slots.filter fun e => decide (e.2.kind ≠ .free)).map (·.1)

/-- A cell after step 2: threads FREE, no tile, queue or request; marks of poisoned words stay (R97). -/
def CellSt.cleared (x : CellSt) : CellSt := { tileSeq := x.tileSeq, lastSeq := x.lastSeq, descNo := x.descNo, regBad := x.regBad }

/-- Step 2 of a region reset: threads, slots, cell queues, tokens and barriers are cleared. -/
def State.clearRegion (s : State) (r : Nat) : State :=
  let s1 := s.forEach ((List.range 16).map (· + 16 * r)) fun b s => s.modBlk b BlockSt.cleared
  let s2 := s1.forEach ((s.cell.filter fun e => decide (regionOfCell e.1 = r)).map (·.1)) fun c s => s.modCel c CellSt.cleared
  let s3 := s2.modReg r fun x =>
    { x with
      tokens := [], barriers := [], beats := 0, psAcc := 0, gate := 0
      slots := [], inject := [], lastSource := [], passed := [], waits := [], creditBack := [], captured := [], vc0 := [], credits := [], rsv := 0
      seam := { x.seam with queue := [], held := [] }, stn := { x.stn with queue := [], held := [] } }
  { s3 with reel := { s3.reel with mcLines := s3.reel.mcLines.filter fun l => !decide (l.tag / 4096 = r) } }

/-- A region enters RESET: its station is fenced, and it is cleared (R101, R421 steps 1 and 2). -/
def State.enterReset (s : State) (r : Nat) : State :=
  (((s.fence r).modReg r fun x => { x with resetAt := s.time.lea }).clearRegion r).setRegion r .reset

/-- Number of a crossing in the CAL profile: SEAM of die `d`, then STATION of region `r` (R150). -/
def crossingNo : Crossing → Nat
  | .seam d => d.val
  | .stn r => 8 + r.val

/-- Is either half of a compute die PARKED? -/
def State.halfParked (s : State) (d : Nat) : Bool := (s.reg (2 * d)).state = .parked || (s.reg (2 * d + 1)).state = .parked

/-- Must a crossing run in Queued mode (R155): the seam of halves whose set-points differ by more than 25 mV, or of which
one is PARKED? -/
def State.mustQueue (s : State) : Crossing → Bool
  | .seam d => decide (s.railGap d > 25) || s.halfParked d
  | .stn _ => false

/-- Calibrate a crossing at a region reset (R151), in the mode of the profile in force (R361): three voided attempts
raise the event. -/
def State.calibrateXing (s : State) (x : Crossing) (tries : List (Option Nat)) : State :=
  let cfg := s.conf.inForce.crossing.get 0 (crossingNo x)
  let s1 := s.modXing x fun y => ({ y with cfg := cfg }).calibrate tries
  let s2 := s1.when (s.mustQueue x) fun s => s.modXing x fun y => { y with mode := 1, detOk := false }
  s2.when (!(tries.take 3).any (·.isSome)) fun s => s.forEach (xingEnds x) fun r s => s.fire (16 * r + 5) 3 r 1

/-- Steps 3 to 6 of a region reset (R421, R187): rings that fail become FAULTY and narrow the map, both crossings are
calibrated, the station is unfenced and the region READY. -/
def State.finishReset (s : State) (r : Region) (x : ResetRead) : State :=
  let bad := (x.failed.filter fun i => decide (i.stn.val = r.val) && ringExists i).map ringIx
  let s1 := s.faultRings bad 5
  let s2 := (s1.calibrateXing (.seam ⟨r.val / 2, by omega⟩) x.seam).calibrateXing (.stn r) x.stn
  (s2.unfence r).setRegion r .ready

/-- Commands that end when the regions of their mask have left RESET: JOB_CLEAR, which then closes the job, and
REGION_UNPARK (R103, R391). `aux` is the mask. -/
def State.closeJob (s : State) : State :=
  { s with job := { prev := s.job.prev } }

/-- Have all regions of a mask left RESET and PARKED? -/
def State.outOfReset (s : State) (m : Nat) : Bool :=
  (onesOf 16 m).all fun r => !(s.reg r).state = .reset && !(s.reg r).state = .parked

/-- End JOB_CLEAR or REGION_UNPARK when its regions have come out of RESET. -/
def State.resetsDone (s : State) : State :=
  let s1 := match s.lop 0x0305 with
    | some l => s.when (s.outOfReset l.aux) fun s => s.closeJob.done l.cmd .ok (result [(16, 4, s.jobId.toNat)])
    | none => s
  match s1.lop 0x0704 with
  | some l => s1.when (s1.outOfReset l.aux) fun s => s.done l.cmd .ok
  | none => s1

/-- REGION_RESET (R101, R421): the reset of a region in RESET runs to its end. While the module is BOOTING its bring-up
resets the regions. -/
def execRegionReset (r : Region) (x : ResetRead) (s : State) : Host.Outcome State Fault Refusal :=
  .next (if (s.reg r).state = .reset && decide (s.mod.state = .ready) then (s.finishReset r x).resetsDone else s)

/-- REGION_RESET_TIMEOUT (R101, R431): a region still in RESET after 5 ms puts the module in HELD. -/
def execRegionResetTimeout (r : Region) (s : State) : Host.Outcome State Fault Refusal :=
  .next (if (s.reg r).state = .reset && decide (s.mod.state = .ready) && s.elapsed (s.reg r).resetAt 5000000 then s.enterHeld 0x0808 r.val else s)

/-! ### Parking (R391, R155) -/

/-- Set-point of a compute half: 750 mV and the guardband of its die (R414; PRESUMED, log 5). -/
def State.setPoint (s : State) (r : Nat) : Nat := 750 + s.plan.guard.get 0 (r / 2)

/-- First bad byte of a compute region mask at bytes 16 and 17. -/
def regionMaskBad (m : Nat) : Option Nat := if m = 0 then some 16 else none

/-- A half is parked: its seam goes to Queued, its station's bobbins are released, and its rail ramps to 550 mV. -/
def State.parkHalf (s : State) (r : Nat) : State :=
  let d : Fin 8 := ⟨r / 2 % 8, by omega⟩
  let was := (s.reg r).seam.mode
  let s1 := s.modXing (.seam d) fun y => { y with mode := 1, detOk := false }
  let s2 := s1.when (decide (was ≠ 1)) fun s => s.forEach (xingEnds (.seam d)) fun k s => s.fire (16 * k + 5) 1 k
  let s3 := (s2.fence r).setRegion r .parked
  { s3 with cal := { s3.cal with railTarget := s3.cal.railTarget.set 750 r 550 } }

/-- REGION_PARK (R155, R391): every half named and its sibling READY. Each named half is PARKED at once; the command ends
when the rails have reached the retention level. -/
def execRegionPark (c : Cmd) (s : State) : Host.Outcome State Fault Refusal :=
  let m := c.field s 16 2
  let ready (r : Nat) : Bool := (s.reg r).state = .ready
  .next (selkan { op := 0x0703, named := [(16, 17)], long := true } c
    { bad := regionMaskBad m, state := !(onesOf 16 m).all fun r => ready r && ready (2 * (r / 2) + (1 - r % 2)) } (fun s =>
    (s.setAux c m).forEach (onesOf 16 m) fun r s => s.parkHalf r) s)

/-- REGION_UNPARK (R391): the rails of the named halves, which are PARKED, ramp back to their set-points; then RESET. -/
def execRegionUnpark (c : Cmd) (s : State) : Host.Outcome State Fault Refusal :=
  let m := c.field s 16 2
  .next (selkan { op := 0x0704, named := [(16, 17)], long := true } c
    { bad := regionMaskBad m, state := !(onesOf 16 m).all fun r => decide ((s.reg r).state = .parked) } (fun s =>
    (s.setAux c m).forEach (onesOf 16 m) fun r s => { s with cal := { s.cal with railTarget := s.cal.railTarget.set 750 r (s.setPoint r) } }) s)

/-- One millivolt toward a target. -/
def toward (now target : Nat) : Nat := if now < target then now + 1 else if now > target then now - 1 else now

/-- A parked half whose rail is back at its set-point enters RESET (R391). -/
def State.unparked (s : State) (r : Nat) : State :=
  let t := s.cal.railTarget.get 750 r
  if (s.reg r).state = .parked && decide (t ≠ 550) && decide (s.cal.railNow.get 750 r = t) then s.enterReset r else s

/-- REGION_PARK ends when the rails of its halves stand at the retention level. -/
def State.parksDone (s : State) : State :=
  match s.lop 0x0703 with
  | some l => s.when ((onesOf 16 l.aux).all fun r => decide (s.cal.railNow.get 750 r = 550)) fun s => s.done l.cmd .ok
  | none => s

/-- A re-plan of a compute die takes its event and AGEING_REPLAN when the ramp of its halves, parked ones apart, has ended
(R413). -/
def State.replanned (s : State) (d : Nat) : State :=
  if s.cal.replanDue.get false d && ([2 * d, 2 * d + 1].all fun r => decide ((s.reg r).state = .parked) || decide (s.cal.railNow.get 750 r = s.cal.railTarget.get 750 r)) then
    ({ s with cal := { s.cal with replanDue := s.cal.replanDue.set false d false } }.bump Ctr.ageingReplan).fire 0x3F1 1 d (s.plan.guard.get 0 d)
  else s

/-- RAIL_RAMP_STEP (R391, R409, R410): the rails of both halves of a compute die move 1 mV toward their set-points. -/
def execRailRampStep (d : Fin 8) (s : State) : Host.Outcome State Fault Refusal :=
  let step (r : Nat) (t : Tab Nat) : Tab Nat := t.set 750 r (toward (t.get 750 r) (s.cal.railTarget.get 750 r))
  let moving := [2 * d.val, 2 * d.val + 1].any fun r => decide (s.cal.railNow.get 750 r ≠ s.cal.railTarget.get 750 r)
  let s1 := { s with cal := { s.cal with
    railNow := step (2 * d.val + 1) (step (2 * d.val) s.cal.railNow), rampAt := if moving then s.cal.rampAt.set 0 d s.time.lea else s.cal.rampAt } }
  .next (if s.mod.state = .ready then (((s1.unparked (2 * d.val)).unparked (2 * d.val + 1)).parksDone).replanned d else s)

/-! ### PLLs and Lea (R156, R160) -/

/-- Station of a die: its first (R13); the Skein, which has none, counts with X0. -/
def stationOfDie (d : Nat) : Nat := if d < 16 then 2 * d else if d < 18 then 16 + d else 32

/-- PLL_UNLOCK (R156): a PLL unlocks with the reference present: its die stamps PLL_UNLOCK. `relocked` says whether the
attempt to relock it succeeds; the third failure in a row leaves the module in HELD. -/
def execPllUnlock (d : DieIx) (relocked : Bool) (s : State) : Host.Outcome State Fault Refusal :=
  let n := s.time.relocks.get 0 d.val + 1
  let was := bit s.time.pllLock d.val
  let s1 := s.when was fun s => ({ s with time := { s.time with pllLock := s.time.pllLock - 2 ^ d.val } }).stamp 0x0307 d.val (stationOfDie d.val) |>.fire 0x311 0x0307 d.val
  .next (if !s.time.refPresent then s
    else if relocked then { s1 with time := { s1.time with pllLock := s1.time.pllLock + 2 ^ d.val, relocks := s1.time.relocks.set 0 d.val 0 } }
    else
      let s2 := { s1 with time := { s1.time with relocks := s1.time.relocks.set 0 d.val n } }
      if n ≥ 3 then s2.enterHeld 0x0307 d.val else s2)

/-- LEA_STEP (R160, R310): with no job open Lea is stepped by a signed number of ns. -/
def execLeaStep (c : Cmd) (s : State) : Host.Outcome State Fault Refusal :=
  .next (selkan { op := 0x0606, named := [(16, 23)], noJob := true } c {} (fun s =>
    let lea := s.time.lea + BitVec.ofNat 64 (c.field s 16 8)
    let s1 := ({ s with time := { s.time with lea := lea, stepped := true } }).fire 0x311 2 0 lea.toNat
    s1.done c .ok (result [(16, 8, lea.toNat)])) s)

end Sys2Proof.Machine
end

