-- ==== Sys2Proof/Machine/Images.lean ====
section
/-! DEFINITION. Kernel images as they lie in HBM: reading, checking and loading one (R104-R107). -/

namespace Sys2Proof.Machine

/-! ### Sections (R104) -/

/-- Where a section lands. -/
inductive SectStore where
  | cell | block | sched | none
deriving DecidableEq, Repr

/-- A directory entry (R104). -/
structure Sect where
  typ : Nat
  blocks : Nat
  cells : Nat
  dest : Nat
  len : Nat
  off : Nat
deriving DecidableEq, Repr

/-- A section from its 24 bytes. -/
def Sect.read (b : List Byte) : Sect :=
  { typ := fieldAt b 0 1, blocks := fieldAt b 2 2, cells := fieldAt b 4 2, dest := fieldAt b 8 4, len := fieldAt b 12 4, off := fieldAt b 16 8 }

/-- Entry size by TYPE (R104); 0 for a type that does not exist. -/
def sectEntry (t : Nat) : Nat := [0, 8, 40, 64, 16, 8, 4, 8, 1].getD t 0

/-- Store that a section is loaded into. CONSTANTS with no cell selected go to block stores. -/
def Sect.store (k : Sect) : SectStore :=
  match k.typ with
  | 1 | 2 => .cell
  | 3 => .block
  | 4 => .sched
  | 8 => if k.cells = 0 then .block else .cell
  | _ => .none

/-- Bytes of a store: cell store (R78), block store (R85), schedule memory of 4,096 entries (R120). -/
def SectStore.bytes : SectStore → Nat
  | .cell => 1048576 | .block => 8388608 | .sched => 65536 | .none => 4294967296

/-- Do two sections land on common bytes of a store? -/
def Sect.overlaps (a b : Sect) : Bool :=
  a.store != .none && a.store = b.store && (a.blocks &&& b.blocks) != 0 && (a.store != .cell || (a.cells &&& b.cells) != 0) &&
    decide (0 < a.len) && decide (0 < b.len) && decide (a.dest < b.dest + b.len) && decide (b.dest < a.dest + a.len)

/-- No section overruns another. -/
def apart : List Sect → Bool
  | [] => true
  | k :: ks => ks.all (fun x => !k.overlaps x) && apart ks

/-- Cut bytes into entries of `n` bytes. -/
def entriesOf (n : Nat) (bs : List Byte) : List (List Byte) := (List.range (bs.length / n)).map fun i => (bs.drop (n * i)).take n

/-- Body of a section. -/
def Sect.body (k : Sect) (bs : List Byte) : List Byte := (bs.drop k.off).take k.len

/-! ### Entries -/

/-- Is a tensor table entry one that R106 allows? -/
def tensorOk (b : List Byte) : Bool := decide (fieldAt b 0 1 ≤ 8) && decide (fieldAt b 2 6 = 0)

/-- Is a barrier table entry one that R119 allows? -/
def barrierOk (b : List Byte) : Bool :=
  decide (fieldAt b 1 1 ≤ 1) && decide (1 ≤ fieldAt b 2 2) && decide (fieldAt b 2 2 ≤ 2048) && (decide (fieldAt b 1 1 = 1) || decide (fieldAt b 0 1 < 0xF0))

/-- Linear block indexes that a section selects in the regions of a mask. -/
def Sect.blockList (k : Sect) (mask : Nat) : List Nat := (onesOf 16 mask).flatMap fun r => (onesOf 16 k.blocks).map fun b => 16 * r + b

/-- Is every entry of a section valid (R107)? -/
def Sect.entriesOk (k : Sect) (mask : Nat) (body : List Byte) : Bool :=
  match k.typ with
  | 2 => (entriesOf 40 body).all fun e => (ArrayProg.read e).valid
  | 3 => (entriesOf 64 body).all fun e => (k.blockList mask).all fun b => (Desc.read e).valid b
  | 4 => (entriesOf 16 body).all fun e => (SchedEntry.read e).valid (decide (fieldAt e 5 3 = 0))
  | 5 => (entriesOf 8 body).all tensorOk
  | 6 => (entriesOf 4 body).all barrierOk
  | _ => true

/-- Is a section well formed in an image of `n` bytes? -/
def Sect.ok (k : Sect) (b : List Byte) (n : Nat) : Bool :=
  decide (sectEntry k.typ ≠ 0) && decide (fieldAt b 1 1 = 0) && decide (fieldAt b 6 2 = 0) && decide (k.len % sectEntry k.typ = 0) &&
    decide (k.off + k.len ≤ n) && decide (k.dest + k.len ≤ k.store.bytes)

/-! ### The image (R104, R107) -/

/-- Capability bits that the module reports, as CAPS names them (R316, R104). -/
def Fuse.caps (f : Fuse) : Nat := bitsOf [f.gateway, f.mcast, f.cmap, f.bar2OneTiB]

/-- Lowest compute-die revision of the module's dies (R107). -/
def Fuse.minRev (f : Fuse) : Nat := ((List.range 8).map fun d => f.dieRev.get 0 d).foldl min 255

/-- The directory of an image. -/
def sectsOf (bs : List Byte) : List Sect := (List.range (fieldAt bs 6 2)).map fun i => Sect.read ((bs.drop (64 + 24 * i)).take 24)

/-- Entries of all sections of a type, in order. -/
def tableOf (bs : List Byte) (t : Nat) : List (List Byte) :=
  ((sectsOf bs).filter fun k => decide (k.typ = t)).flatMap fun k => entriesOf (sectEntry t) (k.body bs)

/-- Is the header right (R104, R107)? -/
def State.headerOk (s : State) (bs : List Byte) : Bool :=
  decide (64 ≤ bs.length) && decide (fieldAt bs 0 4 = 0x4A584B49) && decide (fieldAt bs 4 2 = 1) && decide (fieldAt bs 8 4 = bs.length) &&
    decide (bs.length ≤ 268435456) && decide (fieldAt bs 13 3 = 0) && decide (fieldAt bs 24 36 = 0) && decide (1 ≤ fieldAt bs 6 2) && decide (fieldAt bs 6 2 ≤ 64) &&
    decide (64 + 24 * fieldAt bs 6 2 ≤ bs.length) && decide (fieldAt bs 16 2 ≤ 4096) && decide (fieldAt bs 18 2 ≤ 256) &&
    decide (fieldAt bs 12 1 ≤ s.fuse.minRev) && decide (fieldAt bs 20 4 &&& s.fuse.caps = fieldAt bs 20 4) &&
    decide (crc32 (bs.take 60 ++ [0, 0, 0, 0] ++ bs.drop 64) = fieldAt bs 60 4)

/-- Does an image pass the checks of R107 for the regions of a mask, but for its tensor guard slots (DEDUCED, log 154)? -/
def State.imageOk (s : State) (mask : Nat) (bs : List Byte) : Bool :=
  let ks := sectsOf bs
  s.headerOk bs && (ks.zipIdx.all fun k => k.1.ok ((bs.drop (64 + 24 * k.2)).take 24) bs.length) && apart ks &&
    (ks.all fun k => k.entriesOk mask (k.body bs)) && decide ((tableOf bs 5).length = fieldAt bs 16 2) && decide ((tableOf bs 6).length = fieldAt bs 18 2)

/-! ### Tensor guard slots (R64, R106) -/

/-- First slot of the lowest-numbered free run of `n`, looking from slot `i` on with a run of `k` behind it. -/
def freeRun (g : Tab Guard) (n : Nat) : Nat → Nat → Nat → Option Nat
  | 0, i, k => if k ≥ n then some (i - k) else none
  | left + 1, i, k => if k ≥ n then some (i - k) else freeRun g n left (i + 1) (if (g.get {} i).valid then 0 else k + 1)

/-- First slot for an image of `n` tensors; 0 when it has none. -/
def State.guardRun (s : State) (n : Nat) : Option Nat := freeRun s.guard n 4096 0 0

/-- The slot of a tensor table entry (R106). -/
def guardOf (job : BitVec 32) (b : List Byte) : Guard :=
  let f := fieldAt b 1 1
  { valid := true, job := job, amaxEn := bit f 0, delayed := bit f 1, margin := f / 4 % 4, depth := f / 16, format := fieldAt b 0 1 }

/-- Give the tensors of an image their slots. -/
def State.giveGuards (s : State) (first : Nat) (ts : List (List Byte)) : State :=
  s.forEach ts.zipIdx fun t s => s.modGuard (first + t.2) fun _ => guardOf s.jobId t.1

/-- Free the slots of an image (R107; the counters run on: DEDUCED, log 151). -/
def State.freeGuards (s : State) (im : Image) : State :=
  s.forEach ((List.range im.tensors).map (· + im.firstSlot)) fun t s => s.modGuard t fun _ => {}

/-! ### Loading (R104, R107) -/

/-- Put entries into a schedule memory from entry `at_` on; entries never loaded are END. -/
def putSched (old : List SchedEntry) (at_ : Nat) (new : List SchedEntry) : List SchedEntry :=
  (old ++ List.replicate (at_ - old.length) (SchedEntry.read [])).take at_ ++ new ++ old.drop (at_ + new.length)

/-- Copy a section into the stores of the regions of a mask. -/
def State.loadSect (s : State) (mask : Nat) (k : Sect) (body : List Byte) : State :=
  match k.store with
  | .cell => s.forEach ((k.blockList mask).flatMap fun b => (onesOf 16 k.cells).map fun c => 16 * b + c) fun c s =>
      { s with mems := s.mems.writeSram (cellSram c k.dest) body }
  | .block => s.forEach (k.blockList mask) fun b s =>
      { s with mems := s.mems.writeSram (blockSram b k.dest) body }
  | .sched => s.forEach (k.blockList mask) fun b s => s.modBlk b fun x => { x with sched := putSched x.sched (k.dest / 16) ((entriesOf 16 body).map SchedEntry.read) }
  | .none => s

/-- ENTRY sections: each entry with the blocks and cells of its section (R104). -/
def entryPoints (bs : List Byte) : List EntryPoint :=
  ((sectsOf bs).filter fun k => decide (k.typ = 7)).flatMap fun k => (entriesOf 8 (k.body bs)).map fun e =>
    { blockMask := k.blocks, cellMask := k.cells, thread := fieldAt e 0 1 % 8, addr := fieldAt e 4 4 }

/-- What the Spindle pair keeps of an image. -/
def imageOf (handle : BitVec 32) (mask first : Nat) (bs : List Byte) : Image :=
  { handle := handle, mask := mask, entries := entryPoints bs, firstSlot := first, tensors := fieldAt bs 16 2
    descs := ((sectsOf bs).filter fun k => decide (k.typ = 3)).map fun k => (k.blocks, k.dest, k.len / 64)
    barriers := (tableOf bs 6).map fun e => (fieldAt e 0 1, decide (fieldAt e 1 1 = 1), fieldAt e 2 2) }

/-- Load an image: guard slots, sections, and its handle. -/
def State.loadImage (s : State) (mask first : Nat) (bs : List Byte) : State :=
  let ks := sectsOf bs
  let s1 := s.giveGuards first (tableOf bs 5)
  let s2 := s1.forEach ks fun k s => s.loadSect mask k (k.body bs)
  { s2 with job := { s2.job with images := s2.job.images ++ [imageOf s2.job.nextHandle mask first bs], nextHandle := s2.job.nextHandle + 1, used := s2.job.used ||| mask } }

end Sys2Proof.Machine
end

