-- ==== Sys2Proof/Machine/Jobs.lean ====
section
/-! DEFINITION. Jobs, images, launches and the job-fault sequence (R25, R26, R103-R109, R337, R341). -/

namespace Sys2Proof.Machine

/-! ### Jobs (R103) -/

/-- JOB_OPEN (R103, R160, R368, R428): not while a watch window is open or a repair is pending (launches and handles count
from 1: DESIGN CHOICE, log 155). -/
def execJobOpen (c : Cmd) (s : State) : Host.Outcome State Fault Refusal :=
  .next (selkan { op := 0x0301, noJob := true } c { state := s.conf.watching || !s.card.pending.isEmpty } (fun s =>
    let id := succ32 s.job.prev
    ({ s with
      job := { open_ := some id, prev := id }
      time := { s.time with stepped := false }
      creel := { s.creel with maxNs := 0 } }).done c .ok (result [(16, 4, id.toNat)])) s)

/-- What the registers count "since job-clear" is zeroed (R101, R148, R161 and others). -/
def RegionSt.jobCleared (x : RegionSt) : RegionSt :=
  { x with
    ueSeen := 0, ceSeen := 0, rangeSeen := false, poisonSeen := false, ringCe := 0, ringUe := 0, trips := 0, deepest := 0, hsWorst := 0, gateHolds := 0
    seam := { x.seam with slipMax := 0 }, stn := { x.stn with slipMax := 0 } }

/-- The job's tables are stopped and unloaded (R103, R205). A TABLE_START that has not completed ends with BAD_STATE, for its job is no
longer open (DESIGN CHOICE, log 144). -/
def State.freeTables (s : State) : State :=
  let s1 := s.when s.creel.run.isSome (·.stopTable)
  let s2 := (s1.creel.table.map (·.1)).foldl (fun s h => s.unloadTable h) { s1 with creel := { s1.creel with start := none } }
  s2.endLops (fun l => decide (l.opcode = 0x0504)) .badState 0

/-- Everything made under the job's identifier goes: tables, images, guard slots with their counters, Reel regions and
groups, cached remote lines (R64, R103, R205, R258, R268). -/
def State.freeJob (s : State) : State :=
  let s1 := s.freeTables
  let s2 := s1.forEach ((s1.ply.filter fun p => decide (p.2.state ≠ .idle)).map (·.1)) fun p s => s.idlePort p
  let s3 := s2.forEach (s2.ply.map (·.1)) fun p s => s.modPly p fun x => { x with proofMiss := 0 }
  let s4 := s3.forEach (s3.reel.regions.map (·.1)) fun h s => s.deregister h
  let s5 := s4.forEach (List.range 16) fun k s => s.modStk k fun x => { x with ceSeen := false }
  let s6 := s5.forEach (List.range 16) fun r s => s.modReg r RegionSt.jobCleared
  { s6 with
    job := { s6.job with images := [] }
    guard := []
    obs := { s6.obs with counters := s6.obs.counters.clear 0x01800000 0x01840000 }
    memory := { s6.memory with rcache := [] }
    reel := { s6.reel with sharers := [], mcast := [] } }

/-- Regions that JOB_CLEAR resets: those the job loaded an image in, and those its fault halted; one without power or
parked has nothing to reset. -/
def State.jobRegions (s : State) : List Nat :=
  (List.range 16).filter fun r => match (s.reg r).state with
    | .halted => true
    | .ready | .running | .reset => bit s.job.used r
    | _ => false

/-- JOB_CLEAR (R103, R341, R421): frees everything of the job, resets its regions, and closes it when they are READY. A
region for which `rr` gives no readings stays in RESET until its REGION_RESET. -/
def execJobClear (c : Cmd) (rr : ResetReads) (s : State) : Host.Outcome State Fault Refusal :=
  .next (selkan { op := 0x0305, long := true, needsJob := true } c { busy := if s.job.launches.isEmpty then none else some 0 } (fun s =>
    let rs := s.jobRegions
    let s1 := ((s.setAux c (bitsOf ((List.range 16).map rs.contains))).freeJob).forEach rs fun r s => s.enterReset r
    let s2 := s1.forEach ((List.finRange 16).filter fun r => rs.contains r.val) fun r s => match rr.find? fun x => decide (x.1 = r.val) with
      | some x => s.finishReset r x.2
      | none => s
    s2.resetsDone) s)

/-! ### Images (R107) -/

/-- LOAD_IMAGE (R64, R107): every fault of the image names byte 16. -/
def execLoadImage (c : Cmd) (s : State) : Host.Outcome State Fault Refusal :=
  let a := c.field s 16 8
  let n := c.field s 24 4
  let m := c.field s 28 2
  let img := (readSpace s (c.port s) 1 a n).filter (s.imageOk m)
  let first := img.bind fun bs => s.guardRun (fieldAt bs 16 2)
  let st (r : Nat) : RState := (s.reg r).state
  .next (selkan { op := 0x0302, named := [(16, 29)], long := true, needsJob := true } c
    { bad := if decide (n < 64) || decide (n > 268435456) then some 24 else if m = 0 then some 28 else if s.jobOpen && first.isNone then some 16 else none
      state := (onesOf 16 m).any fun r => st r != .ready && st r != .running
      busy := if ((onesOf 16 m).any fun r => st r = .running) || decide (s.job.images.length ≥ 64) then some 0 else none
      reads := some (a, n) } (fun s =>
    match img, first with
    | some bs, some f => (s.loadImage m f bs).done c .ok (result [(16, 4, s.job.nextHandle.toNat), (20, 2, f)])
    | _, _ => s.done c .badParam) s)

/-- Is a launch of the image waiting or running? -/
def State.imageUsed (s : State) (h : BitVec 32) : Bool := s.job.launches.any fun l => decide (l.image = h)

/-- UNLOAD_IMAGE (R107): the image's slots are free; its stores are left as they are. -/
def execUnloadImage (c : Cmd) (s : State) : Host.Outcome State Fault Refusal :=
  let h : BitVec 32 := BitVec.ofNat 32 (c.field s 16 4)
  .next (selkan { op := 0x0303, named := [(16, 19)], needsJob := true } c
    { bad := if s.jobOpen && (s.image h).isNone then some 16 else none, busy := if s.imageUsed h then some 0 else none } (fun s =>
    match s.image h with
    | some im =>
      let s1 := s.freeGuards im
      ({ s1 with job := { s1.job with images := s1.job.images.filter fun i => !decide (i.handle = h) } }).done c .ok
    | none => s.done c .badParam) s)

/-! ### Launches (R108, R109) -/

/-- First wrong parameter of a LAUNCH. -/
def State.launchBad (s : State) (c : Cmd) : Option Nat :=
  let m := c.field s 20 2
  let im := s.image (BitVec.ofNat 32 (c.field s 16 4))
  if s.jobOpen && im.isNone then some 16
  else if m = 0 then some 20
  else if (im.map fun i => decide (m &&& i.mask = m)) = some false then some 20
  else if c.field s 22 1 > 1 then some 22
  else if c.field s 32 4 > 1000000 then some 32
  else if c.field s 36 4 > 65536 then some 36
  else if c.field s 36 4 > 0 ∧ c.field s 40 8 + c.field s 36 4 > hbmBytes then some 40
  else none

/-- The launch that a LAUNCH asks for. -/
def State.newLaunch (s : State) (c : Cmd) : Launch :=
  { cmd := c, seqNo := s.job.launchSeq + 1, image := BitVec.ofNat 32 (c.field s 16 4), mask := c.field s 20 2, replay := decide (c.field s 22 1 = 1)
    seed := BitVec.ofNat 64 (c.field s 24 8), barrierUs := if c.field s 32 4 = 0 then 1000 else c.field s 32 4, argBytes := c.field s 36 4, argAddr := c.field s 40 8 }

/-- LAUNCH (R25, R108, R109, R156): the launch waits behind those before it. -/
def execLaunch (c : Cmd) (s : State) : Host.Outcome State Fault Refusal :=
  .next (selkan { op := 0x0304, named := [(16, 22), (24, 47)], long := true, needsJob := true } c
    { bad := s.launchBad c
      state := decide (s.job.fault ≠ .none) || s.refOut || (onesOf 16 (c.field s 20 2)).any fun r => (s.reg r).state.refuses
      busy := if (s.job.launches.filter fun l => !l.running).length ≥ 64 then some 0 else none } (fun s =>
    { s with job := { s.job with launches := s.job.launches ++ [s.newLaunch c], launchSeq := s.job.launchSeq + 1 } }) s)

/-- Copy the argument block to offset 0 of every block store in the mask (R108). A poisoned line that it reads is
consumed (R250). -/
def State.copyArgs (s : State) (l : Launch) : State :=
  if l.argBytes = 0 then s
  else
    let bad := s.mems.hbmBad l.argAddr l.argBytes
    let bs := s.mems.hbm.read l.argAddr l.argBytes
    let s1 := s.when bad fun s => s.consume 1 l.argAddr l.argBytes
    s1.forEach ((onesOf 16 l.mask).flatMap fun r => (List.range 16).map (· + 16 * r)) fun b s => { s with mems := s.mems.writeSram (blockSram b 0) bs bad }

/-- The schedule engine of a block starts at entry 0 of the schedule memory, whichever image of the job or of an earlier one loaded
it (R108, R121; DESIGN CHOICE, log 132). A block whose schedule memory is empty has none. -/
def BlockSt.begin (x : BlockSt) (now : Nat) : BlockSt :=
  { x with
    schedRunning := !x.sched.isEmpty, schedPos := 0, schedPrev := now, schedStart := now, phases := []
    schedAnchor := match x.sched.head? with
      | some e => if e.anchor = 1 ∧ e.anchorId = 0 then some now else none
      | none => none }

/-- Barriers of an image, none arrived (R119). -/
def Image.barrierTab (im : Image) : Tab Barrier :=
  im.barriers.foldl (fun t b => t.set {} b.1 { moduleScope := b.2.1, participants := b.2.2 }) []

/-- A region begins a launch (R108): tokens and barriers cleared, token 0 signalled, schedules started. -/
def State.beginRegion (s : State) (im : Image) (r : Nat) : State :=
  let s1 := s.modReg r fun x => { x with job := s.jobId, tokens := Tab.set [] 0 0 1, barriers := im.barrierTab, peak := 0, slotsFullMax := 0, vc0Max := 0, injWaitMax := [] }
  let s2 := s1.forEach ((List.range 16).map (· + 16 * r)) fun b s => s.modBlk b fun x => x.begin (s.reg r).beats
  s2.setRegion r .running

/-- Threads that the ENTRY section names are READY (R108). -/
def State.beginThreads (s : State) (l : Launch) (e : EntryPoint) : State :=
  s.forEach ((onesOf 16 l.mask).flatMap fun r => (onesOf 16 e.blockMask).flatMap fun b => (onesOf 16 e.cellMask).map fun k => 256 * r + 16 * b + k) fun c s =>
    s.modThr c e.thread fun x => { x with state := .ready, ip := e.addr, waiting := .none, issued := 0, posted := 0 }

/-- A launch starts (R108). -/
def State.beginLaunch (s : State) (l : Launch) (im : Image) : State :=
  let s1 := (s.copyArgs l).modLaunch l.seqNo fun x => { x with running := true, startAt := s.time.lea }
  let s2 := s1.forEach ((List.range im.tensors).map (· + im.firstSlot)) fun t s => s.modGuard t fun g => { g with nanSeen := false, infSeen := false }
  (s2.forEach (onesOf 16 l.mask) fun r s => s.beginRegion im r).forEach im.entries fun e s => s.beginThreads l e

/-- LAUNCH_START (R108, R337): the first launch that waits starts once every region in its mask is READY; one that can no
longer start by its deadline completes with LATE. -/
def execLaunchStart (s : State) : Host.Outcome State Fault Refusal :=
  .next (match s.job.launches.find? fun l => !l.running with
    | some l =>
      if l.cmd.deadline != 0 && !before s.time.lea l.cmd.deadline then (s.dropLaunch l.seqNo).done l.cmd .late
      else match s.image l.image with
        | some im => if s.job.fault = .none && (onesOf 16 l.mask).all fun r => (s.reg r).state = .ready then s.beginLaunch l im else s
        | none => s
    | none => s)

/-- Has everything of a region ended: threads FREE, descriptors completed, tiles released, schedules at END? -/
def State.regionIdle (s : State) (r : Nat) : Bool :=
  (s.cell.all fun e => decide (regionOfCell e.1 ≠ r) || (e.2.threads.all fun t => decide (t.2.state = .free)) && e.2.queue.isEmpty && e.2.exec.isNone && e.2.queued.isNone) &&
    s.block.all fun e => decide (regionOfBlock e.1 ≠ r) || !e.2.schedRunning

/-- AMAX of a tracked tensor becomes the newest entry of its history (R68). -/
def Guard.push (g : Guard) : Guard := if g.amaxEn then { g with hist := (g.amax :: g.hist).take (g.depth + 1), amax := 0 } else g

/-- Result of a launch (R108). -/
def State.launchResult (s : State) (l : Launch) : BitVec 128 :=
  result [(16, 4, s.jobId.toNat), (20, 4, l.seqNo.toNat), (24, 1, l.marks), (25, 1, min l.deferrals 255), (28, 4, min (since l.startAt s.time.lea / 1000) 0xFFFFFFFF)]

/-- LAUNCH_COMPLETE (R68, R108): launch `n` of a job without a cause has ended everything it started. -/
def execLaunchComplete (n : Nat) (s : State) : Host.Outcome State Fault Refusal :=
  .next (match s.job.launches.find? fun l => l.running && decide (l.seqNo.toNat = n) with
    | some l =>
      if s.job.causes.isEmpty && (onesOf 16 l.mask).all fun r => s.regionIdle r then
        let s1 := match s.image l.image with
          | some im => s.forEach ((List.range im.tensors).map (· + im.firstSlot)) fun t s => s.modGuard t Guard.push
          | none => s
        ((s1.dropLaunch l.seqNo).forEach (onesOf 16 l.mask) fun r s => s.setRegion r .ready).done l.cmd .ok (s.launchResult l)
      else s
    | none => s)

/-- DEADLINE_EXPIRY (R337): a launch, or a REEL_INVALIDATE held by a drain, that still waits at its deadline completes with LATE and
changes nothing. -/
def execDeadlineExpiry (q : Queue) (seq : BitVec 32) (s : State) : Host.Outcome State Fault Refusal :=
  .next (match s.job.launches.find? fun l => !l.running && decide (l.cmd.queue = q) && decide (l.cmd.seq = seq) with
    | some l => if l.cmd.deadline != 0 && !before s.time.lea l.cmd.deadline then (s.dropLaunch l.seqNo).done l.cmd .late else s
    | none => match s.reel.inval with
      | some v => s.when (decide (v.cmd.queue = q) && decide (v.cmd.seq = seq) && s.lateInval v) fun s => s.dropInval v
      | none => s)

/-! ### The job fault (R25, R26) -/

/-- JOB_ABORT (R341): the open job ends by the sequence of R25 with cause HOST_ABORT, stamped at the issuing port's I/O die;
one that has ended already is aborted. -/
def execJobAbort (c : Cmd) (s : State) : Host.Outcome State Fault Refusal :=
  .next (selkan { op := 0x0306, long := true, needsJob := true } c {} (fun s =>
    if s.job.fault = .done then s.done c .ok (result [(16, 4, s.jobId.toNat)]) else s.stamp 0x0701 0 (32 + (c.port s).val)) s)

/-- The threads of a halted region that hold a program are FAULTED (R25 step 3, R84). -/
def State.faultThreads (s : State) (r : Nat) : State :=
  s.forEach ((s.cell.filter fun e => decide (regionOfCell e.1 = r)).flatMap fun e =>
    (e.2.threads.filter fun t => decide (t.2.state ≠ .free)).map fun t => (e.1, t.1)) fun w s => s.park w.1 w.2 .faulted

/-- JOB_FAULT (R25 steps 2 to 4): with a cause stamped, launches are refused, every region halts issue, and the Creel
withdraws the job's bobbins and stops its table. -/
def execJobFault (s : State) : Host.Outcome State Fault Refusal :=
  .next (if s.jobOpen && decide (s.job.fault = .none) && !s.job.causes.isEmpty then
      let s1 := { s with job := { s.job with fault := .draining } }
      let s2 := s1.forEach ((List.range 16).filter fun r => decide ((s.reg r).state = .running)) fun r s => (s.setRegion r .halted).faultThreads r
      s2.when s2.creel.run.isSome (·.stopTable)
    else s)

/-- CONTEXT of a JOB_FAULT record (R456). -/
def Cause.context (c : Cause) (snap : List Word) : List Byte :=
  leBytes 8 c.cookie.toNat ++ leBytes 4 c.cell ++ leBytes 4 c.ip ++ leBytes 8 c.tile ++ leBytes 8 c.addr ++ snap.flatMap fun w => leBytes 8 w.toNat

/-- The record of a job's end (R26, R455). -/
def State.faultRec (s : State) (p : Cause) : Rec :=
  let rest := secondaries s.job.causes
  { kind := 1, job := s.jobId, stamp := p.stamp, cause := p.code, index := p.index, secondaries := rest.length
    secondary := (rest.take 7).map fun c => (c.code, c.index, c.stamp), context := p.context s.job.snap }

/-- Requests that the job's end abandons: their slots are free, and late replies are stale (R25 step 5, R75). -/
def State.abandonSlots (s : State) : State :=
  let s1 := s.forEach (s.block.map (·.1)) fun b s => s.modBlk b fun x => (BlockSt.cleared.onesOfSlots x).foldl (fun y i => y.release i) x
  { s1 with reel := { s1.reel with mcLines := [] } }

/-- JOB_FAULT_DRAIN_END (R25 steps 5 and 6, R26, R341): the drain is over: the record is written, the job's launches
complete with FAULT, then JOB_ABORT. -/
def execJobFaultDrainEnd (s : State) : Host.Outcome State Fault Refusal :=
  .next (match primary s.job.causes with
    | some p =>
      if s.job.fault = .draining then
        let s1 := s.abandonSlots
        let s2 := ({ s1 with job := { s1.job with fault := .done } }).makeRec (s.faultRec p)
        let s3 := s2.forEach s2.job.launches fun l s => s.done l.cmd .fault (result [(16, 4, s.jobId.toNat), (24, 4, p.code)])
        ({ s3 with job := { s3.job with launches := [] } }).endLops (fun l => decide (l.opcode = 0x0306)) .ok (result [(16, 4, s.jobId.toNat)])
      else s
    | none => s)

end Sys2Proof.Machine
end

