-- ==== Sys2Proof/Machine/Evc.lean ====
section
/-! DEFINITION. The event controller: firing, delivery, end of service, glitches (chapter 19). -/

namespace Sys2Proof.Machine

/-- Does a source at a target count as ACTIVE? -/
def SrcAt.serving (x : SrcAt) : Bool := x.state = .active || x.state = .activePending

/-- Sources at a target that are not IDLE, with their numbers. -/
def Obs.atTarget (o : Obs) (t : Nat) : List (Nat × SrcAt) := (o.src.filter fun e => decide (e.1 % 4 = t)).map fun e => (e.1 / 4, e.2)

/-- RUN of a target: highest priority among the sources ACTIVE there (R376). -/
def Obs.run (o : Obs) (t : Nat) : Nat := ((o.atTarget t).filter fun e => e.2.serving).foldl (fun m e => max m (srcPrio e.1)) 0

/-- DEPTH of a target: sources ACTIVE there. -/
def Obs.depth (o : Obs) (t : Nat) : Nat := ((o.atTarget t).filter fun e => e.2.serving).length

/-- Does `a` come before `b` in delivery (R376): priority, then made PENDING by an end of service, then number? -/
def deliversFirst (a b : Nat × SrcAt) : Bool :=
  decide (srcPrio a.1 > srcPrio b.1) || (decide (srcPrio a.1 = srcPrio b.1) && ((a.2.again && !b.2.again) || (decide (a.2.again = b.2.again) && decide (a.1 < b.1))))

/-- The eligible source that a target is given next (R376). -/
def Obs.next (o : Obs) (t : Nat) : Option (Nat × SrcAt) :=
  ((o.atTarget t).filter fun e => decide (e.2.state = .pending) && decide (srcPrio e.1 ≥ thresh t) && decide (srcPrio e.1 > o.run t)).foldl
    (fun acc e => match acc with | none => some e | some b => if deliversFirst e b then some e else some b) none

/-- End of service at one target (R375). -/
def SrcAt.ended (x : SrcAt) : SrcAt :=
  match x.state with
  | .active => {}
  | .activePending => { x with state := .pending, again := true, served := [] }
  | _ => x

/-- Change the state of a source at a target. -/
def State.modSrc (s : State) (src t : Nat) (f : SrcAt → SrcAt) : State := { s with obs := s.obs.setSrc src t (f (s.obs.srcAt src t)) }

/-- Service of host `h` ends for every source being served there (R379). -/
def State.endService (s : State) (h : Port) : State :=
  s.forEach (((s.obs.atTarget (2 + h.val)).filter fun e => e.2.serving).map (·.1)) fun src s => s.modSrc src (2 + h.val) SrcAt.ended

/-- The event queue of a port: its lowest-numbered ACTIVE one (R377). -/
def HostSide.eventQueue (x : HostSide) (p : Port) : Option Nat :=
  (x.queues.find? fun e => decide (e.2.kind = .event) && decide (e.2.state = .active) && decide (e.2.port = p)).map (·.1)

/-- An event record but for its phase bit (R377). -/
def recordBytes (src : Nat) (x : SrcAt) (evseq : BitVec 24) (repeat_ sole : Bool) : List Byte :=
  leBytes 2 src ++ leBytes 1 (srcPrio src) ++ leBytes 1 x.merged ++ leBytes 3 evseq.toNat ++ leBytes 1 (bitsOf [false, repeat_, sole]) ++
    leBytes 8 x.stamp.toNat ++ leBytes 4 x.code.toNat ++ leBytes 4 x.index.toNat ++ leBytes 8 x.value.toNat

/-- A record with the phase bit of the slot it goes to (R325). -/
def withPhase (bs : List Byte) (q : QueueSt) : List Byte := bs.take 7 ++ [(bs.getD 7 0) ||| (if q.phase then 1 else 0)] ++ bs.drop 8

/-- Write a record into event queue `n` (R325, R326). -/
def State.putRecord (s : State) (n : Nat) (bs : List Byte) : State :=
  let q := s.queue n
  { s with host := s.host.advance n, mems := s.mems.writeRing q q.slotAddr (withPhase bs q) }

/-- Next EVSEQ of a target, and whether it waits. -/
def State.modTarget (s : State) (t : Nat) (f : TargetSt → TargetSt) : State := { s with obs := { s.obs with target := s.obs.target.mod {} t f } }

/-- The source delivered is ACTIVE, and EVSEQ advances (R375, R377). -/
def State.delivered (s : State) (src t : Nat) (served : List Byte) : State :=
  (s.modSrc src t fun x => { x with state := .active, merged := 0, again := false, served := served }).modTarget t fun x => { evseq := x.evseq + 1, waiting := false }

/-- A delivery waits for an event queue or ring room (R377): counted once for each wait. -/
def State.hostWait (s : State) (t : Nat) : State :=
  (s.when (!(s.obs.target.get {} t).waiting) (·.bump Ctr.evcHostWait)).modTarget t fun x => { x with waiting := true }

/-- Target `b` takes a copy of the state of target `a`: its sources, RUN and EVSEQ (R373). -/
def Obs.copyTarget (o : Obs) (a b : Nat) : Obs :=
  let bare := { o with src := o.src.filter fun e => decide (e.1 % 4 ≠ b), target := o.target.set {} b (o.target.get {} a) }
  (o.atTarget a).foldl (fun o e => o.setSrc e.1 b e.2) bare

/-- EVENT_FIRE (R375): a source fires. -/
def execEventFire (src : Source) (code index : Nat) (value : BitVec 64) (s : State) : Host.Outcome State Fault Refusal :=
  .next (s.when (!(s.pow.supply = .off)) fun s => s.fire src.val code index value.toNat)

/-- Deliver at a host target. -/
def State.deliverHost (s : State) (h : Port) : State :=
  let t := 2 + h.val
  match s.obs.next t with
  | some (src, x) => match s.host.eventQueue h with
    | some n =>
      if (s.queue n).room then
        let bs := recordBytes src x (s.obs.target.get {} t).evseq false (!s.spin.inStep)
        (s.putRecord n bs).delivered src t bs
      else s.hostWait t
    | none => s.hostWait t
  | none => s

/-- The source being served whose priority is RUN. -/
def Obs.running (o : Obs) (t : Nat) : Option Nat := ((o.atTarget t).find? fun e => e.2.serving && decide (srcPrio e.1 = o.run t)).map (·.1)

/-- Deliver at a Spindle target while its Spindle is ACTIVE or STANDBY; with no source eligible, the firmware ends the
service of the running one. -/
def State.deliverSpindle (s : State) (d : IoDie) : State :=
  if (s.spin.spindle.get d).state.live then
    match s.obs.next d.val with
    | some (src, _) => s.delivered src d.val []
    | none => match s.obs.running d.val with
      | some src => s.modSrc src d.val SrcAt.ended
      | none => s
  else s

/-- EVENT_DELIVER (R373, R376, R377): the controller delivers the next eligible source at a target. -/
def execEventDeliver (t : Target) (s : State) : Host.Outcome State Fault Refusal :=
  .next (if s.pow.supply = .off then s
    else if t = 0 then s.deliverSpindle 0 else if t = 1 then s.deliverSpindle 1 else if t = 2 then s.deliverHost 0 else s.deliverHost 1)

/-- Does a host access reach the module: the port's link is up (R312, R358)? -/
def State.portLive (s : State) (p : Port) : Bool := (s.host.ports.get p).up && s.spin.present.get p

/-- HOST_EOS (R378): host `p` ends its service of the source in bits [9:0]. -/
def execHostEos (p : Port) (value : BitVec 64) (s : State) : Host.Outcome State Fault Refusal :=
  let src := value.toNat % 1024
  let t := 2 + p.val
  .next (if !s.portLive p then s
    else if (s.obs.srcAt src t).serving then s.modSrc src t SrcAt.ended else s.bump Ctr.evcBadEos)

/-- LINE_GLITCH (R380): a pulse shorter than COUNT samples is counted. -/
def execLineGlitch (l : ExtLine) (s : State) : Host.Outcome State Fault Refusal :=
  .next (s.when (!(s.pow.supply = .off)) fun s =>
    { s with obs := { s.obs with line := s.obs.line.mod {} l.val fun x => { x with glitches := satAdd 0xFFFF x.glitches 1 } } })

end Sys2Proof.Machine
end

