-- ==== Sys2Proof/Machine/Queues.lean ====
section
/-! DEFINITION. Queues: errors, doorbells, admin rings, QUEUE_CREATE and QUEUE_DELETE, and the merged order of the
Distaffs (R320-R327, R335, R350). -/

namespace Sys2Proof.Machine

/-! ### Refused accesses (R450) -/

/-- Counter that a KIND of refused access advances; `doorbell` for a foreign or ownerless doorbell. -/
def refusedCtr (kind : Nat) (doorbell : Bool) : Ctr :=
  if kind = 2 then Ctr.hostRoWrite else if kind = 3 then (if doorbell then Ctr.hostForeignDb else Ctr.hostRoWrite) else Ctr.hostBadAccess

/-- A refused access of port `p`: counted and logged (R450). -/
def State.refuseAccess (s : State) (p : Port) (kind : Nat) (write : Bool) (offset : Nat) (doorbell : Bool := false) : State :=
  let w := pack [(44, 20, s.time.lea.toNat / 1000), (43, 1, write.toNat), (40, 3, kind), (0, 40, offset)]
  let s1 := s.bump (refusedCtr kind doorbell) p.val
  { s1 with obs := { s1.obs with accessLog := s1.obs.accessLog.set p w } }

/-! ### Queues leaving service (R321, R322, R330, R379) -/

/-- The entries that a queue's commands and transfers still owe are discarded (R330). -/
def State.loseEntries (s : State) (n : Nat) : State :=
  let mark (e : Stamped) : Stamped := if e.queue = n then { e with lost := true } else e
  let ds : Two Distaff := ⟨{ s.spin.distaff.a with waiting := s.spin.distaff.a.waiting.map mark }, { s.spin.distaff.b with waiting := s.spin.distaff.b.waiting.map mark }⟩
  { s with
    spin := { s.spin with
      lops := s.spin.lops.map fun l => if l.cmd.queue.val = n then { l with lost := true } else l
      distaff := ds
      merged := s.spin.merged.map mark }
    host := { s.host with transfers := s.host.transfers.map fun t => if t.queue = n then { t with lost := true } else t } }

/-- Code of a queue's CAUSE (R322). -/
def QCause.code : QCause → Nat
  | .none => 0 | .badDoorbell => 1 | .ringRead => 2 | .cqOverflow => 3 | .linkDown => 4 | .badEntry => 5

/-- Service that ends because the event queue in use goes. -/
def State.eventQueueGone (s : State) (n : Nat) : State :=
  let p := (s.queue n).port
  s.when (s.host.eventQueue p = some n) fun s => s.endService p

/-- A queue enters ERROR: its event fires, with the cause and the queue. -/
def State.queueError (s : State) (n : Nat) (cause : QCause) : State :=
  ((s.eventQueueGone n).modQueue n fun q => { q with state := .error, cause := cause }).fire (portErrSrc (s.queue n).port) cause.code n

/-- A queue becomes FREE: nothing of it stays visible (R322). -/
def State.freeQueue (s : State) (n : Nat) : State :=
  let s1 := s.eventQueueGone n
  { s1 with host := s1.host.setQueue n {} }

/-- Queues of a port that are not FREE. -/
def HostSide.ofPort (h : HostSide) (p : Port) : List Nat := (h.queues.filter fun e => decide (e.2.port = p) && decide (e.2.state ≠ .free)).map (·.1)

/-! ### Rings (R320, R319) -/

/-- Does BAR4 memory at an offset answer an access from I/O die `d`: its own half, or the other over the link (R319)? -/
def State.bar4Reaches (s : State) (d : IoDie) (offset : Nat) : Bool :=
  let home : IoDie := if offset < 134217728 then 0 else 1
  s.spin.present.get home && (decide (home = d) || decide (s.spin.width ≥ 4))

/-- Can a queue's ring be read by its I/O die? -/
def State.ringReaches (s : State) (q : QueueSt) : Bool := !q.space || s.bar4Reaches q.port q.base

/-- Entry `i` of a ring of 64-byte entries. -/
def State.ringEntry (s : State) (q : QueueSt) (i : BitVec 32) : List Byte :=
  let a := q.base + 64 * (i.toNat % 2 ^ q.sizeLog2)
  if q.space then s.mems.bar4.read a 64 else (s.mems.host q.port).read a 64

/-! ### Taking command entries (R321, R327, R350) -/

/-- Does a stamped entry come no later than another of the same port (R327)? -/
def Stamped.le (a b : Stamped) : Bool := before a.stamp b.stamp || (decide (a.stamp = b.stamp) && decide (a.queue ≤ b.queue))

/-- Put an entry after those that come no later. -/
def insertStamped (e : Stamped) : List Stamped → List Stamped
  | [] => [e]
  | x :: xs => if x.le e then x :: insertStamped e xs else e :: x :: xs

/-- The Distaff takes the new entries of a queue in ring order, with one stamp (R321, R314). -/
def State.takeEntries (s : State) (n : Nat) (stamp : Lea) : State :=
  let q := s.queue n
  if !(q.state = .active) then s
  else if !s.ringReaches q then s.queueError n .ringRead
  else
    let new := (List.range (q.tail - q.head).toNat).map fun i => ({ queue := n, stamp := stamp, entry := s.ringEntry q (q.head + BitVec.ofNat 32 i) } : Stamped)
    let s1 := s.modQueue n fun q => { q with head := q.tail, done := q.done + BitVec.ofNat 64 new.length }
    { s1 with spin := { s1.spin with distaff := s1.spin.distaff.mod q.port fun d => { d with waiting := new.foldl (fun w e => insertStamped e w) d.waiting, ownSent := stamp } } }

/-- A write to DOORBELL.DB[q] reaches the queue's own port (R321): a FREE queue and a foreign one are refused; DRAINING and
ERROR discard it. `act` is what the queue does with its index. -/
def State.doorbell (s : State) (p : Port) (n : Nat) (kinds : List QKind) (act : QueueSt → State → State) : State :=
  let q := s.queue n
  if !s.portLive p then s
  else if q.state = .free || decide (q.port ≠ p) then s.refuseAccess p 3 true (0x00300000 + 64 * n) true
  else if q.state = .active && kinds.contains q.kind then act q s
  else s

/-- A doorbell that leaves too much in the ring (R321). -/
def State.badDoorbell (s : State) (p : Port) (n : Nat) : State := (s.bump Ctr.hostBadDb p.val).queueError n .badDoorbell

/-- COMMAND_DOORBELL (R314, R321): the new tail of a command queue. While the module is BOOTING it is held. -/
def execCommandDoorbell (p : Port) (q : Queue) (index : BitVec 32) (s : State) : Host.Outcome State Fault Refusal :=
  .next (s.doorbell p q.val [.command] fun x s =>
    if (index - x.head).toNat > 2 ^ x.sizeLog2 then s.badDoorbell p q.val
    else
      let s1 := s.modQueue q.val fun x => { x with tail := index, lastDb := s.time.lea }
      if s.mod.state = .booting then s1.modPort p fun y => { y with heldDb := (y.heldDb.filter fun e => e.1 ≠ q.val) ++ [(q.val, index)] }
      else s1.takeEntries q.val s.time.lea)

/-- DATA_MOVER_DOORBELL (R321): the new tail of a data-mover queue, whose entries the mover starts in ring order. -/
def execDataMoverDoorbell (p : Port) (q : Queue) (index : BitVec 32) (s : State) : Host.Outcome State Fault Refusal :=
  .next (s.doorbell p q.val [.dataMover] fun x s =>
    if (index - x.head).toNat > 2 ^ x.sizeLog2 then s.badDoorbell p q.val
    else s.modQueue q.val fun x => { x with tail := index, lastDb := s.time.lea })

/-- Waiting completions go to the ring while it has room (R325). -/
def State.drainHeld (s : State) (n : Nat) : Nat → State
  | 0 => s
  | k + 1 =>
    let q := s.queue n
    match q.held with
    | e :: es =>
      if q.room then
        let s1 := { s with host := (s.host.setQueue n { q with held := es }).advance n, mems := s.mems.writeRing q q.slotAddr (e.bytes q.phase) }
        s1.drainHeld n k
      else s
    | [] => s

/-- A head doorbell arms the queue; one that leaves entries unread sends the message at once (R326). -/
def State.rearm (s : State) (n : Nat) (unread : Bool) : State :=
  let q := s.queue n
  if q.vector = 0xFFFF then s
  else if unread then (s.modQueue n fun x => { x with armed := false }).modPort q.port (·.message q.vector)
  else s.modQueue n fun x => { x with armed := true }

/-- HEAD_DOORBELL (R321, R325, R326): the new head of a completion or event queue. -/
def execHeadDoorbell (p : Port) (q : Queue) (index : BitVec 32) (s : State) : Host.Outcome State Fault Refusal :=
  .next (s.doorbell p q.val [.completion, .event] fun x s =>
    if (x.tail - index).toNat > 2 ^ x.sizeLog2 then s.badDoorbell p q.val
    else
      let s1 := s.modQueue q.val fun y => { y with head := index, lastDb := s.time.lea, done := y.done + BitVec.ofNat 64 (index - y.head).toNat, armed := false }
      (s1.drainHeld q.val 256).rearm q.val (decide (index ≠ x.tail)))

/-- Doorbells held while BOOTING are stamped with the time of READY: port A first, and in ascending queue number within a
port (R314). -/
def State.flushDoorbells (s : State) : State :=
  let go (p : Port) (s : State) : State :=
    let qs := (s.host.queues.filter fun e => (s.host.ports.get p).heldDb.any fun d => decide (d.1 = e.1)).map (·.1)
    (s.forEach qs fun n s => s.takeEntries n s.time.lea).modPort p fun y => { y with heldDb := [] }
  go 1 (go 0 s)

/-! ### The merged order (R350) -/

/-- DISTAFF_HEARTBEAT (R350): every 100 ns a Distaff sends its Lea time. -/
def execDistaffHeartbeat (d : IoDie) (s : State) : Host.Outcome State Fault Refusal :=
  .next (s.when (s.spin.present.get d) fun s => { s with spin := { s.spin with distaff := s.spin.distaff.mod d fun x => { x with ownSent := s.time.lea } } })

/-- PEER_STAMP_RECEIVE (R350): a stamp or heartbeat of the peer arrives over the link. -/
def execPeerStampReceive (d : IoDie) (t : BitVec 64) (s : State) : Host.Outcome State Fault Refusal :=
  .next (s.when (s.spin.present.get d && decide (s.spin.width ≥ 4)) fun s =>
    { s with spin := { s.spin with distaff := s.spin.distaff.mod d fun x => { x with peerSeen := later x.peerSeen t } } })

/-- Opcodes of R345. -/
def opcodeAssigned (op : Nat) : Bool :=
  [0x0100, 0x0101, 0x0102, 0x0110, 0x0111, 0x0201, 0x0202, 0x0203, 0x0204, 0x0301, 0x0302, 0x0303, 0x0304, 0x0305, 0x0306, 0x0401, 0x0402, 0x0403, 0x0404,
    0x0405, 0x0406, 0x0501, 0x0502, 0x0503, 0x0504, 0x0505, 0x0506, 0x0507, 0x0508, 0x0509, 0x0601, 0x0602, 0x0603, 0x0604, 0x0605, 0x0606, 0x0701, 0x0702,
    0x0703, 0x0704, 0x0705, 0x0801, 0x0802, 0x0803, 0x0804, 0x0810, 0x0811, 0x0901, 0x0902, 0x0903, 0x0904, 0x0905, 0x0A01, 0x0A02, 0x0A03, 0x0A04, 0x0A05,
    0x0A06, 0x0B01, 0x0B02].contains op

/-- The command of a stamped entry (R331). -/
def Stamped.cmd (e : Stamped) : Cmd :=
  let f (lo n : Nat) : Nat := leNat ((e.entry.drop lo).take n)
  { queue := ⟨e.queue % 16384, by omega⟩, stamp := e.stamp, flags := BitVec.ofNat 8 (f 2 1), paramLen := BitVec.ofNat 8 (f 3 1), seq := BitVec.ofNat 32 (f 4 4)
    deadline := BitVec.ofNat 64 (f 8 8), params := BitVec.ofNat 384 (f 16 48) }

/-- Opcode of a stamped entry. -/
def Stamped.opcode (e : Stamped) : Nat := leNat (e.entry.take 2)

/-- Port A first on equal stamps, then queues in ascending order (R327). -/
def State.mergedLe (s : State) (a b : Stamped) : Bool :=
  before a.stamp b.stamp || (decide (a.stamp = b.stamp) &&
    (decide ((s.queue a.queue).port.val < (s.queue b.queue).port.val) || (decide ((s.queue a.queue).port = (s.queue b.queue).port) && decide (a.queue ≤ b.queue))))

/-- Put a released entry into the merged order. -/
def State.insertMerged (s : State) (e : Stamped) : List Stamped → List Stamped
  | [] => [e]
  | x :: xs => if s.mergedLe x e then x :: s.insertMerged e xs else e :: x :: xs

/-- Release one entry: counted, and put in its place; an unassigned opcode is answered at once (R338 check 3). -/
def State.release (s : State) (e : Stamped) : State :=
  let ns := since e.stamp s.time.lea
  let s1 := { s with spin := { s.spin with
    released := s.spin.released + 1, releaseLast := min ns 0xFFFF, releaseMax := max s.spin.releaseMax (min ns 0xFFFF) } }
  if opcodeAssigned e.opcode then { s1 with spin := { s1.spin with merged := s1.insertMerged e s1.spin.merged } }
  else selkan { op := e.opcode } e.cmd { noFeature := true } id s1

/-- Is a peer Distaff reachable? -/
def State.peerReachable (s : State) : Bool := s.spin.present.a && s.spin.present.b && decide (s.spin.width ≥ 4)

/-- COMMAND_RELEASE (R350): a Distaff releases the entries whose stamp is earlier than the latest time seen of the peer, or
all of them when no peer is reachable. -/
def execCommandRelease (d : IoDie) (s : State) : Host.Outcome State Fault Refusal :=
  let x := s.spin.distaff.get d
  let goes (e : Stamped) : Bool := !s.peerReachable || before e.stamp x.peerSeen
  let s1 := { s with spin := { s.spin with distaff := s.spin.distaff.set d { x with waiting := x.waiting.filter fun e => !goes e } } }
  .next (if s.spin.present.get d && decide (s.mod.state ≠ .booting) then s1.forEach (x.waiting.filter goes) fun e s => s.release e else s)

/-! ### Admin rings (R323) -/

/-- Port that owns MODULE.ADMIN_RING[k]. -/
def ringPort (k : Fin 4) : Port := if k.val < 2 then 0 else 1

/-- BASE, SPACE and SIZE of the register, and what a write stores: those and ENABLE; the other bits read 0 (R7, R323). -/
def placement (w : Word) : Nat := w.toNat / 128
def ringWord (w : Word) : Word := w &&& 0xFFFFFFFFFFFFFF81#64

/-- The admin queue that a placement makes: command queues are even (R323). -/
def adminQueue (k : Fin 4) (w : Word) : QueueSt :=
  let cmd := decide (k.val % 2 = 0)
  { state := .active, kind := if cmd then .command else .completion, space := w.getLsbD 11, port := ringPort k, base := w.toNat / 4096 * 4096
    sizeLog2 := w.toNat / 128 % 16 + 6, vector := if cmd then 0xFFFF else 0, cq := if cmd then k.val + 1 else 0xFFFF, armed := !cmd }

/-- Store a value in MODULE.ADMIN_RING[k]. -/
def State.setRing (s : State) (k : Nat) (w : Word) : State := { s with host := { s.host with adminRing := s.host.adminRing.set 0 k (ringWord w) } }

/-- A write to MODULE.ADMIN_RING[k] (R315, R323): from its own port, and no change of placement while ENABLE reads 1. -/
def State.ringWrite (s : State) (p : Port) (k : Fin 4) (w : Word) (ok : Bool) (act : State → State) : State :=
  let old := s.host.adminRing.get 0 k.val
  let off := 0x100 + 8 * k.val
  if !s.portLive p then s
  else if p ≠ ringPort k then s.refuseAccess p 3 true off
  else if (old.getLsbD 0 && decide (placement old ≠ placement w)) || !ok then s.refuseAccess p 5 true off
  else act s

/-- ADMIN_RING_ENABLE (R323): sets ENABLE: the queue is ACTIVE. Refused with an invalid SIZE or while the queue drains. -/
def execAdminRingEnable (p : Port) (k : Fin 4) (value : BitVec 64) (s : State) : Host.Outcome State Fault Refusal :=
  let on := (s.host.adminRing.get 0 k.val).getLsbD 0
  let ok := decide (value.toNat / 128 % 16 ≤ 10) && !(s.queue k.val).state = .draining
  .next (if !value.getLsbD 0 then s
    else s.ringWrite p k value ok fun s =>
      let s1 := s.setRing k.val value
      if on then s1 else { s1 with host := s1.host.setQueue k.val (adminQueue k value) })

/-- ADMIN_RING_DISABLE (R323): clears ENABLE: the queue drains, its untaken entries dropped. -/
def execAdminRingDisable (p : Port) (k : Fin 4) (value : BitVec 64) (s : State) : Host.Outcome State Fault Refusal :=
  let on := (s.host.adminRing.get 0 k.val).getLsbD 0
  .next (if value.getLsbD 0 then s
    else s.ringWrite p k value true fun s =>
      let s1 := s.setRing k.val value
      s1.when on fun s => s.modQueue k.val fun q => if q.state = .free then q else { q with state := .draining, cause := .none, tail := q.head, held := [] })

/-- Has a DRAINING queue nothing left: no command of it waits, runs or still owes an entry to it, and no transfer? -/
def State.queueQuiet (s : State) (n : Nat) : Bool :=
  (s.spin.lops.all fun l => (decide (l.cmd.queue.val ≠ n) && decide (s.cqOf l.cmd.queue.val ≠ n)) || l.lost || decide (l.opcode = 0x0111)) &&
    ((s.spin.distaff.a.waiting ++ s.spin.distaff.b.waiting ++ s.spin.merged).all fun e => decide (e.queue ≠ n)) &&
    s.host.transfers.all fun t => decide (t.queue ≠ n) && decide (t.cq ≠ n)

/-- QUEUE_DRAINED (R323, R324): a DRAINING queue becomes FREE, and the QUEUE_DELETE that named it completes. -/
def execQueueDrained (q : Queue) (s : State) : Host.Outcome State Fault Refusal :=
  .next (if (s.queue q.val).state = .draining && s.queueQuiet q.val then
      let s1 := s.freeQueue q.val
      match s.spin.lops.find? fun l => decide (l.opcode = 0x0111) && decide (l.aux % 16384 = q.val) with
      | some l => s1.done l.cmd .ok (result [(16, 4, l.aux / 16384)])
      | none => s1
    else s)

/-! ### QUEUE_CREATE and QUEUE_DELETE (R324) -/

/-- Kind of a TYPE code (R320). -/
def QKind.ofCode (n : Nat) : QKind := if n = 0 then .command else if n = 1 then .completion else if n = 2 then .event else .dataMover

/-- Bytes of a queue's entry (R320). -/
def QKind.entry : QKind → Nat
  | .command | .dataMover => 64
  | .completion | .event => 32

/-- Does the module write the queue, so that it may have a vector? -/
def QKind.written : QKind → Bool
  | .completion | .event => true
  | _ => false

/-- First wrong parameter of QUEUE_CREATE. -/
def State.createBad (s : State) (c : Cmd) : Option Nat :=
  let base := c.field s 16 8
  let ty := c.field s 24 1
  let size := c.field s 25 1
  let vec := c.field s 26 2
  let cq := c.field s 28 2
  let want := c.field s 30 2
  let k := QKind.ofCode (ty % 4)
  let bytes := k.entry * 2 ^ size
  if ty / 16 ≠ 0 then some 24
  else if size < 6 ∨ size > 16 then some 25
  else if base % min 4096 bytes ≠ 0 ∨ (bit ty 2 ∧ base + bytes > 268435456) then some 16
  else if k.written then
    (if vec > 2047 ∧ vec ≠ 0xFFFF then some 26 else if cq ≠ 0xFFFF then some 28 else wanted want)
  else if vec ≠ 0xFFFF then some 26
  else if !((s.queue cq).kind = .completion && decide ((s.queue cq).state = .active) && decide ((s.queue cq).port = c.port s) && decide (cq < 16384)) then some 28
  else wanted want
where
  /-- The queue wanted is free and not an admin queue. -/
  wanted (want : Nat) : Option Nat :=
    if want = 0xFFFF then none else if want < 4 ∨ want ≥ 16384 ∨ (s.queue want).state ≠ .free then some 30 else none

/-- Lowest-numbered free queue. -/
def State.anyQueue (s : State) : Option Nat := ((List.range 16380).map (· + 4)).find? fun n => decide ((s.queue n).state = .free)

/-- The queue that QUEUE_CREATE takes. -/
def State.queueWanted (s : State) (c : Cmd) : Option Nat := if c.field s 30 2 = 0xFFFF then s.anyQueue else some (c.field s 30 2)

/-- The queue that QUEUE_CREATE makes. -/
def State.newQueue (s : State) (c : Cmd) : QueueSt :=
  let ty := c.field s 24 1
  { state := .active, kind := QKind.ofCode (ty % 4), space := bit ty 2, port := c.port s, base := c.field s 16 8, sizeLog2 := c.field s 25 1, vector := c.field s 26 2
    cq := c.field s 28 2, armed := decide (c.field s 26 2 ≠ 0xFFFF) }

/-- QUEUE_CREATE (R324). -/
def execQueueCreate (c : Cmd) (s : State) : Host.Outcome State Fault Refusal :=
  .next (selkan { op := 0x0110, named := [(16, 31)], inHeld := true } c { bad := s.createBad c, busy := if (s.queueWanted c).isNone then some 0 else none } (fun s =>
    match s.queueWanted c with
    | some n => ({ s with host := s.host.setQueue n (s.newQueue c) }).done c .ok (result [(16, 2, n)])
    | none => s.done c .busy) s)

/-- Does a live queue name this one as its completion queue? -/
def State.namedAsCq (s : State) (n : Nat) : Bool := s.host.queues.any fun e => decide (e.2.state ≠ .free) && !e.2.kind.written && decide (e.2.cq = n)

/-- Entries that QUEUE_DELETE drops (R324). -/
def QueueSt.drops (q : QueueSt) : Nat :=
  match q.kind with
  | .command | .dataMover => (q.tail - q.head).toNat
  | .completion => q.held.length
  | .event => 0

/-- QUEUE_DELETE (R324, R379): the queue drains; the command completes once it is FREE. -/
def execQueueDelete (c : Cmd) (s : State) : Host.Outcome State Fault Refusal :=
  let n := c.field s 16 2
  let q := s.queue n
  .next (selkan { op := 0x0111, named := [(16, 17)], long := true, inHeld := true } c
    { bad := if n < 4 ∨ n ≥ 16384 then some 16 else none, state := decide (q.state = .free) || s.namedAsCq n, denied := decide (q.port ≠ c.port s) } (fun s =>
    (((s.setAux c (n + 16384 * q.drops)).eventQueueGone n).modQueue n fun q =>
      { q with state := .draining, cause := .none, tail := if q.kind.written then q.tail else q.head, held := [] })) s)

end Sys2Proof.Machine
end

