-- ==== Sys2Proof/Machine/Bars.lean ====
section
/-! DEFINITION. The windows of a host port, the data mover, and a port's link and PERST (R312-R319, R328-R330, R450). -/

namespace Sys2Proof.Machine

/-! ### BAR0 (R6, R315-R317) -/

/-- Port that may write the register at an offset; none where no host may, and where several ports may. -/
def regOwner (offset : Nat) : Option Port :=
  if 0x100 ≤ offset ∧ offset < 0x120 then (if offset < 0x110 then some 0 else some 1)
  else if offset = 0x200 ∨ offset = 0x100800 then some 0
  else if offset = 0x208 ∨ offset = 0x100808 then some 1
  else none

/-- Does the offset name a doorbell, or lie in the MSI-X table or the pending-bit array? -/
def doorbellOffset (offset : Nat) : Bool := decide (0x300000 ≤ offset) && decide (offset < 0x400000) && decide (offset % 64 = 0)
def msixOffset (offset : Nat) : Bool := (decide (0x80000 ≤ offset) && decide (offset < 0x88000)) || (decide (0xC0000 ≤ offset) && decide (offset < 0xC0100))

/-- Is an access 64-bit aligned, within BAR0, and no access to the MSI-X structures? -/
def plainOffset (offset : Nat) : Bool := decide (offset % 8 = 0) && decide (offset < 0x4000000) && !msixOffset offset

/-- HOST_RO_WRITE (R315): a write to a register that no host may write, or that belongs to the other port, is discarded
and logged. -/
def execHostRoWrite (p : Port) (offset : Nat) (foreign : Bool) (s : State) : Host.Outcome State Fault Refusal :=
  .next (if s.portLive p && plainOffset offset && !doorbellOffset offset then
      (match regOwner offset with
        | none => if foreign then s else s.refuseAccess p 2 true offset
        | some q => if foreign && decide (q ≠ p) then s.refuseAccess p 3 true offset else s)
    else s)

/-- BAD_SHAPE_ACCESS (R6): an access to BAR0 that is not 64-bit and 8-byte aligned reads all ones
(`State.bar0Value`), or is discarded. -/
def execBadShapeAccess (p : Port) (offset : Nat) (write : Bool) (s : State) : Host.Outcome State Fault Refusal :=
  .next (if s.portLive p && decide (offset < 0x4000000) then s.refuseAccess p 1 write offset else s)

/-- Size of a port's BAR2. -/
def PortSt.bar2Size (x : PortSt) : Nat := 2 ^ x.bar2Log2

/-- BAR2_BASE_WRITE (R317): OFFSET, bits [39:0], is to be a multiple of the BAR size. -/
def execBar2BaseWrite (p target : Port) (value : BitVec 64) (s : State) : Host.Outcome State Fault Refusal :=
  let off := value.toNat % 2 ^ 40
  .next (if !s.portLive p then s
    else if p ≠ target then s.refuseAccess p 3 true (0x200 + 8 * target.val)
    else if off % (s.host.ports.get p).bar2Size ≠ 0 then s.refuseAccess p 5 true (0x200 + 8 * p.val)
    else s.modPort p fun x => { x with bar2Base := BitVec.ofNat 64 off })

/-! ### MSI-X (R316; PCI Express specification) -/

/-- Write one 32-bit word `w` (0-3) of an entry. -/
def MsixEntry.put (e : MsixEntry) (w : Nat) (v : BitVec 32) : MsixEntry :=
  match w with
  | 0 => { e with addrLo := v }
  | 1 => { e with addrHi := v }
  | 2 => { e with data := v }
  | _ => { e with control := v }

/-- A vector that is not masked sends the message that is pending for it. -/
def PortSt.release (x : PortSt) (v : Nat) : PortSt :=
  if x.pba.get false v && !bit ((x.msix.get {} v).control.toNat) 0 then { x with pba := x.pba.set false v false, sent := x.sent.mod 0 v (· + 1) } else x

/-- Write a 32-bit word at an offset within the table. -/
def PortSt.msixPut (x : PortSt) (o : Nat) (v : BitVec 32) : PortSt :=
  let n := o / 16
  ({ x with msix := x.msix.mod {} n fun e => e.put (o / 4 % 4) v } : PortSt).release n

/-- A 32-bit word `w` (0-3) of an entry. -/
def MsixEntry.word (e : MsixEntry) (w : Nat) : BitVec 32 :=
  match w with
  | 0 => e.addrLo
  | 1 => e.addrHi
  | 2 => e.data
  | _ => e.control

/-- The 32-bit word at an offset of BAR0 within the table or the pending-bit array. -/
def PortSt.msixWord (x : PortSt) (offset : Nat) : BitVec 32 :=
  if offset < 0x88000 then (x.msix.get {} ((offset - 0x80000) / 16)).word (offset / 4 % 4)
  else BitVec.ofNat 32 (bitsOf ((List.range 32).map fun i => x.pba.get false (8 * (offset - 0xC0000) + i)))

/-- What a read of `size` bytes in the table or the pending-bit array returns: all ones where its shape is wrong (R6, R316). -/
def PortSt.msixValue (x : PortSt) (offset size : Nat) : BitVec 64 :=
  if (size = 4 ∨ size = 8) ∧ offset % size = 0 then
    (if size = 8 then (x.msixWord (offset + 4)).setWidth 64 <<< 32 else 0) ||| (x.msixWord offset).setWidth 64
  else BitVec.allOnes 64

/-- MSIX_TABLE_WRITE (R316): an aligned 32-bit or 64-bit access to the port's own table or pending-bit array; the pending
bits are read-only. -/
def execMsixTableWrite (p : Port) (offset size : Nat) (write : Bool) (value : BitVec 64) (s : State) : Host.Outcome State Fault Refusal :=
  .next (if !(s.portLive p && msixOffset offset) then s
    else if (size ≠ 4 ∧ size ≠ 8) ∨ offset % size ≠ 0 then s.refuseAccess p 1 write offset
    else if write && decide (offset < 0x88000) then
      s.modPort p fun x =>
        let y := x.msixPut (offset - 0x80000) (value.setWidth 32)
        if size = 8 then y.msixPut (offset - 0x80000 + 4) ((value >>> 32).setWidth 32) else y
    else s)

/-! ### The BAR2 space (R317, R318) -/

/-- Where bytes of the BAR2 space lie. -/
inductive DevPlace where
  | hbm (a : Nat)
  | sram (a : Nat)
  | reserved
deriving DecidableEq, Repr

/-- May a region's SRAM be reached by a host (R318)? -/
def RState.reachable : RState → Bool
  | .off | .reset | .parked => false
  | _ => true

/-- One stretch of SRAM that lies within one cell store, or one aligned MiB of a block store. -/
def State.sramOpen (s : State) (a : Nat) : Bool :=
  decide (a < 2 ^ 33) && !(isBlockStore a && bit a 23) && (s.reg (regionOfSram a)).state.reachable

/-- Where `n` bytes at address `a` of the space lie; `reserved` in HELD (R431), and when any of them has no place, or an access to SRAM is not of
whole aligned words. -/
def State.devPlace (s : State) (a n : Nat) : DevPlace :=
  let sa := a - 0xC000000000
  if n = 0 ∨ s.mod.state = .held then .reserved
  else if a + n ≤ hbmBytes then .hbm a
  else if a < 0xC000000000 ∨ a + n > 0xC200000000 ∨ a % 8 ≠ 0 ∨ n % 8 ≠ 0 then .reserved
  else if (List.range ((sa + n - 1) / 1048576 - sa / 1048576 + 1)).all fun i => s.sramOpen ((sa / 1048576 + i) * 1048576) then .sram sa
  else .reserved

/-- Bytes that a read of a place gives; all ones where it is reserved. -/
def State.devRead (s : State) (x : DevPlace) (n : Nat) : List Byte :=
  match x with
  | .hbm a => s.mems.hbm.read a n
  | .sram a => s.mems.sram.read a n
  | .reserved => List.replicate n 0xFF

/-- Poisoned lines of HBM that a read meets, or lines of SRAM with a poisoned word, by byte address within the memory. -/
def State.devBad (s : State) (x : DevPlace) (n : Nat) : List Nat :=
  match x with
  | .hbm a => ((linesOf a n).filter fun l => s.mems.hbmPoison.get false l).map (· * 128)
  | .sram a => (linesOf a n).filterMap fun l => ((wordsOf (128 * l) 128).find? fun w => s.mems.sramPoison.get false w && decide (a ≤ 8 * w) && decide (8 * w < a + n)).map (· * 8)
  | .reserved => []

/-- BAR2 space address of a byte address within a memory. -/
def DevPlace.back (x : DevPlace) (b : Nat) : Nat :=
  match x with
  | .sram _ => 0xC000000000 + b
  | _ => b

/-- Write bytes to a place. A partial write of a poisoned HBM line leaves it unchanged (R250), and a write overtakes the
write-back of a corrected line or word (R95, R250). -/
def State.devWrite (s : State) (x : DevPlace) (bs : List Byte) : State :=
  match x with
  | .hbm a =>
    { s with
      mems := s.mems.storeHbm a bs false
      memory := { s.memory with writeback := s.memory.writeback.filter fun l => !(linesOf a bs.length).contains l } }
  | .sram a =>
    { s with
      mems := s.mems.writeSram a bs false
      memory := { s.memory with sramWriteback := s.memory.sramWriteback.filter fun w => !(wordsOf a bs.length).contains w } }
  | .reserved => s

/-- Place of a BAR2 access: within the BAR, one 128-byte line, translated with the OFFSET in force. -/
def State.bar2Place (s : State) (p : Port) (offset n : Nat) : DevPlace :=
  if offset / 128 ≠ (offset + n - 1) / 128 then .reserved else s.devPlace ((s.host.ports.get p).bar2Base.toNat + offset) n

/-- Does an access lie within the port's BAR2? -/
def State.inBar2 (s : State) (p : Port) (offset n : Nat) : Bool := decide (0 < n) && decide (offset + n ≤ (s.host.ports.get p).bar2Size)

/-- What a BAR2 read returns: the bytes, and the EP bit. -/
def State.bar2Value (s : State) (p : Port) (offset n : Nat) : List Byte × Bool :=
  let x := s.bar2Place p offset n
  (s.devRead x n, !(s.devBad x n).isEmpty)

/-- BAR2_READ (R318): the data are the port's answer; a poisoned line or word counts HOST_POISON_TX. -/
def execBar2Read (p : Port) (offset len : Nat) (s : State) : Host.Outcome State Fault Refusal :=
  .next (if s.portLive p && s.inBar2 p offset len then
      (match s.bar2Place p offset len with
        | .reserved => s.refuseAccess p 4 false offset
        | x => s.when (!(s.devBad x len).isEmpty) (·.bump Ctr.hostPoisonTx p.val))
    else s)

/-- Stretches of a write with byte enables: start and bytes. -/
def enabled (a : Nat) : List (Option Byte) → List (Nat × List Byte)
  | [] => []
  | none :: bs => enabled (a + 1) bs
  | some b :: bs => match enabled (a + 1) bs with
    | (x, cs) :: rest => if x = a + 1 then (a, b :: cs) :: rest else (a, [b]) :: (x, cs) :: rest
    | [] => [(a, [b])]

/-- BAR2_WRITE (R318): a write that carries EP is discarded and counted. Any byte enables reach HBM; SRAM takes whole
words. -/
def execBar2Write (p : Port) (offset : Nat) (data : List (Option Byte)) (ep : Bool) (s : State) : Host.Outcome State Fault Refusal :=
  .next (if s.portLive p && s.inBar2 p offset data.length then
      if ep then s.bump Ctr.hostPoisonRx p.val
      else match s.bar2Place p offset data.length with
        | .hbm a => s.forEach (enabled a data) fun w s => s.devWrite (.hbm w.1) w.2
        | .sram a => if data.all (·.isSome) then s.devWrite (.sram a) (data.filterMap id) else s.refuseAccess p 4 true offset
        | .reserved => s.refuseAccess p 4 true offset
    else s)

/-! ### Queue memory through BAR4 (R319) -/

/-- BAR4_ACCESS (R319): a read gives the bytes of queue memory; a write stores them. The other die's half is refused while
the link between the dies is down. -/
def execBar4Access (p : Port) (offset len : Nat) (data : Option (List Byte)) (s : State) : Host.Outcome State Fault Refusal :=
  let n := match data with | some bs => bs.length | none => len
  .next (if s.portLive p && decide (0 < n) && decide (offset + n ≤ 268435456) then
      if s.bar4Reaches p offset && s.bar4Reaches p (offset + n - 1) then
        match data with
        | some bs => { s with mems := { s.mems with bar4 := s.mems.bar4.write offset bs } }
        | none => s
      else s.refuseAccess p 6 data.isSome offset
    else s)

/-! ### The data mover (R328, R329) -/

/-- The data mover's completion: written once, its ORIGIN the I/O die. -/
def State.moverDone (s : State) (t : Transfer) (st : Status) (res : BitVec 128) : State :=
  if t.lost then s
  else s.postOne t.cq { seq := t.seq, status := st.code, origin := t.port.val, final := true, sole := !s.spin.inStep, takeover := false, stamp := s.time.lea, result := res }

/-- Does an entry break its format, or reach a reserved address (R328, R329)? -/
def State.moveBad (s : State) (m : Move) : Bool :=
  m.badOp || decide (2 ≤ m.flags.toNat) || decide (m.rest ≠ 0) || decide (m.bytes = 0) || decide (m.bytes.toNat > 2 ^ 32) ||
    decide (s.devPlace m.devAddr.toNat m.bytes.toNat = .reserved)

/-- The mover takes the entry at the head of a data-mover queue: it starts the transfer, or refuses it. An entry whose OP is
reserved breaks the format (R328, R329); both rows of the mover take one (DEDUCED, log 106). -/
def State.move (s : State) (m : Move) (toDevice : Bool) : State :=
  let n := m.queue.val
  let q := s.queue n
  let t : Transfer := { queue := n, port := q.port, cq := q.cq, seq := m.seq, toDevice := toDevice, hostAddr := m.hostAddr.toNat, devAddr := m.devAddr.toNat, bytes := m.bytes.toNat }
  if !(s.portLive q.port && decide (q.kind = .dataMover) && decide (q.state = .active) && decide (q.head ≠ q.tail)) then s
  else if !s.ringReaches q then s.queueError n .ringRead
  else if m.flags.getLsbD 0 && s.host.transfers.any (fun t => decide (t.queue = n)) then s
  else
    let s1 := s.modQueue n fun q => { q with head := q.head + 1, done := q.done + 1 }
    if s.moveBad m then (s1.moverDone t .badParam 0).queueError n .badEntry
    else { s1 with host := { s1.host with transfers := s1.host.transfers ++ [t] } }

/-- TO_DEVICE (R328, R329): entry 0x0001 starts. -/
def execToDevice (m : Move) (s : State) : Host.Outcome State Fault Refusal := .next (s.move m true)

/-- FROM_DEVICE (R328, R329): entry 0x0002 starts. -/
def execFromDevice (m : Move) (s : State) : Host.Outcome State Fault Refusal := .next (s.move m false)

/-- A transfer into the device: every byte moves, and its entry is OK. -/
def State.moveIn (s : State) (t : Transfer) : State :=
  (s.devWrite (s.devPlace t.devAddr t.bytes) ((s.mems.host t.port).read t.hostAddr t.bytes)).moverDone t .ok (result [(16, 8, t.bytes)])

/-- A transfer out of the device: every byte moves; poison makes it end with FAULT and the place of the first (R329). -/
def State.moveOut (s : State) (t : Transfer) : State :=
  let x := s.devPlace t.devAddr t.bytes
  let bad := s.devBad x t.bytes
  let s1 := { s with mems := s.mems.writeHost t.port t.hostAddr (s.devRead x t.bytes) }
  match bad with
  | [] => s1.moverDone t .ok (result [(16, 8, t.bytes)])
  | b :: _ => (s1.bump Ctr.hostPoisonTx t.port.val bad.length).moverDone t .fault (result [(16, 8, t.bytes), (24, 8, x.back b)])

/-- DATA_MOVE_COMPLETE (R328, R329): a transfer's bytes have moved. One whose port was lost ends without an entry. -/
def execDataMoveComplete (q : Queue) (seq : BitVec 32) (s : State) : Host.Outcome State Fault Refusal :=
  .next (match s.host.transfers.find? fun t => decide (t.queue = q.val) && decide (t.seq = seq) with
    | some t =>
      let s1 := { s with host := { s.host with transfers := s.host.transfers.erase t } }
      if t.lost then s1 else if t.toDevice then s1.moveIn t else s1.moveOut t
    | none => s)

/-! ### Links and PERST (R314, R330) -/

/-- Streams into the memory of a host whose link goes down stop (R453). -/
def State.stopStreams (s : State) (p : Port) : State :=
  let stops (x : Stream) : Bool := x.running && decide (x.port = p) && !x.target.getLsbD 63
  s.forEach ((s.obs.streams.filter fun e => stops e.2).map (·.1)) fun k s =>
    { s with obs := { s.obs with streams := s.obs.streams.mod {} k fun x => { x with running := false } } }

/-- Every queue of a port enters ERROR with cause LINK_DOWN (R330, R358): what it still owes is discarded. -/
def State.queuesDown (s : State) (p : Port) : State :=
  s.forEach (s.host.ofPort p) fun n s => ((s.loseEntries n).queueError n .linkDown).modQueue n fun q => { q with held := [] }

/-- HOST_LINK_DOWN (R330): the port's PCI Express link is lost. -/
def execHostLinkDown (p : Port) (s : State) : Host.Outcome State Fault Refusal :=
  .next (if s.portLive p then ((s.modPort p fun x => { x with up := false, heldDb := [] }).queuesDown p).stopStreams p else s)

/-- A port after PERST: queues FREE, MSI-X structures, BAR2_BASE and ADMIN_RING registers reset (R330). Its BAR keeps its
size. -/
def State.portReset (s : State) (p : Port) : State :=
  let s1 := s.forEach (s.host.ofPort p) fun n s => (s.loseEntries n).freeQueue n
  let s2 := s1.endService p
  let s3 := s2.modPort p fun x => { x with up := false, bar2Base := 0, msix := [], pba := [], heldDb := [] }
  let k := 2 * p.val
  { s3 with host := { s3.host with adminRing := (s3.host.adminRing.set 0 k 0).set 0 (k + 1) 0 } }

/-- PERST_ASSERT (R330, R379): PERST of one port. -/
def execPerstAssert (p : Port) (s : State) : Host.Outcome State Fault Refusal :=
  .next (if (s.host.ports.get p).perst then s else ((s.modPort p fun x => { x with perst := true }).portReset p).stopStreams p)

/-- PERST_RELEASE (R314): the port may train its link. -/
def execPerstRelease (p : Port) (s : State) : Host.Outcome State Fault Refusal := .next (s.modPort p fun x => { x with perst := false })

/-- HOST_LINK_UP (R314, R330): the link of a port that is out of PERST comes up. -/
def execHostLinkUp (p : Port) (s : State) : Host.Outcome State Fault Refusal :=
  .next (if !(s.host.ports.get p).perst && s.spin.present.get p && decide (s.pow.supply ≠ .off) then s.modPort p fun x => { x with up := true } else s)

end Sys2Proof.Machine
end

