-- ==== Sys2Proof/Machine/Link.lean ====
section
/-! DEFINITION. Reel ports: link flits, lanes and widths, port states, re-injection, the link proof, drains and management
packets (chapter 14). -/

namespace Sys2Proof.Machine

/-! ### Port states and re-injection (R293, R294, R301, R302) -/

/-- STATE of REEL.PORT (R311). -/
def PState.code : PState → Nat
  | .off => 0 | .seek => 1 | .train => 2 | .prove => 3 | .up => 4 | .narrow => 5 | .quarantine => 6 | .down => 7

/-- A port enters a state: its event (R294, R374). -/
def State.enterPort (s : State) (p : Nat) (st : PState) (f : RPortSt → RPortSt := id) : State :=
  let s1 := s.modRp p fun x => { f x with state := st, since_ := s.time.lea }
  s1.fire (0x300 + p) (s1.rp p).cause p st.code

/-- Entries to DOWN within the last 10 s. -/
def State.recentDowns (s : State) (x : RPortSt) : List Lea := x.downs.filter fun t => !s.elapsed t 10000000000

/-- Is this a packet of the link proof, which concerns its own port alone (R295)? -/
def proofPkt (k : Pkt) : Bool := decide (k.opcode = 0x10) && decide (leNat (k.data.take 2) < 0x10)

/-- Packets of a port that are not wholly acknowledged, in order per VC (R301). -/
def RPortSt.unacked (x : RPortSt) : List Pkt :=
  (x.replay.flatMap (·.ends) ++ (List.range 8).flatMap x.vcq).filter fun k => !proofPkt k

/-- Lines of a packet that are held when it is re-injected (R302). -/
def heldLines (k : Pkt) : List Nat :=
  match k.opcode.toNat with
  | 0x03 | 0x09 => [k.offset.toNat / 128]
  | 0x0B => (onesOf 32 (leNat (k.data.take 4))).map fun i => k.offset.toNat / 128 + i
  | _ => []

/-- Put one packet on a live port of its route, AGE kept; without one, or across a link between the dies that is down, it is
discarded. Either is counted (R301, R359). -/
def State.reinjectPkt (s : State) (p : Nat) (k : Pkt) : State :=
  let held := (heldLines k).map fun l => (p, k.dst, k.handle, l, s.time.lea)
  let s1 := ({ s with reel := { s.reel with held := s.reel.held ++ held } }).bump Ctr.reelReinject p
  match if k.opcode = 0x10 then (s1.livePorts k.dst).head? else s1.portFor k.dst k.tag with
  | some q => if s1.crosses p q then s1 else s1.enqueue q k
  | none => s1

/-- A port that has left UP gives up its packets, which are re-injected (R301). -/
def State.reinject (s : State) (p : Nat) : State :=
  let ks := (s.rp p).unacked
  (s.modRp p fun x => { x with replay := [], queue := [], passed := [] }).forEach ks fun k s => s.reinjectPkt p k

/-- A port goes DOWN with a cause; the fourth time within 10 s the cause is FLAP (R293, R294). -/
def State.portDown (s : State) (p cause : Nat) : State :=
  let downs := s.time.lea :: s.recentDowns (s.rp p)
  let s1 := s.enterPort p .down fun x =>
    { x with cause := if downs.length ≥ 4 then 9 else cause, downs := downs, width := 0, proven := false, proving := none, trainFails := 0 }
  (s1.bump Ctr.reelPortDown p).reinject p

/-- A port begins to train: credits, sequence numbers and buffers start afresh. -/
def State.train (s : State) (p : Nat) : State :=
  s.enterPort p .train fun x =>
    { x with txSeq := 0, rxSeq := 0, asks := false, replay := [], rx := [], credit := [], advertised := [], dryAt := [], badWindows := 0, sameFlit := 0, proven := false,
             proving := none }.advertises

/-! ### Lanes and widths (R290) -/

/-- Lane sets of each width, widest first. -/
def laneSets : List (Nat × Nat) := [(8, 0xFF), (4, 0x0F), (4, 0xF0), (2, 0x03), (2, 0x0C), (2, 0x30), (2, 0xC0)]

/-- The lane set that a port with these good lanes runs on, no wider than `most`: width and lanes. -/
def runSet (lanes most : Nat) : Option (Nat × Nat) := laneSets.find? fun w => decide (w.1 ≤ most) && decide (lanes &&& w.2 = w.2)

/-- LANE_FAIL (R290, R294): a lane of the running set takes an UP port to NARROW, and a PROVE port back to TRAIN; with no good
set left the port goes DOWN with cause LANES (a QUARANTINE port: DEDUCED, log 156). -/
def execLaneFail (p : RPort) (lane : Fin 8) (s : State) : Host.Outcome State Fault Refusal :=
  let x := s.rp p
  let ok := x.lanesOk - (if bit x.lanesOk lane then 2 ^ lane.val else 0)
  let running := match runSet x.lanesOk x.width with | some w => bit w.2 lane | none => false
  let s1 := s.modRp p fun y => { y with lanesOk := ok }
  .next (if !s.spin.present.get (dieOfPort p) then s
    else match x.state with
      | .up =>
        if !running then s1
        else if (runSet ok x.width).isNone then s1.portDown p 6
        else (s1.enterPort p .narrow).bump Ctr.reelNarrow p
      | .prove | .quarantine => if running then s1.train p else s1
      | _ => s)

/-- NARROW_DONE (R290, R294): retrained at the next width within 20 µs, the port is UP and resumes; otherwise DOWN. -/
def execNarrowDone (p : RPort) (ok : Bool) (s : State) : Host.Outcome State Fault Refusal :=
  let x := s.rp p
  .next (if x.state ≠ .narrow then s
    else match if ok && !s.elapsed x.since_ 20000 then runSet x.lanesOk x.width else none with
      | some w => (s.enterPort p .up fun y => { y with width := w.1, most := w.1 }).modRp p fun y => y.pump s.time.lea
      | none => s.portDown p 6)

/-- PORT_DOWN (R293): an UP port loses the signal of every lane, or has met an error rate of the table. -/
def execPortDown (p : RPort) (cause : Nat) (s : State) : Host.Outcome State Fault Refusal :=
  let x := s.rp p
  let due := cause = 1 || (cause = 2 && (decide (x.badWindows ≥ 3) || decide (x.sameFlit ≥ 16)))
  .next (s.when (decide (x.state = .up) && due) fun s => s.portDown p cause)

/-- CREDIT_TIMEOUT (R293): a VC with packets waiting has found its partner credits at 0 for CREDIT_TIMEOUT. -/
def execCreditTimeout (p : RPort) (v : Vc) (s : State) : Host.Outcome State Fault Refusal :=
  let x := s.rp p
  .next (s.when (decide (x.state = .up) && !(x.vcq v).isEmpty && decide (x.credit.get 0 v = 0) &&
    s.elapsed (x.dryAt.get 0 v) (1000 * s.conf.inForce.creditUs)) fun s => s.portDown p 3)

/-- ACK_TIMEOUT (R293): DATA flits outstanding without an acknowledgement for 10 µs. -/
def execAckTimeout (p : RPort) (s : State) : Host.Outcome State Fault Refusal :=
  let x := s.rp p
  .next (s.when (decide (x.state = .up) && !x.replay.isEmpty && s.elapsed x.lastAck 10000) fun s => s.portDown p 4)

/-- The PORT_RETRAIN of a port in progress ends (R310). -/
def State.endRetrain (s : State) (p width : Nat) (st : Status) : State :=
  s.endLops (fun l => decide (l.opcode = 0x0605) && decide (l.aux = p)) st (if st = .ok then result [(16, 1, width)] else 0)

/-- SEEK_BURST (R294): a wake burst on lane 0, and listening. A PORT_RETRAIN whose 150 ms have passed without a partner ends
there. -/
def execSeekBurst (p : RPort) (s : State) : Host.Outcome State Fault Refusal :=
  let x := s.rp p
  .next (s.when (decide (x.state = .seek) && s.elapsed x.since_ 50000000) fun s => s.endRetrain p 0 .timeout)

/-- PARTNER_SIGNAL (R294). -/
def execPartnerSignal (p : RPort) (s : State) : Host.Outcome State Fault Refusal :=
  .next (s.when (decide ((s.rp p).state = .seek) && s.spin.present.get (dieOfPort p)) fun s => s.train p)

/-- TRAIN_DONE (R290, R294): a width of 2 or more is agreed within 50 ms, no wider than the port has run since it might widen: PROVE;
otherwise SEEK, and on the third timeout in
a row DOWN with cause LANES. -/
def execTrainDone (p : RPort) (lanes : Option (BitVec 8)) (rtt : Nat) (s : State) : Host.Outcome State Fault Refusal :=
  let x := s.rp p
  .next (if x.state ≠ .train then s
    else match if s.elapsed x.since_ 50000000 then none else lanes.bind fun l => (runSet l.toNat x.most).map fun w => (l, w.1) with
      | some w =>
        ((s.enterPort p .prove fun y => { y with lanesOk := w.1.toNat, width := w.2, most := w.2, rttNs := min rtt 65535, trainFails := 0 }).prove p).endRetrain p w.2 .ok
      | none =>
        if x.trainFails ≥ 2 then (s.portDown p 6).endRetrain p 0 .timeout
        else (s.enterPort p .seek fun y => { y with trainFails := y.trainFails + 1, width := 0 }).endRetrain p 0 .timeout)

/-- DOWN_HOLD_END (R294): 100 ms after DOWN, but not with cause FLAP. -/
def execDownHoldEnd (p : RPort) (s : State) : Host.Outcome State Fault Refusal :=
  let x := s.rp p
  .next (s.when (decide (x.state = .down) && decide (x.cause ≠ 9) && x.enabled && x.present && s.elapsed x.since_ 100000000) fun s => s.enterPort p .seek)

/-- CAGE_MODULE_CHANGE (R294): a module inserted in the cage of an enabled port wakes it; one removed turns it OFF. -/
def execCageModuleChange (p : RPort) (present : Bool) (s : State) : Host.Outcome State Fault Refusal :=
  let x := s.rp p
  let s1 := s.modRp p fun y => { y with present := present }
  .next (if present = x.present then s
    else if present then (if x.enabled && decide (x.state = .off) then s1.enterPort p .seek else s1)
    else (s1.enterPort p .off fun y => { y with cause := 8, width := 0, lanesOk := 0, proven := false, proving := none }).reinject p)

/-! ### The link proof (R295, R441) -/

/-- A management packet for the partner of port `p`, MSEQ of the sender's choosing (R306). -/
def State.sendMgmt (s : State) (p : Nat) (dst : BitVec 16) (mop : Nat) (body : List Byte) : State :=
  let data := leBytes 2 mop ++ leBytes 2 (Config.word s.free).toNat ++ leBytes 2 body.length ++ leBytes 2 0 ++ body
  s.fresh.enqueue p { dst := dst, src := s.node, opcode := 0x10, age := s.ageNow, data := data }

/-- May management packets arrive at the port (R294)? -/
def State.mgmtUp (s : State) (p : RPort) : Bool :=
  s.spin.present.get (dieOfPort p) && match (s.rp p).state with
    | .prove | .up | .quarantine => true
    | _ => false

/-- A failed proof (R295): a port in PROVE goes to QUARANTINE; one that was UP too, its packets re-injected (R441). -/
def State.proofFailed (s : State) (p : Nat) (counted : Bool) : State :=
  let s1 := s.when counted fun s => s.bump Ctr.reelProofFail p
  match (s.rp p).state with
  | .prove => s1.enterPort p .quarantine fun x => { x with cause := 5, proven := false }
  | .up => (s1.enterPort p .quarantine fun x => { x with cause := 5, proven := false, width := x.width }).reinject p
  | _ => s1

/-- Both verdicts are in: the port is UP, with the partner that it proved (R295). -/
def State.proofPassed (s : State) (p : Nat) : State :=
  let x := s.rp p
  if x.ourVerdict && x.theirVerdict then
    let f (y : RPortSt) : RPortSt := { y with proven := true, partner := y.candidate, proving := none, windowAt := s.time.lea }
    (if x.state = .up then s.modRp p f else s.enterPort p .up f).wakeReel
  else s

/-- LINK_CHALLENGE (R295): answered with node, port, identity key and signature, whose 96 bytes of key and signature
nothing in the model fixes (DESIGN CHOICE, log 47). -/
def execLinkChallenge (p : RPort) (nonce : BitVec 256) (challenger : BitVec 16) (s : State) : Host.Outcome State Fault Refusal :=
  let sig := (List.range 12).flatMap fun i => leBytes 8 (Config.identity nonce challenger i).toNat
  .next (s.when (s.mgmtUp p) fun s => s.sendMgmt p challenger 0x0002 (leBytes 2 s.node.toNat ++ leBytes 1 p ++ leBytes 1 0 ++ sig))

/-- Is the key in the trust list, for the node unless SWITCH is set (R441)? -/
def trusted (ts : List Trust) (key : BitVec 256) (node : BitVec 16) : Bool := ts.any fun t => decide (t.key = key) && (t.isSwitch || decide (t.node = node))

/-- LINK_RESPONSE (R295, R432, R441): the partner's answer is checked, and the verdict sent. -/
def execLinkResponse (p : RPort) (node : BitVec 16) (port : Nat) (key : BitVec 256) (sigOk : Bool) (s : State) : Host.Outcome State Fault Refusal :=
  let ok := sigOk && decide (port < 256) && trusted s.conf.inForce.trust key node && decide (node ≠ s.node)
  .next (s.when (s.mgmtUp p && (s.rp p).proving.isSome) fun s =>
    let s1 := s.when (!sigOk) fun s => (s.bump Ctr.secSigFail).fire 0x3F2 (Config.sigCheckCode 0).toNat
    let s2 := (s1.modRp p fun x => { x with ourVerdict := ok, candidate := node }).sendMgmt p node 0x0003 (leBytes 1 ok.toNat)
    if ok then s2.proofPassed p else s2.proofFailed p true)

/-- LINK_VERDICT (R295): the partner's judgement of this module. -/
def execLinkVerdict (p : RPort) (accepted : Bool) (s : State) : Host.Outcome State Fault Refusal :=
  .next (s.when (s.mgmtUp p && (s.rp p).proving.isSome) fun s =>
    if accepted then (s.modRp p fun x => { x with theirVerdict := true }).proofPassed p else s.proofFailed p true)

/-- PROVE_TIMEOUT (R294, R361): a proof not passed in 10 ms. -/
def execProveTimeout (p : RPort) (s : State) : Host.Outcome State Fault Refusal :=
  let x := s.rp p
  .next (match x.proving with
    | some t => s.when ((decide (x.state = .prove) || decide (x.state = .up)) && s.elapsed t 10000000) fun s => s.proofFailed p false
    | none => s)

/-- QUARANTINE_RETRY (R294): the proof is repeated every second. -/
def execQuarantineRetry (p : RPort) (s : State) : Host.Outcome State Fault Refusal :=
  let x := s.rp p
  .next (s.when (decide (x.state = .quarantine) && s.elapsed (x.proving.getD x.since_) 1000000000) fun s => s.prove p)

/-! ### Drains (R305, R346) -/

/-- Does a port hold request packets? -/
def RPortSt.holdsRequests (x : RPortSt) : Bool :=
  (x.queue.any fun q => q.2.any fun k => isRequest k.opcode.toNat) || x.replay.any fun e => e.ends.any fun k => isRequest k.opcode.toNat

/-- Drained: no request packet in any egress queue or replay buffer. -/
def State.drained (s : State) : Bool := s.rport.all fun p => !p.2.holdsRequests

/-- Set a port's gateway mode, and enable or disable it; it may widen again (R290, R294, R310). -/
def State.setPort (s : State) (p : Nat) (on gateway : Bool) : State :=
  let s1 := s.modRp p fun x => { x with enabled := on, gateway := gateway, most := 8 }
  let x := s1.rp p
  if on then
    if x.present && (decide (x.state = .off) || (decide (x.state = .down) && decide (x.cause = 9))) then s1.enterPort p .seek else s1
  else if x.state = .off then s1
  else ((if x.state = .down then s1 else s1.portDown p 7).enterPort p .off)

/-- Injection resumes, and what waited goes out (R305). -/
def State.resume (s : State) : State := (({ s with reel := { s.reel with drain := none } }.wakeReel).wakeInval).unpark

/-- Steps 4 and 5 of a drain (R305, R346): tables exchanged, profiles in force, or gateway mode set; the command's end. -/
def State.drainAct (s : State) (d : Drain) (ns : Nat) : State :=
  match d.what, d.cmd with
  | 1, some c => { s with reel := { s.reel with active := other s.reel.active, routed := true } }.done c .ok (result [(16, 4, ns)])
  | 2, some c => s.applyNow c
  | 3, some c => (s.setPort d.aux (c.inl 17 1 = 1) (c.inl 18 1 = 1)).done c .ok
  | _, _ => s

/-- A drain that has finished acts. -/
def State.tryDrain (s : State) : State :=
  match s.reel.drain with
  | some d =>
    if s.drained then
      let ns := since d.at_ s.time.lea
      (({ s with reel := { s.reel with drainNs := ns, drainResult := 1 } }.drainAct d ns).fire 0x310 1 0 ns).resume
    else s
  | none => s

/-- Begin a drain (R305 steps 1 to 3). -/
def State.startDrain (s : State) (what : Nat) (c : Cmd) (aux : Nat := 0) : State :=
  { s with reel := { s.reel with drain := some { what := what, at_ := s.time.lea, cmd := some c, aux := aux } } }.tryDrain

/-- Request packets still queued at a port are discarded. -/
def RPortSt.dropRequests (x : RPortSt) : RPortSt := { x with queue := (List.range 8).foldl (fun q v => q.mod [] v fun ks => ks.filter fun k => !isRequest k.opcode.toNat) x.queue }

/-- DRAIN_TIMEOUT (R305, R346): 50 µs have passed: the request packets still queued are discarded and counted; a ROUTE_SWAP
exchanges its tables all the same, anything else changes nothing; the command completes with TIMEOUT. -/
def execDrainTimeout (s : State) : Host.Outcome State Fault Refusal :=
  .next (match s.reel.drain with
    | some d => if s.elapsed d.at_ 50000 && !s.drained then
        let n := (s.rport.map fun p => (p.2.queue.map fun q => (q.2.filter fun k => isRequest k.opcode.toNat).length).sum).sum
        let ns := since d.at_ s.time.lea
        let s1 := (s.forEach (List.range 8) fun p s => s.modRp p (·.dropRequests)).bump Ctr.reelDrainDiscard 0 n
        let s2 := { s1 with reel := { s1.reel with drainNs := ns, drainResult := 2, discarded := min n 65535 } }
        let s3 := if d.what = 1 then { s2 with reel := { s2.reel with active := other s2.reel.active, routed := true } } else s2
        let res := if d.what = 1 then result [(16, 4, ns), (20, 4, n)] else result [(16, 4, 3)]
        let s4 := match d.cmd with | some c => s3.done c .timeout res | none => s3
        (s4.fire 0x310 2 0 ns).resume
      else s
    | none => s)

/-! ### Link flits (R291, R292, R297) -/

/-- A new 1 ms window of replay and CRC counts, when one has passed (R293, R311). -/
def State.rollWindow (s : State) (p : Nat) : State :=
  s.modRp p fun x => if s.elapsed x.windowAt 1000000 then
      { x with replaysMs := min x.replays 65535, crcMs := min x.crcs 65535, replays := 0, crcs := 0, windowAt := s.time.lea,
               badWindows := if x.replays > 1000 then (if s.elapsed x.windowAt 2000000 then 1 else x.badWindows + 1) else 0 }
    else x

/-- Flits after an acknowledgement: those up to ACK leave the replay buffer. -/
def RPortSt.acked (x : RPortSt) (ack : BitVec 12) (t : Lea) : RPortSt :=
  let rest := x.replay.filter fun e => !decide ((ack - e.seq).toNat < 2048)
  { x with replay := rest, lastAck := t, sameFlit := if rest.length < x.replay.length then 0 else x.sameFlit }

/-- A receiver that asks for a replay gets every flit from ACK + 1: one replay (R292). -/
def RPortSt.replayed (x : RPortSt) : RPortSt := if x.replay.isEmpty then x else { x with replays := x.replays + 1, sameFlit := x.sameFlit + 1 }

/-- Credits return, never above those the partner advertised; in training a CONTROL flit advertises them (R291, R298). -/
def RPortSt.credited (x : RPortSt) (f : LFlit) : RPortSt :=
  if x.state = .train then
    if f.kind = 2 then { x with advertised := x.advertised.mod 0 f.crVc (· + f.crCount), credit := x.credit.mod 0 f.crVc (· + f.crCount) } else x
  else { x with credit := x.credit.mod 0 f.crVc fun n => min (x.advertised.get 0 f.crVc) (n + f.crCount) }

/-- Take the SEQ of an intact flit: a DATA flit in sequence arrives, and its bytes join those before them; a SEQ ahead of the one expected shows a gap, from which a replay
is asked for (R292). -/
def RPortSt.sequenced (x : RPortSt) (f : LFlit) : RPortSt :=
  if f.seq = x.rxSeq then (if f.kind = 1 then { x with rxSeq := x.rxSeq + 1, asks := false, rx := (x.unpacked f).2 } else x)
  else if (f.seq - x.rxSeq).toNat < 2048 then { x with asks := true } else x

/-- What the FEC of the port reports with a flit: the worst lane and its pre-FEC ratio (R311). -/
def RPortSt.heard (x : RPortSt) (f : LFlit) : RPortSt := { x with preFec := f.preFec.toNat, worstLane := f.worstLane.val }

/-- LINK_FLIT (R292, R297): a flit with a CRC error is discarded, and a replay asked for; so is a flit out of sequence; otherwise its
acknowledgement, its replay request and its credits act, what can now be sent is sent, IDLE flits acknowledge it and return the
credits of the packets that it completes, and a drain may end. Those packets act as the commands of their opcodes (log 41). -/
def execLinkFlit (p : RPort) (f : LFlit) (crcOk : Bool) (s : State) : Host.Outcome State Fault Refusal :=
  let live := s.spin.present.get (dieOfPort p) && match (s.rp p).state with
    | .train | .prove | .up | .quarantine => true
    | _ => false
  .next (if !live then s
    else
      let s1 := (s.rollWindow p).modRp p fun x => x.heard f
      if !crcOk then s1.modRp p fun x => { x with crcs := x.crcs + 1, asks := true }.says []
      else
        let nak := f.nak && f.ackValid && !((s1.rp p).acked f.ack s.time.lea).replay.isEmpty
        let s2 := s1.modRp p fun x =>
          let y := if f.ackValid then x.acked f.ack s.time.lea else x
          let z := (if f.nak then y.replayed else y).credited f
          ((z.sequenced f).pump s.time.lea).says (z.returns f)
        (s2.when nak fun s => s.bump Ctr.reelReplay p).tryDrain)

/-! ### Management and time (R306-R309) -/

/-- REEL.PORT of a port (R311). -/
def State.portWord (s : State) (p : Nat) : Word :=
  let x := s.rp p
  pack [(0, 3, x.state.code), (14, 1, x.proven.toNat), (15, 1, x.gateway.toNat), (16, 1, (s.reel.held.any fun h => decide (h.1 = p)).toNat),
    (24, 8, min 255 (s.recentDowns x).length), (32, 4, x.cause), (36, 4, if x.state = .up then x.width else 0), (40, 8, x.lanesOk), (48, 16, x.partner.toNat)]

/-- A source that asks again within 10 µs is not answered (R307). -/
def State.askedNow (s : State) (src : BitVec 16) : Bool := s.reel.mgmt.any fun m => decide (m.1 = src) && !s.elapsed m.2 10000

/-- Note that a source has been answered. -/
def State.noteAsk (s : State) (src : BitVec 16) : State :=
  { s with reel := { s.reel with mgmt := (s.reel.mgmt.filter fun m => !s.elapsed m.2 10000 && decide (m.1 ≠ src)) ++ [(src, s.time.lea)] } }

/-- CMAP_REQ (R306, R307): up to 16 samples, two to a packet. -/
def execCmapReq (p : RPort) (src : BitVec 16) (first count : Nat) (s : State) : Host.Outcome State Fault Refusal :=
  .next (s.when (s.mgmtUp p) fun s =>
    if s.askedNow src then s.bump Ctr.reelMgmtQuiet p
    else
      let ss := (s.reel.cmap.drop first).take (min count 16)
      let body (l : List (Lea × List Nat)) : List Byte := l.flatMap fun x => leBytes 8 x.1.toNat ++ x.2.map (BitVec.ofNat 8 ·)
      (s.noteAsk src).forEach (List.range ((ss.length + 1) / 2)) fun i s => s.sendMgmt p src 0x0021 (body ((ss.drop (2 * i)).take 2)))

/-- PORT_REQ (R306, R307). -/
def execPortReq (p : RPort) (src : BitVec 16) (s : State) : Host.Outcome State Fault Refusal :=
  .next (s.when (s.mgmtUp p) fun s =>
    if s.askedNow src then s.bump Ctr.reelMgmtQuiet p
    else (s.noteAsk src).sendMgmt p src 0x0023 ((List.range 8).flatMap fun q => leBytes 8 (s.portWord q).toNat))

/-- CMAP_SAMPLE (R309): at the Lea multiples of 10,000 ns, one byte per port and VC; the last 16 samples are kept. -/
def execCmapSample (s : State) : Host.Outcome State Fault Refusal :=
  let fill (p v : Nat) : Nat := min 255 (255 * (((s.rp p).vcq v).map fun k => 32 + k.data.length).sum / 65536)
  let x := (List.range 64).map fun i => fill (i / 8) (i % 8)
  .next (s.when (decide (s.time.lea.toNat % 10000 = 0)) fun s => { s with reel := { s.reel with cmap := ((s.time.lea, x) :: s.reel.cmap).take 16 } })

/-- MASTER_VALID takes a value; a change fires 0x311. -/
def State.setMaster (s : State) (ok : Bool) : State :=
  { s with time := { s.time with masterValid := ok } }.when (decide (s.time.masterValid ≠ ok)) fun s => s.fire 0x311 4 0 ok.toNat

/-- TIME_REQ (R308): one exchange a millisecond with the time master; after three without an answer MASTER_VALID clears. A
module that is its own master does not align itself. -/
def execTimeReq (s : State) : Host.Outcome State Fault Refusal :=
  let m := s.conf.inForce.timeMaster
  .next (if m = s.node then s
    else
      let live := !(s.livePorts m).isEmpty
      let missed := if s.reel.timeT1.isSome || !live then s.reel.timeMiss + 1 else 0
      let s1 := { s with reel := { s.reel with timeMiss := min missed 3, timeT1 := if live then some s.time.lea else none } }
      let s2 := match (s.livePorts m).head? with | some p => s1.sendMgmt p m 0x0010 (leBytes 8 s.time.lea.toNat) | none => s1
      s2.when (decide (missed ≥ 3)) fun s => s.setMaster false)

/-- Sign of a number. -/
def signOf (x : Int) : Int := if x > 0 then 1 else if x < 0 then -1 else 0

/-- The counting rate that closes an offset of `x` ns, master minus local: of its sign, at most 100 ppm, and enough to close up to
20 ns within 200 µs, the size beyond that not fixed by the manual (R159; DESIGN CHOICE, log 48); an offset above 100 µs is not
slewed (R160). -/
def State.slewFor (s : State) (x : Int) : Int :=
  let least := min 100 (5 * x.natAbs)
  if x.natAbs > 100000 then 0 else signOf x * (least + (Config.word s.free).toNat % (101 - least) : Nat)

/-- TIME_RESP (R159, R308): the answer of the time master to the exchange under way gives the offset and the slew. -/
def execTimeResp (src : BitVec 16) (t1 t2 t3 t4 : BitVec 64) (corr : Int) (s : State) : Host.Outcome State Fault Refusal :=
  let x : Int := ((t2 - t1).toInt - (t4 - t3).toInt - corr) / 2
  let lim : Int := 2 ^ 31 - 1
  .next (if src = s.conf.inForce.timeMaster ∧ src ≠ s.node ∧ s.reel.timeT1 = some t1 then
      let s1 := { s with
        reel := { s.reel with timeT1 := none, timeMiss := 0 }
        time := { s.time with offset := max (-lim) (min lim (-x)), slew := s.slewFor x, toClose := x.natAbs, frac := 0, good := if x.natAbs ≤ 5 then min 16 (s.time.good + 1) else 0 }
        free := s.free + 1 }
      s1.setMaster true
    else s)

/-- TIME_REQ_ANSWER (R307, R308): answered with the stamps; Lea stays as it is. -/
def execTimeReqAnswer (p : RPort) (src : BitVec 16) (t1 t2 t3 : BitVec 64) (s : State) : Host.Outcome State Fault Refusal :=
  .next (s.when (s.mgmtUp p) fun s => s.sendMgmt p src 0x0011 (leBytes 8 t1.toNat ++ leBytes 8 t2.toNat ++ leBytes 8 t3.toNat ++ leBytes 4 0))

/-! ### Commands (R303, R305, R310) -/

/-- REEL_STATUS (R310). -/
def execReelStatus (c : Cmd) (s : State) : Host.Outcome State Fault Refusal :=
  .next (selkan { op := 0x0601, inHeld := true } c {} (fun s =>
    s.done c .ok (result [(16, 2, s.node.toNat), (18, 1, bitsOf ((List.range 8).map fun p => decide ((s.rp p).state = .up))), (19, 1, s.reel.active.val)])) s)

/-- Is a routing entry one that ROUTE_LOAD takes: no reserved bit, gateway ports with GATEWAY and only with it (R303)? -/
def State.routeOk (s : State) (e : Nat) : Bool :=
  decide (e < 2048) && (onesOf 8 (routePorts e)).all fun p => (s.rp p).gateway == routeGateway e

/-- ROUTE_LOAD (R303): entries of the shadow table from HBM. -/
def execRouteLoad (c : Cmd) (s : State) : Host.Outcome State Fault Refusal :=
  let a := c.field s 16 8
  let first := c.field s 24 2
  let n := c.field s 26 4
  let list := if n ≤ 65536 then readSpace s (c.port s) 1 a (4 * n) else none
  let es := (List.range (min n 65536)).map fun i => leNat (((list.getD []).drop (4 * i)).take 4)
  let bad := if n = 0 ∨ n > 65536 ∨ first + n > 65536 then some 26 else if list.isNone || es.any (fun e => !s.routeOk e) then some 16 else none
  .next (selkan { op := 0x0602, named := [(16, 29)], long := true } c { bad := bad, reads := if n ≤ 65536 then some (a, 4 * n) else none } (fun s =>
    let shadow := other s.reel.active
    { s with reel := { s.reel with routes := s.reel.routes.mod shadow fun t => t.setAll 0 first es } }.done c .ok) s)

/-- ROUTE_SWAP (R305): the tables are exchanged after a drain. -/
def execRouteSwap (c : Cmd) (s : State) : Host.Outcome State Fault Refusal :=
  .next (selkan { op := 0x0603, long := true } c { busy := if s.reel.drain.isSome then some 0 else none } (fun s => s.startDrain 1 c) s)

/-- PORT_SET (R310): at once; when it changes gateway mode, only with no job open, after a drain. -/
def execPortSet (c : Cmd) (s : State) : Host.Outcome State Fault Refusal :=
  let p := c.field s 16 1
  let on := c.field s 17 1
  let gw := c.field s 18 1
  let turns := decide (p < 8) && decide (gw ≤ 1) && decide ((s.rp p).gateway ≠ decide (gw = 1))
  let bad := if p ≥ 8 then some 16 else if on > 1 then some 17 else if gw > 1 ∨ (gw = 1 ∧ !s.fuse.gateway) then some 18 else none
  .next (selkan { op := 0x0604, named := [(16, 18)], long := turns, noJob := turns } c
    { bad := bad, busy := if turns && s.reel.drain.isSome then some 0 else none } (fun s =>
    if turns then s.startDrain 3 c p else (s.setPort p (decide (on = 1)) (s.rp p).gateway).done c .ok) s)

/-- PORT_RETRAIN (R310): the port goes DOWN with cause COMMAND, its packets re-injected; TRAIN_DONE ends the command. A
port that is disabled or has no module is not retrained. -/
def execPortRetrain (c : Cmd) (s : State) : Host.Outcome State Fault Refusal :=
  let p := c.field s 16 1
  .next (selkan { op := 0x0605, named := [(16, 16)], long := true } c
    { bad := if p ≥ 8 then some 16 else none, state := !(s.rp p).enabled || !(s.rp p).present } (fun s =>
    let s1 := (s.setAux c p).modRp p fun x => { x with most := 8 }
    if (s.rp p).state = .down then s1.modRp p fun x => { x with cause := 7 } else (s1.portDown p 7).modRp p fun x => { x with cause := 7 }) s)

end Sys2Proof.Machine
end

