-- ==== Sys2Proof/Machine/Pair.lean ====
section
/-! DEFINITION. The Spindle pair: digests, the interlock and takeover, Spindle states, and the loss of an I/O die or of the
link between the two (chapter 17). -/

namespace Sys2Proof.Machine

/-- Spindle `d`. -/
def State.sp (s : State) (d : IoDie) : Spindle := s.spin.spindle.get d

/-- Change Spindle `d`. -/
def State.modSp (s : State) (d : IoDie) (f : Spindle → Spindle) : State := { s with spin := { s.spin with spindle := s.spin.spindle.mod d f } }

/-! ### Failures (R353, R356) -/

/-- One hour of Lea time. -/
def hour : Nat := 3600000000000

/-- Failures of a Spindle within the last hour, with one more now. -/
def Spindle.failures (x : Spindle) (now : Lea) : List Lea := (now :: x.recent.filter fun t => decide (since t now < hour)).take 3

/-- A Spindle in FAILED resets itself into BOOT, unless three failures fell within the hour (R356). -/
def Spindle.failed (x : Spindle) (now : Lea) : Spindle :=
  let r := x.failures now
  { x with state := if r.length ≥ 3 then .failed else .boot, recent := r, bootFrom := now, passed := none, lapses := 0 }

/-- The holder lets its claim line go at t0 = now (R354 step 1). -/
def State.letGo (s : State) (d : IoDie) (check : Nat) (planned : Bool) : State :=
  if s.spin.claim = some d then { s with spin := { s.spin with claim := none, releasing := some (s.time.lea, check, planned) } } else s

/-- The gated buffer of Spindle `d` holds these writes. -/
def State.gate (s : State) (d : IoDie) (ws : List (Word × Word)) : State := { s with spin := { s.spin with gated := s.spin.gated.set d ws } }

/-- A Spindle's self-check fails (R353, R356): counted, its claim line let go, and it resets. -/
def State.selfCheckFails (s : State) (d : IoDie) (check : Nat) : State :=
  let s1 := ((s.bump Ctr.spindleSelfcheckFail d.val).letGo d check false).gate d []
  s1.modSp d fun x => { x.failed s.time.lea with fails := satAdd 0xFFFF x.fails 1, lastCheck := check }

/-- SPINDLE_SELFCHECK_FAIL (R353, R354): a Spindle that runs fails its self-check. -/
def execSpindleSelfcheckFail (d : IoDie) (check : Nat) (s : State) : Host.Outcome State Fault Refusal :=
  .next (match (s.sp d).state with
    | .active | .standby | .catchup => s.selfCheckFails d check
    | _ => s)

/-! ### Digests (R351, R352) -/

/-- One bit of CRC-64 with the ECMA-182 polynomial. -/
def crc64Bit (c : Word) : Word := if c.msb then (c <<< 1) ^^^ 0x42F0E1EBA9EA3693#64 else c <<< 1

/-- One byte. -/
def crc64Byte (c : Word) (b : Byte) : Word := crc64Bit (crc64Bit (crc64Bit (crc64Bit (crc64Bit (crc64Bit (crc64Bit (crc64Bit (c ^^^ (b.setWidth 64 <<< 56)))))))))

/-- CRC-64 of bytes, from 0 and without a final inversion (R351; DESIGN CHOICE, log 107). -/
def crc64 (bs : List Byte) : Word := bs.foldl crc64Byte 0

/-- Digest of a step: over its address and data pairs in order, then the STATUS and RESULT of its completions (R351). -/
def digestOf (x : StepWrites) : Word :=
  crc64 ((x.writes.flatMap fun w => leBytes 8 w.1.toNat ++ leBytes 8 w.2.toNat) ++ x.ends.flatMap fun e => leBytes 2 e.1.toNat ++ leBytes 16 e.2.toNat)

/-- DIGEST_EXCHANGE (R351, R352): at a commit mark the digests of Spindles in step agree, and the one without the claim discards its
gated buffer; or it keeps the writes, both check themselves, and execution pauses. -/
def execDigestExchange (a b : StepWrites) (s : State) : Host.Outcome State Fault Refusal :=
  let d := other s.spin.holder
  .next (if s.spin.inStep && !s.spin.checking then
      if digestOf a = digestOf b then s.gate d []
      else
        let s1 := ((s.bump Ctr.digestMismatch).fire 0x321 0x0702).gate d (if d = 0 then a.writes else b.writes)
        { s1 with spin := { s1.spin with checking := true } }
    else s)

/-- The command whose step is not trusted ends with HELD: the L commands in progress do with entry to HELD; with none, the
next in the merged order, which was being executed. -/
def State.heldHead (s : State) : State :=
  match s.spin.lops, s.spin.merged with
  | [], e :: _ => let s1 := s.take e.cmd
      if e.lost then s1 else s1.done e.cmd .held (heldResult { s with mod := { s.mod with heldCause := 0x0702 } })
  | _, _ => s

/-- HELD under R352. -/
def State.digestHeld (s : State) : State :=
  let s1 := s.heldHead
  { s1 with spin := { s1.spin with digestHeld := true, gated := ⟨[], []⟩ } }.enterHeld 0x0702

/-- SELF_CHECK_DONE (R352): how the self-checks end decides. The holder that fails with its peer keeps the claim, and serves
HELD alone. -/
def execSelfCheckDone (failA failB : Bool) (s : State) : Host.Outcome State Fault Refusal :=
  let h := s.spin.holder
  let fails (d : IoDie) : Bool := if d = 0 then failA else failB
  let s0 := { s with spin := { s.spin with checking := false } }
  .next (if !s.spin.checking then s
    else match fails h, fails (other h) with
      | false, false => s0.digestHeld
      | false, true => s0.selfCheckFails (other h) 4
      | true, false => s0.selfCheckFails h 4
      | true, true =>
        let s1 := ((s0.selfCheckFails (other h) 4).bump Ctr.spindleSelfcheckFail h.val).modSp h fun x =>
          { x with fails := satAdd 0xFFFF x.fails 1, lastCheck := 4, recent := x.failures s.time.lea }
        s1.digestHeld)

/-! ### Taking the claim (R353, R354) -/

/-- A Spindle asserts its claim line and is ACTIVE. -/
def State.takeClaim (s : State) (d : IoDie) : State :=
  let s1 := s.modSp d fun x => { x with state := .active, passed := none, lapses := 0 }
  { s1 with spin := { s1.spin with claim := some d, holder := d, since := s.time.lea, releasing := none } }

/-- The record of a source served at a host target is written again, REPEAT set, with the same EVSEQ (R379). -/
def State.repeatRecord (s : State) (src : Nat) (h : Port) : State :=
  let x := s.obs.srcAt src (2 + h.val)
  match s.host.eventQueue h with
  | some n => s.when (x.serving && !x.served.isEmpty && (s.queue n).room) fun s => s.putRecord n (x.served.take 7 ++ [(x.served.getD 7 0) ||| 6] ++ x.served.drop 8)
  | none => s

/-- The command whose step is uncommitted when the holder fails the self-check of a digest mismatch (code 4): with no L command in
progress, the next in the merged order, which was being executed (R352, R354). -/
def State.uncommitted (s : State) (check : Nat) : Option Cmd :=
  if check = 4 ∧ s.spin.lops.isEmpty = true then s.spin.merged.head?.map (·.cmd) else none

/-- A takeover (R354, R355): the peer in STANDBY takes the claim and writes what its gated buffer held; commands in progress carry TAKEOVER from now on, and
records that it cannot prove written are written again. -/
def State.takeOver (s : State) (d : IoDie) (t0 : Lea) (check : Nat) (planned : Bool) (unproven : List Nat) : State :=
  let mid := s.uncommitted check
  let s1 := { s with spin := { s.spin with midStep := mid } }.takeClaim d
  let t : Takeover :=
    { at_ := t0, durationNs := since t0 s.time.lea, cause := check, planned := planned,
      inProgress := !planned && (!s.spin.lops.isEmpty || mid.isSome), toDie := d }
  let ls := s1.spin.lops.map fun l => { l with takeover := true }
  let s2 := { s1 with spin := { s1.spin with takeover := t, lops := ls, gated := ⟨[], []⟩ } }
  let s3 := (s2.bump Ctr.spindleTakeover).fire 0x320 check d.val
  s3.forEach unproven fun src s => (s.repeatRecord src 0).repeatRecord src 1

/-- CLAIM_RELEASED (R353, R354, R356): the holder's line has been low for 100 ns. With no peer in STANDBY the module is HELD. -/
def execClaimReleased (unproven : List Source) (s : State) : Host.Outcome State Fault Refusal :=
  .next (match s.spin.releasing with
    | some (t0, check, planned) =>
      let d := other s.spin.holder
      if !s.elapsed t0 100 then s
      else if (s.sp d).state = .standby then s.takeOver d t0 check planned (unproven.map (·.val))
      else { s with spin := { s.spin with releasing := none } }.enterHeld 0x0807
    | none => s)

/-! ### Spindle states (R356, R357) -/

/-- A Spindle enters CATCHUP. -/
def State.catchup (s : State) (d : IoDie) : State := s.modSp d fun x => { x with state := .catchup, bootFrom := s.time.lea, passed := none }

/-- SPINDLE_BOOT_TIMEOUT (R356): a Spindle not through BOOT within 2 s fails. -/
def execSpindleBootTimeout (d : IoDie) (s : State) : Host.Outcome State Fault Refusal :=
  .next (if (s.sp d).state = .boot && (s.sp d).passed.isNone && s.elapsed (s.sp d).bootFrom 2000000000 then s.modSp d fun x => x.failed s.time.lea else s)

/-- CATCHUP_TIMEOUT (R356): a Spindle still in CATCHUP 100 ms after the link is up tries again; the third lapse leaves it in
FAILED. -/
def execCatchupTimeout (d : IoDie) (s : State) : Host.Outcome State Fault Refusal :=
  let x := s.sp d
  .next (if x.state = .catchup && decide (s.spin.width ≥ 4) && s.elapsed x.bootFrom 100000000 then
      s.modSp d fun x => if x.lapses ≥ 2 then { x with state := .failed, lapses := 0 } else { x with lapses := x.lapses + 1, bootFrom := s.time.lea }
    else s)

/-- The MODULE_RESET of level 1 or 2 in progress for a Spindle: its entry, and the Lea time at which the reset began. Its
`aux` is the Spindle, and the time in units of 2. -/
def State.spReset (s : State) (d : IoDie) : Option (LOp × Lea) :=
  (s.spin.lops.find? fun l => decide (l.opcode = 0x0102) && decide (l.aux % 2 = d.val)).map fun l => (l, BitVec.ofNat 64 (l.aux / 2))

/-- A Spindle has rejoined: its reset command, if any, ends with the time it took in ms (R417). -/
def State.endSpReset (s : State) (d : IoDie) : State :=
  match s.spReset d with
  | some (l, t) => s.done l.cmd .ok (result [(16, 4, since t s.time.lea / 1000000)])
  | none => s

/-- MIRROR_REJOIN (R357): the mirror is current at a command boundary: STANDBY, with a copy of the holder's target state (R373). A
Spindle whose firmware digest differs cannot leave CATCHUP (R435). -/
def execMirrorRejoin (d : IoDie) (s : State) : Host.Outcome State Fault Refusal :=
  .next (if (s.sp d).state = .catchup && decide (s.spin.width ≥ 4) && decide (s.spin.claim = some (other d)) && !s.sec.mismatch then
      let s1 := s.modSp d fun x => { x with state := .standby, lapses := 0 }
      (({ s1 with obs := s1.obs.copyTarget (other d).val d.val }.bump Ctr.mirrorRejoin).fire 0x323 0 d.val).endSpReset d
    else s)

/-- STATE of SPINDLE.SELF (R360). -/
def SpState.code : SpState → Nat
  | .off => 0 | .boot => 1 | .active => 2 | .standby => 3 | .catchup => 4 | .failed => 5

/-- SPINDLE_RESET_TIMEOUT (R417): the Spindle of a level 1 or 2 reset has not reached STANDBY 2.2 s after its start. -/
def execSpindleResetTimeout (s : State) : Host.Outcome State Fault Refusal :=
  let go (d : IoDie) (s : State) : State :=
    match s.spReset d with
    | some (l, t) => s.when (s.elapsed t 2200000000) fun s => s.done l.cmd .timeout (result [(16, 4, (s.sp d).state.code)])
    | none => s
  .next (go 1 (go 0 s))

/-- A Spindle is reset by name (R355, R356): the holder lets its claim go first. -/
def State.resetSpindle (s : State) (d : IoDie) : State :=
  (s.letGo d 5 true).modSp d fun x => { x with state := .boot, bootFrom := s.time.lea, passed := none, lapses := 0, lastCheck := 5 }

/-- May a Spindle not be reset by name (R355): the only one that serves, OFF with its die, or held in FAILED? -/
def State.resetRefused (s : State) (d : IoDie) : Bool :=
  ((s.sp d).state.live && !(s.sp (other d)).state.live) || (s.sp d).state = .off ||
    ((s.sp d).state = .failed && decide ((s.sp d).recent.length ≥ 3))

/-! ### The link between the I/O dies (R199, R359) -/

/-- Width that a number of good lanes gives. -/
def linkWidth (lanes : Nat) : Nat := if lanes ≥ 16 then 16 else if lanes ≥ 8 then 8 else if lanes ≥ 4 then 4 else 0

/-- Lanes at which the link runs: the lower of what its two ends trained (R199). -/
def linkLanes (e : LinkEnds) : Nat := min e.x0 e.x1

/-- Both Spindles go on, out of step: the one without the claim is in CATCHUP (R359). A claim that is just passing goes on
to the peer. -/
def State.outOfStep (s : State) : State :=
  if s.spin.claim.isNone then s else s.forEach ((List.finRange 2).filter fun d => decide ((s.sp d).state = .standby)) fun d s => s.catchup d

/-- The link has fewer than 4 lanes: the lockstep and an open job end (R199, R359). -/
def State.linkDown (s : State) : State :=
  s.when (decide (s.spin.width ≥ 4)) fun s =>
    let s1 := ({ s with spin := { s.spin with width := 0, lanesOk := 0 } }.bump Ctr.iolinkDown).fire 0x322 0
    s1.outOfStep.stamp 0x0704 s.spin.holder.val (32 + s.spin.holder.val)

/-- The link runs at `w` lanes: after a time below 4 a Spindle in CATCHUP begins to receive the mirror (R357, R359). -/
def State.linkAt (s : State) (w : Nat) (e : LinkEnds) : State :=
  let s1 := { s with spin := { s.spin with width := w, lanesOk := 2 ^ (min (linkLanes e) 16) - 1, rttNs := min e.rttNs 255 } }
  s1.when (decide (s.spin.width < 4)) fun s => s.forEach ((List.finRange 2).filter fun d => decide ((s.sp d).state = .catchup)) fun d s => s.catchup d

/-- The link trains after a reset or a time below 4 lanes: at the lower width of its ends, never wider than the map; a narrower width
commits an epoch, and below 4 lanes the link is down (R199). -/
def State.linkTrained (s : State) (e : LinkEnds) : State :=
  let w := min (linkWidth (linkLanes e)) s.creel.lanes
  if w < 4 then s.linkDown
  else (s.linkAt w e).when (decide (w < s.creel.lanes) && s.creel.mapped) fun s => ({ s with creel := { s.creel with lanes := w } }.commit 5).fire 0x322 1 0 w

/-- IOLINK_DOWN (R359): fewer than 4 lanes. -/
def execIolinkDown (s : State) : Host.Outcome State Fault Refusal := .next s.linkDown

/-- Does a Spindle come back from its reset, so that the link trains again (R199)? -/
def State.spindleBack (s : State) : Bool := (List.finRange 2).any fun d => !((s.sp d).state = .active || (s.sp d).state = .standby)

/-- IOLINK_UP (R199, R359): the link has trained, after a time below 4 lanes or after the reset of a Spindle. -/
def execIolinkUp (e : LinkEnds) (s : State) : Host.Outcome State Fault Refusal :=
  .next (s.when (s.spin.present.a && s.spin.present.b && decide (linkLanes e ≥ 4) && (decide (s.spin.width < 4) || s.spindleBack)) fun s => s.linkTrained e)

/-! ### Losing an I/O die (R358) -/

/-- Queues of the surviving port whose rings lie in the lost half. -/
def State.ringsLost (s : State) (d : IoDie) : List Nat :=
  (s.host.ofPort (other d)).filter fun n => (s.queue n).space && decide ((s.queue n).base / 134217728 = d.val)

/-- The four Reel ports of a die, lost with their buffers. -/
def State.portsLost (s : State) (d : IoDie) : State :=
  s.forEach ((List.range 4).map (· + 4 * d.val)) fun p s => s.modRp p fun x =>
    { state := .off, since_ := s.time.lea, enabled := x.enabled, present := x.present, gateway := x.gateway, downs := x.downs }

/-- IODIE_LOST (R358): what goes with the die; the surviving Spindle stamps the fault of an open job. -/
def execIodieLost (d : IoDie) (s : State) : Host.Outcome State Fault Refusal :=
  .next (if !s.spin.present.get d then s
    else
      let s1 := (s.letGo d 6 false).modSp d fun x => { x with state := .off, lastCheck := 6, passed := none }
      let s2 := { s1 with spin := { s1.spin with present := s1.spin.present.set d false, width := 0, lanesOk := 0, distaff := s1.spin.distaff.set d {} } }
      let s3 := ((s2.modPort d fun x => { x with up := false, heldDb := [] }).queuesDown d).stopStreams d
      let s4 := s3.forEach (s3.ringsLost d) fun n s => s.queueError n .ringRead
      let s5 := (s4.portsLost d).fence (32 + d.val)
      s5.stamp 0x0703 d.val (32 + (other d).val))

/-- A Reel port of a die that has come back seeks a partner, if it is enabled and has a module (R294). -/
def State.portsBack (s : State) (d : IoDie) : State :=
  s.forEach (((List.range 4).map (· + 4 * d.val)).filter fun p => (s.rp p).enabled && (s.rp p).present && decide (s.mod.state ≠ .held)) fun p s => s.enterPort p .seek

/-- IODIE_RETURN (R358): the die is back: its port as after a PERST, its Spindle in BOOT, the link no wider than the map,
its station's set committed and the station unfenced. -/
def execIodieReturn (d : IoDie) (e : LinkEnds) (s : State) : Host.Outcome State Fault Refusal :=
  .next (if s.spin.present.get d || s.pow.supply = .off then s
    else
      let s1 := { s with spin := { s.spin with present := s.spin.present.set d true } }
      let s2 := ((s1.portReset d).modSp d fun x => { x with state := .boot, bootFrom := s.time.lea, passed := none, lapses := 0 })
      ((s2.linkTrained e).unfence (32 + d.val)).portsBack d)

end Sys2Proof.Machine
end

