-- ==== Sys2Proof/Machine/Calib.lean ====
section
/-! DEFINITION. Calibration and ageing: snapshots, band-gaps, the ageing monitors, the plan and its summaries
(chapter 21). -/

namespace Sys2Proof.Machine

/-! ### CAL.STAT (R415) -/

/-- CAL.STAT. -/
def State.calStat (s : State) : Word :=
  pack [(48, 16, s.cal.bringupMs), (28, 9, s.cal.restoreMiss), (19, 9, s.cal.restored), (16, 3, s.cal.lastRestore), (1, 1, s.cal.bgSuspect.toNat),
    (0, 1, s.cal.calibrated.toNat)]

/-- CAL_STATUS (R415). -/
def execCalStatus (c : Cmd) (s : State) : Host.Outcome State Fault Refusal :=
  .next (selkan { op := 0x0801, inHeld := true } c {} (fun s => s.done c .ok (result [(16, 8, s.calStat.toNat)])) s)

/-- LIFE_S as it counts: what is written, and the seconds since (R412). -/
def State.lifeS (s : State) : Nat := s.plan.lifeS + s.cal.accS

/-! ### Snapshots (R406-R408) -/

/-- Largest snapshot, bytes. -/
def snapMax : Nat := 2097152

/-- Version of the firmware that runs. -/
def State.fwVersion (s : State) : BitVec 32 := (s.sec.fw.get s.sec.running).version

/-- Mean of the 34 Skein sensors, in whole degrees. -/
def State.meanSkein (s : State) : Nat :=
  (((List.range 18).map fun d => (s.die d).skeinC).sum + ((List.range 16).map fun k => (s.stk k).skeinC).sum) / 34

/-- The header of a snapshot of `n` bytes, but for its CHECK. -/
def State.snapHead (s : State) (n : Nat) : List Byte :=
  leBytes 4 0x4A584353 ++ leBytes 2 (Config.calFormat s.fwVersion).toNat ++ leBytes 2 0x1FF ++ leBytes 4 s.fuse.serial.toNat ++ leBytes 4 n ++
    leBytes 8 s.lifeS ++ leBytes 1 s.meanSkein ++ leBytes 35 0

/-- Length of the domain bodies: R406 gives a bound alone (DESIGN CHOICE, log 61). -/
def snapBodies (fw : BitVec 32) : Nat := min (Config.calBodies fw) (snapMax - 64)

/-- `n` bytes that nothing constrains, drawn from counter value `k` on. -/
def freeBytes (k n : Nat) : List Byte := ((List.range ((n + 7) / 8)).flatMap fun i => leBytes 8 (Config.word (k + i)).toNat).take n

/-- A snapshot of the live values now (R406). -/
def State.snapshot (s : State) : List Byte :=
  let b := freeBytes s.free (snapBodies s.fwVersion)
  let h := s.snapHead (64 + b.length)
  h ++ leBytes 4 (crc32 (h ++ leBytes 4 0 ++ b)) ++ b

/-- CAL_SAVE (R406). -/
def execCalSave (c : Cmd) (w : HostWr) (s : State) : Host.Outcome State Fault Refusal :=
  .next (selkan { op := 0x0802, named := [(16, 23)], long := true } c {} (fun s =>
    { s with free := s.free + (snapBodies s.fwVersion + 7) / 8 }.writeHostOut c (c.field s 16 8) s.snapshot w) s)

/-- R407: 1 the snapshot may be used, 2 refused with BAD_PARAM, 3 stale. -/
def State.snapCheck (s : State) (img : List Byte) : Nat :=
  let at_ := leNat ((img.drop 16).take 8)
  if leNat (img.take 4) ≠ 0x4A584353 ∨ leNat ((img.drop 12).take 4) ≠ img.length ∨ img.length < 64 ∨
      leNat ((img.drop 60).take 4) ≠ crc32 (img.take 60 ++ leBytes 4 0 ++ img.drop 64) ∨ leNat ((img.drop 8).take 4) ≠ s.fuse.serial.toNat then 2
  else if leNat ((img.drop 4).take 2) ≠ (Config.calFormat s.fwVersion).toNat then 2
  else if at_ ≤ s.lifeS ∧ s.lifeS - at_ ≤ 604800 then 1 else 3

/-- Domains that a snapshot holds. -/
def snapDomains (img : List Byte) : Nat := leNat ((img.drop 6).take 2) % 512

/-- A restore (R408): the domains taken, those that fail their spot check `misses`, and CAL_RESTORE_MISS for each of these. -/
def State.restored (s : State) (img : List Byte) (misses : Nat) : State :=
  let m := (snapDomains img) &&& misses
  ({ s with cal := { s.cal with restored := (snapDomains img) ^^^ m, restoreMiss := m, lastRestore := 1 } }).forEach (onesOf 9 m) fun _ s =>
    s.bump Ctr.calRestoreMiss

/-- A snapshot in host memory, of the length its header gives. -/
def State.hostSnap (s : State) (p : Port) (a : Nat) : List Byte :=
  let n := leNat ((s.mems.host p).read (a + 12) 4)
  (s.mems.host p).read a (if n ≤ snapMax then n else 0)

/-- CAL_RESTORE (R407-R409): the snapshot is checked, and its domains that pass their spot check are brought in. -/
def execCalRestore (c : Cmd) (snap : SnapRead) (s : State) : Host.Outcome State Fault Refusal :=
  let n := c.field s 24 4
  let img := (s.mems.host (c.port s)).read (c.field s 16 8) n
  .next (selkan { op := 0x0803, named := [(16, 27)], long := true, noJob := true } c
    { bad := if n < 64 ∨ n > snapMax then some 24 else if s.snapCheck img = 2 then some 16 else none, state := decide (s.snapCheck img = 3) } (fun s =>
    (s.restored img snap.misses).done c .ok) s)

/-! ### Band-gaps (R402) -/

/-- Insert into a rising list. -/
def insertNat (x : Nat) : List Nat → List Nat
  | [] => [x]
  | y :: ys => if x ≤ y then x :: y :: ys else y :: insertNat x ys

/-- Median of 19 readings. -/
def median (xs : List Nat) : Nat := (xs.foldr insertNat []).getD 9 0

/-- Dies whose band-gap is more than 0.3 % away from the median. -/
def gapsOff (uv : List Nat) : List Nat :=
  let m := median uv
  (uv.zipIdx.filter fun x => decide (1000 * (max x.1 m - min x.1 m) > 3 * m)).map (·.2)

/-- The comparison of the 19 band-gaps (R402). -/
def State.compareGaps (s : State) (uv : List Nat) : State :=
  ({ s with cal := { s.cal with bgSuspect := !(gapsOff uv).isEmpty } }).forEach (gapsOff uv) fun d s => s.fire 0x3F1 4 d (uv.getD d 0)

/-- BANDGAP_COMPARE (R402): every second. -/
def execBandgapCompare (uv : List Nat) (s : State) : Host.Outcome State Fault Refusal :=
  .next (if s.mod.state = .ready then s.compareGaps uv else s)

/-! ### The monitors and the ageing area (R411, R412) -/

/-- Two lists of readings, place by place; a place that only one has keeps its reading. -/
def foldTwo {α : Type} (f : α → α → α) : List α → List α → List α
  | [], ys => ys
  | xs, [] => xs
  | x :: xs, y :: ys => f x y :: foldTwo f xs ys

/-- The worst of what has been sampled and one more sample (R411). -/
def Summary.sample (x : Summary) (a : AgeRead) : Summary :=
  { lifeS := x.lifeS, hbmCe := x.hbmCe, widthOk := x.widthOk && a.widthOk
    stagePs := foldTwo max x.stagePs a.stagePs, headroom := foldTwo min x.headroom a.headroom
    margin := foldTwo (fun p q => if p.1 ≤ q.1 then p else q) x.margin a.margin
    laser := foldTwo min x.laser a.laser, eye := foldTwo min x.eye a.eye, lin := foldTwo max x.lin a.lin }

/-- Does the life counter count: are the I/O dies powered and managed? -/
def State.powered (s : State) : Bool := match s.pow.supply with
  | .off | .fail => false
  | _ => s.spin.present.a || s.spin.present.b

/-- AGEING_SAMPLE (R411): once a second. -/
def execAgeingSample (a : AgeRead) (s : State) : Host.Outcome State Fault Refusal :=
  .next (if s.powered then { s with cal := { s.cal with accS := s.cal.accS + 1, sample := s.cal.sample.sample a } } else s)

/-- The accumulator and LIFE_S are written. -/
def State.accumulate (s : State) : State :=
  { s with plan := { s.plan with lifeS := s.lifeS }, cal := { s.cal with accS := 0, stored := s.cal.sample, writeWaiting := false } }

/-- AGEING_ACCUMULATE (R412): every 10 s; with the windows closed the write waits. -/
def execAgeingAccumulate (s : State) : Host.Outcome State Fault Refusal :=
  .next (if !s.powered then s else if s.nvmOpen then s.accumulate else { s with cal := { s.cal with writeWaiting := true } })

/-! ### Re-planning (R413, R414) -/

/-- Corrected errors of a stack: HBM_CE and HBM_SCRUB_CE. -/
def State.ceOf (s : State) (k : Nat) : Nat := s.obs.counters.get 0 (Ctr.hbmCe.addr k) + s.obs.counters.get 0 (Ctr.hbmScrubCe.addr k)

/-- Corrected errors since the last summary; counters that have been cleared since count from 0. -/
def State.ceNew (s : State) (k : Nat) : Nat := let b := s.cal.ceBase.get 0 k; if s.ceOf k < b then s.ceOf k else s.ceOf k - b

/-- Worst stage completion of a compute die in the last summary, ps. -/
def State.worstPs (s : State) (d : Nat) : Nat := s.cal.last.stagePs.getD d 0

/-- GUARD_LIMIT of a compute die: at +40 mV, and the trigger still met (R414, R415). -/
def State.guardLimit (s : State) (d : Nat) : Bool := decide (s.plan.guard.get 0 d ≥ 40) && decide (s.worstPs d > 420)

/-- Set-points of both halves of a die follow its guardband; a parked half takes no ramp (R409, R410). -/
def State.retarget (s : State) (d : Nat) : State :=
  s.forEach ([2 * d, 2 * d + 1].filter fun r => !decide ((s.reg r).state = .parked)) fun r s =>
    { s with cal := { s.cal with railTarget := s.cal.railTarget.set 750 r (s.setPoint r) } }

/-- The guardband of a compute die after a summary (R413, R414). -/
def State.replanGuard (s : State) (d : Nat) : State :=
  let g := s.plan.guard.get 0 d
  if s.worstPs d ≤ 420 then s
  else if g < 40 then
    let s1 := { s with plan := { s.plan with guard := s.plan.guard.set 0 d (g + 5) }, cal := { s.cal with replanDue := s.cal.replanDue.set false d true } }
    (s1.retarget d).replanned d
  else (s.bump Ctr.guardLimit d).fire 0x3F1 5 d g

/-- Next lower row of R220. Below 4 the ports run DIGITAL. -/
def widthBelow (w : Nat) : Nat := if w > 12 then 12 else if w > 8 then 8 else if w > 4 then 4 else 0

/-- WIDTH_CAP after a summary. -/
def State.replanWidth (s : State) (ok : Bool) : State :=
  if ok ∨ s.plan.widthCap = 0 then s
  else
    let w := widthBelow s.plan.widthCap
    ({ s with plan := { s.plan with widthCap := w } }.bump Ctr.ageingReplan).fire 0x3F1 2 0 w

/-- Loops with a ring whose heater headroom is below 20 %: its rest bias moves at its next release. -/
def State.replanRings (s : State) : State :=
  s.forEach ((s.cal.last.headroom.zipIdx.filter fun x => decide (x.1 < 20)).map (·.2)) fun n s => (s.bump Ctr.ageingReplan).fire 0x3F1 3 n

/-- The hourly summary is written, and the module re-plans. -/
def State.summarise (s : State) : State :=
  let new := { s.cal.sample with lifeS := s.lifeS, hbmCe := (List.range 16).map s.ceNew }
  let all := s.cal.summaries ++ [new]
  let base := (List.range 16).foldl (fun t k => t.set 0 k (s.ceOf k)) s.cal.ceBase
  let cal := { s.cal with summaries := all.drop (all.length - 252), sample := {}, stored := {}, ceBase := base, sumWaiting := false }
  let s1 := ({ s with cal := cal }).forEach (List.range 8) fun d s => s.replanGuard d
  (s1.replanWidth new.widthOk).replanRings

/-- AGEING_SUMMARY (R412, R413): every hour; with the windows closed it waits. -/
def execAgeingSummary (s : State) : Host.Outcome State Fault Refusal :=
  .next (if !s.powered then s else if s.nvmOpen then s.summarise else { s with cal := { s.cal with sumWaiting := true } })

/-- Ageing writes that waited are made. -/
def State.ageingWrites (s : State) : State := (s.when s.cal.writeWaiting (·.accumulate)).when s.cal.sumWaiting (·.summarise)

/-- The ageing plan and all summaries: their layout is not given (DESIGN CHOICE, log 63). -/
def State.ageingReport (s : State) : List Byte := freeBytes s.free (256 + 128 * s.cal.summaries.length)

/-- AGEING_READ (R412). -/
def execAgeingRead (c : Cmd) (w : HostWr) (s : State) : Host.Outcome State Fault Refusal :=
  .next (selkan { op := 0x0804, named := [(16, 23)], long := true, inHeld := true } c {} (fun s =>
    { s with free := s.free + (32 + 16 * s.cal.summaries.length) }.writeHostOut c (c.field s 16 8) s.ageingReport w) s)

end Sys2Proof.Machine
end

