-- ==== Sys2Proof/Machine/Profiles.lean ====
section
/-! DEFINITION. Configuration versions: staging, applying, rolling back and reading them, the watch window, the write windows
and failed boots (chapters 18 and 23). -/

namespace Sys2Proof.Machine

/-! ### Owner keys (R433, R439) -/

/-- Does a key slot hold an unrevoked key with role bit `role` (0 CONFIG, 1 COMMAND)? -/
def keyMay (k : OwnerKey) (role : Nat) : Bool := k.role.getLsbD role && !k.role.getLsbD 2

/-- Does a version hold an unrevoked CONFIG key? -/
def hasConfigKey (n : Settings) : Bool := n.keys.any fun e => decide (e.1 < 8) && keyMay e.2 0

/-- Is the module CLAIMED (R439)? -/
def State.claimed (s : State) : Bool := hasConfigKey s.conf.active.settings

/-- Does a signed command verify: its KEY_SLOT holds an unrevoked key of the role, and the signature is good (R333, R432)? -/
def State.signedBy (s : State) (c : Cmd) (role : Nat) (sig : Bool) : Bool :=
  let k := c.keySlot s
  sig && decide (k < 8) && keyMay (s.conf.active.settings.keys.get {} k) role

/-! ### The version image (R362, R366) -/

/-- A little-endian field of an image. -/
def imageField (img : List Byte) (o n : Nat) : Nat := leNat ((img.drop o).take n)

/-- Offset and length of the body of profile `k` + 1. -/
def bodyOf (img : List Byte) (k : Nat) : Nat × Nat := (imageField img (16 + 4 * k) 4, imageField img (36 + 4 * k) 4)

/-- Does a body overrun the image, run into its header, or overlap an earlier body? -/
def bodyBad (img : List Byte) (k : Nat) : Bool :=
  let b := bodyOf img k
  decide (b.1 < 64) || decide (b.1 + b.2 > imageField img 12 4) ||
    (List.range k).any fun j => let a := bodyOf img j; decide (a.1 < b.1 + b.2) && decide (b.1 < a.1 + a.2)

/-- CHECK of an image: CRC-32 over the whole of it, CHECK taken as 0. -/
def imageCheck (img : List Byte) : Nat := crc32 (img.take 60 ++ leBytes 4 0 ++ img.drop 64)

/-- Offset of the first byte of the header that R366 refuses. -/
def headerBad (img : List Byte) (high : BitVec 32) : Option Nat :=
  let bytes := imageField img 12 4
  if imageField img 0 4 ≠ 0x4A584346 then some 0
  else if imageField img 4 2 ≠ 1 then some 4
  else if imageField img 8 4 ≤ high.toNat then some 8
  else if bytes ≠ img.length then some 12
  else match (List.range 5).find? (bodyBad img) with
    | some k => some (16 + 4 * k)
    | none => if imageField img 60 4 ≠ imageCheck img then some 60 else none

/-- First profile, from 0, with a setting out of the range of its rule (R191, R239, R274, R293, R387, R439, R441). A claimed
module keeps an unrevoked CONFIG key, and gateway mode needs the capability (R12). -/
def settingBad (n : Settings) (claimed gateway : Bool) : Option Nat :=
  if n.capW < 3000 ∨ n.capW > 5000 ∨ n.sagPct < 60 ∨ n.sagPct > 100 then some 0
  else if n.standing < 1 ∨ n.standing > 4 ∨ n.handoverMs < 1 ∨ n.handoverMs > 100 then some 1
  else if n.requestUs < 4 ∨ n.requestUs > 1000 ∨ n.creditUs < 10 ∨ n.creditUs > 1000 ∨ (n.gateway ≠ 0 ∧ gateway = false) then some 2
  else if n.crossing.any fun e => decide (e.1 ≥ 24) || decide (e.2 > 1) then some 3
  else if (n.keys.any fun e => decide (e.1 ≥ 8) || decide (e.2.role.toNat ≥ 8)) || decide (n.trust.length > 4096) || (claimed && !hasConfigKey n) then some 4
  else none

/-- The image that CONFIG_STAGE names; none when it cannot be read. -/
def State.stageImage (s : State) (c : Cmd) : Option (List Byte) :=
  let n := c.field s 24 4
  if n < 64 ∨ n > 262080 then none else readSpace s (c.port s) (c.field s 28 1) (c.field s 16 8) n

/-- First wrong byte of CONFIG_STAGE: of the entry when the image cannot be read; otherwise within the image. -/
def State.stageBad (s : State) (c : Cmd) (set : Settings) : Option Nat :=
  let n := c.field s 24 4
  if n < 64 ∨ n > 262080 then some 24
  else if c.field s 28 1 > 1 then some 28
  else match s.stageImage c with
    | none => some 16
    | some img => match headerBad img s.conf.highWater with
      | some b => some b
      | none => (settingBad set s.claimed s.fuse.gateway).map fun k => (bodyOf img k).1

/-! ### Commands (R366-R369, R345) -/

/-- Range of HBM that an image lies in, if it does. -/
def State.imageReads (s : State) (c : Cmd) : Option (Nat × Nat) := if c.field s 28 1 = 1 then some (c.field s 16 8, c.field s 24 4) else none

/-- CONFIG_STAGE (R366): the image goes to the slot that is not active. `set` are the settings that its bodies spell. -/
def execConfigStage (c : Cmd) (set : Settings) (sig : Bool) (s : State) : Host.Outcome State Fault Refusal :=
  .next (selkan { op := 0x0201, named := [(16, 28)], long := true, nvm := true, blockForm := true } c
    { bad := s.stageBad c set, state := s.conf.watching, needSig := s.claimed && !secSame s.conf.active.settings set, sigOk := s.signedBy c 0 sig
      reads := s.imageReads c } (fun s =>
    let img := (s.stageImage c).getD []
    let v := BitVec.ofNat 32 (imageField img 8 4)
    let new : Slot := { state := .staged, version := v, actSeq := 0, image := img, settings := set }
    let conf := { s.conf with slot := s.conf.slot.set (other s.conf.activeIx) new, highWater := v }
    ({ s with conf := conf }).done c .ok (result [(16, 4, v.toNat)])) s)

/-- CONFIG_APPLY (R367, R346): the staged version. A mismatch on the re-read completes with FAULT and the slot is INVALID. -/
def execConfigApply (c : Cmd) (sig recheck : Bool) (s : State) : Host.Outcome State Fault Refusal :=
  let o := s.conf.active.settings
  let x := s.conf.other
  let fab := !fabricSame o x.settings
  .next (selkan { op := 0x0202, named := [(16, 19)], long := true, nvm := true, noJob := !onlyPower o x.settings, blockForm := true } c
    { bad := if x.state = .staged && decide (x.version.toNat = c.field s 16 4) then none else some 16
      state := s.conf.watching, needSig := s.claimed && !secSame o x.settings, sigOk := s.signedBy c 0 sig
      busy := if fab && s.reel.drain.isSome then some 0 else none } (fun s =>
    if !recheck then
      ({ s with conf := { s.conf with slot := s.conf.slot.mod (other s.conf.activeIx) fun y => { y with state := .invalid } } }).done c .fault
    else if fab then s.startDrain 2 c
    else s.applyNow c) s)

/-- CONFIG_ROLLBACK (R369): the KEPT slot; a watch window that is open closes with result 6. -/
def execConfigRollback (c : Cmd) (s : State) : Host.Outcome State Fault Refusal :=
  .next (selkan { op := 0x0203, long := true, nvm := true, inHeld := true, noJob := !onlyPower s.conf.active.settings s.conf.other.settings } c
    { state := decide (s.conf.other.state ≠ .kept) } (fun s =>
    let s1 := s.rollback
    let s2 := { s1 with conf := { s1.conf with rollbackCause := 3, writePending := false } }
    (s2.when s2.conf.watching fun s => s.closeWatch 6).done c .ok (result [(16, 4, s2.conf.active.version.toNat)])) s)

/-- The slot that holds a version. -/
def Conf.holding (c : Conf) (v : Nat) : Option Slot :=
  [c.slot.a, c.slot.b].find? fun x => decide (x.version.toNat = v) && (x.state = .active || x.state = .kept || x.state = .staged)

/-- Image of a slot; that of the version that leaves the factory is not given (DESIGN CHOICE, log 60). -/
def Slot.bytes (x : Slot) : List Byte := if x.image.isEmpty then (List.range Config.factoryBytes).map Config.factoryImage else x.image

/-- CONFIG_READ (R345): the image of a stored version. -/
def execConfigRead (c : Cmd) (w : HostWr) (s : State) : Host.Outcome State Fault Refusal :=
  let x := s.conf.holding (c.field s 16 4)
  .next (selkan { op := 0x0204, named := [(16, 19), (24, 31)], long := true, inHeld := true } c { bad := if x.isNone then some 16 else none } (fun s =>
    s.writeHostOut c (c.field s 24 8) ((x.map Slot.bytes).getD []) w) s)

/-! ### The watch window (R368) -/

/-- WATCH_WINDOW_EXPIRY (R368): 30 s have passed without a failure. -/
def execWatchWindowExpiry (s : State) : Host.Outcome State Fault Refusal :=
  .next (s.when (s.conf.watching && !before s.time.lea s.conf.until_) (·.closeWatch 1))

/-- CONFIG_AUTO_ROLLBACK (R368, R370): a health check has failed: 2 HELD, 3 a self-check, 4 a Reel port, watched when the FABRIC
or SECURITY body changed, 5 a region reset. -/
def execConfigAutoRollback (code : Nat) (s : State) : Host.Outcome State Fault Refusal :=
  let may := match code with
    | 2 => decide (s.mod.state = .held)
    | 3 => true
    | 4 => s.conf.fabSecChanged
    | 5 => true
    | _ => false
  .next (s.when may fun s => s.autoRollback code)

/-! ### The write windows (R399) -/

/-- Writes that waited for both windows are made: records, the commit block, fuses, the ageing area (R370, R412, R436, R458). -/
def State.windowsOpen (s : State) : State :=
  if s.nvmOpen then
    let s1 := s.flushRecs
    let s2 := s1.when s1.conf.writePending fun s => { s with conf := s.conf.commit }
    let s3 := match s2.sec.svnDue with
      | some n => { s2 with fuse := { s2.fuse with svn := ⟨max s2.fuse.svn.a n, max s2.fuse.svn.b n⟩ }, sec := { s2.sec with svnDue := none } }
      | none => s2
    s3.ageingWrites
  else s

/-- NVM_WINDOW_OPEN (R399): the hotter I/O die and the write rail as measured; with both windows open, what waited is
written. -/
def execNvmWindowOpen (tempC : Int) (railMv : Nat) (s : State) : Host.Outcome State Fault Refusal :=
  let tOk := decide (0 ≤ tempC) && decide (tempC ≤ 85)
  let vOk := decide (1746 ≤ railMv) && decide (railMv ≤ 1854)
  .next (if s.pow.supply = .off then s
    else { s with pow := { s.pow with ioTempC := tempC, railMv := railMv, tempOk := tOk, supplyOk := vOk } }.windowsOpen)

/-! ### Failed boots (R371, R436) -/

/-- Write both record stores. -/
def State.modStores (s : State) (f : Store → Store) : State := { s with obs := { s.obs with store := ⟨s.obs.store.a.write f, s.obs.store.b.write f⟩ } }

/-- Firmware slot `k`. -/
def State.modFw (s : State) (k : Fin 2) (f : FwSlot → FwSlot) : State := { s with sec := { s.sec with fw := s.sec.fw.mod k f } }

/-- A failed boot of a slot in TRIAL: on the second the slot is BAD and the other one preferred (R436). -/
def State.trialFails (s : State) : State :=
  let n := s.sec.trialBoots + 1
  let s1 := ({ s with sec := { s.sec with trialBoots := n } }).modStores fun x => { x with trialBoots := n }
  if n ≥ 2 then
    let s2 := (s1.modFw s.sec.running fun x => { x with state := .bad }).modStores fun x => { x with trialBoots := 0 }
    { s2 with sec := { s2.sec with preferred := other s.sec.running, trialBoots := 0 } }
  else s1

/-- A failed boot of the active version: the second rolls back, or leaves the module in HELD (R371). -/
def State.versionFails (s : State) : State :=
  let n := min (s.conf.failedBoots + 1) 2
  let s1 := ({ s with conf := { s.conf with failedBoots := n } }).modStores fun x => { x with failedBoots := n }
  if n < 2 then s1
  else if s1.conf.other.state = .kept then
    let s2 := { s1 with conf := { s1.conf.activate with failedBoots := 0, rollbackCause := 2 } }
    ((s2.modStores fun x => { x with failedBoots := 0 }).bump Ctr.configBootFail).fire 0x324 0 0 s2.conf.active.version.toNat
  else if s1.mod.state = .held then { s1 with mod := { s1.mod with heldCause := 0x0805 } }
  else s1.enterHeld 0x0805

/-- FAILED_BOOT (R371, R436): the bring-up entered HELD, or has not made the module command-ready within 9 s. The count stands
while the record store cannot be written. -/
def execFailedBoot (held : Bool) (s : State) : Host.Outcome State Fault Refusal :=
  let due := s.mod.failDue && if held then decide (s.mod.state = .held) else decide (s.mod.state = .booting) && s.elapsed s.mod.bootAt 9000000000
  let s1 := { s with mod := { s.mod with failDue := false } }
  .next (if !due then s
    else if !s.nvmOpen then s1
    else if (s.sec.fw.get s.sec.running).state = .trial then s1.trialFails
    else s1.versionFails)

end Sys2Proof.Machine
end

