-- ==== Sys2Proof/Machine/Power.lean ====
section
/-! DEFINITION. External lines, the supply, the power caps and the throttle ladder, power-fail, and temperature
(chapters 19 and 20). -/

namespace Sys2Proof.Machine

/-! ### External lines (R245, R380, R381, R396) -/

/-- ELS_PRESENT_N of a cage has changed. -/
def State.cagePresent (s : State) (k : Nat) (here : Bool) : State :=
  (s.modCage k fun x => { x with present := here, state := if here then (if x.faultPin then .fault else .warming) else .absent, bundle := if here then x.bundle else 15 }).fire
    (0x288 + k) 0 k (if here then 1 else 0)

/-- ELS_FAULT_N of a cage has changed: asserted it counts ELS_FAULT and the source is in FAULT; released, the source warms
again. -/
def State.cageFault (s : State) (k : Nat) (on : Bool) : State :=
  let s1 := s.when on fun s => s.bump Ctr.elsFault k
  (s1.modCage k fun x => { x with faultPin := on, state := if !x.present then .absent else if on then .fault else if x.state = .fault then .warming else x.state }).fire
    (0x288 + k) 2 k on.toNat

/-- What a line's new level does beside its event. Power-fail, SAG and PERST come as commands of their own. -/
def State.lineActs (s : State) (l : Nat) (level : Bool) : State :=
  if l = 0 then { s with pow := if level then { s.pow with alertOff := some s.time.lea } else { s.pow with thermAlert := true, alertOff := none } }
  else if 5 ≤ l ∧ l < 15 then s.cagePresent (l - 5) (!level)
  else if 15 ≤ l then s.cageFault (l - 15) (!level)
  else s

/-- LINE_CHANGE (R380, R381): the filter's output takes a new level and fires its source. -/
def execLineChange (l : ExtLine) (level : Bool) (s : State) : Host.Outcome State Fault Refusal :=
  .next (if s.pow.supply = .off || decide (s.level l.val = level) then s
    else
      let s1 := { s with obs := { s.obs with line := s.obs.line.mod {} l.val fun x => { x with level := level, since_ := s.time.lea } } }
      (s1.fire (0x360 + l.val) level.toNat l.val).lineActs l.val level)

/-! ### Input and caps (R383-R389, R461) -/

/-- A measurement of the input. -/
def State.measure (s : State) (mv : Nat) : State :=
  { s with pow := { s.pow with
    voltMv := mv, minMv := min s.pow.minMv mv, sagMin := if s.pow.supply = .sag then min s.pow.sagMin mv else s.pow.sagMin } }

/-- Does the supply run the module? -/
def Supply.on : Supply → Bool
  | .run | .sag => true
  | _ => false

/-- Power bound of each throttle level in W (R388). -/
def levelBound (n : Nat) : Nat := [4970, 3800, 3400, 3200].getD n 2960

/-- Raise the throttle level; an entry from T0 counts and fires (R389). -/
def State.raiseTo (s : State) (n : Nat) : State :=
  let s1 := { s with pow := { s.pow with level := n, stepAt := if n = s.pow.level then s.pow.stepAt else s.time.lea } }
  s1.when (decide (s.pow.level = 0) && decide (n > 0)) fun s => (s.bump Ctr.capThrottle).fire 0x342 1 n

/-- Lowest level whose bound lies at or below the sag cap. -/
def Pow.sagLevel (p : Pow) : Nat := ((List.range 5).find? fun n => decide (levelBound n ≤ p.sagW)).getD 4

/-- SAG_ENTER (R386, R389): below 47.0 V, or HOLD_N asserted. -/
def execSagEnter (mv : Nat) (s : State) : Host.Outcome State Fault Refusal :=
  .next (if s.pow.supply = .run && (decide (mv < 47000) || s.hold) then
      let s1 := { s.measure mv with pow := { (s.measure mv).pow with supply := .sag, sagAt := s.time.lea, sagMin := mv } }
      (((s1.bump Ctr.sagEnter).fire 0x340 2 0 mv)).raiseTo (max s.pow.level s.pow.sagLevel)
    else s)

/-- UPPER_BAND (R383): the input enters or leaves 57.0 to 60.0 V. -/
def execUpperBand (mv : Nat) (s : State) : Host.Outcome State Fault Refusal :=
  let high := decide (57000 ≤ mv) && decide (mv ≤ 60000)
  .next (if s.pow.supply.on && decide (high ≠ s.pow.overV) then
      ({ s.measure mv with pow := { (s.measure mv).pow with overV := high } }).fire 0x340 high.toNat 1 mv
    else s)

/-- POWER_WINDOW (R389): the average of 1 µs; above the effective cap the level rises one step. -/
def execPowerWindow (watts mv amp10 : Nat) (s : State) : Host.Outcome State Fault Refusal :=
  let s1 := { s.measure mv with pow := { (s.measure mv).pow with watts := watts, amp10 := amp10 } }
  .next (if !s.pow.supply.on then s else if watts > s.pow.effective then s1.raiseTo (min (s.pow.level + 1) 4) else s1)

/-- POWER_RELAX (R389): 100 us after the last step, the average over 100 µs at or below 90 % of the effective cap. -/
def execPowerRelax (avg : Nat) (s : State) : Host.Outcome State Fault Refusal :=
  .next (if s.pow.supply.on && decide (s.pow.level > 0) && decide (10 * avg ≤ 9 * s.pow.effective) && s.elapsed s.pow.stepAt 100000 then
      { s with pow := { s.pow with level := s.pow.level - 1, stepAt := s.time.lea } }
    else s)

/-- TERMINAL_OVERCURRENT (R461): a terminal carries more than 65 A for 10 µs. -/
def execTerminalOvercurrent (term : Fin 2) (s : State) : Host.Outcome State Fault Refusal :=
  .next (if s.pow.supply.on then ({ s with pow := { s.pow with termCap := true } }).fire 0x342 2 term.val else s)

/-- TERMINAL_CAP_RELEASE (R461): both terminals have shared within 40 % to 60 % for 1 s. -/
def execTerminalCapRelease (s : State) : Host.Outcome State Fault Refusal := .next { s with pow := { s.pow with termCap := false } }

/-- POWER_STATUS (R345): input power and active cap, mW. -/
def execPowerStatus (c : Cmd) (s : State) : Host.Outcome State Fault Refusal :=
  .next (selkan { op := 0x0701, inHeld := true } c {} (fun s => s.done c .ok (result [(16, 8, 1000 * s.pow.watts), (24, 8, 1000 * s.pow.capW)])) s)

/-- POWER_CAP_SET (R387): the active cap in W and the sag cap in %. -/
def execPowerCapSet (c : Cmd) (s : State) : Host.Outcome State Fault Refusal :=
  let w := c.field s 16 4
  let p := c.field s 20 1
  .next (selkan { op := 0x0702, named := [(16, 20)] } c { bad := if w < 3000 ∨ w > 5000 then some 16 else if p < 60 ∨ p > 100 then some 20 else none } (fun s =>
    ({ s with pow := { s.pow with capW := w, sagPct := p } }).done c .ok) s)

/-! ### POWER registers that records quote (R401, R456) -/

/-- POWER.INPUT. -/
def State.powerInput (s : State) : Word := pack [(48, 16, s.pow.voltMv), (32, 16, s.pow.amp10), (16, 16, s.pow.watts), (0, 16, s.pow.minMv)]

/-- Numbers of the compute, memory-side and I/O dies. -/
def dies18 : List Nat := List.range 18

/-- POWER.DIE[18]: the Skein as a whole, its hottest sensor. -/
def State.skeinDie (s : State) : Die :=
  let ts := dies18.map (fun d => (s.die d).skeinC) ++ (List.range 16).map fun k => (s.stk k).skeinC
  let zs := dies18.map (fun d => (s.die d).skeinZone) ++ (List.range 16).map fun k => (s.stk k).skeinZone
  let z := zs.foldl max 0
  { tempC := ts.foldl max 0, peakC := (s.die 18).peakC, zone := z, level := if z ≥ 2 then 1 else 0, srcOwn := decide (z ≥ 2) }

/-- POWER.DIE[d]. What a die draws is a measurement that nothing in the manual fixes: POWER_W is a free value (DESIGN CHOICE, log 66). -/
def State.dieWord (s : State) (d : Nat) : Word :=
  let x := if d = 18 then s.skeinDie else s.die d
  let dark := s.mod.bringupDue || (decide (s.mod.state = .held) && decide (d < 16))
  let w := if d = 18 || dark then 0 else (Config.word (s.free + d)).toNat
  pack [(56, 8, x.peakC), (48, 8, x.skeinC), (40, 8, x.tempC), (16, 16, w), (5, 3, x.level), (3, 2, bitsOf [x.srcOwn, x.srcSkein]), (0, 2, x.zone)]

/-! ### Losing power (R392, R394) -/

/-- The configuration store after a loss of power: a rollback whose commit block was not written is undone, and its version
watched again (R370). -/
def Conf.cold (c : Conf) : Conf :=
  let d := if c.writePending then c.turn else c
  { slot := d.slot, highWater := d.highWater, failedBoots := d.failedBoots, watchAgain := c.writePending || (c.watchAgain && !c.watching) }

/-- What survives the loss of 54 V (R394): stores, fuses, firmware, the ageing area, and what is outside the module. -/
def State.powerLost (s : State) : State :=
  { conf := s.conf.cold
    fuse := s.fuse
    plan := s.plan
    sec := { fw := s.sec.fw, preferred := s.sec.preferred, trialBoots := s.sec.trialBoots }
    light := { commissioned := s.light.commissioned, pc := s.light.pc }
    cal := { sample := s.cal.stored, stored := s.cal.stored, summaries := s.cal.summaries, flash := s.cal.flash }
    obs := { store := s.obs.store, line := s.obs.line.map fun e => (e.1, { e.2 with glitches := 0 }) }
    mems := { hostA := s.mems.hostA, hostB := s.mems.hostB }
    host := { ports := ⟨{ perst := s.host.ports.a.perst }, { perst := s.host.ports.b.perst }⟩ }
    rport := s.rport.map fun e => (e.1, { present := e.2.present })
    time := { refPresent := s.time.refPresent }
    pow := { supply := .off }
    free := s.free
    pending := s.pending }

/-- Code of a power-fail cause (R457). -/
def failCode : FailCause → Nat
  | .low _ => 0x0901 | .pwrGood => 0x0902 | .overvolt _ => 0x0903

/-- Does the cause stand? -/
def State.failing (s : State) : FailCause → Bool
  | .low mv => decide (mv < 43000)
  | .pwrGood => !s.level 1
  | .overvolt mv => decide (mv ≥ 60000)

/-- CONTEXT of a POWER_FAIL record (R456). -/
def State.failContext (s : State) (samples : List (Nat × Nat)) : List Byte :=
  leBytes 8 s.powerInput.toNat ++ leBytes 8 s.powerStat.toNat ++ (samples.take 16).flatMap fun x => leBytes 4 x.1 ++ leBytes 4 x.2

/-- Commands in progress are abandoned without final entries. -/
def State.abandon (s : State) : State :=
  { s with
    spin := { s.spin with lops := [], merged := [], distaff := ⟨{ s.spin.distaff.a with waiting := [] }, { s.spin.distaff.b with waiting := [] }⟩, checking := false }
    mod := { s.mod with resetCmd := none, boot := none }
    job := { s.job with launches := [] }
    card := { s.card with todo := [] }
    reel := { s.reel with inval := none, drain := none, parked := [], mcLines := [] } }

/-- POWER_FAIL (R392): compute and the Skein stop, the record is written, and every rail but those of the I/O dies is off. -/
def execPowerFail (cause : FailCause) (samples : List (Nat × Nat)) (s : State) : Host.Outcome State Fault Refusal :=
  let s0 := match cause with
    | .low mv | .overvolt mv => s.measure mv
    | .pwrGood => s
  .next (if s.pow.supply.on && s.failing cause then
      let s1 := { s0 with pow := { s0.pow with supply := .fail } }
      let s2 := (s1.fire 0x341 (failCode cause) 0 s.time.lea.toNat).abandon
      let s3 := s2.when (!s.mod.bringupDue) fun s =>
        s.makeRec { kind := 2, job := s.jobId, stamp := s.time.lea, cause := failCode cause, context := s.failContext samples }
      { s3.unpower with mod := { s3.mod with state := .booting, failDue := false } }
    else s)

/-- HOLDUP_END (R392): the hold-up ends and the I/O dies lose their rails; nothing volatile is left. -/
def execHoldupEnd (s : State) : Host.Outcome State Fault Refusal :=
  .next (if s.pow.supply = .fail then { s.powerLost with pow := { supply := .fail } } else s)

/-- SUPPLY_OFF (R386): the input falls below 40.0 V. -/
def execSupplyOff (s : State) : Host.Outcome State Fault Refusal := .next (if s.pow.supply = .off then s else s.powerLost)

/-! ### Temperature (R395-R398) -/

/-- Warning, throttle and shutdown level of a watched temperature (R395). -/
def thresholds : Watched → List Nat
  | .die _ => [95, 105, 115]
  | .skein _ | .stackSkein _ => [80, 85, 95]
  | .stack _ => [85, 95, 105]

/-- Zone after a reading: each level is entered when reached and clears 5 degrees below. -/
def zoneAfter (ls : List Nat) (zone t : Nat) : Nat :=
  (ls.zipIdx.map fun l => if t ≥ l.1 ∨ (zone > l.2 ∧ t + 5 > l.1) then l.2 + 1 else 0).foldl max 0

/-- Index of POWER.DIE that a watched temperature counts under: its die, the memory-side die of a stack, the Skein (DEDUCED, log 62). -/
def watchedDie : Watched → Nat
  | .die d => d.val
  | .skein _ | .stackSkein _ => 18
  | .stack k => 8 + k.val / 2

/-- Code of a watched temperature: junction, Skein, HBM (R456). -/
def watchedKind : Watched → Nat
  | .die _ => 0 | .skein _ | .stackSkein _ => 1 | .stack _ => 2

/-- Zone and reading of a watched temperature. -/
def State.zoneOf (s : State) : Watched → Nat
  | .die d => (s.die d.val).zone
  | .skein d => (s.die d.val).skeinZone
  | .stack k => (s.stk k.val).zone
  | .stackSkein k => (s.stk k.val).skeinZone
def State.tempOf (s : State) : Watched → Nat
  | .die d => (s.die d.val).tempC
  | .skein d => (s.die d.val).skeinC
  | .stack k => (s.stk k.val).tempC
  | .stackSkein k => (s.stk k.val).skeinC

/-- The throttle of a die after a reading (R396): what stands above its release level holds it. A die that is no compute die
has level 1 while it lasts. -/
def Die.heat (x : Die) (d : Nat) : Die :=
  let on := decide (x.zone ≥ 2) || decide (x.skeinZone ≥ 2) || ((x.srcOwn || x.srcSkein) && (decide (x.tempC > 100) || decide (x.skeinC > 80)))
  { x with srcOwn := on && decide (x.tempC > 100), srcSkein := on && decide (x.skeinC > 80), level := if d < 8 then x.level else on.toNat }

/-- Store a reading. -/
def State.putTemp (s : State) (w : Watched) (z t : Nat) : State :=
  match w with
  | .die d => s.modDie d.val fun x => ({ x with tempC := t, zone := z, peakC := max x.peakC (min t 255) } : Die).heat d.val
  | .skein d => (s.modDie d.val fun x => ({ x with skeinC := t, skeinZone := z } : Die).heat d.val).modDie 18 fun x => { x with peakC := max x.peakC (min t 255) }
  | .stack k => s.modStk k.val fun x => { x with tempC := t, zone := z }
  | .stackSkein k => (s.modStk k.val fun x => { x with skeinC := t, skeinZone := z }).modDie 18 fun x => { x with peakC := max x.peakC (min t 255) }

/-- Is the watched unit powered? In HELD only the I/O dies are. -/
def State.warm (s : State) (w : Watched) : Bool :=
  s.pow.supply.on && (decide (s.mod.state ≠ .held) || match w with
    | .die d | .skein d => decide (d.val ≥ 16)
    | _ => false)

/-- THERMAL_READING (R395, R396): crossing a level raises its event and counts. -/
def execThermalReading (w : Watched) (tempC : Nat) (s : State) : Host.Outcome State Fault Refusal :=
  let z0 := s.zoneOf w
  let z := zoneAfter (thresholds w) z0 tempC
  let d := watchedDie w
  .next (if !s.warm w then s
    else
      let s1 := s.putTemp w z tempC
      let s2 := s1.when (decide (z0 < 1) && decide (z ≥ 1)) fun s => (s.bump Ctr.thermWarn d).fire 0x343 (watchedKind w) d tempC
      let s3 := s2.when (decide (z0 < 2) && decide (z ≥ 2)) fun s => (s.bump Ctr.thermThrottle d).fire 0x344 (watchedKind w) d tempC
      s3.when (decide (z0 < 3) && decide (z ≥ 3)) fun s => s.fire 0x345 (watchedKind w) d tempC)

/-- THERMAL_THROTTLE_STEP (R396): the thermal level of a compute die rises one step each 100 us while it is
throttled, or while THERM_ALERT_N is or was asserted less than 1 ms ago; otherwise it falls one step each 1 ms. -/
def execThermalThrottleStep (d : DieIx) (s : State) : Host.Outcome State Fault Refusal :=
  let alert := s.pow.thermAlert && match s.pow.alertOff with | some t => !s.elapsed t 1000000 | none => true
  let x := s.die d.val
  let s1 := { s with pow := { s.pow with thermAlert := alert, alertOff := if alert then s.pow.alertOff else none } }
  let hot := x.srcOwn || x.srcSkein || alert
  let due := match x.stepAt with | some t => s.elapsed t (if hot then 100000 else 1000000) | none => true
  .next (if d.val ≥ 8 ∨ s.mod.state = .held ∨ due = false then s1
    else s1.modDie d.val fun y => { y with level := if hot then min (y.level + 1) 3 else y.level - 1, stepAt := some s.time.lea })

/-- The watched temperatures. -/
def watched : List Watched :=
  (List.finRange 18).map .die ++ (List.finRange 18).map .skein ++ (List.finRange 16).map .stack ++ (List.finRange 16).map .stackSkein

/-- Die, kind and reading that a shutdown record names (R456). -/
def State.shutContext (s : State) (w : Watched) : List Byte :=
  let d := match w with | .skein d => d.val | .stackSkein k => 8 + k.val / 2 | _ => watchedDie w
  leBytes 1 d ++ leBytes 1 (watchedKind w) ++ leBytes 2 (s.tempOf w) ++ leBytes 4 0 ++ (List.range 19).flatMap fun d => leBytes 8 (s.dieWord d).toNat

/-- Without management: no Spindle, no port (R398). -/
def State.unmanaged (s : State) : State :=
  let s1 := (s.queuesDown 0).queuesDown 1
  { s1 with
    spin := { s1.spin with claim := none, releasing := none, present := ⟨false, false⟩, width := 0, lanesOk := 0, spindle := ⟨{ s1.spin.spindle.a with state := .off }, { s1.spin.spindle.b with state := .off }⟩ }
    host := { s1.host with ports := ⟨{ s1.host.ports.a with up := false }, { s1.host.ports.b with up := false }⟩ } }

/-- Is the watched unit an I/O die? -/
def watchedIo : Watched → Bool
  | .die d => decide (d.val ≥ 16)
  | _ => false

/-- THERMAL_SHUTDOWN (R397, R398): the record, lasers and rails off, HELD. -/
def execThermalShutdown (s : State) : Host.Outcome State Fault Refusal :=
  .next (match (if s.pow.supply.on then watched.find? fun w => decide (s.zoneOf w ≥ 3) else none) with
    | some w =>
      let s1 := { s with free := s.free + 18 }.makeRec { kind := 3, job := s.jobId, stamp := s.time.lea, cause := 0x0806, index := watchedDie w, context := s.shutContext w }
      let s2 := { s1 with pow := { s1.pow with supply := .shutdown } }.enterHeld 0x0806 (watchedDie w)
      let s3 := { s2 with mod := { s2.mod with heldCause := 0x0806, boot := none } }
      s3.when (watchedIo w) (·.unmanaged)
    | none => s)

end Sys2Proof.Machine
end

