-- ==== Sys2Proof/Machine/Carding.lean ====
section
/-! DEFINITION. The Carding self-test: what a pass does with a failure, the pass of CARDING_RUN, and its record
(chapter 22). -/

namespace Sys2Proof.Machine

/-! ### Failures (R427, R430) -/

/-- Spare rows (1) and spare columns (2) of a bank of a cell store (1) and of a block store (2). -/
def spareCap (unit kind : Nat) : Nat :=
  match unit, kind with
  | 1, 1 => 4 | 1, 2 => 2 | 2, 1 => 8 | 2, 2 => 4 | _, _ => 0

/-- Name of the bank that an address of a cell store or block store lies in (R78, R85), with the kind of spare. -/
def bankKey (unit index address kind : Nat) : Nat := ((index * 16 + address / 128 % (if unit = 1 then 8 else 16)) * 2 + unit - 1) * 2 + kind - 1

/-- Spares of the kind that a failure asks for, left in its bank (DEDUCED, log 148). -/
def sparesLeft (used : Tab Nat) (f : CardFail) : Nat := spareCap f.unit_ f.spare - used.get 0 (bankKey f.unit_ f.index f.address f.spare)

/-- ACTION of a failure: the spare that the unit has left, the narrowing of the Skein, or unrepairable. -/
def cardAction (used : Tab Nat) (f : CardFail) : Nat :=
  match f.unit_ with
  | 0x01 | 0x02 => if sparesLeft used f > 0 then f.spare else 0x7F
  | 0x10 => if f.spare = 3 then 3 else 0x7F
  | 0x11 => if f.spare = 4 then 4 else 0x7F
  | 0x20 | 0x22 => 5
  | 0x21 => 6
  | 0x23 => 7
  | _ => 0x7F

/-- Is the failure repaired from spares? Such a repair is applied at bring-up only (R428). -/
def repairAction (a : Nat) : Bool := decide (1 ≤ a) && decide (a ≤ 4)

/-- The 8 lines of the row that holds local line `l` of a stack: the lines of one granule (R251, R252). -/
def rowLines (stack l : Nat) : List Nat :=
  match (List.range 16).find? fun g => decide (stackOf (1024 * (16 * (l / 8) + g)) = stack) with
  | some g => (List.range 8).map fun i => 8 * (16 * (l / 8) + g) + i
  | none => []

/-- Lines of a row repaired are poisoned (R426). -/
def State.poisonRow (s : State) (stack l : Nat) : State :=
  { s with mems := { s.mems with hbmPoison := (rowLines stack l).foldl (fun t k => t.set false k true) s.mems.hbmPoison } }.noteLines stack

/-- A repair from spares is applied (R261, R428). -/
def State.repair (s : State) (action index address spareLeft : Nat) : State :=
  if action = 3 then (s.modStk index fun x => { x with rowsRepaired := satAdd 255 x.rowsRepaired 1, spareRows := if spareLeft = 0xFFFF then x.spareRows else spareLeft }).poisonRow index address
  else if action = 4 then s.modStk index fun x => { x with lanesRepaired := satAdd 255 x.lanesRepaired 1 }
  else s

/-- Rings that a failure of the Skein's parts takes out. -/
def cardRings (f : CardFail) : List Nat :=
  let stn := f.index / 128 % 34
  let loop := f.index % 128
  match f.unit_ with
  | 0x20 => [ringNo stn loop (if f.address / 8 % 4 = 0 then .tx else .drop) f.address]
  | 0x22 => [ringNo stn loop .ply (f.address / 16)]
  | 0x23 => (List.range 16).map fun j => ringNo (f.index / 64) (2 * (f.index % 64)) .ply j
  | _ => []

/-- OUTCOME with one more bit. -/
def outcomeWith (o i : Nat) : Nat := if bit o i then o else o + 2 ^ i

/-- Bit of OUTCOME that an action sets (R429): REPAIRED or PENDING, NARROWED, UNREPAIRABLE. -/
def actionBit (action : Nat) (pending : Bool) : Nat := if repairAction action then (if pending then 1 else 0) else if action = 0x7F then 3 else 2

/-- Enter a failure in the record: entries beyond 4,096 are only counted (R429, R430). -/
def Card.enter (k : Card) (f : CardFail) (pending : Bool) (now : Lea) : Card :=
  let a := cardAction k.used f
  let sram := a = 1 ∨ a = 2
  let p := pending && repairAction a
  let e : CardEntry := { unit_ := f.unit_, action := a, pending := p, index := f.index, address := f.address, bit := f.bit,
                         spareLeft := if sram then sparesLeft k.used f - 1 else if repairAction a then f.spareLeft else 0xFFFF, stamp := now }
  { k with
    entries := if k.entries.length < 4096 then k.entries ++ [e] else k.entries
    found := satAdd 0xFFFFFFFF k.found 1
    outcome := outcomeWith k.outcome (actionBit a pending)
    pending := if p then k.pending ++ [e] else k.pending
    used := if sram then k.used.mod 0 (bankKey f.unit_ f.index f.address f.spare) (· + 1) else k.used }

/-- A failure is entered in the record. -/
def State.enterFail (s : State) (pending : Bool) (f : CardFail) : State := { s with card := s.card.enter f pending s.time.lea }

/-- What a failure of the Skein's parts does at once (R427): loops withdrawn with cause BER, rings FAULTY, in epochs of their
own. -/
def State.narrowBy (s : State) (fs : List CardFail) : State :=
  let loops := (fs.filter fun f => f.unit_ = 0x21).map fun f => f.index % 128
  (s.withdrawLoops loops 1).faultRings (fs.flatMap cardRings).eraseDups

/-- Stacks that have run out of the spares a failure needs (R261, R427). -/
def stacksOut (fs : List CardFail) : List Nat := ((fs.filter fun f => (f.unit_ = 0x10 || f.unit_ = 0x11) && decide (cardAction [] f = 0x7F)).map fun f => f.index % 16).eraseDups

/-- The end of a pass with an unrepairable failure (R261, R427, R431): stacks out of spares are FAILED, and the module is in
HELD. -/
def State.unrepairable (s : State) (out : List Nat) : State :=
  let s1 := s.forEach out fun k s => s.setStk k fun x => { x with state := .failed }
  match out with
  | k :: _ => s1.enterHeld 0x0803 k
  | [] => s1.enterHeld 0x0801

/-! ### Memory contents (R426) -/

/-- Lowest and one beyond the highest address of a region's cell stores (R91); its block stores lie 2^32 above. -/
def regionSram (r : Nat) : Nat × Nat := (r * 268435456, (r + 1) * 268435456)

/-- The register files of a cell with every word zero and valid. -/
def CellSt.zeroed (x : CellSt) : CellSt :=
  { x with regBad := [], threads := (x.threads.map (·.1)).foldl (fun t k => t.mod {} k fun (y : ThreadSt) => { y with x := [], v := [] }) x.threads }

/-- The SRAM and the register files of a tested region read zero, with no poison. -/
def State.zeroRegion (s : State) (r : Nat) : State :=
  let (a, b) := regionSram r
  let s := s.forEach ((s.cell.filter fun e => decide (regionOfCell e.1 = r)).map (·.1)) fun c s => s.modCel c CellSt.zeroed
  { s with mems := { s.mems with
    sram := (s.mems.sram.clear a b).clear (4294967296 + a) (4294967296 + b)
    sramPoison := (s.mems.sramPoison.clear (a / 8) (b / 8)).clear ((4294967296 + a) / 8) ((4294967296 + b) / 8) } }

/-- Every HBM line reads zero, with no poison. -/
def State.zeroHbm (s : State) : State := { s with mems := { s.mems with hbm := [], hbmPoison := [] } }

/-! ### The pass of CARDING_RUN (R423, R425) -/

/-- Pairs that a region mask names: those with a bit set. -/
def pairsOf (mask : Nat) : List Nat := (List.range 8).filter fun d => bit mask (2 * d) || bit mask (2 * d + 1)

/-- Both halves of a pair. -/
def halves (d : Nat) : List Region := [⟨2 * (d % 8), by omega⟩, ⟨2 * (d % 8) + 1, by omega⟩]

/-- Mask of both halves of each pair. -/
def pairMask (ds : List Nat) : Nat := (ds.map fun d => 3 * 4 ^ d).sum

/-- A region's turn begins: TEST. -/
def State.toTest (s : State) (d : Nat) : State := s.forEach (halves d) fun r s => s.setRegion r.val .test

/-- What a region's reset finds. -/
def readOf (x : ResetReads) (r : Nat) : ResetRead := ((x.find? fun e => decide (e.1 = r)).map (·.2)).getD {}

/-- A region's turn ends: RESET, and READY. -/
def State.fromTest (s : State) (d : Nat) (x : ResetReads) : State :=
  s.forEach (halves d) fun r s => (s.enterReset r.val).finishReset r (readOf x r.val)

/-- CARDING_RUN (R423): the pass begins with the first pair that the mask names. -/
def execCardingRun (c : Cmd) (s : State) : Host.Outcome State Fault Refusal :=
  let ds := pairsOf (c.field s 18 2)
  .next (selkan { op := 0x0B01, named := [(16, 16), (18, 19)], long := true, noJob := true } c
    { bad := if c.field s 16 1 > 1 then some 16 else none, state := !ds.all fun d => (halves d).all fun r => decide ((s.reg r).state = .ready) } (fun s =>
    let k : Card := { present := true, full := decide (c.field s 16 1 = 1), mask := pairMask ds, start := s.time.lea, end_ := s.time.lea, todo := ds, pending := s.card.pending, used := s.card.used }
    ({ s with card := k }).forEach ds.head?.toList fun d s => s.toTest d) s)

/-- The CARDING_RUN in progress. -/
def State.carding (s : State) : Option LOp := s.lop 0x0B01

/-- A line that a quick pass finds uncorrectable is poisoned (R250, R426): a row failure that is not one bit. -/
def State.poisonFound (s : State) (fs : List CardFail) : State :=
  s.forEach (fs.filter fun f => f.unit_ = 0x10 && f.bit = 0xFFFF) fun f s =>
    s.forEach ((rowLines (f.index % 16) f.address).filter fun l => decide (localLine (128 * l) = f.address)) fun l s => (s.lineBad l).bump Ctr.hbmUe (f.index % 16)

/-- The HBM and Skein parts, the repairs held pending, and the end of the pass. -/
def State.endPass (s : State) (l : LOp) (tail : List CardFail) : State :=
  let s1 := if s.card.full then s.zeroHbm else s.poisonFound tail
  let s2 := s1.forEach tail fun f s => s.enterFail true f
  let s3 := { s2 with card := { s2.card with end_ := s.time.lea, todo := [] } }.narrowBy tail
  if bit s3.card.outcome 3 then s3.unrepairable (stacksOut tail)
  else s3.done l.cmd .ok (result [(16, 4, s3.card.found)])

/-- CARDING_PAIR (R423, R426): the pair whose turn it is has been tested; after the last one the HBM and Skein parts run. -/
def execCardingPair (d : Fin 8) (fails tail : List CardFail) (x : ResetReads) (s : State) : Host.Outcome State Fault Refusal :=
  .next (match s.carding, s.card.todo with
    | some l, [] => s.endPass l tail
    | some l, e :: rest =>
      if e ≠ d.val then s
      else
        let s1 := s.forEach (halves d) fun r s => s.zeroRegion r.val
        let s2 := s1.forEach fails fun f s => s.enterFail true f
        let s3 := { s2 with card := { s2.card with todo := rest } }.fromTest d x
        match rest with
        | [] => s3.endPass l tail
        | f :: _ => s3.toTest f
    | none, _ => s)

/-- CARDING_THERMAL_STOP (R425): a die of the pair under test has reached a throttle level: the pass ends, and the command
names the pair. -/
def execCardingThermalStop (d : Fin 8) (x : ResetReads) (s : State) : Host.Outcome State Fault Refusal :=
  .next (match s.carding, s.card.todo with
    | some l, e :: _ =>
      if e ≠ d.val ∨ (s.die d.val).zone < 2 ∧ (s.die d.val).skeinZone < 2 then s
      else
        let s1 := s.fromTest d x
        ({ s1 with card := { s1.card with todo := [], outcome := outcomeWith s1.card.outcome 4, stopPair := d.val, end_ := s.time.lea } }).done l.cmd .timeout
          (result [(16, 4, d.val)])
    | _, _ => s)

/-- CARDING_RESULT (R429): the record of the latest pass; nothing is written when there is none. -/
def execCardingResult (c : Cmd) (w : HostWr) (s : State) : Host.Outcome State Fault Refusal :=
  .next (selkan { op := 0x0B02, named := [(16, 23)], long := true, inHeld := true } c { state := !s.card.present } (fun s =>
    s.writeHostOut c (c.field s 16 8) s.card.record w) s)

end Sys2Proof.Machine
end

