-- ==== Sys2Proof/Machine/Boot.lean ====
section
/-! DEFINITION. Bring-up and module reset: supply on, the boot chain, the cold claim, the training of the stacks, command-ready,
and MODULE_RESET (chapters 17, 20, 22 and 23). -/

namespace Sys2Proof.Machine

/-! ### The boot chain (R434, R435) -/

/-- Does a slot verify on a die: it holds an image that is not BAD, the check of its copy passes, and its SVN is not below the
fuse count? -/
def State.slotOk (s : State) (b : BringUp) (d : IoDie) (k : Fin 2) : Bool :=
  let x := s.sec.fw.get k
  s.spin.present.get d && (x.state = .good || x.state = .trial) && !bit b.fwBad (2 * d.val + k.val) && decide (s.fuse.svn.get d ≤ x.svn)

/-- Slot that a die boots on its own: the preferred one, else the other one. -/
def State.slotPick (s : State) (b : BringUp) (d : IoDie) : Option (Fin 2) :=
  if s.slotOk b d s.sec.preferred then some s.sec.preferred
  else if s.slotOk b d (other s.sec.preferred) then some (other s.sec.preferred) else none

/-- Has a slot been tried and refused on a die? -/
def State.slotRefused (s : State) (b : BringUp) (d : IoDie) (k : Fin 2) : Bool :=
  s.spin.present.get d && decide ((s.sec.fw.get k).state ≠ .empty) && !s.slotOk b d k && (decide (k = s.sec.preferred) || !s.slotOk b d s.sec.preferred)

/-- Do the digests of a slot agree and verify on both dies? -/
def State.slotAgrees (s : State) (b : BringUp) (k : Fin 2) : Bool := s.slotOk b 0 k && s.slotOk b 1 k && !bit b.fwDiffer k.val

/-- The slot that both dies boot when their digests differ: the higher VERSION of those that agree. -/
def State.slotCommon (s : State) (b : BringUp) : Option (Fin 2) :=
  match s.slotAgrees b 0, s.slotAgrees b 1 with
  | true, true => some (if (s.sec.fw.get 0).version.toNat ≥ (s.sec.fw.get 1).version.toNat then 0 else 1)
  | true, false => some 0
  | false, true => some 1
  | false, false => none

/-- Slot that runs, and whether the dies' digests differ. -/
def State.slotRuns (s : State) (b : BringUp) : Option (Fin 2 × Bool) :=
  match s.slotPick b 0, s.slotPick b 1 with
  | none, none => none
  | some k, none => some (k, false)
  | none, some k => some (k, false)
  | some i, some k =>
    if i = k ∧ !bit b.fwDiffer i.val then some (i, false)
    else if s.spin.width < 4 then some (i, true)
    else match s.slotCommon b with
      | some j => some (j, false)
      | none => some (i, true)

/-- Steps 1 to 4 of R435: fuses, the slots of both dies, their digests. A die on which no slot verifies is in recovery. -/
def State.bootFirmware (s : State) (b : BringUp) : State :=
  let refused (k : Fin 2) : Bool := s.slotRefused b 0 k || s.slotRefused b 1 k
  let mark (k : Fin 2) : FwSlot := let x := s.sec.fw.get k; if refused k then { x with state := .bad } else x
  let r := s.slotRuns b
  let lock := s.fuse.testLock.a || s.fuse.testLock.b
  { s with
    sec := { s.sec with
      fw := ⟨mark 0, mark 1⟩
      running := (r.map (·.1)).getD s.sec.running
      mismatch := (r.map (·.2)).getD false
      recovery := ⟨s.spin.present.a && (s.slotPick b 0).isNone, s.spin.present.b && (s.slotPick b 1).isNone⟩
      failedSlot := bitsOf [refused 0, refused 1]
      bootMs := b.bootMs }
    fuse := if lock && s.nvmOpen then { s.fuse with testLock := ⟨true, true⟩ } else s.fuse }

/-- Number of lanes in a mask of good lanes. -/
def laneCount (m : Nat) : Nat := (onesOf 16 m).length

/-- The link between the I/O dies trains at full width (R416). -/
def State.bootLink (s : State) (b : BringUp) : State :=
  if s.spin.present.a && s.spin.present.b then
    { s with spin := { s.spin with lanesOk := b.lanes % 65536, width := linkWidth (laneCount b.lanes), rttNs := b.rttNs } }
  else s

/-- A Spindle's own boot at cold start: its self-check fails, or passes and waits for the claim (R353, R356). -/
def State.bootSpindle (s : State) (b : BringUp) (d : IoDie) : State :=
  if !s.spin.present.get d || s.sec.recovery.get d then s.modSp d fun x => { x with state := .off, passed := none }
  else
    let s1 := s.modSp d fun x => { x with state := .boot, bootFrom := s.time.lea, passed := none, lapses := 0 }
    let code := if d = 0 then b.spFail.1 else b.spFail.2
    if code ≠ 0 then s1.selfCheckFails d code else s1.modSp d fun x => { x with passed := some s.time.lea }

/-- A Spindle that has passed takes the claim; its peer, if it has passed too, is in CATCHUP. -/
def State.firstClaim (s : State) (d : IoDie) : State :=
  let s1 := s.takeClaim d
  if (s1.sp (other d)).passed.isSome then s1.catchup (other d) else s1

/-- Step 5 of R435: both Spindles. A takes the claim at once (R353). -/
def State.bootSpindles (s : State) (b : BringUp) : State :=
  let s1 := (s.bootSpindle b 0).bootSpindle b 1
  if (s1.sp 0).passed.isSome then s1.firstClaim 0 else s1

/-! ### Step 2 of R419: records and settings -/

/-- The later of two 32-bit sequence numbers (R451). -/
def later32 (a b : BitVec 32) : BitVec 32 := if before32 a b then b else a

/-- The header that bring-up takes: the valid copy with the higher write count (R454). -/
def Store.takeHead (st : Store) (bad : Bool) : Store :=
  let h := st.older
  if bad then { st with nextRseq := h.nextRseq, failedBoots := h.failedBoots, trialBoots := h.trialBoots, lost := h.lost, writes := h.writes } else st

/-- Both dies read their stores. -/
def State.bootStores (s : State) (b : BringUp) : State :=
  { s with obs := { s.obs with store := ⟨s.obs.store.a.takeHead (b.heads.contains 0), s.obs.store.b.takeHead (b.heads.contains 1)⟩ } }

/-- NEXT_RSEQ that bring-up adopts: the later of both headers and of one beyond every record (R458). -/
def Obs.adoptRseq (o : Obs) : BitVec 32 :=
  let rs := (o.store.a.pairs ++ o.store.b.pairs).filterMap fun e => e.2.map fun r => r.rseq + 1
  rs.foldl later32 (later32 o.store.a.nextRseq o.store.b.nextRseq)

/-- Is there an unacknowledged shutdown record (R398)? -/
def State.unacked (s : State) : Bool :=
  (s.obs.store.a.pairs ++ s.obs.store.b.pairs).any fun e => match e.2 with
    | some r => r.unackShutdown
    | none => false

/-- The commit block of a slot but for its check: VERSION, ACT_SEQ, and the CHECK of its image (R363). -/
def commitHead (x : Slot) : List Byte := leBytes 4 x.version.toNat ++ leBytes 4 x.actSeq.toNat ++ leBytes 4 (imageField x.bytes 60 4)

/-- The commit block as it was last written. -/
def commitBlock (x : Slot) : List Byte := commitHead x ++ leBytes 4 (crc32 (commitHead x)) ++ List.replicate 47 0 ++ [0x5A]

/-- What a commit block says of its slot: the slot counts as committed only when COMMIT reads 0x5A and both checks match (R363). -/
def committed (x : Slot) (bs : List Byte) : Option Slot :=
  if x.state ≠ .empty ∧ bs.getD 63 0 = 0x5A ∧ imageField bs 12 4 = crc32 (bs.take 12) ∧ imageField bs 8 4 = imageField x.bytes 60 4 then
    some { x with state := .staged, version := BitVec.ofNat 32 (imageField bs 0 4), actSeq := BitVec.ofNat 32 (imageField bs 4 4) }
  else none

/-- The copy of slot `k` in the store of die `d`. -/
def State.configCopy (s : State) (b : BringUp) (k : Fin 2) (d : IoDie) : Option Slot :=
  let x := s.conf.slot.get k
  if !s.spin.present.get d then none
  else match b.config.find? fun e => decide (e.1 = k) && decide (e.2.1 = d) with
    | some e => committed x e.2.2
    | none => if x.state = .invalid then none else committed x (commitBlock x)

/-- Slot `k` as bring-up reads it: the copy that names the later committed activation stands; with none the slot is INVALID (R364). -/
def State.configSlot (s : State) (b : BringUp) (k : Fin 2) : Slot :=
  let x := s.conf.slot.get k
  match s.configCopy b k 0, s.configCopy b k 1 with
  | some x, none => x
  | none, some y => y
  | some x, some y => if before32 x.actSeq y.actSeq && decide (y.actSeq ≠ 0) || decide (x.actSeq = 0) then y else x
  | none, none => if x.state = .empty then x else { x with state := .invalid }

/-- The other slot beside the active one: KEPT, STAGED, EMPTY or INVALID (R364). -/
def besideActive (x : Slot) : Slot :=
  if x.state = .empty ∨ x.state = .invalid then x else if x.actSeq = 0 then { x with state := .staged } else { x with state := .kept }

/-- Bring-up reads the stores (R364): of the committed slots the one with the later nonzero ACT_SEQ is active. With none the active slot
stays as it is (DEDUCED, log 147). -/
def State.bootConfig (s : State) (b : BringUp) : State :=
  if b.config.isEmpty then s
  else
    let x := s.configSlot b 0
    let y := s.configSlot b 1
    let on (x : Slot) : Bool := x.state ≠ .empty && x.state ≠ .invalid && x.actSeq ≠ 0
    let slot : Two Slot := match on x, on y with
      | true, true => if before32 x.actSeq y.actSeq then ⟨besideActive x, { y with state := .active }⟩ else ⟨{ x with state := .active }, besideActive y⟩
      | true, false => ⟨{ x with state := .active }, besideActive y⟩
      | false, true => ⟨besideActive x, { y with state := .active }⟩
      | false, false => s.conf.slot
    { s with conf := { s.conf with slot := slot } }

/-- The settings of the active version come into force (R361, R364). -/
def State.bootSettings (s : State) : State :=
  let n := s.conf.active.settings
  let s1 := { s with
    conf := { s.conf with inForce := n, creelDue := false, failedBoots := s.obs.store.a.failedBoots }
    pow := { s.pow with capW := n.capW, sagPct := n.sagPct }
    creel := { s.creel with standing := n.standing }
    light := { s.light with waitMs := n.handoverMs } }
  s1.forEach (List.range 8) fun p s => s.modRp p fun x => { x with gateway := n.gateway.getLsbD p }

/-! ### Steps 3 to 6: factory records, rails, links, stacks -/

/-- A factory record but for its check word (R403): MAGIC, TYPE, FORMAT, SERIAL, LENGTH, body. -/
def recordHead (serial : BitVec 32) (c : Nat) : List Byte :=
  leBytes 4 0x4A584652 ++ leBytes 2 c ++ leBytes 2 (Config.factoryFormat c).toNat ++ leBytes 4 serial.toNat ++ leBytes 4 (Config.factoryBody c).length ++
    Config.factoryBody c

/-- The factory record of a domain as shipped (R403). -/
def shippedRecord (serial : BitVec 32) (c : Nat) : List Byte := recordHead serial c ++ leBytes 4 (crc32 (recordHead serial c))

/-- Does a record pass: its check word fits every earlier byte, and its SERIAL is that of the module (R403, R404)? -/
def recordGood (serial : BitVec 32) (bs : List Byte) : Bool :=
  let n := 16 + leNat ((bs.drop 12).take 4)
  decide (n + 4 ≤ bs.length) && decide (leNat ((bs.drop n).take 4) = crc32 (bs.take n)) && decide (leNat ((bs.drop 8).take 4) = serial.toNat)

/-- The record of a domain in the flash of an I/O die. -/
def State.factoryRecord (s : State) (d : IoDie) (c : Nat) : List Byte := ((s.cal.flash.get d).get none c).getD (shippedRecord s.fuse.serial c)

/-- Is the copy of an I/O die good? One as shipped is. -/
def State.recordOk (s : State) (d : IoDie) (c : Nat) : Bool :=
  match (s.cal.flash.get d).get none c with
  | some bs => recordGood s.fuse.serial bs
  | none => true

/-- What has become of the records in the flash since. -/
def State.flashNow (s : State) (rs : List (IoDie × Nat × List Byte)) : State :=
  { s with cal := { s.cal with flash := rs.foldl (fun t r => t.set r.1 ((t.get r.1).set none r.2.1 (some r.2.2))) s.cal.flash } }

/-- Factory records (R404): each is read from X0, and from X1 where that copy fails; a bad copy counts, and a domain without a good one
is noted and calibrated cold, whatever a snapshot gives. -/
def State.bootRecords (s : State) : State :=
  let count (s : State) (c d : Nat) : State := (s.bump Ctr.calRecordBad).fire 0x3F1 6 c d
  let s1 := s.forEach ((List.range 9).filter fun c => !s.recordOk 0 c) fun c s0 => let s2 := count s0 c 0; if s.recordOk 1 c then s2 else count s2 c 1
  { s1 with cal := { s1.cal with
    noCopy := bitsOf ((List.range 9).map fun c => !s.recordOk 0 c && !s.recordOk 1 c)
    oneCopy := bitsOf ((List.range 9).map fun c => s.recordOk 0 c != s.recordOk 1 c)
    restored := bitsOf ((List.range 9).map fun c => bit s1.cal.restored c && (s.recordOk 0 c || s.recordOk 1 c)) } }

/-- First domain without which bring-up stops: BANDGAP or SENSORS. -/
def lostDomain (noCopy : Nat) : Option Nat := [0, 1].find? fun c => bit noCopy c

/-- Rails at their set-points, guardbands included (R414). -/
def State.bootRails (s : State) : State :=
  let t : Tab Nat := (List.range 16).foldl (fun t r => t.set 750 r (s.setPoint r)) []
  { s with cal := { s.cal with railNow := t, railTarget := t, rampAt := [], replanDue := [] } }

/-- How a stack's training ends (R262). -/
def State.stackTrained (s : State) (k : Nat) (r : TrainOutcome) : State :=
  s.setStk k fun x => match r with
    | .pass n => { x with state := .ready, since_ := s.time.lea, spareRows := min n 255 }
    | .repair => { x with state := .repair, since_ := s.time.lea }
    | .fail => { x with state := .failed, since_ := s.time.lea }

/-- The stacks train, but for one that is FAILED, which only a power cycle brings back (R262). -/
def State.bootStacks (s : State) (b : BringUp) : State :=
  s.forEach (List.range 16) fun k s =>
    if (s.stk k).state = .failed then s
    else
      let s1 := s.setStk k fun _ => { state := .train, since_ := s.time.lea }
      match b.trained.getD k none with
      | some r => s1.stackTrained k r
      | none => s1

/-- A FAILED stack leaves the module in HELD (R261). -/
def State.stackHeld (s : State) : State :=
  match (List.range 16).find? fun k => decide ((s.stk k).state = .failed) with
  | some k => s.enterHeld 0x0803 k
  | none => s

/-- Go on while the bring-up has not ended in HELD. -/
def State.onward (s : State) (f : State → State) : State := if s.mod.state = .booting then f s else s

/-- The PLLs of all 19 dies lock to the reference (R156). -/
def State.bootPlls (s : State) : State := { s with time := { s.time with pllLock := if s.time.refPresent then 2 ^ 19 - 1 else 0, relocks := [] } }

/-- Steps 3 to 6 of R419. -/
def State.bootDies (s : State) (b : BringUp) : State :=
  let s1 := (s.flashNow b.records).bootRecords
  match lostDomain s1.cal.noCopy with
  | some c => s1.enterHeld 0x0804 c
  | none =>
    let s2 := (s1.when (!b.bandgap.isEmpty) (·.compareGaps b.bandgap)).bootPlls.bootRails
    let s3 := s2.forEach (List.range 16) fun r s => (s.modReg r fun x => { x with resetAt := s.time.lea }).setRegion r .reset
    let s4 := (s3.bootStacks b).forEach [(0 : IoDie), 1] fun d s => s.when (s.spin.present.get d) (·.portsBack d)
    { s4 with mod := { s4.mod with stacksUp := true } }.stackHeld

/-- Step 2 of R419, and on to step 6: an unacknowledged shutdown record holds here (R398). -/
def State.bootStart (s : State) (b : BringUp) : State :=
  let s := s.bootStores b
  let n := s.obs.adoptRseq
  let s1 := ((s.modStores fun x => { x with nextRseq := n }).bootConfig b).bootSettings
  if s1.unacked then { s1 with pow := { s1.pow with ackPending := true } }.enterHeld 0x0806 else s1.bootDies b

/-! ### Steps 4, 7 and 12: the quick Carding pass -/

/-- Pair that a throttle level has stopped twice (R425). -/
def stoppedTwice : List Nat → Option Nat
  | [] => none
  | d :: ds => if ds.contains d then some d else stoppedTwice ds

/-- Repairs held pending that a pass has not found again (R428). -/
def State.pendingLeft (s : State) (b : BringUp) : List CardEntry :=
  s.card.pending.filter fun e => !b.fails.any fun f => decide (f.unit_ = e.unit_) && decide (f.index = e.index) && decide (f.address = e.address)

/-- Spares of the SRAM banks that these repairs take. -/
def usedPending (es : List CardEntry) : Tab Nat :=
  (es.filter fun e => e.unit_ = 1 || e.unit_ = 2).foldl (fun t e => t.mod 0 (bankKey e.unit_ e.index e.address e.action) (· + 1)) []

/-- The pass over all 16 regions, its failures entered (R423, R426). -/
def State.bootCarding (s : State) (b : BringUp) : State :=
  let k : Card := { present := true, bringup := true, mask := 65535, start := s.mod.bootAt, end_ := s.time.lea, pending := s.card.pending, used := usedPending (s.pendingLeft b) }
  let s1 := { s with card := k }.forEach (List.range 8) fun d s => s.toTest d
  let s2 := s1.forEach (List.range 16) fun r s => s.zeroRegion r
  let s3 := if s2.mod.coldStacks then s2.zeroHbm else s2.poisonFound b.fails
  let s4 := s3.forEach b.fails fun f s => s.enterFail false f
  match stoppedTwice b.stops with
  | some d => { s4 with card := { s4.card with outcome := outcomeWith s4.card.outcome 4, stopPair := d } }.enterHeld 0x0802 d
  | none => if bit s4.card.outcome 3 then s4.unrepairable (stacksOut b.fails) else s4

/-- Repairs are applied: those of this pass, and those held pending that it has not found again (R428). -/
def State.bootRepairs (s : State) (b : BringUp) : State :=
  let own := b.fails.filter fun f => repairAction (cardAction [] f)
  let s1 := own.foldl (fun s f => s.repair (cardAction [] f) (f.index % 16) f.address f.spareLeft) s
  let s2 := (s.pendingLeft b).foldl (fun s e => s.repair e.action (e.index % 16) e.address e.spareLeft) s1
  { s2 with card := { s2.card with pending := [] } }

/-! ### Step 8: the light (R244) -/

/-- What the lines and the buses say of a cage at cold start. -/
def coldCage (b : BringUp) (k : Nat) : CageSt → CageSt := fun x =>
  let up := bit b.cages k
  let st : CageState := if !x.present then .absent else if x.faultPin then .fault else if !up then .warming else if k < 8 then .lit else .ready
  { x with state := st, bundle := 15, mgmtOk := x.mgmtOk || up, misses := if up then 0 else x.misses }

/-- A group whose primary is not READY goes to its standby by TRANSFER if that is free, and DARK if not. -/
def State.coldGroup (s : State) (g : Nat) : State :=
  if (s.cage g).state = .lit then s
  else
    let s1 := s.bump Ctr.lightLost g
    if s1.standbyFree g then ((s1.arm g true).enterGrp g .transfer).moved g 2 else s1.enterGrp g .dark

/-- The light's cold start; then LIGHT.STAT READY. -/
def State.bootLight (s : State) (b : BringUp) : State :=
  let s1 := { s with light := { s.light with group := [] } }.forEach (List.range 10) fun k s => s.modCage k (coldCage b k)
  let s2 := s1.forEach (List.range 8) fun g s => s.coldGroup g
  { s2 with light := { s2.light with ready := true } }

/-! ### Steps 9 to 13: the Skein, epoch 1, the regions, command-ready -/

/-- A loop in the lock phase: to be used, or left out of the first map with the light of its group or below -2.5 dB (R244). -/
def State.firstLoop (s : State) (n : Nat) : LoopSt :=
  if (s.grp (n / 16)).state = .dark then { state := .withdrawn, cause := 3 }
  else match (s.light.loop.get {} n).level with
    | some v => if v < -250 then { state := .withdrawn, cause := 2 } else { state := .locking }
    | none => { state := .locking }

/-- The lock phase begins (R182-R184): every ring goes to its line of the initial map, and locks at its first attempt but for those of
`b.rings`, which are to relock. The loops left out are counted (R188). -/
def State.bootRings (s : State) (b : BringUp) : State :=
  let loops : Tab LoopSt := (List.range 128).foldl (fun t n => t.set {} n (s.firstLoop n)) []
  let s1 := { s with skein := { epoch := s.skein.epoch, state := 1, locked := true, loop := loops } }
  let s2 := s1.forEach ((List.range 128).filter fun n => decide ((s.firstLoop n).state = .withdrawn)) fun n s => s.bump Ctr.loopWithdraw n
  s2.forEach ((b.rings.filter ringExists).map ringIx).eraseDups fun r s =>
    (s.modRing r fun x => { x with state := .relock, attempts := 1 }).bump Ctr.ringRelock (r / 32 % 128)

/-- Is every ring LOCKED or FAULTY? -/
def State.ringsSettled (s : State) : Bool := s.skein.ring.all fun e => e.2.state = .locked || e.2.state = .faulty

/-- The lock phase is complete: loops are ACTIVE, the Skein RUNNING. -/
def State.ringsUp (s : State) (b : BringUp) : State :=
  { s with skein := { s.skein with
      lockDone := true, lockMs := b.lockMs, state := 2
      loop := s.skein.loop.map fun e => (e.1, if e.2.state = .locking then { e.2 with state := .active } else e.2) } }

/-- Parts of the Skein that the pass found wrong are left out of the first map (R427). -/
def State.bootNarrow (s : State) (fs : List CardFail) : State :=
  let loops := ((fs.filter fun f => f.unit_ = 0x21).map fun f => f.index % 128).filter fun n => (s.loopSt n).state.usable
  let rings := (fs.flatMap cardRings).eraseDups.filter fun r => !decide ((s.ring r).state = .faulty)
  let s1 := s.forEach loops fun n s => (s.modLoop n fun x => { x with state := .withdrawn, cause := 1 }).bump Ctr.loopWithdraw
  s1.forEach rings fun r s => (s.modRing r fun x => { x with state := .faulty }).bump Ctr.ringFaulty (r / 32 % 128)

/-- Epoch 0x0000_0001 is committed and its standing bobbins lit (R197). -/
def State.firstEpoch (s : State) : State :=
  let c : Creel := { epoch := 0, lanes := s.spin.width, standing := s.creel.standing, mapStn := s.spin.present }
  ({ s with creel := c }.commit 0).degradedEvent false

/-- A TRIAL slot that has reached command-ready is GOOD, and an SVN above the fuse count goes to the fuses (R436). -/
def State.firmwareGood (s : State) : State :=
  let x := s.sec.fw.get s.sec.running
  let s1 := s.when (decide (x.state = .trial)) fun s =>
    ((s.modFw s.sec.running fun x => { x with state := .good }).modStores fun x => { x with trialBoots := 0 })
  { s1 with sec := { s1.sec with trialBoots := if x.state = .trial then 0 else s.sec.trialBoots, svnDue := if x.svn > max s.fuse.svn.a s.fuse.svn.b then some x.svn else s.sec.svnDue } }

/-- Command-ready (R418): the counts of failed boots end, a version whose rollback was lost is watched again (R370), doorbells
held are taken (R314), and the reset command gets its final entry (R341). -/
def State.commandReady (s : State) (b : BringUp) : State :=
  let s1 := { s with
    mod := { s.mod with state := .ready, heldCause := 0, boot := none, stacksUp := false, coldStacks := false, failDue := false, bringupMs := b.ms }
    cal := { s.cal with calibrated := true, bringupMs := b.calMs }
    conf := { s.conf with failedBoots := 0 } }
  let s2 := (s1.modStores fun x => { x with failedBoots := 0 }).firmwareGood
  let s3 := s2.when s2.conf.watchAgain fun s => { s with conf := { s.conf with watchAgain := false, watching := true, until_ := s.time.lea + 30000000000 } }
  (s3.endReset .ok (result [(16, 4, b.ms)])).flushDoorbells.windowsOpen

/-- The regions run through RESET to READY. -/
def State.bootRegions (s : State) (b : BringUp) : State := s.forEach (List.range 8) fun d s => s.fromTest d b.resets

/-- Steps 9 to 13 of R419, once every ring is LOCKED or FAULTY. -/
def State.bootSkein (s : State) (b : BringUp) : State :=
  s.when s.ringsSettled fun s =>
    (((((s.ringsUp b).bootNarrow b.fails).bootRepairs b).firstEpoch.bootRegions b).onward fun s => s.commandReady b)

/-- Steps 4 and 7 to 13 of R419, once every stack is READY. -/
def State.bootEnd (s : State) (b : BringUp) : State := (s.bootCarding b).onward fun s => ((s.bootLight b).bootRings b).bootSkein b

/-- Do all stacks serve? -/
def State.stacksReady (s : State) : Bool := (List.range 16).all fun k => s.serves k

/-- Go on with the bring-up under way as far as it can: only in RUN (R385), and with a Spindle ACTIVE (R418). -/
def State.resumeBoot (s : State) : State :=
  match s.mod.boot with
  | some b =>
    if s.mod.state ≠ .booting ∨ s.pow.supply ≠ .run ∨ s.spin.claim = none then s
    else if s.skein.state = 1 then s.bootSkein b
    else
      let s1 := if s.mod.stacksUp then s else s.bootStart b
      if s1.mod.state = .booting ∧ s1.stacksReady then s1.bootEnd b else s1
  | none => s

/-- A bring-up begins at t0 = now (R419); `snap` takes a snapshot into use once the firmware runs. -/
def State.beginBoot (s : State) (b : BringUp) (coldStacks : Bool) (snap : State → State := id) : State :=
  let s1 := { s with mod := { s.mod with
    state := .booting, heldCause := 0, bringupDue := false, bootAt := s.time.lea, boot := some b, stacksUp := false, coldStacks := coldStacks, failDue := true } }
  ((snap ((s1.bootLink b).bootFirmware b)).bootSpindles b).resumeBoot

/-! ### The supply (R385, R386) -/

/-- Cages as their lines show them. -/
def State.cageLines (s : State) : State :=
  s.forEach (List.range 10) fun k s => s.modCage k fun x => { x with present := !s.level (5 + k), faultPin := !s.level (15 + k), state := if s.level (5 + k) then .absent else .warming }

/-- The lines at the levels that the filters read as power comes on. No source fires. -/
def State.readLines (s : State) (levels : BitVec 25) : State :=
  let line := (List.range 25).foldl (fun t l => t.mod {} l fun (x : LineSt) => { x with level := levels.getLsbD l }) s.obs.line
  let s1 := { s with obs := { s.obs with line := line } }
  ((s1.modPort 0 fun x => { x with perst := !levels.getLsbD 3 }).modPort 1 fun x => { x with perst := !levels.getLsbD 4 }).cageLines

/-- The supply enters RUN and a cold bring-up begins. -/
def State.coldStart (s : State) (mv : Nat) (b : BringUp) : State :=
  let s1 := { s with pow := { s.pow with supply := .run } }.measure mv
  s1.beginBoot b true

/-- SUPPLY_ON (R385): from OFF the input rises through 48.0 V with PWR_GOOD high. After State.reset, which is the module in RUN
before its bring-up, it is the bring-up. -/
def execSupplyOn (mv : Nat) (levels : BitVec 25) (b : BringUp) (s : State) : Host.Outcome State Fault Refusal :=
  .next (if (decide (s.pow.supply = .off) || s.mod.bringupDue) && decide (mv ≥ 48000) && levels.getLsbD 1 then (s.readLines levels).coldStart mv b else s)

/-- FAIL_RECOVER (R386): in FAIL the input has stood at 48.0 V for 10 ms with PWR_GOOD high: a cold bring-up. -/
def execFailRecover (mv : Nat) (b : BringUp) (s : State) : Host.Outcome State Fault Refusal :=
  .next (if s.pow.supply = .fail && decide (mv ≥ 48000) && s.level 1 then s.powerLost.cageLines.coldStart mv b else s)

/-- SAG_EXIT (R385, R386): 48.0 V and HOLD_N released for 100 us. A bring-up that was paused goes on. -/
def execSagExit (mv : Nat) (s : State) : Host.Outcome State Fault Refusal :=
  .next (if s.pow.supply = .sag && decide (mv ≥ 48000) && !s.hold && s.elapsed s.pow.sagAt 100000 && s.elapsed (s.obs.line.get {} 2).since_ 100000 then
      let s1 := { s.measure mv with pow := { (s.measure mv).pow with supply := .run, sagUs := since s.pow.sagAt s.time.lea / 1000 } }
      (s1.fire 0x340 1 0 mv).resumeBoot
    else s)

/-! ### The cold claim (R353, R356) -/

/-- COLD_CLAIM_B (R353): B's self-check passed 10 ms ago and A's line has stayed low. -/
def execColdClaimB (s : State) : Host.Outcome State Fault Refusal :=
  .next (match (s.sp 1).passed with
    | some t => if s.spin.claim = none ∧ s.spin.releasing = none ∧ s.elapsed t 10000000 then (s.firstClaim 1).resumeBoot else s
    | none => s)

/-- SPINDLE_BOOT_DONE (R353, R356, R435): a Spindle in BOOT passes. With the claim free A takes it at once and B waits; while the
claim is passing from one to the other neither may. -/
def execSpindleBootDone (d : IoDie) (digestOk : Bool) (s : State) : Host.Outcome State Fault Refusal :=
  .next (if (s.sp d).state ≠ .boot ∨ s.sec.recovery.get d = true ∨ s.spin.releasing ≠ none then s
    else if s.spin.claim = some (other d) then { s with sec := { s.sec with mismatch := !digestOk } }.catchup d
    else if d = 0 then (s.firstClaim 0).resumeBoot
    else s.modSp d fun x => { x with passed := some (x.passed.getD s.time.lea) })

/-! ### Stacks (R261, R262) -/

/-- STACK_TRAIN_DONE (R262): how the training of a stack ends; beyond 500 ms it has failed. -/
def execStackTrainDone (k : Stack) (r : TrainOutcome) (s : State) : Host.Outcome State Fault Refusal :=
  .next (if (s.stk k).state ≠ .train ∨ s.mod.state ≠ .booting then s
    else (((s.stackTrained k (if s.elapsed (s.stk k).since_ 500000001 then .fail else r)).stackHeld).onward (·.resumeBoot)))

/-- STACK_REPAIR_DONE (R261, R262, R426): repairs applied, and TRAIN again; spares exhausted or beyond 2 s, FAILED. `rows` names a
local line in each row repaired. -/
def execStackRepairDone (k : Stack) (ok : Bool) (rows : List Nat) (lanes : Nat) (s : State) : Host.Outcome State Fault Refusal :=
  .next (if (s.stk k).state ≠ .repair ∨ s.mod.state ≠ .booting then s
    else if !ok || s.elapsed (s.stk k).since_ 2000000001 then (s.stackTrained k .fail).stackHeld
    else
      let s1 := s.setStk k fun x => { x with state := .train, since_ := s.time.lea, lanesRepaired := satAdd 255 x.lanesRepaired lanes }
      s1.forEach rows fun l s => s.repair 3 k l 0xFFFF)

/-! ### THERMAL_ACK (R398) -/

/-- Does a record sequence name an unacknowledged shutdown record? -/
def State.ackable (s : State) (n : Nat) : Bool :=
  (s.obs.store.a.pairs ++ s.obs.store.b.pairs).any fun e => match e.2 with
    | some r => r.unackShutdown && decide (r.rseq.toNat = n)
    | none => false

/-- A shutdown record is acknowledged, in both copies. -/
def Store.ack (st : Store) (n : Nat) : Store :=
  { st with pairs := (List.range 31).foldl (fun t j => t.mod none j fun (x : Option Rec) =>
      x.map fun r => if r.kind = 3 ∧ r.rseq.toNat = n then { r with acked := true } else r) st.pairs }

/-- THERMAL_ACK (R398): the record is acknowledged, and the bring-up that waited goes on. -/
def execThermalAck (c : Cmd) (b : BringUp) (s : State) : Host.Outcome State Fault Refusal :=
  let n := c.field s 16 4
  .next (selkan { op := 0x0705, named := [(16, 19)], nvm := true, inHeld := true } c
    { bad := if s.ackable n then none else some 16, state := !s.pow.ackPending } (fun s =>
    let s1 := (s.modStores fun x => x.ack n).done c .ok
    if s1.unacked then s1
    else
      let s2 := { s1 with pow := { s1.pow with ackPending := false } }
      ({ s2 with mod := { s2.mod with
        state := .booting, heldCause := 0, bootAt := s2.time.lea, boot := some b, stacksUp := false, coldStacks := true, failDue := true } }).resumeBoot) s)

/-! ### MODULE_RESET (R416, R417) -/

/-- A queue that a module reset frees: its taken entries go with it. -/
def HostSide.reset (h : HostSide) : HostSide :=
  { ports := ⟨{ h.ports.a with heldDb := [] }, { h.ports.b with heldDb := [] }⟩, queues := h.queues.filter fun e => decide (e.1 < 4), adminRing := h.adminRing }

/-- What a Spindle keeps over a module reset: its failures since cold power-on and within the last hour (R360). -/
def keptFails (x : Spindle) : Spindle := { fails := x.fails, recent := x.recent }

/-- What a module reset clears and keeps (R416, R394, R447-R449). Laser sources keep emitting. -/
def State.moduleCleared (s : State) : State :=
  { time := { lea := s.time.lea, frac := s.time.frac, refPresent := s.time.refPresent, holdover := s.time.holdover, refLost := s.time.refLost, refAt := s.time.refAt, copies := s.time.copies, skewMax := s.time.skewMax }
    obs := { line := s.obs.line, fires := s.obs.fires, store := s.obs.store, recWaiting := s.obs.recWaiting }
    host := s.host.reset
    mems := { hbm := if s.mod.state = .held then [] else s.mems.hbm, hbmPoison := if s.mod.state = .held then [] else s.mems.hbmPoison
              bar4 := s.mems.bar4, hostA := s.mems.hostA, hostB := s.mems.hostB }
    spin := { present := s.spin.present, spindle := ⟨keptFails s.spin.spindle.a, keptFails s.spin.spindle.b⟩, releaseMax := s.spin.releaseMax }
    conf := { s.conf with watching := false, creelDue := false }
    pow := { s.pow with level := 0, die := s.pow.die.map fun e => (e.1, { e.2 with peakC := min e.2.tempC 255 }) }
    job := { prev := s.job.prev }
    cal := { sample := s.cal.stored, stored := s.cal.stored, summaries := s.cal.summaries, flash := s.cal.flash }
    plan := s.plan
    sec := { fw := s.sec.fw, preferred := s.sec.preferred, trialBoots := s.sec.trialBoots, debugUsed := s.sec.debugUsed, svnDue := s.sec.svnDue }
    card := { s.card with todo := [] }
    fuse := s.fuse
    light := { commissioned := s.light.commissioned, pc := s.light.pc, cage := s.light.cage, maxPause := s.light.maxPause }
    memory := { stack := s.memory.stack.filter fun e => decide (e.2.state = .failed) }
    rport := (s.rport.filter fun e => e.2.present).map fun e => (e.1, { present := true })
    free := s.free
    pending := s.pending }

/-- The snapshot of a module reset (R407, R408): used, refused or none. -/
def State.resetSnap (s : State) (img : Option (List Byte)) (misses : Nat) : State :=
  match img with
  | none => s
  | some img => match s.snapCheck img with
    | 1 => s.restored img misses
    | n => { s with cal := { s.cal with lastRestore := n } }

/-- MODULE_RESET level 0: everything else in progress is abandoned; the final entry goes to the issuing port's admin completion
queue (R341). -/
def State.moduleReset (s : State) (c : Cmd) (b : BringUp) (snap : SnapRead) : State :=
  let p := c.port s
  let a := c.field s 24 8
  let img := if a = 0 then none else some (s.hostSnap p a)
  let cold := decide (s.mod.state = .held)
  let s1 := s.moduleCleared
  ({ s1 with mod := { s1.mod with resetCmd := if s.lostCmd c then none else some (2 * p.val + 1, c.seq) } }).beginBoot b cold fun s => s.resetSnap img snap.misses

/-- The Spindle that a level names. -/
def levelDie (level : Nat) : IoDie := if level = 2 then 1 else 0

/-- MODULE_RESET (R355, R416, R417): level 0 the module; 1 and 2 a Spindle, which rejoins or lapses before the command ends. A
supply in SHUTDOWN is left by a power cycle alone (R398). -/
def execModuleReset (c : Cmd) (b : BringUp) (snap : SnapRead) (s : State) : Host.Outcome State Fault Refusal :=
  let level := c.field s 16 1
  let d := levelDie level
  .next (selkan { op := 0x0102, named := [(16, 16), (24, 31)], long := true, inHeld := true } c
    { bad := if level > 2 then some 16 else none, state := if level = 0 then decide (s.pow.supply = .shutdown) else s.resetRefused d } (fun s =>
    if level = 0 then s.moduleReset c b snap
    else (s.setAux c (d.val + 2 * s.time.lea.toNat)).resetSpindle d) s)

end Sys2Proof.Machine
end

