-- ==== Sys2Proof/Machine/Locks.lean ====
section
/-! DEFINITION. Ring lock, line identity and the health of the loops (R173, R181-R185), and what waits for rings to lock: REQUALIFY
(R200), TABLE_START (R205) and the lock phase of a bring-up (R182). -/

namespace Sys2Proof.Machine

/-! ### REQUALIFY (R200) -/

/-- A DARK group finds a source: its primary, or its half's standby (R238). Its loops are measured afresh. -/
def State.relight (s : State) (g : Nat) : State :=
  let fresh (s : State) : State := s.forEach (loopsOf g) fun n s => s.modLight n fun x => { x with windows := [], below := 0 }
  if (s.grp g).state ≠ .dark then s
  else if (s.cage g).state = .ready ∨ (s.cage g).state = .lit then
    fresh ((s.modCage g fun x => { x with state := .lit }).enterGrp g .primary fun x => { x with onStandby := false, denied := false })
  else if s.standbyFree g then
    fresh ((s.modCage (standbyCage g) fun x => { x with state := .lit, bundle := g % 4 }).enterGrp g .standby fun x => { x with onStandby := true })
  else s

/-- Has the loop light above -1.0 dB, as far as it is measured on its present source (R200, R237)? -/
def State.lightOk (s : State) (n : Nat) : Bool :=
  decide ((s.grp (n / 16)).state ≠ .dark) && match (s.light.loop.get {} n).level with | some l => decide (l > -100) | none => true

/-- Withdrawn loops that REQUALIFY lights. -/
def State.relit (s : State) : List Nat := (List.range 128).filter fun n => decide ((s.loopSt n).state = .withdrawn) && s.lightOk n

/-- Has a loop under test passed? -/
def Requal.admits (q : Requal) (n : Nat) : Bool := q.passed.contains n

/-- The inter-I/O-die link retrains to the lower width of its ends, wider than the map if it can; with an I/O die absent there is no
link (R199, R200). -/
def State.relink (s : State) (e : LinkEnds) : State :=
  let w := linkWidth (linkLanes e)
  if !(s.spin.present.a && s.spin.present.b) then s
  else if w < 4 then s.linkDown
  else { s.linkAt w e with creel := { (s.linkAt w e).creel with lanes := w } }

/-- A REQUALIFY under way has its rings locked or FAULTY and its loops judged: it admits what has passed, retrains the link, and commits
one epoch (R200). -/
def State.tryRequal (s : State) : State :=
  match s.creel.requal with
  | some q =>
    let settled (r : Nat) : Bool := (s.ring r).state = .locked || (s.ring r).state = .faulty
    s.when (q.rings.all settled && q.loops.all fun n => q.admits n || decide ((s.loopSt n).state ≠ .locking)) fun s =>
      let old := s.degraded
      let loops := q.loops.filter fun n => q.admits n && decide ((s.loopSt n).state = .locking)
      let rings := q.rings.filter fun r => decide ((s.ring r).state = .locked)
      let s1 := s.forEach loops fun n s => s.modLoop n fun _ => { state := .active }
      let s2 := ({ s1 with creel := { s1.creel with requal := none, mapStn := s1.spin.present } }).relink q.lanes
      (((s2.commit 6).forEach loops fun n s => s.fire (0x200 + n) 0 n 2).degradedEvent old).endLops (fun l => decide (l.opcode = 0x0509)) .ok
        (result [(16, 2, loops.length), (20, 4, rings.length)])
  | none => s

/-- REQUALIFY (R200): relocks every FAULTY ring and lights the withdrawn loops whose light allows it; IDLE frames run on them until
every drop ring has received 10^9 bits. -/
def execRequalify (c : Cmd) (lanes : LinkEnds) (s : State) : Host.Outcome State Fault Refusal :=
  .next (selkan { op := 0x0509, long := true, noJob := true } c { busy := if s.creel.requal.isSome then some 0 else none } (fun s =>
    let s1 := s.forEach (List.range 8) fun g s => s.relight g
    let loops := s1.relit
    let rings := (s1.skein.ring.filter fun r => decide (r.2.state = .faulty)).map (·.1)
    let s2 := s1.forEach rings fun r s => s.modRing r fun x => { x with state := .locking, attempts := 0, passed := 0 }
    let s3 := s2.forEach loops fun n s => (s.modLoop n fun x => { x with state := .locking, corrected := 0, bits := 0, ue := 0, rings := [] }).modLight n fun x =>
      { x with advisory := false, fadeDue := false, below := 0 }
    ({ s3 with creel := { s3.creel with requal := some { loops := loops, rings := rings, lanes := lanes } } }).tryRequal) s)

/-! ### Loop health (R173) -/

/-- Is the estimate of `c` corrected bits in `b` above 10^-e? -/
def berAbove (c b e : Nat) : Bool := decide (c * 10 ^ e > b)

/-- BER_LOG: -log10 of an estimate in tenths, rounded down; 0xFF when no error was corrected (R189). -/
def berLog (c b : Nat) : Nat :=
  if c = 0 then 255 else ((List.range 255).reverse.find? fun t => decide (c ^ 10 * 10 ^ t ≤ b ^ 10)).getD 0

/-- Ring of the highest estimate, the lower-numbered first: its number, bits corrected and received. -/
def worstRing : Tab (Nat × Nat) → Nat × Nat × Nat
  | [] => (0, 0, 1)
  | r :: rs => let w := worstRing rs; if r.2.1 * w.2.2 ≥ w.2.1 * r.2.2 ∧ r.2.2 > 0 then (r.1, r.2.1, r.2.2) else w

/-- Drop rings of a loop whose own window is complete: 10^9 bits (R173). -/
def LoopSt.due (x : LoopSt) : Tab (Nat × Nat) := x.rings.filter fun r => decide (r.2.2 ≥ 10 ^ 9)

/-- Those of them with an estimate above 1e-7. -/
def LoopSt.badRings (x : LoopSt) : List Nat := (x.due.filter fun r => berAbove r.2.1 r.2.2 7).map (·.1)

/-- Is the loop's own window complete? -/
def LoopSt.full (x : LoopSt) : Bool := decide (x.bits ≥ 10 ^ 9)

/-- A window ends: what is complete is read out and begins afresh, the rest is extended (R173, R189). -/
def LoopSt.next (x : LoopSt) : LoopSt :=
  let y := { x with rings := x.rings.filter fun r => decide (r.2.2 < 10 ^ 9) }
  if x.full then
    { y with ueFrames := min x.ue 255, berLog := Machine.berLog x.corrected x.bits, worstStn := (worstRing x.rings).1 / 8, corrected := 0, bits := 0, ue := 0 }
  else y

/-- Number of the drop ring that a loop's window lists under `k`. -/
def dropRing (loop k : Nat) : Nat := ringNo (k / 8) loop .drop k

/-- A usable loop is ADVISORY while its estimate says so, ACTIVE otherwise; a change fires its event (R173). -/
def State.loopFlag (s : State) (n : Nat) : State :=
  let x := s.loopSt n
  let st := if x.ber then LoopState.advisory else LoopState.active
  if x.state.usable && decide (x.state ≠ st) then
    (s.modLoop n fun y => { y with state := st }).fire (0x200 + n) 1 n (if st = .advisory then 3 else 2)
  else s

/-- A loop's estimate stands above 1e-9 in two windows in a row, or at or below it in two (R173). -/
def State.advise (s : State) (n : Nat) (hot : Bool) : State :=
  (s.modLoop n fun x =>
    let h := if hot then min (x.hot + 1) 2 else 0
    let c := if hot then 0 else min (x.cool + 1) 2
    { x with hot := h, cool := c, ber := decide (h = 2) || (x.ber && decide (c < 2)) }).loopFlag n

/-- A usable loop judged at a window's end (R173). -/
def State.judgeLoop (s : State) (n : Nat) : State :=
  let x := s.loopSt n
  let s1 := s.modLoop n LoopSt.next
  let s2 := match x.badRings with
    | [k] => s1.faultRings [dropRing n k]
    | _ => s1
  if (x.full && berAbove x.corrected x.bits 7) || decide (x.badRings.length ≥ 2) then s2.withdrawLoops [n] 1
  else s2.when x.full fun s => s.advise n (berAbove x.corrected x.bits 9)

/-- Drop rings of a loop that a REQUALIFY tests: those of the stations present that are not FAULTY (R200). -/
def State.tested (s : State) (n : Nat) : List Nat :=
  (List.range 272).filter fun k => !(s.ring (dropRing n k)).state = .faulty && (decide (k < 256) || s.spin.present.get ⟨k / 8 % 2, by omega⟩)

/-- A loop under test is judged when every ring has received 10^9 bits: one that fails R173 stays withdrawn, a single ring that does
becomes FAULTY (R200). -/
def State.judgeTest (s : State) (n : Nat) : State :=
  let x := s.loopSt n
  if (s.tested n).all fun k => decide ((x.rings.get (0, 0) k).2 ≥ 10 ^ 9) then
    let s1 := s.modLoop n LoopSt.next
    if berAbove x.corrected x.bits 7 || decide (x.badRings.length ≥ 2) then s1.failLoops [n] 1
    else if !s.lightOk n then s1.failLoops [n] 2
    else
      let s2 := s1.faultRings (x.badRings.map (dropRing n))
      { s2 with creel := { s2.creel with requal := s2.creel.requal.map fun q => { q with passed := n :: q.passed } } }
  else s

/-- SKEIN_HEALTH_WINDOW (R173, R200): a window of a loop ends, with the bits that its drop rings corrected and received beside those
of the frames already counted, and its uncorrectable frames. -/
def execSkeinHealthWindow (n : Loop) (rings : List RingBer) (ue : Nat) (s : State) : Host.Outcome State Fault Refusal :=
  let add (s : State) : State := s.modLoop n fun x => rings.foldl (fun x r => x.count (8 * r.stn.val + r.n.val) r.corrected r.bits 0) { x with ue := x.ue + ue }
  .next (match (s.loopSt n).state with
    | .active | .advisory => (add s).judgeLoop n
    | .locking => s.when s.creel.requal.isSome fun s => ((add s).judgeTest n).tryRequal
    | _ => s)

/-! ### Line identity and ring lock (R181, R183-R185) -/

/-- What waits for rings may be complete: a TABLE_START, a REQUALIFY, the lock phase of a bring-up (R182, R200, R205). -/
def State.locksDone (s : State) : State := s.tryStart.tryRequal.when (decide (s.skein.state = 1)) (·.resumeBoot)

/-- A ring is verified: LOCKED, its count of attempts clear (R183); what waited for it goes on. -/
def State.ringLocked (s : State) (r : Nat) : State :=
  let s1 := s.modRing r fun x => { x with state := .locked, attempts := 0, passed := 0 }
  (({ s1 with creel := { s1.creel with retune := s1.creel.retune.filter (· ≠ r) } }).lightDemand r).locksDone

/-- IDENTITY_WINDOW (R181, R183, R185): a pilot window of a ring shows `pilot` as the strongest by 10 dB, or none. In
VERIFY two windows on the intended line lock it; in service a window on another line mutes it. -/
def execIdentityWindow (i : RingIx) (pilot : Option Line) (s : State) : Host.Outcome State Fault Refusal :=
  let r := ringIx i
  let ok := pilot.map (·.val) = some (s.ringLine r)
  .next (if !ringExists i then s
    else match (s.ring r).state with
      | .verify =>
        if !ok then (s.attemptFails r).locksDone
        else if (s.ring r).passed ≥ 1 then s.ringLocked r
        else s.modRing r fun x => { x with passed := 1 }
      | .locked => s.when (!ok) fun s => (s.bump Ctr.pilotMismatch i.loop).muteRing r
      | _ => s)

/-- RESONANCE_HELD (R183): a ring that locks holds resonance: VERIFY. The offset of RELOCK counts as applied. -/
def execResonanceHeld (i : RingIx) (s : State) : Host.Outcome State Fault Refusal :=
  let r := ringIx i
  .next (match (s.ring r).state with
    | .locking | .relock => s.modRing r fun x => { x with state := .verify, passed := 0 }
    | _ => s)

/-- LOCK_TIMEOUT (R183): 1.8 ms without resonance: the attempt has failed. -/
def execLockTimeout (i : RingIx) (s : State) : Host.Outcome State Fault Refusal :=
  let r := ringIx i
  .next (match (s.ring r).state with
    | .locking | .relock => (s.attemptFails r).locksDone
    | _ => s)

/-- RING_MUTE_DONE (R183): a MUTED ring is detuned: RELOCK. -/
def execRingMuteDone (i : RingIx) (s : State) : Host.Outcome State Fault Refusal :=
  let r := ringIx i
  .next (match (s.ring r).state with
    | .muted => (s.bump Ctr.ringRelock i.loop).modRing r fun x => { x with state := .relock }
    | _ => s)

/-- RING_RETUNE_DONE (R204): a lock engine has a ring tuned and verified for a later phase. -/
def execRingRetuneDone (i : RingIx) (s : State) : Host.Outcome State Fault Refusal :=
  let r := ringIx i
  .next (match (s.ring r).state with
    | .locking | .verify => s.when (s.creel.retune.contains r) fun s => s.ringLocked r
    | _ => s)

/-- The offset of every ring in RELOCK is applied: LOCKING (R183; at the next nanosecond in which the block idles, DESIGN CHOICE,
log 142). -/
def State.offsetsApplied (s : State) : State :=
  s.forEach ((s.skein.ring.filter fun e => decide (e.2.state = .relock)).map (·.1)) fun r s => s.modRing r fun x => { x with state := .locking }

end Sys2Proof.Machine
end

