-- ==== Sys2Proof/Machine/RingBeat.lean ====
section
/-! DEFINITION. The core rings in motion: what stations do with a flit, a credit or a message that reaches them, injection, and one
beat of a region's rings (R125-R143). -/

namespace Sys2Proof.Machine

/-! ### Slots -/

/-- The slot of a lane that stands at a station. -/
def RegionSt.slotAt (x : RegionSt) (lane st : Nat) : RingSlot := x.slots.get {} (16 * lane + st)

/-- Change it. -/
def State.modRingSlot (s : State) (r lane st : Nat) (f : RingSlot → RingSlot) : State :=
  s.modReg r fun x => { x with slots := x.slots.mod {} (16 * lane + st) f }

/-- Full slots of a lane. -/
def RegionSt.full (x : RegionSt) (lane : Nat) : Nat := (x.slots.filter fun e => decide (e.1 / 16 = lane) && e.2.flit.isSome).length

/-- Put a flit into the slot of its lane at a station; SLOTS_FULL_MAX follows (R142). -/
def State.ride (s : State) (r st : Nat) (f : Flit) : State :=
  (s.modRingSlot r (flitLane f) st fun x => { x with flit := some f }).modReg r fun x => { x with slotsFullMax := max x.slotsFullMax (x.full (flitLane f)) }

/-! ### Arrival (R126, R129, R132) -/

/-- Address of the region's SRAM that a flit's ADDR names (R91, R129). -/
def flitAddr (r : Nat) (f : Flit) : Nat := r * 268435456 + f.addr.toNat % 268435456 + (f.addr.toNat / 4294967296 % 2) * 4294967296

/-- The requester takes a reply (R75, R81, R87): data of a read are gathered to the last flit, a descriptor's go on to its write
side, and an acknowledgement ends the slot. A reply that no longer has its request is discarded and counted. -/
def State.ringReply (s : State) (f : Flit) (bad : Bool) : State :=
  let tag := f.tag.toNat
  let r := s.slot tag
  if r.kind = .free ∨ r.gen ≠ f.gen ∨ !r.onRing then s.bump Ctr.seStaleReply (tag / 256)
  else if f.type_ = 1 then
    let s1 := s.modSlot tag fun x => { x with data := x.data ++ f.data, bad := x.bad || bad, onRing := !f.last }
    if !f.last then s1
    else if r.kind = .desc && !r.index then
      (s1.modSlot tag fun x => { x with data := [], bad := false }).landPiece tag (r.data ++ f.data) (r.bad || bad)
    else s1.reply f.tag f.gen 0 (r.bad || bad) (r.data ++ f.data)
  else if f.last then (s.modSlot tag fun x => { x with onRing := false }).reply f.tag f.gen 0 bad f.data
  else s

/-- The home block serves an access of another block (R96, R112, R129): READ_REQ reads and answers with the data, a poisoned word
consumed by the requester; WRITE stores, ATOMIC acts, and both are acknowledged after the last flit. -/
def State.ringServe (s : State) (r : Nat) (f : Flit) (bad : Bool) : State :=
  let a := flitAddr r f
  let tag := f.tag.toNat
  let home := 16 * r + f.dst.val
  match f.type_ with
  | 0 =>
    let badNow := s.mems.sramBad a f.bytes
    (s.when badNow fun s => s.sramCause a (s.slotBy tag)).queueFlit r 1
      { flitOf f.dst.val f.src.val 0 0 f.vc.val 1 tag with
        last := f.last, poison := badNow, gen := f.gen, addr := f.addr, bytes := f.bytes, data := s.mems.sram.read a f.bytes }
  | 2 =>
    let s1 := s.putSram a f.data bad (.slot tag)
    if f.last then (s1.modSlot tag fun x => { x with landed := true }).ringAck tag home else s1
  | 4 => ((s.atomicSram tag (s.slot tag) a).modSlot tag fun x => { x with landed := true }).ringAck tag home
  | _ => s.ringReply f bad

/-- A flit that is no RED flit is ejected at its destination (R127, R129, R132, R141): a gateway takes it into its crossing; a
block's station drains it, its credit goes back, and it acts, when it comes from a block. A flit from a gateway has acted
already (DEDUCED, log 42). Nothing acts in a region that is PARKED or in RESET. -/
def State.ejectFlit (s : State) (r : Nat) (f : Flit) (bad : Bool) : State :=
  if f.dstPort = 1 ∨ f.dstPort = 2 then s.gateTakes r f.dst f
  else
    let s1 := s.giveBack r f.dst f
    if f.srcPort = 0 && f.dstPort = 0 && s.answers 0 (r * 268435456) then s1.ringServe r f bad else s1

/-- The lane in which a flit stands in a slot at its destination, if it does. -/
def RegionSt.carries (x : RegionSt) (st : Nat) (f : Flit) : Bool := decide ((x.slotAt (flitLane f) st).flit = some f)

/-- RING_FLIT_ARRIVAL (R126, R129, R132, R141): a flit that stands in a slot at its destination station is ejected, its slot
travels on empty. A corrected error counts, a double-bit error poisons the payload, a header error removes the flit. -/
def execRingFlitArrival (r : Region) (f : Flit) (err : RingErr) (s : State) : Host.Outcome State Fault Refusal :=
  .next (s.when ((s.reg r).carries f.dst f && decide (f.type_ ≠ 6)) fun s =>
    let s1 := (s.modRingSlot r (flitLane f) f.dst fun x => { x with flit := none }).ringError r f.dst f.ring f.cw err
    if err = .hdr then s1 else s1.ejectFlit r f (f.poison || err = .ue))

/-! ### Reduction flits (R136, R137, R141) -/

/-- A RED flit at station `st` of region `r`, out of its slot: an index beyond the member's length stamps RED_MISMATCH; DEST takes
the flit; a contributor whose elements are staged adds them in the hop when it holds a credit onward, and the flit keeps its slot.
Otherwise the station captures it (R137, R141). -/
def State.redReach (s : State) (r st : Nat) (f : Flit) : State :=
  let b := 16 * r + st
  match s.redAt b f with
  | none => (s.bump Ctr.redCapture r).modReg r fun x => { x with captured := x.captured.mod [] st (· ++ [f]) }
  | some (g, d) =>
    if f.tag.toNat ≥ g.flits then (s.giveBack r st f).stamp 0x0303 b r
    else if redDest g.ext = st then (s.giveBack r st f).redTake b g d f
    else
      let f1 := s.redSum b g d f
      if (s.reg r).holdsCredit f1 then (((s.giveBack r st f).redAdded b g d f).takeCredit r f1).ride r st f1
      else (s.bump Ctr.redCapture r).modReg r fun x => { x with captured := x.captured.mod [] st (· ++ [f]) }

/-- RED_FLIT_ADD (R137, R141): a RED flit stands in a slot at a member of its group. -/
def execRedFlitAdd (r : Region) (stn : Fin 16) (f : Flit) (err : RingErr) (s : State) : Host.Outcome State Fault Refusal :=
  .next (s.when ((s.reg r).carries stn f && decide (f.dst = stn) && decide (f.type_ = 6)) fun s =>
    let s1 := (s.modRingSlot r (flitLane f) stn fun x => { x with flit := none }).ringError r stn f.ring f.cw err
    if err = .hdr then s1 else s1.redReach r stn { f with poison := f.poison || err = .ue })

/-- Captured flits of a station that need no onward slot go once their group has been posted: at DEST, or beyond the member's
length (R137, R141). -/
def State.redDrain (s : State) (r st : Nat) : State :=
  let b := 16 * r + st
  s.forEach ((s.reg r).captured.get [] st) fun f s =>
    match s.redAt b f with
    | some (g, _) =>
      s.when (decide (f.tag.toNat ≥ g.flits) || decide (redDest g.ext = st)) fun s =>
        (s.modReg r fun x => { x with captured := x.captured.mod [] st (·.erase f) }).redReach r st f
    | none => s

/-- RED_TIMEOUT (R141): a group not complete 100 us after its descriptor started at this member stamps
RED_TIMEOUT here. -/
def execRedTimeout (b : Block) (group : Nat) (s : State) : Host.Outcome State Fault Refusal :=
  .next (match (s.blk b).groups.get none group with
    | some g => s.when (s.elapsed g.startAt 100000 && decide (g.done < g.flits)) fun s => s.stamp 0x0304 b (regionOfBlock b)
    | none => s)

/-! ### Credits and reservations (R132, R133) -/

/-- RING_CREDIT_RETURN (R132): the CR fields of a slot that runs the other way have reached the sender, which holds one more credit
of the pool. -/
def execRingCreditReturn (r : Region) (k : CreditKey) (s : State) : Host.Outcome State Fault Refusal :=
  let lane := backLane (laneNo k.ring.val k.cw)
  .next (s.when (decide (((s.reg r).slotAt lane k.sender).credit = some (k.sender.val, k.vc.val, k.receiver.val))) fun s =>
    (s.modRingSlot r lane k.sender fun x => { x with credit := none }).modReg r fun x => { x with credits := x.credits.mod 0 (creditIx k) (· - 1) })

/-- Station `st` marks the slot that passes in a lane (R133). -/
def State.reserve (s : State) (r st lane : Nat) : State :=
  ((s.bump Ctr.ringRsv r).modRingSlot r lane st fun x => { x with rsv := some st }).modReg r fun x => { x with rsv := x.rsv + 2 ^ (8 * st + lane) }

/-- May the station mark the slot: a head has waited 16 beats with a credit, the slot has no mark, the station no other mark in the
lane (R133)? -/
def RegionSt.mayReserve (x : RegionSt) (st lane : Nat) : Bool :=
  decide (x.waits.get 0 (8 * st + lane) ≥ 16) && (x.slotAt lane st).rsv.isNone && !bit x.rsv (8 * st + lane)

/-- RING_RSV (R133): a head flit that has waited 16 beats with a credit marks the passing slot of the ring and direction. -/
def execRingRsv (r : Region) (stn : Fin 16) (ring : Fin 4) (cw : Bool) (s : State) : Host.Outcome State Fault Refusal :=
  .next (s.when ((s.reg r).mayReserve stn (laneNo ring cw)) fun s => s.reserve r stn (laneNo ring cw))

/-! ### VC0 (R131) -/

/-- Where a slot carries the message at the station that empties it. -/
def RegionSt.ctrlLane (x : RegionSt) (m : CtrlMsg) : Option (Nat × Nat) :=
  (x.slots.find? fun e => e.2.ctrl = some m && (m.broadcast || decide (e.1 % 16 = m.dst.val))).map fun e => (e.1 / 16, e.1 % 16)

/-- CONTROL_MESSAGE (R131): a VC0 message reaches its station. A parity error removes it and stamps RING_HDR. A message that a
slot carries tells what has acted at its source (DESIGN CHOICE, log 133); one from outside the blocks acts here: SIGNAL adds to a
token, ARRIVE arrives at a barrier, RELEASE releases the generation it names, EVENT is a notice. -/
def execControlMessage (r : Region) (m : CtrlMsg) (parityOk : Bool) (s : State) : Host.Outcome State Fault Refusal :=
  .next (match (s.reg r).ctrlLane m with
    | some (lane, st) =>
      let s1 := s.modRingSlot r lane st fun x => { x with ctrl := none }
      if parityOk then s1 else s1.ringError r st (lane / 2) (decide (lane % 2 = 0)) .hdr
    | none =>
      if !parityOk then s.ringError r m.dst 0 true .hdr
      else match m.kind with
        | 0 => s.signal r m.number m.count (16 * r.val + m.src.val)
        | 1 => s.arrive r m.number none
        | 2 => s.when (decide (m.gen.toNat = (s.bar r m.number).gen % 256)) fun s => s.releaseBar r m.number
        | _ => s)

/-- Stations at which a message leaves its subslot: its destination, or the last that a broadcast reaches, 8 CW and 7 CCW. -/
def ctrlEnd (m : CtrlMsg) (lane : Nat) : Nat :=
  if !m.broadcast then m.dst else if lane % 2 = 0 then (m.src.val + 8) % 16 else (m.src.val + 9) % 16

/-- A station fills its owned subslot with the oldest message that has still to go that way (R131); threads that wait for a VC0 place
are READY. -/
def State.sendCtrl (s : State) (r st lane : Nat) : State :=
  let way (o : CtrlOut) : Bool := if lane % 2 = 0 then o.cw else o.ccw
  let q := (s.reg r).vc0.get [] st
  match q.find? way with
  | some o =>
    s.when (((s.reg r).slotAt lane st).ctrl.isNone) fun s =>
      let o1 : CtrlOut := if lane % 2 = 0 then { o with cw := false } else { o with ccw := false }
      let q1 := (q.map fun x => if x = o then o1 else x).filter fun x => x.cw || x.ccw
      let s1 := (s.modRingSlot r lane st fun x => { x with ctrl := some o.msg }).modReg r fun x => { x with vc0 := x.vc0.set [] st q1 }
      s1.when (decide (q1.length < q.length)) fun s =>
        s.forEach ((List.range 16).flatMap fun k => (List.range 8).map fun t => (16 * (16 * r + st) + k, t)) fun w s =>
          s.when (decide ((s.thr w.1 w.2).waiting = .vc0)) fun s => s.modThr w.1 w.2 fun x => { x with state := .ready, waiting := .none }
  | none => s

/-! ### Injection (R86, R132-R134) -/

/-- A head that asks for a slot: VC, the flit as it would ride, and, for a captured RED flit, the flit as it came. -/
structure Head where
  vc : Nat
  flit : Flit
  came : Option Flit := none
  source : Nat := 2
deriving DecidableEq, Repr

/-- Head of a queue: the oldest flit of the next source in turn (R86). -/
def headOf (q : List Waiting) (last : Nat) : Option Waiting :=
  ((List.range 4).map fun i => (last + 1 + i) % 4).findSome? fun k => q.find? fun w => decide (w.source = k)

/-- The captured flit of a lane that a contributor can add to now (R137). -/
def State.capturedHead (s : State) (r st lane : Nat) : Option Head :=
  let b := 16 * r + st
  ((s.reg r).captured.get [] st).findSome? fun f =>
    if flitLane f = lane then
      match s.redAt b f with
      | some (g, d) => if redDest g.ext ≠ st ∧ f.tag.toNat < g.flits then some { vc := 1, flit := s.redSum b g d f, came := some f } else none
      | none => none
    else none

/-- Head of a VC at a station and lane: a captured RED flit before new ones (R134). -/
def State.head (s : State) (r st lane vc : Nat) : Option Head :=
  let x := s.reg r
  let fresh := (headOf (x.inject.get [] (queueNo st lane vc)) (x.lastSource.get 0 (queueNo st lane vc))).map fun w =>
    { vc := vc, flit := w.flit, source := w.source }
  if vc = 1 then match s.capturedHead r st lane with | some h => some h | none => fresh else fresh

/-- Heads of a station and lane, in the order VC1, VC2, VC3. -/
def State.heads (s : State) (r st lane : Nat) : List Head := [1, 2, 3].filterMap (s.head r st lane)

/-- The head that takes a slot: one passed over for 4 slots before the others, the lower VC first (R134). -/
def RegionSt.choose (x : RegionSt) (st lane : Nat) (hs : List Head) : Option Head :=
  match hs.find? fun h => decide (x.passed.get 0 (queueNo st lane h.vc) ≥ 4) with
  | some h => some h
  | none => hs.head?

/-- The chosen head rides: it takes its credit, its source has had its turn, a mark of the station is cleared, and the heads that
were passed over count it (R86, R132-R134). -/
def State.inject (s : State) (r st lane : Nat) (h : Head) (others : List Head) : State :=
  let n := queueNo st lane h.vc
  let s1 := match h.came with
    | some f =>
      let s1 := match s.redAt (16 * r + st) f with
        | some (g, d) => (s.giveBack r st f).redAdded (16 * r + st) g d f
        | none => s
      s1.modReg r fun x => { x with captured := x.captured.mod [] st (·.erase f) }
    | none =>
      let s1 := s.modReg r fun x => { x with
        inject := x.inject.mod [] n (·.erase { flit := h.flit, source := h.source })
        lastSource := x.lastSource.set 0 n h.source }
      if h.flit.type_ = 6 then s1.redDone (16 * r + st) h.flit.group.toNat else s1
  let s2 := s1.modReg r fun x => { x with
    passed := others.foldl (fun p o => p.mod 0 (queueNo st lane o.vc) (· + 1)) (x.passed.set 0 n 0)
    waits := x.waits.set 0 (8 * st + lane) 0 }
  let s3 := s2.when (decide (((s2.reg r).slotAt lane st).rsv = some st)) fun s =>
    (s.modRingSlot r lane st fun x => { x with rsv := none }).modReg r fun x => { x with rsv := x.rsv - 2 ^ (8 * st + lane) }
  (s3.takeCredit r h.flit).ride r st h.flit

/-- A station meets the slot of a lane (R132-R134): the chosen of the heads that hold a credit takes one that is empty and not
reserved to another station; otherwise they have waited one beat more, and after 16 a passing slot is marked. RING_HOLD shows a
head held for want of credit (R102). -/
def State.fillLane (s : State) (r st lane : Nat) : State :=
  let x := s.reg r
  let hs := (s.heads r st lane).filter fun h => x.holdsCredit h.flit
  let slot := x.slotAt lane st
  match x.choose st lane hs with
  | none => s.when (decide (x.waits.get 0 (8 * st + lane) ≠ 0)) fun s => s.modReg r fun x => { x with waits := x.waits.set 0 (8 * st + lane) 0 }
  | some h =>
    if slot.flit.isNone && (slot.rsv.isNone || slot.rsv = some st) then s.inject r st lane h (hs.filter fun o => decide (o.vc ≠ h.vc))
    else
      let s1 := s.modReg r fun x => { x with
        waits := x.waits.mod 0 (8 * st + lane) (· + 1)
        injWaitMax := x.injWaitMax.mod 0 st fun w => max w (min 511 (x.waits.get 0 (8 * st + lane) + 1)) }
      s1.when ((s1.reg r).mayReserve st lane) fun s => s.reserve r st lane

/-- A block injects at most one flit per ring and beat (R86); which direction of a ring comes first alternates with the beats
(DESIGN CHOICE, log 136). -/
def State.fillRing (s : State) (r st q : Nat) : State :=
  let d := (s.reg r).beats % 2
  let a := 2 * q + d
  let s1 := s.fillLane r st a
  if decide (((s.reg r).slotAt a st).flit = none) && ((s1.reg r).slotAt a st).flit.isSome then s1 else s1.fillLane r st (2 * q + (1 - d))

/-- Is a head of the block held for want of credit? -/
def State.heldForCredit (s : State) (r st : Nat) : Bool :=
  (List.range 8).any fun lane => (s.heads r st lane).any fun h => !(s.reg r).holdsCredit h.flit

/-! ### One beat of the rings (R125) -/

/-- Is there nothing on the rings of the region and nothing that waits for them? -/
def RegionSt.quiet (x : RegionSt) : Bool :=
  x.slots.isEmpty && x.inject.isEmpty && x.creditBack.isEmpty && x.captured.isEmpty && x.vc0.isEmpty && x.seam.queue.isEmpty &&
  x.seam.held.isEmpty && x.stn.queue.isEmpty && x.stn.held.isEmpty

/-- What stands at its station in a slot is taken: a flit, a credit, a message (R126, R131, R132). -/
def State.takeSlot (s : State) (r lane st : Nat) : State :=
  let x := (s.reg r).slotAt lane st
  let s1 := match x.flit with
    | some f => s.when (decide (f.dst.val = st)) fun s =>
        let s1 := s.modRingSlot r lane st fun x => { x with flit := none }
        if f.type_ = 6 then s1.redReach r st f else s1.ejectFlit r f f.poison
    | none => s
  let s2 := match x.credit with
    | some (dst, vc, from_) => s1.when (decide (dst = st)) fun s =>
        (s.modRingSlot r lane st fun x => { x with credit := none }).modReg r fun y => { y with
          credits := y.credits.mod 0 (creditIx { sender := Fin.ofNat 16 dst, receiver := Fin.ofNat 16 from_, ring := Fin.ofNat 4 (lane / 2),
                                                 cw := decide (lane % 2 = 1), vc := Fin.ofNat 4 vc }) (· - 1) }
    | none => s1
  match x.ctrl with
  | some m => s2.when (decide (ctrlEnd m lane = st)) fun s => s.modRingSlot r lane st fun x => { x with ctrl := none }
  | none => s2

/-- The oldest credit that a station has to return rides in a slot without one (R132). -/
def State.sendCredit (s : State) (r lane st : Nat) : State :=
  match (s.reg r).creditBack.get [] (8 * st + lane) with
  | c :: rest => s.when (((s.reg r).slotAt lane st).credit.isNone) fun s =>
      (s.modRingSlot r lane st fun x => { x with credit := some (c.1, c.2, st) }).modReg r fun x =>
        { x with creditBack := x.creditBack.set [] (8 * st + lane) rest }
  | [] => s

/-- Station at which the slot that stands at `st` stands in the next beat (R125). -/
def nextStation (lane st : Nat) : Nat := if lane % 2 = 0 then (st + 1) % 16 else (st + 15) % 16

/-- Every slot advances one station (R125). -/
def RegionSt.advance (x : RegionSt) : RegionSt :=
  { x with slots := x.slots.foldl (fun t e => t.set {} (16 * (e.1 / 16) + nextStation (e.1 / 16) (e.1 % 16)) e.2) [] }

/-- A word leaves the crossing at its far end (R127, R152): out of the seam it enters the other half's rings at the tap nearer its
block, while neither half is PARKED; through the Skein station its packet has gone. What the gateway held moves up, and its
credit goes back, unless the crossing holds credits (R153). -/
def State.gatePass (s : State) (r port : Nat) : State :=
  let x := (s.reg r).crossing port
  let s1 := match x.queue with
    | f :: rest =>
      let s1 := s.modGate r port fun x => { x with queue := rest }
      let r2 := if r % 2 = 0 then r + 1 else r - 1
      let open_ := decide (port = 2) && s.answers 0 (r * 268435456) && s.answers 0 (r2 * 268435456)
      s1.when open_ fun s =>
        let dst := blockOfSram f.addr.toNat % 16
        let tap := inTap 2 dst
        s.queueFlit r2 3 { flitOf tap dst 2 0 f.vc.val f.type_ f.tag.toNat with
                           last := f.last, poison := f.poison, gen := f.gen, addr := f.addr, bytes := f.bytes, data := f.data }
    | [] => s
  let y := (s1.reg r).crossing port
  match y.held with
  | f :: rest => s1.when (!y.hold && decide (y.queue.length < 16)) fun s =>
      (s.modGate r port fun x => { x with queue := x.queue ++ [f], held := rest }).giveBack r f.dst f
  | [] => s1

/-- One beat of the rings of a region: what has reached its station is taken, captured flits and crossings move on, stations fill
the slots that stand with them, and every slot advances. -/
def State.ringBeat (s : State) (r : Nat) : State :=
  if (s.reg r).quiet then s
  else
    let places := (s.reg r).slots.map fun e => (e.1 / 16, e.1 % 16)
    let s1 := s.forEach places fun p s => s.takeSlot r p.1 p.2
    let s2 := (s1.forEach (List.range 16) fun st s => s.redDrain r st).forEach [1, 2] fun port s => s.gatePass r port
    let s3 := s2.forEach ((List.range 8).flatMap fun lane => (List.range 16).map fun st => (lane, st)) fun p s => s.sendCredit r p.1 p.2
    let s4 := s3.forEach ((List.range 4).flatMap fun q => (List.range 16).map fun st => (q, st)) fun p s =>
      (s.fillRing r p.2 p.1).when (decide ((s.reg r).beats % 16 = 4 * p.1)) fun s => (s.sendCtrl r p.2 (2 * p.1)).sendCtrl r p.2 (2 * p.1 + 1)
    (s4.forEach (List.range 16) fun st s => s.when (decide ((s.blk (16 * r + st)).ringHold ≠ s.heldForCredit r st)) fun s =>
      s.modBlk (16 * r + st) fun b => { b with ringHold := s.heldForCredit r st }).modReg r RegionSt.advance

end Sys2Proof.Machine
end

