-- ==== Sys2Proof/Machine/Security.lean ====
section
/-! DEFINITION. Identity and security: status, attestation, firmware update and recovery, the test-access fuse, board management
(chapter 23). -/

namespace Sys2Proof.Machine

/-! ### SEC.STAT (R446) -/

/-- Is the TEST_LOCK fuse blown on either die (R443)? -/
def State.locked (s : State) : Bool := s.fuse.testLock.a || s.fuse.testLock.b

/-- The fuse count: the higher of both dies. -/
def State.svnFuse (s : State) : Nat := max s.fuse.svn.a s.fuse.svn.b

/-- The slot that runs. -/
def State.runningFw (s : State) : FwSlot := s.sec.fw.get s.sec.running

/-- SEC.STAT. Before the first bring-up it shows the fuses alone. -/
def State.secStat (s : State) : Word :=
  if s.mod.bringupDue then pack [(13, 6, s.svnFuse), (0, 1, s.locked.toNat)] else
  pack [(32, 32, s.fwVersion.toNat), (19, 13, s.conf.active.settings.trust.length), (13, 6, s.svnFuse), (4, 1, s.sec.debugUsed.toNat),
    (3, 1, s.claimed.toNat), (2, 1, (decide (s.runningFw.state = .trial)).toNat), (1, 1, s.sec.running.val), (0, 1, s.locked.toNat)]

/-- SEC_STATUS (R446). -/
def execSecStatus (c : Cmd) (s : State) : Host.Outcome State Fault Refusal :=
  .next (selkan { op := 0x0901, inHeld := true } c {} (fun s => s.done c .ok (result [(16, 8, s.secStat.toNat)])) s)

/-! ### Attestation (R440) -/

/-- Words `i` to `i + n` - 1 of what only the identity engine and the factory hold (DESIGN CHOICE, log 47). -/
def identityBytes (nonce : BitVec 256) (i n : Nat) : List Byte := (List.range n).flatMap fun k => leBytes 8 (Config.identity nonce 0 (i + k)).toNat

/-- The device certificate: identity key, serial, order, and the factory's signature. -/
def State.certificate (s : State) : List Byte :=
  identityBytes 0 0 4 ++ leBytes 4 s.fuse.serial.toNat ++ leBytes 1 s.fuse.order ++ leBytes 27 0 ++ identityBytes 0 4 8

/-- Sixty-four bytes of SHA-512 of the running image. -/
def State.fwDigestBytes (s : State) : List Byte := (List.range 8).flatMap fun i => leBytes 8 (Config.fwDigest s.fwVersion i).toNat

/-- STATE of a report. -/
def State.attestState (s : State) : Nat :=
  bitsOf [s.claimed, decide (s.mod.state = .held), decide (s.runningFw.state = .trial), s.sec.debugUsed]

/-- Bytes 0 to 383 of a report. -/
def State.reportBody (s : State) (nonce : List Byte) : List Byte :=
  leBytes 4 0x4A584154 ++ leBytes 2 1 ++ leBytes 1 s.locked.toNat ++ leBytes 1 s.attestState ++ leBytes 4 s.fuse.serial.toNat ++ leBytes 1 s.fuse.order ++
    leBytes 1 s.fuse.ioRev ++ leBytes 2 s.conf.inForce.node.toNat ++ leBytes 4 s.fwVersion.toNat ++ leBytes 4 s.svnFuse ++
    leBytes 4 s.conf.active.version.toNat ++ leBytes 4 (s.lifeS / 3600) ++ leBytes 8 s.time.lea.toNat ++ nonce ++
    s.fwDigestBytes ++ sha512 s.conf.active.bytes ++
    ((List.range 19).flatMap fun d => leBytes 1 (s.fuse.dieRev.get 0 d)) ++ leBytes 5 0 ++ identityBytes 0 0 4 ++ s.certificate

/-- ATTEST (R440): the report, signed; ATTEST_DONE advances for each. -/
def execAttest (c : Cmd) (w : HostWr) (s : State) : Host.Outcome State Fault Refusal :=
  .next (selkan { op := 0x0902, named := [(16, 55)], long := true, inHeld := true } c {} (fun s =>
    let nonce := leBytes 32 (c.field s 16 32)
    { s with free := s.free + 8 }.writeHostOut c (c.field s 48 8) (s.reportBody nonce ++ freeBytes s.free 64) w fun s => s.bump Ctr.attestDone) s)

/-! ### Firmware (R434-R438) -/

/-- Largest image. -/
def fwMax : Nat := 16777216

/-- The image that FW_UPDATE names; none when it cannot be read. -/
def State.fwImage (s : State) (c : Cmd) : Option (List Byte) :=
  let n := c.field s 24 4
  if n < 256 ∨ n > fwMax then none else readSpace s (c.port s) (c.field s 28 1) (c.field s 16 8) n

/-- Does the header of an image hold, its signatures apart (R434): the right header, SVN not below the fuse count, MIN_IO_REV not above
the dies' revision? -/
def State.fwHeaderOk (s : State) (img : List Byte) : Bool :=
  decide (imageField img 0 4 = 0x4A584657) && decide (imageField img 4 2 = 1) && decide (imageField img 16 4 = img.length) &&
    decide (1 ≤ imageField img 8 4) && decide (imageField img 12 4 ≤ 63) && decide (s.svnFuse ≤ imageField img 12 4) && decide (imageField img 6 1 ≤ s.fuse.ioRev)

/-- First wrong byte of FW_UPDATE: the entry when the image cannot be read, the digest, or the address of an image whose VERSION does
not exceed both slots'. -/
def State.fwBad (s : State) (c : Cmd) (sigOk : Bool) : Option Nat :=
  let n := c.field s 24 4
  if n < 256 ∨ n > fwMax then some 24
  else if c.field s 28 1 > 1 then some 28
  else match s.fwImage c with
    | none => some 16
    | some img =>
      if sha512 img ≠ leBytes 64 (c.field s 32 64) then some 32
      else if sigOk ∧ s.fwHeaderOk img ∧ imageField img 8 4 ≤ max (s.sec.fw.get 0).version.toNat (s.sec.fw.get 1).version.toNat then some 16
      else none

/-- Write an image into a slot of both dies: TRIAL. -/
def State.writeFw (s : State) (k : Fin 2) (version : BitVec 32) (svn : Nat) : State :=
  let s1 := (s.modFw k fun _ => { state := .trial, version := version, svn := svn }).modStores fun x => { x with trialBoots := 0 }
  { s1 with sec := { s1.sec with trialBoots := 0 } }

/-- FW_UPDATE (R438): digest, signatures and VERSION in that order; then the slot that does not run, which becomes preferred. `sig` is
the verdict on the command's signature, `fw` that on the image's two. -/
def execFwUpdate (c : Cmd) (sig : Bool) (fw : FwRead) (s : State) : Host.Outcome State Fault Refusal :=
  let img := (s.fwImage c).getD []
  let signed := s.signedBy c 1 sig && fw.sigOk
  let n := c.field s 24 4
  .next (selkan { op := 0x0903, named := [(16, 28), (32, 95)], long := true, noJob := true, nvm := true, blockForm := true } c
    { bad := s.fwBad c fw.sigOk, needSig := true, sigOk := signed && s.fwHeaderOk img, quiet := signed
      reads := if c.field s 28 1 = 1 then some (c.field s 16 8, n) else none } (fun s =>
    let k := other s.sec.running
    let v := BitVec.ofNat 32 (imageField img 8 4)
    let s1 := s.writeFw k v (imageField img 12 4)
    ({ s1 with sec := { s1.sec with preferred := k } }).done c .ok (result [(16, 4, v.toNat)])) s)

/-- Does an image that came over SMBus verify (R434)? -/
def State.fwVerifies (s : State) (fw : FwRead) : Bool :=
  fw.digestOk && fw.sigOk && decide (s.svnFuse ≤ fw.svn) && decide (fw.minIoRev ≤ s.fuse.ioRev)

/-- RECOVERY_IMAGE (R437): on a die in recovery, inside the windows of R399, slot 0 takes the image in TRIAL and is booted. -/
def execRecoveryImage (d : IoDie) (fw : FwRead) (s : State) : Host.Outcome State Fault Refusal :=
  .next (if !s.sec.recovery.get d || !s.nvmOpen || !s.pow.supply.on then s
    else
      let s1 := s.writeFw 0 fw.version fw.svn
      if s.fwVerifies fw then
        { s1 with sec := { s1.sec with recovery := s1.sec.recovery.set d false, running := if s.spin.claim.isNone then 0 else s1.sec.running } }.modSp d fun x =>
          { x with state := .boot, bootFrom := s.time.lea, passed := none, lapses := 0 }
      else { s1.modFw 0 fun x => { x with state := .bad } with sec := { (s1.modFw 0 fun x => { x with state := .bad }).sec with failedSlot := outcomeWith s1.sec.failedSlot 0 } })

/-! ### Test access (R443, R444) -/

/-- TEST_LOCK (R443): the fuse of each die that is present. -/
def execTestLock (c : Cmd) (sig : Bool) (s : State) : Host.Outcome State Fault Refusal :=
  .next (selkan { op := 0x0904, long := true, noJob := true, nvm := true, blockForm := true } c { needSig := true, sigOk := s.signedBy c 1 sig } (fun s =>
    let f : Two Bool := ⟨s.fuse.testLock.a || s.spin.present.a, s.fuse.testLock.b || s.spin.present.b⟩
    ({ s with fuse := { s.fuse with testLock := f } }).done c .ok) s)

/-- DEBUG_MAILBOX (R443, R444): DENIED once the fuse is blown. What the debug path answers is not given (DESIGN CHOICE, log 65). -/
def execDebugMailbox (c : Cmd) (s : State) : Host.Outcome State Fault Refusal :=
  .next (selkan { op := 0x0905, named := [(16, 63)], noJob := true } c { denied := s.locked } (fun s =>
    let r : BitVec 128 := BitVec.ofNat 128 ((Config.word s.free).toNat + 2 ^ 64 * (Config.word (s.free + 1)).toNat)
    ({ s with sec := { s.sec with debugUsed := true }, free := s.free + 2 }).done c .ok r) s)

/-! ### Board management (R445) -/

/-- Answer to a request (R445). A die in recovery answers MCTP control and firmware update alone (R437); otherwise a firmware update is
refused, as is what would change state. -/
def State.bmcAnswer (s : State) (d : IoDie) (q : BmcReq) : BmcAnswer :=
  if !s.spin.present.get d || s.pow.supply = .off then .silent
  else match q, s.sec.recovery.get d with
    | .control, _ => .control
    | .firmware, true => .update
    | _, true => .silent
    | .sensors, false => .sensors s.pow.watts ((List.range 19).map fun k => if k = 18 then s.skeinDie.tempC else (s.die k).tempC) s.mod.state.code
    | .spdm, false => .spdm s.certificate s.fwDigestBytes (sha512 s.conf.active.bytes)
    | .firmware, false | .change, false => .refused

/-- SMBUS_REQUEST (R445): board management reads the module and never changes it (DESIGN CHOICE, log 117). -/
def execSmbusRequest (d : IoDie) (q : BmcReq) (s : State) : Host.Outcome State Fault Refusal :=
  .next { s with sec := { s.sec with bmc := s.sec.bmc.set d (s.bmcAnswer d q) } }

end Sys2Proof.Machine
end

