-- ==== Sys2Proof/Machine/Telemetry.lean ====
section
/-! DEFINITION. NOP and MODULE_STATUS, snapshots of the statistics counters, telemetry streams, and the commands of the
record stores (chapters 16 and 24). -/

namespace Sys2Proof.Machine

/-- NOP (R345). -/
def execNop (c : Cmd) (s : State) : Host.Outcome State Fault Refusal :=
  .next (selkan { op := 0x0100, inHeld := true } c {} (fun s => s.done c .ok (result [(16, 8, s.time.lea.toNat)])) s)

/-- MODULE.CAP (R316). -/
def State.capWord (s : State) : Word := pack [(0, 4, s.fuse.caps), (32, 16, 0x0800), (48, 8, 0x0E)]

/-- MODULE_STATUS (R345): MODULE.STATE and MODULE.CAP. -/
def execModuleStatus (c : Cmd) (s : State) : Host.Outcome State Fault Refusal :=
  .next (selkan { op := 0x0101, inHeld := true } c {} (fun s =>
    s.done c .ok (result [(16, 8, s.moduleState.toNat), (24, 8, s.capWord.toNat)])) s)

/-! ### Tensor guard slots (R66) -/

/-- COUNTERS.TG_AMAX. -/
def Guard.amaxWord (g : Guard) : Word := pack [(0, 32, g.amax), (32, 1, g.nanSeen.toNat), (33, 1, g.infSeen.toNat)]

/-- COUNTERS.TG_AMAX_HIST. -/
def Guard.histWord (g : Guard) : Word :=
  pack [(0, 32, g.hist.foldl max 0), (32, 4, g.depth), (36, 5, g.hist.length), (41, 1, g.fallback.toNat)]

/-- COUNTERS.TG_STATE. -/
def Guard.stateWord (g : Guard) : Word :=
  pack [(0, 1, g.valid.toNat), (1, 1, g.amaxEn.toNat), (2, 1, g.delayed.toNat), (3, 2, g.margin), (32, 32, g.job.toNat)]

/-! ### Snapshots (R449) -/

/-- End of the live addresses of a counter group. -/
def ctrEnd (g : Nat) : Nat := if g = 15 then 0x01840000 else if g = 11 then 0x010F0000 else ctrBase (g + 1)

/-- Does the live address belong to the group? -/
def inGroup (g a : Nat) : Bool := decide (ctrBase g ≤ a) && decide (a < ctrEnd g)

/-- Counter groups that a mask may name (R449). -/
def ctrGroups : List Nat := [0, 1, 2, 3, 4, 5, 6, 7, 8, 9, 10, 11, 15]

/-- Groups of a mask. -/
def maskGroups (m : Nat) : List Nat := ctrGroups.filter fun g => bit m g

/-- First byte of the mask that holds a bit it may not use. -/
def groupMaskBad (m : Nat) : Option Nat := ((List.range 64).find? fun k => bit m k && !ctrGroups.contains k).map fun k => 16 + k / 8

/-- The registers of a slot that are no counters. -/
def guardShadow (t : Tab Word) (i : Nat) (g : Guard) : Tab Word :=
  ((t.set 0 (ctrBase 15 + 64 * i + 0x28) g.amaxWord).set 0 (ctrBase 15 + 64 * i + 0x30) g.histWord).set 0 (ctrBase 15 + 64 * i + 0x38) g.stateWord

/-- Copy a group to its shadows, each listed under the live address it copies. -/
def State.capture (s : State) (g : Nat) : State :=
  let t0 : Tab Word := s.obs.shadows.filter fun e => !inGroup g e.1
  let t1 : Tab Word := (s.obs.counters.filter fun e => inGroup g e.1).foldl (fun t e => t.set 0 e.1 (ctrWord e.2)) t0
  let t2 : Tab Word := if g = 15 then s.guard.foldl (fun t e => guardShadow t e.1 e.2) t1 else t1
  { s with obs := { s.obs with shadows := t2 } }

/-- Set the counters of a group to 0. -/
def State.clearGroup (s : State) (g : Nat) : State :=
  { s with obs := { s.obs with counters := s.obs.counters.filter fun e => !inGroup g e.1 } }

/-- SNAPSHOT (R449). -/
def execSnapshot (c : Cmd) (s : State) : Host.Outcome State Fault Refusal :=
  let m := c.field s 16 8
  .next (selkan { op := 0x0A01, named := [(16, 23)], inHeld := true } c { bad := groupMaskBad m } (fun s =>
    (s.forEach (maskGroups m) fun g s => s.capture g).done c .ok (result [(16, 8, s.time.lea.toNat)])) s)

/-- SNAPSHOT_CLEAR (R449). -/
def execSnapshotClear (c : Cmd) (s : State) : Host.Outcome State Fault Refusal :=
  let m := c.field s 16 8
  .next (selkan { op := 0x0A02, named := [(16, 23)], inHeld := true } c { bad := groupMaskBad m } (fun s =>
    (s.forEach (maskGroups m) fun g s => (s.capture g).clearGroup g).done c .ok (result [(16, 8, s.time.lea.toNat)])) s)

/-! ### Telemetry streams (R452, R453) -/

/-- Shortest period of a stream, µs. -/
def streamMin (k : Nat) : Nat := [10, 100, 10, 10000, 100].getD k 0

/-- Size of a sample, bytes. -/
def streamSize (k : Nat) : Nat := [64, 128, 128, 1024, 2048].getD k 0

/-- First parameter byte of TELEMETRY_START that is wrong: the stream, its period, its buffer. A module whose
capability fuse for the congestion map is absent has no stream CMAP (R12). An HBM buffer lies within
HBM. -/
def streamBad (cmap : Bool) (k period target : Nat) : Option Nat :=
  if k > 4 ∨ k = 2 ∧ cmap = false then some 16
  else if period < streamMin k ∨ period > 10000000 then some 20
  else if target % 65536 ≠ 0 then some 24
  else if bit target 63 && decide (target % 2 ^ 63 + 65536 > hbmBytes) then some 24
  else none

/-- TELEMETRY_START (R452, R453). -/
def execTelemetryStart (c : Cmd) (s : State) : Host.Outcome State Fault Refusal :=
  let k := c.field s 16 1
  let period := c.field s 20 4
  let target := c.field s 24 8
  .next (selkan { op := 0x0A03, named := [(16, 16), (20, 31)] } c { bad := streamBad s.fuse.cmap k period target } (fun s =>
    let x : Stream := { running := true, periodUs := period, target := BitVec.ofNat 64 target, port := c.port s }
    { s with obs := { s.obs with streams := s.obs.streams.set {} k x } }.done c .ok) s)

/-- TELEMETRY_STOP (R345). -/
def execTelemetryStop (c : Cmd) (s : State) : Host.Outcome State Fault Refusal :=
  let k := c.field s 16 1
  .next (selkan { op := 0x0A04, named := [(16, 16)], inHeld := true } c { bad := if k > 4 then some 16 else none } (fun s =>
    { s with obs := { s.obs with streams := s.obs.streams.mod {} k fun x => { x with running := false } } }.done c .ok) s)

/-- A signed value as two bytes. -/
def int16Bytes (i : Int) : List Byte := leBytes 2 (BitVec.ofInt 16 i).toNat

/-- TEMP_C of POWER.DIE[d]. -/
def State.dieTemp (s : State) (d : Nat) : Nat := if d = 18 then s.skeinDie.tempC else (s.die d).tempC

/-- SKEIN_BELOW_C of POWER.DIE[d]. -/
def State.dieSkein (s : State) (d : Nat) : Nat := if d = 18 then s.skeinDie.skeinC else (s.die d).skeinC

/-- STATE of SKEIN.LOOP_HEALTH. -/
def LoopState.code : LoopState → Nat
  | .dark => 0 | .locking => 1 | .active => 2 | .advisory => 3 | .withdrawn => 4

/-- One loop's four bytes of a LOOPS sample. -/
def State.loopSample (s : State) (n : Nat) : List Byte :=
  let x := s.skein.loop.get {} n
  leBytes 1 x.berLog ++ leBytes 1 x.state.code ++ int16Bytes (((s.light.loop.get {} n).average).getD 0)

/-- Body of a sample after its header. Units without power read 0 in HELD. -/
def State.sampleBody (s : State) (k : Nat) : List Byte :=
  match k with
  | 0 => leBytes 8 s.powerInput.toNat ++ leBytes 8 s.powerStat.toNat ++ (List.range 19).flatMap fun d => leBytes 1 (s.dieTemp d)
  | 1 => ((List.range 19).flatMap fun d => leBytes 1 (s.dieTemp d) ++ leBytes 1 (s.dieSkein d)) ++
      (List.range 16).flatMap fun k => leBytes 1 (s.stk k).tempC ++ leBytes 1 (s.stk k).skeinC
  | 2 => match s.reel.cmap.head? with
    | some x => x.2.flatMap fun v => leBytes 1 v
    | none => []
  | 3 => if s.mod.state = .held then [] else (List.range 128).flatMap s.loopSample
  | 4 => if s.mod.state = .held then [] else (List.range 1024).flatMap fun i => leBytes 1 (s.plyPort i).predLog
  | _ => []

/-- A sample: its 16-byte header, its body, and zeros up to its size. -/
def State.sample (s : State) (k : Nat) (x : Stream) : List Byte :=
  let b := leBytes 1 k ++ leBytes 1 x.skipped.toNat ++ leBytes 2 (streamSize k) ++ leBytes 4 x.sseq.toNat ++
    leBytes 8 s.time.lea.toNat ++ s.sampleBody k
  (b ++ List.replicate (streamSize k - b.length) 0).take (streamSize k)

/-- Write a sample into the stream's buffer. HBM without power takes none. -/
def State.writeSample (s : State) (x : Stream) (bs : List Byte) (offset : Nat) : State :=
  if x.target.msb then
    if s.mod.state = .held then s else s.storeHbm (x.target.toNat % 2 ^ 63 + offset) bs
  else { s with mems := s.mems.writeHost x.port (x.target.toNat + offset) bs }

/-- TELEMETRY_SAMPLE (R452, R453): stream `k` is due. `late`: the write of the sample before has not completed, so this one
is skipped. -/
def execTelemetrySample (k : Nat) (late : Bool) (s : State) : Host.Outcome State Fault Refusal :=
  let x := s.obs.streams.get {} k
  let put (y : Stream) (s : State) : State := { s with obs := { s.obs with streams := s.obs.streams.set {} k y } }
  .next (if !x.running || !s.powered || decide (s.time.lea.toNat % (1000 * x.periodUs) ≠ 0) then s
    else if late then (put { x with sseq := x.sseq + 1, skipped := true } s).bump Ctr.telemSkip
    else put { x with sseq := x.sseq + 1, skipped := false } (s.writeSample x (s.sample k x) (x.sseq.toNat * streamSize k % 65536)))

/-! ### Record stores (R454, R455, R458) -/

/-- One secondary cause of a record. -/
def secBytes (x : Nat × Nat × Lea) : List Byte := leBytes 4 x.1 ++ leBytes 4 x.2.1 ++ leBytes 8 x.2.2.toNat

/-- A list of bytes cut or padded with zeros to a length. -/
def fit (n : Nat) (bs : List Byte) : List Byte := (bs ++ List.replicate (n - bs.length) 0).take n

/-- The 508 bytes of copy 0 of a record that its CHECK covers (R455). -/
def Rec.body (r : Rec) : List Byte :=
  leBytes 4 0x4A585243 ++ leBytes 2 1 ++ leBytes 1 r.kind ++ leBytes 1 (bitsOf [false, r.acked, r.cleared, r.sole]) ++
  leBytes 4 r.rseq.toNat ++ leBytes 4 r.job.toNat ++ leBytes 8 r.stamp.toNat ++ leBytes 4 r.cause ++ leBytes 4 r.index ++
  leBytes 4 r.secondaries ++ leBytes 4 0 ++ fit 112 (r.secondary.flatMap secBytes) ++ fit 352 r.context ++ leBytes 4 0

/-- A record's 512 bytes. -/
def Rec.bytes (r : Rec) : List Byte := r.body ++ leBytes 4 (crc32 r.body)

/-- Put a record in its place by RSEQ (R157). -/
def insertRec (r : Rec) : List Rec → List Rec
  | [] => [r]
  | x :: xs => if before32 r.rseq x.rseq then r :: x :: xs else x :: insertRec r xs

/-- The records of a store in RSEQ order. -/
def Store.ordered (x : Store) : List Rec := (x.pairs.filterMap (·.2)).foldl (fun l r => insertRec r l) []

/-- The RECORD_READ report: a header copy, whose layout the manual does not give, then the records (R458). -/
def State.recordReport (s : State) (d : IoDie) : List Byte :=
  freeBytes s.free 512 ++ (s.obs.store.get d).ordered.flatMap Rec.bytes

/-- RECORD_READ (R458): the store of die [16], to host address [31:24]. -/
def execRecordRead (c : Cmd) (w : HostWr) (s : State) : Host.Outcome State Fault Refusal :=
  let d := c.field s 16 1
  let die : IoDie := if d = 1 then 1 else 0
  .next (selkan { op := 0x0A05, named := [(16, 16), (24, 31)], long := true, inHeld := true } c
    { bad := if d > 1 then some 16 else none, state := !s.spin.present.get die } (fun s =>
    { s with free := s.free + 64 }.writeHostOut c (c.field s 24 8) (s.recordReport die) w) s)

/-- A record that RECORD_CLEAR reaches: at or before the RSEQ given, and no unacknowledged SHUTDOWN record. -/
def Rec.clear (r : Rec) (n : BitVec 32) : Rec :=
  if (r.rseq = n ∨ before32 r.rseq n = true) ∧ ¬(r.kind = 3 ∧ r.acked = false) then { r with cleared := true } else r

/-- RECORD_CLEAR on one store, which a lost I/O die does not write. -/
def Store.clearTo (x : Store) (here : Bool) (n : BitVec 32) : Store :=
  if here then { x with pairs := x.pairs.map fun e => (e.1, e.2.map fun r => r.clear n) } else x

/-- RECORD_CLEAR (R458): RSEQ in [19:16]. -/
def execRecordClear (c : Cmd) (s : State) : Host.Outcome State Fault Refusal :=
  .next (selkan { op := 0x0A06, named := [(16, 19)], long := true, nvm := true, inHeld := true } c {} (fun s =>
    let n := BitVec.ofNat 32 (c.field s 16 4)
    { s with obs := { s.obs with store := ⟨s.obs.store.a.clearTo s.spin.present.a n, s.obs.store.b.clearTo s.spin.present.b n⟩ } }.done c .ok) s)

end Sys2Proof.Machine
end

