-- ==== Sys2Proof/Machine/Dispatch.lean ====
section
/-! DEFINITION. The dispatch: one arm per command, each one direct call of its meaning. -/

namespace Sys2Proof.Machine

/-- The effect of a command on everything but the queue. -/
def exec (i : Instr) (s : State) : Host.Outcome State Fault Refusal :=
  match i with
  | .nop c => Sys2Proof.Machine.execNop c s
  | .moduleStatus c => Sys2Proof.Machine.execModuleStatus c s
  | .moduleReset c b snap => Sys2Proof.Machine.execModuleReset c b snap s
  | .queueCreate c => Sys2Proof.Machine.execQueueCreate c s
  | .queueDelete c => Sys2Proof.Machine.execQueueDelete c s
  | .configStage c set sig => Sys2Proof.Machine.execConfigStage c set sig s
  | .configApply c sig recheck => Sys2Proof.Machine.execConfigApply c sig recheck s
  | .configRollback c => Sys2Proof.Machine.execConfigRollback c s
  | .configRead c w => Sys2Proof.Machine.execConfigRead c w s
  | .jobOpen c => Sys2Proof.Machine.execJobOpen c s
  | .loadImage c => Sys2Proof.Machine.execLoadImage c s
  | .unloadImage c => Sys2Proof.Machine.execUnloadImage c s
  | .launch c => Sys2Proof.Machine.execLaunch c s
  | .jobClear c rr => Sys2Proof.Machine.execJobClear c rr s
  | .jobAbort c => Sys2Proof.Machine.execJobAbort c s
  | .reelRegister c => Sys2Proof.Machine.execReelRegister c s
  | .reelDeregister c => Sys2Proof.Machine.execReelDeregister c s
  | .sharerGroupSet c => Sys2Proof.Machine.execSharerGroupSet c s
  | .mcastGroupSet c => Sys2Proof.Machine.execMcastGroupSet c s
  | .reelInvalidate c => Sys2Proof.Machine.execReelInvalidate c s
  | .reelKeyRotate c => Sys2Proof.Machine.execReelKeyRotate c s
  | .creelStatus c => Sys2Proof.Machine.execCreelStatus c s
  | .tableLoad c => Sys2Proof.Machine.execTableLoad c s
  | .tableUnload c => Sys2Proof.Machine.execTableUnload c s
  | .tableStart c tr => Sys2Proof.Machine.execTableStart c tr s
  | .tableStop c => Sys2Proof.Machine.execTableStop c s
  | .fence c => Sys2Proof.Machine.execFence c s
  | .unfence c => Sys2Proof.Machine.execUnfence c s
  | .loopWithdraw c => Sys2Proof.Machine.execLoopWithdraw c s
  | .requalify c q => Sys2Proof.Machine.execRequalify c q s
  | .reelStatus c => Sys2Proof.Machine.execReelStatus c s
  | .routeLoad c => Sys2Proof.Machine.execRouteLoad c s
  | .routeSwap c => Sys2Proof.Machine.execRouteSwap c s
  | .portSet c => Sys2Proof.Machine.execPortSet c s
  | .portRetrain c => Sys2Proof.Machine.execPortRetrain c s
  | .leaStep c => Sys2Proof.Machine.execLeaStep c s
  | .powerStatus c => Sys2Proof.Machine.execPowerStatus c s
  | .powerCapSet c => Sys2Proof.Machine.execPowerCapSet c s
  | .regionPark c => Sys2Proof.Machine.execRegionPark c s
  | .regionUnpark c => Sys2Proof.Machine.execRegionUnpark c s
  | .thermalAck c b => Sys2Proof.Machine.execThermalAck c b s
  | .calStatus c => Sys2Proof.Machine.execCalStatus c s
  | .calSave c w => Sys2Proof.Machine.execCalSave c w s
  | .calRestore c snap => Sys2Proof.Machine.execCalRestore c snap s
  | .ageingRead c w => Sys2Proof.Machine.execAgeingRead c w s
  | .lightCommission c pw => Sys2Proof.Machine.execLightCommission c pw s
  | .lightReturn c => Sys2Proof.Machine.execLightReturn c s
  | .secStatus c => Sys2Proof.Machine.execSecStatus c s
  | .attest c w => Sys2Proof.Machine.execAttest c w s
  | .fwUpdate c sig fw => Sys2Proof.Machine.execFwUpdate c sig fw s
  | .testLock c sig => Sys2Proof.Machine.execTestLock c sig s
  | .debugMailbox c => Sys2Proof.Machine.execDebugMailbox c s
  | .snapshot c => Sys2Proof.Machine.execSnapshot c s
  | .snapshotClear c => Sys2Proof.Machine.execSnapshotClear c s
  | .telemetryStart c => Sys2Proof.Machine.execTelemetryStart c s
  | .telemetryStop c => Sys2Proof.Machine.execTelemetryStop c s
  | .recordRead c w => Sys2Proof.Machine.execRecordRead c w s
  | .recordClear c => Sys2Proof.Machine.execRecordClear c s
  | .cardingRun c => Sys2Proof.Machine.execCardingRun c s
  | .cardingResult c w => Sys2Proof.Machine.execCardingResult c w s
  | .toDevice m => Sys2Proof.Machine.execToDevice m s
  | .fromDevice m => Sys2Proof.Machine.execFromDevice m s
  | .commandDoorbell p q index => Sys2Proof.Machine.execCommandDoorbell p q index s
  | .dataMoverDoorbell p q index => Sys2Proof.Machine.execDataMoverDoorbell p q index s
  | .headDoorbell p q index => Sys2Proof.Machine.execHeadDoorbell p q index s
  | .hostEos p value => Sys2Proof.Machine.execHostEos p value s
  | .adminRingEnable p k value => Sys2Proof.Machine.execAdminRingEnable p k value s
  | .adminRingDisable p k value => Sys2Proof.Machine.execAdminRingDisable p k value s
  | .bar2BaseWrite p target value => Sys2Proof.Machine.execBar2BaseWrite p target value s
  | .msixTableWrite p offset size write value => Sys2Proof.Machine.execMsixTableWrite p offset size write value s
  | .hostRoWrite p offset foreign => Sys2Proof.Machine.execHostRoWrite p offset foreign s
  | .badShapeAccess p offset write => Sys2Proof.Machine.execBadShapeAccess p offset write s
  | .bar2Read p offset len => Sys2Proof.Machine.execBar2Read p offset len s
  | .bar2Write p offset data ep => Sys2Proof.Machine.execBar2Write p offset data ep s
  | .bar4Access p offset len data => Sys2Proof.Machine.execBar4Access p offset len data s
  | .queueDrained q => Sys2Proof.Machine.execQueueDrained q s
  | .perstAssert p => Sys2Proof.Machine.execPerstAssert p s
  | .perstRelease p => Sys2Proof.Machine.execPerstRelease p s
  | .hostLinkDown p => Sys2Proof.Machine.execHostLinkDown p s
  | .distaffHeartbeat d => Sys2Proof.Machine.execDistaffHeartbeat d s
  | .peerStampReceive d t => Sys2Proof.Machine.execPeerStampReceive d t s
  | .commandRelease d => Sys2Proof.Machine.execCommandRelease d s
  | .digestExchange a b => Sys2Proof.Machine.execDigestExchange a b s
  | .selfCheckDone failA failB => Sys2Proof.Machine.execSelfCheckDone failA failB s
  | .spindleSelfcheckFail d check => Sys2Proof.Machine.execSpindleSelfcheckFail d check s
  | .claimReleased unproven => Sys2Proof.Machine.execClaimReleased unproven s
  | .coldClaimB => Sys2Proof.Machine.execColdClaimB s
  | .spindleBootTimeout d => Sys2Proof.Machine.execSpindleBootTimeout d s
  | .catchupTimeout d => Sys2Proof.Machine.execCatchupTimeout d s
  | .mirrorRejoin d => Sys2Proof.Machine.execMirrorRejoin d s
  | .iodieLost d => Sys2Proof.Machine.execIodieLost d s
  | .iodieReturn d lanes => Sys2Proof.Machine.execIodieReturn d lanes s
  | .iolinkDown => Sys2Proof.Machine.execIolinkDown s
  | .watchWindowExpiry => Sys2Proof.Machine.execWatchWindowExpiry s
  | .configAutoRollback code => Sys2Proof.Machine.execConfigAutoRollback code s
  | .nvmWindowOpen tempC railMv => Sys2Proof.Machine.execNvmWindowOpen tempC railMv s
  | .failedBoot held => Sys2Proof.Machine.execFailedBoot held s
  | .eventFire src code index value => Sys2Proof.Machine.execEventFire src code index value s
  | .eventDeliver t => Sys2Proof.Machine.execEventDeliver t s
  | .lineChange l level => Sys2Proof.Machine.execLineChange l level s
  | .lineGlitch l => Sys2Proof.Machine.execLineGlitch l s
  | .supplyOn mv levels b => Sys2Proof.Machine.execSupplyOn mv levels b s
  | .sagEnter mv => Sys2Proof.Machine.execSagEnter mv s
  | .sagExit mv => Sys2Proof.Machine.execSagExit mv s
  | .upperBand mv => Sys2Proof.Machine.execUpperBand mv s
  | .powerFail cause samples => Sys2Proof.Machine.execPowerFail cause samples s
  | .holdupEnd => Sys2Proof.Machine.execHoldupEnd s
  | .supplyOff => Sys2Proof.Machine.execSupplyOff s
  | .failRecover mv b => Sys2Proof.Machine.execFailRecover mv b s
  | .powerWindow watts mv amp10 => Sys2Proof.Machine.execPowerWindow watts mv amp10 s
  | .powerRelax avg => Sys2Proof.Machine.execPowerRelax avg s
  | .terminalOvercurrent term => Sys2Proof.Machine.execTerminalOvercurrent term s
  | .thermalReading w tempC => Sys2Proof.Machine.execThermalReading w tempC s
  | .thermalThrottleStep d => Sys2Proof.Machine.execThermalThrottleStep d s
  | .thermalShutdown => Sys2Proof.Machine.execThermalShutdown s
  | .railRampStep d => Sys2Proof.Machine.execRailRampStep d s
  | .bandgapCompare uv => Sys2Proof.Machine.execBandgapCompare uv s
  | .ageingSample a => Sys2Proof.Machine.execAgeingSample a s
  | .ageingAccumulate => Sys2Proof.Machine.execAgeingAccumulate s
  | .ageingSummary => Sys2Proof.Machine.execAgeingSummary s
  | .regionReset r x => Sys2Proof.Machine.execRegionReset r x s
  | .regionResetTimeout r => Sys2Proof.Machine.execRegionResetTimeout r s
  | .cardingPair d fails tail x => Sys2Proof.Machine.execCardingPair d fails tail x s
  | .cardingThermalStop d x => Sys2Proof.Machine.execCardingThermalStop d x s
  | .jobFault => Sys2Proof.Machine.execJobFault s
  | .jobFaultDrainEnd => Sys2Proof.Machine.execJobFaultDrainEnd s
  | .launchStart => Sys2Proof.Machine.execLaunchStart s
  | .launchComplete n => Sys2Proof.Machine.execLaunchComplete n s
  | .scalarAlu c t op => Sys2Proof.Machine.execScalarAlu c t op s
  | .scalarMem c t op => Sys2Proof.Machine.execScalarMem c t op s
  | .vectorAlu c t op => Sys2Proof.Machine.execVectorAlu c t op s
  | .vectorMem c t op => Sys2Proof.Machine.execVectorMem c t op s
  | .convert c t op => Sys2Proof.Machine.execConvert c t op s
  | .array c t rs legal => Sys2Proof.Machine.execArray c t rs legal s
  | .syncSignal c t token n => Sys2Proof.Machine.execSyncSignal c t token n s
  | .syncWait c t token n => Sys2Proof.Machine.execSyncWait c t token n s
  | .syncPeek c t token n => Sys2Proof.Machine.execSyncPeek c t token n s
  | .syncFence c t => Sys2Proof.Machine.execSyncFence c t s
  | .syncArrive c t barrier wait => Sys2Proof.Machine.execSyncArrive c t barrier wait s
  | .moduleBarrierRelease n barrier => Sys2Proof.Machine.execModuleBarrierRelease n barrier s
  | .barrierTimeout r barrier => Sys2Proof.Machine.execBarrierTimeout r barrier s
  | .desc c t ref legal => Sys2Proof.Machine.execDesc c t ref legal s
  | .atomic c t op => Sys2Proof.Machine.execAtomic c t op s
  | .branch c t op => Sys2Proof.Machine.execBranch c t op s
  | .special c t rd what legal => Sys2Proof.Machine.execSpecial c t rd what legal s
  | .endThread c t => Sys2Proof.Machine.execEndThread c t s
  | .threadQuantum c => Sys2Proof.Machine.execThreadQuantum c s
  | .slotGrant b => Sys2Proof.Machine.execSlotGrant b s
  | .memoryReply tag gen status poison data => Sys2Proof.Machine.execMemoryReply tag gen status poison data s
  | .seTimeout tag => Sys2Proof.Machine.execSeTimeout tag s
  | .copy c => Sys2Proof.Machine.execCopy c s
  | .gather c => Sys2Proof.Machine.execGather c s
  | .scatter c => Sys2Proof.Machine.execScatter c s
  | .fill c => Sys2Proof.Machine.execFill c s
  | .rawTx c => Sys2Proof.Machine.execRawTx c s
  | .rawRx c => Sys2Proof.Machine.execRawRx c s
  | .ringReduce c => Sys2Proof.Machine.execRingReduce c s
  | .plyTx c => Sys2Proof.Machine.execPlyTx c s
  | .descriptorComplete c n => Sys2Proof.Machine.execDescriptorComplete c n s
  | .tileIssue c => Sys2Proof.Machine.execTileIssue c s
  | .teaselCompare c sound => Sys2Proof.Machine.execTeaselCompare c sound s
  | .replayIssue c => Sys2Proof.Machine.execReplayIssue c s
  | .entropyHealthFail r => Sys2Proof.Machine.execEntropyHealthFail r s
  | .sramReadError word bits consumer => Sys2Proof.Machine.execSramReadError word bits consumer s
  | .sramCeWriteback word => Sys2Proof.Machine.execSramCeWriteback word s
  | .sramScrub word bits => Sys2Proof.Machine.execSramScrub word bits s
  | .seParity b => Sys2Proof.Machine.execSeParity b s
  | .schedEnd b => Sys2Proof.Machine.execSchedEnd b s
  | .schedIssueTile b => Sys2Proof.Machine.execSchedIssueTile b s
  | .schedPostDesc b => Sys2Proof.Machine.execSchedPostDesc b s
  | .schedSignal b => Sys2Proof.Machine.execSchedSignal b s
  | .schedArrive b => Sys2Proof.Machine.execSchedArrive b s
  | .schedStartThread b => Sys2Proof.Machine.execSchedStartThread b s
  | .phaseReady b => Sys2Proof.Machine.execPhaseReady b s
  | .ringFlitArrival r f err => Sys2Proof.Machine.execRingFlitArrival r f err s
  | .ringCreditReturn r k => Sys2Proof.Machine.execRingCreditReturn r k s
  | .ringRsv r stn ring cw => Sys2Proof.Machine.execRingRsv r stn ring cw s
  | .controlMessage r m parityOk => Sys2Proof.Machine.execControlMessage r m parityOk s
  | .redFlitAdd r stn f err => Sys2Proof.Machine.execRedFlitAdd r stn f err s
  | .redTimeout b group => Sys2Proof.Machine.execRedTimeout b group s
  | .droopChange r mv => Sys2Proof.Machine.execDroopChange r mv s
  | .droopRelease r => Sys2Proof.Machine.execDroopRelease r s
  | .gateHold r periods ps => Sys2Proof.Machine.execGateHold r periods ps s
  | .phaseCheck x m => Sys2Proof.Machine.execPhaseCheck x m s
  | .crossingRecentre x => Sys2Proof.Machine.execCrossingRecentre x s
  | .seamModeSwitch d rt => Sys2Proof.Machine.execSeamModeSwitch d rt s
  | .refAbsent => Sys2Proof.Machine.execRefAbsent s
  | .refReturn => Sys2Proof.Machine.execRefReturn s
  | .refLost => Sys2Proof.Machine.execRefLost s
  | .pllUnlock d relocked => Sys2Proof.Machine.execPllUnlock d relocked s
  | .leaCompare m => Sys2Proof.Machine.execLeaCompare m s
  | .timeReq => Sys2Proof.Machine.execTimeReq s
  | .timeResp src t1 t2 t3 t4 corr => Sys2Proof.Machine.execTimeResp src t1 t2 t3 t4 corr s
  | .frameReceive id stn f => Sys2Proof.Machine.execFrameReceive id stn f s
  | .huntTimeout id stn => Sys2Proof.Machine.execHuntTimeout id stn s
  | .packetReceive id stn p ok => Sys2Proof.Machine.execPacketReceive id stn p ok s
  | .nak id lo hi => Sys2Proof.Machine.execNak id lo hi s
  | .dark id last => Sys2Proof.Machine.execDark id last s
  | .syncNotice id => Sys2Proof.Machine.execSyncNotice id s
  | .darkBobbinTimeout id => Sys2Proof.Machine.execDarkBobbinTimeout id s
  | .rawCheckAck id stn final => Sys2Proof.Machine.execRawCheckAck id stn final s
  | .skeinHealthWindow n rings ue => Sys2Proof.Machine.execSkeinHealthWindow n rings ue s
  | .identityWindow op pilot => Sys2Proof.Machine.execIdentityWindow op pilot s
  | .resonanceHeld op => Sys2Proof.Machine.execResonanceHeld op s
  | .lockTimeout op => Sys2Proof.Machine.execLockTimeout op s
  | .ringMuteDone op => Sys2Proof.Machine.execRingMuteDone op s
  | .demandRequest src dst => Sys2Proof.Machine.execDemandRequest src dst s
  | .demandIdleRelease id => Sys2Proof.Machine.execDemandIdleRelease id s
  | .phaseDecision => Sys2Proof.Machine.execPhaseDecision s
  | .phaseBarrierTrigger barrier => Sys2Proof.Machine.execPhaseBarrierTrigger barrier s
  | .phaseSwitch failed ns ply => Sys2Proof.Machine.execPhaseSwitch failed ns ply s
  | .ringRetuneDone op => Sys2Proof.Machine.execRingRetuneDone op s
  | .plyGroupStart p => Sys2Proof.Machine.execPlyGroupStart p s
  | .plyTimeout p => Sys2Proof.Machine.execPlyTimeout p s
  | .plyWindow p w => Sys2Proof.Machine.execPlyWindow p w s
  | .plyProofMiss m => Sys2Proof.Machine.execPlyProofMiss m s
  | .plyResidueCheck p codes => Sys2Proof.Machine.execPlyResidueCheck p codes s
  | .plyRedo p m => Sys2Proof.Machine.execPlyRedo p m s
  | .plyUnderrun p m => Sys2Proof.Machine.execPlyUnderrun p m s
  | .plyConfirm p m => Sys2Proof.Machine.execPlyConfirm p m s
  | .plyTrainDone p w => Sys2Proof.Machine.execPlyTrainDone p w s
  | .plyTrainTimeout p => Sys2Proof.Machine.execPlyTrainTimeout p s
  | .plyCheckTimeout p => Sys2Proof.Machine.execPlyCheckTimeout p s
  | .plyLost p m => Sys2Proof.Machine.execPlyLost p m s
  | .lightWindow n w => Sys2Proof.Machine.execLightWindow n w s
  | .lightLost what => Sys2Proof.Machine.execLightLost what s
  | .sourceReady g => Sys2Proof.Machine.execSourceReady g s
  | .armingTimeout g => Sys2Proof.Machine.execArmingTimeout g s
  | .pauseOpen g o ns => Sys2Proof.Machine.execPauseOpen g o ns s
  | .handoverWaitLapse g o ns => Sys2Proof.Machine.execHandoverWaitLapse g o ns s
  | .lightTransfer g => Sys2Proof.Machine.execLightTransfer g s
  | .cagePoll k r => Sys2Proof.Machine.execCagePoll k r s
  | .hbmRead pa errs tag gen who => Sys2Proof.Machine.execHbmRead pa errs tag gen who s
  | .hbmWrite pa data errs poison => Sys2Proof.Machine.execHbmWrite pa data errs poison s
  | .hbmAtomic pa aop size opnd cmp tag gen errs => Sys2Proof.Machine.execHbmAtomic pa aop size opnd cmp tag gen errs s
  | .hbmCeWriteback line => Sys2Proof.Machine.execHbmCeWriteback line s
  | .hbmScrub line errs => Sys2Proof.Machine.execHbmScrub line errs s
  | .hbmLink stk => Sys2Proof.Machine.execHbmLink stk s
  | .stackTempRead stk tempC skeinC => Sys2Proof.Machine.execStackTempRead stk tempC skeinC s
  | .hotSlotFree line => Sys2Proof.Machine.execHotSlotFree line s
  | .journalExpire k => Sys2Proof.Machine.execJournalExpire k s
  | .stackTrainDone stk r => Sys2Proof.Machine.execStackTrainDone stk r s
  | .reelRead p k errs => Sys2Proof.Machine.execReelRead p k errs s
  | .reelWrite p k => Sys2Proof.Machine.execReelWrite p k s
  | .reelAtomic p k errs => Sys2Proof.Machine.execReelAtomic p k errs s
  | .invalidate p k => Sys2Proof.Machine.execInvalidate p k s
  | .mcastWrite p k => Sys2Proof.Machine.execMcastWrite p k s
  | .bulkWrite p k => Sys2Proof.Machine.execBulkWrite p k s
  | .bulkRead p k => Sys2Proof.Machine.execBulkRead p k s
  | .readResp p k => Sys2Proof.Machine.execReadResp p k s
  | .writeAck p k => Sys2Proof.Machine.execWriteAck p k s
  | .atomicResp p k => Sys2Proof.Machine.execAtomicResp p k s
  | .invAck p k => Sys2Proof.Machine.execInvAck p k s
  | .mcastAck p k => Sys2Proof.Machine.execMcastAck p k s
  | .bulkData p k => Sys2Proof.Machine.execBulkData p k s
  | .bulkAck p k => Sys2Proof.Machine.execBulkAck p k s
  | .reelRetryResend tag => Sys2Proof.Machine.execReelRetryResend tag s
  | .reelTimeout what => Sys2Proof.Machine.execReelTimeout what s
  | .atomicTry tag => Sys2Proof.Machine.execAtomicTry tag s
  | .outcomeUnknown tag => Sys2Proof.Machine.execOutcomeUnknown tag s
  | .gatherFlush p window => Sys2Proof.Machine.execGatherFlush p window s
  | .stagedFetch p piece => Sys2Proof.Machine.execStagedFetch p piece s
  | .mcastBranchDrop tag member => Sys2Proof.Machine.execMcastBranchDrop tag member s
  | .linesHeldEnd p => Sys2Proof.Machine.execLinesHeldEnd p s
  | .linkFlit p f crcOk => Sys2Proof.Machine.execLinkFlit p f crcOk s
  | .laneFail p lane => Sys2Proof.Machine.execLaneFail p lane s
  | .narrowDone p ok => Sys2Proof.Machine.execNarrowDone p ok s
  | .portDown p cause => Sys2Proof.Machine.execPortDown p cause s
  | .creditTimeout p v => Sys2Proof.Machine.execCreditTimeout p v s
  | .ackTimeout p => Sys2Proof.Machine.execAckTimeout p s
  | .seekBurst p => Sys2Proof.Machine.execSeekBurst p s
  | .partnerSignal p => Sys2Proof.Machine.execPartnerSignal p s
  | .trainDone p lanes rtt => Sys2Proof.Machine.execTrainDone p lanes rtt s
  | .proveTimeout p => Sys2Proof.Machine.execProveTimeout p s
  | .quarantineRetry p => Sys2Proof.Machine.execQuarantineRetry p s
  | .downHoldEnd p => Sys2Proof.Machine.execDownHoldEnd p s
  | .linkChallenge p nonce challenger => Sys2Proof.Machine.execLinkChallenge p nonce challenger s
  | .linkResponse p node port key sigOk => Sys2Proof.Machine.execLinkResponse p node port key sigOk s
  | .linkVerdict p accepted => Sys2Proof.Machine.execLinkVerdict p accepted s
  | .cmapReq p src first count => Sys2Proof.Machine.execCmapReq p src first count s
  | .portReq p src => Sys2Proof.Machine.execPortReq p src s
  | .cmapSample => Sys2Proof.Machine.execCmapSample s
  | .drainTimeout => Sys2Proof.Machine.execDrainTimeout s
  | .cageModuleChange p present => Sys2Proof.Machine.execCageModuleChange p present s
  | .telemetrySample st late => Sys2Proof.Machine.execTelemetrySample st late s
  | .recoveryImage d fw => Sys2Proof.Machine.execRecoveryImage d fw s
  | .smbusRequest d q => Sys2Proof.Machine.execSmbusRequest d q s
  | .spindleBootDone d digestOk => Sys2Proof.Machine.execSpindleBootDone d digestOk s
  | .spindleResetTimeout => Sys2Proof.Machine.execSpindleResetTimeout s
  | .iolinkUp lanes => Sys2Proof.Machine.execIolinkUp lanes s
  | .stackRepairDone stk ok rows lanes => Sys2Proof.Machine.execStackRepairDone stk ok rows lanes s
  | .deadlineExpiry q seq => Sys2Proof.Machine.execDeadlineExpiry q seq s
  | .keyRotationEnd => Sys2Proof.Machine.execKeyRotationEnd s
  | .hostLinkUp p => Sys2Proof.Machine.execHostLinkUp p s
  | .dataMoveComplete q seq => Sys2Proof.Machine.execDataMoveComplete q seq s
  | .terminalCapRelease => Sys2Proof.Machine.execTerminalCapRelease s
  | .plyGo p m slot => Sys2Proof.Machine.execPlyGo p m slot s
  | .timeReqAnswer p src t1 t2 t3 => Sys2Proof.Machine.execTimeReqAnswer p src t1 t2 t3 s

end Sys2Proof.Machine
end

