-- ==== Sys2Proof/Machine/Idle.lean ====
section
/-! DEFINITION. What time alone does: one nanosecond of Lea and the beats of the compute regions (chapter 7). The step
takes it when no command waits. -/

namespace Sys2Proof.Machine

/-- Does the pace oscillator of a region run, phase-locked (R147, REGION.PACE LOCKED)? -/
def State.paced (s : State) (r : Nat) : Bool :=
  match (s.reg r).state with
  | .ready | .running | .halted | .test => bit s.time.pllLock (r / 2)
  | _ => false

/-- Lea advances by one tick; the slew adds or withholds one each time its parts make up a whole, until the offset is closed (R157,
R159). -/
def Time.tick (t : Time) : Time :=
  let f := t.frac + t.slew
  let closed (t : Time) : Time := if t.toClose ≤ 1 then { t with toClose := 0, slew := 0, frac := 0 } else { t with toClose := t.toClose - 1 }
  if f ≥ 1000000 then closed { t with lea := t.lea + 2, frac := f - 1000000 }
  else if f ≤ -1000000 then closed { t with frac := f + 1000000 }
  else { t with lea := t.lea + 1, frac := f }

/-- Every 1 us a copy of Lea that differs comes one tick nearer (R158). -/
def Time.nearer (t : Time) : Time :=
  if t.lea.toNat % 1000 = 0 then { t with copies := t.copies.foldl (fun c e => c.set 0 e.1 (e.2 - e.2.sign)) [] } else t

/-- Period of the pace oscillator, ps (R147). -/
def periodPs : Nat := 465

/-- Is no thread of the cell READY or issuing? -/
def CellSt.idle (x : CellSt) : Bool := x.threads.all fun t => decide (t.2.state ≠ .ready) && decide (t.2.state ≠ .running)

/-- A beat in which no thread of a cell is READY advances its CELL_IDLE (R82). -/
def State.countIdle (s : State) (r : Nat) : State :=
  s.forEach ((List.range 256).map (· + 256 * r)) fun c s => s.when (s.cel c).idle fun s => s.bump Ctr.cellIdle c

/-- The beat of a region ends: its rings, the cells that issued nothing, BEATS, and the counters of a stretched beat (R82, R125,
R148, R149). -/
def State.beatEnd (s0 : State) (r : Nat) : State :=
  let s := (s0.ringBeat r).countIdle r
  let n := s.beatLen r
  let s1 := s.modReg r fun x =>
    { x with beats := x.beats + 1, psAcc := x.psAcc - periodPs * n, gate := 0, trips := if x.droopLen > 1 then satAdd 0xFFFF x.trips 1 else x.trips }
  s1.when (decide (n > 1)) fun s => (s.bump Ctr.stretchBeats r).bump Ctr.stretchPeriods r (n - 1)

/-- Beat edges that are due, at most `fuel` of them. -/
def State.beatsDue (r : Nat) : Nat → State → State
  | 0, s => s
  | fuel + 1, s => if (s.reg r).psAcc ≥ periodPs * s.beatLen r then (s.beatEnd r).beatsDue r fuel else s

/-- One nanosecond of a region: at most three periods end in it. -/
def State.pace (s : State) (r : Nat) : State :=
  s.when (s.paced r) fun s => (s.modReg r fun x => { x with psAcc := x.psAcc + 1000 }).beatsDue r 3

/-- What the Skein, the Creel and the Reel do as time passes: bobbins whose IDLE frames after a grant are over send what waits, rings in RELOCK
lock again, a BARRIER switch counts the slots that it waits, what waits for rings goes on, and Reel requests whose line is free are
sent (R171, R183, R206, R272). -/
def State.circuits (s : State) : State := s.openBobs.offsetsApplied.waitBarrier.locksDone.wakeReel

/-- One nanosecond with no command. A module without management does not count (chapter 20). -/
def State.tick (s : State) : State :=
  s.when s.powered fun s => (({ s with time := s.time.tick.nearer }).forEach (List.range 16) fun r s => s.pace r).circuits

end Sys2Proof.Machine
end

