-- ==== Sys2Proof/Machine/Flags.lean ====
section
/-! DEFINITION. The registers of BAR0 as they read: every field of every register that the manual lays out, computed from
the state. A host read changes nothing, so no command reads them; Machine/Queues.lean and Machine/Evc.lean have the
registers that a host may write. -/

namespace Sys2Proof.Machine

/-- How many of `n` units satisfy `p`. -/
def countUpTo (n : Nat) (p : Nat → Bool) : Nat := ((List.range n).filter p).length

/-- A field of one bit per unit. -/
def maskOf (n : Nat) (p : Nat → Bool) : Nat := bitsOf ((List.range n).map p)

/-- A signed value in `w` bits. -/
def intBits (w : Nat) (i : Int) : Nat := (BitVec.ofInt w i).toNat

/-! ### MODULE and DOORBELL (R316, R317, R322, R323) -/

/-- MODULE.ID. -/
def State.idWord (s : State) : Word := pack [(48, 16, 0x4A09), (40, 8, s.fuse.order), (32, 8, s.fuse.ioRev), (0, 32, s.fuse.serial.toNat)]

/-- MODULE.ADMIN_RING[k], with ERROR from its queue. -/
def State.adminWord (s : State) (k : Nat) : Word :=
  s.host.adminRing.get 0 k ||| pack [(1, 1, (decide ((s.queue k).state = .error)).toNat)]

/-- TYPE of a queue (R320). -/
def QKind.code : QKind → Nat
  | .command => 0 | .completion => 1 | .event => 2 | .dataMover => 3

/-- STATE of a queue (R322). -/
def QState.code : QState → Nat
  | .free => 0 | .active => 1 | .draining => 2 | .error => 3

/-- QUEUE.DESC[8q + w], w = 0 to 7: the 64 bytes of the queue as eight registers (R322). -/
def State.queueWord (s : State) (q w : Nat) : Word :=
  let x := s.queue q
  match w with
  | 0 => BitVec.ofNat 64 x.base
  | 1 => pack [(0, 2, x.kind.code), (2, 1, x.space.toNat), (3, 1, x.port.val), (8, 8, x.sizeLog2), (16, 16, x.vector), (32, 16, x.cq),
      (48, 8, x.state.code), (56, 8, x.cause.code)]
  | 2 => pack [(0, 32, x.head.toNat), (32, 32, x.tail.toNat)]
  | 3 => x.lastDb
  | 4 => x.done
  | _ => 0

/-! ### EVC (R382) -/

/-- State of a source at a target, in EVC.SRC. -/
def SrcState.code : SrcState → Nat
  | .idle => 0 | .pending => 1 | .active => 2 | .activePending => 3

/-- EVC.CAP. -/
def evcCap : Word := pack [(32, 8, 25), (24, 4, 15), (16, 4, 4), (0, 16, 1024)]

/-- Is the source PENDING or ACTIVE_PENDING at any target? -/
def State.srcPending (s : State) (n : Nat) : Bool :=
  (List.range 4).any fun t => match (s.obs.srcAt n t).state with | .pending | .activePending => true | _ => false

/-- EVC.STAT. FAULT_N is asserted while the module is HELD (R381). -/
def State.evcStat (s : State) : Word :=
  pack [(48, 16, countUpTo 1024 s.srcPending), (32, 1, (decide (s.mod.state = .held)).toNat), (0, 25, maskOf 25 s.level)]

/-- EVC.TARGET[t]. -/
def State.targetWord (s : State) (t : Nat) : Word :=
  let q := if t < 2 then 0xFFFF else (s.host.eventQueue (if t = 3 then 1 else 0)).getD 0xFFFF
  pack [(40, 24, (s.obs.target.get {} t).evseq.toNat), (16, 16, q), (12, 4, s.obs.depth t), (8, 4, s.obs.run t),
    (4, 4, if t < 2 then 1 else 2), (0, 1, (s.obs.target.get {} t).waiting.toNat)]

/-- EVC.FILTER[l]. -/
def State.filterWord (s : State) (l : Nat) : Word :=
  pack [(48, 16, min 0xFFFF (s.obs.line.get {} l).glitches), (8, 1, (s.level l).toNat), (0, 8, lineCount l)]

/-- EVC.SRC[n]. -/
def State.srcWord (s : State) (n : Nat) : Word :=
  pack [(32, 32, min 0xFFFFFFFF (s.obs.fires.get 0 n)), (8, 2, (s.obs.srcAt n 0).state.code), (10, 2, (s.obs.srcAt n 1).state.code),
    (12, 2, (s.obs.srcAt n 2).state.code), (14, 2, (s.obs.srcAt n 3).state.code), (4, 4, srcMask n), (0, 4, srcPrio n)]

/-! ### POWER and CAL (R401, R415) -/

/-- POWER.CAP. -/
def powerCap : Word := pack [(48, 16, 5000), (32, 16, 3000), (24, 8, 60), (16, 8, 250), (8, 8, 5)]

/-- POWER.SAG. -/
def State.sagWord (s : State) : Word := pack [(32, 32, s.pow.sagAt.toNat), (16, 16, s.pow.sagMin), (0, 16, min 0xFFFF s.pow.sagUs)]

/-- POWER.NVM. -/
def State.nvmWord (s : State) : Word :=
  pack [(32, 16, s.pow.railMv), (24, 8, intBits 8 s.pow.ioTempC), (1, 1, s.pow.supplyOk.toNat), (0, 1, s.pow.tempOk.toNat)]

/-- CAL.RECORDS. -/
def State.calRecords (s : State) : Word := pack [(16, 9, s.cal.noCopy), (0, 9, s.cal.oneCopy)]

/-- CAL.AGE. -/
def State.calAge (s : State) : Word := pack [(32, 32, s.lifeS / 3600), (8, 8, s.plan.widthCap), (0, 8, s.cal.summaries.length)]

/-- CAL.GUARD[d]: the set-point is the present one of the die's first half. -/
def State.guardWord (s : State) (d : Nat) : Word :=
  pack [(48, 16, s.worstPs d), (32, 16, s.cal.railNow.get 0 (2 * d)), (8, 1, (s.guardLimit d).toNat), (0, 8, s.plan.guard.get 0 d)]

/-- CAL.LOOP_MARGIN[n]. -/
def State.loopMargin (s : State) (n : Nat) : Word :=
  pack [(16, 8, s.cal.last.headroom.getD n 0), (8, 6, (s.cal.last.margin.getD n (0, 0)).2), (0, 8, s.marginOf n)]

/-! ### SKEIN and CREEL (R189, R212) -/

/-- SKEIN.CAP. -/
def skeinCap : Word := pack [(56, 8, 96), (40, 10, 544), (32, 8, 64), (28, 4, 8), (24, 4, 8), (16, 8, 34), (8, 8, 48), (0, 8, 128)]

/-- Rings in the Skein (R165). -/
def ringTotal : Nat := 86016

/-- Listed rings in one of two states. -/
def State.ringsIn (s : State) (p : RingState → Bool) : Nat := (s.skein.ring.filter fun e => p e.2.state).length

/-- SKEIN.LOCK_STAT. A ring that is not listed is LOCKED once the lock phase has run. -/
def State.lockStat (s : State) : Word :=
  let locked := s.ringsIn (fun x => decide (x = .locked)) + if s.skein.locked then ringTotal - s.skein.ring.length else 0
  pack [(49, 15, s.skein.lockMs), (32, 17, s.ringsIn fun x => decide (x = .faulty)), (15, 17, locked),
    (0, 15, s.ringsIn fun x => decide (x = .muted) || decide (x = .relock))]

/-- May a station use a loop in this epoch: the loop is usable and the station has a usable ring on it? -/
def State.mayUse (s : State) (n stn : Nat) : Bool := s.creel.mapped && (List.range 16).any fun k => s.ringOk ((stn * 128 + n) * 32 + k)

/-- SKEIN.LOOP_MAP[n]. -/
def State.loopMap (s : State) (n : Nat) : Word :=
  pack [(48, 16, if s.creel.mapped then s.creel.epoch.toNat else 0), (41, 1, 1 - n % 2), (40, 1, n % 2), (36, 3, n / 16), (0, 34, maskOf 34 (s.mayUse n))]

/-- SKEIN.LOOP_HEALTH[n]. -/
def State.loopHealth (s : State) (n : Nat) : Word :=
  let x := s.loopSt n
  let bad := (s.skein.ring.filter fun e => decide (e.1 / 32 % 128 = n) && decide (e.2.state = .faulty)).length
  pack [(32, 10, bad), (24, 8, x.ueFrames), (16, 8, x.berLog), (8, 6, x.worstStn), (4, 4, x.cause), (0, 3, x.state.code)]

/-- SKEIN.RING_MAP[128 s + n]. -/
def State.ringMap (s : State) (stn n : Nat) : Word :=
  let base := (stn * 128 + n) * 32
  let busy := ringsOf (s.allBobs.map (·.2))
  let ply := decide (stn < 16) && decide (n % 2 = 0)
  pack [(40, 8, maskOf 8 fun k => busy.contains (base + 8 + k)), (32, 8, maskOf 8 fun k => busy.contains (base + k)),
    (16, 16, if ply then maskOf 16 fun k => s.ringOk (base + 16 + k) else 0), (8, 8, maskOf 8 fun k => s.ringOk (base + 8 + k)),
    (0, 8, maskOf 8 fun k => s.ringOk (base + k))]

/-- CREEL.CAP. -/
def creelCap : Word := pack [(48, 16, 3000), (40, 8, 4), (32, 8, 16), (16, 16, 1024), (0, 16, 16384)]

/-- CREEL.STAT: a switch and a commit are over within their command, so READY once a map is committed. -/
def State.creelStat (s : State) : Word :=
  pack [(48, 16, (s.standingBobs ++ s.demandBobs).length), (32, 16, s.liveBobs.length), (20, 1, s.creel.run.isSome.toNat),
    (16, 4, (s.creel.run.map (·.handle)).getD 0), (8, 5, s.creel.table.length), (0, 2, s.creel.mapped.toNat)]

/-- CREEL.EPOCH_STAT. -/
def State.epochStat (s : State) : Word :=
  pack [(32, 32, s.creel.epoch.toNat), (24, 8, s.usableLoops), (19, 5, if s.spin.width < 4 then 0 else s.creel.lanes), (8, 8, min 0xFF s.creel.commitUs), (0, 4, s.creel.lastCause)]

/-- S_p of a pending LEA switch. -/
def State.nextAt (s : State) : Lea :=
  match s.creel.run with
  | some r => match s.table r.handle, r.next with
    | some t, some p => if s.nextIsBarrier then 0 else dueAt t r p
    | _, _ => 0
  | none => 0

/-- CREEL.SWITCH_TIME. -/
def State.switchWord (s : State) : Word := pack [(32, 32, s.nextAt.toNat), (16, 16, min 0xFFFF s.creel.maxNs), (0, 16, s.creel.lastNs)]

/-- CREEL.FENCE. -/
def State.fenceWord (s : State) : Word := pack [(0, 34, s.creel.fenced)]

/-- Rings of a kind at a station that carry some of these bobbins. -/
def ringsAt (bs : List (BitVec 32 × Bob)) (stn : Nat) (drop : Bool) : Nat :=
  ((ringsOf (bs.map (·.2))).filter fun r => decide (r / 4096 = stn) && decide (r % 32 ≥ 8) == drop).length

/-- CREEL.STN_BOBBINS[s]. -/
def State.stnBobbins (s : State) (stn : Nat) : Word :=
  let pk := s.standingBobs ++ s.demandBobs
  pack [(36, 12, ringsAt s.liveBobs stn true), (24, 12, ringsAt s.liveBobs stn false), (12, 12, ringsAt pk stn true), (0, 12, ringsAt pk stn false)]

/-- CREEL.TABLE[h]. -/
def State.tableWord (s : State) (h : Nat) : Word :=
  match s.table h with
  | some t => pack [(32, 32, t.job.toNat), (21, 11, t.phases.length), (6, 15, t.entries.length), (3, 1, (s.runs h).toNat), (2, 1, t.resident.toNat), (0, 1, 1)]
  | none => 0

/-! ### PLY (R230, R231) -/

/-- PLY.CAP. -/
def plyCap : Word := pack [(48, 11, 1024), (40, 8, 8), (32, 8, 24), (24, 8, 64), (20, 4, 4), (16, 4, 6), (8, 8, 16), (0, 8, 16)]

/-- STATE of a ply port. -/
def PlyState.code : PlyState → Nat
  | .idle => 0 | .train => 1 | .check => 2 | .ready => 3 | .run => 4 | .digital => 5 | .faulted => 6

/-- Ply ports in a state. -/
def State.plyIn (s : State) (x : PlyState) : Nat := (s.ply.filter fun e => decide (e.2.state = x)).length

/-- PLY.STAT. -/
def State.plyStat (s : State) : Word :=
  pack [(48, 8, s.plan.widthCap), (33, 11, s.plyIn .faulted), (22, 11, s.plyIn .digital), (11, 11, s.plyIn .run), (0, 11, s.plyIn .ready)]

/-- PLY.PORT_STAT[i]. -/
def State.plyPortStat (s : State) (i : Nat) : Word :=
  let x := s.plyPort i
  pack [(48, 8, x.lastCause), (40, 3, (x.grp.map fun g => g.redo.length).getD 0), (24, 12, x.group), (16, 5, x.width), (9, 2, x.split / 2),
    (4, 5, x.members.length), (0, 3, x.state.code)]

/-- PLY.PORT_MARGIN[i]. -/
def State.plyMargin (s : State) (i : Nat) : Word :=
  let x := s.plyPort i
  pack [(48, 16, min 0xFFFF x.proofMiss), (40, 8, x.eqRes), (32, 8, x.predLog), (16, 16, x.sigmaUc), (0, 16, x.detMc)]

/-- PLY.MEMBER[16 i + m]. -/
def State.plyMember (s : State) (i m : Nat) : Word :=
  match (s.plyPort i).members[m]? with
  | some x => pack [(56, 1, 1), (48, 8, x.delaySym), (40, 8, x.delayFine), (32, 8, intBits 8 x.trim), (16, 16, x.level), (8, 6, x.line), (0, 6, x.src)]
  | none => 0

/-! ### LIGHT (R246) -/

/-- LIGHT.CAP. -/
def lightCap : Word := pack [(48, 8, 8), (40, 8, 25), (32, 8, 15), (24, 8, 10), (16, 8, 30), (8, 8, 10), (0, 8, 8)]

/-- STATE of a group. -/
def GState.code : GState → Nat
  | .primary => 0 | .arming => 1 | .waiting => 2 | .paused => 3 | .transfer => 4 | .standby => 5 | .dark => 6

/-- STATE of a cage. -/
def CageState.code : CageState → Nat
  | .absent => 0 | .warming => 1 | .ready => 2 | .lit => 3 | .fault => 4

/-- Has a loop light: its group is not DARK, and the light has been raised? -/
def State.loopLit (s : State) (n : Nat) : Bool := s.light.ready && decide ((s.grp (n / 16)).state ≠ .dark)

/-- LIGHT.STAT. -/
def State.lightStat (s : State) : Word :=
  pack [(48, 8, countUpTo 128 fun n => s.loopLit n && s.onStandby n), (40, 8, countUpTo 128 s.loopLit),
    (32, 8, (s.light.loop.filter fun e => e.2.advisory).length), (16, 8, maskOf 8 fun g => decide ((s.grp g).state = .standby)),
    (8, 8, maskOf 8 fun g => decide ((s.grp g).state = .arming) || decide ((s.grp g).state = .waiting)),
    (1, 1, s.light.commissioned.toNat), (0, 1, s.light.ready.toNat)]

/-- LIGHT.HANDOVER. -/
def State.handoverWord (s : State) : Word :=
  pack [(48, 16, s.light.lastPause), (32, 16, min 0xFFFF s.light.maxPause), (24, 8, s.light.waitMs), (16, 3, s.light.lastGroup),
    (8, 2, s.light.lastKind), (0, 8, s.light.defers)]

/-- May the source of a cage be removed (R243)? -/
def State.removable (s : State) (k : Nat) : Bool := s.light.ready && (s.groupsOfCage k).all fun g => decide ((s.grp g).state = .dark)

/-- LIGHT.CAGE[k]. -/
def State.cageWord (s : State) (k : Nat) : Word :=
  let x := s.cage k
  pack [(48, 8, x.tempC), (40, 8, intBits 8 x.minLine), (32, 4, x.bundle), (16, 16, x.faultCode), (5, 3, x.state.code), (4, 1, (s.removable k).toNat),
    (3, 1, x.mgmtOk.toNat), (2, 1, x.faultPin.toNat), (1, 1, x.present.toNat), (0, 1, if k ≥ 8 then 1 else 0)]

/-- Level that LIGHT.LOOP shows, 0.01 dB. -/
def State.loopLevel (s : State) (n : Nat) : Int := ((s.light.loop.get {} n).average).getD 0

/-- LIGHT.GROUP[g]. -/
def State.groupWord (s : State) (g : Nat) : Word :=
  let x := s.grp g
  let worst := ((List.range 15).map fun k => s.loopLevel (16 * g + k + 1)).foldl min (s.loopLevel (16 * g))
  pack [(32, 32, x.changedAt.toNat), (16, 16, intBits 16 worst), (10, 1, x.returning.toNat), (9, 1, x.forced.toNat), (8, 1, x.denied.toNat),
    (7, 1, ((List.range 16).any fun k => (s.light.loop.get {} (16 * g + k)).advisory).toNat), (0, 4, x.state.code)]

/-- STATE of LIGHT.LOOP[n] (DEDUCED, log 146). -/
def State.loopLightState (s : State) (n : Nat) : Nat :=
  let g := (s.grp (n / 16)).state
  if (s.loopSt n).state = .withdrawn then 3
  else if g = .dark then 4
  else if s.loopLevel n ≤ -150 ∧ (g = .arming ∨ g = .waiting) then 2
  else if (s.light.loop.get {} n).advisory then 1
  else 0

/-- LIGHT.LOOP[n]. -/
def State.loopLightWord (s : State) (n : Nat) : Word :=
  let x := s.light.loop.get {} n
  let pc := if s.light.ready then s.pcOf n (s.onStandby n) x.worstLine else 0
  pack [(48, 16, intBits 16 pc), (32, 16, intBits 16 (s.loopLevel n)), (26, 6, x.worstLine), (3, 1, (s.onStandby n).toNat), (0, 3, s.loopLightState n)]

/-! ### MEM (R263) -/

/-- MEM.CAP. -/
def memCap : Word := pack [(56, 8, 128), (48, 8, 64), (32, 13, 4096), (24, 4, 10), (16, 8, 128), (8, 8, 36), (0, 8, 16)]

/-- MEM.STAT. -/
def State.memStat (s : State) : Word :=
  pack [(48, 16, maskOf 16 fun k => decide ((s.stk k).state = .failed)), (32, 16, maskOf 16 fun k => (s.stk k).fast),
    (16, 16, maskOf 16 fun k => decide ((s.stk k).state = .throttled)),
    (0, 16, maskOf 16 fun k => decide ((s.stk k).state = .ready) || decide ((s.stk k).state = .throttled))]

/-- MEM.STACK[k]. -/
def State.stackWord (s : State) (k : Nat) : Word :=
  let x := s.stk k
  pack [(40, 8, x.spareRows), (32, 8, x.lanesRepaired), (24, 8, min 0xFF x.rowsRepaired), (16, 8, x.skeinC), (8, 8, x.tempC),
    (5, 2, bitsOf [x.ownHot, x.skeinHot]), (3, 2, x.fast.toNat), (0, 3, x.state.code)]

/-- MEM.ECC[k]. -/
def State.eccWord (s : State) (k : Nat) : Word :=
  pack [(48, 16, if (s.stk k).linesFull then 0xFFFF else min 0xFFFF (s.mems.poisonLines k)), (33, 1, (s.stk k).ceSeen.toNat),
    (32, 1, (s.stk k).lastUe.isSome.toNat), (0, 29, (s.stk k).lastUe.getD 0)]

/-- MEM.DIE[k]. -/
def State.memDie (s : State) (k : Nat) : Word :=
  pack [(36, 20, (s.memory.rcache.filter fun l => decide (cacheDie l.node l.offset = k)).length),
    (20, 13, (s.memory.hot.filter fun h => decide (stackOf (128 * h.line) / 2 = k)).length),
    (0, 18, (s.memory.journal.filter fun j => s.jLive j && decide (j.die = k)).length)]

/-! ### REEL (R311) -/

/-- REEL.CAP. -/
def reelCap : Word := pack [(48, 8, 8), (40, 8, 8), (32, 8, 8), (24, 8, 16), (16, 8, 11), (0, 16, 8192)]

/-- REEL.STAT. -/
def State.reelStat (s : State) : Word :=
  pack [(48, 16, s.conf.inForce.node.toNat), (32, 16, s.conf.inForce.timeMaster.toNat), (8, 8, maskOf 8 s.portUp), (2, 1, s.reel.drain.isSome.toNat),
    (1, 1, s.reel.active.val), (0, 1, s.reel.routed.toNat)]

/-- REEL.DRAIN. -/
def State.drainWord (s : State) : Word := pack [(32, 32, s.reel.drainNs), (16, 16, min 0xFFFF s.reel.discarded), (0, 2, s.reel.drainResult)]

/-- REEL.PORT_ERR[p]. -/
def State.portErr (s : State) (p : Nat) : Word :=
  let x := s.rp p
  pack [(48, 16, min 0xFFFF x.replaysMs), (40, 8, x.preFec), (37, 3, x.worstLane), (16, 16, min 0xFFFF x.crcMs), (0, 16, x.rttNs)]

/-- REEL.CMAP[p]. -/
def State.cmapWord (s : State) (p : Nat) : Word :=
  let x := ((s.reel.cmap.head?).map (·.2)).getD []
  pack ((List.range 8).map fun v => (8 * v, 8, x.getD (8 * p + v) 0))

/-- REEL.CREDIT[8 p + v]. -/
def State.creditWord (s : State) (p v : Nat) : Word :=
  pack [(32, 16, (s.rp p).advertised.get 0 v), (16, 16, (s.rp p).credit.get 0 v), (0, 16, ownCredits v)]

/-- REEL.REJECT_SRC[i]. -/
def State.rejectWord (s : State) (i : Nat) : Word :=
  match s.reel.rejects.get none i with
  | some x => pack [(48, 16, x.node.toNat), (32, 16, min 0xFFFF x.keyFaults), (16, 16, min 0xFFFF x.other), (1, 15, min 0x7FFF x.quiet), (0, 1, 1)]
  | none => 0

/-- REEL.ROUTE[n], the active table. -/
def State.routeWord (s : State) (n : Nat) : Word :=
  let e := (s.reel.routes.get s.reel.active).get 0 n
  pack [(11, 1, (routeValid e && !(onesOf 8 (routePorts e)).any s.portUp).toNat), (0, 11, e)]

/-! ### TIME (R162) -/

/-- TIME.STAT. -/
def State.timeStat (s : State) : Word :=
  pack [(32, 32, intBits 32 s.time.offset), (16, 8, intBits 8 s.time.slew), (3, 1, s.time.stepped.toNat), (2, 1, (decide (s.time.good ≥ 16)).toNat),
    (1, 1, s.time.masterValid.toNat), (0, 1, s.time.synced.toNat)]

/-- TIME.CLK. -/
def State.timeClk (s : State) : Word := pack [(32, 19, s.time.pllLock), (1, 1, s.time.holdover.toNat), (0, 1, s.time.refPresent.toNat)]

/-- TIME.SKEW. -/
def State.timeSkew (s : State) : Word := pack [(8, 8, s.time.skewNow), (0, 8, min 0xFF s.time.skewMax)]

/-! ### SPINDLE and CONFIG (R360, R372) -/

/-- SPINDLE.STAT. -/
def State.spindleStat (s : State) : Word :=
  let mode := if s.spin.inStep then 0 else if s.spin.spindle.a.state = .catchup ∨ s.spin.spindle.b.state = .catchup then 2 else 1
  pack [(32, 32, s.spin.commands.toNat), (8, 1, s.spin.digestHeld.toNat), (0, 2, mode)]

/-- SPINDLE.CLAIM. -/
def State.claimWord (s : State) : Word :=
  pack [(32, 32, s.spin.since.toNat), (16, 16, min 0xFFFF s.spin.blocked), (2, 1, s.spin.holder.val), (1, 1, (decide (s.spin.claim = some 1)).toNat),
    (0, 1, (decide (s.spin.claim = some 0)).toNat)]

/-- SPINDLE.DISTAFF. -/
def State.distaffWord (s : State) : Word :=
  pack [(32, 32, s.spin.released.toNat), (16, 16, min 0xFFFF s.spin.releaseMax), (0, 16, s.spin.releaseLast)]

/-- SPINDLE.IOLINK. -/
def State.iolinkWord (s : State) : Word :=
  pack [(32, 16, s.spin.lanesOk), (19, 5, s.spin.width), (8, 8, min 0xFF s.spin.rttNs), (0, 1, (decide (s.spin.width ≥ 4)).toNat)]

/-- SPINDLE.LAST_TAKEOVER. -/
def State.takeoverWord (s : State) : Word :=
  let x := s.spin.takeover
  pack [(32, 32, x.at_.toNat), (16, 16, x.durationNs), (8, 8, x.cause), (2, 1, x.planned.toNat), (1, 1, x.inProgress.toNat), (0, 1, x.toDie.val)]

/-- SPINDLE.SELF[d]. -/
def State.selfWord (s : State) (d : IoDie) : Word :=
  let x := s.sp d
  pack [(48, 16, min 0xFFFF x.fails), (40, 8, x.lastCheck), (38, 2, (x.recent.filter fun t => !s.elapsed t 3600000000000).length), (0, 3, x.state.code)]

/-- STATE of CONFIG.SLOT. -/
def SlotState.code : SlotState → Nat
  | .empty => 0 | .active => 1 | .kept => 2 | .staged => 3 | .invalid => 4

/-- CONFIG.STAT. The store is read at bring-up: before it the register holds its reset value. -/
def State.configStat (s : State) : Word :=
  if s.mod.bringupDue then 0
  else
    let k := s.conf.activeIx
    let o := (s.conf.slot.get (other k)).state.code
    pack [(32, 32, (s.conf.slot.get k).version.toNat), (5, 1, s.conf.writePending.toNat), (4, 1, s.conf.watching.toNat), (3, 1, k.val),
      (0, 3, if o = 0 then 0 else o - 1)]

/-- CONFIG.WATCH. -/
def State.configWatch (s : State) : Word := pack [(32, 32, s.conf.until_.toNat), (4, 4, s.conf.lastResult)]

/-- CONFIG.BOOT. -/
def State.configBoot (s : State) : Word := pack [(32, 32, s.conf.highWater.toNat), (4, 4, s.conf.rollbackCause), (0, 2, s.conf.failedBoots)]

/-- CONFIG.SLOT[k]. -/
def State.slotWord (s : State) (k : Fin 2) : Word :=
  if s.mod.bringupDue then 0
  else
    let x := s.conf.slot.get k
    pack [(32, 32, x.version.toNat), (16, 16, x.actSeq.toNat), (0, 3, x.state.code)]

/-! ### SEC (R446) -/

/-- SEC.BOOT. -/
def State.secBoot (s : State) : Word :=
  pack [(32, 32, s.sec.bootMs), (5, 1, s.sec.mismatch.toNat), (4, 1, (s.sec.recovery.a || s.sec.recovery.b).toNat), (2, 2, s.sec.failedSlot),
    (0, 2, s.sec.trialBoots)]

/-- STATE of a firmware slot. -/
def FwState.code : FwState → Nat
  | .empty => 0 | .good => 1 | .trial => 2 | .bad => 3

/-- SEC.FW[k]. -/
def State.fwWord (s : State) (k : Fin 2) : Word :=
  if s.mod.bringupDue then 0
  else
    let x := s.sec.fw.get k
    pack [(32, 32, x.version.toNat), (8, 6, x.svn), (3, 1, (decide (s.sec.preferred = k)).toNat), (0, 3, x.state.code)]

/-- SEC.KEYSLOT[k]. -/
def State.keyslotWord (s : State) (k : Nat) : Word :=
  match s.conf.active.settings.keys.find? fun e => decide (e.1 = k) with
  | some e => pack [(32, 32, leNat ((sha512 (leBytes 32 e.2.key.toNat)).take 4)), (0, 3, e.2.role.toNat)]
  | none => 0

/-! ### REGION (R100, R101, R102, R142, R143, R161) -/

/-- REGION.ID[r]. -/
def State.regionId (s : State) (r : Nat) : Word :=
  pack [(48, 8, s.fuse.dieRev.get 0 (r / 2)), (40, 8, r), (32, 8, 8), (24, 8, 16), (16, 8, 16), (12, 1, r % 2), (8, 4, r / 2), (0, 8, r)]

/-- Is the seam of a region's die refused: one of its halves is PARKED (R155)? -/
def State.seamHold (s : State) (r : Nat) : Bool := decide ((s.reg (2 * (r / 2))).state = .parked) || decide ((s.reg (2 * (r / 2) + 1)).state = .parked)

/-- REGION.STATE[r]. -/
def State.regionState (s : State) (r : Nat) : Word :=
  let x := s.reg r
  pack [(32, 32, x.job.toNat), (5, 1, x.entropyAlt.toNat), (4, 1, (s.seamHold r).toNat), (3, 1, (s.job.launches.any fun l => l.running && bit l.mask r).toNat),
    (0, 3, x.state.code)]

/-- REGION.TRACKERS[r]. -/
def State.trackers (s : State) (r : Nat) : Word := pack [(32, 13, (s.reg r).peak), (0, 13, s.inUse r)]

/-- REGION.ECC[r]. -/
def State.regionEcc (s : State) (r : Nat) : Word :=
  let bad := if (s.reg r).poisonFull then 0xFFFF else min 0xFFFF (s.poisonWords r)
  pack [(48, 16, bad), (32, 16, (s.reg r).ueSeen), (16, 16, (s.reg r).ceSeen)]

/-- REGION.BLK_STAT[i]. -/
def State.blkStat (s : State) (i : Nat) : Word :=
  let b := s.blk i
  let descs := ((List.range 16).map fun c => (s.cel (16 * i + c)).queue.length).sum
  pack [(49, 1, b.ringHold.toNat), (48, 1, b.frozen.toNat), (40, 8, b.threadSlots), (16, 9, descs), (0, 9, b.inUse)]

/-- STATE of a thread. -/
def TState.code : TState → Nat
  | .free => 0 | .ready => 1 | .running => 2 | .waitMem => 3 | .waitSync => 4 | .faulted => 5

/-- REGION.CELL_STAT[j]. -/
def State.cellStat (s : State) (j : Nat) : Word :=
  let x := s.cel j
  let is (p : TState → Bool) : Nat := maskOf 8 fun t => p (s.thr j t).state
  pack [(32, 16, x.lastSeq.toNat), (30, 1, (!x.heldStores.isEmpty).toNat), (29, 1, x.replayPending.toNat), (28, 1, (x.exec.any Tile.inFlight).toNat),
    (27, 1, x.runValid.toNat), (24, 3, x.lastRun), (16, 8, is fun t => decide (t = .faulted)),
    (8, 8, is fun t => decide (t = .waitMem) || decide (t = .waitSync)), (0, 8, is fun t => decide (t = .ready))]

/-- REGION.THREAD_STAT[8 j + t]. -/
def State.threadStat (s : State) (j t : Nat) : Word :=
  let x := s.thr j t
  pack [(16, 32, x.ip), (8, 5, x.posted), (0, 3, x.state.code)]

/-- REGION.RING_CFG[r]. -/
def ringCfg : Word := pack [(48, 8, 16), (40, 8, 4), (32, 8, 16), (28, 4, 4), (24, 4, 8), (20, 4, 8), (16, 4, 4), (8, 8, 16), (0, 8, 16)]

/-- REGION.RING_STAT[r]: RSV_ACTIVE gathers the reservations of every station. -/
def State.ringStat (s : State) (r : Nat) : Word :=
  let x := s.reg r
  pack [(32, 8, maskOf 8 fun k => (List.range 16).any fun b => bit x.rsv (8 * b + k)), (16, 5, x.slotsFullMax), (0, 6, x.vc0Max)]

/-- Reduction groups of a block. -/
def BlockSt.groupList (b : BlockSt) : List RedGroup := b.groups.filterMap (·.2)

/-- RED flits that a station holds captured. -/
def RegionSt.captures (x : RegionSt) (st : Nat) : Nat := (x.captured.get [] st).length

/-- REGION.RED_STAT[r]. -/
def State.redStat (s : State) (r : Nat) : Word :=
  let bs := (List.range 16).map fun b => s.blk (16 * r + b)
  let x := s.reg r
  pack [(49, 1, x.rangeSeen.toNat), (48, 1, x.poisonSeen.toNat), (32, 12, x.lastDone), (16, 13, ((List.range 16).map x.captures).sum),
    (0, 9, (bs.map fun b => b.groupList.length).sum)]

/-- REGION.RING_ERR[r]. -/
def State.ringErr (s : State) (r : Nat) : Word :=
  let x := s.reg r
  let l := x.ringLast.getD (0, 0, 0, 0)
  pack [(41, 1, x.ringLast.isSome.toNat), (39, 2, l.2.2.2), (38, 1, l.2.2.1), (36, 2, l.2.1), (32, 4, l.1), (16, 16, x.ringCe), (0, 16, x.ringUe)]

/-- REGION.RING_STN[16 r + b]. -/
def State.ringStn (s : State) (i : Nat) : Word :=
  let x := s.reg (i / 16)
  let b := s.blk i
  pack [(48, 5, b.groupList.length), (40, 8, x.captures (i % 16)), (32, 8, x.rsv / 2 ^ (8 * (i % 16))), (16, 9, min 511 (x.injWaitMax.get 0 (i % 16))),
    (0, 6, x.vc0Depth (i % 16))]

/-- REGION.PACE[r]. -/
def State.paceWord (s : State) (r : Nat) : Word :=
  pack [(32, 32, (s.reg r).beats % 2 ^ 32), (16, 3, min 7 (s.beatLen r)), (14, 1, (s.paced r).toNat), (0, 10, periodPs)]

/-- REGION.DROOP[r]. -/
def State.droopWord (s : State) (r : Nat) : Word :=
  pack [(48, 16, min 0xFFFF (s.reg r).trips), (40, 8, min 0xFF (s.reg r).deepest), (24, 8, 75), (16, 8, 50), (8, 8, 25), (0, 8, 20)]

/-- REGION.HS_MARGIN[r]. -/
def State.hsMargin (s : State) (r : Nat) : Word := pack [(32, 16, (s.reg r).hsWorst), (16, 16, s.hsNow r), (0, 16, min 0xFFFF (s.reg r).gateHolds)]

/-- A crossing's register. `parked`: it refuses. -/
def Xing.word (x : Xing) (parked : Bool) : Word :=
  pack [(56, 8, min 0xFF x.slipMax), (40, 8, x.d), (32, 8, x.rt), (20, 4, x.calFails), (16, 1, x.hold.toNat), (8, 1, x.detOk.toNat),
    (4, 2, if parked then 2 else x.mode), (0, 2, x.cfg)]

/-! ### COUNTERS -/

/-- Telemetry read of an address of the COUNTERS window: a live counter, a shadow, a slot register or an access log
(R66, R448, R449, R450). -/
def State.counterWord (s : State) (a : Nat) : Word :=
  if a = 0x01F00000 then s.obs.accessLog.a
  else if a = 0x01F00008 then s.obs.accessLog.b
  else if inGroup 15 a then
    let g := s.guardSlot ((a - ctrBase 15) / 64)
    match (a - ctrBase 15) % 64 / 8 with
    | 5 => g.amaxWord
    | 6 => g.histWord
    | 7 => g.stateWord
    | _ => ctrWord (s.obs.counters.get 0 a)
  else if 0x01400000 ≤ a ∧ (ctrGroups.any fun g => inGroup g (a - 0x400000)) = true then s.obs.shadows.get 0 (a - 0x400000)
  else ctrWord (s.obs.counters.get 0 a)

/-! ### The map (R8, R99) -/

/-- A register of a compute region's 2 MiB window (R99, R142, R161). -/
def State.regionWord (s : State) (r o : Nat) : Word :=
  if o < 0x100000 then
    match o with
    | 0x0 => s.regionId r | 0x8 => s.regionState r | 0x10 => s.trackers r | 0x18 => s.regionEcc r
    | 0x100 => s.paceWord r | 0x108 => s.droopWord r | 0x110 => s.hsMargin r
    | 0x118 => (s.reg r).seam.word (s.seamHold r) | 0x120 => (s.reg r).stn.word (decide ((s.reg r).state = .parked))
    | 0x200 => ringCfg | 0x208 => s.ringStat r | 0x210 => s.redStat r | 0x218 => s.ringErr r
    | _ => if 0x280 ≤ o ∧ o < 0x300 then s.ringStn (16 * r + (o - 0x280) / 8) else 0
  else
    let b := (o - 0x100000) / 0x10000
    let p := (o - 0x100000) % 0x10000
    let c := (p - 0x8000) / 0x100
    let q := (p - 0x8000) % 0x100
    if p = 0 then s.blkStat (16 * r + b)
    else if p < 0x8000 ∨ c ≥ 16 then 0
    else if q = 0 then s.cellStat (256 * r + 16 * b + c)
    else if 0x40 ≤ q ∧ q < 0x80 then s.threadStat (256 * r + 16 * b + c) ((q - 0x40) / 8)
    else 0

/-- One indexed run of registers: `n` registers of 8 bytes from `base`. -/
def inRun (o base n : Nat) : Option Nat := if base ≤ o ∧ o < base + 8 * n then some ((o - base) / 8) else none

/-- The first of a list of runs that holds the offset. -/
def firstRun (o : Nat) : List (Nat × Nat × (Nat → Word)) → Word
  | [] => 0
  | (base, n, f) :: rs => match inRun o base n with
    | some i => f i
    | none => firstRun o rs

/-- Every run of registers below the COUNTERS window: base, number, and the register of an index. -/
def State.runs0 (s : State) : List (Nat × Nat × (Nat → Word)) := [
  (0x000000, 1, fun _ => s.idWord), (0x000008, 1, fun _ => s.capWord), (0x000010, 1, fun _ => s.moduleState), (0x000100, 4, s.adminWord),
  (0x000200, 2, fun p => (s.host.ports.get (if p = 1 then 1 else 0)).bar2Base),
  (0x100000, 1, fun _ => evcCap), (0x100008, 1, fun _ => s.evcStat), (0x100100, 4, s.targetWord), (0x100900, 25, s.filterWord), (0x101000, 1024, s.srcWord),
  (0x200000, 131072, fun i => s.queueWord (i / 8) (i % 8)),
  (0x400000, 1, fun _ => powerCap), (0x400008, 1, fun _ => s.powerStat), (0x400010, 1, fun _ => s.powerInput), (0x400018, 1, fun _ => s.sagWord),
  (0x400020, 1, fun _ => s.nvmWord), (0x400100, 19, s.dieWord),
  (0x500000, 1, fun _ => s.calStat), (0x500008, 1, fun _ => s.calRecords), (0x500010, 1, fun _ => s.calAge), (0x500100, 8, s.guardWord), (0x501000, 128, s.loopMargin)]

/-- The runs of the Skein, the Creel, ply summation and the light. -/
def State.runs1 (s : State) : List (Nat × Nat × (Nat → Word)) := [
  (0x600000, 1, fun _ => skeinCap), (0x600008, 1, fun _ => s.skeinStat), (0x600010, 1, fun _ => s.lockStat), (0x601000, 128, s.loopMap),
  (0x601400, 128, s.loopHealth), (0x610000, 4352, fun i => s.ringMap (i / 128) (i % 128)),
  (0x700000, 1, fun _ => creelCap), (0x700008, 1, fun _ => s.creelStat), (0x700010, 1, fun _ => s.epochStat), (0x700018, 1, fun _ => s.phaseStat),
  (0x700020, 1, fun _ => s.switchWord), (0x700028, 1, fun _ => s.fenceWord), (0x701000, 34, s.stnBobbins), (0x702000, 16, s.tableWord),
  (0x800000, 1, fun _ => plyCap), (0x800008, 1, fun _ => s.plyStat), (0x801000, 1024, s.plyPortStat), (0x804000, 1024, s.plyMargin),
  (0x810000, 16384, fun i => s.plyMember (i / 16) (i % 16)),
  (0x900000, 1, fun _ => lightCap), (0x900008, 1, fun _ => s.lightStat), (0x900010, 1, fun _ => s.handoverWord), (0x900100, 10, s.cageWord),
  (0x900200, 8, s.groupWord), (0x901000, 128, s.loopLightWord)]

/-- The runs of memory, fabric, time, the Spindle pair, configuration and security. -/
def State.runs2 (s : State) : List (Nat × Nat × (Nat → Word)) := [
  (0xA00000, 1, fun _ => memCap), (0xA00008, 1, fun _ => s.memStat), (0xA00100, 16, s.stackWord), (0xA00200, 16, s.eccWord), (0xA00300, 8, s.memDie),
  (0xB00000, 1, fun _ => reelCap), (0xB00008, 1, fun _ => s.reelStat), (0xB00010, 1, fun _ => s.drainWord),
  (0xB00100, 8, s.portWord), (0xB00200, 8, s.portErr), (0xB00300, 8, s.cmapWord), (0xB00400, 64, fun i => s.creditWord (i / 8) (i % 8)),
  (0xB01000, 64, s.rejectWord), (0xB80000, 65536, s.routeWord),
  (0xC00000, 1, fun _ => s.time.lea), (0xC00008, 1, fun _ => s.timeStat), (0xC00010, 1, fun _ => s.timeClk), (0xC00018, 1, fun _ => s.timeSkew),
  (0xD00000, 1, fun _ => s.spindleStat), (0xD00008, 1, fun _ => s.claimWord), (0xD00010, 1, fun _ => s.distaffWord), (0xD00018, 1, fun _ => s.iolinkWord),
  (0xD00020, 1, fun _ => s.takeoverWord), (0xD00100, 2, fun d => s.selfWord (if d = 1 then 1 else 0)),
  (0xE00000, 1, fun _ => s.configStat), (0xE00008, 1, fun _ => s.configWatch), (0xE00010, 1, fun _ => s.configBoot),
  (0xE00100, 2, fun k => s.slotWord (if k = 1 then 1 else 0)),
  (0xF00000, 1, fun _ => s.secStat), (0xF00008, 1, fun _ => s.secBoot), (0xF00100, 2, fun k => s.fwWord (if k = 1 then 1 else 0)), (0xF00200, 8, s.keyslotWord)]

/-- What a 64-bit read of BAR0 at an 8-byte aligned offset returns; offsets that hold no register, and write-only registers,
read 0. -/
def State.readBar0 (s : State) (o : Nat) : Word :=
  if o ≥ 0x2000000 then s.regionWord ((o - 0x2000000) / 0x200000) ((o - 0x2000000) % 0x200000)
  else if o ≥ 0x1000000 then s.counterWord o
  else firstRun o (s.runs0 ++ s.runs1 ++ s.runs2)

/-- What a read of `size` bytes of BAR0 at offset `o` returns: an access that is not of 64 bits at an 8-byte aligned offset does not
reach the register and returns all ones (R6). -/
def State.bar0Value (s : State) (o size : Nat) : Word := if size = 8 ∧ o % 8 = 0 then s.readBar0 o else BitVec.allOnes 64

end Sys2Proof.Machine
end

