-- ==== Sys2Proof/WellFormed.lean ====
section
/-! DEFINITION. When a command's operands lie in the ranges of the manual's fields: readings that fit their registers,
lists of the lengths that the hardware has, addresses that exist. -/

namespace Sys2Proof

/-- Below a bound. -/
def lt (n m : Nat) : Bool := decide (n < m)

/-- Bytes of BAR0 (R8). -/
def bar0Bytes : Nat := 0x4000000

/-- A failed write is shorter than the longest report (R406). -/
def HostWr.wf : HostWr → Bool
  | .whole => true
  | .failed n => lt n 2097153

/-- Nine domains (R405). -/
def SnapRead.wf (x : SnapRead) : Bool := lt x.misses 512

/-- SVN and MIN_IO_REV are bytes (R434). -/
def FwRead.wf (x : FwRead) : Bool := lt x.svn 256 && lt x.minIoRev 256

/-- Settings whose tables are canonical, with owner slots 0 to 15 (R361, R439). -/
def Settings.wf (x : Settings) : Bool :=
  Tab.wf x.crossing 0 && Tab.wf x.keys {} && (x.keys.all fun e => lt e.1 16) && lt x.capW 65536 && lt x.sagPct 256

/-- Round trips of at most three attempts per crossing (R151). -/
def ResetRead.wf (x : ResetRead) : Bool := lt x.seam.length 4 && lt x.stn.length 4

/-- Region resets name compute regions. -/
def resetsWf (xs : ResetReads) : Bool := xs.all fun x => lt x.1 16 && x.2.wf

/-- A Carding failure fits its entry (R430). -/
def CardFail.wf (f : CardFail) : Bool := lt f.unit_ 256 && lt f.index 65536 && lt f.bit 65536 && lt f.spare 5 && lt f.spareLeft 65536

/-- Spare rows fit REPAIRS (R262). -/
def TrainOutcome.wf : TrainOutcome → Bool
  | .pass n => lt n 256
  | _ => true

/-- A bring-up's findings: four slots, link lanes, ten cages, sixteen stacks (R419). -/
def BringUp.wf (b : BringUp) : Bool :=
  lt b.fwBad 16 && lt b.fwDiffer 4 && lt b.lanes 65536 && lt b.cages 1024 && decide (b.trained.length = 16) &&
  (b.trained.all fun r => r.all fun r => r.wf) && (b.fails.all fun f => f.wf) && resetsWf b.resets && lt b.ms 65536

/-- One value per die, loop, port and station (R411). -/
def AgeRead.wf (x : AgeRead) : Bool :=
  lt x.stagePs.length 9 && lt x.headroom.length 129 && lt x.margin.length 129 && lt x.laser.length 129 && lt x.eye.length 9 && lt x.lin.length 35

/-- 1 to 8 bytes (R110). -/
def MemOp.wf (i : MemOp) : Bool := lt 0 i.bytes && lt i.bytes 9

/-- At most 256 bytes (R110). -/
def VMemOp.wf (i : VMemOp) : Bool := lt 0 i.elem && lt (i.elem * i.count) 257

/-- A descriptor index is 16 bits (R110). -/
def DescRef.wf : DescRef → Bool
  | .reg _ => true
  | .index n => lt n 65536

/-- A flit carries 8 to 256 bytes (R129). -/
def Flit.wf (f : Flit) : Bool := lt f.type_ 16 && lt f.rangeCount 256 && lt f.data.length 257

/-- A Skein packet carries at most 1,024 bytes (R174). -/
def SPkt.wf (p : SPkt) : Bool := lt p.dst 64 && lt p.src 64 && lt p.type_ 16 && lt p.length 1025 && lt p.data.length 1025 && lt p.status 16 && lt p.space 4

/-- Measurements that fit PLY.PORT_MARGIN (R231). -/
def PlyMeas.wf (w : PlyMeas) : Bool := lt w.eqRes 256 && lt w.sigmaUc 65536 && w.codes.all (lt · 64)

/-- A Reel packet carries at most 4,096 bytes (R266). -/
def Pkt.wf (k : Pkt) : Bool := lt k.data.length 4097

/-- The operands of a command lie in their ranges. -/
def Instr.wf : Instr → Bool
  | .nop _ => true
  | .moduleStatus _ => true
  | .moduleReset _ b snap => b.wf && snap.wf
  | .queueCreate _ => true
  | .queueDelete _ => true
  | .configStage _ set _ => set.wf
  | .configApply _ _ _ => true
  | .configRollback _ => true
  | .configRead _ w => w.wf
  | .jobOpen _ => true
  | .loadImage _ => true
  | .unloadImage _ => true
  | .launch _ => true
  | .jobClear _ rr => resetsWf rr
  | .jobAbort _ => true
  | .reelRegister _ => true
  | .reelDeregister _ => true
  | .sharerGroupSet _ => true
  | .mcastGroupSet _ => true
  | .reelInvalidate _ => true
  | .reelKeyRotate _ => true
  | .creelStatus _ => true
  | .tableLoad _ => true
  | .tableUnload _ => true
  | .tableStart _ _ => true
  | .tableStop _ => true
  | .fence _ => true
  | .unfence _ => true
  | .loopWithdraw _ => true
  | .requalify _ l => lt l.x0 17 && lt l.x1 17
  | .reelStatus _ => true
  | .routeLoad _ => true
  | .routeSwap _ => true
  | .portSet _ => true
  | .portRetrain _ => true
  | .leaStep _ => true
  | .powerStatus _ => true
  | .powerCapSet _ => true
  | .regionPark _ => true
  | .regionUnpark _ => true
  | .thermalAck _ b => b.wf
  | .calStatus _ => true
  | .calSave _ w => w.wf
  | .calRestore _ snap => snap.wf
  | .ageingRead _ w => w.wf
  | .lightCommission _ pw => pw.all fun x => decide (x.powers.length = 48)
  | .lightReturn _ => true
  | .secStatus _ => true
  | .attest _ w => w.wf
  | .fwUpdate _ _ fw => fw.wf
  | .testLock _ _ => true
  | .debugMailbox _ => true
  | .snapshot _ => true
  | .snapshotClear _ => true
  | .telemetryStart _ => true
  | .telemetryStop _ => true
  | .recordRead _ w => w.wf
  | .recordClear _ => true
  | .cardingRun _ => true
  | .cardingResult _ w => w.wf
  | .toDevice _ => true
  | .fromDevice _ => true
  | .commandDoorbell _ _ _ => true
  | .dataMoverDoorbell _ _ _ => true
  | .headDoorbell _ _ _ => true
  | .hostEos _ _ => true
  | .adminRingEnable _ _ _ => true
  | .adminRingDisable _ _ _ => true
  | .bar2BaseWrite _ _ _ => true
  | .msixTableWrite _ offset size _ _ => lt offset bar0Bytes && lt 0 size && lt size 65
  | .hostRoWrite _ offset _ => lt offset bar0Bytes && decide (offset % 8 = 0)
  | .badShapeAccess _ offset _ => lt offset bar0Bytes
  | .bar2Read _ offset len => lt offset (2 ^ 40) && lt 0 len && lt len 4097
  | .bar2Write _ offset data _ => lt offset (2 ^ 40) && lt 0 data.length && lt data.length 4097
  | .bar4Access _ offset len data => lt offset (2 ^ 40) && lt 0 len && lt len 4097 && (data.all fun d => decide (d.length = len))
  | .queueDrained _ => true
  | .perstAssert _ => true
  | .perstRelease _ => true
  | .hostLinkDown _ => true
  | .distaffHeartbeat _ => true
  | .peerStampReceive _ _ => true
  | .commandRelease _ => true
  | .digestExchange _ _ => true
  | .selfCheckDone _ _ => true
  | .spindleSelfcheckFail _ check => lt check 16
  | .claimReleased _ => true
  | .coldClaimB => true
  | .spindleBootTimeout _ => true
  | .catchupTimeout _ => true
  | .mirrorRejoin _ => true
  | .iodieLost _ => true
  | .iodieReturn _ l => lt l.x0 17 && lt l.x1 17
  | .iolinkDown => true
  | .watchWindowExpiry => true
  | .configAutoRollback code => lt code 16
  | .nvmWindowOpen _ railMv => lt railMv 65536
  | .failedBoot _ => true
  | .eventFire _ code index _ => lt code (2 ^ 32) && lt index (2 ^ 32)
  | .eventDeliver _ => true
  | .lineChange _ _ => true
  | .lineGlitch _ => true
  | .supplyOn mv _ b => lt mv 65536 && b.wf
  | .sagEnter _ => true
  | .sagExit _ => true
  | .upperBand _ => true
  | .powerFail _ samples => decide (samples.length ≤ 16) && samples.all fun x => lt x.1 65536 && lt x.2 65536
  | .holdupEnd => true
  | .supplyOff => true
  | .failRecover mv b => lt mv 65536 && b.wf
  | .powerWindow watts mv amp10 => lt watts 65536 && lt mv 65536 && lt amp10 65536
  | .powerRelax avg => lt avg 65536
  | .terminalOvercurrent _ => true
  | .thermalReading _ tempC => lt tempC 256
  | .thermalThrottleStep _ => true
  | .thermalShutdown => true
  | .railRampStep _ => true
  | .bandgapCompare uv => lt uv.length 19
  | .ageingSample a => a.wf
  | .ageingAccumulate => true
  | .ageingSummary => true
  | .regionReset _ x => x.wf
  | .regionResetTimeout _ => true
  | .cardingPair _ fails tail x => (fails.all fun f => f.wf) && (tail.all fun f => f.wf) && resetsWf x
  | .cardingThermalStop _ x => resetsWf x
  | .jobFault => true
  | .jobFaultDrainEnd => true
  | .launchStart => true
  | .launchComplete n => lt n (2 ^ 32)
  | .scalarAlu _ _ _ => true
  | .scalarMem _ _ i => i.wf
  | .vectorAlu _ _ _ => true
  | .vectorMem _ _ i => i.wf
  | .convert _ _ i => lt i.src 16 && lt i.dst 16
  | .array _ _ _ _ => true
  | .syncSignal _ _ token n => lt token (2 ^ 32) && lt n (2 ^ 32)
  | .syncWait _ _ token n => lt token (2 ^ 32) && lt n (2 ^ 32)
  | .syncPeek _ _ token n => lt token (2 ^ 32) && lt n (2 ^ 32)
  | .syncFence _ _ => true
  | .syncArrive _ _ barrier _ => lt barrier (2 ^ 32)
  | .moduleBarrierRelease n barrier => lt n (2 ^ 32) && lt barrier 256
  | .barrierTimeout _ barrier => lt barrier 256
  | .desc _ _ ref _ => ref.wf
  | .atomic _ _ _ => true
  | .branch _ _ _ => true
  | .special _ _ _ _ _ => true
  | .endThread _ _ => true
  | .threadQuantum _ => true
  | .slotGrant _ => true
  | .memoryReply _ _ status _ data => lt status 16 && lt data.length 257
  | .seTimeout _ => true
  | .copy _ => true
  | .gather _ => true
  | .scatter _ => true
  | .fill _ => true
  | .rawTx _ => true
  | .rawRx _ => true
  | .ringReduce _ => true
  | .plyTx _ => true
  | .descriptorComplete _ n => lt n (2 ^ 32)
  | .tileIssue _ => true
  | .teaselCompare _ _ => true
  | .replayIssue _ => true
  | .entropyHealthFail _ => true
  | .sramReadError word bits _ => lt word (2 ^ 30) && lt 0 bits && lt bits 73
  | .sramCeWriteback word => lt word (2 ^ 30)
  | .sramScrub word bits => lt word (2 ^ 30) && lt bits 73
  | .seParity _ => true
  | .schedEnd _ => true
  | .schedIssueTile _ => true
  | .schedPostDesc _ => true
  | .schedSignal _ => true
  | .schedArrive _ => true
  | .schedStartThread _ => true
  | .phaseReady _ => true
  | .ringFlitArrival _ f _ => f.wf
  | .ringCreditReturn _ _ => true
  | .ringRsv _ _ _ _ => true
  | .controlMessage _ m _ => lt m.number 4096 && lt m.count 256
  | .redFlitAdd _ _ f _ => f.wf
  | .redTimeout _ group => lt group 4096
  | .droopChange _ mv => lt mv 2048
  | .droopRelease _ => true
  | .gateHold _ periods ps => lt 0 periods && lt periods 256 && lt ps 65536
  | .phaseCheck _ m => lt m.slip.natAbs 256
  | .crossingRecentre _ => true
  | .seamModeSwitch _ rt => rt.all fun n => lt n 256
  | .refAbsent => true
  | .refReturn => true
  | .refLost => true
  | .pllUnlock _ _ => true
  | .leaCompare m => lt m.skews.length 20 && lt m.halves.length 9
  | .timeReq => true
  | .timeResp _ _ _ _ _ _ => true
  | .frameReceive _ _ _ => true
  | .huntTimeout _ _ => true
  | .packetReceive _ _ p _ => p.wf
  | .nak _ _ _ => true
  | .dark _ _ => true
  | .syncNotice _ => true
  | .darkBobbinTimeout _ => true
  | .rawCheckAck _ _ _ => true
  | .skeinHealthWindow _ rings ue => lt rings.length 273 && lt ue (2 ^ 32)
  | .identityWindow _ _ => true
  | .resonanceHeld _ => true
  | .lockTimeout _ => true
  | .ringMuteDone _ => true
  | .demandRequest _ _ => true
  | .demandIdleRelease _ => true
  | .phaseDecision => true
  | .phaseBarrierTrigger barrier => lt barrier 256
  | .phaseSwitch _ ns _ => lt ns (2 ^ 32)
  | .ringRetuneDone _ => true
  | .plyGroupStart _ => true
  | .plyTimeout _ => true
  | .plyWindow _ w => w.wf
  | .plyProofMiss m => lt m.code 64
  | .plyResidueCheck _ codes => lt codes.length 65537 && codes.all (lt · 64)
  | .plyRedo _ _ => true
  | .plyUnderrun _ _ => true
  | .plyConfirm _ _ => true
  | .plyTrainDone _ w => w.wf
  | .plyTrainTimeout _ => true
  | .plyCheckTimeout _ => true
  | .plyLost _ _ => true
  | .lightWindow _ w => decide (w.powers.length = 48)
  | .lightLost _ => true
  | .sourceReady _ => true
  | .armingTimeout _ => true
  | .pauseOpen _ _ ns => lt ns (2 ^ 32)
  | .handoverWaitLapse _ _ ns => lt ns (2 ^ 32)
  | .lightTransfer _ => true
  | .cagePoll _ r => r.all fun x => lt x.tempC 256
  | .hbmRead pa errs _ _ _ => lt pa (2 ^ 40) && lt errs 1025
  | .hbmWrite pa data errs _ => lt pa (2 ^ 40) && lt data.length 129 && lt errs 5
  | .hbmAtomic pa _ size _ _ _ _ errs => lt pa (2 ^ 40) && lt size 17 && lt errs 1025
  | .hbmCeWriteback line => lt line 4500000000
  | .hbmScrub line errs => lt line 4500000000 && lt errs 1025
  | .hbmLink _ => true
  | .stackTempRead _ tempC skeinC => lt tempC 256 && lt skeinC 256
  | .hotSlotFree line => lt line 4500000000
  | .journalExpire _ => true
  | .stackTrainDone _ r => r.wf
  | .reelRead _ k errs => k.wf && lt errs 1025
  | .reelWrite _ k => k.wf
  | .reelAtomic _ k errs => k.wf && lt errs 1025
  | .invalidate _ k => k.wf
  | .mcastWrite _ k => k.wf
  | .bulkWrite _ k => k.wf
  | .bulkRead _ k => k.wf
  | .readResp _ k => k.wf
  | .writeAck _ k => k.wf
  | .atomicResp _ k => k.wf
  | .invAck _ k => k.wf
  | .mcastAck _ k => k.wf
  | .bulkData _ k => k.wf
  | .bulkAck _ k => k.wf
  | .reelRetryResend _ => true
  | .reelTimeout _ => true
  | .atomicTry _ => true
  | .outcomeUnknown _ => true
  | .gatherFlush _ window => lt window 65536
  | .stagedFetch _ piece => lt piece 65536
  | .mcastBranchDrop _ member => lt member 65536
  | .linesHeldEnd _ => true
  | .linkFlit _ f _ => lt f.crCount 1024 && lt f.data.length 245
  | .laneFail _ _ => true
  | .narrowDone _ _ => true
  | .portDown _ cause => lt cause 16
  | .creditTimeout _ _ => true
  | .ackTimeout _ => true
  | .seekBurst _ => true
  | .partnerSignal _ => true
  | .trainDone _ _ rtt => lt rtt 65536
  | .proveTimeout _ => true
  | .quarantineRetry _ => true
  | .downHoldEnd _ => true
  | .linkChallenge _ _ _ => true
  | .linkResponse _ _ port _ _ => lt port 256
  | .linkVerdict _ _ => true
  | .cmapReq _ _ first count => lt first 256 && lt count 256
  | .portReq _ _ => true
  | .cmapSample => true
  | .drainTimeout => true
  | .cageModuleChange _ _ => true
  | .telemetrySample st _ => lt st 5
  | .recoveryImage _ fw => fw.wf
  | .smbusRequest _ _ => true
  | .spindleBootDone _ _ => true
  | .spindleResetTimeout => true
  | .iolinkUp l => lt l.x0 17 && lt l.x1 17
  | .stackRepairDone _ _ rows lanes => lt rows.length 65536 && lt lanes 256
  | .deadlineExpiry _ _ => true
  | .keyRotationEnd => true
  | .hostLinkUp _ => true
  | .dataMoveComplete _ _ => true
  | .terminalCapRelease => true
  | .plyGo _ _ slot => lt slot 256
  | .timeReqAnswer _ _ _ _ _ => true

end Sys2Proof
end

