-- ==== Sys2Proof/Safety.lean ====
section
/-! DEFINITION. What a safe run of the module is, and the conditions claims use. -/

namespace Sys2Proof.Machine

/-- A run is safe when the machine neither faults nor refuses. -/
def Safe (s : State) : Prop := ∃ t, step s = .next t

/-- The Spindle pair executes commands: the module is not BOOTING, no digest mismatch is under self-check, and a
Spindle holds the claim (R338, R352, R354). -/
abbrev Executes (s : State) : Prop := s.mod.state ≠ .booting ∧ s.spin.checking = false ∧ s.spin.claim.isSome = true

/-- No check of R338 refuses the command: the queue it came from still stands (R330), its Distaff is not cut off from
the claim holder (R359), and every check of the common rules and of the verdict `v` passes. -/
abbrev Passes (s : State) (k : CmdSpec) (c : Cmd) (v : Verdict) : Prop :=
  Executes s ∧ s.muted c = false ∧ s.cutOff c = false ∧ check s k c v = none

/-- A command that passes, before its own effect: it has left the merged order, the ranges it names are read, LAST_SEQ
and COMMANDS stand (R335, R360), and an L command has its ACCEPTED entry and is in progress (R339). -/
def accepted (s : State) (k : CmdSpec) (c : Cmd) (v : Verdict) : State := ((s.take c).readFor c v).accept k c

/-- A reply of opcode `op` reaches this module: it arrives at a port that is UP on a die that is present, and it names
this node (R265, R294). -/
abbrev Answered (s : State) (p : RPort) (op : Nat) (k : Pkt) : Prop :=
  s.spin.present.get (dieOfPort p) = true ∧ (s.rp p).state = .up ∧ opcodeKnown op = true ∧ k.opcode.toNat = op ∧ k.dst = s.node

/-- A request of opcode `op` reaches this module and passes the checks of R300 that come before those of R269: it is
not stale, and its source is not fenced. -/
abbrev Asked (s : State) (p : RPort) (op : Nat) (k : Pkt) : Prop :=
  Answered s p op k ∧ s.stale k = false ∧ routeFenced (s.routeOf k.src) = false

/-- The registers of thread `t` of cell `c`, and what holds them, are in the form in which equal contents are equal data. -/
abbrev CellWf (s : State) (c t : Nat) : Prop :=
  Tab.wf s.cell {} = true ∧ Tab.wf (s.cel c).threads {} = true ∧ Tab.wf (s.thr c t).x 0 = true ∧ Tab.wf (s.thr c t).v 0 = true ∧
    Tab.wf (s.cel c).regBad false = true

/-- Thread `t` of cell `c` issues next, and the word at its pointer is good and of class `k` (R82, R96, R110). -/
abbrev Fetches (s : State) (c t k : Nat) : Prop := s.issues c t = true ∧ s.fetchBad c t = false ∧ classOf (s.fetch c t) = k

/-- None of these scalar and vector registers is marked poisoned (R96). -/
abbrev Unmarked (s : State) (c t : Nat) (xs vs : List Nat) : Prop := xs.any (s.xBad c t) = false ∧ vs.any (s.vBad c t) = false

/-- `u` differs from `s` in thread `t` of cell `c` alone: in no other thread, in nothing else of the cell but the record of
the last issue and the poison marks of register-file words `a` to `b` - 1, which are gone, and nowhere else in the machine but in
free values drawn. -/
def OnlyThread (s u : State) (c t : Nat) (a b : Nat := 0) : Prop :=
  u = { s with cell := u.cell, free := u.free } ∧ (∀ k, k ≠ c → u.cel k = s.cel k) ∧ (∀ k, k ≠ t → u.thr c k = s.thr c k) ∧
    (∀ n, (u.cel c).regBad.get false n = if a ≤ n ∧ n < b then false else (s.cel c).regBad.get false n) ∧
    u.cel c = { s.cel c with threads := (u.cel c).threads, runValid := (u.cel c).runValid, lastRun := t, regBad := (u.cel c).regBad }

/-- The same after a write of scalar register `r`, whose mark is gone; of vector register `r`, the marks of whose words are. -/
abbrev OnlyX (s u : State) (c t r : Nat) : Prop := OnlyThread s u c t (regBase t + r) (regBase t + r + 1)
abbrev OnlyV (s u : State) (c t r : Nat) : Prop := OnlyThread s u c t (regBase t + 32 + 32 * r) (regBase t + 64 + 32 * r)

/-- Every memory is in the form in which equal contents are equal data: addresses strictly rising, and nothing listed that
an unlisted address reads as. -/
abbrev MemsWf (m : Mems) : Prop :=
  m.hbm.wf = true ∧ m.sram.wf = true ∧ m.bar4.wf = true ∧ m.hostA.wf = true ∧ m.hostB.wf = true ∧ Tab.wf m.hbmPoison false = true ∧
    Tab.wf m.sramPoison false = true

end Sys2Proof.Machine
end

