-- ==== Sys2Proof/Certificates/Slice0/Obligations.lean ====
section
/-! DEFINITION. The statements for the provers. Each says what the rules it names say of the commands it names: the hypotheses
are on the state and the operands alone, and the conclusion is the next state. An event whose condition does not hold
leaves the state as it is (DESIGN CHOICE, log 2). -/

open Sys2Proof Sys2Proof.Machine

/-! ### The step, and how a Selkan command is taken -/

/-- A step executes the command at the front of the queue on the state with the queue's rest. Every command of the table
completes in every state with a next state: none stops the block. -/
def Obligations.StepRunsFrontCommand : Prop :=
  (∀ (s : State) (c : Instr) (rest : List Instr), step { s with pending := c :: rest } = exec c { s with pending := rest }) ∧
  (∀ (s : State) (c : Instr), ∃ t, exec c s = .next t)

/-- On an empty queue an unpowered module stands still, and a powered one lets one nanosecond pass: with no slew the Lea counter
advances by exactly one, modulo 2^64 (R10). A region whose oscillator does not run keeps its state and its count of beats
(R147); while the rings of the running regions are quiet, HBM, SRAM, the host side, the Spindle pair and the job stay, and what
the circuits have due (queued frames whose bobbin opens, rings and loops that finish locking, a waiting BARRIER switch, Reel
requests whose RETRY wait is over) happens at that nanosecond, nothing where none is due. A beat of quiet rings advances the
region's count by one and changes no other region. The tick on an empty queue is the model's choice (DESIGN CHOICE, log 70). -/
def Obligations.IdleStepPassesTime : Prop :=
  (∀ s : State, s.pending = [] → s.powered = false → step s = .next s) ∧
  (∀ s : State, s.pending = [] → s.powered = true → Tab.wf s.region {} = true → (∀ r < 16, s.paced r = true → (s.reg r).quiet = true) →
    ∃ u : State, step s = .next u.circuits ∧ u.time = s.time.tick.nearer ∧ (s.time.slew = 0 → s.time.frac = 0 → u.time.lea = s.time.lea + 1) ∧
      (∀ r < 16, s.paced r = false → u.reg r = s.reg r) ∧ u.mems = s.mems ∧ u.spin = s.spin ∧ u.host = s.host ∧ u.job = s.job) ∧
  (∀ s : State, (∀ e ∈ s.skein.snd, e.2.queue = []) → (∀ e ∈ s.skein.ring, e.2.state ≠ .relock) → s.creel.run = none → s.creel.start = none →
    s.creel.requal = none → s.skein.state ≠ 1 → (∀ e ∈ s.reelSlots, e.2.waiting = true → e.2.until_ ≠ 0) → s.circuits = s) ∧
  (∀ (s : State) (r : Nat), Tab.wf s.region {} = true → (s.reg r).quiet = true →
    ((s.beatEnd r).reg r).beats = (s.reg r).beats + 1 ∧ (s.beatEnd r).mems = s.mems ∧ ∀ q, q ≠ r → (s.beatEnd r).reg q = s.reg q)

/-- The checks of R338 run in their order: the refusal answered is that of the first check that fails, for every command and every
verdict. Each clause gives the check that fails with all earlier ones passed. An opcode that is not assigned is BAD_OPCODE, and
no command is taken while the module is BOOTING. The statuses have the codes of R342. A command that a check refuses does not
act (R338): whatever its own effect would be, the regions, blocks and cells, the Creel, the Skein, the Reel, the light, the
power state, the configuration, the job, the keys and fuses, HBM, SRAM and COMMANDS stay as they were, when nothing was read for
it. -/
def Obligations.ChecksRefuseInOrder : Prop :=
  ((∀ (s : State) (k : CmdSpec) (c : Cmd) (v : Verdict),
    let new := seqNew (s.queue c.queue.val) c.seq
    let late := c.deadline != 0 && !before c.stamp c.deadline
    let misstate := (k.needsJob && !s.jobOpen) || (k.noJob && s.jobOpen) || v.state
    let unsigned := v.needSig && !(c.signed && v.sigOk)
    let answers := fun st => (check s k c v).map (·.status) = some st
    (new = false → answers .badSeq) ∧
    (new = true → late = true → answers .late) ∧
    (new = true → late = false → v.noFeature = true → answers .badOpcode) ∧
    (new = true → late = false → v.noFeature = false → ((c.malformed s k).isSome = true ∨ v.bad.isSome = true) → answers .badParam) ∧
    (new = true → late = false → v.noFeature = false → c.malformed s k = none → v.bad = none →
      (s.mod.state = .held → k.inHeld = false → answers .held) ∧
      (s.mod.state ≠ .held ∨ k.inHeld = true →
        (misstate = true → answers .badState) ∧
        (misstate = false → v.denied = true → answers .denied) ∧
        (misstate = false → v.denied = false → unsigned = true → answers .badSignature) ∧
        (misstate = false → v.denied = false → unsigned = false → k.nvm = true → s.pow.tempOk = false → answers .tempForbidden) ∧
        (misstate = false → v.denied = false → unsigned = false → k.nvm = true → s.pow.tempOk = true → s.pow.supplyOk = false →
          answers .supplyForbidden) ∧
        (misstate = false → v.denied = false → unsigned = false → (k.nvm = true → s.nvmOpen = true) → (busyHint s k v).isSome = true →
          answers .busy) ∧
        (misstate = false → v.denied = false → unsigned = false → (k.nvm = true → s.nvmOpen = true) → busyHint s k v = none →
          check s k c v = none)))) ∧
  (∀ (s : State) (k : CmdSpec) (c : Cmd) (v : Verdict) (act : State → State), s.mod.state = .booting → selkan k c v act s = s) ∧
  (∀ (s : State) (e : Stamped), opcodeAssigned e.opcode = false → Executes s → s.muted e.cmd = false → s.cutOff e.cmd = false →
    seqNew (s.queue e.cmd.queue.val) e.cmd.seq = true → (e.cmd.deadline = 0 ∨ before e.cmd.stamp e.cmd.deadline = true) →
    (check s { op := e.opcode } e.cmd { noFeature := true }).map (·.status) = some .badOpcode) ∧
  ([Status.ok, .accepted, .badOpcode, .badParam, .badState, .badSeq, .denied, .badSignature, .busy, .timeout, .late, .fault, .held, .tempForbidden,
    .supplyForbidden].map Status.code = [0x0000, 0x0001, 0x0100, 0x0101, 0x0102, 0x0103, 0x0200, 0x0201, 0x0300, 0x0301, 0x0302, 0x0400, 0x0401, 0x0500, 0x0501])) ∧
  (∀ (s : State) (k : CmdSpec) (c : Cmd) (v : Verdict) (act : State → State) (r : Reject),
    Executes s → s.cutOff c = false → s.muted c = false → check s k c v = some r → (r.early = true ∨ cmdReads c v = []) →
    let t := selkan k c v act s
    t.region = s.region ∧ t.block = s.block ∧ t.cell = s.cell ∧ t.creel = s.creel ∧ t.skein = s.skein ∧ t.reel = s.reel ∧ t.light = s.light ∧
      t.pow = s.pow ∧ t.conf = s.conf ∧ t.job = s.job ∧ t.sec = s.sec ∧ t.fuse = s.fuse ∧ t.mems.hbm = s.mems.hbm ∧
      t.mems.sram = s.mems.sram ∧ t.spin.commands = s.spin.commands)

/-- Sequence numbers (R335): a SEQ is new when it lies from 1 to 2^31 - 1 past LAST_SEQ, and any SEQ is new on a queue just created,
just enabled or freed by a PERST. A command whose SEQ is not new is answered BAD_SEQ and moves no LAST_SEQ; one whose SEQ is new
sets LAST_SEQ whatever status it then receives; no other queue's LAST_SEQ moves. -/
def Obligations.SequenceNumbersAreKept : Prop :=
  (∀ (q : QueueSt) (seq : BitVec 32), q.seqSeen = true →
    (seqNew q seq = true ↔ 1 ≤ (seq.toNat + 2 ^ 32 - q.lastSeq.toNat) % 2 ^ 32 ∧ (seq.toNat + 2 ^ 32 - q.lastSeq.toNat) % 2 ^ 32 ≤ 2 ^ 31 - 1)) ∧
  (∀ (s : State) (c : Cmd) (seq : BitVec 32), seqNew (s.newQueue c) seq = true) ∧
  (∀ (k : Fin 4) (w : BitVec 64) (seq : BitVec 32), seqNew (adminQueue k w) seq = true) ∧
  (∀ (s : State) (n : Nat) (seq : BitVec 32), Tab.wf s.host.queues {} = true → seqNew ((s.freeQueue n).queue n) seq = true) ∧
  (∀ (s : State) (k : CmdSpec) (c : Cmd) (v : Verdict) (act : State → State) (r : Reject), Executes s → s.cutOff c = false →
    s.muted c = false → s.spin.mute = none → Tab.wf s.host.queues {} = true → check s k c v = some r →
    let n := c.queue.val
    let t := selkan k c v act s
    (seqNew (s.queue n) c.seq = false → r.status = .badSeq ∧ ∀ m, (t.queue m).lastSeq = (s.queue m).lastSeq) ∧
    (seqNew (s.queue n) c.seq = true → (t.queue n).lastSeq = c.seq ∧ ∀ m, m ≠ n → (t.queue m).lastSeq = (s.queue m).lastSeq)) ∧
  (∀ (s : State) (k : CmdSpec) (c : Cmd) (v : Verdict), Passes s k c v → s.spin.mute = none → Tab.wf s.host.queues {} = true →
    ((accepted s k c v).queue c.queue.val).lastSeq = c.seq ∧
    ∀ m, m ≠ c.queue.val → ((accepted s k c v).queue m).lastSeq = (s.queue m).lastSeq)

/-- A command that passes every check of R338 acts on the state in which it is taken: LAST_SEQ has its SEQ (R335), COMMANDS has
advanced (R360), an L command is in progress behind those that were (R339), and its own effect follows. -/
def Obligations.PassedCommandIsCountedAndActs : Prop :=
  ∀ (s : State) (k : CmdSpec) (c : Cmd) (v : Verdict) (act : State → State), Passes s k c v → s.spin.mute = none →
    Tab.wf s.host.queues {} = true →
    selkan k c v act s = act (accepted s k c v) ∧
    (accepted s k c v).spin.commands = s.spin.commands + 1 ∧
    ((accepted s k c v).queue c.queue.val).lastSeq = c.seq ∧
    (k.long = true → (accepted s k c v).spin.lops = s.spin.lops ++ [{ opcode := k.op, cmd := c, takeover := decide (s.spin.midStep = some c) }]) ∧
    (k.long = false → (accepted s k c v).spin.lops = s.spin.lops) ∧
    (accepted s k c v).region = s.region ∧ (accepted s k c v).job = s.job ∧ (accepted s k c v).conf = s.conf

/-- A completion for a queue that is in service, has room and holds no earlier one back lands in the slot at the tail, its phase bit
1 on odd laps (R325, R334): in queue memory or in the memory of the owner port's host, 32 bytes and no others. The tail advances
by one. -/
def Obligations.CompletionLandsAtTheTail : Prop :=
  ∀ (s : State) (n : Nat) (e : Completion),
    let q := s.queue n
    q.kind = .completion → (q.state = .active ∨ q.state = .draining) → q.held = [] → q.room = true →
    s.mems.bar4.wf = true → (s.mems.host q.port).wf = true → Tab.wf s.host.queues {} = true →
    let t := s.postOne n e
    let ring := fun u : State => if q.space then u.mems.bar4 else u.mems.host q.port
    (ring t).read q.slotAddr 32 = e.bytes q.phase ∧
    (∀ a, a < q.slotAddr ∨ q.slotAddr + 32 ≤ a → (ring t).get 0 a = (ring s).get 0 a) ∧
    (t.queue n).tail = q.tail + 1 ∧ (t.queue n).head = q.head ∧
    t.mems.hbm = s.mems.hbm ∧ t.mems.sram = s.mems.sram ∧ (∀ m, m ≠ n → t.queue m = s.queue m)

/-! ### Status, queues and configuration versions -/

/-- NOP, MODULE_STATUS, CREEL_STATUS, REEL_STATUS, POWER_STATUS, CAL_STATUS and SEC_STATUS complete with OK and the values that
R345 gives them, and change nothing else. QUEUE_CREATE makes the queue it asks for, or the lowest-numbered free one, ACTIVE and
empty, and answers its number. QUEUE_DELETE puts the queue into DRAINING with its untaken entries dropped, and its command stays
in progress; QUEUE_DRAINED makes a quiet DRAINING queue FREE and completes the QUEUE_DELETE that named it with the entries
dropped (R322-R324). A doorbell of the owner port that moves its index forward within the queue is taken: of a command queue,
whose entries are read at once, head and tail stand at the new index; of a data-mover queue the tail does; of a completion or
event queue the head does (R324, R337). -/
def Obligations.StatusIsAnsweredAndQueuesAreMade : Prop :=
  (∀ (s : State) (c : Cmd),
    let on := fun op => accepted s { op := op, inHeld := true } c {}
    let pass := fun op => Passes s { op := op, inHeld := true } c {}
    (pass 0x0100 → exec (.nop c) s = .next ((on 0x0100).done c .ok (result [(16, 8, (on 0x0100).time.lea.toNat)]))) ∧
    (pass 0x0101 → exec (.moduleStatus c) s = .next ((on 0x0101).done c .ok
      (result [(16, 8, (on 0x0101).moduleState.toNat), (24, 8, (on 0x0101).capWord.toNat)]))) ∧
    (pass 0x0501 → exec (.creelStatus c) s = .next ((on 0x0501).done c .ok
      (result [(16, 4, (on 0x0501).creel.epoch.toNat), (20, 1, (on 0x0501).usableLoops), (21, 1, (on 0x0501).creel.table.length)]))) ∧
    (pass 0x0601 → exec (.reelStatus c) s = .next ((on 0x0601).done c .ok
      (result [(16, 2, (on 0x0601).node.toNat), (18, 1, bitsOf ((List.range 8).map fun p => decide (((on 0x0601).rp p).state = .up))),
        (19, 1, (on 0x0601).reel.active.val)]))) ∧
    (pass 0x0701 → exec (.powerStatus c) s = .next ((on 0x0701).done c .ok
      (result [(16, 8, 1000 * (on 0x0701).pow.watts), (24, 8, 1000 * (on 0x0701).pow.capW)]))) ∧
    (pass 0x0801 → exec (.calStatus c) s = .next ((on 0x0801).done c .ok (result [(16, 8, (on 0x0801).calStat.toNat)]))) ∧
    (pass 0x0901 → exec (.secStatus c) s = .next ((on 0x0901).done c .ok (result [(16, 8, (on 0x0901).secStat.toNat)])))) ∧
  ((∀ (s : State) (c : Cmd) (n : Nat),
    Passes s { op := 0x0110, named := [(16, 31)], inHeld := true } c {} → s.createBad c = none → s.queueWanted c = some n →
    let on := accepted s { op := 0x0110, named := [(16, 31)], inHeld := true } c {}
    on.queueWanted c = some n →
    exec (.queueCreate c) s = .next ({ on with host := on.host.setQueue n (on.newQueue c) }.done c .ok (result [(16, 2, n)])) ∧
      (on.newQueue c).state = .active ∧ (on.newQueue c).head = (on.newQueue c).tail ∧ (on.newQueue c).base = c.field on 16 8) ∧
  (∀ (s : State) (c : Cmd),
    let n := c.field s 16 2
    let q := s.queue n
    let k : CmdSpec := { op := 0x0111, named := [(16, 17)], long := true, inHeld := true }
    Passes s k c {} → 4 ≤ n → n < 16384 → q.state ≠ .free → s.namedAsCq n = false → q.port = c.port s →
    exec (.queueDelete c) s = .next (((((accepted s k c {}).setAux c (n + 16384 * q.drops)).eventQueueGone n)).modQueue n fun q =>
      { q with state := .draining, cause := .none, tail := if q.kind.written then q.tail else q.head, held := [] })) ∧
  (∀ (s : State) (q : Queue), (s.queue q.val).state = .draining → s.queueQuiet q.val = true →
    (∀ l, s.spin.lops.find? (fun l => decide (l.opcode = 0x0111) && decide (l.aux % 16384 = q.val)) = some l →
      exec (.queueDrained q) s = .next ((s.freeQueue q.val).done l.cmd .ok (result [(16, 4, l.aux / 16384)]))) ∧
    (s.spin.lops.find? (fun l => decide (l.opcode = 0x0111) && decide (l.aux % 16384 = q.val)) = none →
      exec (.queueDrained q) s = .next (s.freeQueue q.val))) ∧
  (∀ (s : State) (n : Nat), Tab.wf s.host.queues {} = true → (s.freeQueue n).queue n = {}) ∧
  (∀ (s : State) (p : Port) (q : Queue) (i : BitVec 32), s.portLive p = true → Tab.wf s.host.queues {} = true →
    let x := s.queue q.val
    x.state = .active → x.port = p →
    (x.kind = .command → s.mod.state ≠ .booting → s.ringReaches x = true → (i - x.head).toNat ≤ 2 ^ x.sizeLog2 →
      ∃ t, exec (.commandDoorbell p q i) s = .next t ∧ (t.queue q.val).head = i ∧ (t.queue q.val).tail = i ∧ t.mems = s.mems) ∧
    (x.kind = .dataMover → (i - x.head).toNat ≤ 2 ^ x.sizeLog2 →
      ∃ t, exec (.dataMoverDoorbell p q i) s = .next t ∧ (t.queue q.val).head = x.head ∧ (t.queue q.val).tail = i ∧ t.mems = s.mems) ∧
    ((x.kind = .completion ∨ x.kind = .event) → (x.tail - i).toNat ≤ 2 ^ x.sizeLog2 →
      ∃ t, exec (.headDoorbell p q i) s = .next t ∧ (t.queue q.val).head = i ∧ (t.queue q.val).state = .active)))

/-- CONFIG_STAGE puts a good image into the slot that is not active, STAGED, and raises the high-water mark to its version (R366).
CONFIG_APPLY of the staged version puts it in force at once when FABRIC does not change, and opens the 30 s watch window unless
POWER alone changed (R367, R368); a mismatch on the re-read leaves the slot INVALID and answers FAULT; a change of FABRIC drains
the Reel first (R346). CONFIG_READ writes the image of a stored version to host memory (R345). -/
def Obligations.ConfigurationIsStagedAndApplied : Prop :=
  (∀ (s : State) (c : Cmd) (set : Settings) (sig : Bool) (img : List Byte),
    let k : CmdSpec := { op := 0x0201, named := [(16, 28)], long := true, nvm := true, blockForm := true }
    let v : Verdict := { needSig := s.claimed && !secSame s.conf.active.settings set, sigOk := s.signedBy c 0 sig, reads := s.imageReads c }
    let on := accepted s k c v
    Passes s k c v → s.stageBad c set = none → s.conf.watching = false → on.stageImage c = some img →
    let ver := BitVec.ofNat 32 (imageField img 8 4)
    exec (.configStage c set sig) s = .next ({ on with conf := { on.conf with
      slot := on.conf.slot.set (other on.conf.activeIx) { state := .staged, version := ver, actSeq := 0, image := img, settings := set }
      highWater := ver } }.done c .ok (result [(16, 4, ver.toNat)]))) ∧
  (∀ (s : State) (c : Cmd) (sig recheck : Bool),
    let o := s.conf.active.settings
    let n := s.conf.other.settings
    let k : CmdSpec := { op := 0x0202, named := [(16, 19)], long := true, nvm := true, noJob := !onlyPower o n, blockForm := true }
    let v : Verdict := { needSig := s.claimed && !secSame o n, sigOk := s.signedBy c 0 sig }
    let on := accepted s k c v
    Passes s k c v → s.conf.other.state = .staged → s.conf.other.version.toNat = c.field s 16 4 → s.conf.watching = false →
    (fabricSame o n = false → s.reel.drain = none) →
    (recheck = false → exec (.configApply c sig recheck) s = .next ({ on with conf := { on.conf with
      slot := on.conf.slot.mod (other on.conf.activeIx) fun y => { y with state := .invalid } } }.done c .fault)) ∧
    (recheck = true → fabricSame o n = false → exec (.configApply c sig recheck) s = .next (on.startDrain 2 c)) ∧
    (recheck = true → fabricSame o n = true → ∃ t, exec (.configApply c sig recheck) s = .next t ∧
      t.conf.activeIx = other on.conf.activeIx ∧ t.conf.inForce = on.conf.other.settings ∧ t.conf.active.version = on.conf.other.version ∧
      (onlyPower on.conf.active.settings on.conf.other.settings = true → t.conf.watching = on.conf.watching) ∧
      (onlyPower on.conf.active.settings on.conf.other.settings = false → t.conf.watching = true ∧ t.conf.until_ = t.time.lea + 30000000000))) ∧
  (∀ (s : State) (c : Cmd) (w : HostWr) (x : Slot),
    let k : CmdSpec := { op := 0x0204, named := [(16, 19), (24, 31)], long := true, inHeld := true }
    let on := accepted s k c {}
    Passes s k c {} → s.conf.holding (c.field s 16 4) = some x →
    (w = .whole → exec (.configRead c w) s = .next ({ on with mems := on.mems.writeHost (c.port on) (c.field on 24 8) x.bytes }.done c .ok
      (result [(16, 4, x.bytes.length)]))) ∧
    (∀ n, w = .failed n → exec (.configRead c w) s = .next ({ on with
      mems := on.mems.writeHost (c.port on) (c.field on 24 8) (x.bytes.take n) }.done c .fault (result [(28, 4, min n x.bytes.length)]))))

/-- CONFIG_ROLLBACK makes the KEPT slot active again (R369); outside HELD its settings are in force. A watch window that stays open
past 30 s closes with result 1; a failed health check inside it rolls back to the slot it replaced, with the code of the check
as the result, and CONFIG_AUTO_ROLLBACK advances (R368). NVM_WINDOW_OPEN takes the measured temperature and write rail: the
windows of R399 are 0 to 85 °C and 1.746 to 1.854 V, and what waited for them is written when both are open; while one is closed
nothing else happens. FAILED_BOOT of an active version counts one failed boot, and the second rolls back to the KEPT version
(R371); a firmware slot in TRIAL is judged in its stead, and the second failure leaves it BAD and prefers the other slot (R436).
With the windows closed only the count is left out. -/
def Obligations.ConfigurationRollsBackAndFailedBootsCount : Prop :=
  ((∀ (s : State) (c : Cmd),
    let idle := !onlyPower s.conf.active.settings s.conf.other.settings
    let k : CmdSpec := { op := 0x0203, long := true, nvm := true, inHeld := true, noJob := idle }
    let on := accepted s k c {}
    Passes s k c {} → s.conf.other.state = .kept →
    ∃ t, exec (.configRollback c) s = .next t ∧ t.conf.activeIx = other on.conf.activeIx ∧ t.conf.active.version = on.conf.other.version ∧
      t.conf.other.state = .kept ∧ t.conf.rollbackCause = 3 ∧ t.conf.watching = false ∧
      (on.mod.state ≠ .held → t.conf.inForce = on.conf.other.settings) ∧ (on.conf.watching = true → t.conf.lastResult = 6)) ∧
  (∀ s : State, s.conf.watching = true → before s.time.lea s.conf.until_ = false →
    exec .watchWindowExpiry s = .next ({ s with conf := { s.conf with watching := false, lastResult := 1 } }.fire 0x324 1 0
      s.conf.active.version.toNat)) ∧
  (∀ s : State, (s.conf.watching = false ∨ before s.time.lea s.conf.until_ = true) → exec .watchWindowExpiry s = .next s) ∧
  (∀ (s : State) (code : Nat), s.conf.watching = true →
    (code = 2 ∧ s.mod.state = .held ∨ code = 3 ∨ code = 4 ∧ s.conf.fabSecChanged = true ∨ code = 5) →
    ∃ t, exec (.configAutoRollback code) s = .next t ∧ t.conf.activeIx = other s.conf.activeIx ∧ t.conf.watching = false ∧
      t.conf.lastResult = code ∧ t.conf.rollbackCause = 1 ∧ t.conf.writePending = !s.nvmOpen ∧
      (s.mod.state ≠ .held → t.conf.inForce = s.conf.other.settings)) ∧
  (∀ (s : State) (code : Nat), s.conf.watching = false → exec (.configAutoRollback code) s = .next s)) ∧
  ((∀ (s : State) (tempC : Int) (mv : Nat), s.pow.supply ≠ .off →
    let warm := decide (0 ≤ tempC) && decide (tempC ≤ 85)
    let fed := decide (1746 ≤ mv) && decide (mv ≤ 1854)
    let m : State := { s with pow := { s.pow with ioTempC := tempC, railMv := mv, tempOk := warm, supplyOk := fed } }
    exec (.nvmWindowOpen tempC mv) s = .next m.windowsOpen ∧ ((warm && fed) = false → m.windowsOpen = m)) ∧
  (∀ s : State, s.mod.failDue = true → s.mod.state = .held → s.nvmOpen = true → (s.sec.fw.get s.sec.running).state ≠ .trial →
    (s.conf.failedBoots = 0 → ∃ t, exec (.failedBoot true) s = .next t ∧ t.conf.failedBoots = 1 ∧ t.mod.failDue = false ∧
      t.conf.slot = s.conf.slot) ∧
    (s.conf.failedBoots = 1 → s.conf.other.state = .kept → ∃ t, exec (.failedBoot true) s = .next t ∧ t.conf.failedBoots = 0 ∧
      t.conf.rollbackCause = 2 ∧ t.conf.slot = s.conf.activate.slot ∧ t.mod = { s.mod with failDue := false }) ∧
    (s.conf.failedBoots = 1 → s.conf.other.state ≠ .kept → ∃ t, exec (.failedBoot true) s = .next t ∧ t.mod.heldCause = 0x0805 ∧
      t.conf.slot = s.conf.slot)) ∧
  (∀ s : State, s.mod.failDue = true → s.mod.state = .booting → s.elapsed s.mod.bootAt 9000000000 = true → s.nvmOpen = true →
    (s.sec.fw.get s.sec.running).state = .trial →
    (s.sec.trialBoots = 0 → ∃ t, exec (.failedBoot false) s = .next t ∧ t.sec.trialBoots = 1 ∧ t.sec.fw = s.sec.fw) ∧
    (s.sec.trialBoots = 1 → ∃ t, exec (.failedBoot false) s = .next t ∧ t.sec.trialBoots = 0 ∧
      t.sec.preferred = other s.sec.running ∧ (t.sec.fw.get s.sec.running).state = .bad)))

/-! ### Jobs, images and launches -/

/-- JOB_OPEN opens a job under the identifier after the latest one, 0 skipped, and answers it; job state from before is gone (R103,
R451). JOB_ABORT of a job that runs stamps HOST_ABORT with the index 0 at the issuing port's I/O die, and one that has ended is
answered at once (R341). JOB_CLEAR with no launch left frees the job's objects, puts its regions into RESET, and closes the job
when they have left it (R103). -/
def Obligations.JobsOpenAbortAndClose : Prop :=
  (∀ (s : State) (c : Cmd),
    let on := accepted s { op := 0x0301, noJob := true } c {}
    Passes s { op := 0x0301, noJob := true } c {} → s.conf.watching = false → s.card.pending = [] →
    exec (.jobOpen c) s = .next ({ on with
      job := { open_ := some (succ32 s.job.prev), prev := succ32 s.job.prev }
      time := { on.time with stepped := false }
      creel := { on.creel with maxNs := 0 } }.done c .ok (result [(16, 4, (succ32 s.job.prev).toNat)])) ∧ succ32 s.job.prev ≠ 0) ∧
  (∀ (s : State) (c : Cmd),
    let k : CmdSpec := { op := 0x0306, long := true, needsJob := true }
    let on := accepted s k c {}
    Passes s k c {} →
    (s.job.fault ≠ .done → exec (.jobAbort c) s = .next (on.stamp 0x0701 0 (32 + (c.port on).val)) ∧
      ∀ id, s.job.open_ = some id → (on.stamp 0x0701 0 (32 + (c.port on).val)).job.causes =
        s.job.causes ++ [{ code := 0x0701, index := 0, station := 32 + (c.port on).val, stamp := s.time.lea }]) ∧
    (s.job.fault = .done → exec (.jobAbort c) s = .next (on.done c .ok (result [(16, 4, s.jobId.toNat)])))) ∧
  (∀ (s : State) (c : Cmd),
    let k : CmdSpec := { op := 0x0305, long := true, needsJob := true }
    let on := accepted s k c {}
    Passes s k c {} → s.job.launches = [] →
    let mask := bitsOf ((List.range 16).map on.jobRegions.contains)
    exec (.jobClear c []) s = .next (((on.setAux c mask).freeJob).forEach on.jobRegions fun r s => s.enterReset r).resetsDone) ∧
  (∀ (s : State) (l : LOp), s.lop 0x0305 = some l → s.lop 0x0704 = none → s.outOfReset l.aux = true →
    (s.closeJob.done l.cmd .ok (result [(16, 4, s.jobId.toNat)])).lop 0x0704 = none →
    s.resetsDone = s.closeJob.done l.cmd .ok (result [(16, 4, s.jobId.toNat)]) ∧ s.closeJob.job.open_ = none ∧ s.closeJob.job.prev = s.job.prev)

/-- LOAD_IMAGE of an image that R104 to R107 accept, for READY regions, loads it under the next handle with the lowest free run of
guard slots and answers both (R64, R107). UNLOAD_IMAGE frees the slots and forgets the image. LAUNCH appends a launch with the
next sequence number, and it waits (R108); the first waiting launch starts when every region of its mask is READY; a launch
whose deadline has come completes with LATE instead (R337). LAUNCH_COMPLETE, with everything of the launch ended and no cause
stamped, makes the regions READY, pushes each tracked AMAX and answers OK (R68, R108). A tracked tensor's AMAX becomes the
newest entry of its history, which keeps DEPTH + 1 of them, and is cleared; an untracked one is left alone (R68). -/
def Obligations.ImagesAreLoadedAndLaunched : Prop :=
  ((∀ (s : State) (c : Cmd) (bs : List Byte) (first : Nat),
    let a := c.field s 16 8
    let n := c.field s 24 4
    let m := c.field s 28 2
    let k : CmdSpec := { op := 0x0302, named := [(16, 29)], long := true, needsJob := true }
    let v : Verdict := { reads := some (a, n) }
    let on := accepted s k c v
    Passes s k c v → 64 ≤ n → n ≤ 268435456 → m ≠ 0 → readSpace s (c.port s) 1 a n = some bs → s.imageOk m bs = true →
    s.guardRun (fieldAt bs 16 2) = some first → (∀ r ∈ onesOf 16 m, (s.reg r).state = .ready) → s.job.images.length < 64 →
    exec (.loadImage c) s = .next ((on.loadImage m first bs).done c .ok (result [(16, 4, on.job.nextHandle.toNat), (20, 2, first)]))) ∧
  (∀ (s : State) (c : Cmd) (im : Image),
    let h := BitVec.ofNat 32 (c.field s 16 4)
    let k : CmdSpec := { op := 0x0303, named := [(16, 19)], needsJob := true }
    let on := accepted s k c {}
    Passes s k c {} → s.image h = some im → s.imageUsed h = false →
    exec (.unloadImage c) s = .next ({ on.freeGuards im with job := { s.job with
      images := s.job.images.filter fun i => !decide (i.handle = h) } }.done c .ok) ∧ (on.freeGuards im).mems = on.mems) ∧
  (∀ (s : State) (c : Cmd),
    let k : CmdSpec := { op := 0x0304, named := [(16, 22), (24, 47)], long := true, needsJob := true }
    let on := accepted s k c {}
    Passes s k c {} → s.launchBad c = none → s.job.fault = .none → s.refOut = false →
    (∀ r ∈ onesOf 16 (c.field s 20 2), (s.reg r).state.refuses = false) → (s.job.launches.filter fun l : Launch => !l.running).length < 64 →
    exec (.launch c) s = .next { on with job := { on.job with
      launches := on.job.launches ++ [on.newLaunch c], launchSeq := on.job.launchSeq + 1 } } ∧
    (on.newLaunch c).running = false ∧ (on.newLaunch c).seqNo = on.job.launchSeq + 1) ∧
  (∀ (s : State) (l : Launch) (im : Image), s.job.launches.find? (fun l => !l.running) = some l → s.image l.image = some im →
    (l.cmd.deadline = 0 ∨ before s.time.lea l.cmd.deadline = true) → s.job.fault = .none → (∀ r ∈ onesOf 16 l.mask, (s.reg r).state = .ready) →
    exec .launchStart s = .next (s.beginLaunch l im)) ∧
  (∀ (s : State) (l : Launch), s.job.launches.find? (fun l : Launch => !l.running) = some l → l.cmd.deadline ≠ 0 →
    before s.time.lea l.cmd.deadline = false → exec .launchStart s = .next ((s.dropLaunch l.seqNo).done l.cmd .late)) ∧
  (∀ (s : State) (q : Queue) (seq : BitVec 32) (l : Launch),
    s.job.launches.find? (fun l : Launch => !l.running && decide (l.cmd.queue = q) && decide (l.cmd.seq = seq)) = some l →
    (l.cmd.deadline ≠ 0 → before s.time.lea l.cmd.deadline = false →
      exec (.deadlineExpiry q seq) s = .next ((s.dropLaunch l.seqNo).done l.cmd .late)) ∧
    (l.cmd.deadline = 0 ∨ before s.time.lea l.cmd.deadline = true → exec (.deadlineExpiry q seq) s = .next s)) ∧
  (∀ (s : State) (n : Nat) (l : Launch) (im : Image),
    s.job.launches.find? (fun l : Launch => l.running && decide (l.seqNo.toNat = n)) = some l → s.job.causes = [] →
    (∀ r ∈ onesOf 16 l.mask, s.regionIdle r = true) → s.image l.image = some im →
    let pushed := s.forEach ((List.range im.tensors).map (· + im.firstSlot)) fun t s => s.modGuard t Guard.push
    exec (.launchComplete n) s = .next (((pushed.dropLaunch l.seqNo).forEach (onesOf 16 l.mask) fun r s => s.setRegion r .ready).done l.cmd .ok
      (s.launchResult l)))) ∧
  (∀ g : Guard,
    (g.amaxEn = true → g.push = { g with hist := (g.amax :: g.hist).take (g.depth + 1), amax := 0 } ∧ g.push.hist.head? = some g.amax ∧
      g.push.hist.length ≤ g.depth + 1) ∧
    (g.amaxEn = false → g.push = g))

/-- The job-fault sequence (R25): with a cause stamped in an open job, JOB_FAULT halts every RUNNING region, faults the threads
there that have not ended, stops the running phase table and refuses launches from then on; with no job, no cause or a sequence
under way nothing happens. JOB_FAULT_DRAIN_END completes every launch with FAULT, the job has ended and its causes stand. Among
causes whose stamps do not wrap past one another, the primary cause is the one with the earliest Lea stamp, on equal stamps the
one of the lowest-numbered station, and every other cause is secondary (R26). -/
def Obligations.JobFaultHaltsAndEndsTheJob : Prop :=
  ((∀ s : State, s.job.open_.isSome = true → s.job.fault = .none → s.job.causes ≠ [] →
    let draining : State := { s with job := { s.job with fault := .draining } }
    let halted := draining.forEach ((List.range 16).filter fun r => decide ((s.reg r).state = .running)) fun r (u : State) => (u.setRegion r .halted).faultThreads r
    exec .jobFault s = .next (halted.when halted.creel.run.isSome (·.stopTable))) ∧
  (∀ s : State, (s.job.open_ = none ∨ s.job.fault ≠ .none ∨ s.job.causes = []) → exec .jobFault s = .next s) ∧
  (∀ (s : State) (p : Cause), primary s.job.causes = some p → s.job.fault = .draining →
    ∃ t, exec .jobFaultDrainEnd s = .next t ∧ t.job.fault = .done ∧ t.job.launches = [] ∧ t.job.causes = s.job.causes ∧
      t.job.open_ = s.job.open_ ∧ t.reel.mcLines = []) ∧
  (∀ (s : State) (r : Nat), (s.faultThreads r).region = s.region ∧ (s.faultThreads r).mems = s.mems ∧ (s.faultThreads r).job = s.job)) ∧
  (∀ (cs : List Cause) (p : Cause), (∀ c ∈ cs, c.stamp.toNat < 2 ^ 63) → primary cs = some p →
    p ∈ cs ∧ (∀ c ∈ cs, p.stamp.toNat < c.stamp.toNat ∨ p.stamp = c.stamp ∧ p.station ≤ c.station) ∧
    (secondaries cs).length + 1 = cs.length ∧ ∀ c ∈ cs, c = p ∨ c ∈ secondaries cs)

/-! ### Regions, rails, crossings and time -/

/-- A region that changes its state holds the new one, no other region changes, and HBM, SRAM, blocks and cells stay (R101, R109).
REGION_RESET runs the reset of a region in RESET to its end, and the region is READY (R421); one that has not ended after 5 ms
leaves the module in HELD (R431), earlier nothing happens. What HELD leaves (R431): STATE and HELD_CAUSE say so, no region has
power, no block, cell, ply port or bobbin has state, the Skein is down, no launch and no command is left in progress, and fuses,
keys, configuration and HBM stay as they were. A module that is HELD keeps its first cause. -/
def Obligations.RegionsResetAndHeldTakesThePower : Prop :=
  ((∀ (s : State) (r : Nat) (st : RState), Tab.wf s.region {} = true →
    ((s.setRegion r st).reg r).state = st ∧ (∀ q, q ≠ r → (s.setRegion r st).reg q = s.reg q) ∧ (s.setRegion r st).block = s.block ∧
      (s.setRegion r st).cell = s.cell ∧ (s.setRegion r st).mems.hbm = s.mems.hbm ∧ (s.setRegion r st).mems.sram = s.mems.sram) ∧
  (∀ (s : State) (r : Region) (x : ResetRead), (s.reg r).state = .reset → s.mod.state = .ready →
    exec (.regionReset r x) s = .next (s.finishReset r x).resetsDone) ∧
  (∀ (s : State) (r : Region) (x : ResetRead), (s.reg r).state ≠ .reset → exec (.regionReset r x) s = .next s) ∧
  (∀ (s : State) (r : Region), (s.reg r).state = .reset → s.mod.state = .ready → 5000000 ≤ since (s.reg r).resetAt s.time.lea →
    exec (.regionResetTimeout r) s = .next (s.enterHeld 0x0808 r.val)) ∧
  (∀ (s : State) (r : Region), since (s.reg r).resetAt s.time.lea < 5000000 → exec (.regionResetTimeout r) s = .next s)) ∧
  ((∀ (s : State) (code index : Nat), s.mod.state ≠ .held → Tab.wf s.region {} = true →
    let t := s.enterHeld code index
    t.mod.state = .held ∧ t.mod.heldCause = code ∧ (∀ r < 16, (t.reg r).state = .off) ∧ t.block = [] ∧ t.cell = [] ∧ t.ply = [] ∧
      t.skein.state = 0 ∧ t.creel.run = none ∧ t.creel.table = [] ∧ t.job.launches = [] ∧ t.job.open_ = s.job.open_ ∧ t.fuse = s.fuse ∧
      t.sec = s.sec ∧ t.conf = s.conf ∧ t.plan = s.plan ∧ t.mems.hbm = s.mems.hbm) ∧
  (∀ (s : State) (code index : Nat), s.mod.state = .held → s.enterHeld code index = s))

/-- REGION_PARK of READY halves whose siblings are READY sets their rails' targets to 550 mV and leaves them PARKED with their
seams in Queued mode; REGION_UNPARK of PARKED halves sets the targets back to their set-points, guardband included (R391). Each
RAIL_RAMP_STEP of a READY module moves both rails of a die by at most 1 mV toward their targets. LEA_STEP with no job open steps
Lea by the signed number given and sets STEPPED (R160). A droop of 25 mV or more sets the beat of a region to the length R148
gives it, a smaller one leaves the length as it is; DROOP_RELEASE, below 20 mV, makes it one period again, and above does
nothing. GATE_HOLD stretches the beat in hand and is seen in NOW_PS (R145). A net slip of -2 to +2 periods at a Forwarded
crossing is absorbed, any other withholds the crossing's credits and clears DET_OK; a crossing in Queued mode makes no such
check (R153). CROSSING_RECENTRE releases the credits. SEAM_MODE_SWITCH puts a seam of halves that are not PARKED into Queued
mode, and calibrates it back once its rails have settled, if its reset calibration did not fail (R155). The nominal set-point of
750 mV is taken from R3 (PRESUMED, log 5). -/
def Obligations.RailsBeatsAndCrossingsAreKept : Prop :=
  ((∀ (s : State) (c : Cmd),
    let m := c.field s 16 2
    let k : CmdSpec := { op := 0x0703, named := [(16, 17)], long := true }
    Passes s k c {} → m ≠ 0 → (∀ r ∈ onesOf 16 m, (s.reg r).state = .ready ∧ (s.reg (2 * (r / 2) + (1 - r % 2))).state = .ready) →
    exec (.regionPark c) s = .next (((accepted s k c {}).setAux c m).forEach (onesOf 16 m) fun r s => s.parkHalf r)) ∧
  (∀ (s : State) (r : Nat), r < 16 → Tab.wf s.region {} = true → Tab.wf s.cal.railTarget 750 = true →
    ((s.parkHalf r).reg r).state = .parked ∧ ((s.parkHalf r).reg r).seam.mode = 1 ∧ (s.parkHalf r).cal.railTarget.get 750 r = 550) ∧
  (∀ (s : State) (c : Cmd),
    let m := c.field s 16 2
    let k : CmdSpec := { op := 0x0704, named := [(16, 17)], long := true }
    Passes s k c {} → m ≠ 0 → (∀ r ∈ onesOf 16 m, (s.reg r).state = .parked) →
    exec (.regionUnpark c) s = .next (((accepted s k c {}).setAux c m).forEach (onesOf 16 m) fun r (u : State) =>
      { u with cal := { u.cal with railTarget := u.cal.railTarget.set 750 r (750 + s.plan.guard.get 0 (r / 2)) } })) ∧
  (∀ (s : State) (d : Fin 8), s.mod.state ≠ .ready → exec (.railRampStep d) s = .next s) ∧
  (∀ (s : State) (d : Fin 8), s.mod.state = .ready →
    let moved : State := { s with cal := { s.cal with
      railNow := ((s.cal.railNow.set 750 (2 * d.val) (toward (s.cal.railNow.get 750 (2 * d.val)) (s.cal.railTarget.get 750 (2 * d.val)))).mod 750
        (2 * d.val + 1) fun mv => toward mv (s.cal.railTarget.get 750 (2 * d.val + 1)))
      rampAt := if [2 * d.val, 2 * d.val + 1].any fun r => decide (s.cal.railNow.get 750 r ≠ s.cal.railTarget.get 750 r) then s.cal.rampAt.set 0 d s.time.lea else s.cal.rampAt } }
    (Tab.wf s.cal.railNow 750 = true → ∀ r, moved.cal.railNow.get 750 r =
      if r / 2 = d.val then toward (s.cal.railNow.get 750 r) (s.cal.railTarget.get 750 r) else s.cal.railNow.get 750 r) ∧
    exec (.railRampStep d) s = .next ((((moved.unparked (2 * d.val)).unparked (2 * d.val + 1)).parksDone).replanned d)) ∧
  (∀ a b : Nat, (a < b → toward a b = a + 1) ∧ (b < a → toward a b = a - 1) ∧ toward a a = a) ∧
  (∀ (s : State) (c : Cmd),
    let k : CmdSpec := { op := 0x0606, named := [(16, 23)], noJob := true }
    let on := accepted s k c {}
    let lea := s.time.lea + BitVec.ofNat 64 (c.field on 16 8)
    Passes s k c {} → exec (.leaStep c) s = .next ((({ on with time := { s.time with lea := lea, stepped := true } }).fire 0x311 2 0 lea.toNat).done c .ok
      (result [(16, 8, lea.toNat)])))) ∧
  ((∀ (s : State) (r : Region) (mv : Nat), Tab.wf s.region {} = true →
    ∃ t, exec (.droopChange r mv) s = .next t ∧ t = { s with region := t.region } ∧ (∀ q, q ≠ r.val → t.reg q = s.reg q) ∧
      (t.reg r).droopMv = mv ∧ (25 ≤ mv → (t.reg r).droopLen = droopBeat mv) ∧ (mv < 25 → (t.reg r).droopLen = (s.reg r).droopLen) ∧
      (t.reg r).deepest = max (s.reg r).deepest (min mv 255) ∧ (t.reg r).beats = (s.reg r).beats) ∧
  (∀ (s : State) (r : Region), Tab.wf s.region {} = true → (s.reg r).droopMv < 20 →
    ∃ t, exec (.droopRelease r) s = .next t ∧ t = { s with region := t.region } ∧ (∀ q, q ≠ r.val → t.reg q = s.reg q) ∧
      t.reg r = { s.reg r with droopLen := 1 }) ∧
  (∀ (s : State) (r : Region), 20 ≤ (s.reg r).droopMv → exec (.droopRelease r) s = .next s) ∧
  (∀ (s : State) (r : Region) (n ps : Nat), Tab.wf s.region {} = true →
    ∃ t, exec (.gateHold r n ps) s = .next t ∧ t = { s with region := t.region, obs := t.obs } ∧ (∀ q, q ≠ r.val → t.reg q = s.reg q) ∧
      (t.reg r).gate = (s.reg r).gate + n ∧ ps ≤ t.hsNow r ∧ (t.reg r).hsWorst = max (s.reg r).hsWorst ps) ∧
  (∀ (s : State) (r : Region) (slip : Int) (far : Bool), Tab.wf s.region {} = true → (s.reg r).stn.mode = 0 →
    ∃ t, exec (.phaseCheck (.stn r) { slip := slip, far := far }) s = .next t ∧ t = { s with region := t.region, obs := t.obs } ∧ (∀ q, q ≠ r.val → t.reg q = s.reg q) ∧
      (t.reg r).stn.slipMax = max (s.reg r).stn.slipMax (min slip.natAbs 255) ∧
      (slip.natAbs ≤ 2 → (t.reg r).stn.hold = (s.reg r).stn.hold ∧ (t.reg r).stn.detOk = (s.reg r).stn.detOk ∧ t.obs = s.obs) ∧
      (2 < slip.natAbs → (t.reg r).stn.hold = true ∧ (t.reg r).stn.detOk = false)) ∧
  (∀ (s : State) (x : Crossing) (slip : Int) (far : Bool), (s.xing x (xingReceiver x far)).mode ≠ 0 → exec (.phaseCheck x { slip := slip, far := far }) s = .next s) ∧
  (∀ (s : State) (x : Crossing), exec (.crossingRecentre x) s = .next (s.modXing x fun y => { y with hold := false })) ∧
  (∀ (s : State) (d : Fin 8), (s.reg (2 * d.val)).state ≠ .parked → (s.reg (2 * d.val + 1)).state ≠ .parked →
    let told := fun u : State => u.forEach [2 * d.val, 2 * d.val + 1] fun r (u : State) => u.fire (16 * r + 5) 0 r (u.reg r).seam.mode
    exec (.seamModeSwitch d none) s = .next (told (s.modXing (.seam d) fun y => { y with mode := 1, detOk := false })) ∧
    ∀ rt, (s.railsSettled d = true → (s.reg (2 * d.val)).seam.calFails < 3 →
        exec (.seamModeSwitch d (some rt)) s = .next (told (s.modXing (.seam d) (·.recalibrate rt)))) ∧
      (s.railsSettled d = false ∨ 3 ≤ (s.reg (2 * d.val)).seam.calFails → exec (.seamModeSwitch d (some rt)) s = .next s)))

/-- The reference (R156): absent, every PLL goes into holdover and REF_PRESENT clears; back, every PLL is locked; still absent
after 1 ms, the job ends with REF_LOST and launches are refused until the reference has been back for 100 ms and every PLL is
locked. A PLL that unlocks while the reference is there stamps PLL_UNLOCK at its die and fires source 0x311; the third failure
in a row to relock it leaves the module in HELD. LEA_COMPARE holds the copies as compared, keeps the largest difference, counts
a copy that is 4 ns off, and SYNCED says that no two copies of the module lie more than 4 ns apart and no two halves of a die
more than 2 ns (R158). Time over the fabric (R159, R160, R308): the module asks its master once a period over a live port,
unless it is its own, and counts a miss where it has none; the answer to the exchange under way gives the offset, closes the
exchange and makes the master valid; an offset of up to 100 µs is slewed with its sign by up to 100 ppm, fast enough for 20 ns
in 200 µs, and one above is not; any other answer changes nothing; a request for time is answered with its stamps and Lea stays
as it is. The size of a slew is a free value within these bounds (DESIGN CHOICE, log 48). -/
def Obligations.ReferenceAndFabricTimeAreKept : Prop :=
  ((∀ s : State, s.time.refPresent = true → exec .refAbsent s = .next (({ s with time := { s.time with refPresent := false, holdover := true, refLost := s.refOut } }).fire 0x311 0 0 s.time.lea.toNat)) ∧
  (∀ s : State, s.time.refPresent = false → exec .refAbsent s = .next s ∧
    exec .refReturn s = .next { s with time := { s.time with refPresent := true, holdover := false, pllLock := 0x7FFFF, refAt := s.time.lea, relocks := [] } }) ∧
  (∀ s : State, s.time.refPresent = false → s.time.holdover = true → exec .refLost s = .next (({ s with time := { s.time with refLost := true } }).stamp 0x0306 0 32)) ∧
  (∀ s : State, s.time.refPresent = true → exec .refReturn s = .next s ∧ exec .refLost s = .next s) ∧
  (∀ s : State, s.refOut = true ↔ s.time.refLost = true ∧ (s.time.refPresent = true → since s.time.refAt s.time.lea < 100000000 ∨ s.time.pllLock ≠ 0x7FFFF)) ∧
  (∀ (s : State) (d : DieIx), s.time.refPresent = false → ∀ b, exec (.pllUnlock d b) s = .next s) ∧
  (∀ (s : State) (d : DieIx), s.time.refPresent = true → bit s.time.pllLock d.val = true →
    let unlocked := (({ s with time := { s.time with pllLock := s.time.pllLock - 2 ^ d.val } }).stamp 0x0307 d.val (stationOfDie d.val)).fire 0x311 0x0307 d.val
    let n := s.time.relocks.get 0 d.val + 1
    exec (.pllUnlock d true) s = .next { unlocked with time := { unlocked.time with pllLock := unlocked.time.pllLock + 2 ^ d.val, relocks := unlocked.time.relocks.set 0 d.val 0 } } ∧
    unlocked.time.pllLock + 2 ^ d.val = s.time.pllLock ∧
    (n < 3 → exec (.pllUnlock d false) s = .next { unlocked with time := { unlocked.time with relocks := unlocked.time.relocks.set 0 d.val n } }) ∧
    (3 ≤ n → exec (.pllUnlock d false) s = .next (({ unlocked with time := { unlocked.time with relocks := unlocked.time.relocks.set 0 d.val n } } : State).enterHeld 0x0307 d.val))) ∧
  (∀ (s : State) (skews : List Int) (halves : List Nat), ∃ t, exec (.leaCompare { skews := skews, halves := halves }) s = .next t ∧ t = { s with time := t.time, obs := t.obs } ∧
    t.time.lea = s.time.lea ∧ (t.time.synced = true ↔ skewSpread skews ≤ 4 ∧ ∀ h ∈ halves, h ≤ 2) ∧ ((∀ k ∈ skews, k.natAbs ≤ 4) → t.obs = s.obs) ∧
    (∀ k (hk : k < skews.length), t.time.copies.get 0 k = skews[k]) ∧ t.time.skewNow = min (skewSpread skews) 255 ∧ s.time.skewMax ≤ t.time.skewMax)) ∧
  ((∀ s : State, s.conf.inForce.timeMaster = s.node → exec .timeReq s = .next s) ∧
  (∀ (s : State) (p : Nat) (ps : List Nat), s.conf.inForce.timeMaster ≠ s.node → s.livePorts s.conf.inForce.timeMaster = p :: ps → s.reel.timeT1 = none →
    let asked : State := { s with reel := { s.reel with timeMiss := 0, timeT1 := some s.time.lea } }
    exec .timeReq s = .next (asked.sendMgmt p s.conf.inForce.timeMaster 0x0010 (leBytes 8 s.time.lea.toNat))) ∧
  (∀ s : State, s.conf.inForce.timeMaster ≠ s.node → s.livePorts s.conf.inForce.timeMaster = [] →
    let missed : State := { s with reel := { s.reel with timeMiss := min (s.reel.timeMiss + 1) 3, timeT1 := none } }
    exec .timeReq s = .next (missed.when (decide (3 ≤ s.reel.timeMiss + 1)) fun u => u.setMaster false)) ∧
  (∀ (s : State) (t1 t2 t3 t4 : BitVec 64) (corr : Int), s.conf.inForce.timeMaster ≠ s.node → s.reel.timeT1 = some t1 →
    let x : Int := ((t2 - t1).toInt - (t4 - t3).toInt - corr) / 2
    ∃ t, exec (.timeResp s.conf.inForce.timeMaster t1 t2 t3 t4 corr) s = .next t ∧ t.reel.timeT1 = none ∧ t.reel.timeMiss = 0 ∧ t.time.masterValid = true ∧
      t.time.lea = s.time.lea ∧ (100000 < x.natAbs → t.time.slew = 0) ∧
      (x.natAbs ≤ 100000 → min 100 (5 * x.natAbs) ≤ t.time.slew.natAbs ∧ t.time.slew.natAbs ≤ 100 ∧ t.time.slew.sign = x.sign) ∧ t.time.toClose = x.natAbs) ∧
  (∀ (s : State) (src : BitVec 16) (t1 t2 t3 t4 : BitVec 64) (corr : Int), s.reel.timeT1 ≠ some t1 → exec (.timeResp src t1 t2 t3 t4 corr) s = .next s) ∧
  (∀ (s : State) (p : RPort) (src : BitVec 16) (t1 t2 t3 : BitVec 64), s.mgmtUp p = true → exec (.timeReqAnswer p src t1 t2 t3) s =
    .next (s.sendMgmt p src 0x0011 (leBytes 8 t1.toNat ++ leBytes 8 t2.toNat ++ leBytes 8 t3.toNat ++ leBytes 4 0))))

/-! ### The Reel fabric -/

/-- REEL_REGISTER gives out the first free handle with the region it describes; REEL_DEREGISTER takes it back, and it stays out of
use for 250 µs; SHARER_GROUP_SET and MCAST_GROUP_SET replace a group whole (R268, R284, R285). REEL_INVALIDATE holds the
invalidation of its group and sends it, unless a drain is on (R279). REEL_KEY_ROTATE gives the region the new key and keeps the
old one beside it; KEY_ROTATION_END, 250 µs later, forgets the old key and answers it (R442). While both stand, either opens the
region, and no other key does. -/
def Obligations.ReelObjectsAreSetAndInvalidated : Prop :=
  ((∀ (s : State) (c : Cmd) (h : Nat),
    let k : CmdSpec := { op := 0x0401, named := [(16, 32), (36, 39)], needsJob := true }
    let on := accepted s k c {}
    let base := c.field s 16 8
    let len := c.field s 24 8
    Passes s k c {} → base % 1024 = 0 → base < hbmBytes → len % 1024 = 0 → 1024 ≤ len → base + len ≤ hbmBytes → c.field s 32 1 < 32 →
    c.field s 36 4 ≠ 0 → s.freeHandle = some h →
    exec (.reelRegister c) s = .next ({ on with reel := { s.reel with
      regions := s.reel.regions.set none h (some { base := base, length := len, rights := c.field s 32 1, key := BitVec.ofNat 32 (c.field s 36 4) })
      nextHandle := h % 8192 + 1
      gone := s.reel.gone.filter fun g => !s.elapsed g.2 250000 } }.done c .ok (result [(16, 2, h)])) ∧
    1 ≤ h ∧ h ≤ 8192 ∧ s.reel.regions.get none h = none ∧ ∀ g ∈ s.reel.gone, g.1 = h → 250000 ≤ since g.2 s.time.lea) ∧
  (∀ (s : State) (c : Cmd),
    let k : CmdSpec := { op := 0x0402, named := [(16, 17)], long := true, needsJob := true }
    let on := accepted s k c {}
    let h := c.field s 16 2
    Passes s k c {} → s.reel.regions.get none h ≠ none →
    exec (.reelDeregister c) s = .next ({ on with reel := { s.reel with
      regions := s.reel.regions.set none h none, gone := s.reel.gone ++ [(h, s.time.lea)] } }.done c .ok)) ∧
  (∀ (s : State) (c : Cmd) (bs : List Byte),
    let n := c.field s 20 2
    let a := c.field s 24 8
    let k : CmdSpec := { op := 0x0403, named := [(16, 16), (20, 31)], needsJob := true }
    let v : Verdict := { reads := some (a, 2 * n) }
    let on := accepted s k c v
    Passes s k c v → 1 ≤ n → n ≤ 4096 → readSpace s (c.port s) 1 a (2 * n) = some bs →
    let nodes := (List.range n).map fun i => BitVec.ofNat 16 (leNat ((bs.drop (2 * i)).take 2))
    exec (.sharerGroupSet c) s = .next ({ on with reel := { s.reel with sharers := s.reel.sharers.set none (c.field on 16 1) (some nodes) } }.done c .ok)) ∧
  (∀ (s : State) (c : Cmd) (bs : List Byte),
    let n := c.field s 17 1
    let a := c.field s 24 8
    let k : CmdSpec := { op := 0x0404, named := [(16, 18), (20, 39)], needsJob := true }
    let v : Verdict := { reads := some (a, 16 * n) }
    let on := accepted s k c v
    let ms := (List.range n).map (mcMember bs)
    Passes s k c v → s.fuse.mcast = true → 1 ≤ n → n ≤ 64 → c.field s 18 1 ≤ 1 → readSpace s (c.port s) 1 a (16 * n) = some bs →
    (∀ m ∈ ms, routeGateway (s.routeOf m.node) = false) → c.field s 32 8 + 2048 ≤ hbmBytes →
    let g : McGroup := { members := ms, missFault := decide (c.field s 18 1 = 1), key := BitVec.ofNat 32 (c.field on 20 4), maskBase := c.field s 32 8 }
    exec (.mcastGroupSet c) s = .next ({ on with reel := { s.reel with mcast := s.reel.mcast.set none (c.field on 16 1) (some g) } }.done c .ok))) ∧
  ((∀ (s : State) (c : Cmd) (ms : List (BitVec 16)),
    let k : CmdSpec := { op := 0x0405, named := [(16, 16), (20, 35)], long := true, needsJob := true }
    let on := accepted s k c {}
    let started : State := { on with reel := { s.reel with inval := some { cmd := c, members := ms, startAt := s.time.lea, sent := false } } }
    Passes s k c {} → s.reel.sharers.get none (c.field s 16 1) = some ms → c.field s 24 8 % 128 = 0 → c.field s 24 8 < 2 ^ 48 →
    1 ≤ c.field s 32 4 → c.field s 32 4 ≤ 65536 →
    (s.reel.drain.isSome = true → exec (.reelInvalidate c) s = .next started) ∧
    (s.reel.drain = none → exec (.reelInvalidate c) s = .next started.wakeInval)) ∧
  (∀ (s : State) (c : Cmd) (r : RegionReg),
    let h := c.field s 16 2
    let key := BitVec.ofNat 32 (c.field s 20 4)
    let k : CmdSpec := { op := 0x0406, named := [(16, 17), (20, 23)], long := true, needsJob := true }
    let on := accepted s k c {}
    Passes s k c {} → s.reel.regions.get none h = some r → key ≠ 0 → key ≠ r.key → Tab.wf s.reel.regions none = true →
    ∃ t, exec (.reelKeyRotate c) s = .next t ∧ t = (({ on with reel := t.reel } : State).setAux c h) ∧
      t.reel.regions.get none h = some { r with key := key, oldKey := some r.key, rotatedAt := s.time.lea } ∧
      ∀ g, g ≠ h → t.reel.regions.get none g = s.reel.regions.get none g) ∧
  (∀ (s : State) (l : LOp) (r : RegionReg), s.lop 0x0406 = some l → s.reel.regions.get none l.aux = some r →
    (250000 ≤ since r.rotatedAt s.time.lea → exec .keyRotationEnd s = .next ({ s with reel := { s.reel with
      regions := s.reel.regions.set none l.aux (some { r with oldKey := none }) } }.done l.cmd .ok (result [(20, 4, (r.oldKey.getD 0).toNat)]))) ∧
    (since r.rotatedAt s.time.lea < 250000 → exec .keyRotationEnd s = .next s)) ∧
  (∀ (r : RegionReg) (key : BitVec 32), r.opens key = true ↔ key = r.key ∨ r.oldKey = some key))

/-- A request that reaches the home and passes its checks (R269): a READ of a good line answers the line with OK, an admitted WRITE
and an admitted multicast WRITE store their line and answer OK, a bulk write stores its valid lines in order, a bulk read
answers its lines, and an INVALIDATE drops the range and answers. The home's refusals (R269): a request that a check fails is
rejected with that check's status and neither reads nor changes HBM; the checks go in their order: no such handle NOT_PRESENT, a
wrong key, a right not held, a bad range, a failed stack. A Reel ATOMIC is applied at most once (R254, R276): one that its
journal holds is answered with the old value that the journal kept and leaves HBM alone; a new one is applied to its address and
journaled, then answered. -/
def Obligations.HomeServesRejectsAndUpdates : Prop :=
  ((∀ (s : State) (p : RPort) (k : Pkt) (r : RegionReg), Asked s p 0x01 k → s.homeCheck k 0 128 128 = none → s.regionReg k.handle = some r →
    let pa := s.homeAddr k
    s.serves (stackOf pa) = true → s.hotRetry (pa / 128) = none →
    ∀ errs, let c := (s.admitLine (pa / 128) true).probe (pa / 128) errs
      let u := c.2.countCheck .unit c.1 (pa / 128)
      exec (.reelRead p k errs) s = .next (u.replyTo k 0x02 (if c.1.bad then 6 else 0) (u.mems.hbm.read (128 * (pa / 128)) 128)
        fun y => { y with flags := if bit r.rights 4 then 1 else 0 })) ∧
  (∀ (s : State) (p : RPort) (k : Pkt), Asked s p 0x03 k → s.homeCheck k 1 128 128 = none →
    let pa := s.homeAddr k
    s.serves (stackOf pa) = true → s.hotRetry (pa / 128) = none →
    exec (.reelWrite p k) s = .next (((s.admitLine (pa / 128) true).storeHbm pa (k.data.take 128) k.poison).replyTo k 0x04 0)) ∧
  (∀ (s : State) (p : RPort) (k : Pkt), Asked s p 0x09 k → s.homeCheck k 3 128 128 = none →
    let pa := s.homeAddr k
    s.serves (stackOf pa) = true → s.hotRetry (pa / 128) = none →
    exec (.mcastWrite p k) s = .next (((s.admitLine (pa / 128) true).storeHbm pa (k.data.take 128) k.poison).replyTo k 0x0A 0 []
      fun y => { y with aux := k.aux })) ∧
  (∀ (s : State) (p : RPort) (k : Pkt), Asked s p 0x07 k →
    exec (.invalidate p k) s = .next ((s.dropRange (k.key.setWidth 16) k.handle k.offset.toNat k.count.toNat).replyTo k 0x08 0) ∧
    ∀ l ∈ (s.dropRange (k.key.setWidth 16) k.handle k.offset.toNat k.count.toNat).memory.rcache,
      covers (k.key.setWidth 16) k.handle k.offset.toNat k.count.toNat l.node l.handle l.offset = false ∧ l ∈ s.memory.rcache) ∧
  (∀ (s : State) (p : RPort) (k : Pkt), Asked s p 0x0B k →
    let ls := bulkLines k.data
    let pa := s.homeAddr k
    s.homeCheck k 1 128 (128 * ls.foldl (fun a e => max a (e.1 + 1)) 1) = none →
    exec (.bulkWrite p k) s = .next ((s.forEach (ls.filter fun e => s.serves (stackOf (pa + 128 * e.1))) fun e u =>
      (u.admitLine ((pa + 128 * e.1) / 128) true).storeHbm (pa + 128 * e.1) e.2 k.poison).replyTo k 0x0E 0)) ∧
  (∀ (s : State) (p : RPort) (k : Pkt) (r : RegionReg), Asked s p 0x0C k → s.homeCheck k 0 128 (128 * min 32 k.count.toNat) = none →
    s.regionReg k.handle = some r →
    let data := s.mems.hbm.read (s.homeAddr k) (128 * min 32 k.count.toNat)
    ((linesOf (s.homeAddr k) (128 * min 32 k.count.toNat)).filter fun l => s.mems.hbmPoison.get false l) = [] →
    exec (.bulkRead p k) s = .next (s.replyTo k 0x0D 0 (data ++ leBytes (4096 - data.length) 0)
      fun y => { y with aux := k.aux, count := k.count, flags := if bit r.rights 4 then 1 else 0 }))) ∧
  ((∀ (s : State) (k : Pkt) (right unit n : Nat) (sound : Bool),
    (s.regionReg k.handle = none → s.homeCheck k right unit n sound = some 5) ∧
    (∀ r, s.regionReg k.handle = some r →
      (r.opens k.key = false → s.homeCheck k right unit n sound = some 2) ∧
      (r.opens k.key = true → bit r.rights right = false → s.homeCheck k right unit n sound = some 3) ∧
      (r.opens k.key = true → bit r.rights right = true →
        ((sound = false ∨ k.offset.toNat % unit ≠ 0 ∨ r.length < k.offset.toNat / 128 * 128 + max n 128) → s.homeCheck k right unit n sound = some 4) ∧
        (sound = true → k.offset.toNat % unit = 0 → k.offset.toNat / 128 * 128 + max n 128 ≤ r.length →
          s.homeCheck k right unit n sound = if (s.stk (stackOf (r.base + k.offset.toNat))).state = .failed then some 5 else none)))) ∧
  (∀ (s : State) (p : RPort) (k : Pkt) (st : Nat), Asked s p 0x01 k → s.homeCheck k 0 128 128 = some st →
    ∀ errs, exec (.reelRead p k errs) s = .next (s.reject p k 0x02 st) ∧ (s.reject p k 0x02 st).mems = s.mems) ∧
  (∀ (s : State) (p : RPort) (k : Pkt) (st : Nat), Asked s p 0x03 k → s.homeCheck k 1 128 128 = some st →
    exec (.reelWrite p k) s = .next (s.reject p k 0x04 st) ∧ (s.reject p k 0x04 st).mems = s.mems) ∧
  (∀ (s : State) (p : RPort) (k : Pkt) (st errs : Nat), Asked s p 0x05 k →
    s.homeCheck k 2 (reelAopSize k.aop.toNat) (reelAopSize k.aop.toNat) (decide (k.aop.toNat ≤ 11)) = some st →
    exec (.reelAtomic p k errs) s = .next (s.reject p k 0x06 st) ∧ (s.reject p k 0x06 st).mems = s.mems)) ∧
  (∀ (s : State) (p : RPort) (k : Pkt) (errs : Nat),
    let aop := k.aop.toNat
    let pa := s.homeAddr k
    let die := dieOfLine (pa / 128)
    Asked s p 0x05 k → s.homeCheck k 2 (reelAopSize aop) (reelAopSize aop) (decide (aop ≤ 11)) = none →
    (∀ e, s.journaled die false k.src k.tag k.epoch.toNat = some e →
      exec (.reelAtomic p k errs) s = .next ((s.bump Ctr.reelAtomicReplay).replyTo k 0x06 0 (leBytes 16 e.reply.toNat)) ∧
      ((s.bump Ctr.reelAtomicReplay).replyTo k 0x06 0 (leBytes 16 e.reply.toNat)).mems = s.mems) ∧
    (s.journaled die false k.src k.tag k.epoch.toNat = none → s.serves (stackOf pa) = true → s.jUsed die false < 98304 →
      s.hotRetry (pa / 128) = none →
      let c := (s.admitLine (pa / 128) true).probe (pa / 128) errs
      c.1.bad = false →
      let a := c.2.atomicAt pa aop (reelAopSize aop) (BitVec.ofNat 128 (leNat (k.data.take 16))) (BitVec.ofNat 128 (leNat ((k.data.drop 16).take 16)))
      exec (.reelAtomic p k errs) s =
        .next ((a.2.journal ⟨die, false, k.src, k.tag, k.epoch.toNat, a.1, s.time.lea⟩).replyTo k 0x06 0 (leBytes 16 a.1.toNat))))

/-- At a gateway (R282, R283): a window that is full or has been quiet for 2 µs is flushed as bulk writes, and an earlier flush
does nothing; a piece's reads become one bulk read after 0.5 µs, behind the writes gathered to its range; the data that comes
answers each of them and is discarded, and the acknowledgement of a bulk write answers each write gathered in it. The
requester's timers (R274, R275, R277, R286, R302): a request in a RETRY wait that is due is sent again as no further try, a line
of a multicast as the branches it still waits for; an atomic is tried at most three times, each 20 µs after the send before it
and none later than 150 µs after the first; when its answer cannot come any more its outcome is unknown; an atomic, a read or a
write that RETRY has starved for too long, and a read or write unanswered for the timeout, is given up, and an invalidation
unanswered for it completes with TIMEOUT; branches of a multicast line unanswered for it count as missed; a branch that waited
20 µs for credit is dropped; lines held after a re-injection are free after 100 µs. -/
def Obligations.RequesterGathersResendsAndGivesUp : Prop :=
  ((∀ (s : State) (p : RPort) (w : Nat) (g : Gather), (s.reel.gather.filter fun g => decide (g.port = p.val))[w]? = some g →
    (2000 ≤ since g.last s.time.lea ∨ 512 ≤ g.lines.length → exec (.gatherFlush p w) s = .next (s.flushWindow g)) ∧
    (since g.last s.time.lea < 2000 → g.lines.length < 512 → exec (.gatherFlush p w) s = .next s)) ∧
  (∀ (s : State) (p : RPort) (n : Nat) (x : Piece), (s.reel.pieces.filter fun x => decide (x.port = p.val) && x.fetch && !x.sent)[n]? = some x →
    500 ≤ since x.at_ s.time.lea →
    let rest : State := { s with reel := { s.reel with pieces := s.reel.pieces.filter fun y => !decide (y = x) } }
    exec (.stagedFetch p n) s = .next ((rest.flushRange x.node x.handle x.base (x.base + 4096)).sendBulk 0x0C x [] false)) ∧
  (∀ (s : State) (p : RPort) (k : Pkt) (x : Piece), Answered s p 0x0D k → s.pieceOf k true = some x →
    exec (.bulkData p k) s = .next ((s.endPiece x).forEach x.pkts fun r u =>
      u.replyTo r 0x02 k.status.toNat ((k.data.drop (r.offset.toNat % 4096)).take 128) fun y => { y with src := k.src, flags := k.flags })) ∧
  (∀ (s : State) (p : RPort) (k : Pkt) (x : Piece), Answered s p 0x0E k → s.pieceOf k false = some x →
    exec (.bulkAck p k) s = .next ((s.endPiece x).forEach x.pkts fun w u => u.replyTo w 0x04 k.status.toNat [] fun y => { y with src := k.src })) ∧
  (∀ (s : State) (x : Piece), x ∉ (s.endPiece x).reel.pieces)) ∧
  ((∀ (s : State) (tag : BitVec 16),
    let n := tag.toNat
    let r := s.slot n
    let mcLine := s.reel.mcLines.find? fun x => decide (x.tag = n)
    (r.reel = true → r.waiting = true → r.until_ ≠ 0 → before s.time.lea r.until_ = false → (r.opcode ≠ 5 ∨ since r.firstAt s.time.lea < 150000) →
      mcLine = none → exec (.reelRetryResend tag) s = .next ((s.modSlot n fun x => { x with until_ := 0, resend := true }).sendReel n)) ∧
    ((before s.time.lea r.until_ = true ∨ r.opcode = 5 ∧ 150000 ≤ since r.firstAt s.time.lea) → mcLine = none →
      exec (.reelRetryResend tag) s = .next s) ∧
    (∀ x, mcLine = some x → exec (.reelRetryResend tag) s = .next (s.mcResend x)) ∧
    (r.reel = true → r.opcode = 5 → r.waiting = false → r.tries < 3 → 20000 ≤ since r.sentAt s.time.lea → since r.firstAt s.time.lea < 150000 →
      exec (.atomicTry tag) s = .next (s.sendReel n)) ∧
    ((3 ≤ r.tries ∨ since r.sentAt s.time.lea < 20000 ∨ 150000 ≤ since r.firstAt s.time.lea) → exec (.atomicTry tag) s = .next s) ∧
    (r.reel = true → r.opcode = 5 → r.retries = 0 → 3 ≤ r.tries → 20000 ≤ since r.sentAt s.time.lea →
      exec (.outcomeUnknown tag) s = .next ((((s.bump Ctr.reelOutcomeUnknown).slotCause n 0x0604).modBlk (n / 256) (·.release (n % 256))).wakeReel)) ∧
    (r.reel = true → r.opcode = 5 → 0 < r.retries → 0 < r.tries → 150000 ≤ since r.firstAt s.time.lea → exec (.outcomeUnknown tag) s = .next (s.giveUp n 0x0603)) ∧
    (r.reel = true → r.opcode ≠ 5 → r.waiting = false → 1000 * s.conf.inForce.requestUs ≤ since r.sentAt s.time.lea → (∀ x ∈ s.reel.mcLines, x.tag ≠ n) →
      exec (.reelTimeout (.request tag)) s = .next (s.giveUp n 0x0206)) ∧
    (r.reel = true → r.opcode ≠ 5 → 0 < r.retries → 16 * (1000 * s.conf.inForce.requestUs) ≤ since r.firstAt s.time.lea →
      exec (.reelTimeout (.starved tag)) s = .next (s.giveUp n 0x0603))) ∧
  (∀ (s : State) (v : Inval), s.reel.inval = some v → v.sent = true → 1000 * s.conf.inForce.requestUs ≤ since v.startAt s.time.lea →
    exec (.reelTimeout .invalidation) s = .next ({ s with reel := { s.reel with inval := none } }.done v.cmd .timeout v.result)) ∧
  (∀ (s : State) (tag : BitVec 16) (x : McLine) (g : McGroup), (s.reel.mcLines.find? fun x => decide (x.tag = tag.toNat)) = some x →
    s.reel.mcast.get none x.group = some g → 1000 * s.conf.inForce.requestUs ≤ since x.at_ s.time.lea →
    exec (.reelTimeout (.multicast tag)) s =
      .next (s.forEach ((List.range g.members.length).filter fun m => !x.answers.any fun a => decide (a.1 = m)) fun m u => u.mcAnswer tag.toNat m false)) ∧
  (∀ (s : State) (tag : BitVec 16) (x : McLine) (g : McGroup) (m : McMember) (i : Nat),
    let mine := fun k : Pkt => decide (k.opcode = 9) && decide (k.tag = tag) && decide (k.aux.toNat = i) && decide (k.dst = m.node)
    (s.reel.mcLines.find? fun x => decide (x.tag = tag.toNat)) = some x → s.reel.mcast.get none x.group = some g → g.members[i]? = some m →
    (s.rport.any fun e => (e.2.vcq 6).any mine) = true → 20000 ≤ since x.at_ s.time.lea →
    exec (.mcastBranchDrop tag i) s = .next ((s.forEach ((s.rport.filter fun e => (e.2.vcq 6).any mine).map (·.1)) fun p u =>
      u.modRp p fun y => { y with queue := y.queue.mod [] 6 fun q => q.filter fun k => !mine k }).mcAnswer tag.toNat i false)) ∧
  (∀ (s : State) (p : RPort), exec (.linesHeldEnd p) s = .next ({ s with reel := { s.reel with
    held := s.reel.held.filter fun h => decide (h.1 ≠ p.val) || !s.elapsed h.2.2.2.2 100000 } } : State).wakeReel))

/-- A reply whose TAG, EPOCH and request fit a held slot acts on it (R267, R271, R273): a READ's line lands where the slot says,
a WRITE's acknowledgement ends the slot, one that says NOT_PRESENT stamps its cause, an ATOMIC's old value completes it; RETRY
sets the slot to wait for its hint and draw; the answer to an invalidation counts its node as done; an answer to a line of a
multicast counts its member as served, or as missed for NOT_PRESENT and INTERNAL, or lets the branch wait for its hint on RETRY.
A reply that fits no slot changes nothing but the count of stale replies. -/
def Obligations.RepliesEndTheirSlots : Prop :=
  ∀ (s : State) (p : RPort) (k : Pkt),
    let n := k.tag.toNat
    let r := s.slot n
    let fits := fun op => r.reel = true ∧ r.kind ≠ .free ∧ r.opcode = op ∧ r.epoch = k.epoch ∧ (r.node ≠ s.node ∨ r.handle.toNat < 0xFF00)
    let stale := s.bump Ctr.seStaleReply (n / 256)
    (Answered s p 0x02 k → fits 0x01 → k.status = 0 → (k.flags.getLsbD 0 = false ∨ r.noFill = true ∨ r.noCache = true) →
      exec (.readResp p k) s = .next ((s.store r.dstSpace r.dst (k.data.take r.bytes) k.poison).endReel n)) ∧
    (Answered s p 0x02 k → fits 0x01 → k.status = 1 → exec (.readResp p k) s = .next (s.retryWait n k.aux.toNat)) ∧
    (Answered s p 0x02 k → r.epoch ≠ k.epoch → exec (.readResp p k) s = .next stale) ∧
    (Answered s p 0x04 k → fits 0x03 → k.status = 0 → exec (.writeAck p k) s = .next (s.endReel n)) ∧
    (Answered s p 0x04 k → fits 0x03 → k.status = 2 → exec (.writeAck p k) s = .next ((s.slotCause n 0x0601).endReel n)) ∧
    (Answered s p 0x04 k → r.kind = .free → exec (.writeAck p k) s = .next stale) ∧
    (Answered s p 0x06 k → fits 0x05 → k.status = 0 →
      exec (.atomicResp p k) s = .next ((s.atomicDone r (BitVec.ofNat 128 (leNat (k.data.take 16)))).endReel n)) ∧
    (Answered s p 0x06 k → r.opcode ≠ 0x05 → exec (.atomicResp p k) s = .next stale) ∧
    (Answered s p 0x08 k → (k.status = 0 ∨ k.status = 5) → exec (.invAck p k) s = .next (s.invAcked k.src)) ∧
    (Answered s p 0x0A k → r.reel = true → r.epoch = k.epoch → (∃ x ∈ s.reel.mcLines, x.tag = n) →
      (k.status = 0 → exec (.mcastAck p k) s = .next (s.mcAnswer n k.aux.toNat true)) ∧
      (k.status = 7 → exec (.mcastAck p k) s = .next (s.mcAnswer n k.aux.toNat false)) ∧
      (k.status = 5 → exec (.mcastAck p k) s = .next (s.mcAnswer n k.aux.toNat false)) ∧
      (k.status = 1 → exec (.mcastAck p k) s = .next (s.mcRetry n k.aux.toNat k.aux.toNat)))

/-! ### The Creel -/

/-- A DEMAND_REQUEST between two stations that are not fenced, with no grant to the pair within 10 µs and a place, gets the next
index of the pair; its rings begin to lock on its line, those that stand on it stay, and its receivers hunt; one with no pair, a
fenced end or too soon after another is dropped and counted (R190, R192, R193). A lit DEMAND bobbin idle for 100 µs is
withdrawn. 1,000 ns before a LEA phase is due the Creel arms its switch when every region that takes part is ready and every
ring of the phase verified, and defers it by one slot when a region is late; a module barrier's release triggers the BARRIER
switch that names it; at its point the switch runs, or the table stops there in its place, and a BARRIER switch whose rings are
not verified waits (R205, R206); a table that is not resident then begins to tune the rings of the phase after (R204). A ring
that has been retuned is locked (R204). -/
def Obligations.DemandAndPhaseCircuitsAreSwitched : Prop :=
  ((∀ (s : State) (src dst : Stn) (i : Nat) (b : Bob), src ≠ dst → s.isFenced src = false → s.isFenced dst = false →
    (∀ g ∈ s.creel.grants, g.1 = 64 * src.val + dst.val → 10000 ≤ since g.2 s.time.lea) →
    s.demandIndex src dst = some i → s.place s.demandUse.1 s.demandUse.2 { kind := 1, src := src, drops := [dst.val], i := i, sel := 15 } = some b →
    let d : Demand := { src := src, dst := dst, index := i, bob := b, at_ := s.time.lea }
    let lit := (s.forEach b.rings fun r u => u.assignRing r b.line).freshBob (packetId 1 src dst i, b) s.time.lea
    exec (.demandRequest src dst) s = .next ((({ lit with creel := { lit.creel with
        demand := lit.creel.demand ++ [d]
        grants := (64 * src.val + dst.val, s.time.lea) :: lit.creel.grants.filter fun g => decide (g.1 ≠ 64 * src.val + dst.val) } }).bump Ctr.creelGrant)) ∧
    lit.creel = s.creel ∧ 4 ≤ i ∧ i ≤ 19 ∧ ∀ d ∈ s.creel.demand, d.src = src.val → d.dst = dst.val → d.index ≠ i) ∧
  (∀ (s : State) (src dst : Stn), (src = dst ∨ s.isFenced src = true ∨ s.isFenced dst = true ∨
      ∃ g ∈ s.creel.grants, g.1 = 64 * src.val + dst.val ∧ since g.2 s.time.lea < 10000) →
    exec (.demandRequest src dst) s = .next (s.bump Ctr.demandDeny)) ∧
  (∀ (s : State) (id : BitVec 32) (d : Demand), (s.creel.demand.find? fun d => decide (packetId 1 d.src d.dst d.index = id)) = some d →
    (s.lit d.bob = true → 100000 ≤ since d.at_ s.time.lea → exec (.demandIdleRelease id) s = .next (s.withdraw [id])) ∧
    ((s.lit d.bob = false ∨ since d.at_ s.time.lea < 100000) → exec (.demandIdleRelease id) s = .next s))) ∧
  ((∀ (s : State) (r : Run) (p : Nat) (t : TableSt), s.creel.run = some r → r.next = some p → s.table r.handle = some t →
    r.armed = false → s.nextIsBarrier = false → before s.time.lea (dueAt t r p - 1000) = false →
    let late := (takingPart t p).filter fun x => !s.regionReady x p
    let seen : State := { s with creel := { s.creel with lateStn := late.foldl min 63 } }
    (late = [] → seen.ringsReady (t.placed[p]?.getD []) = true → exec .phaseDecision s = .next { seen with creel := { seen.creel with run := some { r with armed := true } } }) ∧
    (late ≠ [] → exec .phaseDecision s = .next (seen.defer t p 1 false))) ∧
  (∀ (s : State) (r : Run) (p : Nat) (t : TableSt), s.creel.run = some r → r.next = some p → s.table r.handle = some t →
    before s.time.lea (dueAt t r p - 1000) = true → exec .phaseDecision s = .next s) ∧
  (∀ (s : State) (r : Run) (p n : Nat) (t : TableSt) (d : PhaseD), s.creel.run = some r → r.next = some p → s.table r.handle = some t →
    t.phases[p]? = some d → r.trigger = none →
    (d.barrier = true → d.barrierId = n → exec (.phaseBarrierTrigger n) s = .next { s with creel := { s.creel with run := some { r with trigger := some s.time.lea } } }) ∧
    (d.barrierId ≠ n → exec (.phaseBarrierTrigger n) s = .next s)) ∧
  (∀ (s : State) (r : Run) (p : Nat) (t : TableSt) (failed : List (BitVec 32 × Nat)) (ns : Nat) (w : List (PlyIx × PlyMeas)), s.creel.run = some r →
    r.next = some p → s.table r.handle = some t →
    let done := (s.switchTo t r p failed ns w).pendNext t p (s.time.lea + BitVec.ofNat 64 ns) r.pauseEnd.isSome
    let ready := s.nextIsBarrier = false ∨ s.ringsReady (t.placed[p]?.getD []) = true
    (s.atSwitch t r p = false → exec (.phaseSwitch failed ns w) s = .next s) ∧
    (s.atSwitch t r p = true → r.stopping = true → exec (.phaseSwitch failed ns w) s =
      .next (s.stopTable.endLops (fun l => decide (l.opcode = 0x0505)) .ok (result [(16, 2, r.live.getD 0)]))) ∧
    (s.atSwitch t r p = true → r.stopping = false → ready → t.resident = true → exec (.phaseSwitch failed ns w) s = .next done) ∧
    (∀ (u : Run) (q : Nat), s.atSwitch t r p = true → r.stopping = false → ready → t.resident = false → done.creel.run = some u → u.next = some q →
      exec (.phaseSwitch failed ns w) s = .next (done.retuneFor (t.placed[q]?.getD []))) ∧
    (s.atSwitch t r p = true → r.stopping = false → ¬ready → exec (.phaseSwitch failed ns w) s = .next s.waitBarrier)) ∧
  (∀ (s : State) (i : RingIx), ((s.ring (ringIx i)).state = .locking ∨ (s.ring (ringIx i)).state = .verify) →
    s.creel.retune.contains (ringIx i) = true → exec (.ringRetuneDone i) s = .next (s.ringLocked (ringIx i))) ∧
  (∀ (s : State) (i : RingIx), (((s.ring (ringIx i)).state ≠ .locking ∧ (s.ring (ringIx i)).state ≠ .verify) ∨ s.creel.retune.contains (ringIx i) = false) →
    exec (.ringRetuneDone i) s = .next s) ∧
  (∀ (s : State) (n : Nat), s.creel.demand = [] → s.creel.start = none → s.creel.requal = none → s.skein.state ≠ 1 →
    let on := s.modRing n fun x => { x with state := .locked, attempts := 0, passed := 0 }
    s.ringLocked n = { on with creel := { on.creel with retune := on.creel.retune.filter (· ≠ n) } }))

/-- TABLE_LOAD of a table that reads and places is held under the lowest free handle, the DEMAND bobbins in its way withdrawn;
TABLE_UNLOAD of one that does not run removes it; TABLE_START begins to tune the rings it starts on and the table runs from its
base once every one of them that is in service stands on its line; TABLE_STOP with FORCE, or with no switch to come, stops it at
once, and otherwise marks it for its next switch point (R205). A stopped table lights nothing. FENCE fences every station named,
UNFENCE unfences those whose regions are neither in RESET nor PARKED, LOOP_WITHDRAW takes a loop out of the usable set, and each
answers as R205 says (R188, R209). A station fenced twice is fenced once. REQUALIFY lights what is dark and begins to bring back
the withdrawn loops whose lines all stand above -1.0 dBm and the FAULTY rings; when every ring has locked or failed and every
loop has been judged it ends with one commit of the epoch, at the trained width of the link when both I/O dies are there (R199,
R200). -/
def Obligations.TablesStationsAndLoopsComeAndGo : Prop :=
  ((∀ (s : State) (c : Cmd) (h : Nat) (t u : TableSt),
    let a := c.field s 16 8
    let n := c.field s 24 4
    let k : CmdSpec := { op := 0x0502, named := [(16, 27)], long := true, needsJob := true }
    let v : Verdict := { reads := some (a, n) }
    let on := accepted s k c v
    Passes s k c v → (readSpace s (c.port s) 1 a n).bind s.readTable = some t → s.freeTable = some h → s.placeTable h t = some u →
    let room := on.withdraw (on.displaced u)
    exec (.tableLoad c) s = .next ({ room with creel := { room.creel with table := room.creel.table.set none h (some u) } }.done c .ok
      (result [(16, 1, h), (17, 1, if u.resident then 1 else 2), (18, 2, mostRings u)]))) ∧
  (∀ (s : State) (c : Cmd),
    let h := c.field s 16 1
    let k : CmdSpec := { op := 0x0503, named := [(16, 16)], needsJob := true }
    let on := accepted s k c {}
    Passes s k c {} → (s.table h).isSome = true → s.tableInUse h = false → exec (.tableUnload c) s = .next ((on.unloadTable h).done c .ok) ∧
      (on.unloadTable h).creel.table = s.creel.table.set none h none) ∧
  (∀ (s : State) (c : Cmd) (w : List (PlyIx × PlyMeas)) (t : TableSt),
    let h := c.field s 16 1
    let k : CmdSpec := { op := 0x0504, named := [(16, 16), (24, 31)], long := true, needsJob := true }
    let on := accepted s k c {}
    let tuned := on.forEach ((startBobs h t).flatMap fun b => (b.2.rings.filter on.ringOk).map fun r => (r, b.2.line)) fun a u => u.assignRing a.1 a.2
    let begun : State := { tuned with creel := { tuned.creel with start := some { handle := h, base := BitVec.ofNat 64 (c.field on 24 8), ply := w } } }
    Passes s k c {} → s.table h = some t → s.creel.run = none → s.creel.start = none → exec (.tableStart c w) s = .next begun.tryStart) ∧
  (∀ (s : State) (x : Starting) (t : TableSt), s.creel.start = some x → s.table x.handle = some t →
    let rings := (startBobs x.handle t).flatMap fun b => b.2.rings.map fun r => (r, b.2.line)
    ((∃ a ∈ rings, s.ringOk a.1 = true ∧ s.tuned a.1 a.2 = false) → s.tryStart = s) ∧
    ((∀ a ∈ rings, s.ringOk a.1 = true → s.tuned a.1 a.2 = true) →
      s.tryStart.creel.run = some { handle := x.handle, base := x.base } ∧ s.tryStart.creel.start = none ∧ s.tryStart.creel.table = s.creel.table)) ∧
  (∀ (s : State) (c : Cmd) (r : Run),
    let h := c.field s 16 1
    let k : CmdSpec := { op := 0x0505, named := [(16, 17)], long := true, needsJob := true }
    let on := accepted s k c {}
    Passes s k c {} → (s.table h).isSome = true → s.creel.run = some r → r.handle = h →
    (c.field s 17 1 = 1 → exec (.tableStop c) s = .next (on.stopTable.done c .ok (result [(16, 2, r.live.getD 0)]))) ∧
    (c.field s 17 1 = 0 → r.next = none → exec (.tableStop c) s = .next (on.stopTable.done c .ok (result [(16, 2, r.live.getD 0)]))) ∧
    (c.field s 17 1 = 0 → r.next ≠ none → exec (.tableStop c) s = .next { on with creel := { on.creel with run := some { r with stopping := true } } })) ∧
  (∀ s : State, s.stopTable.creel.run = none ∧ s.stopTable.creel.retune = [])) ∧
  ((∀ (s : State) (c : Cmd),
    let m := c.field s 16 8
    let k : CmdSpec := { op := 0x0506, named := [(16, 23)], needsJob := true }
    let fenced := (accepted s k c {}).forEach (onesOf 34 m) fun st u => u.fence st
    Passes s k c {} → m < 2 ^ 34 → exec (.fence c) s = .next (fenced.done c .ok (result [(16, 8, fenced.creel.fenced)]))) ∧
  (∀ (s : State) (c : Cmd),
    let m := c.field s 16 8
    let k : CmdSpec := { op := 0x0507, named := [(16, 23)], needsJob := true }
    Passes s k c {} → m < 2 ^ 34 → (∀ st ∈ onesOf 34 m, st < 16 → (s.reg st).state ≠ .reset ∧ (s.reg st).state ≠ .parked) →
    exec (.unfence c) s = .next (((accepted s k c {}).forEach (onesOf 34 m) fun st u => u.unfence st).done c .ok)) ∧
  (∀ (s : State) (c : Cmd),
    let n := c.field s 16 1
    let k : CmdSpec := { op := 0x0508, named := [(16, 16)], needsJob := true }
    let gone := (accepted s k c {}).withdrawLoops [n] 4
    Passes s k c {} → n < 128 → exec (.loopWithdraw c) s = .next (gone.done c .ok (result [(16, 4, gone.creel.epoch.toNat)]))) ∧
  (∀ (s : State) (st : Nat), st < 34 → (s.fence st).isFenced st = true ∧ (s.fence st).fence st = s.fence st ∧ (s.unfence st).isFenced st = false) ∧
  (∀ (s : State) (c : Cmd) (e : LinkEnds),
    let k : CmdSpec := { op := 0x0509, long := true, noJob := true }
    let lit := (accepted s k c {}).forEach (List.range 8) fun g u => u.relight g
    let rings := (lit.skein.ring.filter fun r => decide (r.2.state = .faulty)).map (·.1)
    Passes s k c {} → s.creel.requal = none → ∃ t : State, exec (.requalify c e) s = .next t.tryRequal ∧
      t.creel.requal = some { loops := lit.relit, rings := rings, lanes := e } ∧ t.creel.epoch = s.creel.epoch ∧
      (∀ n ∈ lit.relit, (lit.loopSt n).state = .withdrawn ∧ (lit.grp (n / 16)).state ≠ .dark ∧
        ∀ l, (lit.light.loop.get {} n).level = some l → -100 < l)) ∧
  (∀ (s : State) (q : Requal), s.creel.requal = some q →
    let settled := fun r => (s.ring r).state = .locked ∨ (s.ring r).state = .faulty
    let judged := fun n => q.passed.contains n = true ∨ (s.loopSt n).state ≠ .locking
    (((∃ r ∈ q.rings, ¬settled r) ∨ ∃ n ∈ q.loops, ¬judged n) → s.tryRequal = s) ∧
    ((∀ r ∈ q.rings, settled r) → (∀ n ∈ q.loops, judged n) →
      s.tryRequal.creel.requal = none ∧ s.tryRequal.creel.epoch = succ32 s.creel.epoch ∧ s.tryRequal.skein.epoch = succ32 s.creel.epoch ∧
      (s.spin.present.a = true → s.spin.present.b = true → 4 ≤ linkLanes q.lanes → s.tryRequal.creel.lanes = linkWidth (linkLanes q.lanes)) ∧
      ((s.spin.present.a = false ∨ s.spin.present.b = false) → s.tryRequal.creel.lanes = s.creel.lanes))))

/-! ### Reel ports and routes -/

/-- Port states (R290, R293, R294): a lane that fails narrows an UP port, or takes it DOWN with cause LANES when no good set is
left; NARROW_DONE brings it UP again at the widest good set within 20 µs and DOWN when training failed; an UP port goes DOWN for
a lost signal, credit withheld or acknowledgements missing for their times; a port in SEEK for 50 ms ends a retrain with
TIMEOUT; a partner's signal takes SEEK to TRAIN; training within 50 ms takes it to PROVE at the widest good set, a failure back
to SEEK, and the third DOWN; DOWN ends after 100 ms but not with cause FLAP; a cage's module coming or going wakes the port or
turns it OFF. A port that goes DOWN for the fourth time within 10 s takes cause FLAP, and the cause given otherwise (R293,
R294); its width is 0 and nothing is proven. -/
def Obligations.PortsFollowTheirStateTable : Prop :=
  (∀ (s : State) (p : RPort),
    let x := s.rp p
    let here := s.spin.present.get (dieOfPort p) = true
    (∀ lane : Fin 8, here → x.state = .up → ∀ w, runSet x.lanesOk x.width = some w → bit w.2 lane = true → bit x.lanesOk lane = true →
      let less := s.modRp p fun y => { y with lanesOk := x.lanesOk - 2 ^ lane.val }
      (runSet (x.lanesOk - 2 ^ lane.val) x.width = none → exec (.laneFail p lane) s = .next (less.portDown p 6)) ∧
      (runSet (x.lanesOk - 2 ^ lane.val) x.width ≠ none → exec (.laneFail p lane) s = .next ((less.enterPort p .narrow).bump Ctr.reelNarrow p))) ∧
    (x.state = .narrow → ∀ w, runSet x.lanesOk x.width = some w → since x.since_ s.time.lea < 20000 →
      exec (.narrowDone p true) s = .next ((s.enterPort p .up fun y => { y with width := w.1, most := w.1 }).modRp p fun y => y.pump s.time.lea)) ∧
    (x.state = .narrow → exec (.narrowDone p false) s = .next (s.portDown p 6)) ∧
    (x.state = .up → exec (.portDown p 1) s = .next (s.portDown p 1)) ∧
    (x.state ≠ .up → ∀ cause, exec (.portDown p cause) s = .next s) ∧
    (∀ v : Vc, x.state = .up → (x.vcq v) ≠ [] → x.credit.get 0 v = 0 → 1000 * s.conf.inForce.creditUs ≤ since (x.dryAt.get 0 v) s.time.lea →
      exec (.creditTimeout p v) s = .next (s.portDown p 3)) ∧
    (x.state = .up → x.replay ≠ [] → 10000 ≤ since x.lastAck s.time.lea → exec (.ackTimeout p) s = .next (s.portDown p 4)) ∧
    (x.state = .up → x.replay = [] → exec (.ackTimeout p) s = .next s) ∧
    (x.state = .seek → 50000000 ≤ since x.since_ s.time.lea → exec (.seekBurst p) s = .next (s.endRetrain p 0 .timeout)) ∧
    (x.state = .seek → here → exec (.partnerSignal p) s = .next (s.train p)) ∧
    (∀ lanes rtt w, x.state = .train → since x.since_ s.time.lea < 50000000 → runSet (BitVec.toNat lanes) x.most = some w →
      exec (.trainDone p (some lanes) rtt) s = .next (((s.enterPort p .prove fun y =>
        { y with lanesOk := lanes.toNat, width := w.1, most := w.1, rttNs := min rtt 65535, trainFails := 0 }).prove p).endRetrain p w.1 .ok)) ∧
    (∀ rtt, x.state = .train → x.trainFails < 2 → exec (.trainDone p none rtt) s = .next ((s.enterPort p .seek fun y =>
      { y with trainFails := y.trainFails + 1, width := 0 }).endRetrain p 0 .timeout)) ∧
    (∀ rtt, x.state = .train → 2 ≤ x.trainFails → exec (.trainDone p none rtt) s = .next ((s.portDown p 6).endRetrain p 0 .timeout)) ∧
    (x.state = .down → x.cause ≠ 9 → x.enabled = true → x.present = true → 100000000 ≤ since x.since_ s.time.lea →
      exec (.downHoldEnd p) s = .next (s.enterPort p .seek)) ∧
    (x.cause = 9 → exec (.downHoldEnd p) s = .next s) ∧
    (x.present = false → x.enabled = true → x.state = .off → exec (.cageModuleChange p true) s = .next ((s.modRp p fun y => { y with present := true }).enterPort p .seek)) ∧
    (x.present = true → exec (.cageModuleChange p false) s = .next (((s.modRp p fun y => { y with present := false }).enterPort p .off fun y =>
      { y with cause := 8, width := 0, lanesOk := 0, proven := false, proving := none }).reinject p))) ∧
  (∀ (s : State) (p cause : Nat), Tab.wf s.rport {} = true → (s.rp p).replay = [] → (s.rp p).queue = [] →
    ((s.portDown p cause).rp p).state = .down ∧ ((s.portDown p cause).rp p).width = 0 ∧ ((s.portDown p cause).rp p).proven = false ∧
      ((s.portDown p cause).rp p).cause = if ((s.rp p).downs.filter fun t => decide (since t s.time.lea < 10000000000)).length ≥ 3 then 9 else cause)

/-- The link proof (R295, R441): a challenge is answered with this node's identity; a response with a key trusted for the node,
or for a switch, gives a good verdict, which is sent, and the port is UP once both verdicts are good; one with no such key gives
a bad one that fails the proof; the partner's verdict counts likewise; a proof under way for 10 ms fails, and a QUARANTINE port
tries again after 1 s. A port in QUARANTINE sends those packets alone. Link flits (R291, R292, R297): one that fails its CRC is
counted and asks for a replay in an IDLE flit; a good one acknowledges, replays what a NAK asks, returns credit up to what was
advertised, and a data flit in sequence advances the receiver, its bytes joining those before it, with IDLE flits that give back
the credits of the packets it completes (log 41), while one ahead of the sequence asks; a port that is DOWN takes none. A
management request within the quiet time of its node's last is counted and not answered, any other is answered with the port
words, or the congestion samples asked for, at most 16 (R306, R307). On the multiples of 10,000 ns the fill of each port and
channel is sampled, and 16 samples are kept (R309). -/
def Obligations.LinksAreProvenAndFlitsServed : Prop :=
  ((∀ (s : State) (p : RPort) (nonce : BitVec 256) (from_ : BitVec 16), s.mgmtUp p = true →
    exec (.linkChallenge p nonce from_) s = .next (s.sendMgmt p from_ 0x0002 (leBytes 2 s.node.toNat ++ leBytes 1 p ++ leBytes 1 0 ++
      (List.range 12).flatMap fun i => leBytes 8 (Config.identity nonce from_ i).toNat))) ∧
  (∀ (s : State) (p : RPort) (node : BitVec 16) (port : Nat) (key : BitVec 256), s.mgmtUp p = true → (s.rp p).proving.isSome = true → port < 256 → node ≠ s.node →
    (∃ t ∈ s.conf.inForce.trust, t.key = key ∧ (t.isSwitch = true ∨ t.node = node)) →
    exec (.linkResponse p node port key true) s =
      .next (((s.modRp p fun x => { x with ourVerdict := true, candidate := node }).sendMgmt p node 0x0003 (leBytes 1 1)).proofPassed p)) ∧
  (∀ (s : State) (p : RPort) (node : BitVec 16) (port : Nat) (key : BitVec 256), s.mgmtUp p = true → (s.rp p).proving.isSome = true →
    (∀ t ∈ s.conf.inForce.trust, t.key = key → t.isSwitch = false ∧ t.node ≠ node) →
    exec (.linkResponse p node port key true) s =
      .next (((s.modRp p fun x => { x with ourVerdict := false, candidate := node }).sendMgmt p node 0x0003 (leBytes 1 0)).proofFailed p true)) ∧
  (∀ (s : State) (p : RPort), s.mgmtUp p = true → (s.rp p).proving.isSome = true →
    exec (.linkVerdict p true) s = .next ((s.modRp p fun x => { x with theirVerdict := true }).proofPassed p) ∧
    exec (.linkVerdict p false) s = .next (s.proofFailed p true)) ∧
  (∀ (s : State) (p : RPort), (s.rp p).proving = none → exec (.proveTimeout p) s = .next s ∧ ∀ b, exec (.linkVerdict p b) s = .next s) ∧
  (∀ (s : State) (p : RPort) (t : Lea), (s.rp p).proving = some t → ((s.rp p).state = .prove ∨ (s.rp p).state = .up) → 10000000 ≤ since t s.time.lea →
    exec (.proveTimeout p) s = .next (s.proofFailed p false)) ∧
  (∀ (s : State) (p : RPort), (s.rp p).state = .quarantine → 1000000000 ≤ since ((s.rp p).proving.getD (s.rp p).since_) s.time.lea →
    exec (.quarantineRetry p) s = .next (s.prove p)) ∧
  (∀ (s : State) (p : RPort), Tab.wf s.rport {} = true → (s.rp p).state = .prove → (s.rp p).ourVerdict = true → (s.rp p).theirVerdict = true →
    s.reelSlots = [] → ((s.proofPassed p).rp p).state = .up ∧ ((s.proofPassed p).rp p).partner = (s.rp p).candidate) ∧
  (∀ (x : RPortSt) (v : Nat), x.state = .quarantine → (x.maySend v = true ↔ v = 7))) ∧
  ((∀ (s : State) (p : RPort) (f : LFlit), s.spin.present.get (dieOfPort p) = true → (s.rp p).state = .up →
    let rolled := (s.rollWindow p).modRp p fun x => x.heard f
    exec (.linkFlit p f false) s = .next (rolled.modRp p fun x => { x with crcs := x.crcs + 1, asks := true }.says []) ∧
    (let replayed := f.nak && f.ackValid && !((rolled.rp p).acked f.ack s.time.lea).replay.isEmpty
     let took := rolled.modRp p fun x =>
       let y := if f.ackValid then x.acked f.ack s.time.lea else x
       let z := (if f.nak then y.replayed else y).credited f
       ((z.sequenced f).pump s.time.lea).says (z.returns f)
     exec (.linkFlit p f true) s = .next ((took.when replayed fun u => u.bump Ctr.reelReplay p).tryDrain))) ∧
  (∀ (s : State) (p : RPort) (f : LFlit) (b : Bool), (s.rp p).state = .down → exec (.linkFlit p f b) s = .next s) ∧
  (∀ (x : RPortSt) (f : LFlit),
    (f.kind = 1 → f.seq = x.rxSeq → x.sequenced f = { x with rxSeq := x.rxSeq + 1, asks := false, rx := (x.unpacked f).2 }) ∧
    (f.seq ≠ x.rxSeq → x.sequenced f = { x with asks := x.asks || decide ((f.seq - x.rxSeq).toNat < 2048) }) ∧
    (f.kind ≠ 1 → f.seq = x.rxSeq → x.sequenced f = x)) ∧
  (∀ (x : RPortSt) (f : LFlit), x.state = .up → Tab.wf x.credit 0 = true →
    (x.credited f).credit.get 0 f.crVc = min (x.advertised.get 0 f.crVc) (x.credit.get 0 f.crVc + f.crCount)) ∧
  (∀ (s : State) (p : RPort) (src : BitVec 16), s.mgmtUp p = true →
    (s.askedNow src = true → exec (.portReq p src) s = .next (s.bump Ctr.reelMgmtQuiet p) ∧ ∀ a n, exec (.cmapReq p src a n) s = .next (s.bump Ctr.reelMgmtQuiet p)) ∧
    (s.askedNow src = false →
      exec (.portReq p src) s = .next ((s.noteAsk src).sendMgmt p src 0x0023 ((List.range 8).flatMap fun q => leBytes 8 (s.portWord q).toNat)) ∧
      ∀ a n, let ss := (s.reel.cmap.drop a).take (min n 16)
        exec (.cmapReq p src a n) s = .next ((s.noteAsk src).forEach (List.range ((ss.length + 1) / 2)) fun i u => u.sendMgmt p src 0x0021
          (((ss.drop (2 * i)).take 2).flatMap fun x => leBytes 8 x.1.toNat ++ x.2.map (BitVec.ofNat 8 ·))))) ∧
  (∀ (s : State) (src : BitVec 16), (s.noteAsk src).askedNow src = true) ∧
  (∀ s : State, s.time.lea.toNat % 10000 = 0 →
    let fill := fun p v : Nat => min 255 (255 * (((s.rp p).vcq v).map fun k => 32 + k.data.length).sum / 65536)
    let sample := (s.time.lea, (List.range 64).map fun i => fill (i / 8) (i % 8))
    exec .cmapSample s = .next { s with reel := { s.reel with cmap := (sample :: s.reel.cmap).take 16 } }) ∧
  (∀ s : State, s.time.lea.toNat % 10000 ≠ 0 → exec .cmapSample s = .next s))

/-- ROUTE_LOAD writes the shadow table and leaves the active one; ROUTE_SWAP begins a drain, and when no request is queued or
unacknowledged the tables are exchanged at once (R303, R305). A drain that has lasted 50 µs with requests left discards those
that are queued, counts and reports them, and completes with TIMEOUT: a ROUTE_SWAP's tables are exchanged all the same and its
result gives the time waited and the requests discarded, every other drain's result is 3 (R305). Earlier, or with nothing left,
DRAIN_TIMEOUT changes nothing. PORT_SET that keeps a port's gateway mode enables or disables it at once; one that changes the
mode begins a drain of the module. PORT_RETRAIN of an enabled port with a module takes it DOWN with cause COMMAND at full width
and waits for its training (R310). -/
def Obligations.RoutesAndPortsAreSet : Prop :=
  (∀ (s : State) (c : Cmd) (bs : List Byte),
    let a := c.field s 16 8
    let first := c.field s 24 2
    let n := c.field s 26 4
    let k : CmdSpec := { op := 0x0602, named := [(16, 29)], long := true }
    let v : Verdict := { reads := some (a, 4 * n) }
    let on := accepted s k c v
    let es := (List.range n).map fun i => leNat ((bs.drop (4 * i)).take 4)
    Passes s k c v → 1 ≤ n → first + n ≤ 65536 → readSpace s (c.port s) 1 a (4 * n) = some bs → (∀ e ∈ es, s.routeOk e = true) →
    let routes := s.reel.routes.mod (other s.reel.active) fun t => t.setAll 0 first es
    exec (.routeLoad c) s = .next ({ on with reel := { s.reel with routes := routes } }.done c .ok) ∧
    routes.get s.reel.active = s.reel.routes.get s.reel.active) ∧
  (∀ (s : State) (c : Cmd),
    let k : CmdSpec := { op := 0x0603, long := true }
    Passes s k c {} → s.reel.drain = none → exec (.routeSwap c) s = .next ((accepted s k c {}).startDrain 1 c)) ∧
  (∀ (s : State) (c : Cmd), s.drained = true →
    (s.startDrain 1 c).reel.active = other s.reel.active ∧ (s.startDrain 1 c).reel.drain = none ∧ (s.startDrain 1 c).reel.drainResult = 1) ∧
  (∀ (s : State) (d : Drain), s.reel.drain = some d → (since d.at_ s.time.lea < 50000 ∨ s.drained = true) → exec .drainTimeout s = .next s) ∧
  (∀ (s : State) (d : Drain) (c : Cmd), s.reel.drain = some d → 50000 ≤ since d.at_ s.time.lea → s.drained = false → d.what = 1 → d.cmd = some c →
    let n := (s.rport.map fun p => (p.2.queue.map fun q => (q.2.filter fun k => isRequest k.opcode.toNat).length).sum).sum
    let ns := since d.at_ s.time.lea
    let dropped := (s.forEach (List.range 8) fun p u => u.modRp p (·.dropRequests)).bump Ctr.reelDrainDiscard 0 n
    let r : Reel := { dropped.reel with drainNs := ns, drainResult := 2, discarded := min n 65535 }
    let swapped : State := { dropped with reel := { r with active := other r.active, routed := true } }
    exec .drainTimeout s = .next (((swapped.done c .timeout (result [(16, 4, ns), (20, 4, n)])).fire 0x310 2 0 ns).resume)) ∧
  (∀ (s : State) (d : Drain) (c : Cmd), s.reel.drain = some d → 50000 ≤ since d.at_ s.time.lea → s.drained = false → d.what ≠ 1 → d.cmd = some c →
    let n := (s.rport.map fun p => (p.2.queue.map fun q => (q.2.filter fun k => isRequest k.opcode.toNat).length).sum).sum
    let ns := since d.at_ s.time.lea
    let dropped := (s.forEach (List.range 8) fun p u => u.modRp p (·.dropRequests)).bump Ctr.reelDrainDiscard 0 n
    let kept : State := { dropped with reel := { dropped.reel with drainNs := ns, drainResult := 2, discarded := min n 65535 } }
    exec .drainTimeout s = .next (((kept.done c .timeout (result [(16, 4, 3)])).fire 0x310 2 0 ns).resume)) ∧
  (∀ (s : State) (c : Cmd),
    let p := c.field s 16 1
    let gw := c.field s 18 1
    let k : CmdSpec := { op := 0x0604, named := [(16, 18)] }
    let on := accepted s k c {}
    Passes s k c {} → p < 8 → c.field s 17 1 ≤ 1 → gw ≤ 1 → decide (gw = 1) = (s.rp p).gateway → (gw = 1 → s.fuse.gateway = true) →
    exec (.portSet c) s = .next ((on.setPort p (decide (c.field s 17 1 = 1)) (s.rp p).gateway).done c .ok)) ∧
  (∀ (s : State) (c : Cmd),
    let p := c.field s 16 1
    let gw := c.field s 18 1
    let k : CmdSpec := { op := 0x0604, named := [(16, 18)], long := true, noJob := true }
    Passes s k c {} → p < 8 → c.field s 17 1 ≤ 1 → gw ≤ 1 → decide (gw = 1) ≠ (s.rp p).gateway → (gw = 1 → s.fuse.gateway = true) → s.reel.drain = none →
    exec (.portSet c) s = .next ((accepted s k c {}).startDrain 3 c p)) ∧
  (∀ (s : State) (c : Cmd),
    let p := c.field s 16 1
    let k : CmdSpec := { op := 0x0605, named := [(16, 16)], long := true }
    let on := ((accepted s k c {}).setAux c p).modRp p fun x => { x with most := 8 }
    Passes s k c {} → p < 8 → (s.rp p).enabled = true → (s.rp p).present = true →
    ((s.rp p).state = .down → exec (.portRetrain c) s = .next (on.modRp p fun x => { x with cause := 7 })) ∧
    ((s.rp p).state ≠ .down → exec (.portRetrain c) s = .next ((on.portDown p 7).modRp p fun x => { x with cause := 7 })))

/-! ### Supply, heat, events and bring-up -/

/-- The supply follows its table (R383-R386, R392): SAG below 47.0 V or with HOLD_N, at the larger of the present level and the
sag level, and RUN again at 48.0 V with HOLD_N released, 100 µs in SAG and 100 µs since HOLD_N last moved; entering or leaving
the band from 57.0 to 60.0 V tells; a power-fail (below 43.0 V, 60.0 V or more, or no PWR_GOOD) records its cause, abandons what
is in progress and leaves the supply in FAIL and the module BOOTING; the end of the hold-up and the loss of the input leave
nothing volatile; from FAIL, from OFF, and for a module whose bring-up is still to begin, an input of 48.0 V with PWR_GOOD
begins a cold bring-up. Where the state or the level does not call for it each of these changes nothing. What the loss of the
input leaves (R394): fuses, the guardband plan, firmware slots, stored profiles (unless a write was under way), stored ageing
samples and the hosts' own memory stay; HBM, SRAM, queues, regions, blocks, cells, the job and the Skein are as new. -/
def Obligations.SupplyFollowsItsTable : Prop :=
  ((∀ (s : State) (mv : Nat), s.pow.supply = .run → (mv < 47000 ∨ s.hold = true) →
    let sag : State := { s.measure mv with pow := { (s.measure mv).pow with supply := .sag, sagAt := s.time.lea, sagMin := mv } }
    exec (.sagEnter mv) s = .next (((sag.bump Ctr.sagEnter).fire 0x340 2 0 mv).raiseTo (max s.pow.level s.pow.sagLevel))) ∧
  (∀ (s : State) (mv : Nat), (s.pow.supply ≠ .run ∨ 47000 ≤ mv ∧ s.hold = false) → exec (.sagEnter mv) s = .next s) ∧
  (∀ (s : State) (mv : Nat), s.pow.supply = .sag → 48000 ≤ mv → s.hold = false → 100000 ≤ since s.pow.sagAt s.time.lea →
    100000 ≤ since (s.obs.line.get {} 2).since_ s.time.lea →
    let run : State := { s.measure mv with pow := { (s.measure mv).pow with supply := .run, sagUs := since s.pow.sagAt s.time.lea / 1000 } }
    exec (.sagExit mv) s = .next (run.fire 0x340 1 0 mv).resumeBoot) ∧
  (∀ (s : State) (mv : Nat), (s.pow.supply ≠ .sag ∨ mv < 48000 ∨ s.hold = true ∨ since s.pow.sagAt s.time.lea < 100000 ∨
    since (s.obs.line.get {} 2).since_ s.time.lea < 100000) → exec (.sagExit mv) s = .next s) ∧
  (∀ (s : State) (mv : Nat), s.pow.supply.on = true → decide (57000 ≤ mv ∧ mv ≤ 60000) ≠ s.pow.overV →
    let high := decide (57000 ≤ mv ∧ mv ≤ 60000)
    exec (.upperBand mv) s = .next (({ s.measure mv with pow := { (s.measure mv).pow with overV := high } }).fire 0x340 high.toNat 1 mv)) ∧
  (∀ (s : State) (cause : FailCause) (samples : List (Nat × Nat)), s.pow.supply.on = true → s.failing cause = true →
    ∃ t, exec (.powerFail cause samples) s = .next t ∧ t.pow.supply = .fail ∧ t.mod.state = .booting ∧ t.spin.lops = [] ∧ t.spin.merged = [] ∧
      t.job.launches = [] ∧ t.block = [] ∧ t.cell = [] ∧ t.skein.state = 0 ∧ t.fuse = s.fuse ∧ t.conf = s.conf ∧ t.mems = s.mems) ∧
  (∀ (s : State) (cause : FailCause) (samples : List (Nat × Nat)), (s.pow.supply.on = false ∨ s.failing cause = false) → exec (.powerFail cause samples) s = .next s) ∧
  (∀ (s : State) (mv : Nat), s.failing (.low mv) = decide (mv < 43000) ∧ s.failing (.overvolt mv) = decide (60000 ≤ mv) ∧ s.failing .pwrGood = !s.level 1) ∧
  (∀ s : State, s.pow.supply = .fail → exec .holdupEnd s = .next { s.powerLost with pow := { supply := .fail } }) ∧
  (∀ s : State, s.pow.supply ≠ .off → exec .supplyOff s = .next s.powerLost) ∧
  (∀ (s : State) (mv : Nat) (b : BringUp), s.pow.supply = .fail → 48000 ≤ mv → s.level 1 = true →
    exec (.failRecover mv b) s = .next (s.powerLost.cageLines.coldStart mv b)) ∧
  (∀ (s : State) (mv : Nat) (levels : BitVec 25) (b : BringUp), (s.pow.supply = .off ∨ s.mod.bringupDue = true) → 48000 ≤ mv → levels.getLsbD 1 = true →
    exec (.supplyOn mv levels b) s = .next ((s.readLines levels).coldStart mv b)) ∧
  (∀ (s : State) (mv : Nat) (levels : BitVec 25) (b : BringUp), s.pow.supply ≠ .off → s.mod.bringupDue = false →
    exec (.supplyOn mv levels b) s = .next s) ∧
  (∀ (s : State) (mv : Nat) (levels : BitVec 25) (b : BringUp), (mv < 48000 ∨ levels.getLsbD 1 = false) →
    exec (.supplyOn mv levels b) s = .next s ∧ (mv < 48000 → exec (.failRecover mv b) s = .next s))) ∧
  (∀ s : State,
    let t := s.powerLost
    t.fuse = s.fuse ∧ t.plan = s.plan ∧ t.sec.fw = s.sec.fw ∧ t.sec.preferred = s.sec.preferred ∧ t.obs.store = s.obs.store ∧
      t.cal.stored = s.cal.stored ∧ t.cal.summaries = s.cal.summaries ∧ t.mems.hostA = s.mems.hostA ∧ t.mems.hostB = s.mems.hostB ∧
      (s.conf.writePending = false → t.conf.slot = s.conf.slot ∧ t.conf.highWater = s.conf.highWater ∧ t.conf.failedBoots = s.conf.failedBoots) ∧
      t.mems.hbm = [] ∧ t.mems.sram = [] ∧ t.mems.bar4 = [] ∧ t.host.queues = [] ∧ t.region = [] ∧ t.block = [] ∧ t.cell = [] ∧ t.guard = [] ∧
      t.job = {} ∧ t.skein = {} ∧ t.creel = {} ∧ t.spin = {} ∧ t.pow.supply = .off ∧ t.mod.state = .booting ∧ t.pending = s.pending)

/-- POWER_CAP_SET takes an active cap of 3,000 to 5,000 W and a sag cap of 60 to 100 % (R387). A window above the effective cap
raises the throttle level by one, up to T4; an average at or below 90 % of it lowers the level by one, down to T0, 100 µs or
more after the level last moved (R389). A terminal overcurrent caps the module at 3,000 W until both terminals share again
(R461); the effective cap is the set one, less in SAG and under that cap. A reading of a powered unit puts it into the zone of
R395, entered when a level is reached and cleared 5 degrees below it, and entering a level tells (R396); a compute die goes up
one step of throttling, at most every 100 µs, while it or the Skein over it is in the throttle zone or the alert of the last
second asks, and otherwise down one, at most every second; a unit in the shutdown zone takes the module to HELD with cause
0x0806 and the supply to SHUTDOWN (R397, R398). THERMAL_ACK of the last unacknowledged shutdown record begins the bring-up that
waited, and of another only acknowledges it. -/
def Obligations.CapsAndTemperatureThrottle : Prop :=
  ((∀ (s : State) (c : Cmd),
    let k : CmdSpec := { op := 0x0702, named := [(16, 20)] }
    let on := accepted s k c {}
    Passes s k c {} → 3000 ≤ c.field s 16 4 → c.field s 16 4 ≤ 5000 → 60 ≤ c.field s 20 1 → c.field s 20 1 ≤ 100 →
    exec (.powerCapSet c) s = .next ({ on with pow := { s.pow with capW := c.field s 16 4, sagPct := c.field s 20 1 } }.done c .ok)) ∧
  (∀ (s : State) (w mv a : Nat), s.pow.supply.on = true →
    let seen : State := { s.measure mv with pow := { (s.measure mv).pow with watts := w, amp10 := a } }
    (s.pow.effective < w → exec (.powerWindow w mv a) s = .next (seen.raiseTo (min (s.pow.level + 1) 4))) ∧
    (w ≤ s.pow.effective → exec (.powerWindow w mv a) s = .next seen)) ∧
  (∀ (s : State) (avg : Nat), s.pow.supply.on = true → 0 < s.pow.level → 10 * avg ≤ 9 * s.pow.effective → 100000 ≤ since s.pow.stepAt s.time.lea →
    exec (.powerRelax avg) s = .next { s with pow := { s.pow with level := s.pow.level - 1, stepAt := s.time.lea } }) ∧
  (∀ (s : State) (avg : Nat), (s.pow.level = 0 ∨ 9 * s.pow.effective < 10 * avg ∨ since s.pow.stepAt s.time.lea < 100000) → exec (.powerRelax avg) s = .next s) ∧
  (∀ (s : State) (t : Fin 2), s.pow.supply.on = true →
    exec (.terminalOvercurrent t) s = .next (({ s with pow := { s.pow with termCap := true } }).fire 0x342 2 t.val)) ∧
  (∀ s : State, exec .terminalCapRelease s = .next { s with pow := { s.pow with termCap := false } }) ∧
  (∀ p : Pow, (p.termCap = true → p.effective ≤ 3000) ∧ (p.termCap = false → p.supply ≠ .sag → p.effective = p.capW) ∧
    (p.supply = .sag → p.effective ≤ 50 * p.sagPct))) ∧
  ((∀ (s : State) (w : Watched) (t : Nat), s.warm w = true →
    let z := zoneAfter (thresholds w) (s.zoneOf w) t
    let d := watchedDie w
    let warned := (s.putTemp w z t).when (decide (s.zoneOf w < 1) && decide (z ≥ 1)) fun u => (u.bump Ctr.thermWarn d).fire 0x343 (watchedKind w) d t
    let throttled := warned.when (decide (s.zoneOf w < 2) && decide (z ≥ 2)) fun u => (u.bump Ctr.thermThrottle d).fire 0x344 (watchedKind w) d t
    exec (.thermalReading w t) s = .next (throttled.when (decide (s.zoneOf w < 3) && decide (z ≥ 3)) fun u => u.fire 0x345 (watchedKind w) d t)) ∧
  (∀ (s : State) (w : Watched) (t : Nat), s.warm w = false → exec (.thermalReading w t) s = .next s) ∧
  (∀ z t : Nat, zoneAfter [95, 105, 115] z t =
    if 115 ≤ t ∨ (3 ≤ z ∧ 110 < t) then 3 else if 105 ≤ t ∨ (2 ≤ z ∧ 100 < t) then 2 else if 95 ≤ t ∨ (1 ≤ z ∧ 90 < t) then 1 else 0) ∧
  (∀ (s : State) (d : DieIx), d.val < 8 → s.mod.state ≠ .held → Tab.wf s.pow.die {} = true →
    let x := s.die d.val
    let alert := s.pow.thermAlert && (match s.pow.alertOff with | some t => decide (since t s.time.lea < 1000000) | none => true)
    let hot := x.srcOwn || x.srcSkein || alert
    let due := ∀ t, x.stepAt = some t → (if hot then 100000 else 1000000) ≤ since t s.time.lea
    ∃ t, exec (.thermalThrottleStep d) s = .next t ∧ t = { s with pow := t.pow } ∧ t.pow.thermAlert = alert ∧
      (due → t.die d.val = { x with level := if hot then min (x.level + 1) 3 else x.level - 1, stepAt := some s.time.lea }) ∧
      (¬ due → t.die d.val = x) ∧ ∀ k, k ≠ d.val → t.die k = s.die k) ∧
  (∀ (s : State) (w : Watched), s.pow.supply.on = true → (watched.find? fun w => decide (s.zoneOf w ≥ 3)) = some w →
    ∃ t, exec .thermalShutdown s = .next t ∧ t.pow.supply = .shutdown ∧ t.mod.state = .held ∧ t.mod.heldCause = 0x0806 ∧ (s.mod.state ≠ .held → t.light.ready = false) ∧ t.fuse = s.fuse) ∧
  (∀ s : State, (∀ w ∈ watched, s.zoneOf w < 3) → exec .thermalShutdown s = .next s) ∧
  (∀ (s : State) (c : Cmd) (b : BringUp),
    let n := c.field s 16 4
    let k : CmdSpec := { op := 0x0705, named := [(16, 19)], nvm := true, inHeld := true }
    let told := ((accepted s k c {}).modStores fun x => x.ack n).done c .ok
    Passes s k c {} → s.ackable n = true → s.pow.ackPending = true →
    (told.unacked = true → exec (.thermalAck c b) s = .next told) ∧
    (told.unacked = false →
      let again : State := { told with pow := { told.pow with ackPending := false }, mod := { told.mod with
        state := .booting, heldCause := 0, bootAt := told.time.lea, boot := some b, stacksUp := false, coldStacks := true, failDue := true } }
      exec (.thermalAck c b) s = .next again.resumeBoot)))

/-- LINE_CHANGE of a module whose supply is not OFF gives a line its new level, keeps the time of it, fires its source and does
what the line does there; a level that the line has already changes nothing; a glitch is counted alone (R380, R381). EVENT_FIRE
fires the source it names. The controller delivers the next eligible source into the event queue with room, and waits for one
otherwise, and to a live Spindle at once; the host's EOS ends the service of a source being served and is counted if none is
(R375-R378). -/
def Obligations.LinesAndEventsReachTheirTargets : Prop :=
  (∀ (s : State) (l : ExtLine) (b : Bool), s.pow.supply ≠ .off → s.level l.val ≠ b →
    let moved : State := { s with obs := { s.obs with line := s.obs.line.mod {} l.val fun x => { x with level := b, since_ := s.time.lea } } }
    exec (.lineChange l b) s = .next ((moved.fire (0x360 + l.val) b.toNat l.val).lineActs l.val b)) ∧
  (∀ (s : State) (l : ExtLine) (b : Bool), (s.pow.supply = .off ∨ s.level l.val = b) → exec (.lineChange l b) s = .next s) ∧
  (∀ (s : State) (l : ExtLine), s.pow.supply ≠ .off →
    exec (.lineGlitch l) s = .next { s with obs := { s.obs with line := s.obs.line.mod {} l.val fun x => { x with glitches := satAdd 0xFFFF x.glitches 1 } } }) ∧
  (∀ (s : State) (src : Source) (code index : Nat) (v : BitVec 64),
    (s.pow.supply ≠ .off → exec (.eventFire src code index v) s = .next (s.fire src.val code index v.toNat)) ∧
    (s.pow.supply = .off → exec (.eventFire src code index v) s = .next s)) ∧
  (∀ (s : State) (src n : Nat) (x : SrcAt), s.pow.supply ≠ .off → s.obs.next 2 = some (src, x) → s.host.eventQueue 0 = some n →
    ((s.queue n).room = true →
      let bs := recordBytes src x (s.obs.target.get {} 2).evseq false (!s.spin.inStep)
      exec (.eventDeliver 2) s = .next ((s.putRecord n bs).delivered src 2 bs)) ∧
    ((s.queue n).room = false → exec (.eventDeliver 2) s = .next (s.hostWait 2))) ∧
  (∀ (s : State) (src : Nat) (x : SrcAt), s.pow.supply ≠ .off → (s.spin.spindle.get 0).state.live = true → s.obs.next 0 = some (src, x) →
    exec (.eventDeliver 0) s = .next (s.delivered src 0 [])) ∧
  (∀ (s : State) (p : Port) (v : BitVec 64), s.portLive p = true →
    ((s.obs.srcAt (v.toNat % 1024) (2 + p.val)).serving = true → exec (.hostEos p v) s = .next (s.modSrc (v.toNat % 1024) (2 + p.val) SrcAt.ended)) ∧
    ((s.obs.srcAt (v.toNat % 1024) (2 + p.val)).serving = false → exec (.hostEos p v) s = .next (s.bump Ctr.evcBadEos)))

/-- MODULE_RESET of level 0 clears the module and begins a bring-up, which carries the command's final entry; level 1 or 2 resets a
Spindle while the other serves (R355, R416, R417). A module reset keeps Lea, the fuses, the configuration store, the firmware
and the hosts' memory, and HBM unless the module was HELD (R394, R416). During bring-up (R261, R262, R353, R356, R435): B takes
the cold claim when A has not for 10 ms; a Spindle that leaves BOOT is in CATCHUP beside the holder, A takes a free claim at
once and B waits; a stack's training ends as told, but beyond 500 ms it has failed, and a FAILED stack leaves the module in
HELD; a stack that is repaired trains again. -/
def Obligations.ModuleResetBootsAndTrains : Prop :=
  ((∀ (s : State) (c : Cmd) (b : BringUp) (snap : SnapRead),
    let k : CmdSpec := { op := 0x0102, named := [(16, 16), (24, 31)], long := true, inHeld := true }
    let on := accepted s k c {}
    Passes s k c {} →
    (c.field s 16 1 = 0 → s.pow.supply ≠ .shutdown → exec (.moduleReset c b snap) s = .next (on.moduleReset c b snap)) ∧
    (∀ l, l = 1 ∨ l = 2 → c.field s 16 1 = l → s.resetRefused (levelDie l) = false →
      exec (.moduleReset c b snap) s = .next ((on.setAux c ((levelDie l).val + 2 * s.time.lea.toNat)).resetSpindle (levelDie l)))) ∧
  (∀ s : State, let t := s.moduleCleared
    t.time.lea = s.time.lea ∧ t.fuse = s.fuse ∧ t.plan = s.plan ∧ t.sec.fw = s.sec.fw ∧ t.conf.slot = s.conf.slot ∧ t.obs.store = s.obs.store ∧
      t.mems.hostA = s.mems.hostA ∧ t.mems.hostB = s.mems.hostB ∧ t.mems.bar4 = s.mems.bar4 ∧ (s.mod.state ≠ .held → t.mems.hbm = s.mems.hbm) ∧
      (s.mod.state = .held → t.mems.hbm = []) ∧ t.mems.sram = [] ∧ t.region = [] ∧ t.block = [] ∧ t.cell = [] ∧ t.job = { prev := s.job.prev } ∧
      (∀ e ∈ t.host.queues, e.1 < 4) ∧ t.spin.lops = []) ∧
  (levelDie 1 = 0 ∧ levelDie 2 = 1)) ∧
  ((∀ (s : State) (t : Lea), (s.sp 1).passed = some t → s.spin.claim = none → s.spin.releasing = none →
    (10000000 ≤ since t s.time.lea → exec .coldClaimB s = .next (s.firstClaim 1).resumeBoot) ∧
    (since t s.time.lea < 10000000 → exec .coldClaimB s = .next s)) ∧
  (∀ (s : State) (d : IoDie) (ok : Bool), (s.sp d).state = .boot → s.sec.recovery.get d = false → s.spin.releasing = none →
    (s.spin.claim = some (other d) → exec (.spindleBootDone d ok) s = .next (({ s with sec := { s.sec with mismatch := !ok } } : State).catchup d)) ∧
    (s.spin.claim = none → d = 0 → exec (.spindleBootDone d ok) s = .next (s.firstClaim 0).resumeBoot) ∧
    (s.spin.claim = none → d = 1 → exec (.spindleBootDone d ok) s = .next (s.modSp d fun x => { x with passed := some (x.passed.getD s.time.lea) }))) ∧
  (∀ (s : State) (d : IoDie) (ok : Bool), (s.sp d).state ≠ .boot → exec (.spindleBootDone d ok) s = .next s) ∧
  (∀ (s : State) (k : Stack) (r : TrainOutcome), (s.stk k).state = .train → s.mod.state = .booting →
    (since (s.stk k).since_ s.time.lea ≤ 500000000 → exec (.stackTrainDone k r) s = .next ((s.stackTrained k r).stackHeld.onward (·.resumeBoot))) ∧
    (500000000 < since (s.stk k).since_ s.time.lea → exec (.stackTrainDone k r) s = .next ((s.stackTrained k .fail).stackHeld.onward (·.resumeBoot)))) ∧
  (∀ (s : State) (k : Stack) (r : TrainOutcome), ((s.stk k).state ≠ .train ∨ s.mod.state ≠ .booting) → exec (.stackTrainDone k r) s = .next s) ∧
  (∀ (s : State) (k : Stack) (rows : List Nat) (lanes : Nat), (s.stk k).state = .repair → s.mod.state = .booting →
    (since (s.stk k).since_ s.time.lea ≤ 2000000000 → exec (.stackRepairDone k true rows lanes) s =
      .next ((s.setStk k fun x => { x with state := .train, since_ := s.time.lea, lanesRepaired := satAdd 255 x.lanesRepaired lanes }).forEach rows
        fun l u => u.repair 3 k l 0xFFFF)) ∧
    exec (.stackRepairDone k false rows lanes) s = .next (s.stackTrained k .fail).stackHeld))

/-- The interlock (R352-R356): a Spindle that fails its self-check lets its claim go; writes of Spindles in step whose digests
differ count, tell, and let the self-checks decide while the idle die's writes are held back; equal digests pass them; a pair
that passes its self-checks leaves the module in HELD with cause 0x0702, and one that fails lets go; a claim let go, 100 ns
later, goes to the peer in STANDBY, and with none the module is HELD with cause 0x0807. Spindle states (R356, R357, R417): BOOT
beyond 2 s fails, and the third failure within the hour stays in FAILED; CATCHUP beyond 100 ms with the link up tries again, and
the third lapse leaves it in FAILED; a mirror that is current makes its Spindle STANDBY and ends its reset command, and not
while the firmware differs; a reset that has not after 2.2 s ends with TIMEOUT. The link between the I/O dies and their loss
(R199, R358, R359): below 4 lanes the lockstep ends and an open job is stamped with 0x0704; with 4 lanes at both ends, after a
loss or a Spindle's reset, it trains to the lower of the two ends and no wider than the map; a die that is lost takes its ports,
its station and its claim with it; one that comes back boots its Spindle, trains the link and seeks its partners. -/
def Obligations.SpindlePairKeepsOneClaim : Prop :=
  ((∀ (s : State) (d : IoDie) (n : Nat), ((s.sp d).state.live = true ∨ (s.sp d).state = .catchup) → exec (.spindleSelfcheckFail d n) s = .next (s.selfCheckFails d n)) ∧
  (∀ (s : State) (d : IoDie) (n : Nat), (s.sp d).state = .failed → exec (.spindleSelfcheckFail d n) s = .next s) ∧
  (∀ (s : State) (d : IoDie) (n : Nat), s.spin.claim = some d → (s.selfCheckFails d n).spin.claim = none ∧
    (s.selfCheckFails d n).spin.releasing = some (s.time.lea, n, false) ∧ ((s.selfCheckFails d n).sp d).lastCheck = n) ∧
  (∀ (s : State) (a b : StepWrites), s.spin.inStep = true → s.spin.checking = false →
    let idle := other s.spin.holder
    (digestOf a ≠ digestOf b → let told := ((s.bump Ctr.digestMismatch).fire 0x321 0x0702).gate idle (if idle = 0 then a.writes else b.writes)
      exec (.digestExchange a b) s = .next { told with spin := { told.spin with checking := true } }) ∧
    (digestOf a = digestOf b → exec (.digestExchange a b) s = .next (s.gate idle []))) ∧
  (∀ (s : State) (a b : StepWrites), (s.spin.inStep = false ∨ s.spin.checking = true) → exec (.digestExchange a b) s = .next s) ∧
  (∀ s : State, s.spin.checking = false → ∀ a b, exec (.selfCheckDone a b) s = .next s) ∧
  (∀ s : State, s.spin.checking = true →
    let rest : State := { s with spin := { s.spin with checking := false } }
    exec (.selfCheckDone false false) s = .next rest.digestHeld ∧
    (s.spin.holder = 0 → exec (.selfCheckDone false true) s = .next (rest.selfCheckFails 1 4) ∧ exec (.selfCheckDone true false) s = .next (rest.selfCheckFails 0 4)) ∧
    (s.mod.state ≠ .held → rest.digestHeld.mod.state = .held ∧ rest.digestHeld.mod.heldCause = 0x0702)) ∧
  (∀ (s : State) (t0 : Lea) (n : Nat) (pl : Bool) (us : List Source), s.spin.releasing = some (t0, n, pl) →
    (since t0 s.time.lea < 100 → exec (.claimReleased us) s = .next s) ∧
    (100 ≤ since t0 s.time.lea → (s.sp (other s.spin.holder)).state = .standby →
      exec (.claimReleased us) s = .next (s.takeOver (other s.spin.holder) t0 n pl (us.map (·.val))) ∧
      (s.takeClaim (other s.spin.holder)).spin.claim = some (other s.spin.holder) ∧ (s.takeClaim (other s.spin.holder)).spin.releasing = none) ∧
    (100 ≤ since t0 s.time.lea → (s.sp (other s.spin.holder)).state ≠ .standby →
      exec (.claimReleased us) s = .next (({ s with spin := { s.spin with releasing := none } } : State).enterHeld 0x0807)))) ∧
  ((∀ (s : State) (d : IoDie), (s.sp d).state = .boot → (s.sp d).passed = none → 2000000000 ≤ since (s.sp d).bootFrom s.time.lea →
    exec (.spindleBootTimeout d) s = .next (s.modSp d fun x => x.failed s.time.lea)) ∧
  (∀ (s : State) (d : IoDie), since (s.sp d).bootFrom s.time.lea < 2000000000 → exec (.spindleBootTimeout d) s = .next s) ∧
  (∀ (x : Spindle) (t : Lea), (x.failed t).state = if (x.recent.filter fun u => decide (since u t < 3600000000000)).length ≥ 2 then .failed else .boot) ∧
  (∀ (s : State) (d : IoDie), (s.sp d).state = .catchup → 4 ≤ s.spin.width → 100000000 ≤ since (s.sp d).bootFrom s.time.lea →
    exec (.catchupTimeout d) s = .next (s.modSp d fun x =>
      if x.lapses ≥ 2 then { x with state := .failed, lapses := 0 } else { x with lapses := x.lapses + 1, bootFrom := s.time.lea })) ∧
  (∀ (s : State) (d : IoDie), (s.sp d).state = .catchup → 4 ≤ s.spin.width → s.spin.claim = some (other d) → s.sec.mismatch = false →
    let there := s.modSp d fun x => { x with state := .standby, lapses := 0 }
    exec (.mirrorRejoin d) s =
      .next ((({ there with obs := there.obs.copyTarget (other d).val d.val }.bump Ctr.mirrorRejoin).fire 0x323 0 d.val).endSpReset d)) ∧
  (∀ (s : State) (d : IoDie), s.sec.mismatch = true → exec (.mirrorRejoin d) s = .next s) ∧
  (∀ (s : State) (l : LOp) (t : Lea), s.spReset 0 = some (l, t) → (s.done l.cmd .timeout (result [(16, 4, (s.sp 0).state.code)])).spReset 1 = none →
    2200000000 ≤ since t s.time.lea → exec .spindleResetTimeout s = .next (s.done l.cmd .timeout (result [(16, 4, (s.sp 0).state.code)]))) ∧
  (∀ s : State, s.spReset 0 = none → s.spReset 1 = none → exec .spindleResetTimeout s = .next s)) ∧
  ((∀ s : State, 4 ≤ s.spin.width →
    let down := ({ s with spin := { s.spin with width := 0, lanesOk := 0 } }.bump Ctr.iolinkDown).fire 0x322 0
    exec .iolinkDown s = .next (down.outOfStep.stamp 0x0704 s.spin.holder.val (32 + s.spin.holder.val))) ∧
  (∀ s : State, s.spin.width < 4 → exec .iolinkDown s = .next s) ∧
  (∀ (s : State) (e : LinkEnds), (s.spin.width < 4 ∨ s.spindleBack = true) → s.spin.present.a = true → s.spin.present.b = true → 4 ≤ min e.x0 e.x1 →
    exec (.iolinkUp e) s = .next (s.linkTrained e) ∧
    (4 ≤ s.creel.lanes → (s.linkTrained e).spin.width = min (linkWidth (min e.x0 e.x1)) s.creel.lanes)) ∧
  (∀ (s : State) (e : LinkEnds), (min e.x0 e.x1 < 4 ∨ 4 ≤ s.spin.width ∧ s.spindleBack = false) → exec (.iolinkUp e) s = .next s) ∧
  (∀ (s : State) (d : IoDie), s.spin.present.get d = true →
    ∃ t, exec (.iodieLost d) s = .next t ∧ t.spin.present.get d = false ∧ t.spin.width = 0 ∧ (t.sp d).state = .off ∧ t.fuse = s.fuse ∧
      (t.host.ports.get d).up = false ∧ t.isFenced (32 + d.val) = true ∧ t.spin.claim ≠ some d) ∧
  (∀ (s : State) (d : IoDie), s.spin.present.get d = false → exec (.iodieLost d) s = .next s) ∧
  (∀ (s : State) (d : IoDie) (e : LinkEnds), s.spin.present.get d = false → s.pow.supply ≠ .off →
    let here : State := { s with spin := { s.spin with present := s.spin.present.set d true } }
    let boot := (here.portReset d).modSp d fun x => { x with state := .boot, bootFrom := s.time.lea, passed := none, lapses := 0 }
    exec (.iodieReturn d e) s = .next (((boot.linkTrained e).unfence (32 + d.val)).portsBack d)) ∧
  (∀ (s : State) (d : IoDie) (e : LinkEnds), s.spin.present.get d = true → exec (.iodieReturn d e) s = .next s))

/-! ### Calibration, observation and security -/

/-- Calibration snapshots (R406-R409, R412): CAL_SAVE writes a snapshot whose CHECK covers it, with the module's serial number and
life; CAL_RESTORE takes the domains a snapshot holds that pass their spot check, counts the others, and refuses a snapshot of
another module or format with BAD_PARAM and a stale one with BAD_STATE. AGEING_READ writes the ageing report. The band-gaps are
compared with their median once a second (R402): a die is suspect exactly when it is more than 0.3 % away. Ageing (R411-R414):
each second of power is counted and sampled; every 10 s the life is stored, and each hour a summary is, both only while the
windows of R399 are open; at a summary a compute die whose worst stage ends later than 420 ps gets 5 mV more guardband, up to 40
mV, beyond which the guard limit counts; WIDTH_CAP falls by a row when an eye fails. Guardbands only rise and WIDTH_CAP only
falls. -/
def Obligations.CalibrationAndAgeingAreKept : Prop :=
  ((∀ (s : State) (c : Cmd) (w : HostWr),
    let k : CmdSpec := { op := 0x0802, named := [(16, 23)], long := true }
    let on := accepted s k c {}
    Passes s k c {} → exec (.calSave c w) s =
      .next (({ on with free := on.free + (snapBodies on.fwVersion + 7) / 8 } : State).writeHostOut c (c.field on 16 8) on.snapshot w)) ∧
  (∀ s : State, s.lifeS < 2 ^ 64 → s.snapshot.length ≤ 2097152 ∧ s.snapCheck s.snapshot = 1) ∧
  (∀ (s : State) (c : Cmd) (snap : SnapRead),
    let n := c.field s 24 4
    let img := (s.mems.host (c.port s)).read (c.field s 16 8) n
    let k : CmdSpec := { op := 0x0803, named := [(16, 27)], long := true, noJob := true }
    let v : Verdict := { bad := if n < 64 ∨ n > 2097152 then some 24 else if s.snapCheck img = 2 then some 16 else none, state := decide (s.snapCheck img = 3) }
    Passes s k c v → exec (.calRestore c snap) s = .next (((accepted s k c v).restored img snap.misses).done c .ok)) ∧
  (∀ (s : State) (img : List Byte) (misses : Nat),
    (s.restored img misses).cal.restoreMiss = (snapDomains img) &&& misses ∧ (s.restored img misses).cal.lastRestore = 1 ∧
      (s.restored img misses).plan = s.plan ∧ (s.restored img misses).mems = s.mems) ∧
  (∀ (s : State) (img : List Byte), (leNat ((img.drop 8).take 4) ≠ s.fuse.serial.toNat → s.snapCheck img = 2) ∧
    (leNat ((img.drop 4).take 2) ≠ (Config.calFormat s.fwVersion).toNat → s.snapCheck img = 2)) ∧
  (∀ (s : State) (c : Cmd) (w : HostWr),
    let k : CmdSpec := { op := 0x0804, named := [(16, 23)], long := true, inHeld := true }
    let on := accepted s k c {}
    Passes s k c {} → exec (.ageingRead c w) s =
      .next (({ on with free := on.free + (32 + 16 * on.cal.summaries.length) } : State).writeHostOut c (c.field on 16 8) on.ageingReport w)) ∧
  (∀ (s : State) (uv : List Nat),
    (s.mod.state = .ready → exec (.bandgapCompare uv) s = .next (s.compareGaps uv)) ∧
    (s.mod.state ≠ .ready → exec (.bandgapCompare uv) s = .next s) ∧
    ((s.compareGaps uv).cal.bgSuspect = true ↔ ∃ x ∈ uv, 1000 * (max x (median uv) - min x (median uv)) > 3 * median uv) ∧
    (s.compareGaps uv).mems = s.mems ∧ (s.compareGaps uv).region = s.region)) ∧
  ((∀ (s : State) (a : AgeRead), s.powered = true →
    ∃ t, exec (.ageingSample a) s = .next t ∧ t = { s with cal := t.cal } ∧ t.lifeS = s.lifeS + 1 ∧ t.cal.sample = s.cal.sample.sample a ∧
      t.cal.summaries = s.cal.summaries ∧ t.cal.bgSuspect = s.cal.bgSuspect ∧ t.cal.railTarget = s.cal.railTarget) ∧
  (∀ s : State, s.powered = true → s.nvmOpen = true →
    ∃ t, exec .ageingAccumulate s = .next t ∧ t.plan.lifeS = s.lifeS ∧ t.lifeS = s.lifeS ∧ t.plan.guard = s.plan.guard ∧ t.mems = s.mems) ∧
  (∀ s : State, s.powered = true → s.nvmOpen = false →
    exec .ageingAccumulate s = .next { s with cal := { s.cal with writeWaiting := true } } ∧
    exec .ageingSummary s = .next { s with cal := { s.cal with sumWaiting := true } }) ∧
  (∀ s : State, s.powered = false → exec .ageingAccumulate s = .next s ∧ exec .ageingSummary s = .next s ∧ ∀ a, exec (.ageingSample a) s = .next s) ∧
  (∀ s : State, s.powered = true → s.nvmOpen = true → exec .ageingSummary s = .next s.summarise) ∧
  (∀ (s : State) (d : Nat), s.worstPs d ≤ 420 → s.replanGuard d = s) ∧
  (∀ (s : State) (d : Nat), 420 < s.worstPs d → s.plan.guard.get 0 d < 40 → Tab.wf s.plan.guard 0 = true →
    (s.replanGuard d).plan.guard.get 0 d = s.plan.guard.get 0 d + 5 ∧ ∀ e, e ≠ d → (s.replanGuard d).plan.guard.get 0 e = s.plan.guard.get 0 e) ∧
  (∀ (s : State) (d : Nat), 420 < s.worstPs d → 40 ≤ s.plan.guard.get 0 d →
    s.replanGuard d = (s.bump Ctr.guardLimit d).fire 0x3F1 5 d (s.plan.guard.get 0 d) ∧ (s.replanGuard d).plan = s.plan) ∧
  (∀ s : State, (s.replanWidth true = s) ∧ (s.plan.widthCap ≠ 0 → (s.replanWidth false).plan.widthCap = widthBelow s.plan.widthCap ∧
    (s.replanWidth false).plan.widthCap < s.plan.widthCap)) ∧
  (∀ (s : State) (d : Nat), Tab.wf s.plan.guard 0 = true → s.plan.guard.get 0 d ≤ s.summarise.plan.guard.get 0 d) ∧
  (∀ s : State, s.summarise.plan.widthCap ≤ s.plan.widthCap ∧ s.summarise.cal.summaries.length ≤ 252 ∧ s.summarise.mems = s.mems))

/-- SNAPSHOT copies the counter groups it names, SNAPSHOT_CLEAR copies them and then sets them to 0; counters of other groups stay
(R449). Telemetry (R452, R453): TELEMETRY_START sets a stream running and TELEMETRY_STOP ends it; a sample is due on the
multiples of the stream's period, is written at its place of the ring of 64 KiB and counted by SSEQ, and is skipped while the
write before it has not completed. RECORD_READ writes the records of a die in the order of RSEQ (R458), and RECORD_CLEAR clears
those up to the RSEQ given, but no SHUTDOWN record that is not acknowledged, and removes none. -/
def Obligations.CountersTelemetryAndRecordsAreRead : Prop :=
  ((∀ (s : State) (c : Cmd),
    let m := c.field s 16 8
    let v : Verdict := { bad := groupMaskBad m }
    let k : CmdSpec := { op := 0x0A01, named := [(16, 23)], inHeld := true }
    Passes s k c v → exec (.snapshot c) s = .next (((accepted s k c v).forEach (maskGroups m) fun g (u : State) => u.capture g).done c .ok
      (result [(16, 8, (accepted s k c v).time.lea.toNat)]))) ∧
  (∀ (s : State) (c : Cmd),
    let m := c.field s 16 8
    let v : Verdict := { bad := groupMaskBad m }
    let k : CmdSpec := { op := 0x0A02, named := [(16, 23)], inHeld := true }
    Passes s k c v → exec (.snapshotClear c) s = .next (((accepted s k c v).forEach (maskGroups m) fun g (u : State) => (u.capture g).clearGroup g).done c .ok
      (result [(16, 8, (accepted s k c v).time.lea.toNat)]))) ∧
  (∀ (s : State) (g a : Nat), g ≠ 15 → inGroup g a = true → Tab.wf s.obs.counters 0 = true → Tab.wf s.obs.shadows 0 = true →
    (s.capture g).obs.shadows.get 0 a = ctrWord (s.obs.counters.get 0 a) ∧ (s.capture g).obs.counters = s.obs.counters ∧
    (s.clearGroup g).obs.counters.get 0 a = 0 ∧ (s.clearGroup g).obs.shadows = s.obs.shadows) ∧
  (∀ (s : State) (g a : Nat), inGroup g a = false → Tab.wf s.obs.counters 0 = true →
    (s.clearGroup g).obs.counters.get 0 a = s.obs.counters.get 0 a) ∧
  (∀ (s : State) (g : Nat), (s.capture g).guard = s.guard ∧ (s.clearGroup g).guard = s.guard ∧ (s.capture g).mems = s.mems)) ∧
  ((∀ (s : State) (c : Cmd),
    let n := c.field s 16 1
    let v : Verdict := { bad := streamBad s.fuse.cmap n (c.field s 20 4) (c.field s 24 8) }
    let k : CmdSpec := { op := 0x0A03, named := [(16, 16), (20, 31)] }
    let on := accepted s k c v
    let x : Stream := { running := true, periodUs := c.field s 20 4, target := BitVec.ofNat 64 (c.field s 24 8), port := c.port on }
    Passes s k c v → exec (.telemetryStart c) s = .next (({ on with obs := { on.obs with streams := on.obs.streams.set {} n x } } : State).done c .ok)) ∧
  (∀ (s : State) (c : Cmd),
    let n := c.field s 16 1
    let v : Verdict := { bad := if n > 4 then some 16 else none }
    let k : CmdSpec := { op := 0x0A04, named := [(16, 16)], inHeld := true }
    let on := accepted s k c v
    Passes s k c v → exec (.telemetryStop c) s =
      .next (({ on with obs := { on.obs with streams := on.obs.streams.mod {} n fun x => { x with running := false } } } : State).done c .ok)) ∧
  (∀ (s : State) (n : Nat),
    let x := s.obs.streams.get {} n
    ((x.running = false ∨ s.powered = false ∨ s.time.lea.toNat % (1000 * x.periodUs) ≠ 0) → ∀ b, exec (.telemetrySample n b) s = .next s) ∧
    (x.running = true → s.powered = true → s.time.lea.toNat % (1000 * x.periodUs) = 0 →
      exec (.telemetrySample n true) s = .next (({ s with obs := { s.obs with streams := s.obs.streams.set {} n { x with sseq := x.sseq + 1, skipped := true } } } : State).bump Ctr.telemSkip) ∧
      (x.target.msb = false → (s.mems.host x.port).wf = true → n ≤ 4 →
        let at_ := x.target.toNat + x.sseq.toNat * streamSize n % 65536
        ∃ t, exec (.telemetrySample n false) s = .next t ∧ t.obs.streams = s.obs.streams.set {} n { x with sseq := x.sseq + 1, skipped := false } ∧
          (t.mems.host x.port).read at_ (streamSize n) = s.sample n x ∧
          (∀ a, a < at_ ∨ at_ + streamSize n ≤ a → (t.mems.host x.port).get 0 a = (s.mems.host x.port).get 0 a) ∧
          t.mems.hbm = s.mems.hbm ∧ t.mems.sram = s.mems.sram ∧ t.region = s.region))) ∧
  (∀ (s : State) (n : Nat) (x : Stream), n ≤ 4 → (s.sample n x).length = streamSize n) ∧
  (∀ (s : State) (c : Cmd) (w : HostWr) (d : IoDie),
    let v : Verdict := { state := !s.spin.present.get d }
    let k : CmdSpec := { op := 0x0A05, named := [(16, 16), (24, 31)], long := true, inHeld := true }
    let on := accepted s k c v
    c.field s 16 1 = d.val → Passes s k c v →
    exec (.recordRead c w) s = .next (({ on with free := on.free + 64 } : State).writeHostOut c (c.field on 24 8) (on.recordReport d) w)) ∧
  (∀ (s : State) (c : Cmd),
    let k : CmdSpec := { op := 0x0A06, named := [(16, 19)], long := true, nvm := true, inHeld := true }
    let on := accepted s k c {}
    let n := BitVec.ofNat 32 (c.field on 16 4)
    Passes s k c {} → exec (.recordClear c) s = .next (({ on with obs := { on.obs with store :=
      ⟨on.obs.store.a.clearTo on.spin.present.a n, on.obs.store.b.clearTo on.spin.present.b n⟩ } } : State).done c .ok)) ∧
  (∀ (r : Rec) (n : BitVec 32), (r.kind = 3 → r.acked = false → r.clear n = r) ∧ (r.rseq ≠ n → before32 r.rseq n = false → r.clear n = r) ∧
    (r.rseq = n → (r.kind ≠ 3 ∨ r.acked = true) → r.clear n = { r with cleared := true })) ∧
  (∀ r : Rec, r.bytes.length = 512 ∧ r.bytes.take 4 = leBytes 4 0x4A585243))

/-- The Carding pass (R423-R431): CARDING_RUN begins with the first pair it names and puts its halves into TEST; after each
pair's turn its SRAM and its block stores read zero and those of the other regions are as before, its failures are in the
record, its halves are reset, and the next pair's turn begins, and after the last the pass ends. A pair that is not the next one
changes nothing. Each failure found is counted, has an entry while the record has room for it, and one that is repairable is
pending. A die of the pair at a throttle level ends the pass with TIMEOUT. CARDING_RESULT writes the record, if there is one. -/
def Obligations.CardingPassRunsPairByPair : Prop :=
  (∀ (s : State) (c : Cmd),
    let ds := pairsOf (c.field s 18 2)
    let k : CmdSpec := { op := 0x0B01, named := [(16, 16), (18, 19)], long := true, noJob := true }
    let v : Verdict := { state := !ds.all fun d => (halves d).all fun r => decide ((s.reg r).state = .ready) }
    let on := accepted s k c v
    let x : Card := { present := true, full := decide (c.field on 16 1 = 1), mask := pairMask ds, start := on.time.lea, end_ := on.time.lea, todo := ds, pending := on.card.pending,
                        used := on.card.used }
    c.field s 16 1 ≤ 1 → Passes s k c v → exec (.cardingRun c) s = .next (({ on with card := x } : State).forEach ds.head?.toList fun d (u : State) => u.toTest d)) ∧
  (∀ (s : State) (d : Fin 8), Tab.wf s.region {} = true → ∀ r ∈ halves d.val, ((s.toTest d).reg r).state = .test) ∧
  (∀ (s : State) (d : Fin 8) (fails tail : List CardFail) (x : ResetReads) (l : LOp) (rest : List Nat), s.carding = some l → s.card.todo = d.val :: rest →
    let s1 := s.forEach (halves d.val) fun r (u : State) => u.zeroRegion r.val
    let s2 := s1.forEach fails fun f (u : State) => u.enterFail true f
    let s3 := ({ s2 with card := { s2.card with todo := rest } } : State).fromTest d x
    (rest = [] → exec (.cardingPair d fails tail x) s = .next (s3.endPass l tail)) ∧
    (∀ f fs, rest = f :: fs → exec (.cardingPair d fails tail x) s = .next (s3.toTest f))) ∧
  (∀ (s : State) (d : Fin 8) (e : Nat) (rest : List Nat) (fails tail : List CardFail) (x : ResetReads), s.card.todo = e :: rest → e ≠ d.val →
    exec (.cardingPair d fails tail x) s = .next s) ∧
  (∀ (s : State) (r : Fin 16) (a : Nat), s.mems.sram.wf = true →
    ((r.val * 268435456 ≤ a ∧ a < (r.val + 1) * 268435456) ∨ (4294967296 + r.val * 268435456 ≤ a ∧ a < 4294967296 + (r.val + 1) * 268435456) →
      (s.zeroRegion r.val).mems.sram.get 0 a = 0) ∧
    (a < r.val * 268435456 → (s.zeroRegion r.val).mems.sram.get 0 a = s.mems.sram.get 0 a) ∧
    ((r.val + 1) * 268435456 ≤ a → a < 4294967296 → (s.zeroRegion r.val).mems.sram.get 0 a = s.mems.sram.get 0 a)) ∧
  (∀ (s : State) (f : CardFail), (s.enterFail true f).card.found = satAdd 0xFFFFFFFF s.card.found 1 ∧ (s.enterFail true f).mems = s.mems ∧
    (s.card.entries.length < 4096 → (s.enterFail true f).card.entries.length = s.card.entries.length + 1) ∧
    (4096 ≤ s.card.entries.length → (s.enterFail true f).card.entries = s.card.entries) ∧
    (1 ≤ cardAction s.card.used f → cardAction s.card.used f ≤ 4 → (s.enterFail true f).card.pending.length = s.card.pending.length + 1)) ∧
  (∀ (s : State) (d : Fin 8) (x : ResetReads) (l : LOp) (rest : List Nat), s.carding = some l → s.card.todo = d.val :: rest →
    (2 ≤ (s.die d.val).zone ∨ 2 ≤ (s.die d.val).skeinZone) →
    let s1 := s.fromTest d x
    exec (.cardingThermalStop d x) s = .next (({ s1 with card := { s1.card with
      todo := [], outcome := outcomeWith s1.card.outcome 4, stopPair := d.val, end_ := s.time.lea } } : State).done l.cmd .timeout (result [(16, 4, d.val)]))) ∧
  (∀ (s : State) (d : Fin 8) (x : ResetReads), (s.die d.val).zone < 2 → (s.die d.val).skeinZone < 2 → exec (.cardingThermalStop d x) s = .next s) ∧
  (∀ (s : State) (c : Cmd) (w : HostWr),
    let k : CmdSpec := { op := 0x0B02, named := [(16, 23)], long := true, inHeld := true }
    let v : Verdict := { state := !s.card.present }
    let on := accepted s k c v
    Passes s k c v → exec (.cardingResult c w) s = .next (on.writeHostOut c (c.field on 16 8) on.card.record w))

/-- ATTEST writes the signed report and counts it (R440). FW_UPDATE writes an image that it accepts into the slot that does not
run, in TRIAL, and prefers it (R438); so does RECOVERY_IMAGE with slot 0 of a die in recovery, which then boots, and an image
that does not verify leaves the slot BAD (R437). TEST_LOCK blows the fuse of each die present and clears none (R443);
DEBUG_MAILBOX is DENIED once one is blown (R444). A request of board management changes only the answer held for it: a die that
is absent or without supply is silent, one in recovery takes firmware and says nothing to a change, and any other refuses both
(R445). -/
def Obligations.FirmwareAndTestAccessAreGuarded : Prop :=
  (∀ (s : State) (c : Cmd) (w : HostWr),
    let k : CmdSpec := { op := 0x0902, named := [(16, 55)], long := true, inHeld := true }
    let on := accepted s k c {}
    Passes s k c {} → exec (.attest c w) s = .next (({ on with free := on.free + 8 } : State).writeHostOut c (c.field on 48 8)
      (on.reportBody (leBytes 32 (c.field on 16 32)) ++ freeBytes on.free 64) w fun u => u.bump Ctr.attestDone)) ∧
  (∀ (s : State) (nonce : List Byte), nonce.length = 32 → (s.reportBody nonce).length = 384) ∧
  (∀ (s : State) (c : Cmd) (sig : Bool) (fw : FwRead),
    let img := (s.fwImage c).getD []
    let signed := s.signedBy c 1 sig && fw.sigOk
    let k : CmdSpec := { op := 0x0903, named := [(16, 28), (32, 95)], long := true, noJob := true, nvm := true, blockForm := true }
    let v : Verdict := { bad := s.fwBad c fw.sigOk, needSig := true, sigOk := signed && s.fwHeaderOk img, quiet := signed, reads := if c.field s 28 1 = 1 then some (c.field s 16 8, c.field s 24 4) else none }
    let on := accepted s k c v
    let n := BitVec.ofNat 32 (imageField img 8 4)
    let to_ := other on.sec.running
    let wrote := on.writeFw to_ n (imageField img 12 4)
    Passes s k c v → exec (.fwUpdate c sig fw) s =
      .next (({ wrote with sec := { wrote.sec with preferred := to_ } } : State).done c .ok (result [(16, 4, n.toNat)]))) ∧
  (∀ (s : State) (j : Fin 2) (n : BitVec 32) (svn : Nat), (s.writeFw j n svn).sec.fw.get j = { state := .trial, version := n, svn := svn } ∧
    (s.writeFw j n svn).sec.fw.get (other j) = s.sec.fw.get (other j) ∧ (s.writeFw j n svn).sec.running = s.sec.running ∧ (s.writeFw j n svn).mems = s.mems) ∧
  (∀ (s : State) (d : IoDie) (fw : FwRead), s.sec.recovery.get d = true → s.nvmOpen = true → s.pow.supply.on = true →
    (s.fwVerifies fw = true → ∃ t, exec (.recoveryImage d fw) s = .next t ∧ (t.sec.fw.get 0) = { state := .trial, version := fw.version, svn := fw.svn } ∧
      t.sec.recovery.get d = false ∧ (t.spin.spindle.get d).state = .boot ∧ t.mems = s.mems) ∧
    (s.fwVerifies fw = false → ∃ t, exec (.recoveryImage d fw) s = .next t ∧ (t.sec.fw.get 0).state = .bad ∧ t.sec.recovery = s.sec.recovery ∧
      t.sec.running = s.sec.running ∧ t.mems = s.mems)) ∧
  (∀ (s : State) (d : IoDie) (fw : FwRead), (s.sec.recovery.get d = false ∨ s.nvmOpen = false ∨ s.pow.supply.on = false) → exec (.recoveryImage d fw) s = .next s) ∧
  (∀ (s : State) (c : Cmd) (sig : Bool),
    let k : CmdSpec := { op := 0x0904, long := true, noJob := true, nvm := true, blockForm := true }
    let v : Verdict := { needSig := true, sigOk := s.signedBy c 1 sig }
    let on := accepted s k c v
    let f : Two Bool := ⟨on.fuse.testLock.a || on.spin.present.a, on.fuse.testLock.b || on.spin.present.b⟩
    Passes s k c v → exec (.testLock c sig) s = .next (({ on with fuse := { on.fuse with testLock := f } } : State).done c .ok)) ∧
  (∀ (s : State) (c : Cmd),
    let k : CmdSpec := { op := 0x0905, named := [(16, 63)], noJob := true }
    let v : Verdict := { denied := s.locked }
    let on := accepted s k c v
    (s.locked = true → ¬ Passes s k c v) ∧
    (Passes s k c v → ∃ r, exec (.debugMailbox c) s = .next (({ on with sec := { on.sec with debugUsed := true }, free := on.free + 2 } : State).done c .ok r))) ∧
  (∀ (s : State) (d : IoDie) (q : BmcReq), exec (.smbusRequest d q) s = .next { s with sec := { s.sec with bmc := s.sec.bmc.set d (s.bmcAnswer d q) } } ∧
    ((s.spin.present.get d = false ∨ s.pow.supply = .off) → s.bmcAnswer d q = .silent) ∧
    (s.spin.present.get d = true → s.pow.supply ≠ .off →
      s.bmcAnswer d .change = (if s.sec.recovery.get d then .silent else .refused) ∧
      s.bmcAnswer d .firmware = (if s.sec.recovery.get d then .update else .refused)))

/-! ### The light -/

/-- A loop's windows (R235, R237, R241): each window enters the level of its weakest line; 10 dB gone at once is lost light, two
windows in a row 2.5 dB below P_c withdraw the loop, and otherwise the average of ten is judged: 1 dB below sets ADVISORY, above
-0.7 dB clears it, and 1.5 dB below plans a hand-over. A withdrawn loop is judged for the hand-over alone (DEDUCED, log 71).
Light lost on a fed loop withdraws it; at a cage whose fault pin is set or whose module is gone it takes the loops of every
group of the cage. LIGHT_COMMISSION (R236) makes the powers measured P_c and begins the windows anew, or withdraws the loops
below -1.0 dBm and completes with FAULT. A cage that does not answer three polls loses MGMT_OK; one that does has its reading
kept (R245). -/
def Obligations.LightIsMeasuredAndJudged : Prop :=
  (∀ (s : State) (n : Loop) (w : LightMeas),
    let lv := s.weakest n w.powers
    let x := s.light.loop.get {} n.val
    let below := if lv.1 ≤ -250 then min (x.below + 1) 2 else 0
    let s1 := s.modLight n fun x => { x with windows := (lv.1 :: x.windows).take 10, worstLine := lv.2, below := below }
    ((s.loopSt n).state.fed = false → exec (.lightWindow n w) s = .next (s1.judgeWithdrawn n)) ∧
    ((s.loopSt n).state.fed = true → 1000 < w.totalDrop → exec (.lightWindow n w) s = .next (s1.lightLost [n.val] (n.val / 16))) ∧
    ((s.loopSt n).state.fed = true → w.totalDrop ≤ 1000 → lv.1 ≤ -250 → 1 ≤ x.below → exec (.lightWindow n w) s = .next (s1.withdrawLoops [n.val] 2)) ∧
    ((s.loopSt n).state.fed = true → w.totalDrop ≤ 1000 → (-250 < lv.1 ∨ x.below = 0) → exec (.lightWindow n w) s = .next (s1.judge n))) ∧
  (∀ (s : State) (n : Nat) (a : Int), (s.light.loop.get {} n).average = some a → Tab.wf s.light.loop {} = true →
    (a ≤ -100 → -150 < a → ((s.judge n).light.loop.get {} n).advisory = true) ∧
    (-70 ≤ a → ((s.judge n).light.loop.get {} n).advisory = false) ∧
    (-100 < a → a < -70 → s.judge n = s) ∧
    (-150 < a → (s.judge n).light.group = s.light.group) ∧
    (-150 < a → ∀ m, m ≠ n → (s.judge n).light.loop.get {} m = s.light.loop.get {} m)) ∧
  (∀ (s : State) (n : Nat), ((s.light.loop.get {} n).windows.length < 10) → s.judge n = s) ∧
  (∀ (s : State) (n : Loop), (s.loopSt n).state.fed = true →
    exec (.lightLost (.loop n)) s = .next ((s.bump Ctr.lightLost (n.val / 16)).withdrawLoops [n.val] 3)) ∧
  (∀ (s : State) (k : Cage), (s.cage k).faultPin = false → (s.cage k).present = true → exec (.lightLost (.cage k)) s = .next s) ∧
  (∀ (s : State) (k : Cage), ((s.cage k).faultPin = true ∨ (s.cage k).present = false) →
    exec (.lightLost (.cage k)) s = .next (s.forEach (s.groupsOfCage k) fun g (u : State) => u.lightLost (loopsOf g) g)) ∧
  (∀ (s : State) (c : Cmd) (pw : List LinePower),
    let k : CmdSpec := { op := 0x0810, long := true, noJob := true, nvm := true }
    let on := accepted s k c {}
    let fresh := fun u : State => u.forEach ((pw.map fun p => p.loop.val).eraseDups) fun n (u : State) => u.modLight n fun x => { x with windows := [], below := 0 }
    let pc := pw.foldl (fun t p => t.setAll (-100) (96 * p.loop.val + if p.standby then 48 else 0) (p.powers.take 48)) on.light.pc
    Passes s k c {} →
    ((∀ p ∈ pw, ∀ x ∈ p.powers, -100 ≤ x) → exec (.lightCommission c pw) s =
      .next ((fresh { on with light := { on.light with commissioned := true, pc := pc } }).done c .ok)) ∧
    (shortLoops pw ≠ [] → exec (.lightCommission c pw) s =
      .next (((fresh on).withdrawLoops (shortLoops pw) 2).done c .fault (BitVec.ofNat 128 (((shortLoops pw).map fun n => 2 ^ n).sum))))) ∧
  (∀ (s : State) (k : Cage), Tab.wf s.light.cage {} = true →
    (s.cage k).misses = 2 → (s.cage k).mgmtOk = true →
    exec (.cagePoll k none) s = .next ((s.modCage k fun x => { x with misses := 3, mgmtOk := false }).fire (0x288 + k.val) 1 k)) ∧
  (∀ (s : State) (k : Cage) (r : CageRead), s.spin.present.get (dieOfCage k) = true → Tab.wf s.light.cage {} = true →
    ∃ t, exec (.cagePoll k (some r)) s = .next t ∧ (t.cage k).misses = 0 ∧ (t.cage k).mgmtOk = true ∧ (t.cage k).tempC = r.tempC ∧ (t.cage k).minLine = r.minLine ∧
      (t.cage k).state = (if r.ready = true ∧ (s.cage k).state = .warming then .ready else (s.cage k).state) ∧ ∀ j, j ≠ k.val → t.cage j = s.cage j) ∧
  (∀ (s : State) (n : Nat) (a : Int), (s.light.loop.get {} n).average = some a → (s.loopSt n).state = .withdrawn →
    (a ≤ -150 → s.judgeWithdrawn n = s.handover (n / 16)) ∧ (-150 < a → s.judgeWithdrawn n = s)) ∧
  (∀ (s : State) (n : Nat), ((s.loopSt n).state ≠ .withdrawn ∨ (s.light.loop.get {} n).windows.length < 10) → s.judgeWithdrawn n = s)

/-- Hand-over (R238-R243): an armed group waits once its source is ready, or transfers at once when its loops are already
withdrawn; 5 ms of arming mark the source FAULT and take the group out, or end a LIGHT_RETURN with FAULT; a pause opens at once
when no table runs, or at an allowed gap of the running table with the group's phase bobbins withdrawn, and after HANDOVER_WAIT
all the same; when the selectors have moved the group is on the other source, and a LIGHT_RETURN completes. LIGHT_RETURN arms a
group in STANDBY whose primary is READY. In any other state each of these changes nothing. -/
def Obligations.GroupsAreHandedOver : Prop :=
  (∀ (s : State) (g : Group), (s.grp g).state = .arming → (s.cage (s.targetCage g)).state ≠ .fault → (s.cage (s.targetCage g)).state ≠ .absent →
    exec (.sourceReady g) s = .next ((s.modCage (s.targetCage g) fun c => { c with state := .lit }).enterGrp g (if (s.grp g).unpaused then .transfer else .waiting))) ∧
  (∀ (s : State) (g : Group), ((s.grp g).state ≠ .arming ∨ (s.cage (s.targetCage g)).state = .fault) → exec (.sourceReady g) s = .next s) ∧
  (∀ (s : State) (g : Group), (s.grp g).state = .arming →
    (since (s.grp g).changedAt s.time.lea < 5000000 → exec (.armingTimeout g) s = .next s) ∧
    (5000000 ≤ since (s.grp g).changedAt s.time.lea →
      let k := s.targetCage g
      let failed := (s.modCage k fun c => { c with state := .fault, bundle := 15 }).fire (0x288 + k) 0 k 4
      ((s.grp g).returning = false → exec (.armingTimeout g) s =
        .next ((failed.enterGrp g .primary fun x => { x with returning := false, unpaused := false }).groupOut g)) ∧
      ((s.grp g).returning = true → exec (.armingTimeout g) s =
        .next ((failed.enterGrp g .standby fun x => { x with returning := false, unpaused := false }).endReturn g .fault)))) ∧
  (∀ (s : State) (g : Group) (failed : List RingIx) (faded : List Loop) (ns : Nat), (s.grp g).state = .waiting →
    (s.creel.run = none → exec (.pauseOpen g { failed := failed, faded := faded } ns) s = .next (s.pause g failed faded ns 0)) ∧
    (∀ r, s.creel.run = some r →
      (s.gapAt r g = false → exec (.pauseOpen g { failed := failed, faded := faded } ns) s = .next s) ∧
      (s.gapAt r g = true →
        let s1 := (s.withdraw (s.phaseOn g)).pause g failed faded ns 0
        exec (.pauseOpen g { failed := failed, faded := faded } ns) s = .next { s1 with creel := { s1.creel with
          run := s1.creel.run.map fun r => { r with pauseEnd := some (s.time.lea + BitVec.ofNat 64 ns) } } })) ∧
    (since (s.grp g).changedAt s.time.lea < 1000000 * s.light.waitMs → exec (.handoverWaitLapse g { failed := failed, faded := faded } ns) s = .next s) ∧
    (1000000 * s.light.waitMs ≤ since (s.grp g).changedAt s.time.lea → exec (.handoverWaitLapse g { failed := failed, faded := faded } ns) s =
      .next ((((s.bump Ctr.lightHandoverForced g).withdraw (s.phaseOn g)).modGrp g fun x => { x with forced := true }).pause g failed faded ns 1))) ∧
  (∀ (s : State) (g : Group) (failed : List RingIx) (faded : List Loop) (ns : Nat), (s.grp g).state ≠ .waiting →
    exec (.pauseOpen g { failed := failed, faded := faded } ns) s = .next s ∧ exec (.handoverWaitLapse g { failed := failed, faded := faded } ns) s = .next s) ∧
  (∀ (s : State) (g : Group), ((s.grp g).state = .transfer → exec (.lightTransfer g) s = .next (s.moved g 2)) ∧
    ((s.grp g).state ≠ .transfer → exec (.lightTransfer g) s = .next s)) ∧
  (∀ (s : State) (g kind : Nat), Tab.wf s.light.group {} = true →
    let t := s.moved g kind
    (t.grp g).returning = false ∧ (t.grp g).unpaused = false ∧ t.light.lastGroup = g ∧
    ((s.grp g).returning = false → (t.grp g).state = .standby ∧ (t.grp g).onStandby = true) ∧
    ((s.grp g).returning = true → (t.grp g).state = .primary ∧ (t.grp g).onStandby = false) ∧
    (∀ h, h ≠ g → t.grp h = s.grp h) ∧ t.light.pc = s.light.pc ∧ t.mems.hbm = s.mems.hbm ∧ t.mems.sram = s.mems.sram) ∧
  (∀ (s : State) (c : Cmd),
    let g := c.field s 16 1
    let k : CmdSpec := { op := 0x0811, named := [(16, 16)], long := true }
    let v : Verdict := { busy := if (s.spin.lops.any fun l => decide (l.opcode = 0x0811) && decide (l.aux = g)) || !(s.cage g).mgmtOk then some 0 else none }
    g < 8 → (s.grp g).state = .standby → (s.cage g).state = .ready → Passes s k c v →
    exec (.lightReturn c) s = .next (((accepted s k c v).setAux c g).enterGrp g .arming fun x => { x with returning := true, forced := false, unpaused := false }))

/-! ### The host interface -/

/-- Doorbells (R321, R325, R326): only a queue's own port rings it, and a refused ring is counted and logged; a new tail takes the
entries between the head and it, or starts the data mover on them; one that claims more than the ring holds puts the queue into
ERROR; a command doorbell that arrives while the module is BOOTING is held (R314); a new head lets waiting completions go to the
ring. Admin rings (R323): ENABLE makes the queue ACTIVE with the register's base, size and space; clearing it drains the queue. -/
def Obligations.DoorbellsAreTakenFromTheirPort : Prop :=
  (∀ (s : State) (p : Port) (q : Queue) (i : BitVec 32),
    let x := s.queue q.val
    let refused := s.refuseAccess p 3 true (0x00300000 + 64 * q.val) true
    s.portLive p = true →
    ((x.state = .free ∨ x.port ≠ p) → exec (.commandDoorbell p q i) s = .next refused ∧ exec (.dataMoverDoorbell p q i) s = .next refused ∧
      exec (.headDoorbell p q i) s = .next refused) ∧
    (x.state ≠ .free → x.port = p → x.state ≠ .active → exec (.commandDoorbell p q i) s = .next s ∧ exec (.dataMoverDoorbell p q i) s = .next s ∧
      exec (.headDoorbell p q i) s = .next s) ∧
    (x.state = .active → x.port = p → 2 ^ x.sizeLog2 < (i - x.head).toNat →
      (x.kind = .command → exec (.commandDoorbell p q i) s = .next (s.badDoorbell p q.val)) ∧
      (x.kind = .dataMover → exec (.dataMoverDoorbell p q i) s = .next (s.badDoorbell p q.val))) ∧
    (x.state = .active → x.port = p → (i - x.head).toNat ≤ 2 ^ x.sizeLog2 →
      let moved := s.modQueue q.val fun x => { x with tail := i, lastDb := s.time.lea }
      (x.kind = .dataMover → exec (.dataMoverDoorbell p q i) s = .next moved) ∧
      (x.kind = .command → s.mod.state ≠ .booting → exec (.commandDoorbell p q i) s = .next (moved.takeEntries q.val s.time.lea)) ∧
      (x.kind = .command → s.mod.state = .booting → exec (.commandDoorbell p q i) s =
        .next (moved.modPort p fun y => { y with heldDb := (y.heldDb.filter fun e => e.1 ≠ q.val) ++ [(q.val, i)] }))) ∧
    (x.state = .active → x.port = p → (x.kind = .completion ∨ x.kind = .event) → (x.tail - i).toNat ≤ 2 ^ x.sizeLog2 →
      let moved := s.modQueue q.val fun y => { y with head := i, lastDb := s.time.lea, done := y.done + BitVec.ofNat 64 (i - y.head).toNat, armed := false }
      exec (.headDoorbell p q i) s = .next ((moved.drainHeld q.val 256).rearm q.val (decide (i ≠ x.tail))))) ∧
  (∀ (s : State) (p : Port) (q : Queue) (i : BitVec 32), s.portLive p = false →
    exec (.commandDoorbell p q i) s = .next s ∧ exec (.dataMoverDoorbell p q i) s = .next s ∧ exec (.headDoorbell p q i) s = .next s) ∧
  (∀ (s : State) (n : Nat) (stamp : Lea), Tab.wf s.host.queues {} = true → (s.queue n).state = .active → s.ringReaches (s.queue n) = true →
    let t := s.takeEntries n stamp
    (t.queue n).head = (s.queue n).tail ∧ (t.queue n).tail = (s.queue n).tail ∧ t.mems = s.mems ∧ (∀ m, m ≠ n → t.queue m = s.queue m) ∧
    (t.spin.distaff.get (s.queue n).port).waiting.length = (s.spin.distaff.get (s.queue n).port).waiting.length + ((s.queue n).tail - (s.queue n).head).toNat) ∧
  (∀ (s : State) (k : Fin 4) (w : BitVec 64), s.portLive (ringPort k) = true → w.getLsbD 0 = true → w.toNat / 128 % 16 ≤ 10 → (s.queue k.val).state ≠ .draining →
    (s.host.adminRing.get 0 k.val).getLsbD 0 = false → Tab.wf s.host.queues {} = true →
    ∃ t, exec (.adminRingEnable (ringPort k) k w) s = .next t ∧ t.queue k.val = adminQueue k w ∧ (∀ m, m ≠ k.val → t.queue m = s.queue m) ∧ t.mems = s.mems ∧
      t.host.ports = s.host.ports) ∧
  (∀ (s : State) (p : Port) (k : Fin 4) (w : BitVec 64), s.portLive p = true → p ≠ ringPort k →
    (w.getLsbD 0 = true → exec (.adminRingEnable p k w) s = .next (s.refuseAccess p 3 true (0x100 + 8 * k.val))) ∧
    (w.getLsbD 0 = false → exec (.adminRingDisable p k w) s = .next (s.refuseAccess p 3 true (0x100 + 8 * k.val)))) ∧
  (∀ (s : State) (k : Fin 4) (w : BitVec 64), s.portLive (ringPort k) = true → w.getLsbD 0 = false →
    (s.host.adminRing.get 0 k.val).getLsbD 0 = true → placement (s.host.adminRing.get 0 k.val) = placement w → (s.queue k.val).state = .active →
    exec (.adminRingDisable (ringPort k) k w) s = .next ((s.setRing k.val w).modQueue k.val fun q =>
      { q with state := .draining, cause := .none, tail := q.head, held := [] })) ∧
  (∀ (k : Fin 4) (w : BitVec 64), (adminQueue k w).state = .active ∧ (adminQueue k w).head = 0 ∧ (adminQueue k w).tail = 0 ∧
    (adminQueue k w).base = w.toNat / 4096 * 4096 ∧ (adminQueue k w).sizeLog2 = w.toNat / 128 % 16 + 6)

/-- The merged order (R327, R350): a Distaff sends its time, takes the peer's as it comes and never goes back, and releases the
entries stamped before the latest peer time it has seen, or all of them without a peer; a released entry is counted, and enters
the merged order behind those that come no later. -/
def Obligations.DistaffsReleaseInStampOrder : Prop :=
  (∀ (s : State) (d : IoDie), s.spin.present.get d = true → ∃ t, exec (.distaffHeartbeat d) s = .next t ∧
    t = { s with spin := { s.spin with distaff := t.spin.distaff } } ∧ (t.spin.distaff.get d).ownSent = s.time.lea ∧
    (t.spin.distaff.get d).waiting = (s.spin.distaff.get d).waiting ∧ t.spin.distaff.get (other d) = s.spin.distaff.get (other d)) ∧
  (∀ (s : State) (d : IoDie) (x : BitVec 64), s.spin.present.get d = true → 4 ≤ s.spin.width → ∃ t, exec (.peerStampReceive d x) s = .next t ∧
    t = { s with spin := { s.spin with distaff := t.spin.distaff } } ∧ (t.spin.distaff.get d).peerSeen = later (s.spin.distaff.get d).peerSeen x ∧
    t.spin.distaff.get (other d) = s.spin.distaff.get (other d)) ∧
  (∀ (s : State) (d : IoDie) (x : BitVec 64), s.spin.width < 4 → exec (.peerStampReceive d x) s = .next s) ∧
  (∀ (s : State) (d : IoDie), s.spin.present.get d = true → s.mod.state ≠ .booting →
    let x := s.spin.distaff.get d
    let goes := fun e : Stamped => !s.peerReachable || before e.stamp x.peerSeen
    let s1 : State := { s with spin := { s.spin with distaff := s.spin.distaff.set d { x with waiting := x.waiting.filter fun e => !goes e } } }
    exec (.commandRelease d) s = .next (s1.forEach (x.waiting.filter goes) fun e (u : State) => u.release e)) ∧
  (∀ (s : State) (d : IoDie), (s.spin.present.get d = false ∨ s.mod.state = .booting) → exec (.commandRelease d) s = .next s) ∧
  (∀ (s : State) (e : Stamped), opcodeAssigned e.opcode = true →
    (s.release e).spin.released = s.spin.released + 1 ∧ (s.release e).spin.merged = s.insertMerged e s.spin.merged ∧
    (s.release e).spin.releaseMax = max s.spin.releaseMax (min (since e.stamp s.time.lea) 0xFFFF) ∧ (s.release e).host = s.host ∧ (s.release e).mems = s.mems) ∧
  (∀ (s : State) (e : Stamped), opcodeAssigned e.opcode = false → Executes s → s.muted e.cmd = false → s.cutOff e.cmd = false →
    seqNew (s.queue e.cmd.queue.val) e.cmd.seq = true → (e.cmd.deadline = 0 ∨ before e.cmd.stamp e.cmd.deadline = true) →
    ∃ u : State, u.spin.released = s.spin.released + 1 ∧ u.mems = s.mems ∧ u.host = s.host ∧
      s.release e = (u.take e.cmd).refuse e.opcode e.cmd { status := .badOpcode }) ∧
  (∀ (s : State) (e x : Stamped) (l : List Stamped), (s.mergedLe x e = true → s.insertMerged e (x :: l) = x :: s.insertMerged e l) ∧
    (s.mergedLe x e = false → s.insertMerged e (x :: l) = e :: x :: l)) ∧
  (∀ (e : Stamped), e.entry.length = 64 → e.cmd.seq.toNat = leNat ((e.entry.drop 4).take 4) ∧ e.cmd.deadline.toNat = leNat ((e.entry.drop 8).take 8) ∧
    e.cmd.params.toNat = leNat ((e.entry.drop 16).take 48) ∧ e.cmd.stamp = e.stamp)

/-- BAR0 (R6, R315, R316, R317): a write that no host may make, or that belongs to the other port, is discarded, counted and logged,
as is an access that is not 64-bit and aligned; BAR2_BASE takes a multiple of the BAR's size; an aligned access writes its words
of the MSI-X table, whose pending bits are read-only. BAR2 (R318): a read or write within one line of HBM or of open SRAM
reaches those bytes and no others, a write with EP is discarded and counted, and the rest is refused. BAR4 (R319) reaches queue
memory. -/
def Obligations.HostWindowsReachTheirBytes : Prop :=
  (∀ (s : State) (p : Port) (off : Nat), s.portLive p = true → plainOffset off = true → doorbellOffset off = false →
    (regOwner off = none → exec (.hostRoWrite p off false) s = .next (s.refuseAccess p 2 true off)) ∧
    (∀ q, regOwner off = some q → q ≠ p → exec (.hostRoWrite p off true) s = .next (s.refuseAccess p 3 true off))) ∧
  (∀ (s : State) (p : Port) (off : Nat) (w : Bool), s.portLive p = true → off < 0x4000000 → exec (.badShapeAccess p off w) s = .next (s.refuseAccess p 1 w off)) ∧
  (∀ (s : State) (p : Port) (kind off : Nat) (w d : Bool), let t := s.refuseAccess p kind w off d
    t.mems = s.mems ∧ t.host = s.host ∧ t.region = s.region ∧ t.obs.accessLog.get p = pack [(44, 20, s.time.lea.toNat / 1000), (43, 1, w.toNat), (40, 3, kind), (0, 40, off)] ∧
      t.obs.accessLog.get (other p) = s.obs.accessLog.get (other p)) ∧
  (∀ (s : State) (p q : Port) (v : BitVec 64), s.portLive p = true →
    let off := v.toNat % 2 ^ 40
    (p ≠ q → exec (.bar2BaseWrite p q v) s = .next (s.refuseAccess p 3 true (0x200 + 8 * q.val))) ∧
    (off % (s.host.ports.get p).bar2Size ≠ 0 → exec (.bar2BaseWrite p p v) s = .next (s.refuseAccess p 5 true (0x200 + 8 * p.val))) ∧
    (off % (s.host.ports.get p).bar2Size = 0 → exec (.bar2BaseWrite p p v) s = .next (s.modPort p fun x => { x with bar2Base := BitVec.ofNat 64 off }))) ∧
  (∀ (s : State) (p : Port) (off : Nat) (v : BitVec 64), s.portLive p = true → 0x80000 ≤ off → off < 0x88000 →
    (off % 4 = 0 → exec (.msixTableWrite p off 4 true v) s = .next (s.modPort p fun x => x.msixPut (off - 0x80000) (v.setWidth 32))) ∧
    (off % 8 = 0 → exec (.msixTableWrite p off 8 true v) s = .next (s.modPort p fun x =>
      (x.msixPut (off - 0x80000) (v.setWidth 32)).msixPut (off - 0x80000 + 4) ((v >>> 32).setWidth 32))) ∧
    (off % 4 ≠ 0 → exec (.msixTableWrite p off 4 true v) s = .next (s.refuseAccess p 1 true off))) ∧
  (∀ (s : State) (p : Port) (off : Nat) (v : BitVec 64), 0xC0000 ≤ off → off < 0xC0100 → off % 8 = 0 → exec (.msixTableWrite p off 8 true v) s = .next s) ∧
  (∀ (s : State) (p : Port) (off len : Nat), s.portLive p = true → s.inBar2 p off len = true →
    (s.bar2Place p off len = .reserved → exec (.bar2Read p off len) s = .next (s.refuseAccess p 4 false off) ∧ (s.bar2Value p off len).1 = List.replicate len 0xFF) ∧
    (s.bar2Place p off len ≠ .reserved → s.devBad (s.bar2Place p off len) len = [] → exec (.bar2Read p off len) s = .next s) ∧
    (s.bar2Place p off len ≠ .reserved → s.devBad (s.bar2Place p off len) len ≠ [] → exec (.bar2Read p off len) s = .next (s.bump Ctr.hostPoisonTx p.val)) ∧
    (∀ a, s.bar2Place p off len = .hbm a → (s.bar2Value p off len).1 = s.mems.hbm.read a len) ∧
    (∀ a, s.bar2Place p off len = .sram a → (s.bar2Value p off len).1 = s.mems.sram.read a len)) ∧
  (∀ (s : State) (p : Port) (off : Nat) (d : List (Option Byte)), s.portLive p = true → s.inBar2 p off d.length = true →
    exec (.bar2Write p off d true) s = .next (s.bump Ctr.hostPoisonRx p.val) ∧
    (s.bar2Place p off d.length = .reserved → exec (.bar2Write p off d false) s = .next (s.refuseAccess p 4 true off)) ∧
    (∀ a, s.bar2Place p off d.length = .hbm a → exec (.bar2Write p off d false) s = .next (s.forEach (enabled a d) fun w (u : State) => u.devWrite (.hbm w.1) w.2)) ∧
    (∀ a, s.bar2Place p off d.length = .sram a → (∀ b ∈ d, b.isSome = true) → exec (.bar2Write p off d false) s = .next (s.devWrite (.sram a) (d.filterMap id)))) ∧
  (∀ (s : State) (a : Nat) (bs : List Byte), s.mems.hbm.wf = true → let t := s.devWrite (.hbm a) bs
    (s.mems.hbmMerges a bs.length = [] → t.mems.hbm.read a bs.length = bs) ∧ (∀ b, b < a ∨ a + bs.length ≤ b → t.mems.hbm.get 0 b = s.mems.hbm.get 0 b) ∧
      t.mems.sram = s.mems.sram ∧ t.mems.bar4 = s.mems.bar4) ∧
  (∀ (s : State) (a : Nat) (bs : List Byte), s.mems.sram.wf = true → let t := s.devWrite (.sram a) bs
    t.mems.sram.read a bs.length = bs ∧ (∀ b, b < a ∨ a + bs.length ≤ b → t.mems.sram.get 0 b = s.mems.sram.get 0 b) ∧ t.mems.hbm = s.mems.hbm) ∧
  (∀ (a i : Nat) (d : List (Option Byte)), i < d.length → (d[i]?.join = none ↔ ∀ w ∈ enabled a d, ¬(w.1 ≤ a + i ∧ a + i < w.1 + w.2.length))) ∧
  (∀ (s : State) (p : Port) (off len : Nat) (bs : List Byte), s.portLive p = true → bs ≠ [] → off + bs.length ≤ 268435456 → s.mems.bar4.wf = true →
    s.bar4Reaches p off = true → s.bar4Reaches p (off + bs.length - 1) = true →
    exec (.bar4Access p off len (some bs)) s = .next { s with mems := { s.mems with bar4 := s.mems.bar4.write off bs } } ∧
      (s.mems.bar4.write off bs).read off bs.length = bs ∧ ∀ b, b < off ∨ off + bs.length ≤ b → (s.mems.bar4.write off bs).get 0 b = s.mems.bar4.get 0 b) ∧
  (∀ (s : State) (p : Port) (off len : Nat), s.portLive p = true → 0 < len → off + len ≤ 268435456 →
    (s.bar4Reaches p off = true → s.bar4Reaches p (off + len - 1) = true → exec (.bar4Access p off len none) s = .next s) ∧
    (s.bar4Reaches p off = false → exec (.bar4Access p off len none) s = .next (s.refuseAccess p 6 false off)))

/-- The data mover and a port's life (R314, R328-R330): an entry that names a range of the device starts a transfer, one that
does not, or whose OP is reserved, is answered BAD_PARAM and puts its queue into ERROR; when its bytes have moved they are in
the device, or in the memory of the port's host, and its OK entry is written. A lost link puts the port's queues into ERROR;
PERST frees them, and the admin rings and BAR2_BASE read 0. -/
def Obligations.TransfersMoveTheirBytes : Prop :=
  (∀ (s : State) (m : Move),
    let n := m.queue.val
    let q := s.queue n
    let t := fun b : Bool => ({ queue := n, port := q.port, cq := q.cq, seq := m.seq, toDevice := b, hostAddr := m.hostAddr.toNat, devAddr := m.devAddr.toNat, bytes := m.bytes.toNat } : Transfer)
    let s1 := s.modQueue n fun q => { q with head := q.head + 1, done := q.done + 1 }
    s.portLive q.port = true → q.kind = .dataMover → q.state = .active → q.head ≠ q.tail → s.ringReaches q = true →
    ((∃ x ∈ s.host.transfers, x.queue = n) → m.flags.getLsbD 0 = true → exec (.toDevice m) s = .next s ∧ exec (.fromDevice m) s = .next s) ∧
    (m.badOp = false → m.flags = 0 → m.rest = 0 → 0 < m.bytes.toNat → m.bytes.toNat ≤ 2 ^ 32 → s1.devPlace m.devAddr.toNat m.bytes.toNat ≠ .reserved →
      exec (.toDevice m) s = .next { s1 with host := { s1.host with transfers := s1.host.transfers ++ [t true] } } ∧
      exec (.fromDevice m) s = .next { s1 with host := { s1.host with transfers := s1.host.transfers ++ [t false] } }) ∧
    (m.flags = 0 → m.badOp = true ∨ s1.devPlace m.devAddr.toNat m.bytes.toNat = .reserved →
      exec (.toDevice m) s = .next ((s1.moverDone (t true) .badParam 0).queueError n .badEntry) ∧
      exec (.fromDevice m) s = .next ((s1.moverDone (t false) .badParam 0).queueError n .badEntry))) ∧
  (∀ (s : State) (q : Queue) (seq : BitVec 32) (t : Transfer), (s.host.transfers.find? fun t => decide (t.queue = q.val) && decide (t.seq = seq)) = some t →
    let s1 : State := { s with host := { s.host with transfers := s.host.transfers.erase t } }
    (t.lost = true → exec (.dataMoveComplete q seq) s = .next s1) ∧
    (t.lost = false → t.toDevice = true → exec (.dataMoveComplete q seq) s =
      .next ((s1.devWrite (s1.devPlace t.devAddr t.bytes) ((s1.mems.host t.port).read t.hostAddr t.bytes)).moverDone t .ok (result [(16, 8, t.bytes)]))) ∧
    (t.lost = false → t.toDevice = false → s1.devBad (s1.devPlace t.devAddr t.bytes) t.bytes = [] → exec (.dataMoveComplete q seq) s =
      .next (({ s1 with mems := s1.mems.writeHost t.port t.hostAddr (s1.devRead (s1.devPlace t.devAddr t.bytes) t.bytes) } : State).moverDone t .ok (result [(16, 8, t.bytes)])))) ∧
  (∀ (s : State) (q : Queue) (seq : BitVec 32), (∀ t ∈ s.host.transfers, t.queue = q.val → t.seq ≠ seq) → exec (.dataMoveComplete q seq) s = .next s) ∧
  (∀ (s : State) (p : Port), s.portLive p = true →
    exec (.hostLinkDown p) s = .next (((s.modPort p fun x => { x with up := false, heldDb := [] }).queuesDown p).stopStreams p)) ∧
  (∀ (s : State) (p : Port), Tab.wf s.host.queues {} = true → ∀ n, (s.queue n).port = p → (s.queue n).state ≠ .free →
    ((s.queuesDown p).queue n).state = .error ∧ ((s.queuesDown p).queue n).cause = .linkDown) ∧
  (∀ (s : State) (p : Port), (s.host.ports.get p).perst = false → Tab.wf s.host.queues {} = true → Tab.wf s.host.adminRing 0 = true →
    ∃ t, exec (.perstAssert p) s = .next t ∧ (t.host.ports.get p).perst = true ∧ (t.host.ports.get p).up = false ∧ (t.host.ports.get p).bar2Base = 0 ∧
      t.host.adminRing.get 0 (2 * p.val) = 0 ∧ t.host.adminRing.get 0 (2 * p.val + 1) = 0 ∧ t.mems = s.mems ∧ t.host.ports.get (other p) = s.host.ports.get (other p) ∧
      (∀ n, (s.queue n).port = p → (t.queue n).state = .free) ∧ (∀ n, (s.queue n).port ≠ p → t.queue n = s.queue n)) ∧
  (∀ (s : State) (p : Port), (s.host.ports.get p).perst = true → exec (.perstAssert p) s = .next s) ∧
  (∀ (s : State) (p : Port), exec (.perstRelease p) s = .next (s.modPort p fun x => { x with perst := false })) ∧
  (∀ (s : State) (p : Port), (s.host.ports.get p).perst = false → s.spin.present.get p = true → s.pow.supply ≠ .off →
    exec (.hostLinkUp p) s = .next (s.modPort p fun x => { x with up := true })) ∧
  (∀ (s : State) (p : Port), (s.host.ports.get p).perst = true → exec (.hostLinkUp p) s = .next s)

/-! ### Cells, stream engines and rings -/

/-- An instruction issues only in its thread's turn (R80-R82) and only where the word fetched is of its class and operation
(R110): a poisoned word ends the thread with its cause, a reserved class or an illegal operand block is ILLEGAL_OP with the
thread FAULTED, a word of another instruction leaves this one without effect, and a poisoned register is handled as an
uncorrectable error of the register file (R96). Otherwise it has its effect on its own thread: a scalar or vector result in its
destination register, for BF16 and FP32 addition, subtraction, multiplication and fused multiply-add lane by lane as R41 and
R111 round, for CONVERT lane by lane under its ROUND (R111) and the health of the entropy source, a special register's value, a
branch's target from the branch's own address (DESIGN CHOICE, log 129); the next instruction follows. A residue mismatch ends
the thread and writes nothing (R57). END frees the thread, and 64 beats in a row give up the turn (R82). -/
def Obligations.RegisterInstructionsChangeTheirThread : Prop :=
  (∀ (s : State) (c : Cell) (t : Thread),
    let on := s.issue c t
    let ip := (s.thr c t).ip
    let w := s.fetch c t
    let x31 := fun i : CvtOp => if i.round = 3 then [31] else []
    let all := fun u : State => (∀ i, (classOf w ≠ 0 ∨ operationOf w = i.op.toNat) → exec (.scalarAlu c t i) s = .next u) ∧
      (∀ i, (classOf w ≠ 2 ∨ operationOf w = i.op.toNat) → exec (.vectorAlu c t i) s = .next u) ∧ (∀ i, exec (.convert c t i) s = .next u) ∧
      (∀ i, exec (.branch c t i) s = .next u) ∧ (∀ rd x b, exec (.special c t rd x b) s = .next u) ∧ exec (.endThread c t) s = .next u
    (s.issues c t = false → all s) ∧
    (s.issues c t = true → s.fetchBad c t = true → all (on.threadUe c t (cellSram c (8 * (ip / 8))))) ∧
    (s.issues c t = true → s.fetchBad c t = false → 11 ≤ classOf w → all (on.threadFault c t 0x0105)) ∧
    (∀ k, k < 11 → Fetches s c t k →
      (∀ i, (k ≠ 0 ∨ operationOf w ≠ i.op.toNat) → exec (.scalarAlu c t i) s = .next s) ∧
      (∀ i, (k ≠ 2 ∨ operationOf w ≠ i.op.toNat) → exec (.vectorAlu c t i) s = .next s) ∧
      (k ≠ 4 → ∀ i, exec (.convert c t i) s = .next s) ∧ (k ≠ 9 → ∀ i, exec (.branch c t i) s = .next s) ∧
      (k ≠ 10 → (∀ rd x b, exec (.special c t rd x b) s = .next s) ∧ exec (.endThread c t) s = .next s)) ∧
    ((∀ i, Fetches s c t 0 → operationOf w = i.op.toNat → i.legal = false → exec (.scalarAlu c t i) s = .next (on.threadFault c t 0x0105)) ∧
      (∀ i, Fetches s c t 2 → operationOf w = i.op.toNat → i.legal = false → exec (.vectorAlu c t i) s = .next (on.threadFault c t 0x0105)) ∧
      (∀ i, Fetches s c t 4 → (i.legal = false ∨ Fmt.ofCode i.src = none ∨ Fmt.ofCode i.dst = none) → exec (.convert c t i) s = .next (on.threadFault c t 0x0105)) ∧
      (∀ i, Fetches s c t 9 → i.legal = false → exec (.branch c t i) s = .next (on.threadFault c t 0x0105)) ∧
      (∀ rd x, Fetches s c t 10 → exec (.special c t rd x false) s = .next (on.threadFault c t 0x0105))) ∧
    (CellWf s c t →
      (∀ i, Fetches s c t 0 → operationOf w = i.op.toNat → i.legal = true →
        let reg := i.rs.val :: (i.rt.map (·.val)).toList
        (¬Unmarked s c t reg [] → exec (.scalarAlu c t i) s = .next (on.regUe c t)) ∧
        (Unmarked s c t reg [] → i.residueOk = false → exec (.scalarAlu c t i) s = .next ((on.bump Ctr.vectorResidue c).threadFault c t 0x0103)) ∧
        (Unmarked s c t reg [] → i.residueOk = true → ∃ u, exec (.scalarAlu c t i) s = .next u ∧ OnlyX s u c t i.rd ∧
          u.x c t i.rd = Config.scalarAlu i.op (s.x c t i.rs) (match i.rt with | some r => s.x c t r | none => i.imm.setWidth 64) ∧
          (∀ r, r ≠ i.rd → u.x c t r = s.x c t r) ∧ (u.thr c t).v = (s.thr c t).v ∧ (u.thr c t).ip = ip + 8 ∧ (u.thr c t).state = .running ∧
          (u.thr c t).posted = (s.thr c t).posted)) ∧
      (∀ i, Fetches s c t 2 → operationOf w = i.op.toNat → i.legal = true →
        let reg := [i.vs.val, i.vt.val, i.mask.val] ++ (i.vu.map (·.val)).toList
        (¬Unmarked s c t [] reg → exec (.vectorAlu c t i) s = .next (on.regUe c t)) ∧
        (Unmarked s c t [] reg → i.residueOk = false → exec (.vectorAlu c t i) s = .next ((on.bump Ctr.vectorResidue c).threadFault c t 0x0103)) ∧
        (Unmarked s c t [] reg → i.residueOk = true → ∃ u, exec (.vectorAlu c t i) s = .next u ∧ OnlyV s u c t i.vd ∧
          u.v c t i.vd = vectorResult i.op i.etype ([s.v c t i.vs, s.v c t i.vt] ++ (match i.vu with | some r => [s.v c t r] | none => [])) (s.v c t i.mask) (s.v c t i.vd) ∧
          (∀ r, r ≠ i.vd → u.v c t r = s.v c t r) ∧ (u.thr c t).x = (s.thr c t).x ∧ (u.thr c t).cond = (s.thr c t).cond ∧ (u.thr c t).ip = ip + 8)) ∧
      (∀ i f g, Fetches s c t 4 → i.legal = true → Fmt.ofCode i.src = some f → Fmt.ofCode i.dst = some g →
        (¬Unmarked s c t (x31 i) [i.vs.val] → exec (.convert c t i) s = .next (on.regUe c t)) ∧
        (Unmarked s c t (x31 i) [i.vs.val] → i.residueOk = false → exec (.convert c t i) s = .next ((on.bump Ctr.vectorResidue c).threadFault c t 0x0103)) ∧
        (Unmarked s c t (x31 i) [i.vs.val] → i.residueOk = true → i.round = 2 → (s.reg (regionOfCell c)).entropyDead = true →
          exec (.convert c t i) s = .next (on.threadFault c t 0x0104)) ∧
        (Unmarked s c t (x31 i) [i.vs.val] → i.residueOk = true → (i.round ≠ 2 ∨ (s.reg (regionOfCell c)).entropyDead = false) →
          let seed := match s.launchOf (regionOfCell c) with | some l => l.seed | none => 0
          let md := fun lane : Nat => if i.round = 0 then Rnd.rne else if i.round = 1 then .rtz
            else if i.round = 2 then .sr (Config.entropy s.free 5 0 lane).toNat else .sr (srDraw seed ((s.x c t 31).toNat % 2 ^ 32) 5 0 lane)
          let row := vecBytes (s.v c t i.vs) 256
          ∃ u, exec (.convert c t i) s = .next u ∧ OnlyV s u c t i.vd ∧
            u.v c t i.vd = BitVec.ofNat 2048 (leNat (packRow g ((List.range (min f.lanes g.lanes)).map fun k => convertLane f g (md k) (f.code row k)))) ∧
            (∀ r, r ≠ i.vd → u.v c t r = s.v c t r) ∧ (u.thr c t).x = (s.thr c t).x ∧ (u.thr c t).ip = ip + 8)) ∧
      (∀ rd x, Fetches s c t 10 → ∃ u, exec (.special c t rd x true) s = .next u ∧ OnlyX s u c t rd ∧
        u.x c t rd = (match x with | .lea => s.time.lea | .cellId => BitVec.ofNat 64 c.val | .tileSeq => (s.cel c).lastSeq.setWidth 64) ∧
        (∀ r, r ≠ rd → u.x c t r = s.x c t r) ∧ (u.thr c t).v = (s.thr c t).v ∧ (u.thr c t).ip = ip + 8) ∧
      (∀ i, Fetches s c t 9 → i.legal = true →
        (¬Unmarked s c t (i.target.map (·.val)).toList [] → exec (.branch c t i) s = .next (on.regUe c t)) ∧
        (Unmarked s c t (i.target.map (·.val)).toList [] → ∃ u, exec (.branch c t i) s = .next u ∧ OnlyThread s u c t ∧
          (u.thr c t).x = (s.thr c t).x ∧ (u.thr c t).v = (s.thr c t).v ∧
          (Config.branchTaken i.cond (s.thr c t).cond = false → (u.thr c t).ip = ip + 8) ∧
          (Config.branchTaken i.cond (s.thr c t).cond = true → (u.thr c t).ip = match i.target with
            | some r => (s.x c t r).toNat
            | none => (BitVec.ofNat 64 ip + i.offset.signExtend 64).toNat))) ∧
      (Fetches s c t 10 → ∃ u, exec (.endThread c t) s = .next u ∧ OnlyThread s u c t ∧ (u.thr c t).state = .free ∧ (u.thr c t).x = (s.thr c t).x)) ∧
    (∀ x, x = s.cel c →
      (s.thr c x.lastRun).state = .running → 64 ≤ (s.thr c x.lastRun).issued → x.readyOrder ≠ [] → CellWf s c x.lastRun →
      ∃ u, exec (.threadQuantum c) s = .next u ∧ OnlyThread s u c x.lastRun ∧ (u.thr c x.lastRun).state = .ready ∧ (u.thr c x.lastRun).ip = (s.thr c x.lastRun).ip) ∧
    ((s.thr c (s.cel c).lastRun).issued < 64 → exec (.threadQuantum c) s = .next s)) ∧
  (∀ (op : BitVec 8) (etype : BitVec 4) (srcs : List (BitVec 2048)) (mask old : BitVec 2048),
    match Config.vectorType etype with
    | none => vectorResult op etype srcs mask old = Config.vectorAlu op etype srcs mask old
    | some bf => ∀ k, k < (if bf then 128 else 64) → laneOf bf (vectorResult op etype srcs mask old) k =
        match laneArith bf (Config.vectorArith op) (srcs.map fun v => laneOf bf v k) with
        | some r => if Config.laneOn mask k then r % 2 ^ (if bf then 16 else 32) else laneOf bf (Config.vectorAlu op etype srcs mask old) k
        | none => laneOf bf (Config.vectorAlu op etype srcs mask old) k)

/-- Memory instructions (R81, R96, R110, R113): within the cell's own store a load gives its register the bytes there, extended,
and a store changes those bytes and no others, or is held while a replay still reads them and its thread waits (DESIGN CHOICE,
log 124); a load of a poisoned word ends the thread, and a poisoned register is handled as R96 says; outside the store a load
leaves as a request and the thread waits, and a store or an ATOMIC is posted, up to sixteen; a busy line is waited for; SYNC
FENCE waits until none is outstanding. DESC posts the descriptor it names behind those of its cell, gives up the turn with 16
there, ends the thread on a poisoned one, and one that lies nowhere or is not valid stamps SE_DESC (R89, R92; DESIGN CHOICE, log
130). -/
def Obligations.MemoryInstructionsReachTheirBytes : Prop :=
  ∀ (s : State) (c : Cell) (t : Thread), CellWf s c t →
    let on := s.issue c t
    let ip := (s.thr c t).ip
    let waits := ((s.cel c).heldStores.any fun h => decide (h.owner = .thread t)) = true
    (∀ i, Fetches s c t 1 → i.legal = true → 1 ≤ i.bytes → i.bytes ≤ 8 →
      let a := s.ea c t i.base i.offset
      let data := leBytes i.bytes (s.x c t i.reg).toNat
      let reg := i.base.val :: if i.load then [] else [i.reg.val]
      (¬Unmarked s c t reg [] → exec (.scalarMem c t i) s = .next (on.regUe c t)) ∧
      (Unmarked s c t reg [] →
        (i.load = true → ownStore a i.bytes = true → s.mems.sramBad (cellSram c a) i.bytes = false → ∃ u, exec (.scalarMem c t i) s = .next u ∧ OnlyX s u c t i.reg ∧
          u.x c t i.reg = extend i.bytes (leNat (s.mems.sram.read (cellSram c a) i.bytes)) i.signExtend ∧ (∀ r, r ≠ i.reg → u.x c t r = s.x c t r) ∧
          (u.thr c t).v = (s.thr c t).v ∧ (u.thr c t).ip = ip + 8) ∧
        (i.load = true → ownStore a i.bytes = true → s.mems.sramBad (cellSram c a) i.bytes = true →
          exec (.scalarMem c t i) s = .next (on.threadUe c t (cellSram c a))) ∧
        (i.load = false → ownStore a i.bytes = true → exec (.scalarMem c t i) s = .next ((on.storeOwn c t a data).stored c t)) ∧
        (i.load = false → ownStore a i.bytes = true → s.heldByReplay c a i.bytes = false → s.mems.mergesBad (cellSram c a) i.bytes = false → ¬waits → s.mems.sram.wf = true →
          ∃ u, exec (.scalarMem c t i) s = .next u ∧ OnlyThread s { u with mems := s.mems } c t ∧ u.mems.sram.read (cellSram c a) i.bytes = data ∧
            (∀ b, b < cellSram c a ∨ cellSram c a + i.bytes ≤ b → u.mems.sram.get 0 b = s.mems.sram.get 0 b) ∧ u.mems.hbm = s.mems.hbm ∧
            (u.thr c t).x = (s.thr c t).x ∧ (u.thr c t).ip = ip + 8 ∧ (u.thr c t).state = .running) ∧
        (i.load = false → ownStore a i.bytes = true → s.heldByReplay c a i.bytes = true → ∃ u, exec (.scalarMem c t i) s = .next u ∧ u.mems = s.mems ∧
          (u.cel c).heldStores = (s.cel c).heldStores ++ [{ addr := a, data := data, bad := false, owner := .thread t }] ∧
          (u.thr c t).ip = ip + 8 ∧ (u.thr c t).state = .waitMem ∧ (u.thr c t).waiting = .held) ∧
        (i.load = true → ownStore a i.bytes = false → s.lineBusy c t a i.bytes = false → exec (.scalarMem c t i) s =
          .next (((on.request c t { kind := .load, reg := i.reg, bytes := i.bytes, dst := i.signExtend.toNat, offset := a }).nextIp c t).park c t .waitMem)) ∧
        (i.load = true → ownStore a i.bytes = false → s.lineBusy c t a i.bytes = true → exec (.scalarMem c t i) s = .next (on.park c t .waitMem .room)) ∧
        (i.load = false → ownStore a i.bytes = false → exec (.scalarMem c t i) s =
          .next (on.postOut c t { kind := .store, bytes := i.bytes, offset := a, data := data })))) ∧
    (∀ i, Fetches s c t 3 → i.legal = true → 1 ≤ i.elem * i.count → i.elem * i.count ≤ 256 →
      let a := s.ea c t i.base i.offset
      let at_ := fun k : Nat => ((a : Int) + k * i.stride).toNat
      let own := (List.range i.count).all fun k => decide ((a : Int) + k * i.stride ≥ 0) && ownStore (at_ k) i.elem
      let vec := if i.load then [] else [i.v.val]
      (¬Unmarked s c t [i.base.val] vec → exec (.vectorMem c t i) s = .next (on.regUe c t)) ∧
      (Unmarked s c t [i.base.val] vec →
        (own = true → i.load = true → (∀ k < i.count, s.mems.sramBad (cellSram c (at_ k)) i.elem = false) → ∃ u, exec (.vectorMem c t i) s = .next u ∧ OnlyV s u c t i.v ∧
          u.v c t i.v = BitVec.ofNat 2048 (leNat ((List.range i.count).flatMap fun k => s.mems.sram.read (cellSram c (at_ k)) i.elem)) ∧
          (∀ r, r ≠ i.v → u.v c t r = s.v c t r) ∧ (u.thr c t).x = (s.thr c t).x ∧ (u.thr c t).ip = ip + 8) ∧
        (own = true → i.load = true → (∃ k < i.count, s.mems.sramBad (cellSram c (at_ k)) i.elem = true) →
          exec (.vectorMem c t i) s = .next (on.threadUe c t (cellSram c a))) ∧
        (own = true → i.load = false → exec (.vectorMem c t i) s = .next ((on.forEach (List.range i.count) fun k u =>
          u.storeOwn c t (at_ k) (((vecBytes (u.v c t i.v) 256).drop (k * i.elem)).take i.elem)).stored c t)) ∧
        (own = false → i.load = true → s.lineBusy c t a (i.elem * i.count) = false → exec (.vectorMem c t i) s =
          .next (((on.request c t { kind := .vload, reg := i.v, bytes := i.elem * i.count, offset := a }).nextIp c t).park c t .waitMem)) ∧
        (own = false → i.load = true → s.lineBusy c t a (i.elem * i.count) = true → exec (.vectorMem c t i) s = .next (on.park c t .waitMem .room)) ∧
        (own = false → i.load = false → exec (.vectorMem c t i) s =
          .next (on.postOut c t { kind := .store, bytes := i.elem * i.count, offset := a, data := vecBytes (s.v c t i.v) (i.elem * i.count) })))) ∧
    (∀ i, Fetches s c t 8 → operationOf (s.fetch c t) = i.op.toNat → i.legal = true → Unmarked s c t [i.data.val, i.compare.val, i.addr.val] [] →
      let r : SlotSt := { kind := .atomic, reg := i.data, bytes := if i.wide then 16 else 8, offset := (s.x c t i.addr).toNat, aop := i.op.toNat, operand := s.pairOf c t i.data i.wide, compare := s.pairOf c t i.compare i.wide }
      exec (.atomic c t i) s = .next (on.postOut c t r)) ∧
    (∀ r, (16 ≤ (s.thr c t).posted → on.postOut c t r = on.park c t .waitMem .room) ∧
      ((s.thr c t).posted < 16 →
        let out := ((on.request c t r).wakeReel.modThr c t fun x => { x with posted := x.posted + 1 }).nextIp c t
        on.postOut c t r = if (on.threadSlot c).isSome then out.park c t .ready else out.park c t .waitMem .slot)) ∧
    (Fetches s c t 6 → (s.thr c t).posted = 0 → ∃ u, exec (.syncFence c t) s = .next u ∧ OnlyThread s u c t ∧ (u.thr c t).ip = ip + 8 ∧ (u.thr c t).state = .running ∧ (u.thr c t).x = (s.thr c t).x) ∧
    (Fetches s c t 6 → 0 < (s.thr c t).posted → ∃ u, exec (.syncFence c t) s = .next u ∧ OnlyThread s u c t ∧ (u.thr c t).ip = ip ∧ (u.thr c t).state = .waitMem ∧ (u.thr c t).waiting = .fence) ∧
    (∀ r, Fetches s c t 7 → Unmarked s c t (descRegs r) [] →
      (16 ≤ (s.cel c).queue.length → exec (.desc c t r true) s = .next (on.park c t .ready)) ∧
      ((s.cel c).queue.length < 16 →
        (∀ a, s.descRef c t r = some a → s.mems.sramBad a 64 = false →
          exec (.desc c t r true) s = .next ((on.nextIp c t).postDesc c (Desc.read (s.mems.sram.read a 64)))) ∧
        (∀ a, s.descRef c t r = some a → s.mems.sramBad a 64 = true → exec (.desc c t r true) s = .next (on.threadUe c t a)) ∧
        (s.descRef c t r = none → exec (.desc c t r true) s = .next ((on.nextIp c t).badDesc c (Desc.read []))))) ∧
    (∀ r n, s.descRef c t (.reg r) = (if (s.x c t r).toNat + 64 ≤ 0x100000 then some (cellSram c (s.x c t r).toNat) else none) ∧
      s.descRef c t (.index n) = s.descAddr (blockOfCell c) n) ∧
    (∀ d, s.descOk (blockOfCell c) d = true → let u := s.postDesc c d
      (u.cel c).queue = (s.cel c).queue ++ [{ no := (s.cel c).descNo, desc := d }] ∧ (∀ k, k ≠ c.val → u.cel k = s.cel k) ∧ u.mems = s.mems ∧ u.block = s.block) ∧
    (∀ d, s.descOk (blockOfCell c) d = false → s.postDesc c d = s.badDesc c d)

/-- Tokens and barriers (R113, R115, R118, R119): a signal adds to its token, or stamps TOKEN_OVF above 65,535 and leaves it; it
waits for the thread's stores and while the block's VC0 queue is full; a wait takes its count, or waits, and a peek takes
nothing; an arrival counts, the last of a generation lets its waiters go and begins the next, and one that comes after a
module-scope count is reached belongs to the generation after; a module-scope generation is released when every region of the
launch has reached its count; one that is not released in time stamps BARRIER_TIMEOUT and its waiters are FAULTED, and so are
the region's other waiters of that age (DEDUCED, log 128). ARRAY queues its tile behind the one in execution, or waits while
both places are taken (R77); a poisoned entry ends the thread, and one outside the store or not valid is ILLEGAL_OP. -/
def Obligations.TokensAndBarriersSynchronise : Prop :=
  (∀ (s : State) (c : Cell) (t : Thread), CellWf s c t →
    let on := s.issue c t
    let r := regionOfCell c
    let b := blockOfCell c
    let ip := (s.thr c t).ip
    (∀ token n, Fetches s c t 6 → token ≤ 4095 → 1 ≤ n → n ≤ 255 →
      let m := (s.reg r).tokens.get 0 token
      ((s.thr c t).posted = 0 → s.vc0Full b = false →
        exec (.syncSignal c t token n) s = .next (((on.nextIp c t).signal r token n c).tellSignal b token n)) ∧
      ((s.thr c t).posted = 0 → s.vc0Full b = true → exec (.syncSignal c t token n) s = .next (on.park c t .waitSync .vc0)) ∧
      (0 < (s.thr c t).posted → exec (.syncSignal c t token n) s = .next (on.park c t .waitMem .fence)) ∧
      (n ≤ m → exec (.syncWait c t token n) s = .next ((on.modReg r fun x => { x with tokens := x.tokens.set 0 token (m - n) }).nextIp c t)) ∧
      (m < n → exec (.syncWait c t token n) s = .next ((on.nextIp c t).park c t .waitSync (.token token n true))) ∧
      (n ≤ m → exec (.syncPeek c t token n) s = .next (on.nextIp c t)) ∧
      (m < n → exec (.syncPeek c t token n) s = .next ((on.nextIp c t).park c t .waitSync (.token token n false)))) ∧
    (∀ token n, Fetches s c t 6 → (4095 < token ∨ n = 0 ∨ 255 < n) → exec (.syncSignal c t token n) s = .next (on.threadFault c t 0x0105) ∧
      exec (.syncWait c t token n) s = .next (on.threadFault c t 0x0105) ∧ exec (.syncPeek c t token n) s = .next (on.threadFault c t 0x0105)) ∧
    (∀ k, Fetches s c t 6 → k ≤ 255 →
      ((s.thr c t).posted = 0 →
        exec (.syncArrive c t k false) s = .next (((on.nextIp c t).tellArrive b k).arrive r k none) ∧
        exec (.syncArrive c t k true) s = .next ((((on.nextIp c t).tellArrive b k).park c t .waitSync (.barrier k)).arrive r k (some (c.val, t.val)))) ∧
      (0 < (s.thr c t).posted → ∀ w, exec (.syncArrive c t k w) s = .next (on.park c t .waitMem .fence))) ∧
    (∀ rs, Fetches s c t 5 → Unmarked s c t [rs.val] [] →
      let a := (s.x c t rs).toNat
      let tile : Tile := { entry := a, seq := (s.cel c).tileSeq + 1, prog := s.arrayProg c a }
      (ownStore a 40 = true → s.mems.sramBad (cellSram c a) 40 = true → exec (.array c t rs true) s = .next (on.threadUe c t (cellSram c a))) ∧
      ((ownStore a 40 = false ∨ s.mems.sramBad (cellSram c a) 40 = false ∧ (s.arrayProg c a).valid = false) →
        exec (.array c t rs true) s = .next (on.threadFault c t 0x0105)) ∧
      (ownStore a 40 = true → s.mems.sramBad (cellSram c a) 40 = false → (s.arrayProg c a).valid = true →
        (((s.cel c).exec = none ∨ (s.cel c).queued = none) → ∃ u, exec (.array c t rs true) s = .next u ∧ u = { s with cell := u.cell } ∧ (u.thr c t).ip = ip + 8 ∧
          (u.cel c).tileSeq = (s.cel c).tileSeq + 1 ∧ (∀ k, k ≠ c.val → u.cel k = s.cel k) ∧
          ((s.cel c).exec = none → (u.cel c).exec = some tile ∧ (u.cel c).queued = (s.cel c).queued) ∧
          ((s.cel c).exec ≠ none → (u.cel c).exec = (s.cel c).exec ∧ (u.cel c).queued = some tile)) ∧
        ((s.cel c).exec ≠ none → (s.cel c).queued ≠ none → ∃ u, exec (.array c t rs true) s = .next u ∧ OnlyThread s u c t ∧
          (u.thr c t).state = .waitSync ∧ (u.thr c t).waiting = .arrayPlace ∧ (u.thr c t).ip = ip)))) ∧
  (∀ (s : State) (r k n unit_ : Nat), Tab.wf s.region {} = true → Tab.wf (s.reg r).tokens 0 = true →
    let m := (s.reg r).tokens.get 0 k + n
    (65535 < m → s.signal r k n unit_ = s.stamp 0x0106 unit_ r) ∧
    (m ≤ 65535 → s.tokenWaiters r k = [] → ((s.signal r k n unit_).reg r).tokens.get 0 k = m ∧ (s.signal r k n unit_).mems = s.mems ∧
      (∀ j, j ≠ k → ((s.signal r k n unit_).reg r).tokens.get 0 j = (s.reg r).tokens.get 0 j) ∧ ∀ q, q ≠ r → (s.signal r k n unit_).reg q = s.reg q)) ∧
  (∀ (s : State) (r k : Nat) (w : Option (Nat × Nat)), Tab.wf s.region {} = true → Tab.wf (s.reg r).barriers {} = true →
    let b := s.bar r k
    let u := s.arrive r k w
    (b.reached = false → b.arrived + 1 < b.participants →
      (u.bar r k).arrived = b.arrived + 1 ∧ (u.bar r k).gen = b.gen ∧ (u.bar r k).waiters = b.waiters ++ w.toList ∧ u.cell = s.cell) ∧
    (b.reached = false → b.participants ≤ b.arrived + 1 → b.moduleScope = false →
      (u.bar r k).arrived = b.early ∧ (u.bar r k).gen = b.gen + 1 ∧ (u.bar r k).waiters = b.earlyWaiters) ∧
    (b.reached = false → b.participants ≤ b.arrived + 1 → b.moduleScope = true → (u.bar r k).reached = true ∧ (u.bar r k).gen = b.gen ∧ u.cell = s.cell) ∧
    (b.reached = true → b.moduleScope = true → (u.bar r k).early = b.early + 1 ∧ (u.bar r k).earlyWaiters = b.earlyWaiters ++ w.toList ∧
      (u.bar r k).arrived = b.arrived ∧ (u.bar r k).waiters = b.waiters ∧ (u.bar r k).gen = b.gen ∧ u.cell = s.cell) ∧
    (((s.releaseBar r k).bar r k).arrived = b.early ∧ ((s.releaseBar r k).bar r k).waiters = b.earlyWaiters ∧ ((s.releaseBar r k).bar r k).gen = b.gen + 1 ∧
      (((s.releaseBar r k).bar r k).reached = true ↔ b.moduleScope = true ∧ b.participants ≤ b.early))) ∧
  (∀ (s : State) (n b : Nat) (l : Launch), (s.job.launches.find? fun l => l.running && decide (l.seqNo.toNat = n)) = some l →
    ((∀ r ∈ onesOf 16 l.mask, (s.bar r b).moduleScope = true ∧ (s.bar r b).reached = true) →
      exec (.moduleBarrierRelease n b) s = .next (s.forEach (onesOf 16 l.mask) fun r u => u.releaseBar r b)) ∧
    (∀ r ∈ onesOf 16 l.mask, (s.bar r b).reached = false → exec (.moduleBarrierRelease n b) s = .next s)) ∧
  (∀ (s : State) (r : Region) (b : Nat) (l : Launch), s.launchOf r = some l →
    let late := fun u : State => u.forEach (u.lateWaiters r (1000 * l.barrierUs)) fun w v => v.threadFault w.1 w.2 0x0107
    (0 < (s.bar r b).arrived → 1000 * l.barrierUs ≤ since (s.bar r b).firstAt s.time.lea → exec (.barrierTimeout r b) s =
      .next (late (((s.stamp 0x0107 b r).modBar r b fun x => { x with waiters := [] }).forEach (s.bar r b).waiters fun w u => u.park w.1 w.2 .faulted))) ∧
    (((s.bar r b).arrived = 0 ∨ since (s.bar r b).firstAt s.time.lea < 1000 * l.barrierUs) → exec (.barrierTimeout r b) s = .next (late s)) ∧
    ((∀ e ∈ s.cell, ∀ y ∈ e.2.threads, y.2.state ≠ .waitSync) → late s = s))

/-- Descriptors (R87-R93, R136, R178, R196, R208, R225): the first one not started starts when its region runs, its token is
there and, under FENCE, all earlier ones are complete; COPY, GATHER, SCATTER and FILL then issue their requests, RAW_TX and
RAW_RX take their live bobbin or stamp PHASE_NOT_LIVE, RAW_TX as the data and check frames of its rows, RING_REDUCE joins its
group and, where a chain starts, queues its flits, PLY_TX joins its port's group. A piece of at most a granule of rows of this
block writes to its destination the bytes of its source, or FILL's, and a piece that goes by the ring writes nothing until its
flits arrive; a descriptor with all requests answered leaves its queue and signals its token. A started descriptor takes its
token and nothing else. -/
def Obligations.DescriptorsMoveTheirRows : Prop :=
  (∀ (s : State) (c : Cell) (q : DescSt), (s.cel c).nextDesc = some q → s.mayStart c q = true →
    let d := q.desc
    let b := blockOfCell c
    let id := BitVec.ofNat 32 d.aux
    let on := s.startStream c q 0
    let g : RedGroup := { cell := c, ext := d.ext, startAt := s.time.lea, flits := redFlits d }
    let joined := on.modBlk b fun x => { x with groups := x.groups.set none (redGroup d.ext) (some g) }
    (d.op = 1 → exec (.copy c) s = .next (s.startMove c q)) ∧ (d.op = 2 → exec (.gather c) s = .next (s.startMove c q)) ∧
    (d.op = 3 → exec (.scatter c) s = .next (s.startMove c q)) ∧ (d.op = 4 → exec (.fill c) s = .next (s.startMove c q)) ∧
    (d.op = 5 → s.bobLive id = true → (∀ i < d.rows, s.mems.sramBad (s.rowSrc d i).toNat d.rowBytes = false) →
      let rows := (List.range d.rows).flatMap fun i => s.mems.sram.read (s.rowSrc d i).toNat d.rowBytes
      exec (.rawTx c) s = .next ((on.streamRows c q 7).modSnd id fun x =>
        { x.put (on.streamTag c q.no) (rawFrames x.nextSeq d.aux rows) with acked := 0 })) ∧
    (d.op = 5 → s.bobLive id = false → exec (.rawTx c) s = .next (on.notLive c q)) ∧
    (d.op = 6 → s.bobLive id = true → exec (.rawRx c) s = .next (on.modRcv id (regionOfCell c) fun x =>
      { x with since_ := [], frames := 0, good := 0, bad := false, finished := false, waiting := [] })) ∧
    (d.op = 6 → s.bobLive id = false → exec (.rawRx c) s = .next (on.notLive c q)) ∧
    (d.op = 7 → redDest d.ext ≠ b % 16 → redStarts d.ext (b % 16) = false → exec (.ringReduce c) s = .next joined) ∧
    (d.op = 7 → redDest d.ext ≠ b % 16 → redStarts d.ext (b % 16) = true →
      exec (.ringReduce c) s = .next (joined.forEach (List.range (redFlits d)) fun i u =>
        let own := u.redOwn g d i
        ((u.when own.2 fun u => u.sramCause d.srcAddr d.mark).redSeen (b / 16) own.2 0).queueFlit (b / 16) 2
          (redFlit d.ext (b % 16) i (decide (i + 1 = redFlits d)) own.1 own.2 0))) ∧
    (d.op = 7 → redDest d.ext = b % 16 → redChains d.ext ≠ [] → exec (.ringReduce c) s = .next joined) ∧
    (d.op = 7 → redDest d.ext = b % 16 → redChains d.ext = [] → ∃ t, exec (.ringReduce c) s = .next t ∧ (t.reg (b / 16)).lastDone = redGroup d.ext ∧
      (Tab.wf s.region {} = true → Tab.wf s.block {} = true → Tab.wf (s.blk b).groups none = true →
        (t.blk b).groups.get none (redGroup d.ext) = some { g with done := redFlits d })) ∧
    (d.op = 8 → ∀ i, s.plyIxOf d.aux = some i → s.bobLive id = true → (s.plyPort i).open_ d.ext (s.memberOf i d.aux) = true → Tab.wf s.ply {} = true →
      ∃ t, exec (.plyTx c) s = .next t ∧ (∀ j, j ≠ i → t.plyPort j = s.plyPort j) ∧ t.mems = s.mems ∧
        ∃ g, (t.plyPort i).grp = some g ∧ g.group = ((s.plyPort i).grp.getD { group := plyGroup d.ext, startAt := s.time.lea }).group ∧
          (plySink d.ext = true → g.sink = some c.val) ∧ (plySink d.ext = false → g.sink = ((s.plyPort i).grp.getD { group := plyGroup d.ext, startAt := s.time.lea }).sink))) ∧
  (∀ (s : State) (c : Cell), ((s.cel c).nextDesc = none ∨ ∃ q, (s.cel c).nextDesc = some q ∧ s.mayStart c q = false) →
    exec (.copy c) s = .next s ∧ exec (.gather c) s = .next s ∧ exec (.scatter c) s = .next s ∧ exec (.fill c) s = .next s ∧ exec (.rawTx c) s = .next s ∧
      exec (.rawRx c) s = .next s ∧ exec (.ringReduce c) s = .next s ∧ exec (.plyTx c) s = .next s) ∧
  (∀ (s : State) (c : Nat) (q : DescSt) (i : Nat), (q.desc.op = 1 ∨ q.desc.op = 4) → q.desc.src = 0 → q.desc.dst = 0 →
    let d := q.desc
    let b := blockOfCell c
    let src := (s.rowSrc d q.row + q.col).toNat
    let dst := (s.rowDst d q.row + q.col).toNat
    let n := pieceLen d src dst q.col
    let bytes := if d.op = 1 then s.mems.sram.read src n else fillBytes d q.col n
    let bad := decide (d.op = 1) && s.mems.sramBad src n
    (d.op = 1 → s.answers 0 src = true ∧ byRing b 0 src = false) → s.answers 0 dst = true →
    (byRing b 0 dst = false → (isBlockStore dst = true ∨ s.heldByReplay (cellOfSram dst) (dst % 1048576) n = false) →
      (s.issuePiece c q i).mems = s.mems.writeSram dst bytes bad) ∧
    (byRing b 0 dst = true → (s.issuePiece c q i).mems = s.mems)) ∧
  (∀ (d : Desc) (src dst col : Nat), d.src = 0 → d.dst = 0 → d.reads = true → col < d.rowBytes →
    1 ≤ pieceLen d src dst col ∧ pieceLen d src dst col ≤ d.rowBytes - col ∧ src % 1024 + pieceLen d src dst col ≤ 1024 ∧ dst % 1024 + pieceLen d src dst col ≤ 1024) ∧
  (∀ (s : State) (c : Cell) (n : Nat) (q : DescSt), (s.cel c).queue[n]? = some q →
    let ended := (s.completionEffects c q).endDesc c q.no .ok
    (s.descDone c q = false → exec (.descriptorComplete c n) s = .next s) ∧
    (s.descDone c q = true → q.desc.signalToken = 0 → exec (.descriptorComplete c n) s = .next ended) ∧
    (s.descDone c q = true → q.desc.signalToken ≠ 0 → exec (.descriptorComplete c n) s =
      .next ((ended.signal (regionOfCell c) q.desc.signalToken 1 c).tellSignal (blockOfCell c) q.desc.signalToken 1)) ∧
    (∀ how, Tab.wf s.cell {} = true → ∀ y ∈ ((s.endDesc c q.no how).cel c).queue, y.no ≠ q.no ∧ y ∈ (s.cel c).queue)) ∧
  (∀ (s : State) (c : Cell) (n : Nat), (s.cel c).queue.length ≤ n → exec (.descriptorComplete c n) s = .next s) ∧
  (∀ (s : State) (c : Nat) (q : DescSt) (o r : Nat), Tab.wf s.cell {} = true → Tab.wf s.region {} = true → Tab.wf (s.reg (regionOfCell c)).tokens 0 = true →
    let t := s.markStarted c q o r
    t.mems = s.mems ∧ t.block = s.block ∧ (∀ k, k ≠ c → t.cel k = s.cel k) ∧ (t.cel c).queue.length = (s.cel c).queue.length ∧
    (q.desc.waitToken = 0 → t.region = s.region) ∧
    (q.desc.waitToken ≠ 0 → (t.reg (regionOfCell c)).tokens.get 0 q.desc.waitToken = (s.reg (regionOfCell c)).tokens.get 0 q.desc.waitToken - 1))

/-- Slots and replies (R75, R81, R87, R88, R93): a free slot goes to the oldest waiting thread request while fewer than 128 are
with threads, and otherwise to the next cell's descriptor; a reply whose slot is free or of another generation is counted stale
and changes nothing else; one for a request that is still held, on a ring or on the Skein is no answer to it; one that fits ends
its slot, with NOT_PRESENT for a place that is parked, and a load's data, read where the store holds them, reach its register
and its thread is READY; a request unanswered for 100 µs stamps SE_TIMEOUT and gives its slot up; a parity error freezes the
engine of a block while a job is open, and otherwise is only counted. The stores (R94-R97): one wrong bit is corrected, counted
and due for its write-back; more poison the word, and its consumer stamps the cause; scrub does the same with no consumer; an
uncorrectable error of a register file marks the word, and its reader stamps the cause. -/
def Obligations.RepliesAndStoreErrorsAreHandled : Prop :=
  (∀ (s : State) (tag : BitVec 16) (gen : BitVec 10) (st : Nat) (p : Bool) (data : List Byte),
    let n := tag.toNat
    let r := s.slot n
    let fits := r.kind ≠ .free ∧ r.gen = gen ∧ r.reel = false ∧ r.stream = false ∧ r.onRing = false ∧ s.holds (.slot n) = false
    let answered := fits ∧ s.parkedPlace r = false ∧ r.refused = false
    ((r.kind = .free ∨ r.gen ≠ gen ∨ r.reel = true) → exec (.memoryReply tag gen st p data) s = .next (s.bump Ctr.seStaleReply (n / 256))) ∧
    (r.kind ≠ .free → r.gen = gen → r.reel = false → (r.stream = true ∨ r.onRing = true ∨ s.holds (.slot n) = true) →
      exec (.memoryReply tag gen st p data) s = .next s) ∧
    (fits → s.parkedPlace r = true → exec (.memoryReply tag gen st p data) s = .next ((s.slotCause n 0x0305).endSlot n)) ∧
    (fits → s.parkedPlace r = false → r.refused = true → exec (.memoryReply tag gen st p data) s = .next ((s.slotCause n 0x0503).endSlot n)) ∧
    (answered →
      (st = 1 → exec (.memoryReply tag gen st p data) s = .next ((s.slotCause n 0x0305).endSlot n)) ∧
      (st = 2 → exec (.memoryReply tag gen st p data) s = .next ((s.slotCause n 0x0503).endSlot n)) ∧
      (st = 0 → (r.kind = .load ∨ r.kind = .vload) → exec (.memoryReply tag gen st p data) s = .next ((
        if s.loadBad r = true then s.threadUe r.cell r.thread ((r.place.map (·.2)).getD 0)
        else if p then s.park r.cell r.thread .faulted else s.loadDone r (s.loadData r data)).endSlot n)) ∧
      (st = 0 → r.kind = .store → exec (.memoryReply tag gen st p data) s = .next ((s.modThr r.cell r.thread ThreadSt.acked).endSlot n)) ∧
      (st = 0 → p = false → r.kind = .atomic → r.bad = false → exec (.memoryReply tag gen st p data) s =
        .next ((s.atomicDone r (BitVec.ofNat 128 (leNat ((if r.atSram then r.data else data).take 16)))).endSlot n)) ∧
      (st = 0 → r.kind = .desc → exec (.memoryReply tag gen st p data) s = .next (s.endSlot n))) ∧
    (r.data = [] → s.loadData r data = match r.place with | some x => s.mems.readSpace x.1 x.2 r.bytes | none => data) ∧
    (r.kind ≠ .free → r.kind ≠ .reduce → r.reel = false → 100000 ≤ since r.sentAt s.time.lea → exec (.seTimeout tag) s =
      .next (((s.bump Ctr.seTimeout (n / 256)).slotCause n 0x0206).modBlk (n / 256) (·.release (n % 256)))) ∧
    ((r.kind = .free ∨ r.kind = .reduce ∨ r.reel = true ∨ since r.sentAt s.time.lea < 100000) → exec (.seTimeout tag) s = .next s)) ∧
  (∀ (s : State) (n : Nat), Tab.wf s.block {} = true → Tab.wf (s.blk (n / 256)).slots {} = true →
    (s.slot n).kind ≠ .free → ((s.endSlot n).slot n).kind = .free ∧ ((s.endSlot n).slot n).gen = (s.slot n).gen + 1 ∧ (s.endSlot n).mems = s.mems) ∧
  (∀ (s : State) (r : SlotSt) (data : List Byte), CellWf s r.cell r.thread →
    ((s.loadDone r data).thr r.cell r.thread).state = .ready ∧ ((s.loadDone r data).thr r.cell r.thread).ip = (s.thr r.cell r.thread).ip ∧
    (r.kind = .load → ((s.loadDone r data).thr r.cell r.thread).x.get 0 r.reg = extend r.bytes (leNat (data.take r.bytes)) (r.dst = 1) ∧ ((s.loadDone r data).thr r.cell r.thread).v = (s.thr r.cell r.thread).v) ∧
    (r.kind = .vload → ((s.loadDone r data).thr r.cell r.thread).v.get 0 r.reg = BitVec.ofNat 2048 (leNat (data.take r.bytes)) ∧ ((s.loadDone r data).thr r.cell r.thread).x = (s.thr r.cell r.thread).x)) ∧
  (∀ (s : State) (b : Block) (i : Nat), (s.blk b).freeSlot = some i → (s.blk b).frozen = false → (s.reg (regionOfBlock b)).state = .running →
    (∀ c t r, (s.blk b).threadSlots < 128 → s.oldestRequest b = some (c, t, r) → exec (.slotGrant b) s =
      .next (((s.leaveBuffer c t).sendThread c i r).wakeReel.notePeak (regionOfBlock b))) ∧
    (∀ c no, ((s.blk b).threadSlots ≥ 128 ∨ s.oldestRequest b = none) → s.nextGrant b = some (c, no) →
      exec (.slotGrant b) s = .next ((s.modBlk b fun x => { x with grantNext := (c + 1) % 16 }).issueOne c no i))) ∧
  (∀ (s : State) (b : Block), ((s.blk b).freeSlot = none ∨ (s.blk b).frozen = true ∨ (s.reg (regionOfBlock b)).state ≠ .running) → exec (.slotGrant b) s = .next s) ∧
  (∀ (s : State) (b : Block),
    (s.jobOpen = true → exec (.seParity b) s = .next (((s.bump Ctr.seParity b).modBlk b fun x => { x with frozen := true }).stamp 0x0204 b (regionOfBlock b))) ∧
    (s.jobOpen = false → exec (.seParity b) s = .next ((s.bump Ctr.seParity b).stamp 0x0204 b (regionOfBlock b)))) ∧
  (∀ (s : State) (w : Nat) (who : Consumer), (∀ c, who ≠ .regfile c) →
    (s.mems.sramPoison.get false w = true → ∀ bits, exec (.sramReadError w bits who) s = .next (s.consumedBy (8 * w) who)) ∧
    (s.mems.sramPoison.get false w = false → exec (.sramReadError w 0 who) s = .next s ∧ exec (.sramReadError w 1 who) s = .next (s.sramCe w) ∧
      ∀ bits, 2 ≤ bits → exec (.sramReadError w bits who) s = .next ((s.sramUe w).consumedBy (8 * w) who))) ∧
  (∀ (s : State) (c : Cell) (w : Nat),
    let reader := fun u : State => u.regUe c (w / 1056 % 8)
    ((s.cel c).regBad.get false w = true → ∀ bits, exec (.sramReadError w bits (.regfile c)) s = .next (reader s)) ∧
    ((s.cel c).regBad.get false w = false → exec (.sramReadError w 0 (.regfile c)) s = .next s ∧
      exec (.sramReadError w 1 (.regfile c)) s = .next ((s.bump Ctr.regfileCe c).modReg (regionOfCell c) fun x => { x with ceSeen := x.ceSeen ||| 2 ^ (blockOfCell c % 16) }) ∧
      (∀ bits, 2 ≤ bits → exec (.sramReadError w bits (.regfile c)) s = .next (reader (s.regfileUe c w))) ∧
      (Tab.wf s.cell {} = true → Tab.wf (s.cel c).regBad false = true → ((s.regfileUe c w).cel c).regBad.get false w = true ∧ (s.regfileUe c w).mems = s.mems))) ∧
  (∀ (s : State) (w : Nat), (s.mems.sramPoison.get false w = true → ∀ bits, exec (.sramScrub w bits) s = .next s) ∧
    (s.mems.sramPoison.get false w = false → exec (.sramScrub w 0) s = .next s ∧ exec (.sramScrub w 1) s = .next (s.sramCe w) ∧ ∀ bits, 2 ≤ bits → exec (.sramScrub w bits) s = .next (s.sramUe w))) ∧
  (∀ (s : State) (w : Nat), (s.sramCe w).mems = s.mems ∧ w ∈ (s.sramCe w).memory.sramWriteback ∧ (Tab.wf s.mems.sramPoison false = true → (s.sramUe w).mems.sramPoison.get false w = true ∧
    (∀ v, v ≠ w → (s.sramUe w).mems.sramPoison.get false v = s.mems.sramPoison.get false v)) ∧ (s.sramUe w).mems.sram = s.mems.sram) ∧
  (∀ (s : State) (w : Nat), exec (.sramCeWriteback w) s = .next { s with memory := { s.memory with sramWriteback := s.memory.sramWriteback.erase w } })

/-- Tiles (R49, R56-R62, R67, R76, R77, R96): a tile in execution, or its replay, is evaluated once its region runs, and its
outputs wait for their comparison; a poisoned operand or a dead entropy source ends the job and nothing is evaluated; a
comparison in which every Teasel check and twin holds releases the outputs. Of an error-free evaluation it holds; a MAC or 65th
column that is off, and a unit that is, makes it fail, and so does a twin except at a value the spec forces (R58). A mismatch
discards them and replays the tile once under REPLAY, or ends the job with TEASEL, and the eighth within 1 ms with TEASEL_STORM.
The first health failure of an entropy source takes the other, the second ends it (R49). -/
def Obligations.TilesAreComparedBeforeRelease : Prop :=
  (∀ (s : State) (c : Cell) (tile : Tile) (i : Instr), (s.cel c).exec = some tile → (s.reg (regionOfCell c)).state = .running → tile.out = none →
    (i = .tileIssue c ∧ tile.replay = false ∨ i = .replayIssue c ∧ tile.replay = true ∧ (s.cel c).replayPending = true) →
      (s.tilePoison c tile = true → exec i s = .next ((s.stamp 0x0201 c (regionOfCell c) fun x => { x with cell := c, tile := tile.seq.toNat }).haltTile c)) ∧
      (s.tilePoison c tile = false → tile.prog.control % 4 = 1 → (s.reg (regionOfCell c)).entropyDead = true →
        exec i s = .next ((s.stamp 0x0104 (regionOfCell c) (regionOfCell c) fun x => { x with cell := c, tile := tile.seq.toNat }).haltTile c)) ∧
      (s.tilePoison c tile = false → (tile.prog.control % 4 ≠ 1 ∨ (s.reg (regionOfCell c)).entropyDead = false) → Tab.wf s.cell {} = true →
        ∃ u, exec i s = .next u ∧ u = { s with cell := u.cell, free := s.free + 1 } ∧ (u.cel c).exec = some { tile with out := some (s.evalTile c tile) } ∧
          (u.cel c).queued = (s.cel c).queued ∧ (∀ k, k ≠ c.val → u.cel k = s.cel k))) ∧
  (∀ (s : State) (c : Cell), ((s.cel c).exec = none ∨ (∃ tile, (s.cel c).exec = some tile ∧ (tile.out ≠ none ∨ tile.replay = true)) ∨
    (s.reg (regionOfCell c)).state ≠ .running) → exec (.tileIssue c) s = .next s) ∧
  (∀ (s : State) (c : Cell) (tile : Tile), (s.cel c).exec = some tile →
    (tile.replay = false ∨ tile.out ≠ none ∨ (s.reg (regionOfCell c)).state ≠ .running) → exec (.replayIssue c) s = .next s) ∧
  (∀ (s : State) (c : Cell) (tile : Tile) (out : TileOut) (x : TileUpset), (s.cel c).exec = some tile → tile.out = some out →
    let recent := s.recentMismatches c
    let s1 := ((s.bump Ctr.teaselMismatch c).fire (16 * regionOfCell c + 1) 0x0101 c tile.seq.toNat).modCel c fun x => { x with mismatches := recent ++ [s.time.lea] }
    let replays := match s.launchOf (regionOfCell c) with | some l => l.replay | none => false
    (out.holds x = true → tile.replay = false → exec (.teaselCompare c x) s = .next (s.releaseTile c tile out)) ∧
    (out.holds x = true → tile.replay = true → exec (.teaselCompare c x) s =
      .next (((s.bump Ctr.teaselReplay c).fire (16 * regionOfCell c + 1) 0 c tile.seq.toNat).releaseTile c tile out)) ∧
    (out.holds x = false → 7 ≤ recent.length → exec (.teaselCompare c x) s = .next (s1.teaselFault c 0x0102 tile)) ∧
    (out.holds x = false → recent.length < 7 → replays = true → tile.replay = false → exec (.teaselCompare c x) s =
      .next (s1.modCel c fun x => { x with exec := some { tile with replay := true, out := none }, replayPending := true })) ∧
    (out.holds x = false → recent.length < 7 → (replays = false ∨ tile.replay = true) → exec (.teaselCompare c x) s = .next (s1.teaselFault c 0x0101 tile)) ∧
    s1.mems = s.mems ∧ (s1.teaselFault c 0x0101 tile).mems = s.mems) ∧
  (∀ (s : State) (c : Cell), ((s.cel c).exec = none ∨ ∃ tile, (s.cel c).exec = some tile ∧ tile.out = none) → ∀ x, exec (.teaselCompare c x) s = .next s) ∧
  (∀ (p : ArrayProg) (rd : Nat → Nat → List Byte) (md : Draw) (dl : Option Int),
    let out := tileEval p rd md dl
    out.holds .none = true ∧ (∀ i d, i < out.checks.length → d ≠ 0 → out.holds (.mac i d) = false ∧ out.holds (.column65 i d) = false) ∧
      (∀ n, out.holds (.twin n) = true → n ∈ out.forced) ∧ out.holds .unit_ = false) ∧
  (∀ (s : State) (r : Region), let switched := (s.bump Ctr.entropySwitch r).fire (16 * r.val + 2) 0 r
    ((s.reg r).entropyDead = true → exec (.entropyHealthFail r) s = .next s) ∧
    ((s.reg r).entropyDead = false → (s.reg r).entropyAlt = false → exec (.entropyHealthFail r) s = .next (switched.modReg r fun x => { x with entropyAlt := true })) ∧
    ((s.reg r).entropyDead = false → (s.reg r).entropyAlt = true →
      exec (.entropyHealthFail r) s = .next ((switched.modReg r fun x => { x with entropyDead := true }).stamp 0x0104 r r)))

/-- Schedules (R120-R123): the current entry of a running schedule issues on the first beat at which it is due and its target
can accept it, and no earlier; END stops the schedule, ISSUE_TILE queues its tile where a place is free, POST_DESC posts its
descriptor where the queue has room, SIGNAL signals where the VC0 queue has room, ARRIVE arrives, START_THREAD makes its free
thread READY at its entry's address, PHASE_READY tells the Creel; an entry whose tile or descriptor is poisoned or not valid
stamps its cause; then the next entry is current, its predecessor's beat kept, and the slip is the beats it came late. The beats
are those since the region's reset and do not wrap. -/
def Obligations.ScheduleEntriesIssueWhenDue : Prop :=
  ∀ (s : State) (b : Block) (e : SchedEntry), (s.blk b).sched[(s.blk b).schedPos]? = some e →
    let c := schedCell b e
    let waits := s.due b e = none ∨ (s.blk b).schedRunning = false ∨ (s.reg (b / 16)).state ≠ .running
    (waits → exec (.schedEnd b) s = .next s ∧ exec (.schedIssueTile b) s = .next s ∧ exec (.schedPostDesc b) s = .next s ∧ exec (.schedSignal b) s = .next s ∧
      exec (.schedArrive b) s = .next s ∧ exec (.schedStartThread b) s = .next s ∧ exec (.phaseReady b) s = .next s) ∧
    (e.action ≠ 0 → exec (.schedEnd b) s = .next s) ∧
    (∀ slip, s.due b e = some slip → (s.blk b).schedRunning = true → (s.reg (b / 16)).state = .running →
      (e.action = 0 → exec (.schedEnd b) s = .next ((s.modBlk b fun x => { x with schedRunning := false }).schedAdvance b slip)) ∧
      (e.action = 1 → (s.cel c).placeFree = true → ownStore e.operand 40 = true → s.mems.sramBad (cellSram c e.operand) 40 = false →
        (s.arrayProg c e.operand).valid = true → exec (.schedIssueTile b) s = .next ((s.queueTile c e.operand).schedAdvance b slip)) ∧
      (e.action = 1 → (s.cel c).placeFree = true →
        (ownStore e.operand 40 = false ∨ s.mems.sramBad (cellSram c e.operand) 40 = false ∧ (s.arrayProg c e.operand).valid = false) →
        exec (.schedIssueTile b) s = .next ((s.stamp 0x0105 c (regionOfCell c) fun x => { x with cell := c }).schedAdvance b slip)) ∧
      (e.action = 1 → (s.cel c).placeFree = true → ownStore e.operand 40 = true → s.mems.sramBad (cellSram c e.operand) 40 = true →
        exec (.schedIssueTile b) s = .next ((s.sramCause (cellSram c e.operand)).schedAdvance b slip)) ∧
      (e.action = 1 → (s.cel c).placeFree = false → exec (.schedIssueTile b) s = .next s) ∧
      ((s.cel c).placeFree = true ↔ (s.cel c).exec = none ∨ (s.cel c).queued = none) ∧
      (∀ a, e.action = 2 → (s.cel c).queue.length < 16 → s.descAddr b e.operand = some a → s.mems.sramBad a 64 = false →
        exec (.schedPostDesc b) s = .next ((s.postDesc c (Desc.read (s.mems.sram.read a 64))).schedAdvance b slip)) ∧
      (∀ a, e.action = 2 → (s.cel c).queue.length < 16 → s.descAddr b e.operand = some a → s.mems.sramBad a 64 = true →
        exec (.schedPostDesc b) s = .next ((s.sramCause a).schedAdvance b slip)) ∧
      (e.action = 2 → (s.cel c).queue.length < 16 → s.descAddr b e.operand = none →
        exec (.schedPostDesc b) s = .next ((s.badDesc c (Desc.read [])).schedAdvance b slip)) ∧
      (e.action = 2 → 16 ≤ (s.cel c).queue.length → exec (.schedPostDesc b) s = .next s) ∧
      (e.action = 3 → s.vc0Full b = false →
        exec (.schedSignal b) s = .next (((s.signal (regionOfBlock b) e.operand 1 b).tellSignal b e.operand 1).schedAdvance b slip)) ∧
      (e.action = 3 → s.vc0Full b = true → exec (.schedSignal b) s = .next s) ∧
      (s.vc0Full b = true ↔ 32 ≤ (s.reg (b / 16)).vc0Depth (b % 16)) ∧
      (e.action = 4 → exec (.schedArrive b) s = .next (((s.tellArrive b e.operand).arrive (regionOfBlock b) e.operand none).schedAdvance b slip)) ∧
      (∀ im p, e.action = 5 → (s.thr c (schedThread e)).state = .free → ((s.launchOf (regionOfBlock b)).bind fun l => s.image l.image) = some im → im.entries[e.operand]? = some p →
        exec (.schedStartThread b) s = .next ((s.modThr c (schedThread e) fun x => { x with state := .ready, ip := p.addr, waiting := .none, issued := 0 }).schedAdvance b slip)) ∧
      (e.action = 5 → (s.thr c (schedThread e)).state ≠ .free → exec (.schedStartThread b) s = .next s) ∧
      (e.action = 6 → (s.blk b).phases.contains e.operand = false →
        exec (.phaseReady b) s = .next ((s.modBlk b fun x => { x with phases := x.phases ++ [e.operand] }).schedAdvance b slip))) ∧
    (∀ slip, s.due b e = some slip ↔ ∃ a, s.anchorBeat b e = some a ∧ (s.reg (b / 16)).beats = a + e.offset + slip) ∧
    (∀ slip, Tab.wf s.block {} = true → let t := s.schedAdvance b slip
      (t.blk b).schedPos = (s.blk b).schedPos + 1 ∧ (t.blk b).schedPrev = (s.reg (b / 16)).beats ∧ t.region = s.region ∧ t.cell = s.cell ∧ t.mems = s.mems ∧
        ∀ k, k ≠ b.val → t.blk k = s.blk k)

/-- Rings (R126-R133, R141, R142): every route is the shorter way, clockwise at eight hops, to the nearer of a gateway's two
taps; a slot's contents move one station a beat; the queues of a station are served in the order of their channels, one passed
over four times first, and a flit without credit stays; parity and check bits are over the fields. A flit that arrives in its
slot at its block leaves it: a READ is answered, a WRITE writes its bytes, poisoned when the flit is, and its last acknowledges;
a header error removes the flit and ends the job. A credit comes back in a slot; a head flit that has waited 16 beats reserves
the next slot once; a VC0 message signals, arrives or releases the generation it names, and one with a parity error is removed.
Reductions in the rings (R136-R141): a contributor adds its own elements on the right and passes the sum on to the next member
of its chain, or captures the flit before its own descriptor has started or without credit; a flit index beyond the member's
length stamps RED_MISMATCH; the destination keeps one chain's result until the other's is there, adds its own last, and keeps
poison and clamp counts of both; a group not complete in 100 µs stamps RED_TIMEOUT. An INT32 sum clamps and counts, a maximum
and a minimum choose, and a NaN operand gives the one NaN. -/
def Obligations.RingFlitsAndReductionsArrive : Prop :=
  ((∀ (s : State) (r : Region) (f : Flit) (err : RingErr),
    let s1 := (s.modRingSlot r (flitLane f) f.dst fun x => { x with flit := none }).ringError r f.dst f.ring f.cw err
    let s2 := s1.giveBack r f.dst f
    let bad := f.poison || decide (err = .ue)
    let a := r.val * 268435456 + f.addr.toNat % 268435456 + (f.addr.toNat / 4294967296 % 2) * 4294967296
    (((s.reg r).slotAt (flitLane f) f.dst).flit ≠ some f → exec (.ringFlitArrival r f err) s = .next s) ∧
    (((s.reg r).slotAt (flitLane f) f.dst).flit = some f → f.type_ ≠ 6 →
      (err = .hdr → exec (.ringFlitArrival r f err) s = .next s1) ∧
      (err ≠ .hdr → (f.dstPort = 1 ∨ f.dstPort = 2) → exec (.ringFlitArrival r f err) s = .next (s1.gateTakes r f.dst f)) ∧
      (err ≠ .hdr → f.dstPort = 0 → (f.srcPort ≠ 0 ∨ s1.answers 0 (r.val * 268435456) = false) → exec (.ringFlitArrival r f err) s = .next s2) ∧
      (err ≠ .hdr → f.dstPort = 0 → f.srcPort = 0 → s1.answers 0 (r.val * 268435456) = true →
        (f.type_ = 0 → s2.mems.sramBad a f.bytes = false → exec (.ringFlitArrival r f err) s = .next (s2.queueFlit r 1
          { flitOf f.dst.val f.src.val 0 0 f.vc.val 1 f.tag.toNat with last := f.last, gen := f.gen, addr := f.addr, bytes := f.bytes, data := s2.mems.sram.read a f.bytes })) ∧
        (f.type_ = 2 → f.last = false → exec (.ringFlitArrival r f err) s = .next (s2.putSram a f.data bad (.slot f.tag.toNat))) ∧
        (f.type_ = 2 → f.last = true → exec (.ringFlitArrival r f err) s =
          .next (((s2.putSram a f.data bad (.slot f.tag.toNat)).modSlot f.tag.toNat fun x => { x with landed := true }).ringAck f.tag.toNat (16 * r.val + f.dst.val)))))) ∧
  (∀ a b : Nat, a < 16 → b < 16 → ringHops a b ≤ 8 ∧ (goesCw a b = true → (a + ringHops a b) % 16 = b) ∧
    (goesCw a b = false → (b + ringHops a b) % 16 = a ∧ ringHops a b < 8) ∧
    ringHops a (outTap 1 a) = min (ringHops a 0) (ringHops a 8) ∧ ringHops a (outTap 2 a) = min (ringHops a 4) (ringHops a 12) ∧
    ringHops (inTap 1 a) a = min (ringHops 0 a) (ringHops 8 a) ∧ ringHops (inTap 2 a) a = min (ringHops 4 a) (ringHops 12 a)) ∧
  (∀ (x : RegionSt) (lane st : Nat), Tab.wf x.slots {} = true → lane < 8 → st < 16 → x.advance.slotAt lane (nextStation lane st) = x.slotAt lane st) ∧
  (∀ (x : RegionSt) (st lane : Nat) (hs : List Head) (h : Head), x.choose st lane hs = some h → h ∈ hs ∧
    (4 ≤ x.passed.get 0 (queueNo st lane h.vc) ∨ (hs.head? = some h ∧ ∀ o ∈ hs, x.passed.get 0 (queueNo st lane o.vc) < 4))) ∧
  (∀ (s : State) (r st lane : Nat), Tab.wf s.region {} = true → (∀ h ∈ s.heads r st lane, (s.reg r).holdsCredit h.flit = false) → ((s.fillLane r st lane).reg r).slots = (s.reg r).slots ∧
    ((s.fillLane r st lane).reg r).credits = (s.reg r).credits) ∧
  (∀ x : RingSlot, onesIn (x.header % 2 ^ 32) % 2 = onesIn (x.header / 2 ^ 124 % 2) % 2) ∧
  (∀ (s : State) (r st ring : Nat) (cw : Bool), s.ringError r st ring cw .none = s ∧ ∀ e, (s.ringError r st ring cw e).mems = s.mems) ∧
  (∀ (s : State) (r st ring : Nat) (cw : Bool), s.jobOpen = true → s.job.fault ≠ .done →
    ∃ c ∈ (s.ringError r st ring cw .hdr).job.causes, c.code = 0x0302 ∧ c.index = 16 * r + st ∧ c.stamp = s.time.lea) ∧
  (∀ (s : State) (r : Region) (k : CreditKey), Tab.wf s.region {} = true → Tab.wf (s.reg r).credits 0 = true → Tab.wf (s.reg r).slots {} = true →
    let lane := backLane (2 * k.ring.val + if k.cw then 0 else 1)
    (((s.reg r).slotAt lane k.sender).credit = some (k.sender.val, k.vc.val, k.receiver.val) →
      ∃ t, exec (.ringCreditReturn r k) s = .next t ∧ t = { s with region := t.region } ∧ ((t.reg r).slotAt lane k.sender).credit = none ∧
        (t.reg r).credits.get 0 (creditIx k) = (s.reg r).credits.get 0 (creditIx k) - 1 ∧ ∀ q, q ≠ r.val → t.reg q = s.reg q) ∧
    (((s.reg r).slotAt lane k.sender).credit ≠ some (k.sender.val, k.vc.val, k.receiver.val) → exec (.ringCreditReturn r k) s = .next s)) ∧
  (∀ (s : State) (r : Region) (st : Fin 16) (ring : Fin 4) (cw : Bool), let lane := laneNo ring cw
    let b := 8 * st.val + lane
    ((s.reg r).waits.get 0 b < 16 → exec (.ringRsv r st ring cw) s = .next s) ∧ (((s.reg r).slotAt lane st).rsv ≠ none → exec (.ringRsv r st ring cw) s = .next s) ∧
    (bit (s.reg r).rsv b = true → exec (.ringRsv r st ring cw) s = .next s) ∧
    (16 ≤ (s.reg r).waits.get 0 b → ((s.reg r).slotAt lane st).rsv = none → bit (s.reg r).rsv b = false → Tab.wf s.region {} = true → Tab.wf (s.reg r).slots {} = true →
      ∃ t, exec (.ringRsv r st ring cw) s = .next t ∧ bit (t.reg r).rsv b = true ∧ ((t.reg r).slotAt lane st).rsv = some st.val ∧
      (∀ j, j ≠ b → bit (t.reg r).rsv j = bit (s.reg r).rsv j) ∧ t.mems = s.mems ∧ ∀ q, q ≠ r.val → t.reg q = s.reg q)) ∧
  (∀ (s : State) (r : Region) (m : CtrlMsg),
    (∀ lane st, (s.reg r).ctrlLane m = some (lane, st) → let s0 := s.modRingSlot r lane st fun x => { x with ctrl := none }
      exec (.controlMessage r m true) s = .next s0 ∧ exec (.controlMessage r m false) s = .next (s0.ringError r st (lane / 2) (decide (lane % 2 = 0)) .hdr)) ∧
    ((s.reg r).ctrlLane m = none →
      exec (.controlMessage r m false) s = .next (s.ringError r m.dst 0 true .hdr) ∧
      (m.kind = 0 → exec (.controlMessage r m true) s = .next (s.signal r m.number m.count (16 * r.val + m.src.val))) ∧
      (m.kind = 1 → exec (.controlMessage r m true) s = .next (s.arrive r m.number none)) ∧
      (m.kind = 2 → m.gen.toNat = (s.bar r m.number).gen % 256 → exec (.controlMessage r m true) s = .next (s.releaseBar r m.number)) ∧
      (m.kind = 2 → m.gen.toNat ≠ (s.bar r m.number).gen % 256 → exec (.controlMessage r m true) s = .next s) ∧
      (m.kind = 3 → exec (.controlMessage r m true) s = .next s)))) ∧
  ((∀ (s : State) (r : Region) (st : Fin 16) (f : Flit) (err : RingErr), ((s.reg r).slotAt (flitLane f) st).flit = some f → f.dst = st → f.type_ = 6 →
    let b := 16 * r.val + st.val
    let s1 := (s.modRingSlot r (flitLane f) st fun x => { x with flit := none }).ringError r st f.ring f.cw err
    let f1 := { f with poison := f.poison || decide (err = .ue) }
    let capture := fun (u : State) => (u.bump Ctr.redCapture r).modReg r fun x => { x with captured := x.captured.mod [] st (· ++ [f1]) }
    (err = .hdr → exec (.redFlitAdd r st f err) s = .next s1) ∧
    (err ≠ .hdr → s1.redAt b f1 = none → exec (.redFlitAdd r st f err) s = .next (capture s1)) ∧
    (∀ g d, err ≠ .hdr → s1.redAt b f1 = some (g, d) →
      (g.flits ≤ f.tag.toNat → exec (.redFlitAdd r st f err) s = .next ((s1.giveBack r st f1).stamp 0x0303 b r)) ∧
      (f.tag.toNat < g.flits → redDest g.ext ≠ st.val → let f2 := s1.redSum b g d f1
        ((s1.reg r).holdsCredit f2 = true → exec (.redFlitAdd r st f err) s = .next ((((s1.giveBack r st f1).redAdded b g d f1).takeCredit r f2).ride r st f2)) ∧
        ((s1.reg r).holdsCredit f2 = false → exec (.redFlitAdd r st f err) s = .next (capture s1))) ∧
      (f.tag.toNat < g.flits → redDest g.ext = st.val → exec (.redFlitAdd r st f err) s = .next ((s1.giveBack r st f1).redTake b g d f1)))) ∧
  (∀ (s : State) (r : Region) (st : Fin 16) (f : Flit) (err : RingErr), ((s.reg r).slotAt (flitLane f) st).flit ≠ some f → exec (.redFlitAdd r st f err) s = .next s) ∧
  (∀ (s : State) (b : Nat) (g : RedGroup) (d : Desc) (f : Flit), let own := s.redOwn g d f.tag.toNat
    let t := redCombine g.ext f.data own.1
    let f2 := s.redSum b g d f
    f2.data = t.1 ∧ f2.poison = (f.poison || own.2) ∧ f2.rangeCount = min 255 (f.rangeCount + t.2) ∧ f2.type_ = 6 ∧ f2.vc = 1 ∧
      f2.ring.val = (f.tag.toNat + redGroup g.ext) % 4 ∧ f2.tag = f.tag ∧ (redNext g.ext (b % 16) < 16 → f2.dst.val = redNext g.ext (b % 16))) ∧
  (∀ ext here : Nat, here < 16 → here ≠ redDest ext → let n := redNext ext here
    (n = redDest ext ∨ bit (redContrib ext) n = true) ∧ 1 ≤ ringHops here n ∧ ringHops here n ≤ ringHops here (redDest ext)) ∧
  (∀ (s : State) (b : Nat) (g : RedGroup) (d : Desc) (f : Flit), let i := f.tag.toNat
    let own := s.redOwn g d i
    let chains := g.chains.set none (2 * i + if f.cw then 0 else 1) (some (f.data, f.poison, f.rangeCount))
    let put := fun (ch : Tab (Option (List Byte × Bool × Nat))) (u : State) => u.modBlk b fun x =>
      { x with groups := x.groups.set none f.group.toNat (some { g with chains := ch }) }
    ((((redChains g.ext).map fun k => chains.get none (2 * i + k)).any (·.isNone)) = true →
      s.redTake b g d f = put chains (s.redSeen (b / 16) f.poison f.rangeCount)) ∧
    (∀ A B, redChains g.ext = [0, 1] → chains.get none (2 * i) = some A → chains.get none (2 * i + 1) = some B → bit (redContrib g.ext) (b % 16) = true → own.2 = false →
      let x := redCombine g.ext A.1 B.1
      let y := redCombine g.ext x.1 own.1
      s.redTake b g d f = ((put ((chains.set none (2 * i) none).set none (2 * i + 1) none) (s.redSeen (b / 16) (A.2.1 || B.2.1) (A.2.2 + B.2.2 + (x.2 + y.2)))).redWrite g d i y.1
        (A.2.1 || B.2.1) (A.2.2 + B.2.2 + (x.2 + y.2)) (b / 16)).redDone b f.group.toNat)) ∧
  (∀ (s : State) (b : Block) (n : Nat) (g : RedGroup), (s.blk b).groups.get none n = some g →
    (100000 ≤ since g.startAt s.time.lea → g.done < g.flits → exec (.redTimeout b n) s = .next (s.stamp 0x0304 b (regionOfBlock b))) ∧
    ((since g.startAt s.time.lea < 100000 ∨ g.flits ≤ g.done) → exec (.redTimeout b n) s = .next s)) ∧
  (∀ a b : Nat, a < 2 ^ 32 → b < 2 ^ 32 →
    let v := signed 32 a + signed 32 b
    (v > 2 ^ 31 - 1 → redInt 0 a b = (0x7FFFFFFF, 1)) ∧ (v < -(2 ^ 31) → redInt 0 a b = (0x80000000, 1)) ∧
    (-(2 ^ 31) ≤ v → v ≤ 2 ^ 31 - 1 → signed 32 (redInt 0 a b).1 = v ∧ (redInt 0 a b).2 = 0) ∧
    signed 32 (redInt 1 a b).1 = max (signed 32 a) (signed 32 b) ∧ signed 32 (redInt 2 a b).1 = min (signed 32 a) (signed 32 b) ∧ (redInt 1 a b).2 = 0) ∧
  (∀ op a b : Nat, op ≤ 2 → a < 2 ^ 32 → b < 2 ^ 32 → 0x7F800000 < a % 2 ^ 31 → (redFp32 op a b).1 = fp32Nan ∧ (redFp32 op b a).1 = fp32Nan) ∧
  (∀ (ext : Nat) (a b : List Byte), a.length = b.length → a.length % 4 = 0 → (redCombine ext a b).1.length = a.length))

/-! ### The Skein and ply summation -/

/-- Frames and packets (R169-R179, R186, R196): HUNT, PRESYNC and SYNC as R171 has them, at the drops of a bobbin that are
neither fenced nor pruned, and never on a ply bobbin; a receiver in SYNC corrects up to two bits and counts them; a frame it
loses is named in its NAK; 64 frames in HUNT send a DARK notice. A frame formed at the source is read back, and so is a packet
from the frames it is cut into. A whole packet of the bobbin's source is written, answered or taken by its slot, a station in
RESET answers requests NOT_PRESENT and discards replies, and a packet that came broken changes nothing; a dark bobbin's packets
wait; NAK and DARK reissue the packets they name, the fourth failed send stamping SKEIN_RETRY; SYNC ends the dark, 2 ms of it
withdraw the bobbin; a raw stream's final check is acknowledged drop by drop, by one that has passed it; up to 64 of its frames
wait for a frozen engine. -/
def Obligations.FramesAndPacketsAreReceived : Prop :=
  (∀ (s : State) (id : BitVec 32) (stn : Stn) (f : BitVec 544) (b : Bob) (k : Nat), s.dropOf id stn = some (b, k) →
    let x := s.rcv id stn
    let seen := fun (n ue : Nat) =>
      ((s.modLoop b.loop fun y => y.count (8 * stn.val + k) n 544 ue).bump Ctr.skeinCeBits b.loop n).bump Ctr.skeinUeFrame b.loop ue
    let e := x.expect.getD (x.last + 1)
    (x.align = .hunt → syndrome f = 0 → exec (.frameReceive id stn f) s = .next ((seen 0 0).modRcv id stn fun x => { x with align := .presync, run := 0 })) ∧
    (x.align = .hunt → syndrome f ≠ 0 → exec (.frameReceive id stn f) s = .next ((seen 0 0).modRcv id stn fun x => { x with run := x.run + 1 })) ∧
    (x.align = .presync → decodeFrame f = none → exec (.frameReceive id stn f) s = .next ((seen 0 1).modRcv id stn fun x => { x with align := .hunt, run := 0 })) ∧
    (∀ d n, x.align = .presync → decodeFrame f = some (d, n) → 5 ≤ x.run → exec (.frameReceive id stn f) s =
      .next ((seen n 0).modRcv id stn fun x => { x with align := .sync, run := 0, dark := false, expect := none, packet := none })) ∧
    (∀ d n, x.align = .presync → decodeFrame f = some (d, n) → x.run < 5 → exec (.frameReceive id stn f) s =
      .next ((seen n 0).modRcv id stn fun x => { x with run := x.run + 1 })) ∧
    (∀ d n, x.align = .sync → decodeFrame f = some (d, n) → exec (.frameReceive id stn f) s = .next ((seen n 0).syncFrame id stn d)) ∧
    (x.align = .sync → decodeFrame f = none → x.run < 6 → exec (.frameReceive id stn f) s =
      .next (((seen 0 1).framesLost id stn e e).modRcv id stn fun x => { x with run := x.run + 1, expect := none })) ∧
    (x.align = .sync → decodeFrame f = none → 6 ≤ x.run → exec (.frameReceive id stn f) s =
      .next ((((seen 0 1).framesLost id stn e e).modRcv id stn fun x => { x with align := .hunt, expect := none }).darkNotice id stn))) ∧
  (∀ (s : State) (id : BitVec 32) (stn : Stn), (s.dropOf id stn = none → ∀ f, exec (.frameReceive id stn f) s = .next s) ∧
    (s.bobById id = none → s.dropOf id stn = none) ∧ (s.isFenced stn = true → s.dropOf id stn = none) ∧
    ∀ b, s.bobById id = some b → (b.kind = 3 → s.dropOf id stn = none) ∧ ((∀ d ∈ b.drops, d.1 ≠ stn.val) → s.dropOf id stn = none) ∧
      (b.kind ≠ 3 → s.isFenced stn = false → bit s.creel.pruned stn = false → (∃ d ∈ b.drops, d.1 = stn.val) → ∃ k, s.dropOf id stn = some (b, k))) ∧
  (∀ (s : State) (id : BitVec 32) (stn d : Nat) (e : BitVec 5), Tab.wf s.skein.rcv {} = true → (s.rcv id stn).expect = some e → e ≠ frameSeq d →
    s.rawRx id stn = none → frameKind d = 0 → ((s.syncFrame id stn d).rcv id stn).nak = some (e, frameSeq d - 1) ∧ ((s.syncFrame id stn d).rcv id stn).packet = none) ∧
  (∀ (s : State) (id : BitVec 32) (stn : Stn), ((s.rcv id stn).align = .hunt → 64 ≤ (s.rcv id stn).run → exec (.huntTimeout id stn) s = .next (s.darkNotice id stn)) ∧
    ((s.rcv id stn).align ≠ .hunt → exec (.huntTimeout id stn) s = .next s) ∧ ((s.rcv id stn).run < 64 → exec (.huntTimeout id stn) s = .next s)) ∧
  (∀ f : BitVec 544, syndrome f = 0 → decodeFrame f = some (codeword f / 2 ^ 24 % 2 ^ 520 ^^^ scramble, 0)) ∧
  (∀ d : Nat, d < 2 ^ 520 → decodeFrame (encodeFrame d) = some (d, 0)) ∧
  (∀ p : SPkt, p.dst < 64 → p.src < 64 → p.type_ < 16 → p.status < 8 → p.space < 8 → p.length < 2048 → p.data.length ≤ 1024 →
    (p.type_ = 0 → p.data = []) → (p.type_ ≠ 0 → p.length = p.data.length) → pktRead (pktPayloads p) = some p) ∧
  (∀ (s : State) (id : BitVec 32) (stn : Stn) (p : SPkt), (exec (.packetReceive id stn p false) s = .next s) ∧ (p.dst ≠ stn.val → exec (.packetReceive id stn p true) s = .next s) ∧
    (∀ b, s.bobById id = some b → b.src = p.src → p.dst = stn.val → (∃ d ∈ b.drops, d.1 = stn.val) →
      let a := p.addr.toNat
      let s1 := s.retried id p.tag.toNat
      let s2 := s1.gateIn stn p
      (16 ≤ stn.val → exec (.packetReceive id stn p true) s = .next s1) ∧
      (stn.val < 16 → (s.reg stn).state = .reset →
        ((p.type_ = 1 ∨ p.type_ = 3 ∨ p.type_ = 5) → exec (.packetReceive id stn p true) s = .next s1) ∧
        ((p.type_ ≠ 1 ∧ p.type_ ≠ 3 ∧ p.type_ ≠ 5) → exec (.packetReceive id stn p true) s = .next (s1.answerPkt stn p 1))) ∧
      (stn.val < 16 → (s.reg stn).state ≠ .reset → (s1.reg stn).state ≠ .reset →
        ((p.type_ = 1 ∨ p.type_ = 3 ∨ p.type_ = 5) → p.tag.toNat / 4096 = stn.val → exec (.packetReceive id stn p true) s = .next (s2.reply p.tag p.gen p.status p.poison p.data)) ∧
        (p.type_ = 0 → p.space = 0 → sramValid a p.length = true → regionOfSram a = stn.val → s2.mems.sramBad a p.length = false →
          exec (.packetReceive id stn p true) s = .next (s2.answerPkt stn p 0 false (s2.mems.sram.read a p.length))) ∧
        (p.type_ = 2 → p.space = 0 → sramValid a p.data.length = true → regionOfSram a = stn.val → s2.unanswered p = false →
          exec (.packetReceive id stn p true) s = .next ((s2.storeSram a p.data p.poison).answerPkt stn p 0)) ∧
        ((p.type_ = 0 ∨ p.type_ = 2) → (p.space ≠ 0 ∨ regionOfSram a ≠ stn.val) → exec (.packetReceive id stn p true) s = .next (s2.answerPkt stn p 2))))) ∧
  (∀ (s : State) (id : BitVec 32) (p : SPkt), Tab.wf s.skein.snd {} = true → s.idles id = true → ((s.sendOn id p).snd id).log = (s.snd id).log ∧
    ((s.sendOn id p).snd id).queue = (s.snd id).queue ++ [p]) ∧
  (∀ (s : State) (id : BitVec 32) (lo hi : BitVec 5), exec (.nak id lo hi) s = .next (s.reissueAll id fun q => decide ((q - lo).toNat ≤ (hi - lo).toNat))) ∧
  (∀ (s : State) (id : BitVec 32) (p : BitVec 5 → Bool), s.reissueAll id p =
    s.forEach ((s.snd id).sent.filter fun k => (s.snd id).log.any fun e => decide (e.2 = k.tag.toNat) && p (frameSeq e.1)) fun k (u : State) => u.reissue id (s.loopOfBob id) k) ∧
  (∀ (s : State) (id : BitVec 32) (loop : Nat) (p : SPkt), let tag := p.tag.toNat
    let n := (s.snd id).fails.get 0 tag
    let forgot := s.modSnd id fun y =>
      { y with fails := y.fails.set 0 tag 0, log := y.log.filter fun e => decide (e.2 ≠ tag), sent := y.sent.filter fun q => decide (q.tag ≠ p.tag) }
    (3 ≤ n → s.reissue id loop p = forgot.stamp 0x0401 p.src p.src) ∧
    (∀ dest, n < 3 → forgot.otherBob id loop p = some dest →
      s.reissue id loop p = (forgot.sendOn dest (forgot.again p)).modSnd dest fun y => { y with fails := y.fails.set 0 tag (n + 1) }) ∧
    (n < 3 → forgot.otherBob id loop p = none → s.reissue id loop p = forgot)) ∧
  (∀ (s : State) (id : BitVec 32) (last : BitVec 5) (b : Bob), let after := (s.snd id).after last
    let s1 := (s.modSnd id fun x => { x with idleOnly := true, darkAt := s.time.lea }).reissueAll id fun q => after.contains q
    (s.bobById id = some b → exec (.dark id last) s = .next (s1.forEach b.rings fun r (u : State) => u.modRing r fun x => { x with passed := 0 })) ∧
    (s.bobById id = none → exec (.dark id last) s = .next s1)) ∧
  (∀ (s : State) (id : BitVec 32), let s1 := s.modSnd id fun x => { x with idleOnly := false }
    (s1.idles id = false → exec (.syncNotice id) s = .next (s1.modSnd id (·.flush))) ∧ (s1.idles id = true → exec (.syncNotice id) s = .next s1)) ∧
  (∀ (s : State) (id : BitVec 32), let x := s.snd id
    ((x.idleOnly = false ∨ since x.darkAt s.time.lea < 2000000) → exec (.darkBobbinTimeout id) s = .next s) ∧
    (x.idleOnly = true → 2000000 ≤ since x.darkAt s.time.lea → exec (.darkBobbinTimeout id) s =
      .next (((s.withdraw [s.nowId id]).modSnd id fun y => { y with idleOnly := false }).fire (0x200 + s.loopOfBob id) 0 (s.loopOfBob id) id.toNat))) ∧
  (∀ (s : State) (id : BitVec 32) (stn : Stn) (final : Bool), (s.rawTx id = none → exec (.rawCheckAck id stn final) s = .next s) ∧
    (s.isFenced stn = true → exec (.rawCheckAck id stn final) s = .next s) ∧ (bit s.creel.pruned stn = true → exec (.rawCheckAck id stn final) s = .next s) ∧
    ∀ b c q, s.rawTx id = some (c, q) → s.bobById id = some b → (∃ d ∈ b.drops, d.1 = stn.val) → s.isFenced stn = false → bit s.creel.pruned stn = false →
      ((final = false ∨ (s.rcv id stn).finished = false) → exec (.rawCheckAck id stn final) s = .next (s.touchSlot c q.no)) ∧
      (final = true → (s.rcv id stn).finished = true → exec (.rawCheckAck id stn final) s =
        .next ((s.touchSlot c q.no).modSnd id fun x => { x with acked := x.acked ||| 2 ^ stn.val }))) ∧
  (∀ (s : State) (id : BitVec 32) (stn d c : Nat) (q : DescSt), s.rawRx id stn = some (c, q) → (s.blk (blockOfCell c)).frozen = true →
    ((s.rcv id stn).waiting.length < 64 → s.rawFrame id stn d = (s.touchSlot c q.no).modRcv id stn fun x => { x with waiting := x.waiting ++ [d] }) ∧
    (64 ≤ (s.rcv id stn).waiting.length → s.rawFrame id stn d = (s.touchSlot c q.no).rawFault id stn 0x0403))

/-- Rings and loops (R173, R181-R185): a ring that holds resonance is verified, and locked by two windows on its line in a row;
a locked ring that shows another line is muted, and a muted one locks again; an attempt that fails is tried again, and the third
makes the ring FAULTY. A loop is judged on 10^9 bits, a shorter window going on into the next, and so is each ring: above 1e-7,
or with two drop rings above it, it is withdrawn with cause BER; one such ring alone is FAULTED; above 1e-9 in two windows it is
ADVISORY. A loop that REQUALIFY brings back is judged before it is used (R200). -/
def Obligations.RingsLockAndLoopsAreJudged : Prop :=
  (∀ (s : State) (i : RingIx),
    let r := ringIx i
    let x := s.ring r
    (∀ pilot : Option Line, ringExists i = true →
      (x.state = .verify → pilot.map (·.val) ≠ some (s.ringLine r) → exec (.identityWindow i pilot) s = .next (s.attemptFails r).locksDone) ∧
      (x.state = .verify → pilot.map (·.val) = some (s.ringLine r) → 1 ≤ x.passed → exec (.identityWindow i pilot) s = .next (s.ringLocked r)) ∧
      (x.state = .verify → pilot.map (·.val) = some (s.ringLine r) → x.passed = 0 → exec (.identityWindow i pilot) s = .next (s.modRing r fun x => { x with passed := 1 })) ∧
      (x.state = .locked → pilot.map (·.val) = some (s.ringLine r) → exec (.identityWindow i pilot) s = .next s) ∧
      (x.state = .locked → pilot.map (·.val) ≠ some (s.ringLine r) → exec (.identityWindow i pilot) s = .next ((s.bump Ctr.pilotMismatch i.loop).muteRing r))) ∧
    (∀ pilot, ringExists i = false → exec (.identityWindow i pilot) s = .next s) ∧
    ((x.state = .locking ∨ x.state = .relock) → exec (.resonanceHeld i) s = .next (s.modRing r fun x => { x with state := .verify, passed := 0 }) ∧
      exec (.lockTimeout i) s = .next (s.attemptFails r).locksDone) ∧
    (x.state ≠ .locking → x.state ≠ .relock → exec (.resonanceHeld i) s = .next s ∧ exec (.lockTimeout i) s = .next s) ∧
    (x.state = .muted → exec (.ringMuteDone i) s = .next ((s.bump Ctr.ringRelock i.loop).modRing r fun x => { x with state := .relock })) ∧
    (x.state ≠ .muted → exec (.ringMuteDone i) s = .next s)) ∧
  (∀ (s : State) (r : Nat), Tab.wf s.skein.ring s.skein.ringDefault = true →
    (∃ u : State, s.ringLocked r = u.locksDone ∧ (u.ring r).state = .locked ∧ (u.ring r).attempts = 0 ∧ ∀ q, q ≠ r → u.ring q = s.ring q) ∧
    ((s.ring r).attempts < 2 → ((s.attemptFails r).ring r).state = .relock ∧ ((s.attemptFails r).ring r).attempts = (s.ring r).attempts + 1) ∧
    (2 ≤ (s.ring r).attempts → s.attemptFails r = s.faultRings [r])) ∧
  (∀ (s : State) (n : Loop) (rings : List RingBer) (ue : Nat),
    let add := s.modLoop n fun x => rings.foldl (fun x r => x.count (8 * r.stn.val + r.n.val) r.corrected r.bits 0) { x with ue := x.ue + ue }
    ((s.loopSt n).state.usable = true → exec (.skeinHealthWindow n rings ue) s = .next (add.judgeLoop n)) ∧
    ((s.loopSt n).state = .locking → s.creel.requal.isSome = true → exec (.skeinHealthWindow n rings ue) s = .next (add.judgeTest n).tryRequal) ∧
    ((s.loopSt n).state = .locking → s.creel.requal = none → exec (.skeinHealthWindow n rings ue) s = .next s) ∧
    ((s.loopSt n).state.usable = false → (s.loopSt n).state ≠ .locking → exec (.skeinHealthWindow n rings ue) s = .next s)) ∧
  (∀ (s : State) (n : Nat),
    let x := s.loopSt n
    let s1 := s.modLoop n LoopSt.next
    (10 ^ 9 ≤ x.bits → x.badRings = [] → x.bits < x.corrected * 10 ^ 7 → s.judgeLoop n = s1.withdrawLoops [n] 1) ∧
    (2 ≤ x.badRings.length → s.judgeLoop n = s1.withdrawLoops [n] 1) ∧
    (10 ^ 9 ≤ x.bits → x.badRings = [] → x.corrected * 10 ^ 7 ≤ x.bits → s.judgeLoop n = s1.advise n (decide (x.bits < x.corrected * 10 ^ 9))) ∧
    (∀ k, x.badRings = [k] → 10 ^ 9 ≤ x.bits → x.corrected * 10 ^ 7 ≤ x.bits →
      s.judgeLoop n = (s1.faultRings [dropRing n k]).advise n (decide (x.bits < x.corrected * 10 ^ 9))) ∧
    (∀ k, x.badRings = [k] → x.bits < 10 ^ 9 → s.judgeLoop n = s1.faultRings [dropRing n k]) ∧
    (x.badRings = [] → x.bits < 10 ^ 9 → s.judgeLoop n = s1) ∧
    (x.bits < 10 ^ 9 → x.next.bits = x.bits ∧ x.next.corrected = x.corrected ∧ x.next.ue = x.ue ∧ x.next.berLog = x.berLog) ∧
    (10 ^ 9 ≤ x.bits → x.next.bits = 0 ∧ x.next.corrected = 0 ∧ x.next.ue = 0 ∧ x.next.ueFrames = min x.ue 255 ∧ x.next.berLog = berLog x.corrected x.bits) ∧
    (∀ k c b, (k, c, b) ∈ x.rings → (b < 10 ^ 9 ↔ (k, c, b) ∈ x.next.rings) ∧ (10 ^ 9 ≤ b → b < c * 10 ^ 7 → k ∈ x.badRings))) ∧
  (∀ (s : State) (n : Nat), Tab.wf s.skein.loop {} = true → (s.loopSt n).state.usable = true →
    (1 ≤ (s.loopSt n).hot → ((s.advise n true).loopSt n).state = .advisory) ∧
    (1 ≤ (s.loopSt n).cool → ((s.advise n false).loopSt n).state = .active) ∧
    (∀ m, m ≠ n → (s.advise n true).loopSt m = s.loopSt m ∧ (s.advise n false).loopSt m = s.loopSt m)) ∧
  (∀ (a b : Nat), 0 < a → 0 < b → a < b → berLog a b < 255 ∧ a ^ 10 * 10 ^ berLog a b ≤ b ^ 10) ∧ (∀ b, berLog 0 b = 255)

/-- A ply group (R217, R218, R222, R224, R226-R229): a group whose sink and members are all there starts on a READY or DIGITAL
port, ends with PLY_MISMATCH when they disagree, and with PLY_TIMEOUT when it has not started in 100 µs; GO sets its members
sending, none of whose slots is a proof slot. A code's count is the one whose band it lies in, and a symbol's count the sum of
those of its slots. A block is accepted when its sums agree with the members' residues modulo 255 and is otherwise recomputed,
the eighth mismatch in 1 ms sending the port to DIGITAL; a member dark for its whole block has it recomputed; a recomputed block
is written when every member's values are there; CONFIRM completes the members. A lost member ends the group, and its port is
FAULTED. -/
def Obligations.PlyGroupsAcceptCheckedBlocks : Prop :=
  (∀ (s : State) (p : PlyIx) (g : PlyGroup), (s.plyPort p).grp = some g →
    let x := s.plyPort p
    ((g.go = true ∨ x.posted = false) → exec (.plyGroupStart p) s = .next s) ∧
    (∀ d, g.go = false → x.posted = true → s.plySinkDesc g = some d →
      let go := fun st : PlyState => s.modPly p fun x => { x with state := st, group := g.group, width := plyWidth d.ext, grp := some { g with go := true } }
      ((∃ m ∈ s.plyMemberDescs g, plyAgree d m.2 = false) → exec (.plyGroupStart p) s = .next (s.endGroup p 0x0408 (plyStn p))) ∧
      ((∀ m ∈ s.plyMemberDescs g, plyAgree d m.2 = true) →
        (x.state = .ready → exec (.plyGroupStart p) s = .next (go .run)) ∧
        (x.state = .digital → exec (.plyGroupStart p) s = .next (go .digital)) ∧
        (x.state = .faulted → exec (.plyGroupStart p) s = .next (s.endGroup p 0x040A (plyStn p))))) ∧
    (g.go = false → 100000 ≤ since g.startAt s.time.lea → exec (.plyTimeout p) s = .next (s.endGroup p 0x0409 (plyStn p))) ∧
    ((g.go = true ∨ since g.startAt s.time.lea < 100000) → exec (.plyTimeout p) s = .next s) ∧
    (∀ (m : Fin 16) (slot : Nat), g.go = true → m.val < x.members.length →
      exec (.plyGo p m slot) s = .next (s.modPly p fun x => { x with grp := some { g with slot := slot, going := g.going ||| 2 ^ m.val } })) ∧
    (∀ (m : Fin 16) (c : Nat), g.go = true → s.plyTotal g ≤ g.accepted → g.cells.get none m.val = some c →
      let cells := g.cells.set none m.val none
      exec (.plyConfirm p m) s = .next (((s.modPly p fun x => { x with grp := some { g with confirmed := g.accepted } }).settle c g.group).modPly p fun x =>
        { x with grp := if cells.isEmpty then none else some { g with confirmed := g.accepted, cells := cells } })) ∧
    (∀ m : Fin 16, (g.go = false ∨ g.accepted < s.plyTotal g) → exec (.plyConfirm p m) s = .next (s.modPly p fun x => { x with grp := some { g with confirmed := g.accepted } }))) ∧
  (∀ (s : State) (p : PlyIx) (g : PlyGroup), s.plyRuns p = some g →
    let n := 64 * s.plyBits g * (s.plyPort p).split
    let rho := s.plyResidues g g.next
    let g1 := { g with slot := slotAfter g.slot n }
    let s1 := (s.bump Ctr.plyBlock p).blockPassed p n
    let recent := s.plyRecent p ++ [s.time.lea]
    let again := (s1.modPly p fun x => { x with mismatches := recent }).redoNext p
    (∀ codes, (s.plySums p g codes).sum % 255 = rho % 255 → exec (.plyResidueCheck p codes) s =
      .next (((s1.writeBlock p g1 g.next (s.plySums p g codes)).modPly p fun x => { x with grp := some { g1 with next := g.next + 1 } }).accepted p)) ∧
    (∀ codes, (s.plySums p g codes).sum % 255 ≠ rho % 255 → recent.length < 8 → exec (.plyResidueCheck p codes) s = .next again) ∧
    (∀ codes, (s.plySums p g codes).sum % 255 ≠ rho % 255 → 8 ≤ recent.length → exec (.plyResidueCheck p codes) s = .next (again.goDigital p 3)) ∧
    again.mems = s.mems ∧
    (∀ m : Fin 16, m.val < (s.plyPort p).members.length → exec (.plyUnderrun p m) s = .next (((s.bump Ctr.plyUnderrun p).blockPassed p n).redoNext p))) ∧
  (∀ (wide : Bool) (code : Nat), let c := countOf wide code
    c ≤ (if wide then 16 else 8) ∧ (0 < c → codeAbove wide (c - 1) ≤ code) ∧ (c < (if wide then 16 else 8) → code < codeAbove wide c)) ∧
  (∀ (wide : Bool) (codes : List Nat), symbolCounts wide 1 codes = codes.map (countOf wide)) ∧
  (∀ (n d : Nat), proofSlot n = false → 0 < d → proofSlot (slotAfter n d) = false ∧ n + d ≤ slotAfter n d) ∧
  (∀ (s : State) (p : Nat) (x : PlyPort), Tab.wf s.ply {} = true → s.plyPort p = x → x.narrowDue = true → ((s.blockPassed p 0).plyPort p).split = 2 * x.split ∧
    ((s.blockPassed p 0).plyPort p).narrowDue = false) ∧
  (∀ (s : State) (p : PlyIx), s.plyRuns p = none → (∀ c, exec (.plyResidueCheck p c) s = .next s) ∧ ∀ m, exec (.plyUnderrun p m) s = .next s) ∧
  (∀ (s : State) (p : PlyIx) (m : Fin 16) (g : PlyGroup) (r : Redo) (d : Nat × Desc), (s.plyPort p).state ≠ .digital → (s.plyPort p).grp = some g →
    g.redoFor m = some r → ((s.plyMemberDescs g).find? fun d => decide (d.1 = m.val)) = some d →
    let r1 : Redo := { r with got := r.got ||| 2 ^ m.val, sums := r.sums.zipWith (· + ·) (s.plyVals d.2 r.block) }
    (r1.got ≠ 2 ^ (s.plyPort p).members.length - 1 → exec (.plyRedo p m) s =
      .next (s.modPly p fun x => { x with grp := some { g with redo := g.redo.map fun x => if x.block = r.block then r1 else x } })) ∧
    (r1.got = 2 ^ (s.plyPort p).members.length - 1 → exec (.plyRedo p m) s =
      .next ((((s.bump Ctr.plyRedo p).writeBlock p g r.block r1.sums).modPly p fun x => { x with grp := some { g with redo := g.redo.filter fun x => decide (x.block ≠ r.block) } }).accepted p))) ∧
  (∀ (s : State) (p : PlyIx) (m : Fin 16), (m.val < (s.plyPort p).members.length → exec (.plyLost p m) s = .next (s.loseMember p 0x040A (plyStn p))) ∧
    ((s.plyPort p).members.length ≤ m.val → exec (.plyLost p m) s = .next s)) ∧
  (∀ (s : State) (i code stn : Nat), Tab.wf s.ply {} = true → ((s.plyPort i).state = .ready ∨ (s.plyPort i).state = .run) →
    ((s.loseMember i code stn).plyPort i).state = .faulted ∧ ((s.loseMember i code stn).plyPort i).lastCause = 5 ∧
      ((s.plyPort i).state = .run → ((s.loseMember i code stn).plyPort i).grp = none) ∧ ∀ j, j ≠ i → (s.loseMember i code stn).plyPort j = s.plyPort j)

/-- A ply port's margin and training (R215, R217, R220, R221, R228, R231): a window updates levels and trims, by 0.1 % at most,
those of a running group at its next block, and its prediction; a member low in two windows is lost; a spent margin doubles the
split, for a window at the next block and at once for a proof slot read wrong, and at split 4 the port goes DIGITAL; a proof
slot is the last of 256, and any other is none; training gives the smallest split that R220 allows at its residual and WIDTH_CAP
and whose readings meet the margin, or DIGITAL; a check of stored trims that fails, or lasts 1.4 µs, trains anew, and 50 µs of
training end in DIGITAL. -/
def Obligations.PlyPortsKeepTheirMargin : Prop :=
  (∀ (s : State) (p : PlyIx) (w : PlyMeas), (s.plyPort p).state ≠ .run → (s.plyPort p).state ≠ .ready → exec (.plyWindow p w) s = .next s ∧
    ∀ n code, exec (.plyProofMiss { port := p, slot := n, code := code }) s = .next s) ∧
  (∀ (s : State) (p : PlyIx) (w : PlyMeas), ((s.plyPort p).state = .run ∨ (s.plyPort p).state = .ready) →
    let n := (s.plyPort p).members.length
    let sp := (s.plyPort p).split
    let s1 := s.modPly p (·.measured w)
    ((∃ m ∈ (s1.plyPort p).members, 2 ≤ m.low) → exec (.plyWindow p w) s = .next (s1.loseMember p 0x040A (plyStn p))) ∧
    ((∀ m ∈ (s1.plyPort p).members, m.low < 2) → meets n sp w = true → exec (.plyWindow p w) s = .next s1) ∧
    ((∀ m ∈ (s1.plyPort p).members, m.low < 2) → meets n sp w = false → exec (.plyWindow p w) s = .next (s1.narrow p 1 false)) ∧
    (∀ slot code q, ((s.plyPort p).state = .run ∧ slot % 256 = 255 ∧ q = slot / 256 % 32 ∨ (s.plyPort p).state = .ready ∧ q = slot % 32) →
      (countOf (plyWide n sp) code ≠ proofCount n sp q →
        exec (.plyProofMiss { port := p, slot := slot, code := code }) s = .next (((s.bump Ctr.plyProofMiss p).modPly p fun x => { x with proofMiss := satAdd 0xFFFF x.proofMiss 1 }).narrow p 2 true)) ∧
      (countOf (plyWide n sp) code = proofCount n sp q → exec (.plyProofMiss { port := p, slot := slot, code := code }) s = .next s)) ∧
    (∀ slot code, (s.plyPort p).state = .run → slot % 256 ≠ 255 → exec (.plyProofMiss { port := p, slot := slot, code := code }) s = .next s)) ∧
  (∀ (x : PlyPort) (w : PlyMeas), (x.measured w).predLog = plyPredLog (plyDet x.members.length x.split w) w.sigmaUc ∧
    (x.measured w).members.length = x.members.length ∧ (x.measured w).state = x.state ∧
    ∀ (i : Nat) (m n : PlyMember), x.members[i]? = some m → (x.measured w).members[i]? = some n → n.bobbin = m.bobbin ∧
      m.trim + m.trimDue - 1 ≤ n.trim + n.trimDue ∧ n.trim + n.trimDue ≤ m.trim + m.trimDue + 1 ∧ (x.state = .run → n.trim = m.trim) ∧ (x.state ≠ .run → n.trimDue = 0)) ∧
  (∀ (s : State) (i cause : Nat) (b : Bool), Tab.wf s.ply {} = true → (s.plyPort i).state = .run →
    ((s.plyPort i).split < 4 → b = true → ((s.narrow i cause b).plyPort i).split = 2 * (s.plyPort i).split ∧ ((s.narrow i cause b).plyPort i).state = .run) ∧
    ((s.plyPort i).split < 4 → b = false → ((s.narrow i cause b).plyPort i).split = (s.plyPort i).split ∧ ((s.narrow i cause b).plyPort i).narrowDue = true) ∧
    (4 ≤ (s.plyPort i).split → ((s.narrow i cause b).plyPort i).state = .digital ∧ ((s.narrow i cause b).plyPort i).lastCause = cause) ∧
    ∀ j, j ≠ i → (s.narrow i cause b).plyPort j = s.plyPort j) ∧
  (∀ (s : State) (p : PlyIx) (w : PlyMeas),
    ((s.plyPort p).state = .train → exec (.plyTrainDone p w) s = .next (s.trained p w)) ∧
    ((s.plyPort p).state = .check → exec (.plyTrainDone p w) s = .next (s.checked p w)) ∧
    ((s.plyPort p).state = .run → exec (.plyTrainDone p w) s = .next s)) ∧
  (∀ (s : State) (i : Nat) (w : PlyMeas), Tab.wf s.ply {} = true →
    let n := (s.plyPort i).members.length
    let ok := meets n (s.plyPort i).split w && proofsRight n (s.plyPort i).split w.codes
    (∀ sp, splitFor n s.plan.widthCap w = some sp → ((s.trained i w).plyPort i).state = .ready ∧ ((s.trained i w).plyPort i).split = sp) ∧
    (splitFor n s.plan.widthCap w = none → ((s.trained i w).plyPort i).state = .digital ∧ ((s.trained i w).plyPort i).lastCause = 4) ∧
    (ok = true → ((s.checked i w).plyPort i).state = .ready) ∧
    (ok = false → ((s.checked i w).plyPort i).state = .train ∧ ((s.checked i w).plyPort i).since_ = s.time.lea)) ∧
  (∀ n cap w sp, splitFor n cap w = some sp → ∃ lim, widthLimit w.eqRes = some lim ∧ sp ∈ [1, 2, 4] ∧ n ≤ sp * min lim cap ∧ meets n sp w = true ∧
    ∀ t ∈ [1, 2, 4], t < sp → t * min lim cap < n ∨ meets n t w = false) ∧
  (∀ n sp : Nat, n ≤ 16 → sp ∈ [1, 2, 4] → ((List.range sp).map (subsetSize n sp)).sum = n ∧ ∀ k, k < sp → subsetSize n sp k ≤ widthPerSlot n sp) ∧
  (∀ (s : State) (p : PlyIx), let x := s.plyPort p
    (x.state = .train → 50000 ≤ since x.since_ s.time.lea → exec (.plyTrainTimeout p) s = .next (s.goDigital p 4)) ∧
    ((x.state ≠ .train ∨ since x.since_ s.time.lea < 50000) → exec (.plyTrainTimeout p) s = .next s) ∧
    (x.state = .check → 1400 ≤ since x.since_ s.time.lea → exec (.plyCheckTimeout p) s = .next (s.modPly p fun x => { x with state := .train, since_ := s.time.lea })) ∧
    ((x.state ≠ .check ∨ since x.since_ s.time.lea < 1400) → exec (.plyCheckTimeout p) s = .next s))

/-! ### HBM -/

/-- Reads, writes and atomics at a line's home (R248-R251, R254, R256, R262): an address beyond the map is answered BAD_ADDR and
one of a FAILED stack NOT_PRESENT; a clean or corrected line answers a read, a bad one answers UE with poison, and a
descriptor's request that has moved the line (DEDUCED, log 42) moves it as it was read; a write changes its bytes and no others, but not
a line that a partial write finds bad; an atomic is applied once, journaled and answered with the old value, and a live journal
entry answers it again. -/
def Obligations.HomeLinesAreReadWrittenAndUpdated : Prop :=
  (∀ (s : State) (pa errs : Nat) (tag : BitVec 16) (gen : BitVec 10),
    let l := pa / 128
    let on := (s.linkGood (stackOf pa)).admitLine l false
    let p := on.probe l errs
    (hbmBytes ≤ pa → exec (.hbmRead pa errs tag gen .unit) s = .next (s.answer pa tag gen 2 false []) ∧ exec (.hbmRead pa errs tag gen .host) s = .next s ∧
      ∀ a n o c, exec (.hbmAtomic pa a n o c tag gen errs) s = .next (s.answer pa tag gen 2 false [])) ∧
    (pa < hbmBytes → (s.stk (stackOf pa)).state = .failed → exec (.hbmRead pa errs tag gen .unit) s = .next (s.answer pa tag gen 1 false []) ∧
      (∀ d b, exec (.hbmWrite pa d errs b) s = .next s) ∧ ∀ a n o c, exec (.hbmAtomic pa a n o c tag gen errs) s = .next (s.answer pa tag gen 1 false [])) ∧
    (pa < hbmBytes → s.serves (stackOf pa) = true → s.hotFull l = false →
      let n := (s.slot tag.toNat).bytes
      (p.1.bad = false → p.2.mems.hbmBad pa n = false → exec (.hbmRead pa errs tag gen .unit) s =
        .next ((p.2.recopy pa tag.toNat gen).answer pa tag gen 0 false (p.2.mems.hbm.read pa n))) ∧
      (p.1.bad = true → p.2.mems.hbmBad pa n = true → exec (.hbmRead pa errs tag gen .unit) s =
        .next (((p.2.hbmConsume (128 * l) (s.slotBy tag.toNat)).recopy pa tag.toNat gen).answer pa tag gen 3 true (p.2.mems.hbm.read pa n))) ∧
      (p.1.bad = false → exec (.hbmRead pa errs tag gen .host) s = .next p.2 ∧ exec (.hbmRead pa errs tag gen .spindle) s = .next p.2)) ∧
    (pa < hbmBytes → s.serves (stackOf pa) = true → s.hotFull l = false → ∀ data bad, pa + data.length ≤ hbmBytes →
      (pa % 128 = 0 → 128 ≤ data.length → exec (.hbmWrite pa data errs bad) s = .next (on.storeHbm pa data bad)) ∧
      (data.length < 128 → p.1 ≠ .found → exec (.hbmWrite pa data errs bad) s = .next (p.2.storeHbm pa data bad)) ∧
      (data.length < 128 → p.1 = .found → exec (.hbmWrite pa data errs bad) s = .next (p.2.hbmConsume (128 * l)))) ∧
    (∀ (aop : BitVec 4) (size : Nat) (o c : BitVec 128), pa < hbmBytes → s.serves (stackOf pa) = true →
      let die := dieOfLine l
      (∀ e, s.journaled die true s.node tag gen.toNat = some e → exec (.hbmAtomic pa aop size o c tag gen errs) s = .next (s.answer pa tag gen 0 false (leBytes 16 e.reply.toNat))) ∧
      (s.journaled die true s.node tag gen.toNat = none → (aopAllowed aop.toNat size = false ∨ pa % size ≠ 0) →
        exec (.hbmAtomic pa aop size o c tag gen errs) s = .next (s.answer pa tag gen 2 false [])) ∧
      (s.journaled die true s.node tag gen.toNat = none → aopAllowed aop.toNat size = true → pa % size = 0 → s.jUsed die true < 32768 → s.hotFull l = false →
        (p.1.bad = true → exec (.hbmAtomic pa aop size o c tag gen errs) s = .next ((p.2.hbmConsume (128 * l) (s.slotBy tag.toNat)).answer pa tag gen 3 true [])) ∧
        (p.1.bad = false → let a := p.2.atomicAt pa aop.toNat size o c
          exec (.hbmAtomic pa aop size o c tag gen errs) s =
            .next ((a.2.journal ⟨die, true, s.node, tag, gen.toNat, a.1, s.time.lea⟩).answer pa tag gen 0 false (leBytes 16 a.1.toNat)))))) ∧
  (∀ (s : State) (pa : Nat) (bs : List Byte) (bad : Bool), s.mems.hbm.wf = true → pa / 128 = (pa + bs.length - 1) / 128 → bs ≠ [] →
    (s.mems.hbmMerges pa bs.length = [] → (s.storeHbm pa bs bad).mems.hbm.read pa bs.length = bs) ∧
    (∀ a, a < pa ∨ pa + bs.length ≤ a → (s.storeHbm pa bs bad).mems.hbm.get 0 a = s.mems.hbm.get 0 a) ∧
    (s.mems.hbmMerges pa bs.length ≠ [] → (s.storeHbm pa bs bad).mems.hbm = s.mems.hbm)) ∧
  (∀ (s : State) (l : Nat), (s.mems.hbmPoison.get false l = true → ∀ e, s.probe l e = (.poisoned, s)) ∧
    (s.mems.hbmPoison.get false l = false → s.probe l 0 = (.clean, s) ∧ (∀ e, 1 ≤ e → e ≤ 3 → s.probe l e = (.corrected, s.lineCe l)) ∧ ∀ e, 4 ≤ e → e ≤ 5 → s.probe l e = (.found, s.lineBad l))) ∧
  (∀ (old op cmp : BitVec 128), let o := old.setWidth 64; let x := op.setWidth 64
    applyAop 0 old op cmp = (o + x).setWidth 128 ∧ applyAop 2 old op cmp = op ∧ (old = cmp → applyAop 4 old op cmp = op) ∧ (old ≠ cmp → applyAop 4 old op cmp = old) ∧
    (applyAop 5 old op cmp).setWidth 64 = (if x.slt o then x else o) ∧ (applyAop 6 old op cmp).setWidth 64 = (if o.slt x then x else o) ∧
    (applyAop 7 old op cmp).setWidth 64 = (if x.ult o then x else o) ∧ (applyAop 8 old op cmp).setWidth 64 = (if o.ult x then x else o) ∧
    (applyAop 9 old op cmp).setWidth 64 = o &&& x ∧ (applyAop 10 old op cmp).setWidth 64 = o ||| x ∧ (applyAop 11 old op cmp).setWidth 64 = o ^^^ x ∧
    (applyAop 3 old op cmp).setWidth 64 = (if o = cmp.setWidth 64 then x else o))

/-- Care of the stacks (R247, R250, R256, R257, R259, R260): a corrected line is written back; scrub corrects and counts, or poisons
and counts; the fourth parity error in a row stamps HBM_LINK; a stack that reaches 95 °C, or 85 °C at its Skein, is THROTTLED
until both stand 5 degrees below, and refresh doubles above 85 °C until 80 °C; a hot-line slot is free 1 µs after its queue was
served; journal entries expire. -/
def Obligations.StacksAreScrubbedCooledAndKept : Prop :=
  (∀ (s : State) (l : Nat), ∃ t, exec (.hbmCeWriteback l) s = .next t ∧ t = { s with memory := t.memory } ∧ l ∉ t.memory.writeback ∧ ∀ k, k ≠ l → (k ∈ t.memory.writeback ↔ k ∈ s.memory.writeback)) ∧
  (∀ (s : State) (l errs : Nat), let k := stackOf (128 * l); let p := s.probe l errs
    ((s.serves k = false ∨ hbmBytes ≤ 128 * l) → exec (.hbmScrub l errs) s = .next s) ∧
    (s.serves k = true → 128 * l < hbmBytes →
      (p.1 = .corrected → exec (.hbmScrub l errs) s = .next (p.2.bump Ctr.hbmScrubCe k)) ∧
      (p.1 = .found → exec (.hbmScrub l errs) s = .next (p.2.hbmSpindleRead (128 * l))) ∧
      ((p.1 = .clean ∨ p.1 = .poisoned) → exec (.hbmScrub l errs) s = .next p.2))) ∧
  (∀ (s : State) (k : Stack), (s.serves k = false → exec (.hbmLink k) s = .next s) ∧
    (s.serves k = true → (s.stk k).linkErrs < 3 → exec (.hbmLink k) s = .next ((s.bump Ctr.hbmLink k).modStk k fun x => { x with linkErrs := x.linkErrs + 1 })) ∧
    (s.serves k = true → 3 ≤ (s.stk k).linkErrs → exec (.hbmLink k) s = .next (((s.bump Ctr.hbmLink k).linkGood k).stamp 0x0502 k (16 + k)))) ∧
  (∀ (s : State) (k : Stack) (t sk : Nat), let x := s.stk k; let y := x.heat t sk
    ((x.state = .off ∨ x.state = .failed) → exec (.stackTempRead k t sk) s = .next s) ∧
    (x.state ≠ .off → x.state ≠ .failed → y.fast = x.fast → y.state = x.state → exec (.stackTempRead k t sk) s = .next (s.modStk k fun _ => y)) ∧
    (x.state = .ready → y.fast = x.fast → y.state = .throttled → exec (.stackTempRead k t sk) s =
      .next (((s.modStk k fun _ => y).fire (0x101 + 8 * k) 1 k t).bump Ctr.hbmThrottle k)) ∧
    (x.state = .throttled → y.fast ≠ x.fast → y.state = .ready → exec (.stackTempRead k t sk) s =
      .next (((s.modStk k fun _ => y).fire (0x104 + 8 * k) y.fast.toNat k t).fire (0x101 + 8 * k) 0 k t))) ∧
  (∀ (x : StackSt) (t k : Nat), (x.heat t k).tempC = t ∧ (x.heat t k).skeinC = k ∧
    (x.state = .ready → ((95 ≤ t ∨ 85 ≤ k) → (x.heat t k).state = .throttled) ∧ (t < 95 → k < 85 → (x.heat t k).state = .ready)) ∧
    (x.state = .throttled → (t ≤ 90 → k ≤ 80 → (x.heat t k).state = .ready) ∧ ((90 < t ∨ 80 < k) → (x.heat t k).state = .throttled)) ∧
    (x.state ≠ .ready → x.state ≠ .throttled → (x.heat t k).state = x.state) ∧
    (85 < t → (x.heat t k).fast = true) ∧ (t ≤ 80 → (x.heat t k).fast = false) ∧ (80 < t → t ≤ 85 → (x.heat t k).fast = x.fast)) ∧
  (∀ (s : State) (l : Nat) (h : HotSlot), s.hotSlot l = some h →
    (before s.time.lea h.served = false → 1000 ≤ since h.served s.time.lea → before s.time.lea h.tFree = false →
      ∃ t, exec (.hotSlotFree l) s = .next t ∧ t = { s with memory := t.memory } ∧ t.hotSlot l = none ∧ ∀ k, k ≠ l → t.hotSlot k = s.hotSlot k) ∧
    ((before s.time.lea h.served = true ∨ since h.served s.time.lea < 1000 ∨ before s.time.lea h.tFree = true) → exec (.hotSlotFree l) s = .next s)) ∧
  (∀ (s : State) (k : Fin 8), ∃ t, exec (.journalExpire k) s = .next t ∧ t = { s with memory := t.memory } ∧
    ∀ e, e ∈ t.memory.journal ↔ e ∈ s.memory.journal ∧ (e.die ≠ k.val ∨ s.jLive e = true))

/-! ### Number formats and exact accumulation -/

/-- FP4 codes have the values of R29, and none is an infinity or a NaN; code 0x8 reads as code 0x0, and no conversion of any value
under any rounding writes it (R30); INT4 and INT2 codes are two's-complement integers (R36). -/
def Obligations.NarrowCodesHaveTheirValues : Prop :=
  (∀ c, c < 16 → Fmt.fp4.value c = .fin (if 8 ≤ c then -([0, 1, 2, 3, 4, 6, 8, 12].getD (c - 8) 0) else [0, 1, 2, 3, 4, 6, 8, 12].getD c 0) (-1)) ∧
  (∀ row i, Fmt.fp4.code row i < 16) ∧
  Fmt.fp4.value 8 = Fmt.fp4.value 0 ∧
  (∀ (md : Rnd) (x : Machine.Num), (cp4 .fp4 md x).1 < 16 ∧ (cp4 .fp4 md x).1 ≠ 8) ∧
  (∀ (md : Rnd) (m e : Int), (roundMag 2 (-1) md m.natAbs e).1 = 0 → (cp4 .fp4 md (.fin m e)).1 = 0) ∧
  (∀ c, c < 16 → Fmt.int4.value c = .fin (if 8 ≤ c then (c : Int) - 16 else c) 0) ∧
  Fmt.int2.value 0 = .fin 0 0 ∧ Fmt.int2.value 1 = .fin 1 0 ∧ Fmt.int2.value 2 = .fin (-2) 0 ∧ Fmt.int2.value 3 = .fin (-1) 0

/-- A finite value that a conversion point neither clamps nor saturates is written as a code whose value differs from it by at most
half a unit in the last place under RNE, and by less than one under a stochastic draw of 16 bits (R46-R48, R51, R52); a value
that is clamped is counted once and becomes the extreme of its sign. The unit is that of the value converted, which is never
above that of the result. -/
def Obligations.ConversionsErrByHalfAUnit : Prop :=
  (∀ (m e b g : Int) (n : Int), (toFp32 .rne (.fin m e)).2.ovf = 0 → Fmt.fp32.value (toFp32 .rne (.fin m e)).1 = .fin n g →
    b ≤ e → b ≤ g → b ≤ ulpExp 24 (-149) m.natAbs e →
    2 * (m * 2 ^ (e - b).toNat - n * 2 ^ (g - b).toNat).natAbs ≤ 2 ^ (ulpExp 24 (-149) m.natAbs e - b).toNat) ∧
  (∀ (m e b g : Int) (n : Int) (u : Nat), u < 65536 → (toFp32 (.sr u) (.fin m e)).2.ovf = 0 →
    Fmt.fp32.value (toFp32 (.sr u) (.fin m e)).1 = .fin n g → b ≤ e → b ≤ g → b ≤ ulpExp 24 (-149) m.natAbs e →
    (m * 2 ^ (e - b).toNat - n * 2 ^ (g - b).toNat).natAbs < 2 ^ (ulpExp 24 (-149) m.natAbs e - b).toNat) ∧
  (∀ (md : Rnd) (m e : Int), ∃ n g, Fmt.fp32.value (toFp32 md (.fin m e)).1 = .fin n g) ∧
  (∀ (md : Rnd) (m e : Int), (toFp32 md (.fin m e)).2.ovf = 0 ∨ (toFp32 md (.fin m e)).2.ovf = 1 ∧
    (toFp32 md (.fin m e)).1 = (if m < 0 then 0xFF7FFFFF else 0x7F7FFFFF)) ∧
  (∀ f ∈ [Fmt.fp4, .e4m3, .e5m2, .bf16], ∀ (m e b g n : Int), (cp4 f .rne (.fin m e)).2.sat = 0 → f.value (cp4 f .rne (.fin m e)).1 = .fin n g →
    b ≤ e → b ≤ g → b ≤ ulpExp (f.shape.1 + 1) f.shape.2 m.natAbs e →
    2 * (m * 2 ^ (e - b).toNat - n * 2 ^ (g - b).toNat).natAbs ≤ 2 ^ (ulpExp (f.shape.1 + 1) f.shape.2 m.natAbs e - b).toNat) ∧
  (∀ f ∈ [Fmt.int4, .int2, .t2, .t5b], ∀ (m e b g n : Int), (cp4 f .rne (.fin m e)).2.sat = 0 → f.value (cp4 f .rne (.fin m e)).1 = .fin n g →
    b ≤ e → b ≤ g → b ≤ 0 → 2 * (m * 2 ^ (e - b).toNat - n * 2 ^ (g - b).toNat).natAbs ≤ 2 ^ (0 - b).toNat) ∧
  (∀ (f : Fmt) (md : Rnd) (m e : Int), f.isInt = true → (cp4 f md (.fin m e)).2.sat ≤ 1 ∧
    ((cp4 f md (.fin m e)).2.sat = 1 → (cp4 f md (.fin m e)).1 = f.intCode (if m < 0 then f.range.1 else f.range.2)))

/-- Inside a block the FP4 path is exact: the block value is the sum of its products in quarters, each micro-block weighted by its
nudges, times both scales, the elements that a partial block lacks counting as zeros; a scale-NaN block is NaN (R31, R33, R34,
R43). Neither the micro-block register nor the combiner can overflow; the INT32 readout clamps at its ends and counts it, and
cannot while K is at most 16,777,216 (R44). -/
def Obligations.BlocksAreSummedExactly : Prop :=
  (∀ (a w : OperRow) (k b : Nat), a.e8m0 1 b ≠ 255 → w.e8m0 1 b ≠ 255 →
    fp4Block a w 1 k b = .fin (2 ^ 14 * ((List.range 32).map fun i => if 32 * b + i < k then a.halves (32 * b + i) * w.halves (32 * b + i) else 0).sum)
      (-16 + ((a.e8m0 1 b : Int) - 127) + ((w.e8m0 1 b : Int) - 127))) ∧
  (∀ (a w : OperRow) (k b : Nat), a.e8m0 3 b ≠ 255 → w.e8m0 3 b ≠ 255 →
    fp4Block a w 3 k b = .fin (((List.range 16).map fun j => 2 ^ (14 - a.nudge 3 b j - w.nudge 3 b j) *
      ((List.range 16).map fun i => if 256 * b + 16 * j + i < k then a.halves (256 * b + 16 * j + i) * w.halves (256 * b + 16 * j + i) else 0).sum).sum)
      (-16 + ((a.e8m0 3 b : Int) - 127) + ((w.e8m0 3 b : Int) - 127))) ∧
  (∀ (a w : OperRow) (mode k b : Nat), (a.e8m0 mode b = 255 ∨ w.e8m0 mode b = 255) → fp4Block a w mode k b = .nan) ∧
  (∀ (a w : OperRow) (k b : Nat) (c e : Int), a.fmt = .fp4 → w.fmt ∈ [Fmt.fp4, .int4, .int2, .t2, .t5b] →
    (fp4Block a w 1 k b = .fin c e → c.natAbs ≤ 2 ^ 14 * 6144) ∧ (fp4Block a w 3 k b = .fin c e → c.natAbs ≤ 805306368)) ∧
  (∀ (a w : OperRow) (k : Nat), let y := ((List.range k).map fun i => a.int i * w.int i).sum
    (intDot a w k).1 = max (-(2 ^ 31)) (min (2 ^ 31 - 1) y) ∧ ((intDot a w k).2.sat = if y < -(2 ^ 31) ∨ 2 ^ 31 - 1 < y then 1 else 0)) ∧
  (∀ (a w : OperRow) (k : Nat), a.fmt.isInt = true → w.fmt.isInt = true → k ≤ 16777216 → (intDot a w k).2.sat = 0 ∧ (intDot a w k).1.natAbs ≤ 2 ^ 30)

/-! ### What every step keeps -/

/-- Every command keeps every memory in its canonical form, whatever the state. -/
def Obligations.MemoriesKeepTheirForm : Prop :=
  ∀ s t : State, MemsWf s.mems → step s = .next t → MemsWf t.mems

/-- No step gives a fuse back: a TEST_LOCK that is blown stays blown (R443), the SVN count never falls (R436), and everything else
the fuses hold is fixed (R12). -/
def Obligations.FusesAreNeverRestored : Prop :=
  ∀ s t : State, step s = .next t →
    (∀ d : IoDie, s.fuse.testLock.get d = true → t.fuse.testLock.get d = true) ∧
    (∀ d : IoDie, s.fuse.svn.get d ≤ t.fuse.svn.get d) ∧
    t.fuse = { s.fuse with svn := t.fuse.svn, testLock := t.fuse.testLock }

/-- A module in HELD stays there through every step but a MODULE_RESET, a THERMAL_ACK and what the supply does (R352, R371, R398,
R431). -/
def Obligations.OnlyResetsAndPowerLeaveHeld : Prop :=
  ∀ s t : State, s.mod.state = .held → step s = .next t → t.mod.state = .held ∨
    ∃ c rest, s.pending = c :: rest ∧ ((∃ k b r, c = .moduleReset k b r) ∨ (∃ k b, c = .thermalAck k b) ∨ (∃ x y, c = .powerFail x y) ∨
      c = .holdupEnd ∨ c = .supplyOff ∨ (∃ mv b, c = .failRecover mv b) ∨ (∃ mv l b, c = .supplyOn mv l b))

/-- The module right after reset: no command waits, every memory is empty and in its canonical form, no fuse of TEST_LOCK is blown,
and the registers read as their field tables say (R100, R142, R212, R230, R311, R316, R360, R372, R382, R401): MODULE.STATE is
0, POWER.CAP is 5,000 W and 3,000 W with 60 %, 250 us and 5 levels, the lowest input 0xFFFF, the epoch 1, WIDTH_CAP 16, the
pair's mode SOLE, the high-water mark 1, every region in RESET. What unwritten memory reads as, and a TEST_LOCK not blown, are
the model's choice (logs 3, 4, 10). -/
def Obligations.ResetIsAsTheFieldTablesSay : Prop :=
  let r := fun o => State.reset.readBar0 o
  State.reset.pending = [] ∧ MemsWf State.reset.mems ∧ State.reset.mems = {} ∧ State.reset.fuse.testLock = ⟨false, false⟩ ∧
  r 0x000010 = 0 ∧ (∀ k < 4, r (0x100 + 8 * k) = 0) ∧ r 0x100000 = 0x000000190F040400 ∧
  r 0x400000 = 0x13880BB83CFA0500 ∧ r 0x400008 = 0x13883C1388000001 ∧ r 0x400010 = 0xFFFF ∧ r 0x600008 = 0 ∧
  r 0x700008 = 0 ∧ r 0x700010 = 0x0000000100000000 ∧ r 0x800008 = 0x0010000000000000 ∧ r 0x900008 = 0 ∧ r 0xA00008 = 0 ∧ r 0xB00008 = 0 ∧
  r 0xC00000 = 0 ∧ r 0xD00000 = 1 ∧ r 0xE00010 = 0x0000000100000000 ∧
  (∀ k < 16, r (0x2000008 + 0x200000 * k) = 1) ∧ (∀ k < 16, (r (0x2000000 + 0x200000 * k)).toNat % 256 = k)
end

