-- ==== Sys2Proof/Laws/Tab.lean ====
section
/-! SUPPORT. Laws of the sparse tables: what reading gives after a write, and that every operation keeps the canonical
form. -/

set_option Elab.async false

namespace Sys2Proof

variable {α : Type}

@[simp] theorem Tab.get_nil (d : α) (n : Nat) : Tab.get [] d n = d := rfl

theorem Tab.get_cons (k : Nat) (v : α) (t : Tab α) (d : α) (n : Nat) :
    Tab.get ((k, v) :: t) d n = if n = k then v else if n < k then d else Tab.get t d n := rfl

section canonical
variable [DecidableEq α]

@[simp] theorem Tab.wf_nil (d : α) : Tab.wf ([] : Tab α) d = true := rfl

/-- A unit at or below the lower bound of a canonical table reads the default. -/
theorem Tab.get_of_le_bound {d : α} {l : Nat} {t : Tab α} (h : Tab.wfFrom d (some l) t = true) {n : Nat} (hn : n ≤ l) :
    Tab.get t d n = d := by
  cases t with
  | nil => rfl
  | cons e t =>
    obtain ⟨k, v⟩ := e
    simp only [Tab.wfFrom, Bool.and_eq_true, decide_eq_true_eq] at h
    have : n < k := by omega
    simp [Tab.get, this, Nat.ne_of_lt this]

/-- A canonical table stays canonical under a smaller lower bound. -/
theorem Tab.wfFrom_mono {d : α} {l m : Nat} {t : Tab α} (hm : m ≤ l) (h : Tab.wfFrom d (some l) t = true) :
    Tab.wfFrom d (some m) t = true := by
  cases t with
  | nil => rfl
  | cons e t =>
    simp only [Tab.wfFrom, Bool.and_eq_true, decide_eq_true_eq] at h ⊢
    exact ⟨⟨by omega, h.1.2⟩, h.2⟩

/-- A canonical table is canonical with no lower bound. -/
theorem Tab.wfFrom_none {d : α} {l : Option Nat} {t : Tab α} (h : Tab.wfFrom d l t = true) : Tab.wfFrom d none t = true := by
  cases t with
  | nil => rfl
  | cons e t =>
    simp only [Tab.wfFrom, Bool.and_eq_true, decide_eq_true_eq] at h ⊢
    exact ⟨⟨trivial, h.1.2⟩, h.2⟩

/-- Setting a unit above the lower bound keeps the canonical form. -/
theorem Tab.wfFrom_set {d : α} (n : Nat) (v : α) (t : Tab α) :
    ∀ lo : Option Nat, (∀ l, lo = some l → l < n) → Tab.wfFrom d lo t = true → Tab.wfFrom d lo (t.set d n v) = true := by
  induction t with
  | nil =>
    intro lo hlo _
    by_cases hv : v = d
    · simp [Tab.set, hv, Tab.wfFrom]
    · cases lo with
      | none => simp [Tab.set, hv, Tab.wfFrom]
      | some l => simp [Tab.set, hv, Tab.wfFrom, hlo l rfl]
  | cons e t ih =>
    obtain ⟨k, w⟩ := e
    intro lo hlo h
    have h' := h
    simp only [Tab.wfFrom, Bool.and_eq_true, decide_eq_true_eq] at h
    obtain ⟨⟨hk, hw⟩, ht⟩ := h
    simp only [Tab.set]
    split
    · rename_i hnk
      split
      · exact h'
      · rename_i hv
        simp only [Tab.wfFrom, Bool.and_eq_true, decide_eq_true_eq]
        refine ⟨⟨?_, hv⟩, ⟨hnk, hw⟩, ht⟩
        cases lo with
        | none => rfl
        | some l => simpa using hlo l rfl
    · split
      · rename_i hnk
        split
        · cases lo with
          | none => exact Tab.wfFrom_none ht
          | some l => exact Tab.wfFrom_mono (by have := hlo l rfl; omega) ht
        · rename_i hv
          simp only [Tab.wfFrom, Bool.and_eq_true, decide_eq_true_eq]
          subst hnk
          exact ⟨⟨hk, hv⟩, ht⟩
      · rename_i h1 h2
        simp only [Tab.wfFrom, Bool.and_eq_true, decide_eq_true_eq]
        refine ⟨⟨hk, hw⟩, ih (some k) ?_ ht⟩
        intro l hl
        cases hl
        omega

/-- Setting a unit keeps the canonical form. -/
theorem Tab.wf_set {d : α} {t : Tab α} (n : Nat) (v : α) (h : t.wf d = true) : (t.set d n v).wf d = true :=
  Tab.wfFrom_set n v t none (by simp) h

/-- Changing a unit keeps the canonical form. -/
theorem Tab.wf_mod {d : α} {t : Tab α} (n : Nat) (f : α → α) (h : t.wf d = true) : (t.mod d n f).wf d = true := Tab.wf_set n _ h

/-- The unit that was set reads the value. -/
theorem Tab.get_set_same_from {d : α} (n : Nat) (v : α) (t : Tab α) :
    ∀ lo : Option Nat, Tab.wfFrom d lo t = true → (t.set d n v).get d n = v := by
  induction t with
  | nil =>
    intro lo _
    by_cases hv : v = d <;> simp [Tab.set, hv, Tab.get]
  | cons e t ih =>
    obtain ⟨k, w⟩ := e
    intro lo h
    simp only [Tab.wfFrom, Bool.and_eq_true, decide_eq_true_eq] at h
    simp only [Tab.set]
    split
    · rename_i hnk
      split
      · rename_i hv
        simp [Tab.get, hnk, Nat.ne_of_lt hnk, hv]
      · simp [Tab.get]
    · split
      · rename_i hnk
        split
        · rename_i hv
          subst hnk
          rw [hv]
          exact Tab.get_of_le_bound h.2 (Nat.le_refl _)
        · simp [Tab.get]
      · rename_i h1 h2
        simp only [Tab.get, h1, h2, if_false]
        exact ih (some k) h.2

/-- The unit that was set reads the value. -/
theorem Tab.get_set_same {d : α} {t : Tab α} (n : Nat) (v : α) (h : t.wf d = true) : (t.set d n v).get d n = v :=
  Tab.get_set_same_from n v t none h

/-- Every other unit reads as before. -/
theorem Tab.get_set_other_from {d : α} (n m : Nat) (hm : m ≠ n) (v : α) (t : Tab α) :
    ∀ lo : Option Nat, Tab.wfFrom d lo t = true → (t.set d n v).get d m = t.get d m := by
  induction t with
  | nil =>
    intro lo _
    by_cases hv : v = d <;> simp [Tab.set, hv, Tab.get, hm]
  | cons e t ih =>
    obtain ⟨k, w⟩ := e
    intro lo h
    simp only [Tab.wfFrom, Bool.and_eq_true, decide_eq_true_eq] at h
    simp only [Tab.set]
    split
    · rename_i hnk
      split
      · rfl
      · simp only [Tab.get, hm, if_false]
        split
        · rename_i hmn
          have : m < k := by omega
          simp [this, Nat.ne_of_lt this]
        · rfl
    · split
      · rename_i hnk
        subst hnk
        split
        · simp only [Tab.get, hm, if_false]
          split
          · rename_i hlt
            exact Tab.get_of_le_bound h.2 (Nat.le_of_lt hlt)
          · rfl
        · simp [Tab.get, hm]
      · simp only [Tab.get]
        split
        · rfl
        · split
          · rfl
          · exact ih (some k) h.2

/-- Every other unit reads as before. -/
theorem Tab.get_set_other {d : α} {t : Tab α} {n m : Nat} (hm : m ≠ n) (v : α) (h : t.wf d = true) :
    (t.set d n v).get d m = t.get d m :=
  Tab.get_set_other_from n m hm v t none h

/-- The unit that was changed reads the change of what it held. -/
theorem Tab.get_mod_same {d : α} {t : Tab α} (n : Nat) (f : α → α) (h : t.wf d = true) : (t.mod d n f).get d n = f (t.get d n) :=
  Tab.get_set_same n _ h

/-- Every other unit reads as before a change. -/
theorem Tab.get_mod_other {d : α} {t : Tab α} {n m : Nat} (hm : m ≠ n) (f : α → α) (h : t.wf d = true) :
    (t.mod d n f).get d m = t.get d m :=
  Tab.get_set_other hm _ h

/-- Writing consecutive units keeps the canonical form. -/
theorem Tab.wf_setAll {d : α} (vs : List α) : ∀ (t : Tab α) (n : Nat), t.wf d = true → (t.setAll d n vs).wf d = true := by
  induction vs with
  | nil => intro t n h; exact h
  | cons v vs ih => intro t n h; exact ih _ _ (Tab.wf_set n v h)

/-- A unit outside the range written reads as before. -/
theorem Tab.get_setAll_outside {d : α} (vs : List α) :
    ∀ (t : Tab α) (n m : Nat), t.wf d = true → (m < n ∨ n + vs.length ≤ m) → (t.setAll d n vs).get d m = t.get d m := by
  induction vs with
  | nil => intro t n m _ _; rfl
  | cons v vs ih =>
    intro t n m h hm
    simp only [List.length_cons] at hm
    rw [Tab.setAll, ih _ _ _ (Tab.wf_set n v h) (by omega), Tab.get_set_other (by omega) v h]

/-- A unit inside the range written reads the value written there. -/
theorem Tab.get_setAll_inside {d : α} (vs : List α) :
    ∀ (t : Tab α) (n i : Nat), t.wf d = true → (hi : i < vs.length) → (t.setAll d n vs).get d (n + i) = vs[i] := by
  induction vs with
  | nil => intro t n i _ hi; simp at hi
  | cons v vs ih =>
    intro t n i h hi
    cases i with
    | zero =>
      rw [Tab.setAll, Tab.get_setAll_outside _ _ _ _ (Tab.wf_set n v h) (by omega)]
      simpa using Tab.get_set_same n v h
    | succ i =>
      have := ih (t.set d n v) (n + 1) i (Tab.wf_set n v h) (by simpa using hi)
      rw [Tab.setAll]
      simpa [Nat.add_assoc, Nat.add_comm 1 i] using this

/-- Reading back the range just written gives the values written. -/
theorem Tab.getAll_setAll {d : α} (vs : List α) (t : Tab α) (n : Nat) (h : t.wf d = true) :
    (t.setAll d n vs).getAll d n vs.length = vs := by
  apply List.ext_getElem
  · simp [Tab.getAll]
  · intro i h1 h2
    simp only [Tab.getAll, List.getElem_map, List.getElem_range]
    exact Tab.get_setAll_inside vs t n i h (by simpa [Tab.getAll] using h1)

/-- Filtering keeps the canonical form above a bound. -/
theorem Tab.wfFrom_filter {d : α} (p : Nat × α → Bool) (t : Tab α) :
    ∀ lo : Option Nat, Tab.wfFrom d lo t = true → Tab.wfFrom d lo (t.filter p) = true := by
  induction t with
  | nil => intro lo _; rfl
  | cons e t ih =>
    obtain ⟨k, v⟩ := e
    intro lo h
    simp only [Tab.wfFrom, Bool.and_eq_true, decide_eq_true_eq] at h
    simp only [List.filter_cons]
    split
    · simp only [Tab.wfFrom, Bool.and_eq_true, decide_eq_true_eq]
      exact ⟨h.1, ih _ h.2⟩
    · cases lo with
      | none => exact ih none (Tab.wfFrom_none h.2)
      | some l => exact ih (some l) (Tab.wfFrom_mono (Nat.le_of_lt (by simpa using h.1.1)) h.2)

/-- Filtering keeps the canonical form. -/
theorem Tab.wf_filter {d : α} {t : Tab α} (p : Nat × α → Bool) (h : t.wf d = true) : Tab.wf (t.filter p) d = true :=
  Tab.wfFrom_filter p t none h

/-- Clearing a range keeps the canonical form. -/
theorem Tab.wf_clear {d : α} {t : Tab α} (n m : Nat) (h : t.wf d = true) : (t.clear n m).wf d = true := Tab.wf_filter _ h

/-- What a table filtered by its keys reads as. -/
theorem Tab.get_filter_from {d : α} (p : Nat → Bool) (t : Tab α) :
    ∀ l, Tab.wfFrom d l t = true → ∀ k, Tab.get (t.filter fun e => p e.1) d k = if p k then t.get d k else d := by
  induction t with
  | nil => intro l _ k; cases p k <;> rfl
  | cons e t ih =>
    intro l h k
    obtain ⟨n, v⟩ := e
    simp only [Tab.wfFrom, Bool.and_eq_true] at h
    have hr := ih (some n) h.2 k
    by_cases hn : p n = true
    · rw [List.filter_cons_of_pos (by simpa using hn)]
      simp only [Tab.get]
      by_cases hk : k = n
      · simp [hk, hn]
      · by_cases hlt : k < n
        · simp [hk, hlt]
        · simp [hk, hlt, hr]
    · rw [List.filter_cons_of_neg (by simpa using hn), hr]
      simp only [Tab.get]
      by_cases hk : k = n
      · simp [hk, hn]
      · by_cases hlt : k < n
        · simp [hk, hlt, Tab.get_of_le_bound h.2 (Nat.le_of_lt hlt)]
        · simp [hk, hlt]

/-- What a range cleared reads as: the default within it, what it read before outside. -/
theorem Tab.get_clear {d : α} {t : Tab α} (n m k : Nat) (h : t.wf d = true) :
    (t.clear n m).get d k = if n ≤ k ∧ k < m then d else t.get d k := by
  rw [Tab.clear, Tab.get_filter_from (fun k => decide (k < n) || decide (m ≤ k)) t none h k]
  by_cases h1 : k < n
  · have h3 : ¬n ≤ k := by omega
    simp [h1, h3]
  · by_cases h2 : m ≤ k
    · have h3 : ¬k < m := by omega
      simp [h2, h3]
    · have h3 : n ≤ k ∧ k < m := by omega
      simp [h1, h2, h3]

end canonical

/-! ### Memories -/

theorem Memory.wf_write {m : Memory} (a : Nat) (bs : List Byte) (h : m.wf = true) : (m.write a bs).wf = true :=
  Tab.wf_setAll bs m a h

theorem Memory.read_write {m : Memory} (a : Nat) (bs : List Byte) (h : m.wf = true) : (m.write a bs).read a bs.length = bs :=
  Tab.getAll_setAll bs m a h

theorem Memory.get_write_outside {m : Memory} {a b : Nat} (bs : List Byte) (h : m.wf = true) (hb : b < a ∨ a + bs.length ≤ b) :
    Tab.get (m.write a bs) 0 b = Tab.get m 0 b :=
  Tab.get_setAll_outside bs m a b h hb

/-! ### One of two -/

@[simp] theorem Two.get_set_same (t : Two α) (i : Fin 2) (v : α) : (t.set i v).get i = v := by
  unfold Two.set Two.get; split <;> simp_all

@[simp] theorem Two.get_set_other (t : Two α) {i j : Fin 2} (h : j ≠ i) (v : α) : (t.set i v).get j = t.get j := by
  unfold Two.set Two.get
  rcases i with ⟨_ | _ | i, hi⟩ <;> rcases j with ⟨_ | _ | j, hj⟩ <;> simp_all <;> omega

end Sys2Proof
end

