-- ==== Sys2Proof/Laws/Selkan.lean ====
section
/-! SUPPORT. What taking a Selkan command does: it acts when every check passes, is refused when one fails, and waits
while the Spindle pair does not execute. -/

set_option Elab.async false

namespace Sys2Proof.Machine

variable {s : State} {k : CmdSpec} {c : Cmd} {v : Verdict} {act : State → State}

/-- A command that passes acts on the state in which it is accepted. -/
theorem selkan_passes (h : Passes s k c v) : selkan k c v act s = act (accepted s k c v) := by
  obtain ⟨⟨hb, hk, hc⟩, hm, hcut, hchk⟩ := h
  have : s.spin.claim.isNone = false := by cases h : s.spin.claim <;> simp_all
  simp [selkan, hb, hk, this, hm, takeCmd, hcut, hchk, accepted]

/-- The same, with the verdict brought to the form in which the claim states it. -/
theorem selkan_passes_of {v' : Verdict} (hv : v = v') (h : Passes s k c v') : selkan k c v act s = act (accepted s k c v') := by
  rw [hv]; exact selkan_passes h

/-- A command that a check refuses is refused with that check's status. -/
theorem selkan_refuses {r : Reject} (he : Executes s) (hm : s.muted c = false) (hcut : s.cutOff c = false)
    (hr : check s k c v = some r) :
    selkan k c v act s = ((s.take c).when (!r.early) fun s => s.readFor c v).refuse k.op c r := by
  obtain ⟨hb, hk, hc⟩ := he
  have : s.spin.claim.isNone = false := by cases h : s.spin.claim <;> simp_all
  simp [selkan, hb, hk, this, hm, takeCmd, hcut, hr]

/-- While the Spindle pair does not execute, no command is taken. -/
theorem selkan_waits (h : ¬ Executes s) : selkan k c v act s = s := by
  unfold selkan
  split
  · rfl
  · rename_i hn
    exfalso
    apply h
    simp only [Bool.or_eq_true, not_or, Bool.not_eq_true, decide_eq_true_eq] at hn
    refine ⟨hn.1.1, hn.1.2, ?_⟩
    cases h : s.spin.claim <;> simp_all

end Sys2Proof.Machine
end

