-- ==== Sys2Proof/Laws/State.lean ====
section
/-! SUPPORT. The fields of the state after each update: one lemma per field that an update leaves alone, so that no proof
unfolds a record update. -/

set_option Elab.async false

namespace Sys2Proof.Machine

/-! ### Combinators -/

/-- What every step of a `forEach` keeps, the whole keeps. -/
theorem State.forEach_keeps {α β : Type} (g : State → β) {f : α → State → State} (h : ∀ x s, g (f x s) = g s) (s : State) (xs : List α) :
    g (s.forEach xs f) = g s := by
  unfold State.forEach
  induction xs generalizing s with
  | nil => rfl
  | cons x xs ih => rw [List.foldl_cons, ih, h]

/-- A property that every step of a `forEach` keeps holds after the whole. -/
theorem State.forEach_holds {α : Type} {P : State → Prop} {f : α → State → State} (h : ∀ x s, P s → P (f x s)) {s : State} (hs : P s)
    (xs : List α) : P (s.forEach xs f) := by
  unfold State.forEach
  induction xs generalizing s with
  | nil => exact hs
  | cons x xs ih => exact ih (h x s hs)

/-- What the guarded update keeps, `when` keeps. -/
theorem State.when_keeps {β : Type} (g : State → β) {f : State → State} {s : State} (h : g (f s) = g s) (b : Bool) : g (s.when b f) = g s := by
  cases b
  · rfl
  · exact h

/-- A property that the guarded update keeps holds after `when`. -/
theorem State.when_holds {P : State → Prop} {f : State → State} {s : State} (hs : P s) (h : P s → P (f s)) (b : Bool) : P (s.when b f) := by
  cases b
  · exact hs
  · exact h hs

@[simp] theorem State.when_true (s : State) (f : State → State) : s.when true f = f s := rfl
@[simp] theorem State.when_false (s : State) (f : State → State) : s.when false f = s := rfl
@[simp] theorem State.forEach_nil {α : Type} (s : State) (f : α → State → State) : s.forEach [] f = s := rfl
@[simp] theorem State.forEach_cons {α : Type} (s : State) (x : α) (xs : List α) (f : α → State → State) :
    s.forEach (x :: xs) f = (f x s).forEach xs f := rfl

/-! ### modQueue -/

@[simp] theorem State.modQueue_time (s : State) (q : Nat) (f : QueueSt → QueueSt) : (s.modQueue q f).time = s.time := rfl
@[simp] theorem State.modQueue_obs (s : State) (q : Nat) (f : QueueSt → QueueSt) : (s.modQueue q f).obs = s.obs := rfl
@[simp] theorem State.modQueue_mems (s : State) (q : Nat) (f : QueueSt → QueueSt) : (s.modQueue q f).mems = s.mems := rfl
@[simp] theorem State.modQueue_spin (s : State) (q : Nat) (f : QueueSt → QueueSt) : (s.modQueue q f).spin = s.spin := rfl
@[simp] theorem State.modQueue_mod (s : State) (q : Nat) (f : QueueSt → QueueSt) : (s.modQueue q f).mod = s.mod := rfl
@[simp] theorem State.modQueue_conf (s : State) (q : Nat) (f : QueueSt → QueueSt) : (s.modQueue q f).conf = s.conf := rfl
@[simp] theorem State.modQueue_pow (s : State) (q : Nat) (f : QueueSt → QueueSt) : (s.modQueue q f).pow = s.pow := rfl
@[simp] theorem State.modQueue_job (s : State) (q : Nat) (f : QueueSt → QueueSt) : (s.modQueue q f).job = s.job := rfl
@[simp] theorem State.modQueue_cal (s : State) (q : Nat) (f : QueueSt → QueueSt) : (s.modQueue q f).cal = s.cal := rfl
@[simp] theorem State.modQueue_plan (s : State) (q : Nat) (f : QueueSt → QueueSt) : (s.modQueue q f).plan = s.plan := rfl
@[simp] theorem State.modQueue_sec (s : State) (q : Nat) (f : QueueSt → QueueSt) : (s.modQueue q f).sec = s.sec := rfl
@[simp] theorem State.modQueue_card (s : State) (q : Nat) (f : QueueSt → QueueSt) : (s.modQueue q f).card = s.card := rfl
@[simp] theorem State.modQueue_fuse (s : State) (q : Nat) (f : QueueSt → QueueSt) : (s.modQueue q f).fuse = s.fuse := rfl
@[simp] theorem State.modQueue_region (s : State) (q : Nat) (f : QueueSt → QueueSt) : (s.modQueue q f).region = s.region := rfl
@[simp] theorem State.modQueue_block (s : State) (q : Nat) (f : QueueSt → QueueSt) : (s.modQueue q f).block = s.block := rfl
@[simp] theorem State.modQueue_cell (s : State) (q : Nat) (f : QueueSt → QueueSt) : (s.modQueue q f).cell = s.cell := rfl
@[simp] theorem State.modQueue_guard (s : State) (q : Nat) (f : QueueSt → QueueSt) : (s.modQueue q f).guard = s.guard := rfl
@[simp] theorem State.modQueue_light (s : State) (q : Nat) (f : QueueSt → QueueSt) : (s.modQueue q f).light = s.light := rfl
@[simp] theorem State.modQueue_skein (s : State) (q : Nat) (f : QueueSt → QueueSt) : (s.modQueue q f).skein = s.skein := rfl
@[simp] theorem State.modQueue_creel (s : State) (q : Nat) (f : QueueSt → QueueSt) : (s.modQueue q f).creel = s.creel := rfl
@[simp] theorem State.modQueue_ply (s : State) (q : Nat) (f : QueueSt → QueueSt) : (s.modQueue q f).ply = s.ply := rfl
@[simp] theorem State.modQueue_memory (s : State) (q : Nat) (f : QueueSt → QueueSt) : (s.modQueue q f).memory = s.memory := rfl
@[simp] theorem State.modQueue_reel (s : State) (q : Nat) (f : QueueSt → QueueSt) : (s.modQueue q f).reel = s.reel := rfl
@[simp] theorem State.modQueue_rport (s : State) (q : Nat) (f : QueueSt → QueueSt) : (s.modQueue q f).rport = s.rport := rfl
@[simp] theorem State.modQueue_free (s : State) (q : Nat) (f : QueueSt → QueueSt) : (s.modQueue q f).free = s.free := rfl
@[simp] theorem State.modQueue_pending (s : State) (q : Nat) (f : QueueSt → QueueSt) : (s.modQueue q f).pending = s.pending := rfl

/-! ### modPort -/

@[simp] theorem State.modPort_time (s : State) (p : Port) (f : PortSt → PortSt) : (s.modPort p f).time = s.time := rfl
@[simp] theorem State.modPort_obs (s : State) (p : Port) (f : PortSt → PortSt) : (s.modPort p f).obs = s.obs := rfl
@[simp] theorem State.modPort_mems (s : State) (p : Port) (f : PortSt → PortSt) : (s.modPort p f).mems = s.mems := rfl
@[simp] theorem State.modPort_spin (s : State) (p : Port) (f : PortSt → PortSt) : (s.modPort p f).spin = s.spin := rfl
@[simp] theorem State.modPort_mod (s : State) (p : Port) (f : PortSt → PortSt) : (s.modPort p f).mod = s.mod := rfl
@[simp] theorem State.modPort_conf (s : State) (p : Port) (f : PortSt → PortSt) : (s.modPort p f).conf = s.conf := rfl
@[simp] theorem State.modPort_pow (s : State) (p : Port) (f : PortSt → PortSt) : (s.modPort p f).pow = s.pow := rfl
@[simp] theorem State.modPort_job (s : State) (p : Port) (f : PortSt → PortSt) : (s.modPort p f).job = s.job := rfl
@[simp] theorem State.modPort_cal (s : State) (p : Port) (f : PortSt → PortSt) : (s.modPort p f).cal = s.cal := rfl
@[simp] theorem State.modPort_plan (s : State) (p : Port) (f : PortSt → PortSt) : (s.modPort p f).plan = s.plan := rfl
@[simp] theorem State.modPort_sec (s : State) (p : Port) (f : PortSt → PortSt) : (s.modPort p f).sec = s.sec := rfl
@[simp] theorem State.modPort_card (s : State) (p : Port) (f : PortSt → PortSt) : (s.modPort p f).card = s.card := rfl
@[simp] theorem State.modPort_fuse (s : State) (p : Port) (f : PortSt → PortSt) : (s.modPort p f).fuse = s.fuse := rfl
@[simp] theorem State.modPort_region (s : State) (p : Port) (f : PortSt → PortSt) : (s.modPort p f).region = s.region := rfl
@[simp] theorem State.modPort_block (s : State) (p : Port) (f : PortSt → PortSt) : (s.modPort p f).block = s.block := rfl
@[simp] theorem State.modPort_cell (s : State) (p : Port) (f : PortSt → PortSt) : (s.modPort p f).cell = s.cell := rfl
@[simp] theorem State.modPort_guard (s : State) (p : Port) (f : PortSt → PortSt) : (s.modPort p f).guard = s.guard := rfl
@[simp] theorem State.modPort_light (s : State) (p : Port) (f : PortSt → PortSt) : (s.modPort p f).light = s.light := rfl
@[simp] theorem State.modPort_skein (s : State) (p : Port) (f : PortSt → PortSt) : (s.modPort p f).skein = s.skein := rfl
@[simp] theorem State.modPort_creel (s : State) (p : Port) (f : PortSt → PortSt) : (s.modPort p f).creel = s.creel := rfl
@[simp] theorem State.modPort_ply (s : State) (p : Port) (f : PortSt → PortSt) : (s.modPort p f).ply = s.ply := rfl
@[simp] theorem State.modPort_memory (s : State) (p : Port) (f : PortSt → PortSt) : (s.modPort p f).memory = s.memory := rfl
@[simp] theorem State.modPort_reel (s : State) (p : Port) (f : PortSt → PortSt) : (s.modPort p f).reel = s.reel := rfl
@[simp] theorem State.modPort_rport (s : State) (p : Port) (f : PortSt → PortSt) : (s.modPort p f).rport = s.rport := rfl
@[simp] theorem State.modPort_free (s : State) (p : Port) (f : PortSt → PortSt) : (s.modPort p f).free = s.free := rfl
@[simp] theorem State.modPort_pending (s : State) (p : Port) (f : PortSt → PortSt) : (s.modPort p f).pending = s.pending := rfl

/-! ### modReg -/

@[simp] theorem State.modReg_time (s : State) (r : Nat) (f : RegionSt → RegionSt) : (s.modReg r f).time = s.time := rfl
@[simp] theorem State.modReg_obs (s : State) (r : Nat) (f : RegionSt → RegionSt) : (s.modReg r f).obs = s.obs := rfl
@[simp] theorem State.modReg_host (s : State) (r : Nat) (f : RegionSt → RegionSt) : (s.modReg r f).host = s.host := rfl
@[simp] theorem State.modReg_mems (s : State) (r : Nat) (f : RegionSt → RegionSt) : (s.modReg r f).mems = s.mems := rfl
@[simp] theorem State.modReg_spin (s : State) (r : Nat) (f : RegionSt → RegionSt) : (s.modReg r f).spin = s.spin := rfl
@[simp] theorem State.modReg_mod (s : State) (r : Nat) (f : RegionSt → RegionSt) : (s.modReg r f).mod = s.mod := rfl
@[simp] theorem State.modReg_conf (s : State) (r : Nat) (f : RegionSt → RegionSt) : (s.modReg r f).conf = s.conf := rfl
@[simp] theorem State.modReg_pow (s : State) (r : Nat) (f : RegionSt → RegionSt) : (s.modReg r f).pow = s.pow := rfl
@[simp] theorem State.modReg_job (s : State) (r : Nat) (f : RegionSt → RegionSt) : (s.modReg r f).job = s.job := rfl
@[simp] theorem State.modReg_cal (s : State) (r : Nat) (f : RegionSt → RegionSt) : (s.modReg r f).cal = s.cal := rfl
@[simp] theorem State.modReg_plan (s : State) (r : Nat) (f : RegionSt → RegionSt) : (s.modReg r f).plan = s.plan := rfl
@[simp] theorem State.modReg_sec (s : State) (r : Nat) (f : RegionSt → RegionSt) : (s.modReg r f).sec = s.sec := rfl
@[simp] theorem State.modReg_card (s : State) (r : Nat) (f : RegionSt → RegionSt) : (s.modReg r f).card = s.card := rfl
@[simp] theorem State.modReg_fuse (s : State) (r : Nat) (f : RegionSt → RegionSt) : (s.modReg r f).fuse = s.fuse := rfl
@[simp] theorem State.modReg_block (s : State) (r : Nat) (f : RegionSt → RegionSt) : (s.modReg r f).block = s.block := rfl
@[simp] theorem State.modReg_cell (s : State) (r : Nat) (f : RegionSt → RegionSt) : (s.modReg r f).cell = s.cell := rfl
@[simp] theorem State.modReg_guard (s : State) (r : Nat) (f : RegionSt → RegionSt) : (s.modReg r f).guard = s.guard := rfl
@[simp] theorem State.modReg_light (s : State) (r : Nat) (f : RegionSt → RegionSt) : (s.modReg r f).light = s.light := rfl
@[simp] theorem State.modReg_skein (s : State) (r : Nat) (f : RegionSt → RegionSt) : (s.modReg r f).skein = s.skein := rfl
@[simp] theorem State.modReg_creel (s : State) (r : Nat) (f : RegionSt → RegionSt) : (s.modReg r f).creel = s.creel := rfl
@[simp] theorem State.modReg_ply (s : State) (r : Nat) (f : RegionSt → RegionSt) : (s.modReg r f).ply = s.ply := rfl
@[simp] theorem State.modReg_memory (s : State) (r : Nat) (f : RegionSt → RegionSt) : (s.modReg r f).memory = s.memory := rfl
@[simp] theorem State.modReg_reel (s : State) (r : Nat) (f : RegionSt → RegionSt) : (s.modReg r f).reel = s.reel := rfl
@[simp] theorem State.modReg_rport (s : State) (r : Nat) (f : RegionSt → RegionSt) : (s.modReg r f).rport = s.rport := rfl
@[simp] theorem State.modReg_free (s : State) (r : Nat) (f : RegionSt → RegionSt) : (s.modReg r f).free = s.free := rfl
@[simp] theorem State.modReg_pending (s : State) (r : Nat) (f : RegionSt → RegionSt) : (s.modReg r f).pending = s.pending := rfl

/-! ### modBlk -/

@[simp] theorem State.modBlk_time (s : State) (b : Nat) (f : BlockSt → BlockSt) : (s.modBlk b f).time = s.time := rfl
@[simp] theorem State.modBlk_obs (s : State) (b : Nat) (f : BlockSt → BlockSt) : (s.modBlk b f).obs = s.obs := rfl
@[simp] theorem State.modBlk_host (s : State) (b : Nat) (f : BlockSt → BlockSt) : (s.modBlk b f).host = s.host := rfl
@[simp] theorem State.modBlk_mems (s : State) (b : Nat) (f : BlockSt → BlockSt) : (s.modBlk b f).mems = s.mems := rfl
@[simp] theorem State.modBlk_spin (s : State) (b : Nat) (f : BlockSt → BlockSt) : (s.modBlk b f).spin = s.spin := rfl
@[simp] theorem State.modBlk_mod (s : State) (b : Nat) (f : BlockSt → BlockSt) : (s.modBlk b f).mod = s.mod := rfl
@[simp] theorem State.modBlk_conf (s : State) (b : Nat) (f : BlockSt → BlockSt) : (s.modBlk b f).conf = s.conf := rfl
@[simp] theorem State.modBlk_pow (s : State) (b : Nat) (f : BlockSt → BlockSt) : (s.modBlk b f).pow = s.pow := rfl
@[simp] theorem State.modBlk_job (s : State) (b : Nat) (f : BlockSt → BlockSt) : (s.modBlk b f).job = s.job := rfl
@[simp] theorem State.modBlk_cal (s : State) (b : Nat) (f : BlockSt → BlockSt) : (s.modBlk b f).cal = s.cal := rfl
@[simp] theorem State.modBlk_plan (s : State) (b : Nat) (f : BlockSt → BlockSt) : (s.modBlk b f).plan = s.plan := rfl
@[simp] theorem State.modBlk_sec (s : State) (b : Nat) (f : BlockSt → BlockSt) : (s.modBlk b f).sec = s.sec := rfl
@[simp] theorem State.modBlk_card (s : State) (b : Nat) (f : BlockSt → BlockSt) : (s.modBlk b f).card = s.card := rfl
@[simp] theorem State.modBlk_fuse (s : State) (b : Nat) (f : BlockSt → BlockSt) : (s.modBlk b f).fuse = s.fuse := rfl
@[simp] theorem State.modBlk_region (s : State) (b : Nat) (f : BlockSt → BlockSt) : (s.modBlk b f).region = s.region := rfl
@[simp] theorem State.modBlk_cell (s : State) (b : Nat) (f : BlockSt → BlockSt) : (s.modBlk b f).cell = s.cell := rfl
@[simp] theorem State.modBlk_guard (s : State) (b : Nat) (f : BlockSt → BlockSt) : (s.modBlk b f).guard = s.guard := rfl
@[simp] theorem State.modBlk_light (s : State) (b : Nat) (f : BlockSt → BlockSt) : (s.modBlk b f).light = s.light := rfl
@[simp] theorem State.modBlk_skein (s : State) (b : Nat) (f : BlockSt → BlockSt) : (s.modBlk b f).skein = s.skein := rfl
@[simp] theorem State.modBlk_creel (s : State) (b : Nat) (f : BlockSt → BlockSt) : (s.modBlk b f).creel = s.creel := rfl
@[simp] theorem State.modBlk_ply (s : State) (b : Nat) (f : BlockSt → BlockSt) : (s.modBlk b f).ply = s.ply := rfl
@[simp] theorem State.modBlk_memory (s : State) (b : Nat) (f : BlockSt → BlockSt) : (s.modBlk b f).memory = s.memory := rfl
@[simp] theorem State.modBlk_reel (s : State) (b : Nat) (f : BlockSt → BlockSt) : (s.modBlk b f).reel = s.reel := rfl
@[simp] theorem State.modBlk_rport (s : State) (b : Nat) (f : BlockSt → BlockSt) : (s.modBlk b f).rport = s.rport := rfl
@[simp] theorem State.modBlk_free (s : State) (b : Nat) (f : BlockSt → BlockSt) : (s.modBlk b f).free = s.free := rfl
@[simp] theorem State.modBlk_pending (s : State) (b : Nat) (f : BlockSt → BlockSt) : (s.modBlk b f).pending = s.pending := rfl

/-! ### modCel -/

@[simp] theorem State.modCel_time (s : State) (c : Nat) (f : CellSt → CellSt) : (s.modCel c f).time = s.time := rfl
@[simp] theorem State.modCel_obs (s : State) (c : Nat) (f : CellSt → CellSt) : (s.modCel c f).obs = s.obs := rfl
@[simp] theorem State.modCel_host (s : State) (c : Nat) (f : CellSt → CellSt) : (s.modCel c f).host = s.host := rfl
@[simp] theorem State.modCel_mems (s : State) (c : Nat) (f : CellSt → CellSt) : (s.modCel c f).mems = s.mems := rfl
@[simp] theorem State.modCel_spin (s : State) (c : Nat) (f : CellSt → CellSt) : (s.modCel c f).spin = s.spin := rfl
@[simp] theorem State.modCel_mod (s : State) (c : Nat) (f : CellSt → CellSt) : (s.modCel c f).mod = s.mod := rfl
@[simp] theorem State.modCel_conf (s : State) (c : Nat) (f : CellSt → CellSt) : (s.modCel c f).conf = s.conf := rfl
@[simp] theorem State.modCel_pow (s : State) (c : Nat) (f : CellSt → CellSt) : (s.modCel c f).pow = s.pow := rfl
@[simp] theorem State.modCel_job (s : State) (c : Nat) (f : CellSt → CellSt) : (s.modCel c f).job = s.job := rfl
@[simp] theorem State.modCel_cal (s : State) (c : Nat) (f : CellSt → CellSt) : (s.modCel c f).cal = s.cal := rfl
@[simp] theorem State.modCel_plan (s : State) (c : Nat) (f : CellSt → CellSt) : (s.modCel c f).plan = s.plan := rfl
@[simp] theorem State.modCel_sec (s : State) (c : Nat) (f : CellSt → CellSt) : (s.modCel c f).sec = s.sec := rfl
@[simp] theorem State.modCel_card (s : State) (c : Nat) (f : CellSt → CellSt) : (s.modCel c f).card = s.card := rfl
@[simp] theorem State.modCel_fuse (s : State) (c : Nat) (f : CellSt → CellSt) : (s.modCel c f).fuse = s.fuse := rfl
@[simp] theorem State.modCel_region (s : State) (c : Nat) (f : CellSt → CellSt) : (s.modCel c f).region = s.region := rfl
@[simp] theorem State.modCel_block (s : State) (c : Nat) (f : CellSt → CellSt) : (s.modCel c f).block = s.block := rfl
@[simp] theorem State.modCel_guard (s : State) (c : Nat) (f : CellSt → CellSt) : (s.modCel c f).guard = s.guard := rfl
@[simp] theorem State.modCel_light (s : State) (c : Nat) (f : CellSt → CellSt) : (s.modCel c f).light = s.light := rfl
@[simp] theorem State.modCel_skein (s : State) (c : Nat) (f : CellSt → CellSt) : (s.modCel c f).skein = s.skein := rfl
@[simp] theorem State.modCel_creel (s : State) (c : Nat) (f : CellSt → CellSt) : (s.modCel c f).creel = s.creel := rfl
@[simp] theorem State.modCel_ply (s : State) (c : Nat) (f : CellSt → CellSt) : (s.modCel c f).ply = s.ply := rfl
@[simp] theorem State.modCel_memory (s : State) (c : Nat) (f : CellSt → CellSt) : (s.modCel c f).memory = s.memory := rfl
@[simp] theorem State.modCel_reel (s : State) (c : Nat) (f : CellSt → CellSt) : (s.modCel c f).reel = s.reel := rfl
@[simp] theorem State.modCel_rport (s : State) (c : Nat) (f : CellSt → CellSt) : (s.modCel c f).rport = s.rport := rfl
@[simp] theorem State.modCel_free (s : State) (c : Nat) (f : CellSt → CellSt) : (s.modCel c f).free = s.free := rfl
@[simp] theorem State.modCel_pending (s : State) (c : Nat) (f : CellSt → CellSt) : (s.modCel c f).pending = s.pending := rfl

/-! ### modGuard -/

@[simp] theorem State.modGuard_time (s : State) (t : Nat) (f : Guard → Guard) : (s.modGuard t f).time = s.time := rfl
@[simp] theorem State.modGuard_obs (s : State) (t : Nat) (f : Guard → Guard) : (s.modGuard t f).obs = s.obs := rfl
@[simp] theorem State.modGuard_host (s : State) (t : Nat) (f : Guard → Guard) : (s.modGuard t f).host = s.host := rfl
@[simp] theorem State.modGuard_mems (s : State) (t : Nat) (f : Guard → Guard) : (s.modGuard t f).mems = s.mems := rfl
@[simp] theorem State.modGuard_spin (s : State) (t : Nat) (f : Guard → Guard) : (s.modGuard t f).spin = s.spin := rfl
@[simp] theorem State.modGuard_mod (s : State) (t : Nat) (f : Guard → Guard) : (s.modGuard t f).mod = s.mod := rfl
@[simp] theorem State.modGuard_conf (s : State) (t : Nat) (f : Guard → Guard) : (s.modGuard t f).conf = s.conf := rfl
@[simp] theorem State.modGuard_pow (s : State) (t : Nat) (f : Guard → Guard) : (s.modGuard t f).pow = s.pow := rfl
@[simp] theorem State.modGuard_job (s : State) (t : Nat) (f : Guard → Guard) : (s.modGuard t f).job = s.job := rfl
@[simp] theorem State.modGuard_cal (s : State) (t : Nat) (f : Guard → Guard) : (s.modGuard t f).cal = s.cal := rfl
@[simp] theorem State.modGuard_plan (s : State) (t : Nat) (f : Guard → Guard) : (s.modGuard t f).plan = s.plan := rfl
@[simp] theorem State.modGuard_sec (s : State) (t : Nat) (f : Guard → Guard) : (s.modGuard t f).sec = s.sec := rfl
@[simp] theorem State.modGuard_card (s : State) (t : Nat) (f : Guard → Guard) : (s.modGuard t f).card = s.card := rfl
@[simp] theorem State.modGuard_fuse (s : State) (t : Nat) (f : Guard → Guard) : (s.modGuard t f).fuse = s.fuse := rfl
@[simp] theorem State.modGuard_region (s : State) (t : Nat) (f : Guard → Guard) : (s.modGuard t f).region = s.region := rfl
@[simp] theorem State.modGuard_block (s : State) (t : Nat) (f : Guard → Guard) : (s.modGuard t f).block = s.block := rfl
@[simp] theorem State.modGuard_cell (s : State) (t : Nat) (f : Guard → Guard) : (s.modGuard t f).cell = s.cell := rfl
@[simp] theorem State.modGuard_light (s : State) (t : Nat) (f : Guard → Guard) : (s.modGuard t f).light = s.light := rfl
@[simp] theorem State.modGuard_skein (s : State) (t : Nat) (f : Guard → Guard) : (s.modGuard t f).skein = s.skein := rfl
@[simp] theorem State.modGuard_creel (s : State) (t : Nat) (f : Guard → Guard) : (s.modGuard t f).creel = s.creel := rfl
@[simp] theorem State.modGuard_ply (s : State) (t : Nat) (f : Guard → Guard) : (s.modGuard t f).ply = s.ply := rfl
@[simp] theorem State.modGuard_memory (s : State) (t : Nat) (f : Guard → Guard) : (s.modGuard t f).memory = s.memory := rfl
@[simp] theorem State.modGuard_reel (s : State) (t : Nat) (f : Guard → Guard) : (s.modGuard t f).reel = s.reel := rfl
@[simp] theorem State.modGuard_rport (s : State) (t : Nat) (f : Guard → Guard) : (s.modGuard t f).rport = s.rport := rfl
@[simp] theorem State.modGuard_free (s : State) (t : Nat) (f : Guard → Guard) : (s.modGuard t f).free = s.free := rfl
@[simp] theorem State.modGuard_pending (s : State) (t : Nat) (f : Guard → Guard) : (s.modGuard t f).pending = s.pending := rfl

/-! ### modDie -/

@[simp] theorem State.modDie_time (s : State) (d : Nat) (f : Die → Die) : (s.modDie d f).time = s.time := rfl
@[simp] theorem State.modDie_obs (s : State) (d : Nat) (f : Die → Die) : (s.modDie d f).obs = s.obs := rfl
@[simp] theorem State.modDie_host (s : State) (d : Nat) (f : Die → Die) : (s.modDie d f).host = s.host := rfl
@[simp] theorem State.modDie_mems (s : State) (d : Nat) (f : Die → Die) : (s.modDie d f).mems = s.mems := rfl
@[simp] theorem State.modDie_spin (s : State) (d : Nat) (f : Die → Die) : (s.modDie d f).spin = s.spin := rfl
@[simp] theorem State.modDie_mod (s : State) (d : Nat) (f : Die → Die) : (s.modDie d f).mod = s.mod := rfl
@[simp] theorem State.modDie_conf (s : State) (d : Nat) (f : Die → Die) : (s.modDie d f).conf = s.conf := rfl
@[simp] theorem State.modDie_job (s : State) (d : Nat) (f : Die → Die) : (s.modDie d f).job = s.job := rfl
@[simp] theorem State.modDie_cal (s : State) (d : Nat) (f : Die → Die) : (s.modDie d f).cal = s.cal := rfl
@[simp] theorem State.modDie_plan (s : State) (d : Nat) (f : Die → Die) : (s.modDie d f).plan = s.plan := rfl
@[simp] theorem State.modDie_sec (s : State) (d : Nat) (f : Die → Die) : (s.modDie d f).sec = s.sec := rfl
@[simp] theorem State.modDie_card (s : State) (d : Nat) (f : Die → Die) : (s.modDie d f).card = s.card := rfl
@[simp] theorem State.modDie_fuse (s : State) (d : Nat) (f : Die → Die) : (s.modDie d f).fuse = s.fuse := rfl
@[simp] theorem State.modDie_region (s : State) (d : Nat) (f : Die → Die) : (s.modDie d f).region = s.region := rfl
@[simp] theorem State.modDie_block (s : State) (d : Nat) (f : Die → Die) : (s.modDie d f).block = s.block := rfl
@[simp] theorem State.modDie_cell (s : State) (d : Nat) (f : Die → Die) : (s.modDie d f).cell = s.cell := rfl
@[simp] theorem State.modDie_guard (s : State) (d : Nat) (f : Die → Die) : (s.modDie d f).guard = s.guard := rfl
@[simp] theorem State.modDie_light (s : State) (d : Nat) (f : Die → Die) : (s.modDie d f).light = s.light := rfl
@[simp] theorem State.modDie_skein (s : State) (d : Nat) (f : Die → Die) : (s.modDie d f).skein = s.skein := rfl
@[simp] theorem State.modDie_creel (s : State) (d : Nat) (f : Die → Die) : (s.modDie d f).creel = s.creel := rfl
@[simp] theorem State.modDie_ply (s : State) (d : Nat) (f : Die → Die) : (s.modDie d f).ply = s.ply := rfl
@[simp] theorem State.modDie_memory (s : State) (d : Nat) (f : Die → Die) : (s.modDie d f).memory = s.memory := rfl
@[simp] theorem State.modDie_reel (s : State) (d : Nat) (f : Die → Die) : (s.modDie d f).reel = s.reel := rfl
@[simp] theorem State.modDie_rport (s : State) (d : Nat) (f : Die → Die) : (s.modDie d f).rport = s.rport := rfl
@[simp] theorem State.modDie_free (s : State) (d : Nat) (f : Die → Die) : (s.modDie d f).free = s.free := rfl
@[simp] theorem State.modDie_pending (s : State) (d : Nat) (f : Die → Die) : (s.modDie d f).pending = s.pending := rfl

/-! ### fresh -/

@[simp] theorem State.fresh_time (s : State) : (s.fresh).time = s.time := rfl
@[simp] theorem State.fresh_obs (s : State) : (s.fresh).obs = s.obs := rfl
@[simp] theorem State.fresh_host (s : State) : (s.fresh).host = s.host := rfl
@[simp] theorem State.fresh_mems (s : State) : (s.fresh).mems = s.mems := rfl
@[simp] theorem State.fresh_spin (s : State) : (s.fresh).spin = s.spin := rfl
@[simp] theorem State.fresh_mod (s : State) : (s.fresh).mod = s.mod := rfl
@[simp] theorem State.fresh_conf (s : State) : (s.fresh).conf = s.conf := rfl
@[simp] theorem State.fresh_pow (s : State) : (s.fresh).pow = s.pow := rfl
@[simp] theorem State.fresh_job (s : State) : (s.fresh).job = s.job := rfl
@[simp] theorem State.fresh_cal (s : State) : (s.fresh).cal = s.cal := rfl
@[simp] theorem State.fresh_plan (s : State) : (s.fresh).plan = s.plan := rfl
@[simp] theorem State.fresh_sec (s : State) : (s.fresh).sec = s.sec := rfl
@[simp] theorem State.fresh_card (s : State) : (s.fresh).card = s.card := rfl
@[simp] theorem State.fresh_fuse (s : State) : (s.fresh).fuse = s.fuse := rfl
@[simp] theorem State.fresh_region (s : State) : (s.fresh).region = s.region := rfl
@[simp] theorem State.fresh_block (s : State) : (s.fresh).block = s.block := rfl
@[simp] theorem State.fresh_cell (s : State) : (s.fresh).cell = s.cell := rfl
@[simp] theorem State.fresh_guard (s : State) : (s.fresh).guard = s.guard := rfl
@[simp] theorem State.fresh_light (s : State) : (s.fresh).light = s.light := rfl
@[simp] theorem State.fresh_skein (s : State) : (s.fresh).skein = s.skein := rfl
@[simp] theorem State.fresh_creel (s : State) : (s.fresh).creel = s.creel := rfl
@[simp] theorem State.fresh_ply (s : State) : (s.fresh).ply = s.ply := rfl
@[simp] theorem State.fresh_memory (s : State) : (s.fresh).memory = s.memory := rfl
@[simp] theorem State.fresh_reel (s : State) : (s.fresh).reel = s.reel := rfl
@[simp] theorem State.fresh_rport (s : State) : (s.fresh).rport = s.rport := rfl
@[simp] theorem State.fresh_pending (s : State) : (s.fresh).pending = s.pending := rfl

/-! ### fire -/

@[simp] theorem State.fire_time (s : State) (src : Nat) (code : Nat) (index : Nat) (value : Nat) : (s.fire src code index value).time = s.time := rfl
@[simp] theorem State.fire_host (s : State) (src : Nat) (code : Nat) (index : Nat) (value : Nat) : (s.fire src code index value).host = s.host := rfl
@[simp] theorem State.fire_mems (s : State) (src : Nat) (code : Nat) (index : Nat) (value : Nat) : (s.fire src code index value).mems = s.mems := rfl
@[simp] theorem State.fire_spin (s : State) (src : Nat) (code : Nat) (index : Nat) (value : Nat) : (s.fire src code index value).spin = s.spin := rfl
@[simp] theorem State.fire_mod (s : State) (src : Nat) (code : Nat) (index : Nat) (value : Nat) : (s.fire src code index value).mod = s.mod := rfl
@[simp] theorem State.fire_conf (s : State) (src : Nat) (code : Nat) (index : Nat) (value : Nat) : (s.fire src code index value).conf = s.conf := rfl
@[simp] theorem State.fire_pow (s : State) (src : Nat) (code : Nat) (index : Nat) (value : Nat) : (s.fire src code index value).pow = s.pow := rfl
@[simp] theorem State.fire_job (s : State) (src : Nat) (code : Nat) (index : Nat) (value : Nat) : (s.fire src code index value).job = s.job := rfl
@[simp] theorem State.fire_cal (s : State) (src : Nat) (code : Nat) (index : Nat) (value : Nat) : (s.fire src code index value).cal = s.cal := rfl
@[simp] theorem State.fire_plan (s : State) (src : Nat) (code : Nat) (index : Nat) (value : Nat) : (s.fire src code index value).plan = s.plan := rfl
@[simp] theorem State.fire_sec (s : State) (src : Nat) (code : Nat) (index : Nat) (value : Nat) : (s.fire src code index value).sec = s.sec := rfl
@[simp] theorem State.fire_card (s : State) (src : Nat) (code : Nat) (index : Nat) (value : Nat) : (s.fire src code index value).card = s.card := rfl
@[simp] theorem State.fire_fuse (s : State) (src : Nat) (code : Nat) (index : Nat) (value : Nat) : (s.fire src code index value).fuse = s.fuse := rfl
@[simp] theorem State.fire_region (s : State) (src : Nat) (code : Nat) (index : Nat) (value : Nat) : (s.fire src code index value).region = s.region := rfl
@[simp] theorem State.fire_block (s : State) (src : Nat) (code : Nat) (index : Nat) (value : Nat) : (s.fire src code index value).block = s.block := rfl
@[simp] theorem State.fire_cell (s : State) (src : Nat) (code : Nat) (index : Nat) (value : Nat) : (s.fire src code index value).cell = s.cell := rfl
@[simp] theorem State.fire_guard (s : State) (src : Nat) (code : Nat) (index : Nat) (value : Nat) : (s.fire src code index value).guard = s.guard := rfl
@[simp] theorem State.fire_light (s : State) (src : Nat) (code : Nat) (index : Nat) (value : Nat) : (s.fire src code index value).light = s.light := rfl
@[simp] theorem State.fire_skein (s : State) (src : Nat) (code : Nat) (index : Nat) (value : Nat) : (s.fire src code index value).skein = s.skein := rfl
@[simp] theorem State.fire_creel (s : State) (src : Nat) (code : Nat) (index : Nat) (value : Nat) : (s.fire src code index value).creel = s.creel := rfl
@[simp] theorem State.fire_ply (s : State) (src : Nat) (code : Nat) (index : Nat) (value : Nat) : (s.fire src code index value).ply = s.ply := rfl
@[simp] theorem State.fire_memory (s : State) (src : Nat) (code : Nat) (index : Nat) (value : Nat) : (s.fire src code index value).memory = s.memory := rfl
@[simp] theorem State.fire_reel (s : State) (src : Nat) (code : Nat) (index : Nat) (value : Nat) : (s.fire src code index value).reel = s.reel := rfl
@[simp] theorem State.fire_rport (s : State) (src : Nat) (code : Nat) (index : Nat) (value : Nat) : (s.fire src code index value).rport = s.rport := rfl
@[simp] theorem State.fire_free (s : State) (src : Nat) (code : Nat) (index : Nat) (value : Nat) : (s.fire src code index value).free = s.free := rfl
@[simp] theorem State.fire_pending (s : State) (src : Nat) (code : Nat) (index : Nat) (value : Nat) : (s.fire src code index value).pending = s.pending := rfl

/-! ### bump -/

@[simp] theorem State.bump_time (s : State) (k : Ctr) (i : Nat) (n : Nat) : (s.bump k i n).time = s.time := rfl
@[simp] theorem State.bump_host (s : State) (k : Ctr) (i : Nat) (n : Nat) : (s.bump k i n).host = s.host := rfl
@[simp] theorem State.bump_mems (s : State) (k : Ctr) (i : Nat) (n : Nat) : (s.bump k i n).mems = s.mems := rfl
@[simp] theorem State.bump_spin (s : State) (k : Ctr) (i : Nat) (n : Nat) : (s.bump k i n).spin = s.spin := rfl
@[simp] theorem State.bump_mod (s : State) (k : Ctr) (i : Nat) (n : Nat) : (s.bump k i n).mod = s.mod := rfl
@[simp] theorem State.bump_conf (s : State) (k : Ctr) (i : Nat) (n : Nat) : (s.bump k i n).conf = s.conf := rfl
@[simp] theorem State.bump_pow (s : State) (k : Ctr) (i : Nat) (n : Nat) : (s.bump k i n).pow = s.pow := rfl
@[simp] theorem State.bump_job (s : State) (k : Ctr) (i : Nat) (n : Nat) : (s.bump k i n).job = s.job := rfl
@[simp] theorem State.bump_cal (s : State) (k : Ctr) (i : Nat) (n : Nat) : (s.bump k i n).cal = s.cal := rfl
@[simp] theorem State.bump_plan (s : State) (k : Ctr) (i : Nat) (n : Nat) : (s.bump k i n).plan = s.plan := rfl
@[simp] theorem State.bump_sec (s : State) (k : Ctr) (i : Nat) (n : Nat) : (s.bump k i n).sec = s.sec := rfl
@[simp] theorem State.bump_card (s : State) (k : Ctr) (i : Nat) (n : Nat) : (s.bump k i n).card = s.card := rfl
@[simp] theorem State.bump_fuse (s : State) (k : Ctr) (i : Nat) (n : Nat) : (s.bump k i n).fuse = s.fuse := rfl
@[simp] theorem State.bump_region (s : State) (k : Ctr) (i : Nat) (n : Nat) : (s.bump k i n).region = s.region := rfl
@[simp] theorem State.bump_block (s : State) (k : Ctr) (i : Nat) (n : Nat) : (s.bump k i n).block = s.block := rfl
@[simp] theorem State.bump_cell (s : State) (k : Ctr) (i : Nat) (n : Nat) : (s.bump k i n).cell = s.cell := rfl
@[simp] theorem State.bump_guard (s : State) (k : Ctr) (i : Nat) (n : Nat) : (s.bump k i n).guard = s.guard := rfl
@[simp] theorem State.bump_light (s : State) (k : Ctr) (i : Nat) (n : Nat) : (s.bump k i n).light = s.light := rfl
@[simp] theorem State.bump_skein (s : State) (k : Ctr) (i : Nat) (n : Nat) : (s.bump k i n).skein = s.skein := rfl
@[simp] theorem State.bump_creel (s : State) (k : Ctr) (i : Nat) (n : Nat) : (s.bump k i n).creel = s.creel := rfl
@[simp] theorem State.bump_ply (s : State) (k : Ctr) (i : Nat) (n : Nat) : (s.bump k i n).ply = s.ply := rfl
@[simp] theorem State.bump_memory (s : State) (k : Ctr) (i : Nat) (n : Nat) : (s.bump k i n).memory = s.memory := rfl
@[simp] theorem State.bump_reel (s : State) (k : Ctr) (i : Nat) (n : Nat) : (s.bump k i n).reel = s.reel := rfl
@[simp] theorem State.bump_rport (s : State) (k : Ctr) (i : Nat) (n : Nat) : (s.bump k i n).rport = s.rport := rfl
@[simp] theorem State.bump_free (s : State) (k : Ctr) (i : Nat) (n : Nat) : (s.bump k i n).free = s.free := rfl
@[simp] theorem State.bump_pending (s : State) (k : Ctr) (i : Nat) (n : Nat) : (s.bump k i n).pending = s.pending := rfl

/-! ### makeRec -/

@[simp] theorem State.makeRec_time (s : State) (r : Rec) : (s.makeRec r).time = s.time := rfl
@[simp] theorem State.makeRec_host (s : State) (r : Rec) : (s.makeRec r).host = s.host := rfl
@[simp] theorem State.makeRec_mems (s : State) (r : Rec) : (s.makeRec r).mems = s.mems := rfl
@[simp] theorem State.makeRec_spin (s : State) (r : Rec) : (s.makeRec r).spin = s.spin := rfl
@[simp] theorem State.makeRec_mod (s : State) (r : Rec) : (s.makeRec r).mod = s.mod := rfl
@[simp] theorem State.makeRec_conf (s : State) (r : Rec) : (s.makeRec r).conf = s.conf := rfl
@[simp] theorem State.makeRec_pow (s : State) (r : Rec) : (s.makeRec r).pow = s.pow := rfl
@[simp] theorem State.makeRec_job (s : State) (r : Rec) : (s.makeRec r).job = s.job := rfl
@[simp] theorem State.makeRec_cal (s : State) (r : Rec) : (s.makeRec r).cal = s.cal := rfl
@[simp] theorem State.makeRec_plan (s : State) (r : Rec) : (s.makeRec r).plan = s.plan := rfl
@[simp] theorem State.makeRec_sec (s : State) (r : Rec) : (s.makeRec r).sec = s.sec := rfl
@[simp] theorem State.makeRec_card (s : State) (r : Rec) : (s.makeRec r).card = s.card := rfl
@[simp] theorem State.makeRec_fuse (s : State) (r : Rec) : (s.makeRec r).fuse = s.fuse := rfl
@[simp] theorem State.makeRec_region (s : State) (r : Rec) : (s.makeRec r).region = s.region := rfl
@[simp] theorem State.makeRec_block (s : State) (r : Rec) : (s.makeRec r).block = s.block := rfl
@[simp] theorem State.makeRec_cell (s : State) (r : Rec) : (s.makeRec r).cell = s.cell := rfl
@[simp] theorem State.makeRec_guard (s : State) (r : Rec) : (s.makeRec r).guard = s.guard := rfl
@[simp] theorem State.makeRec_light (s : State) (r : Rec) : (s.makeRec r).light = s.light := rfl
@[simp] theorem State.makeRec_skein (s : State) (r : Rec) : (s.makeRec r).skein = s.skein := rfl
@[simp] theorem State.makeRec_creel (s : State) (r : Rec) : (s.makeRec r).creel = s.creel := rfl
@[simp] theorem State.makeRec_ply (s : State) (r : Rec) : (s.makeRec r).ply = s.ply := rfl
@[simp] theorem State.makeRec_memory (s : State) (r : Rec) : (s.makeRec r).memory = s.memory := rfl
@[simp] theorem State.makeRec_reel (s : State) (r : Rec) : (s.makeRec r).reel = s.reel := rfl
@[simp] theorem State.makeRec_rport (s : State) (r : Rec) : (s.makeRec r).rport = s.rport := rfl
@[simp] theorem State.makeRec_free (s : State) (r : Rec) : (s.makeRec r).free = s.free := rfl
@[simp] theorem State.makeRec_pending (s : State) (r : Rec) : (s.makeRec r).pending = s.pending := rfl

/-! ### flushRecs -/

@[simp] theorem State.flushRecs_time (s : State) : (s.flushRecs).time = s.time := rfl
@[simp] theorem State.flushRecs_host (s : State) : (s.flushRecs).host = s.host := rfl
@[simp] theorem State.flushRecs_mems (s : State) : (s.flushRecs).mems = s.mems := rfl
@[simp] theorem State.flushRecs_spin (s : State) : (s.flushRecs).spin = s.spin := rfl
@[simp] theorem State.flushRecs_mod (s : State) : (s.flushRecs).mod = s.mod := rfl
@[simp] theorem State.flushRecs_conf (s : State) : (s.flushRecs).conf = s.conf := rfl
@[simp] theorem State.flushRecs_pow (s : State) : (s.flushRecs).pow = s.pow := rfl
@[simp] theorem State.flushRecs_job (s : State) : (s.flushRecs).job = s.job := rfl
@[simp] theorem State.flushRecs_cal (s : State) : (s.flushRecs).cal = s.cal := rfl
@[simp] theorem State.flushRecs_plan (s : State) : (s.flushRecs).plan = s.plan := rfl
@[simp] theorem State.flushRecs_sec (s : State) : (s.flushRecs).sec = s.sec := rfl
@[simp] theorem State.flushRecs_card (s : State) : (s.flushRecs).card = s.card := rfl
@[simp] theorem State.flushRecs_fuse (s : State) : (s.flushRecs).fuse = s.fuse := rfl
@[simp] theorem State.flushRecs_region (s : State) : (s.flushRecs).region = s.region := rfl
@[simp] theorem State.flushRecs_block (s : State) : (s.flushRecs).block = s.block := rfl
@[simp] theorem State.flushRecs_cell (s : State) : (s.flushRecs).cell = s.cell := rfl
@[simp] theorem State.flushRecs_guard (s : State) : (s.flushRecs).guard = s.guard := rfl
@[simp] theorem State.flushRecs_light (s : State) : (s.flushRecs).light = s.light := rfl
@[simp] theorem State.flushRecs_skein (s : State) : (s.flushRecs).skein = s.skein := rfl
@[simp] theorem State.flushRecs_creel (s : State) : (s.flushRecs).creel = s.creel := rfl
@[simp] theorem State.flushRecs_ply (s : State) : (s.flushRecs).ply = s.ply := rfl
@[simp] theorem State.flushRecs_memory (s : State) : (s.flushRecs).memory = s.memory := rfl
@[simp] theorem State.flushRecs_reel (s : State) : (s.flushRecs).reel = s.reel := rfl
@[simp] theorem State.flushRecs_rport (s : State) : (s.flushRecs).rport = s.rport := rfl
@[simp] theorem State.flushRecs_free (s : State) : (s.flushRecs).free = s.free := rfl
@[simp] theorem State.flushRecs_pending (s : State) : (s.flushRecs).pending = s.pending := rfl

/-! ### modStk -/

@[simp] theorem State.modStk_time (s : State) (k : Nat) (f : StackSt → StackSt) : (s.modStk k f).time = s.time := rfl
@[simp] theorem State.modStk_obs (s : State) (k : Nat) (f : StackSt → StackSt) : (s.modStk k f).obs = s.obs := rfl
@[simp] theorem State.modStk_host (s : State) (k : Nat) (f : StackSt → StackSt) : (s.modStk k f).host = s.host := rfl
@[simp] theorem State.modStk_mems (s : State) (k : Nat) (f : StackSt → StackSt) : (s.modStk k f).mems = s.mems := rfl
@[simp] theorem State.modStk_spin (s : State) (k : Nat) (f : StackSt → StackSt) : (s.modStk k f).spin = s.spin := rfl
@[simp] theorem State.modStk_mod (s : State) (k : Nat) (f : StackSt → StackSt) : (s.modStk k f).mod = s.mod := rfl
@[simp] theorem State.modStk_conf (s : State) (k : Nat) (f : StackSt → StackSt) : (s.modStk k f).conf = s.conf := rfl
@[simp] theorem State.modStk_pow (s : State) (k : Nat) (f : StackSt → StackSt) : (s.modStk k f).pow = s.pow := rfl
@[simp] theorem State.modStk_job (s : State) (k : Nat) (f : StackSt → StackSt) : (s.modStk k f).job = s.job := rfl
@[simp] theorem State.modStk_cal (s : State) (k : Nat) (f : StackSt → StackSt) : (s.modStk k f).cal = s.cal := rfl
@[simp] theorem State.modStk_plan (s : State) (k : Nat) (f : StackSt → StackSt) : (s.modStk k f).plan = s.plan := rfl
@[simp] theorem State.modStk_sec (s : State) (k : Nat) (f : StackSt → StackSt) : (s.modStk k f).sec = s.sec := rfl
@[simp] theorem State.modStk_card (s : State) (k : Nat) (f : StackSt → StackSt) : (s.modStk k f).card = s.card := rfl
@[simp] theorem State.modStk_fuse (s : State) (k : Nat) (f : StackSt → StackSt) : (s.modStk k f).fuse = s.fuse := rfl
@[simp] theorem State.modStk_region (s : State) (k : Nat) (f : StackSt → StackSt) : (s.modStk k f).region = s.region := rfl
@[simp] theorem State.modStk_block (s : State) (k : Nat) (f : StackSt → StackSt) : (s.modStk k f).block = s.block := rfl
@[simp] theorem State.modStk_cell (s : State) (k : Nat) (f : StackSt → StackSt) : (s.modStk k f).cell = s.cell := rfl
@[simp] theorem State.modStk_guard (s : State) (k : Nat) (f : StackSt → StackSt) : (s.modStk k f).guard = s.guard := rfl
@[simp] theorem State.modStk_light (s : State) (k : Nat) (f : StackSt → StackSt) : (s.modStk k f).light = s.light := rfl
@[simp] theorem State.modStk_skein (s : State) (k : Nat) (f : StackSt → StackSt) : (s.modStk k f).skein = s.skein := rfl
@[simp] theorem State.modStk_creel (s : State) (k : Nat) (f : StackSt → StackSt) : (s.modStk k f).creel = s.creel := rfl
@[simp] theorem State.modStk_ply (s : State) (k : Nat) (f : StackSt → StackSt) : (s.modStk k f).ply = s.ply := rfl
@[simp] theorem State.modStk_reel (s : State) (k : Nat) (f : StackSt → StackSt) : (s.modStk k f).reel = s.reel := rfl
@[simp] theorem State.modStk_rport (s : State) (k : Nat) (f : StackSt → StackSt) : (s.modStk k f).rport = s.rport := rfl
@[simp] theorem State.modStk_free (s : State) (k : Nat) (f : StackSt → StackSt) : (s.modStk k f).free = s.free := rfl
@[simp] theorem State.modStk_pending (s : State) (k : Nat) (f : StackSt → StackSt) : (s.modStk k f).pending = s.pending := rfl

/-! ### modRing -/

@[simp] theorem State.modRing_time (s : State) (n : Nat) (f : RingSt → RingSt) : (s.modRing n f).time = s.time := rfl
@[simp] theorem State.modRing_obs (s : State) (n : Nat) (f : RingSt → RingSt) : (s.modRing n f).obs = s.obs := rfl
@[simp] theorem State.modRing_host (s : State) (n : Nat) (f : RingSt → RingSt) : (s.modRing n f).host = s.host := rfl
@[simp] theorem State.modRing_mems (s : State) (n : Nat) (f : RingSt → RingSt) : (s.modRing n f).mems = s.mems := rfl
@[simp] theorem State.modRing_spin (s : State) (n : Nat) (f : RingSt → RingSt) : (s.modRing n f).spin = s.spin := rfl
@[simp] theorem State.modRing_mod (s : State) (n : Nat) (f : RingSt → RingSt) : (s.modRing n f).mod = s.mod := rfl
@[simp] theorem State.modRing_conf (s : State) (n : Nat) (f : RingSt → RingSt) : (s.modRing n f).conf = s.conf := rfl
@[simp] theorem State.modRing_pow (s : State) (n : Nat) (f : RingSt → RingSt) : (s.modRing n f).pow = s.pow := rfl
@[simp] theorem State.modRing_job (s : State) (n : Nat) (f : RingSt → RingSt) : (s.modRing n f).job = s.job := rfl
@[simp] theorem State.modRing_cal (s : State) (n : Nat) (f : RingSt → RingSt) : (s.modRing n f).cal = s.cal := rfl
@[simp] theorem State.modRing_plan (s : State) (n : Nat) (f : RingSt → RingSt) : (s.modRing n f).plan = s.plan := rfl
@[simp] theorem State.modRing_sec (s : State) (n : Nat) (f : RingSt → RingSt) : (s.modRing n f).sec = s.sec := rfl
@[simp] theorem State.modRing_card (s : State) (n : Nat) (f : RingSt → RingSt) : (s.modRing n f).card = s.card := rfl
@[simp] theorem State.modRing_fuse (s : State) (n : Nat) (f : RingSt → RingSt) : (s.modRing n f).fuse = s.fuse := rfl
@[simp] theorem State.modRing_region (s : State) (n : Nat) (f : RingSt → RingSt) : (s.modRing n f).region = s.region := rfl
@[simp] theorem State.modRing_block (s : State) (n : Nat) (f : RingSt → RingSt) : (s.modRing n f).block = s.block := rfl
@[simp] theorem State.modRing_cell (s : State) (n : Nat) (f : RingSt → RingSt) : (s.modRing n f).cell = s.cell := rfl
@[simp] theorem State.modRing_guard (s : State) (n : Nat) (f : RingSt → RingSt) : (s.modRing n f).guard = s.guard := rfl
@[simp] theorem State.modRing_light (s : State) (n : Nat) (f : RingSt → RingSt) : (s.modRing n f).light = s.light := rfl
@[simp] theorem State.modRing_creel (s : State) (n : Nat) (f : RingSt → RingSt) : (s.modRing n f).creel = s.creel := rfl
@[simp] theorem State.modRing_ply (s : State) (n : Nat) (f : RingSt → RingSt) : (s.modRing n f).ply = s.ply := rfl
@[simp] theorem State.modRing_memory (s : State) (n : Nat) (f : RingSt → RingSt) : (s.modRing n f).memory = s.memory := rfl
@[simp] theorem State.modRing_reel (s : State) (n : Nat) (f : RingSt → RingSt) : (s.modRing n f).reel = s.reel := rfl
@[simp] theorem State.modRing_rport (s : State) (n : Nat) (f : RingSt → RingSt) : (s.modRing n f).rport = s.rport := rfl
@[simp] theorem State.modRing_free (s : State) (n : Nat) (f : RingSt → RingSt) : (s.modRing n f).free = s.free := rfl
@[simp] theorem State.modRing_pending (s : State) (n : Nat) (f : RingSt → RingSt) : (s.modRing n f).pending = s.pending := rfl

/-! ### modSnd -/

@[simp] theorem State.modSnd_time (s : State) (id : BitVec 32) (f : Sender → Sender) : (s.modSnd id f).time = s.time := rfl
@[simp] theorem State.modSnd_obs (s : State) (id : BitVec 32) (f : Sender → Sender) : (s.modSnd id f).obs = s.obs := rfl
@[simp] theorem State.modSnd_host (s : State) (id : BitVec 32) (f : Sender → Sender) : (s.modSnd id f).host = s.host := rfl
@[simp] theorem State.modSnd_mems (s : State) (id : BitVec 32) (f : Sender → Sender) : (s.modSnd id f).mems = s.mems := rfl
@[simp] theorem State.modSnd_spin (s : State) (id : BitVec 32) (f : Sender → Sender) : (s.modSnd id f).spin = s.spin := rfl
@[simp] theorem State.modSnd_mod (s : State) (id : BitVec 32) (f : Sender → Sender) : (s.modSnd id f).mod = s.mod := rfl
@[simp] theorem State.modSnd_conf (s : State) (id : BitVec 32) (f : Sender → Sender) : (s.modSnd id f).conf = s.conf := rfl
@[simp] theorem State.modSnd_pow (s : State) (id : BitVec 32) (f : Sender → Sender) : (s.modSnd id f).pow = s.pow := rfl
@[simp] theorem State.modSnd_job (s : State) (id : BitVec 32) (f : Sender → Sender) : (s.modSnd id f).job = s.job := rfl
@[simp] theorem State.modSnd_cal (s : State) (id : BitVec 32) (f : Sender → Sender) : (s.modSnd id f).cal = s.cal := rfl
@[simp] theorem State.modSnd_plan (s : State) (id : BitVec 32) (f : Sender → Sender) : (s.modSnd id f).plan = s.plan := rfl
@[simp] theorem State.modSnd_sec (s : State) (id : BitVec 32) (f : Sender → Sender) : (s.modSnd id f).sec = s.sec := rfl
@[simp] theorem State.modSnd_card (s : State) (id : BitVec 32) (f : Sender → Sender) : (s.modSnd id f).card = s.card := rfl
@[simp] theorem State.modSnd_fuse (s : State) (id : BitVec 32) (f : Sender → Sender) : (s.modSnd id f).fuse = s.fuse := rfl
@[simp] theorem State.modSnd_region (s : State) (id : BitVec 32) (f : Sender → Sender) : (s.modSnd id f).region = s.region := rfl
@[simp] theorem State.modSnd_block (s : State) (id : BitVec 32) (f : Sender → Sender) : (s.modSnd id f).block = s.block := rfl
@[simp] theorem State.modSnd_cell (s : State) (id : BitVec 32) (f : Sender → Sender) : (s.modSnd id f).cell = s.cell := rfl
@[simp] theorem State.modSnd_guard (s : State) (id : BitVec 32) (f : Sender → Sender) : (s.modSnd id f).guard = s.guard := rfl
@[simp] theorem State.modSnd_light (s : State) (id : BitVec 32) (f : Sender → Sender) : (s.modSnd id f).light = s.light := rfl
@[simp] theorem State.modSnd_creel (s : State) (id : BitVec 32) (f : Sender → Sender) : (s.modSnd id f).creel = s.creel := rfl
@[simp] theorem State.modSnd_ply (s : State) (id : BitVec 32) (f : Sender → Sender) : (s.modSnd id f).ply = s.ply := rfl
@[simp] theorem State.modSnd_memory (s : State) (id : BitVec 32) (f : Sender → Sender) : (s.modSnd id f).memory = s.memory := rfl
@[simp] theorem State.modSnd_reel (s : State) (id : BitVec 32) (f : Sender → Sender) : (s.modSnd id f).reel = s.reel := rfl
@[simp] theorem State.modSnd_rport (s : State) (id : BitVec 32) (f : Sender → Sender) : (s.modSnd id f).rport = s.rport := rfl
@[simp] theorem State.modSnd_free (s : State) (id : BitVec 32) (f : Sender → Sender) : (s.modSnd id f).free = s.free := rfl
@[simp] theorem State.modSnd_pending (s : State) (id : BitVec 32) (f : Sender → Sender) : (s.modSnd id f).pending = s.pending := rfl

/-! ### take -/

@[simp] theorem State.take_time (s : State) (c : Cmd) : (s.take c).time = s.time := rfl
@[simp] theorem State.take_obs (s : State) (c : Cmd) : (s.take c).obs = s.obs := rfl
@[simp] theorem State.take_host (s : State) (c : Cmd) : (s.take c).host = s.host := rfl
@[simp] theorem State.take_mems (s : State) (c : Cmd) : (s.take c).mems = s.mems := rfl
@[simp] theorem State.take_mod (s : State) (c : Cmd) : (s.take c).mod = s.mod := rfl
@[simp] theorem State.take_conf (s : State) (c : Cmd) : (s.take c).conf = s.conf := rfl
@[simp] theorem State.take_pow (s : State) (c : Cmd) : (s.take c).pow = s.pow := rfl
@[simp] theorem State.take_job (s : State) (c : Cmd) : (s.take c).job = s.job := rfl
@[simp] theorem State.take_cal (s : State) (c : Cmd) : (s.take c).cal = s.cal := rfl
@[simp] theorem State.take_plan (s : State) (c : Cmd) : (s.take c).plan = s.plan := rfl
@[simp] theorem State.take_sec (s : State) (c : Cmd) : (s.take c).sec = s.sec := rfl
@[simp] theorem State.take_card (s : State) (c : Cmd) : (s.take c).card = s.card := rfl
@[simp] theorem State.take_fuse (s : State) (c : Cmd) : (s.take c).fuse = s.fuse := rfl
@[simp] theorem State.take_region (s : State) (c : Cmd) : (s.take c).region = s.region := rfl
@[simp] theorem State.take_block (s : State) (c : Cmd) : (s.take c).block = s.block := rfl
@[simp] theorem State.take_cell (s : State) (c : Cmd) : (s.take c).cell = s.cell := rfl
@[simp] theorem State.take_guard (s : State) (c : Cmd) : (s.take c).guard = s.guard := rfl
@[simp] theorem State.take_light (s : State) (c : Cmd) : (s.take c).light = s.light := rfl
@[simp] theorem State.take_skein (s : State) (c : Cmd) : (s.take c).skein = s.skein := rfl
@[simp] theorem State.take_creel (s : State) (c : Cmd) : (s.take c).creel = s.creel := rfl
@[simp] theorem State.take_ply (s : State) (c : Cmd) : (s.take c).ply = s.ply := rfl
@[simp] theorem State.take_memory (s : State) (c : Cmd) : (s.take c).memory = s.memory := rfl
@[simp] theorem State.take_reel (s : State) (c : Cmd) : (s.take c).reel = s.reel := rfl
@[simp] theorem State.take_rport (s : State) (c : Cmd) : (s.take c).rport = s.rport := rfl
@[simp] theorem State.take_free (s : State) (c : Cmd) : (s.take c).free = s.free := rfl
@[simp] theorem State.take_pending (s : State) (c : Cmd) : (s.take c).pending = s.pending := rfl

/-! ### leave -/

@[simp] theorem State.leave_time (s : State) (c : Cmd) : (s.leave c).time = s.time := rfl
@[simp] theorem State.leave_obs (s : State) (c : Cmd) : (s.leave c).obs = s.obs := rfl
@[simp] theorem State.leave_host (s : State) (c : Cmd) : (s.leave c).host = s.host := rfl
@[simp] theorem State.leave_mems (s : State) (c : Cmd) : (s.leave c).mems = s.mems := rfl
@[simp] theorem State.leave_mod (s : State) (c : Cmd) : (s.leave c).mod = s.mod := rfl
@[simp] theorem State.leave_conf (s : State) (c : Cmd) : (s.leave c).conf = s.conf := rfl
@[simp] theorem State.leave_pow (s : State) (c : Cmd) : (s.leave c).pow = s.pow := rfl
@[simp] theorem State.leave_job (s : State) (c : Cmd) : (s.leave c).job = s.job := rfl
@[simp] theorem State.leave_cal (s : State) (c : Cmd) : (s.leave c).cal = s.cal := rfl
@[simp] theorem State.leave_plan (s : State) (c : Cmd) : (s.leave c).plan = s.plan := rfl
@[simp] theorem State.leave_sec (s : State) (c : Cmd) : (s.leave c).sec = s.sec := rfl
@[simp] theorem State.leave_card (s : State) (c : Cmd) : (s.leave c).card = s.card := rfl
@[simp] theorem State.leave_fuse (s : State) (c : Cmd) : (s.leave c).fuse = s.fuse := rfl
@[simp] theorem State.leave_region (s : State) (c : Cmd) : (s.leave c).region = s.region := rfl
@[simp] theorem State.leave_block (s : State) (c : Cmd) : (s.leave c).block = s.block := rfl
@[simp] theorem State.leave_cell (s : State) (c : Cmd) : (s.leave c).cell = s.cell := rfl
@[simp] theorem State.leave_guard (s : State) (c : Cmd) : (s.leave c).guard = s.guard := rfl
@[simp] theorem State.leave_light (s : State) (c : Cmd) : (s.leave c).light = s.light := rfl
@[simp] theorem State.leave_skein (s : State) (c : Cmd) : (s.leave c).skein = s.skein := rfl
@[simp] theorem State.leave_creel (s : State) (c : Cmd) : (s.leave c).creel = s.creel := rfl
@[simp] theorem State.leave_ply (s : State) (c : Cmd) : (s.leave c).ply = s.ply := rfl
@[simp] theorem State.leave_memory (s : State) (c : Cmd) : (s.leave c).memory = s.memory := rfl
@[simp] theorem State.leave_reel (s : State) (c : Cmd) : (s.leave c).reel = s.reel := rfl
@[simp] theorem State.leave_rport (s : State) (c : Cmd) : (s.leave c).rport = s.rport := rfl
@[simp] theorem State.leave_free (s : State) (c : Cmd) : (s.leave c).free = s.free := rfl
@[simp] theorem State.leave_pending (s : State) (c : Cmd) : (s.leave c).pending = s.pending := rfl

/-! ### setMute -/

@[simp] theorem State.setMute_time (s : State) (m : Option Cmd) : (s.setMute m).time = s.time := rfl
@[simp] theorem State.setMute_obs (s : State) (m : Option Cmd) : (s.setMute m).obs = s.obs := rfl
@[simp] theorem State.setMute_host (s : State) (m : Option Cmd) : (s.setMute m).host = s.host := rfl
@[simp] theorem State.setMute_mems (s : State) (m : Option Cmd) : (s.setMute m).mems = s.mems := rfl
@[simp] theorem State.setMute_mod (s : State) (m : Option Cmd) : (s.setMute m).mod = s.mod := rfl
@[simp] theorem State.setMute_conf (s : State) (m : Option Cmd) : (s.setMute m).conf = s.conf := rfl
@[simp] theorem State.setMute_pow (s : State) (m : Option Cmd) : (s.setMute m).pow = s.pow := rfl
@[simp] theorem State.setMute_job (s : State) (m : Option Cmd) : (s.setMute m).job = s.job := rfl
@[simp] theorem State.setMute_cal (s : State) (m : Option Cmd) : (s.setMute m).cal = s.cal := rfl
@[simp] theorem State.setMute_plan (s : State) (m : Option Cmd) : (s.setMute m).plan = s.plan := rfl
@[simp] theorem State.setMute_sec (s : State) (m : Option Cmd) : (s.setMute m).sec = s.sec := rfl
@[simp] theorem State.setMute_card (s : State) (m : Option Cmd) : (s.setMute m).card = s.card := rfl
@[simp] theorem State.setMute_fuse (s : State) (m : Option Cmd) : (s.setMute m).fuse = s.fuse := rfl
@[simp] theorem State.setMute_region (s : State) (m : Option Cmd) : (s.setMute m).region = s.region := rfl
@[simp] theorem State.setMute_block (s : State) (m : Option Cmd) : (s.setMute m).block = s.block := rfl
@[simp] theorem State.setMute_cell (s : State) (m : Option Cmd) : (s.setMute m).cell = s.cell := rfl
@[simp] theorem State.setMute_guard (s : State) (m : Option Cmd) : (s.setMute m).guard = s.guard := rfl
@[simp] theorem State.setMute_light (s : State) (m : Option Cmd) : (s.setMute m).light = s.light := rfl
@[simp] theorem State.setMute_skein (s : State) (m : Option Cmd) : (s.setMute m).skein = s.skein := rfl
@[simp] theorem State.setMute_creel (s : State) (m : Option Cmd) : (s.setMute m).creel = s.creel := rfl
@[simp] theorem State.setMute_ply (s : State) (m : Option Cmd) : (s.setMute m).ply = s.ply := rfl
@[simp] theorem State.setMute_memory (s : State) (m : Option Cmd) : (s.setMute m).memory = s.memory := rfl
@[simp] theorem State.setMute_reel (s : State) (m : Option Cmd) : (s.setMute m).reel = s.reel := rfl
@[simp] theorem State.setMute_rport (s : State) (m : Option Cmd) : (s.setMute m).rport = s.rport := rfl
@[simp] theorem State.setMute_free (s : State) (m : Option Cmd) : (s.setMute m).free = s.free := rfl
@[simp] theorem State.setMute_pending (s : State) (m : Option Cmd) : (s.setMute m).pending = s.pending := rfl

/-! ### setAux -/

@[simp] theorem State.setAux_time (s : State) (c : Cmd) (aux : Nat) : (s.setAux c aux).time = s.time := rfl
@[simp] theorem State.setAux_obs (s : State) (c : Cmd) (aux : Nat) : (s.setAux c aux).obs = s.obs := rfl
@[simp] theorem State.setAux_host (s : State) (c : Cmd) (aux : Nat) : (s.setAux c aux).host = s.host := rfl
@[simp] theorem State.setAux_mems (s : State) (c : Cmd) (aux : Nat) : (s.setAux c aux).mems = s.mems := rfl
@[simp] theorem State.setAux_mod (s : State) (c : Cmd) (aux : Nat) : (s.setAux c aux).mod = s.mod := rfl
@[simp] theorem State.setAux_conf (s : State) (c : Cmd) (aux : Nat) : (s.setAux c aux).conf = s.conf := rfl
@[simp] theorem State.setAux_pow (s : State) (c : Cmd) (aux : Nat) : (s.setAux c aux).pow = s.pow := rfl
@[simp] theorem State.setAux_job (s : State) (c : Cmd) (aux : Nat) : (s.setAux c aux).job = s.job := rfl
@[simp] theorem State.setAux_cal (s : State) (c : Cmd) (aux : Nat) : (s.setAux c aux).cal = s.cal := rfl
@[simp] theorem State.setAux_plan (s : State) (c : Cmd) (aux : Nat) : (s.setAux c aux).plan = s.plan := rfl
@[simp] theorem State.setAux_sec (s : State) (c : Cmd) (aux : Nat) : (s.setAux c aux).sec = s.sec := rfl
@[simp] theorem State.setAux_card (s : State) (c : Cmd) (aux : Nat) : (s.setAux c aux).card = s.card := rfl
@[simp] theorem State.setAux_fuse (s : State) (c : Cmd) (aux : Nat) : (s.setAux c aux).fuse = s.fuse := rfl
@[simp] theorem State.setAux_region (s : State) (c : Cmd) (aux : Nat) : (s.setAux c aux).region = s.region := rfl
@[simp] theorem State.setAux_block (s : State) (c : Cmd) (aux : Nat) : (s.setAux c aux).block = s.block := rfl
@[simp] theorem State.setAux_cell (s : State) (c : Cmd) (aux : Nat) : (s.setAux c aux).cell = s.cell := rfl
@[simp] theorem State.setAux_guard (s : State) (c : Cmd) (aux : Nat) : (s.setAux c aux).guard = s.guard := rfl
@[simp] theorem State.setAux_light (s : State) (c : Cmd) (aux : Nat) : (s.setAux c aux).light = s.light := rfl
@[simp] theorem State.setAux_skein (s : State) (c : Cmd) (aux : Nat) : (s.setAux c aux).skein = s.skein := rfl
@[simp] theorem State.setAux_creel (s : State) (c : Cmd) (aux : Nat) : (s.setAux c aux).creel = s.creel := rfl
@[simp] theorem State.setAux_ply (s : State) (c : Cmd) (aux : Nat) : (s.setAux c aux).ply = s.ply := rfl
@[simp] theorem State.setAux_memory (s : State) (c : Cmd) (aux : Nat) : (s.setAux c aux).memory = s.memory := rfl
@[simp] theorem State.setAux_reel (s : State) (c : Cmd) (aux : Nat) : (s.setAux c aux).reel = s.reel := rfl
@[simp] theorem State.setAux_rport (s : State) (c : Cmd) (aux : Nat) : (s.setAux c aux).rport = s.rport := rfl
@[simp] theorem State.setAux_free (s : State) (c : Cmd) (aux : Nat) : (s.setAux c aux).free = s.free := rfl
@[simp] theorem State.setAux_pending (s : State) (c : Cmd) (aux : Nat) : (s.setAux c aux).pending = s.pending := rfl

/-! ### modLaunch -/

@[simp] theorem State.modLaunch_time (s : State) (n : BitVec 32) (f : Launch → Launch) : (s.modLaunch n f).time = s.time := rfl
@[simp] theorem State.modLaunch_obs (s : State) (n : BitVec 32) (f : Launch → Launch) : (s.modLaunch n f).obs = s.obs := rfl
@[simp] theorem State.modLaunch_host (s : State) (n : BitVec 32) (f : Launch → Launch) : (s.modLaunch n f).host = s.host := rfl
@[simp] theorem State.modLaunch_mems (s : State) (n : BitVec 32) (f : Launch → Launch) : (s.modLaunch n f).mems = s.mems := rfl
@[simp] theorem State.modLaunch_spin (s : State) (n : BitVec 32) (f : Launch → Launch) : (s.modLaunch n f).spin = s.spin := rfl
@[simp] theorem State.modLaunch_mod (s : State) (n : BitVec 32) (f : Launch → Launch) : (s.modLaunch n f).mod = s.mod := rfl
@[simp] theorem State.modLaunch_conf (s : State) (n : BitVec 32) (f : Launch → Launch) : (s.modLaunch n f).conf = s.conf := rfl
@[simp] theorem State.modLaunch_pow (s : State) (n : BitVec 32) (f : Launch → Launch) : (s.modLaunch n f).pow = s.pow := rfl
@[simp] theorem State.modLaunch_cal (s : State) (n : BitVec 32) (f : Launch → Launch) : (s.modLaunch n f).cal = s.cal := rfl
@[simp] theorem State.modLaunch_plan (s : State) (n : BitVec 32) (f : Launch → Launch) : (s.modLaunch n f).plan = s.plan := rfl
@[simp] theorem State.modLaunch_sec (s : State) (n : BitVec 32) (f : Launch → Launch) : (s.modLaunch n f).sec = s.sec := rfl
@[simp] theorem State.modLaunch_card (s : State) (n : BitVec 32) (f : Launch → Launch) : (s.modLaunch n f).card = s.card := rfl
@[simp] theorem State.modLaunch_fuse (s : State) (n : BitVec 32) (f : Launch → Launch) : (s.modLaunch n f).fuse = s.fuse := rfl
@[simp] theorem State.modLaunch_region (s : State) (n : BitVec 32) (f : Launch → Launch) : (s.modLaunch n f).region = s.region := rfl
@[simp] theorem State.modLaunch_block (s : State) (n : BitVec 32) (f : Launch → Launch) : (s.modLaunch n f).block = s.block := rfl
@[simp] theorem State.modLaunch_cell (s : State) (n : BitVec 32) (f : Launch → Launch) : (s.modLaunch n f).cell = s.cell := rfl
@[simp] theorem State.modLaunch_guard (s : State) (n : BitVec 32) (f : Launch → Launch) : (s.modLaunch n f).guard = s.guard := rfl
@[simp] theorem State.modLaunch_light (s : State) (n : BitVec 32) (f : Launch → Launch) : (s.modLaunch n f).light = s.light := rfl
@[simp] theorem State.modLaunch_skein (s : State) (n : BitVec 32) (f : Launch → Launch) : (s.modLaunch n f).skein = s.skein := rfl
@[simp] theorem State.modLaunch_creel (s : State) (n : BitVec 32) (f : Launch → Launch) : (s.modLaunch n f).creel = s.creel := rfl
@[simp] theorem State.modLaunch_ply (s : State) (n : BitVec 32) (f : Launch → Launch) : (s.modLaunch n f).ply = s.ply := rfl
@[simp] theorem State.modLaunch_memory (s : State) (n : BitVec 32) (f : Launch → Launch) : (s.modLaunch n f).memory = s.memory := rfl
@[simp] theorem State.modLaunch_reel (s : State) (n : BitVec 32) (f : Launch → Launch) : (s.modLaunch n f).reel = s.reel := rfl
@[simp] theorem State.modLaunch_rport (s : State) (n : BitVec 32) (f : Launch → Launch) : (s.modLaunch n f).rport = s.rport := rfl
@[simp] theorem State.modLaunch_free (s : State) (n : BitVec 32) (f : Launch → Launch) : (s.modLaunch n f).free = s.free := rfl
@[simp] theorem State.modLaunch_pending (s : State) (n : BitVec 32) (f : Launch → Launch) : (s.modLaunch n f).pending = s.pending := rfl

/-! ### modRp -/

@[simp] theorem State.modRp_time (s : State) (p : Nat) (f : RPortSt → RPortSt) : (s.modRp p f).time = s.time := rfl
@[simp] theorem State.modRp_obs (s : State) (p : Nat) (f : RPortSt → RPortSt) : (s.modRp p f).obs = s.obs := rfl
@[simp] theorem State.modRp_host (s : State) (p : Nat) (f : RPortSt → RPortSt) : (s.modRp p f).host = s.host := rfl
@[simp] theorem State.modRp_mems (s : State) (p : Nat) (f : RPortSt → RPortSt) : (s.modRp p f).mems = s.mems := rfl
@[simp] theorem State.modRp_spin (s : State) (p : Nat) (f : RPortSt → RPortSt) : (s.modRp p f).spin = s.spin := rfl
@[simp] theorem State.modRp_mod (s : State) (p : Nat) (f : RPortSt → RPortSt) : (s.modRp p f).mod = s.mod := rfl
@[simp] theorem State.modRp_conf (s : State) (p : Nat) (f : RPortSt → RPortSt) : (s.modRp p f).conf = s.conf := rfl
@[simp] theorem State.modRp_pow (s : State) (p : Nat) (f : RPortSt → RPortSt) : (s.modRp p f).pow = s.pow := rfl
@[simp] theorem State.modRp_job (s : State) (p : Nat) (f : RPortSt → RPortSt) : (s.modRp p f).job = s.job := rfl
@[simp] theorem State.modRp_cal (s : State) (p : Nat) (f : RPortSt → RPortSt) : (s.modRp p f).cal = s.cal := rfl
@[simp] theorem State.modRp_plan (s : State) (p : Nat) (f : RPortSt → RPortSt) : (s.modRp p f).plan = s.plan := rfl
@[simp] theorem State.modRp_sec (s : State) (p : Nat) (f : RPortSt → RPortSt) : (s.modRp p f).sec = s.sec := rfl
@[simp] theorem State.modRp_card (s : State) (p : Nat) (f : RPortSt → RPortSt) : (s.modRp p f).card = s.card := rfl
@[simp] theorem State.modRp_fuse (s : State) (p : Nat) (f : RPortSt → RPortSt) : (s.modRp p f).fuse = s.fuse := rfl
@[simp] theorem State.modRp_region (s : State) (p : Nat) (f : RPortSt → RPortSt) : (s.modRp p f).region = s.region := rfl
@[simp] theorem State.modRp_block (s : State) (p : Nat) (f : RPortSt → RPortSt) : (s.modRp p f).block = s.block := rfl
@[simp] theorem State.modRp_cell (s : State) (p : Nat) (f : RPortSt → RPortSt) : (s.modRp p f).cell = s.cell := rfl
@[simp] theorem State.modRp_guard (s : State) (p : Nat) (f : RPortSt → RPortSt) : (s.modRp p f).guard = s.guard := rfl
@[simp] theorem State.modRp_light (s : State) (p : Nat) (f : RPortSt → RPortSt) : (s.modRp p f).light = s.light := rfl
@[simp] theorem State.modRp_skein (s : State) (p : Nat) (f : RPortSt → RPortSt) : (s.modRp p f).skein = s.skein := rfl
@[simp] theorem State.modRp_creel (s : State) (p : Nat) (f : RPortSt → RPortSt) : (s.modRp p f).creel = s.creel := rfl
@[simp] theorem State.modRp_ply (s : State) (p : Nat) (f : RPortSt → RPortSt) : (s.modRp p f).ply = s.ply := rfl
@[simp] theorem State.modRp_memory (s : State) (p : Nat) (f : RPortSt → RPortSt) : (s.modRp p f).memory = s.memory := rfl
@[simp] theorem State.modRp_reel (s : State) (p : Nat) (f : RPortSt → RPortSt) : (s.modRp p f).reel = s.reel := rfl
@[simp] theorem State.modRp_free (s : State) (p : Nat) (f : RPortSt → RPortSt) : (s.modRp p f).free = s.free := rfl
@[simp] theorem State.modRp_pending (s : State) (p : Nat) (f : RPortSt → RPortSt) : (s.modRp p f).pending = s.pending := rfl

/-! ### modRcv -/

@[simp] theorem State.modRcv_time (s : State) (id : BitVec 32) (stn : Nat) (f : Receiver → Receiver) : (s.modRcv id stn f).time = s.time := rfl
@[simp] theorem State.modRcv_obs (s : State) (id : BitVec 32) (stn : Nat) (f : Receiver → Receiver) : (s.modRcv id stn f).obs = s.obs := rfl
@[simp] theorem State.modRcv_host (s : State) (id : BitVec 32) (stn : Nat) (f : Receiver → Receiver) : (s.modRcv id stn f).host = s.host := rfl
@[simp] theorem State.modRcv_mems (s : State) (id : BitVec 32) (stn : Nat) (f : Receiver → Receiver) : (s.modRcv id stn f).mems = s.mems := rfl
@[simp] theorem State.modRcv_spin (s : State) (id : BitVec 32) (stn : Nat) (f : Receiver → Receiver) : (s.modRcv id stn f).spin = s.spin := rfl
@[simp] theorem State.modRcv_mod (s : State) (id : BitVec 32) (stn : Nat) (f : Receiver → Receiver) : (s.modRcv id stn f).mod = s.mod := rfl
@[simp] theorem State.modRcv_conf (s : State) (id : BitVec 32) (stn : Nat) (f : Receiver → Receiver) : (s.modRcv id stn f).conf = s.conf := rfl
@[simp] theorem State.modRcv_pow (s : State) (id : BitVec 32) (stn : Nat) (f : Receiver → Receiver) : (s.modRcv id stn f).pow = s.pow := rfl
@[simp] theorem State.modRcv_job (s : State) (id : BitVec 32) (stn : Nat) (f : Receiver → Receiver) : (s.modRcv id stn f).job = s.job := rfl
@[simp] theorem State.modRcv_cal (s : State) (id : BitVec 32) (stn : Nat) (f : Receiver → Receiver) : (s.modRcv id stn f).cal = s.cal := rfl
@[simp] theorem State.modRcv_plan (s : State) (id : BitVec 32) (stn : Nat) (f : Receiver → Receiver) : (s.modRcv id stn f).plan = s.plan := rfl
@[simp] theorem State.modRcv_sec (s : State) (id : BitVec 32) (stn : Nat) (f : Receiver → Receiver) : (s.modRcv id stn f).sec = s.sec := rfl
@[simp] theorem State.modRcv_card (s : State) (id : BitVec 32) (stn : Nat) (f : Receiver → Receiver) : (s.modRcv id stn f).card = s.card := rfl
@[simp] theorem State.modRcv_fuse (s : State) (id : BitVec 32) (stn : Nat) (f : Receiver → Receiver) : (s.modRcv id stn f).fuse = s.fuse := rfl
@[simp] theorem State.modRcv_region (s : State) (id : BitVec 32) (stn : Nat) (f : Receiver → Receiver) : (s.modRcv id stn f).region = s.region := rfl
@[simp] theorem State.modRcv_block (s : State) (id : BitVec 32) (stn : Nat) (f : Receiver → Receiver) : (s.modRcv id stn f).block = s.block := rfl
@[simp] theorem State.modRcv_cell (s : State) (id : BitVec 32) (stn : Nat) (f : Receiver → Receiver) : (s.modRcv id stn f).cell = s.cell := rfl
@[simp] theorem State.modRcv_guard (s : State) (id : BitVec 32) (stn : Nat) (f : Receiver → Receiver) : (s.modRcv id stn f).guard = s.guard := rfl
@[simp] theorem State.modRcv_light (s : State) (id : BitVec 32) (stn : Nat) (f : Receiver → Receiver) : (s.modRcv id stn f).light = s.light := rfl
@[simp] theorem State.modRcv_creel (s : State) (id : BitVec 32) (stn : Nat) (f : Receiver → Receiver) : (s.modRcv id stn f).creel = s.creel := rfl
@[simp] theorem State.modRcv_ply (s : State) (id : BitVec 32) (stn : Nat) (f : Receiver → Receiver) : (s.modRcv id stn f).ply = s.ply := rfl
@[simp] theorem State.modRcv_memory (s : State) (id : BitVec 32) (stn : Nat) (f : Receiver → Receiver) : (s.modRcv id stn f).memory = s.memory := rfl
@[simp] theorem State.modRcv_reel (s : State) (id : BitVec 32) (stn : Nat) (f : Receiver → Receiver) : (s.modRcv id stn f).reel = s.reel := rfl
@[simp] theorem State.modRcv_rport (s : State) (id : BitVec 32) (stn : Nat) (f : Receiver → Receiver) : (s.modRcv id stn f).rport = s.rport := rfl
@[simp] theorem State.modRcv_free (s : State) (id : BitVec 32) (stn : Nat) (f : Receiver → Receiver) : (s.modRcv id stn f).free = s.free := rfl
@[simp] theorem State.modRcv_pending (s : State) (id : BitVec 32) (stn : Nat) (f : Receiver → Receiver) : (s.modRcv id stn f).pending = s.pending := rfl

/-! ### modPly -/

@[simp] theorem State.modPly_time (s : State) (i : Nat) (f : PlyPort → PlyPort) : (s.modPly i f).time = s.time := rfl
@[simp] theorem State.modPly_obs (s : State) (i : Nat) (f : PlyPort → PlyPort) : (s.modPly i f).obs = s.obs := rfl
@[simp] theorem State.modPly_host (s : State) (i : Nat) (f : PlyPort → PlyPort) : (s.modPly i f).host = s.host := rfl
@[simp] theorem State.modPly_mems (s : State) (i : Nat) (f : PlyPort → PlyPort) : (s.modPly i f).mems = s.mems := rfl
@[simp] theorem State.modPly_spin (s : State) (i : Nat) (f : PlyPort → PlyPort) : (s.modPly i f).spin = s.spin := rfl
@[simp] theorem State.modPly_mod (s : State) (i : Nat) (f : PlyPort → PlyPort) : (s.modPly i f).mod = s.mod := rfl
@[simp] theorem State.modPly_conf (s : State) (i : Nat) (f : PlyPort → PlyPort) : (s.modPly i f).conf = s.conf := rfl
@[simp] theorem State.modPly_pow (s : State) (i : Nat) (f : PlyPort → PlyPort) : (s.modPly i f).pow = s.pow := rfl
@[simp] theorem State.modPly_job (s : State) (i : Nat) (f : PlyPort → PlyPort) : (s.modPly i f).job = s.job := rfl
@[simp] theorem State.modPly_cal (s : State) (i : Nat) (f : PlyPort → PlyPort) : (s.modPly i f).cal = s.cal := rfl
@[simp] theorem State.modPly_plan (s : State) (i : Nat) (f : PlyPort → PlyPort) : (s.modPly i f).plan = s.plan := rfl
@[simp] theorem State.modPly_sec (s : State) (i : Nat) (f : PlyPort → PlyPort) : (s.modPly i f).sec = s.sec := rfl
@[simp] theorem State.modPly_card (s : State) (i : Nat) (f : PlyPort → PlyPort) : (s.modPly i f).card = s.card := rfl
@[simp] theorem State.modPly_fuse (s : State) (i : Nat) (f : PlyPort → PlyPort) : (s.modPly i f).fuse = s.fuse := rfl
@[simp] theorem State.modPly_region (s : State) (i : Nat) (f : PlyPort → PlyPort) : (s.modPly i f).region = s.region := rfl
@[simp] theorem State.modPly_block (s : State) (i : Nat) (f : PlyPort → PlyPort) : (s.modPly i f).block = s.block := rfl
@[simp] theorem State.modPly_cell (s : State) (i : Nat) (f : PlyPort → PlyPort) : (s.modPly i f).cell = s.cell := rfl
@[simp] theorem State.modPly_guard (s : State) (i : Nat) (f : PlyPort → PlyPort) : (s.modPly i f).guard = s.guard := rfl
@[simp] theorem State.modPly_light (s : State) (i : Nat) (f : PlyPort → PlyPort) : (s.modPly i f).light = s.light := rfl
@[simp] theorem State.modPly_skein (s : State) (i : Nat) (f : PlyPort → PlyPort) : (s.modPly i f).skein = s.skein := rfl
@[simp] theorem State.modPly_creel (s : State) (i : Nat) (f : PlyPort → PlyPort) : (s.modPly i f).creel = s.creel := rfl
@[simp] theorem State.modPly_memory (s : State) (i : Nat) (f : PlyPort → PlyPort) : (s.modPly i f).memory = s.memory := rfl
@[simp] theorem State.modPly_reel (s : State) (i : Nat) (f : PlyPort → PlyPort) : (s.modPly i f).reel = s.reel := rfl
@[simp] theorem State.modPly_rport (s : State) (i : Nat) (f : PlyPort → PlyPort) : (s.modPly i f).rport = s.rport := rfl
@[simp] theorem State.modPly_free (s : State) (i : Nat) (f : PlyPort → PlyPort) : (s.modPly i f).free = s.free := rfl
@[simp] theorem State.modPly_pending (s : State) (i : Nat) (f : PlyPort → PlyPort) : (s.modPly i f).pending = s.pending := rfl

/-! ### modGrp -/

@[simp] theorem State.modGrp_time (s : State) (g : Nat) (f : GroupSt → GroupSt) : (s.modGrp g f).time = s.time := rfl
@[simp] theorem State.modGrp_obs (s : State) (g : Nat) (f : GroupSt → GroupSt) : (s.modGrp g f).obs = s.obs := rfl
@[simp] theorem State.modGrp_host (s : State) (g : Nat) (f : GroupSt → GroupSt) : (s.modGrp g f).host = s.host := rfl
@[simp] theorem State.modGrp_mems (s : State) (g : Nat) (f : GroupSt → GroupSt) : (s.modGrp g f).mems = s.mems := rfl
@[simp] theorem State.modGrp_spin (s : State) (g : Nat) (f : GroupSt → GroupSt) : (s.modGrp g f).spin = s.spin := rfl
@[simp] theorem State.modGrp_mod (s : State) (g : Nat) (f : GroupSt → GroupSt) : (s.modGrp g f).mod = s.mod := rfl
@[simp] theorem State.modGrp_conf (s : State) (g : Nat) (f : GroupSt → GroupSt) : (s.modGrp g f).conf = s.conf := rfl
@[simp] theorem State.modGrp_pow (s : State) (g : Nat) (f : GroupSt → GroupSt) : (s.modGrp g f).pow = s.pow := rfl
@[simp] theorem State.modGrp_job (s : State) (g : Nat) (f : GroupSt → GroupSt) : (s.modGrp g f).job = s.job := rfl
@[simp] theorem State.modGrp_cal (s : State) (g : Nat) (f : GroupSt → GroupSt) : (s.modGrp g f).cal = s.cal := rfl
@[simp] theorem State.modGrp_plan (s : State) (g : Nat) (f : GroupSt → GroupSt) : (s.modGrp g f).plan = s.plan := rfl
@[simp] theorem State.modGrp_sec (s : State) (g : Nat) (f : GroupSt → GroupSt) : (s.modGrp g f).sec = s.sec := rfl
@[simp] theorem State.modGrp_card (s : State) (g : Nat) (f : GroupSt → GroupSt) : (s.modGrp g f).card = s.card := rfl
@[simp] theorem State.modGrp_fuse (s : State) (g : Nat) (f : GroupSt → GroupSt) : (s.modGrp g f).fuse = s.fuse := rfl
@[simp] theorem State.modGrp_region (s : State) (g : Nat) (f : GroupSt → GroupSt) : (s.modGrp g f).region = s.region := rfl
@[simp] theorem State.modGrp_block (s : State) (g : Nat) (f : GroupSt → GroupSt) : (s.modGrp g f).block = s.block := rfl
@[simp] theorem State.modGrp_cell (s : State) (g : Nat) (f : GroupSt → GroupSt) : (s.modGrp g f).cell = s.cell := rfl
@[simp] theorem State.modGrp_guard (s : State) (g : Nat) (f : GroupSt → GroupSt) : (s.modGrp g f).guard = s.guard := rfl
@[simp] theorem State.modGrp_skein (s : State) (g : Nat) (f : GroupSt → GroupSt) : (s.modGrp g f).skein = s.skein := rfl
@[simp] theorem State.modGrp_creel (s : State) (g : Nat) (f : GroupSt → GroupSt) : (s.modGrp g f).creel = s.creel := rfl
@[simp] theorem State.modGrp_ply (s : State) (g : Nat) (f : GroupSt → GroupSt) : (s.modGrp g f).ply = s.ply := rfl
@[simp] theorem State.modGrp_memory (s : State) (g : Nat) (f : GroupSt → GroupSt) : (s.modGrp g f).memory = s.memory := rfl
@[simp] theorem State.modGrp_reel (s : State) (g : Nat) (f : GroupSt → GroupSt) : (s.modGrp g f).reel = s.reel := rfl
@[simp] theorem State.modGrp_rport (s : State) (g : Nat) (f : GroupSt → GroupSt) : (s.modGrp g f).rport = s.rport := rfl
@[simp] theorem State.modGrp_free (s : State) (g : Nat) (f : GroupSt → GroupSt) : (s.modGrp g f).free = s.free := rfl
@[simp] theorem State.modGrp_pending (s : State) (g : Nat) (f : GroupSt → GroupSt) : (s.modGrp g f).pending = s.pending := rfl

/-! ### modCage -/

@[simp] theorem State.modCage_time (s : State) (k : Nat) (f : CageSt → CageSt) : (s.modCage k f).time = s.time := rfl
@[simp] theorem State.modCage_obs (s : State) (k : Nat) (f : CageSt → CageSt) : (s.modCage k f).obs = s.obs := rfl
@[simp] theorem State.modCage_host (s : State) (k : Nat) (f : CageSt → CageSt) : (s.modCage k f).host = s.host := rfl
@[simp] theorem State.modCage_mems (s : State) (k : Nat) (f : CageSt → CageSt) : (s.modCage k f).mems = s.mems := rfl
@[simp] theorem State.modCage_spin (s : State) (k : Nat) (f : CageSt → CageSt) : (s.modCage k f).spin = s.spin := rfl
@[simp] theorem State.modCage_mod (s : State) (k : Nat) (f : CageSt → CageSt) : (s.modCage k f).mod = s.mod := rfl
@[simp] theorem State.modCage_conf (s : State) (k : Nat) (f : CageSt → CageSt) : (s.modCage k f).conf = s.conf := rfl
@[simp] theorem State.modCage_pow (s : State) (k : Nat) (f : CageSt → CageSt) : (s.modCage k f).pow = s.pow := rfl
@[simp] theorem State.modCage_job (s : State) (k : Nat) (f : CageSt → CageSt) : (s.modCage k f).job = s.job := rfl
@[simp] theorem State.modCage_cal (s : State) (k : Nat) (f : CageSt → CageSt) : (s.modCage k f).cal = s.cal := rfl
@[simp] theorem State.modCage_plan (s : State) (k : Nat) (f : CageSt → CageSt) : (s.modCage k f).plan = s.plan := rfl
@[simp] theorem State.modCage_sec (s : State) (k : Nat) (f : CageSt → CageSt) : (s.modCage k f).sec = s.sec := rfl
@[simp] theorem State.modCage_card (s : State) (k : Nat) (f : CageSt → CageSt) : (s.modCage k f).card = s.card := rfl
@[simp] theorem State.modCage_fuse (s : State) (k : Nat) (f : CageSt → CageSt) : (s.modCage k f).fuse = s.fuse := rfl
@[simp] theorem State.modCage_region (s : State) (k : Nat) (f : CageSt → CageSt) : (s.modCage k f).region = s.region := rfl
@[simp] theorem State.modCage_block (s : State) (k : Nat) (f : CageSt → CageSt) : (s.modCage k f).block = s.block := rfl
@[simp] theorem State.modCage_cell (s : State) (k : Nat) (f : CageSt → CageSt) : (s.modCage k f).cell = s.cell := rfl
@[simp] theorem State.modCage_guard (s : State) (k : Nat) (f : CageSt → CageSt) : (s.modCage k f).guard = s.guard := rfl
@[simp] theorem State.modCage_skein (s : State) (k : Nat) (f : CageSt → CageSt) : (s.modCage k f).skein = s.skein := rfl
@[simp] theorem State.modCage_creel (s : State) (k : Nat) (f : CageSt → CageSt) : (s.modCage k f).creel = s.creel := rfl
@[simp] theorem State.modCage_ply (s : State) (k : Nat) (f : CageSt → CageSt) : (s.modCage k f).ply = s.ply := rfl
@[simp] theorem State.modCage_memory (s : State) (k : Nat) (f : CageSt → CageSt) : (s.modCage k f).memory = s.memory := rfl
@[simp] theorem State.modCage_reel (s : State) (k : Nat) (f : CageSt → CageSt) : (s.modCage k f).reel = s.reel := rfl
@[simp] theorem State.modCage_rport (s : State) (k : Nat) (f : CageSt → CageSt) : (s.modCage k f).rport = s.rport := rfl
@[simp] theorem State.modCage_free (s : State) (k : Nat) (f : CageSt → CageSt) : (s.modCage k f).free = s.free := rfl
@[simp] theorem State.modCage_pending (s : State) (k : Nat) (f : CageSt → CageSt) : (s.modCage k f).pending = s.pending := rfl

/-! ### modLoop -/

@[simp] theorem State.modLoop_time (s : State) (n : Nat) (f : LoopSt → LoopSt) : (s.modLoop n f).time = s.time := rfl
@[simp] theorem State.modLoop_obs (s : State) (n : Nat) (f : LoopSt → LoopSt) : (s.modLoop n f).obs = s.obs := rfl
@[simp] theorem State.modLoop_host (s : State) (n : Nat) (f : LoopSt → LoopSt) : (s.modLoop n f).host = s.host := rfl
@[simp] theorem State.modLoop_mems (s : State) (n : Nat) (f : LoopSt → LoopSt) : (s.modLoop n f).mems = s.mems := rfl
@[simp] theorem State.modLoop_spin (s : State) (n : Nat) (f : LoopSt → LoopSt) : (s.modLoop n f).spin = s.spin := rfl
@[simp] theorem State.modLoop_mod (s : State) (n : Nat) (f : LoopSt → LoopSt) : (s.modLoop n f).mod = s.mod := rfl
@[simp] theorem State.modLoop_conf (s : State) (n : Nat) (f : LoopSt → LoopSt) : (s.modLoop n f).conf = s.conf := rfl
@[simp] theorem State.modLoop_pow (s : State) (n : Nat) (f : LoopSt → LoopSt) : (s.modLoop n f).pow = s.pow := rfl
@[simp] theorem State.modLoop_job (s : State) (n : Nat) (f : LoopSt → LoopSt) : (s.modLoop n f).job = s.job := rfl
@[simp] theorem State.modLoop_cal (s : State) (n : Nat) (f : LoopSt → LoopSt) : (s.modLoop n f).cal = s.cal := rfl
@[simp] theorem State.modLoop_plan (s : State) (n : Nat) (f : LoopSt → LoopSt) : (s.modLoop n f).plan = s.plan := rfl
@[simp] theorem State.modLoop_sec (s : State) (n : Nat) (f : LoopSt → LoopSt) : (s.modLoop n f).sec = s.sec := rfl
@[simp] theorem State.modLoop_card (s : State) (n : Nat) (f : LoopSt → LoopSt) : (s.modLoop n f).card = s.card := rfl
@[simp] theorem State.modLoop_fuse (s : State) (n : Nat) (f : LoopSt → LoopSt) : (s.modLoop n f).fuse = s.fuse := rfl
@[simp] theorem State.modLoop_region (s : State) (n : Nat) (f : LoopSt → LoopSt) : (s.modLoop n f).region = s.region := rfl
@[simp] theorem State.modLoop_block (s : State) (n : Nat) (f : LoopSt → LoopSt) : (s.modLoop n f).block = s.block := rfl
@[simp] theorem State.modLoop_cell (s : State) (n : Nat) (f : LoopSt → LoopSt) : (s.modLoop n f).cell = s.cell := rfl
@[simp] theorem State.modLoop_guard (s : State) (n : Nat) (f : LoopSt → LoopSt) : (s.modLoop n f).guard = s.guard := rfl
@[simp] theorem State.modLoop_light (s : State) (n : Nat) (f : LoopSt → LoopSt) : (s.modLoop n f).light = s.light := rfl
@[simp] theorem State.modLoop_creel (s : State) (n : Nat) (f : LoopSt → LoopSt) : (s.modLoop n f).creel = s.creel := rfl
@[simp] theorem State.modLoop_ply (s : State) (n : Nat) (f : LoopSt → LoopSt) : (s.modLoop n f).ply = s.ply := rfl
@[simp] theorem State.modLoop_memory (s : State) (n : Nat) (f : LoopSt → LoopSt) : (s.modLoop n f).memory = s.memory := rfl
@[simp] theorem State.modLoop_reel (s : State) (n : Nat) (f : LoopSt → LoopSt) : (s.modLoop n f).reel = s.reel := rfl
@[simp] theorem State.modLoop_rport (s : State) (n : Nat) (f : LoopSt → LoopSt) : (s.modLoop n f).rport = s.rport := rfl
@[simp] theorem State.modLoop_free (s : State) (n : Nat) (f : LoopSt → LoopSt) : (s.modLoop n f).free = s.free := rfl
@[simp] theorem State.modLoop_pending (s : State) (n : Nat) (f : LoopSt → LoopSt) : (s.modLoop n f).pending = s.pending := rfl

/-! ### modLight -/

@[simp] theorem State.modLight_time (s : State) (n : Nat) (f : LoopLight → LoopLight) : (s.modLight n f).time = s.time := rfl
@[simp] theorem State.modLight_obs (s : State) (n : Nat) (f : LoopLight → LoopLight) : (s.modLight n f).obs = s.obs := rfl
@[simp] theorem State.modLight_host (s : State) (n : Nat) (f : LoopLight → LoopLight) : (s.modLight n f).host = s.host := rfl
@[simp] theorem State.modLight_mems (s : State) (n : Nat) (f : LoopLight → LoopLight) : (s.modLight n f).mems = s.mems := rfl
@[simp] theorem State.modLight_spin (s : State) (n : Nat) (f : LoopLight → LoopLight) : (s.modLight n f).spin = s.spin := rfl
@[simp] theorem State.modLight_mod (s : State) (n : Nat) (f : LoopLight → LoopLight) : (s.modLight n f).mod = s.mod := rfl
@[simp] theorem State.modLight_conf (s : State) (n : Nat) (f : LoopLight → LoopLight) : (s.modLight n f).conf = s.conf := rfl
@[simp] theorem State.modLight_pow (s : State) (n : Nat) (f : LoopLight → LoopLight) : (s.modLight n f).pow = s.pow := rfl
@[simp] theorem State.modLight_job (s : State) (n : Nat) (f : LoopLight → LoopLight) : (s.modLight n f).job = s.job := rfl
@[simp] theorem State.modLight_cal (s : State) (n : Nat) (f : LoopLight → LoopLight) : (s.modLight n f).cal = s.cal := rfl
@[simp] theorem State.modLight_plan (s : State) (n : Nat) (f : LoopLight → LoopLight) : (s.modLight n f).plan = s.plan := rfl
@[simp] theorem State.modLight_sec (s : State) (n : Nat) (f : LoopLight → LoopLight) : (s.modLight n f).sec = s.sec := rfl
@[simp] theorem State.modLight_card (s : State) (n : Nat) (f : LoopLight → LoopLight) : (s.modLight n f).card = s.card := rfl
@[simp] theorem State.modLight_fuse (s : State) (n : Nat) (f : LoopLight → LoopLight) : (s.modLight n f).fuse = s.fuse := rfl
@[simp] theorem State.modLight_region (s : State) (n : Nat) (f : LoopLight → LoopLight) : (s.modLight n f).region = s.region := rfl
@[simp] theorem State.modLight_block (s : State) (n : Nat) (f : LoopLight → LoopLight) : (s.modLight n f).block = s.block := rfl
@[simp] theorem State.modLight_cell (s : State) (n : Nat) (f : LoopLight → LoopLight) : (s.modLight n f).cell = s.cell := rfl
@[simp] theorem State.modLight_guard (s : State) (n : Nat) (f : LoopLight → LoopLight) : (s.modLight n f).guard = s.guard := rfl
@[simp] theorem State.modLight_skein (s : State) (n : Nat) (f : LoopLight → LoopLight) : (s.modLight n f).skein = s.skein := rfl
@[simp] theorem State.modLight_creel (s : State) (n : Nat) (f : LoopLight → LoopLight) : (s.modLight n f).creel = s.creel := rfl
@[simp] theorem State.modLight_ply (s : State) (n : Nat) (f : LoopLight → LoopLight) : (s.modLight n f).ply = s.ply := rfl
@[simp] theorem State.modLight_memory (s : State) (n : Nat) (f : LoopLight → LoopLight) : (s.modLight n f).memory = s.memory := rfl
@[simp] theorem State.modLight_reel (s : State) (n : Nat) (f : LoopLight → LoopLight) : (s.modLight n f).reel = s.reel := rfl
@[simp] theorem State.modLight_rport (s : State) (n : Nat) (f : LoopLight → LoopLight) : (s.modLight n f).rport = s.rport := rfl
@[simp] theorem State.modLight_free (s : State) (n : Nat) (f : LoopLight → LoopLight) : (s.modLight n f).free = s.free := rfl
@[simp] theorem State.modLight_pending (s : State) (n : Nat) (f : LoopLight → LoopLight) : (s.modLight n f).pending = s.pending := rfl

/-! ### freshBob -/

@[simp] theorem State.freshBob_time (s : State) (b : BitVec 32 × Bob) (at_ : Lea) : (s.freshBob b at_).time = s.time := rfl
@[simp] theorem State.freshBob_obs (s : State) (b : BitVec 32 × Bob) (at_ : Lea) : (s.freshBob b at_).obs = s.obs := rfl
@[simp] theorem State.freshBob_host (s : State) (b : BitVec 32 × Bob) (at_ : Lea) : (s.freshBob b at_).host = s.host := rfl
@[simp] theorem State.freshBob_mems (s : State) (b : BitVec 32 × Bob) (at_ : Lea) : (s.freshBob b at_).mems = s.mems := rfl
@[simp] theorem State.freshBob_spin (s : State) (b : BitVec 32 × Bob) (at_ : Lea) : (s.freshBob b at_).spin = s.spin := rfl
@[simp] theorem State.freshBob_mod (s : State) (b : BitVec 32 × Bob) (at_ : Lea) : (s.freshBob b at_).mod = s.mod := rfl
@[simp] theorem State.freshBob_conf (s : State) (b : BitVec 32 × Bob) (at_ : Lea) : (s.freshBob b at_).conf = s.conf := rfl
@[simp] theorem State.freshBob_pow (s : State) (b : BitVec 32 × Bob) (at_ : Lea) : (s.freshBob b at_).pow = s.pow := rfl
@[simp] theorem State.freshBob_job (s : State) (b : BitVec 32 × Bob) (at_ : Lea) : (s.freshBob b at_).job = s.job := rfl
@[simp] theorem State.freshBob_cal (s : State) (b : BitVec 32 × Bob) (at_ : Lea) : (s.freshBob b at_).cal = s.cal := rfl
@[simp] theorem State.freshBob_plan (s : State) (b : BitVec 32 × Bob) (at_ : Lea) : (s.freshBob b at_).plan = s.plan := rfl
@[simp] theorem State.freshBob_sec (s : State) (b : BitVec 32 × Bob) (at_ : Lea) : (s.freshBob b at_).sec = s.sec := rfl
@[simp] theorem State.freshBob_card (s : State) (b : BitVec 32 × Bob) (at_ : Lea) : (s.freshBob b at_).card = s.card := rfl
@[simp] theorem State.freshBob_fuse (s : State) (b : BitVec 32 × Bob) (at_ : Lea) : (s.freshBob b at_).fuse = s.fuse := rfl
@[simp] theorem State.freshBob_region (s : State) (b : BitVec 32 × Bob) (at_ : Lea) : (s.freshBob b at_).region = s.region := rfl
@[simp] theorem State.freshBob_block (s : State) (b : BitVec 32 × Bob) (at_ : Lea) : (s.freshBob b at_).block = s.block := rfl
@[simp] theorem State.freshBob_cell (s : State) (b : BitVec 32 × Bob) (at_ : Lea) : (s.freshBob b at_).cell = s.cell := rfl
@[simp] theorem State.freshBob_guard (s : State) (b : BitVec 32 × Bob) (at_ : Lea) : (s.freshBob b at_).guard = s.guard := rfl
@[simp] theorem State.freshBob_light (s : State) (b : BitVec 32 × Bob) (at_ : Lea) : (s.freshBob b at_).light = s.light := rfl
@[simp] theorem State.freshBob_creel (s : State) (b : BitVec 32 × Bob) (at_ : Lea) : (s.freshBob b at_).creel = s.creel := rfl
@[simp] theorem State.freshBob_ply (s : State) (b : BitVec 32 × Bob) (at_ : Lea) : (s.freshBob b at_).ply = s.ply := rfl
@[simp] theorem State.freshBob_memory (s : State) (b : BitVec 32 × Bob) (at_ : Lea) : (s.freshBob b at_).memory = s.memory := rfl
@[simp] theorem State.freshBob_reel (s : State) (b : BitVec 32 × Bob) (at_ : Lea) : (s.freshBob b at_).reel = s.reel := rfl
@[simp] theorem State.freshBob_rport (s : State) (b : BitVec 32 × Bob) (at_ : Lea) : (s.freshBob b at_).rport = s.rport := rfl
@[simp] theorem State.freshBob_free (s : State) (b : BitVec 32 × Bob) (at_ : Lea) : (s.freshBob b at_).free = s.free := rfl
@[simp] theorem State.freshBob_pending (s : State) (b : BitVec 32 × Bob) (at_ : Lea) : (s.freshBob b at_).pending = s.pending := rfl

/-! ### modRun -/

@[simp] theorem State.modRun_time (s : State) (f : Run → Run) : (s.modRun f).time = s.time := rfl
@[simp] theorem State.modRun_obs (s : State) (f : Run → Run) : (s.modRun f).obs = s.obs := rfl
@[simp] theorem State.modRun_host (s : State) (f : Run → Run) : (s.modRun f).host = s.host := rfl
@[simp] theorem State.modRun_mems (s : State) (f : Run → Run) : (s.modRun f).mems = s.mems := rfl
@[simp] theorem State.modRun_spin (s : State) (f : Run → Run) : (s.modRun f).spin = s.spin := rfl
@[simp] theorem State.modRun_mod (s : State) (f : Run → Run) : (s.modRun f).mod = s.mod := rfl
@[simp] theorem State.modRun_conf (s : State) (f : Run → Run) : (s.modRun f).conf = s.conf := rfl
@[simp] theorem State.modRun_pow (s : State) (f : Run → Run) : (s.modRun f).pow = s.pow := rfl
@[simp] theorem State.modRun_job (s : State) (f : Run → Run) : (s.modRun f).job = s.job := rfl
@[simp] theorem State.modRun_cal (s : State) (f : Run → Run) : (s.modRun f).cal = s.cal := rfl
@[simp] theorem State.modRun_plan (s : State) (f : Run → Run) : (s.modRun f).plan = s.plan := rfl
@[simp] theorem State.modRun_sec (s : State) (f : Run → Run) : (s.modRun f).sec = s.sec := rfl
@[simp] theorem State.modRun_card (s : State) (f : Run → Run) : (s.modRun f).card = s.card := rfl
@[simp] theorem State.modRun_fuse (s : State) (f : Run → Run) : (s.modRun f).fuse = s.fuse := rfl
@[simp] theorem State.modRun_region (s : State) (f : Run → Run) : (s.modRun f).region = s.region := rfl
@[simp] theorem State.modRun_block (s : State) (f : Run → Run) : (s.modRun f).block = s.block := rfl
@[simp] theorem State.modRun_cell (s : State) (f : Run → Run) : (s.modRun f).cell = s.cell := rfl
@[simp] theorem State.modRun_guard (s : State) (f : Run → Run) : (s.modRun f).guard = s.guard := rfl
@[simp] theorem State.modRun_light (s : State) (f : Run → Run) : (s.modRun f).light = s.light := rfl
@[simp] theorem State.modRun_skein (s : State) (f : Run → Run) : (s.modRun f).skein = s.skein := rfl
@[simp] theorem State.modRun_ply (s : State) (f : Run → Run) : (s.modRun f).ply = s.ply := rfl
@[simp] theorem State.modRun_memory (s : State) (f : Run → Run) : (s.modRun f).memory = s.memory := rfl
@[simp] theorem State.modRun_reel (s : State) (f : Run → Run) : (s.modRun f).reel = s.reel := rfl
@[simp] theorem State.modRun_rport (s : State) (f : Run → Run) : (s.modRun f).rport = s.rport := rfl
@[simp] theorem State.modRun_free (s : State) (f : Run → Run) : (s.modRun f).free = s.free := rfl
@[simp] theorem State.modRun_pending (s : State) (f : Run → Run) : (s.modRun f).pending = s.pending := rfl

/-! ### renameBob -/

@[simp] theorem State.renameBob_time (s : State) (old new : BitVec 32) (drops : List Nat) : (s.renameBob old new drops).time = s.time := rfl
@[simp] theorem State.renameBob_obs (s : State) (old new : BitVec 32) (drops : List Nat) : (s.renameBob old new drops).obs = s.obs := rfl
@[simp] theorem State.renameBob_host (s : State) (old new : BitVec 32) (drops : List Nat) : (s.renameBob old new drops).host = s.host := rfl
@[simp] theorem State.renameBob_mems (s : State) (old new : BitVec 32) (drops : List Nat) : (s.renameBob old new drops).mems = s.mems := rfl
@[simp] theorem State.renameBob_spin (s : State) (old new : BitVec 32) (drops : List Nat) : (s.renameBob old new drops).spin = s.spin := rfl
@[simp] theorem State.renameBob_mod (s : State) (old new : BitVec 32) (drops : List Nat) : (s.renameBob old new drops).mod = s.mod := rfl
@[simp] theorem State.renameBob_conf (s : State) (old new : BitVec 32) (drops : List Nat) : (s.renameBob old new drops).conf = s.conf := rfl
@[simp] theorem State.renameBob_pow (s : State) (old new : BitVec 32) (drops : List Nat) : (s.renameBob old new drops).pow = s.pow := rfl
@[simp] theorem State.renameBob_job (s : State) (old new : BitVec 32) (drops : List Nat) : (s.renameBob old new drops).job = s.job := rfl
@[simp] theorem State.renameBob_cal (s : State) (old new : BitVec 32) (drops : List Nat) : (s.renameBob old new drops).cal = s.cal := rfl
@[simp] theorem State.renameBob_plan (s : State) (old new : BitVec 32) (drops : List Nat) : (s.renameBob old new drops).plan = s.plan := rfl
@[simp] theorem State.renameBob_sec (s : State) (old new : BitVec 32) (drops : List Nat) : (s.renameBob old new drops).sec = s.sec := rfl
@[simp] theorem State.renameBob_card (s : State) (old new : BitVec 32) (drops : List Nat) : (s.renameBob old new drops).card = s.card := rfl
@[simp] theorem State.renameBob_fuse (s : State) (old new : BitVec 32) (drops : List Nat) : (s.renameBob old new drops).fuse = s.fuse := rfl
@[simp] theorem State.renameBob_region (s : State) (old new : BitVec 32) (drops : List Nat) : (s.renameBob old new drops).region = s.region := rfl
@[simp] theorem State.renameBob_block (s : State) (old new : BitVec 32) (drops : List Nat) : (s.renameBob old new drops).block = s.block := rfl
@[simp] theorem State.renameBob_cell (s : State) (old new : BitVec 32) (drops : List Nat) : (s.renameBob old new drops).cell = s.cell := rfl
@[simp] theorem State.renameBob_guard (s : State) (old new : BitVec 32) (drops : List Nat) : (s.renameBob old new drops).guard = s.guard := rfl
@[simp] theorem State.renameBob_light (s : State) (old new : BitVec 32) (drops : List Nat) : (s.renameBob old new drops).light = s.light := rfl
@[simp] theorem State.renameBob_creel (s : State) (old new : BitVec 32) (drops : List Nat) : (s.renameBob old new drops).creel = s.creel := rfl
@[simp] theorem State.renameBob_ply (s : State) (old new : BitVec 32) (drops : List Nat) : (s.renameBob old new drops).ply = s.ply := rfl
@[simp] theorem State.renameBob_memory (s : State) (old new : BitVec 32) (drops : List Nat) : (s.renameBob old new drops).memory = s.memory := rfl
@[simp] theorem State.renameBob_reel (s : State) (old new : BitVec 32) (drops : List Nat) : (s.renameBob old new drops).reel = s.reel := rfl
@[simp] theorem State.renameBob_rport (s : State) (old new : BitVec 32) (drops : List Nat) : (s.renameBob old new drops).rport = s.rport := rfl
@[simp] theorem State.renameBob_free (s : State) (old new : BitVec 32) (drops : List Nat) : (s.renameBob old new drops).free = s.free := rfl
@[simp] theorem State.renameBob_pending (s : State) (old new : BitVec 32) (drops : List Nat) : (s.renameBob old new drops).pending = s.pending := rfl

/-! ### journal -/

@[simp] theorem State.journal_time (s : State) (e : JEntry) : (s.journal e).time = s.time := rfl
@[simp] theorem State.journal_obs (s : State) (e : JEntry) : (s.journal e).obs = s.obs := rfl
@[simp] theorem State.journal_host (s : State) (e : JEntry) : (s.journal e).host = s.host := rfl
@[simp] theorem State.journal_mems (s : State) (e : JEntry) : (s.journal e).mems = s.mems := rfl
@[simp] theorem State.journal_spin (s : State) (e : JEntry) : (s.journal e).spin = s.spin := rfl
@[simp] theorem State.journal_mod (s : State) (e : JEntry) : (s.journal e).mod = s.mod := rfl
@[simp] theorem State.journal_conf (s : State) (e : JEntry) : (s.journal e).conf = s.conf := rfl
@[simp] theorem State.journal_pow (s : State) (e : JEntry) : (s.journal e).pow = s.pow := rfl
@[simp] theorem State.journal_job (s : State) (e : JEntry) : (s.journal e).job = s.job := rfl
@[simp] theorem State.journal_cal (s : State) (e : JEntry) : (s.journal e).cal = s.cal := rfl
@[simp] theorem State.journal_plan (s : State) (e : JEntry) : (s.journal e).plan = s.plan := rfl
@[simp] theorem State.journal_sec (s : State) (e : JEntry) : (s.journal e).sec = s.sec := rfl
@[simp] theorem State.journal_card (s : State) (e : JEntry) : (s.journal e).card = s.card := rfl
@[simp] theorem State.journal_fuse (s : State) (e : JEntry) : (s.journal e).fuse = s.fuse := rfl
@[simp] theorem State.journal_region (s : State) (e : JEntry) : (s.journal e).region = s.region := rfl
@[simp] theorem State.journal_block (s : State) (e : JEntry) : (s.journal e).block = s.block := rfl
@[simp] theorem State.journal_cell (s : State) (e : JEntry) : (s.journal e).cell = s.cell := rfl
@[simp] theorem State.journal_guard (s : State) (e : JEntry) : (s.journal e).guard = s.guard := rfl
@[simp] theorem State.journal_light (s : State) (e : JEntry) : (s.journal e).light = s.light := rfl
@[simp] theorem State.journal_skein (s : State) (e : JEntry) : (s.journal e).skein = s.skein := rfl
@[simp] theorem State.journal_creel (s : State) (e : JEntry) : (s.journal e).creel = s.creel := rfl
@[simp] theorem State.journal_ply (s : State) (e : JEntry) : (s.journal e).ply = s.ply := rfl
@[simp] theorem State.journal_reel (s : State) (e : JEntry) : (s.journal e).reel = s.reel := rfl
@[simp] theorem State.journal_rport (s : State) (e : JEntry) : (s.journal e).rport = s.rport := rfl
@[simp] theorem State.journal_free (s : State) (e : JEntry) : (s.journal e).free = s.free := rfl
@[simp] theorem State.journal_pending (s : State) (e : JEntry) : (s.journal e).pending = s.pending := rfl

/-! ### endPiece -/

@[simp] theorem State.endPiece_time (s : State) (x : Piece) : (s.endPiece x).time = s.time := rfl
@[simp] theorem State.endPiece_obs (s : State) (x : Piece) : (s.endPiece x).obs = s.obs := rfl
@[simp] theorem State.endPiece_host (s : State) (x : Piece) : (s.endPiece x).host = s.host := rfl
@[simp] theorem State.endPiece_mems (s : State) (x : Piece) : (s.endPiece x).mems = s.mems := rfl
@[simp] theorem State.endPiece_spin (s : State) (x : Piece) : (s.endPiece x).spin = s.spin := rfl
@[simp] theorem State.endPiece_mod (s : State) (x : Piece) : (s.endPiece x).mod = s.mod := rfl
@[simp] theorem State.endPiece_conf (s : State) (x : Piece) : (s.endPiece x).conf = s.conf := rfl
@[simp] theorem State.endPiece_pow (s : State) (x : Piece) : (s.endPiece x).pow = s.pow := rfl
@[simp] theorem State.endPiece_job (s : State) (x : Piece) : (s.endPiece x).job = s.job := rfl
@[simp] theorem State.endPiece_cal (s : State) (x : Piece) : (s.endPiece x).cal = s.cal := rfl
@[simp] theorem State.endPiece_plan (s : State) (x : Piece) : (s.endPiece x).plan = s.plan := rfl
@[simp] theorem State.endPiece_sec (s : State) (x : Piece) : (s.endPiece x).sec = s.sec := rfl
@[simp] theorem State.endPiece_card (s : State) (x : Piece) : (s.endPiece x).card = s.card := rfl
@[simp] theorem State.endPiece_fuse (s : State) (x : Piece) : (s.endPiece x).fuse = s.fuse := rfl
@[simp] theorem State.endPiece_region (s : State) (x : Piece) : (s.endPiece x).region = s.region := rfl
@[simp] theorem State.endPiece_block (s : State) (x : Piece) : (s.endPiece x).block = s.block := rfl
@[simp] theorem State.endPiece_cell (s : State) (x : Piece) : (s.endPiece x).cell = s.cell := rfl
@[simp] theorem State.endPiece_guard (s : State) (x : Piece) : (s.endPiece x).guard = s.guard := rfl
@[simp] theorem State.endPiece_light (s : State) (x : Piece) : (s.endPiece x).light = s.light := rfl
@[simp] theorem State.endPiece_skein (s : State) (x : Piece) : (s.endPiece x).skein = s.skein := rfl
@[simp] theorem State.endPiece_creel (s : State) (x : Piece) : (s.endPiece x).creel = s.creel := rfl
@[simp] theorem State.endPiece_ply (s : State) (x : Piece) : (s.endPiece x).ply = s.ply := rfl
@[simp] theorem State.endPiece_memory (s : State) (x : Piece) : (s.endPiece x).memory = s.memory := rfl
@[simp] theorem State.endPiece_rport (s : State) (x : Piece) : (s.endPiece x).rport = s.rport := rfl
@[simp] theorem State.endPiece_free (s : State) (x : Piece) : (s.endPiece x).free = s.free := rfl
@[simp] theorem State.endPiece_pending (s : State) (x : Piece) : (s.endPiece x).pending = s.pending := rfl

/-! ### deregister -/

@[simp] theorem State.deregister_time (s : State) (h : Nat) : (s.deregister h).time = s.time := rfl
@[simp] theorem State.deregister_obs (s : State) (h : Nat) : (s.deregister h).obs = s.obs := rfl
@[simp] theorem State.deregister_host (s : State) (h : Nat) : (s.deregister h).host = s.host := rfl
@[simp] theorem State.deregister_mems (s : State) (h : Nat) : (s.deregister h).mems = s.mems := rfl
@[simp] theorem State.deregister_spin (s : State) (h : Nat) : (s.deregister h).spin = s.spin := rfl
@[simp] theorem State.deregister_mod (s : State) (h : Nat) : (s.deregister h).mod = s.mod := rfl
@[simp] theorem State.deregister_conf (s : State) (h : Nat) : (s.deregister h).conf = s.conf := rfl
@[simp] theorem State.deregister_pow (s : State) (h : Nat) : (s.deregister h).pow = s.pow := rfl
@[simp] theorem State.deregister_job (s : State) (h : Nat) : (s.deregister h).job = s.job := rfl
@[simp] theorem State.deregister_cal (s : State) (h : Nat) : (s.deregister h).cal = s.cal := rfl
@[simp] theorem State.deregister_plan (s : State) (h : Nat) : (s.deregister h).plan = s.plan := rfl
@[simp] theorem State.deregister_sec (s : State) (h : Nat) : (s.deregister h).sec = s.sec := rfl
@[simp] theorem State.deregister_card (s : State) (h : Nat) : (s.deregister h).card = s.card := rfl
@[simp] theorem State.deregister_fuse (s : State) (h : Nat) : (s.deregister h).fuse = s.fuse := rfl
@[simp] theorem State.deregister_region (s : State) (h : Nat) : (s.deregister h).region = s.region := rfl
@[simp] theorem State.deregister_block (s : State) (h : Nat) : (s.deregister h).block = s.block := rfl
@[simp] theorem State.deregister_cell (s : State) (h : Nat) : (s.deregister h).cell = s.cell := rfl
@[simp] theorem State.deregister_guard (s : State) (h : Nat) : (s.deregister h).guard = s.guard := rfl
@[simp] theorem State.deregister_light (s : State) (h : Nat) : (s.deregister h).light = s.light := rfl
@[simp] theorem State.deregister_skein (s : State) (h : Nat) : (s.deregister h).skein = s.skein := rfl
@[simp] theorem State.deregister_creel (s : State) (h : Nat) : (s.deregister h).creel = s.creel := rfl
@[simp] theorem State.deregister_ply (s : State) (h : Nat) : (s.deregister h).ply = s.ply := rfl
@[simp] theorem State.deregister_memory (s : State) (h : Nat) : (s.deregister h).memory = s.memory := rfl
@[simp] theorem State.deregister_rport (s : State) (h : Nat) : (s.deregister h).rport = s.rport := rfl
@[simp] theorem State.deregister_free (s : State) (h : Nat) : (s.deregister h).free = s.free := rfl
@[simp] theorem State.deregister_pending (s : State) (h : Nat) : (s.deregister h).pending = s.pending := rfl

/-! ### noteAsk -/

@[simp] theorem State.noteAsk_time (s : State) (src : BitVec 16) : (s.noteAsk src).time = s.time := rfl
@[simp] theorem State.noteAsk_obs (s : State) (src : BitVec 16) : (s.noteAsk src).obs = s.obs := rfl
@[simp] theorem State.noteAsk_host (s : State) (src : BitVec 16) : (s.noteAsk src).host = s.host := rfl
@[simp] theorem State.noteAsk_mems (s : State) (src : BitVec 16) : (s.noteAsk src).mems = s.mems := rfl
@[simp] theorem State.noteAsk_spin (s : State) (src : BitVec 16) : (s.noteAsk src).spin = s.spin := rfl
@[simp] theorem State.noteAsk_mod (s : State) (src : BitVec 16) : (s.noteAsk src).mod = s.mod := rfl
@[simp] theorem State.noteAsk_conf (s : State) (src : BitVec 16) : (s.noteAsk src).conf = s.conf := rfl
@[simp] theorem State.noteAsk_pow (s : State) (src : BitVec 16) : (s.noteAsk src).pow = s.pow := rfl
@[simp] theorem State.noteAsk_job (s : State) (src : BitVec 16) : (s.noteAsk src).job = s.job := rfl
@[simp] theorem State.noteAsk_cal (s : State) (src : BitVec 16) : (s.noteAsk src).cal = s.cal := rfl
@[simp] theorem State.noteAsk_plan (s : State) (src : BitVec 16) : (s.noteAsk src).plan = s.plan := rfl
@[simp] theorem State.noteAsk_sec (s : State) (src : BitVec 16) : (s.noteAsk src).sec = s.sec := rfl
@[simp] theorem State.noteAsk_card (s : State) (src : BitVec 16) : (s.noteAsk src).card = s.card := rfl
@[simp] theorem State.noteAsk_fuse (s : State) (src : BitVec 16) : (s.noteAsk src).fuse = s.fuse := rfl
@[simp] theorem State.noteAsk_region (s : State) (src : BitVec 16) : (s.noteAsk src).region = s.region := rfl
@[simp] theorem State.noteAsk_block (s : State) (src : BitVec 16) : (s.noteAsk src).block = s.block := rfl
@[simp] theorem State.noteAsk_cell (s : State) (src : BitVec 16) : (s.noteAsk src).cell = s.cell := rfl
@[simp] theorem State.noteAsk_guard (s : State) (src : BitVec 16) : (s.noteAsk src).guard = s.guard := rfl
@[simp] theorem State.noteAsk_light (s : State) (src : BitVec 16) : (s.noteAsk src).light = s.light := rfl
@[simp] theorem State.noteAsk_skein (s : State) (src : BitVec 16) : (s.noteAsk src).skein = s.skein := rfl
@[simp] theorem State.noteAsk_creel (s : State) (src : BitVec 16) : (s.noteAsk src).creel = s.creel := rfl
@[simp] theorem State.noteAsk_ply (s : State) (src : BitVec 16) : (s.noteAsk src).ply = s.ply := rfl
@[simp] theorem State.noteAsk_memory (s : State) (src : BitVec 16) : (s.noteAsk src).memory = s.memory := rfl
@[simp] theorem State.noteAsk_rport (s : State) (src : BitVec 16) : (s.noteAsk src).rport = s.rport := rfl
@[simp] theorem State.noteAsk_free (s : State) (src : BitVec 16) : (s.noteAsk src).free = s.free := rfl
@[simp] theorem State.noteAsk_pending (s : State) (src : BitVec 16) : (s.noteAsk src).pending = s.pending := rfl

/-! ### dropLaunch -/

@[simp] theorem State.dropLaunch_time (s : State) (n : BitVec 32) : (s.dropLaunch n).time = s.time := rfl
@[simp] theorem State.dropLaunch_obs (s : State) (n : BitVec 32) : (s.dropLaunch n).obs = s.obs := rfl
@[simp] theorem State.dropLaunch_host (s : State) (n : BitVec 32) : (s.dropLaunch n).host = s.host := rfl
@[simp] theorem State.dropLaunch_mems (s : State) (n : BitVec 32) : (s.dropLaunch n).mems = s.mems := rfl
@[simp] theorem State.dropLaunch_spin (s : State) (n : BitVec 32) : (s.dropLaunch n).spin = s.spin := rfl
@[simp] theorem State.dropLaunch_mod (s : State) (n : BitVec 32) : (s.dropLaunch n).mod = s.mod := rfl
@[simp] theorem State.dropLaunch_conf (s : State) (n : BitVec 32) : (s.dropLaunch n).conf = s.conf := rfl
@[simp] theorem State.dropLaunch_pow (s : State) (n : BitVec 32) : (s.dropLaunch n).pow = s.pow := rfl
@[simp] theorem State.dropLaunch_cal (s : State) (n : BitVec 32) : (s.dropLaunch n).cal = s.cal := rfl
@[simp] theorem State.dropLaunch_plan (s : State) (n : BitVec 32) : (s.dropLaunch n).plan = s.plan := rfl
@[simp] theorem State.dropLaunch_sec (s : State) (n : BitVec 32) : (s.dropLaunch n).sec = s.sec := rfl
@[simp] theorem State.dropLaunch_card (s : State) (n : BitVec 32) : (s.dropLaunch n).card = s.card := rfl
@[simp] theorem State.dropLaunch_fuse (s : State) (n : BitVec 32) : (s.dropLaunch n).fuse = s.fuse := rfl
@[simp] theorem State.dropLaunch_region (s : State) (n : BitVec 32) : (s.dropLaunch n).region = s.region := rfl
@[simp] theorem State.dropLaunch_block (s : State) (n : BitVec 32) : (s.dropLaunch n).block = s.block := rfl
@[simp] theorem State.dropLaunch_cell (s : State) (n : BitVec 32) : (s.dropLaunch n).cell = s.cell := rfl
@[simp] theorem State.dropLaunch_guard (s : State) (n : BitVec 32) : (s.dropLaunch n).guard = s.guard := rfl
@[simp] theorem State.dropLaunch_light (s : State) (n : BitVec 32) : (s.dropLaunch n).light = s.light := rfl
@[simp] theorem State.dropLaunch_skein (s : State) (n : BitVec 32) : (s.dropLaunch n).skein = s.skein := rfl
@[simp] theorem State.dropLaunch_creel (s : State) (n : BitVec 32) : (s.dropLaunch n).creel = s.creel := rfl
@[simp] theorem State.dropLaunch_ply (s : State) (n : BitVec 32) : (s.dropLaunch n).ply = s.ply := rfl
@[simp] theorem State.dropLaunch_memory (s : State) (n : BitVec 32) : (s.dropLaunch n).memory = s.memory := rfl
@[simp] theorem State.dropLaunch_reel (s : State) (n : BitVec 32) : (s.dropLaunch n).reel = s.reel := rfl
@[simp] theorem State.dropLaunch_rport (s : State) (n : BitVec 32) : (s.dropLaunch n).rport = s.rport := rfl
@[simp] theorem State.dropLaunch_free (s : State) (n : BitVec 32) : (s.dropLaunch n).free = s.free := rfl
@[simp] theorem State.dropLaunch_pending (s : State) (n : BitVec 32) : (s.dropLaunch n).pending = s.pending := rfl

/-! ### closeJob -/

@[simp] theorem State.closeJob_time (s : State) : (s.closeJob).time = s.time := rfl
@[simp] theorem State.closeJob_obs (s : State) : (s.closeJob).obs = s.obs := rfl
@[simp] theorem State.closeJob_host (s : State) : (s.closeJob).host = s.host := rfl
@[simp] theorem State.closeJob_mems (s : State) : (s.closeJob).mems = s.mems := rfl
@[simp] theorem State.closeJob_spin (s : State) : (s.closeJob).spin = s.spin := rfl
@[simp] theorem State.closeJob_mod (s : State) : (s.closeJob).mod = s.mod := rfl
@[simp] theorem State.closeJob_conf (s : State) : (s.closeJob).conf = s.conf := rfl
@[simp] theorem State.closeJob_pow (s : State) : (s.closeJob).pow = s.pow := rfl
@[simp] theorem State.closeJob_cal (s : State) : (s.closeJob).cal = s.cal := rfl
@[simp] theorem State.closeJob_plan (s : State) : (s.closeJob).plan = s.plan := rfl
@[simp] theorem State.closeJob_sec (s : State) : (s.closeJob).sec = s.sec := rfl
@[simp] theorem State.closeJob_card (s : State) : (s.closeJob).card = s.card := rfl
@[simp] theorem State.closeJob_fuse (s : State) : (s.closeJob).fuse = s.fuse := rfl
@[simp] theorem State.closeJob_region (s : State) : (s.closeJob).region = s.region := rfl
@[simp] theorem State.closeJob_block (s : State) : (s.closeJob).block = s.block := rfl
@[simp] theorem State.closeJob_cell (s : State) : (s.closeJob).cell = s.cell := rfl
@[simp] theorem State.closeJob_guard (s : State) : (s.closeJob).guard = s.guard := rfl
@[simp] theorem State.closeJob_light (s : State) : (s.closeJob).light = s.light := rfl
@[simp] theorem State.closeJob_skein (s : State) : (s.closeJob).skein = s.skein := rfl
@[simp] theorem State.closeJob_creel (s : State) : (s.closeJob).creel = s.creel := rfl
@[simp] theorem State.closeJob_ply (s : State) : (s.closeJob).ply = s.ply := rfl
@[simp] theorem State.closeJob_memory (s : State) : (s.closeJob).memory = s.memory := rfl
@[simp] theorem State.closeJob_reel (s : State) : (s.closeJob).reel = s.reel := rfl
@[simp] theorem State.closeJob_rport (s : State) : (s.closeJob).rport = s.rport := rfl
@[simp] theorem State.closeJob_free (s : State) : (s.closeJob).free = s.free := rfl
@[simp] theorem State.closeJob_pending (s : State) : (s.closeJob).pending = s.pending := rfl

/-! ### modSrc -/

@[simp] theorem State.modSrc_time (s : State) (src t : Nat) (f : SrcAt → SrcAt) : (s.modSrc src t f).time = s.time := rfl
@[simp] theorem State.modSrc_host (s : State) (src t : Nat) (f : SrcAt → SrcAt) : (s.modSrc src t f).host = s.host := rfl
@[simp] theorem State.modSrc_mems (s : State) (src t : Nat) (f : SrcAt → SrcAt) : (s.modSrc src t f).mems = s.mems := rfl
@[simp] theorem State.modSrc_spin (s : State) (src t : Nat) (f : SrcAt → SrcAt) : (s.modSrc src t f).spin = s.spin := rfl
@[simp] theorem State.modSrc_mod (s : State) (src t : Nat) (f : SrcAt → SrcAt) : (s.modSrc src t f).mod = s.mod := rfl
@[simp] theorem State.modSrc_conf (s : State) (src t : Nat) (f : SrcAt → SrcAt) : (s.modSrc src t f).conf = s.conf := rfl
@[simp] theorem State.modSrc_pow (s : State) (src t : Nat) (f : SrcAt → SrcAt) : (s.modSrc src t f).pow = s.pow := rfl
@[simp] theorem State.modSrc_job (s : State) (src t : Nat) (f : SrcAt → SrcAt) : (s.modSrc src t f).job = s.job := rfl
@[simp] theorem State.modSrc_cal (s : State) (src t : Nat) (f : SrcAt → SrcAt) : (s.modSrc src t f).cal = s.cal := rfl
@[simp] theorem State.modSrc_plan (s : State) (src t : Nat) (f : SrcAt → SrcAt) : (s.modSrc src t f).plan = s.plan := rfl
@[simp] theorem State.modSrc_sec (s : State) (src t : Nat) (f : SrcAt → SrcAt) : (s.modSrc src t f).sec = s.sec := rfl
@[simp] theorem State.modSrc_card (s : State) (src t : Nat) (f : SrcAt → SrcAt) : (s.modSrc src t f).card = s.card := rfl
@[simp] theorem State.modSrc_fuse (s : State) (src t : Nat) (f : SrcAt → SrcAt) : (s.modSrc src t f).fuse = s.fuse := rfl
@[simp] theorem State.modSrc_region (s : State) (src t : Nat) (f : SrcAt → SrcAt) : (s.modSrc src t f).region = s.region := rfl
@[simp] theorem State.modSrc_block (s : State) (src t : Nat) (f : SrcAt → SrcAt) : (s.modSrc src t f).block = s.block := rfl
@[simp] theorem State.modSrc_cell (s : State) (src t : Nat) (f : SrcAt → SrcAt) : (s.modSrc src t f).cell = s.cell := rfl
@[simp] theorem State.modSrc_guard (s : State) (src t : Nat) (f : SrcAt → SrcAt) : (s.modSrc src t f).guard = s.guard := rfl
@[simp] theorem State.modSrc_light (s : State) (src t : Nat) (f : SrcAt → SrcAt) : (s.modSrc src t f).light = s.light := rfl
@[simp] theorem State.modSrc_skein (s : State) (src t : Nat) (f : SrcAt → SrcAt) : (s.modSrc src t f).skein = s.skein := rfl
@[simp] theorem State.modSrc_creel (s : State) (src t : Nat) (f : SrcAt → SrcAt) : (s.modSrc src t f).creel = s.creel := rfl
@[simp] theorem State.modSrc_ply (s : State) (src t : Nat) (f : SrcAt → SrcAt) : (s.modSrc src t f).ply = s.ply := rfl
@[simp] theorem State.modSrc_memory (s : State) (src t : Nat) (f : SrcAt → SrcAt) : (s.modSrc src t f).memory = s.memory := rfl
@[simp] theorem State.modSrc_reel (s : State) (src t : Nat) (f : SrcAt → SrcAt) : (s.modSrc src t f).reel = s.reel := rfl
@[simp] theorem State.modSrc_rport (s : State) (src t : Nat) (f : SrcAt → SrcAt) : (s.modSrc src t f).rport = s.rport := rfl
@[simp] theorem State.modSrc_free (s : State) (src t : Nat) (f : SrcAt → SrcAt) : (s.modSrc src t f).free = s.free := rfl
@[simp] theorem State.modSrc_pending (s : State) (src t : Nat) (f : SrcAt → SrcAt) : (s.modSrc src t f).pending = s.pending := rfl

/-! ### putRecord -/

@[simp] theorem State.putRecord_time (s : State) (n : Nat) (bs : List Byte) : (s.putRecord n bs).time = s.time := rfl
@[simp] theorem State.putRecord_obs (s : State) (n : Nat) (bs : List Byte) : (s.putRecord n bs).obs = s.obs := rfl
@[simp] theorem State.putRecord_spin (s : State) (n : Nat) (bs : List Byte) : (s.putRecord n bs).spin = s.spin := rfl
@[simp] theorem State.putRecord_mod (s : State) (n : Nat) (bs : List Byte) : (s.putRecord n bs).mod = s.mod := rfl
@[simp] theorem State.putRecord_conf (s : State) (n : Nat) (bs : List Byte) : (s.putRecord n bs).conf = s.conf := rfl
@[simp] theorem State.putRecord_pow (s : State) (n : Nat) (bs : List Byte) : (s.putRecord n bs).pow = s.pow := rfl
@[simp] theorem State.putRecord_job (s : State) (n : Nat) (bs : List Byte) : (s.putRecord n bs).job = s.job := rfl
@[simp] theorem State.putRecord_cal (s : State) (n : Nat) (bs : List Byte) : (s.putRecord n bs).cal = s.cal := rfl
@[simp] theorem State.putRecord_plan (s : State) (n : Nat) (bs : List Byte) : (s.putRecord n bs).plan = s.plan := rfl
@[simp] theorem State.putRecord_sec (s : State) (n : Nat) (bs : List Byte) : (s.putRecord n bs).sec = s.sec := rfl
@[simp] theorem State.putRecord_card (s : State) (n : Nat) (bs : List Byte) : (s.putRecord n bs).card = s.card := rfl
@[simp] theorem State.putRecord_fuse (s : State) (n : Nat) (bs : List Byte) : (s.putRecord n bs).fuse = s.fuse := rfl
@[simp] theorem State.putRecord_region (s : State) (n : Nat) (bs : List Byte) : (s.putRecord n bs).region = s.region := rfl
@[simp] theorem State.putRecord_block (s : State) (n : Nat) (bs : List Byte) : (s.putRecord n bs).block = s.block := rfl
@[simp] theorem State.putRecord_cell (s : State) (n : Nat) (bs : List Byte) : (s.putRecord n bs).cell = s.cell := rfl
@[simp] theorem State.putRecord_guard (s : State) (n : Nat) (bs : List Byte) : (s.putRecord n bs).guard = s.guard := rfl
@[simp] theorem State.putRecord_light (s : State) (n : Nat) (bs : List Byte) : (s.putRecord n bs).light = s.light := rfl
@[simp] theorem State.putRecord_skein (s : State) (n : Nat) (bs : List Byte) : (s.putRecord n bs).skein = s.skein := rfl
@[simp] theorem State.putRecord_creel (s : State) (n : Nat) (bs : List Byte) : (s.putRecord n bs).creel = s.creel := rfl
@[simp] theorem State.putRecord_ply (s : State) (n : Nat) (bs : List Byte) : (s.putRecord n bs).ply = s.ply := rfl
@[simp] theorem State.putRecord_memory (s : State) (n : Nat) (bs : List Byte) : (s.putRecord n bs).memory = s.memory := rfl
@[simp] theorem State.putRecord_reel (s : State) (n : Nat) (bs : List Byte) : (s.putRecord n bs).reel = s.reel := rfl
@[simp] theorem State.putRecord_rport (s : State) (n : Nat) (bs : List Byte) : (s.putRecord n bs).rport = s.rport := rfl
@[simp] theorem State.putRecord_free (s : State) (n : Nat) (bs : List Byte) : (s.putRecord n bs).free = s.free := rfl
@[simp] theorem State.putRecord_pending (s : State) (n : Nat) (bs : List Byte) : (s.putRecord n bs).pending = s.pending := rfl

/-! ### modTarget -/

@[simp] theorem State.modTarget_time (s : State) (t : Nat) (f : TargetSt → TargetSt) : (s.modTarget t f).time = s.time := rfl
@[simp] theorem State.modTarget_host (s : State) (t : Nat) (f : TargetSt → TargetSt) : (s.modTarget t f).host = s.host := rfl
@[simp] theorem State.modTarget_mems (s : State) (t : Nat) (f : TargetSt → TargetSt) : (s.modTarget t f).mems = s.mems := rfl
@[simp] theorem State.modTarget_spin (s : State) (t : Nat) (f : TargetSt → TargetSt) : (s.modTarget t f).spin = s.spin := rfl
@[simp] theorem State.modTarget_mod (s : State) (t : Nat) (f : TargetSt → TargetSt) : (s.modTarget t f).mod = s.mod := rfl
@[simp] theorem State.modTarget_conf (s : State) (t : Nat) (f : TargetSt → TargetSt) : (s.modTarget t f).conf = s.conf := rfl
@[simp] theorem State.modTarget_pow (s : State) (t : Nat) (f : TargetSt → TargetSt) : (s.modTarget t f).pow = s.pow := rfl
@[simp] theorem State.modTarget_job (s : State) (t : Nat) (f : TargetSt → TargetSt) : (s.modTarget t f).job = s.job := rfl
@[simp] theorem State.modTarget_cal (s : State) (t : Nat) (f : TargetSt → TargetSt) : (s.modTarget t f).cal = s.cal := rfl
@[simp] theorem State.modTarget_plan (s : State) (t : Nat) (f : TargetSt → TargetSt) : (s.modTarget t f).plan = s.plan := rfl
@[simp] theorem State.modTarget_sec (s : State) (t : Nat) (f : TargetSt → TargetSt) : (s.modTarget t f).sec = s.sec := rfl
@[simp] theorem State.modTarget_card (s : State) (t : Nat) (f : TargetSt → TargetSt) : (s.modTarget t f).card = s.card := rfl
@[simp] theorem State.modTarget_fuse (s : State) (t : Nat) (f : TargetSt → TargetSt) : (s.modTarget t f).fuse = s.fuse := rfl
@[simp] theorem State.modTarget_region (s : State) (t : Nat) (f : TargetSt → TargetSt) : (s.modTarget t f).region = s.region := rfl
@[simp] theorem State.modTarget_block (s : State) (t : Nat) (f : TargetSt → TargetSt) : (s.modTarget t f).block = s.block := rfl
@[simp] theorem State.modTarget_cell (s : State) (t : Nat) (f : TargetSt → TargetSt) : (s.modTarget t f).cell = s.cell := rfl
@[simp] theorem State.modTarget_guard (s : State) (t : Nat) (f : TargetSt → TargetSt) : (s.modTarget t f).guard = s.guard := rfl
@[simp] theorem State.modTarget_light (s : State) (t : Nat) (f : TargetSt → TargetSt) : (s.modTarget t f).light = s.light := rfl
@[simp] theorem State.modTarget_skein (s : State) (t : Nat) (f : TargetSt → TargetSt) : (s.modTarget t f).skein = s.skein := rfl
@[simp] theorem State.modTarget_creel (s : State) (t : Nat) (f : TargetSt → TargetSt) : (s.modTarget t f).creel = s.creel := rfl
@[simp] theorem State.modTarget_ply (s : State) (t : Nat) (f : TargetSt → TargetSt) : (s.modTarget t f).ply = s.ply := rfl
@[simp] theorem State.modTarget_memory (s : State) (t : Nat) (f : TargetSt → TargetSt) : (s.modTarget t f).memory = s.memory := rfl
@[simp] theorem State.modTarget_reel (s : State) (t : Nat) (f : TargetSt → TargetSt) : (s.modTarget t f).reel = s.reel := rfl
@[simp] theorem State.modTarget_rport (s : State) (t : Nat) (f : TargetSt → TargetSt) : (s.modTarget t f).rport = s.rport := rfl
@[simp] theorem State.modTarget_free (s : State) (t : Nat) (f : TargetSt → TargetSt) : (s.modTarget t f).free = s.free := rfl
@[simp] theorem State.modTarget_pending (s : State) (t : Nat) (f : TargetSt → TargetSt) : (s.modTarget t f).pending = s.pending := rfl

/-! ### loseEntries -/

@[simp] theorem State.loseEntries_time (s : State) (n : Nat) : (s.loseEntries n).time = s.time := rfl
@[simp] theorem State.loseEntries_obs (s : State) (n : Nat) : (s.loseEntries n).obs = s.obs := rfl
@[simp] theorem State.loseEntries_mems (s : State) (n : Nat) : (s.loseEntries n).mems = s.mems := rfl
@[simp] theorem State.loseEntries_mod (s : State) (n : Nat) : (s.loseEntries n).mod = s.mod := rfl
@[simp] theorem State.loseEntries_conf (s : State) (n : Nat) : (s.loseEntries n).conf = s.conf := rfl
@[simp] theorem State.loseEntries_pow (s : State) (n : Nat) : (s.loseEntries n).pow = s.pow := rfl
@[simp] theorem State.loseEntries_job (s : State) (n : Nat) : (s.loseEntries n).job = s.job := rfl
@[simp] theorem State.loseEntries_cal (s : State) (n : Nat) : (s.loseEntries n).cal = s.cal := rfl
@[simp] theorem State.loseEntries_plan (s : State) (n : Nat) : (s.loseEntries n).plan = s.plan := rfl
@[simp] theorem State.loseEntries_sec (s : State) (n : Nat) : (s.loseEntries n).sec = s.sec := rfl
@[simp] theorem State.loseEntries_card (s : State) (n : Nat) : (s.loseEntries n).card = s.card := rfl
@[simp] theorem State.loseEntries_fuse (s : State) (n : Nat) : (s.loseEntries n).fuse = s.fuse := rfl
@[simp] theorem State.loseEntries_region (s : State) (n : Nat) : (s.loseEntries n).region = s.region := rfl
@[simp] theorem State.loseEntries_block (s : State) (n : Nat) : (s.loseEntries n).block = s.block := rfl
@[simp] theorem State.loseEntries_cell (s : State) (n : Nat) : (s.loseEntries n).cell = s.cell := rfl
@[simp] theorem State.loseEntries_guard (s : State) (n : Nat) : (s.loseEntries n).guard = s.guard := rfl
@[simp] theorem State.loseEntries_light (s : State) (n : Nat) : (s.loseEntries n).light = s.light := rfl
@[simp] theorem State.loseEntries_skein (s : State) (n : Nat) : (s.loseEntries n).skein = s.skein := rfl
@[simp] theorem State.loseEntries_creel (s : State) (n : Nat) : (s.loseEntries n).creel = s.creel := rfl
@[simp] theorem State.loseEntries_ply (s : State) (n : Nat) : (s.loseEntries n).ply = s.ply := rfl
@[simp] theorem State.loseEntries_memory (s : State) (n : Nat) : (s.loseEntries n).memory = s.memory := rfl
@[simp] theorem State.loseEntries_reel (s : State) (n : Nat) : (s.loseEntries n).reel = s.reel := rfl
@[simp] theorem State.loseEntries_rport (s : State) (n : Nat) : (s.loseEntries n).rport = s.rport := rfl
@[simp] theorem State.loseEntries_free (s : State) (n : Nat) : (s.loseEntries n).free = s.free := rfl
@[simp] theorem State.loseEntries_pending (s : State) (n : Nat) : (s.loseEntries n).pending = s.pending := rfl

/-! ### setRing -/

@[simp] theorem State.setRing_time (s : State) (k : Nat) (w : Word) : (s.setRing k w).time = s.time := rfl
@[simp] theorem State.setRing_obs (s : State) (k : Nat) (w : Word) : (s.setRing k w).obs = s.obs := rfl
@[simp] theorem State.setRing_mems (s : State) (k : Nat) (w : Word) : (s.setRing k w).mems = s.mems := rfl
@[simp] theorem State.setRing_spin (s : State) (k : Nat) (w : Word) : (s.setRing k w).spin = s.spin := rfl
@[simp] theorem State.setRing_mod (s : State) (k : Nat) (w : Word) : (s.setRing k w).mod = s.mod := rfl
@[simp] theorem State.setRing_conf (s : State) (k : Nat) (w : Word) : (s.setRing k w).conf = s.conf := rfl
@[simp] theorem State.setRing_pow (s : State) (k : Nat) (w : Word) : (s.setRing k w).pow = s.pow := rfl
@[simp] theorem State.setRing_job (s : State) (k : Nat) (w : Word) : (s.setRing k w).job = s.job := rfl
@[simp] theorem State.setRing_cal (s : State) (k : Nat) (w : Word) : (s.setRing k w).cal = s.cal := rfl
@[simp] theorem State.setRing_plan (s : State) (k : Nat) (w : Word) : (s.setRing k w).plan = s.plan := rfl
@[simp] theorem State.setRing_sec (s : State) (k : Nat) (w : Word) : (s.setRing k w).sec = s.sec := rfl
@[simp] theorem State.setRing_card (s : State) (k : Nat) (w : Word) : (s.setRing k w).card = s.card := rfl
@[simp] theorem State.setRing_fuse (s : State) (k : Nat) (w : Word) : (s.setRing k w).fuse = s.fuse := rfl
@[simp] theorem State.setRing_region (s : State) (k : Nat) (w : Word) : (s.setRing k w).region = s.region := rfl
@[simp] theorem State.setRing_block (s : State) (k : Nat) (w : Word) : (s.setRing k w).block = s.block := rfl
@[simp] theorem State.setRing_cell (s : State) (k : Nat) (w : Word) : (s.setRing k w).cell = s.cell := rfl
@[simp] theorem State.setRing_guard (s : State) (k : Nat) (w : Word) : (s.setRing k w).guard = s.guard := rfl
@[simp] theorem State.setRing_light (s : State) (k : Nat) (w : Word) : (s.setRing k w).light = s.light := rfl
@[simp] theorem State.setRing_skein (s : State) (k : Nat) (w : Word) : (s.setRing k w).skein = s.skein := rfl
@[simp] theorem State.setRing_creel (s : State) (k : Nat) (w : Word) : (s.setRing k w).creel = s.creel := rfl
@[simp] theorem State.setRing_ply (s : State) (k : Nat) (w : Word) : (s.setRing k w).ply = s.ply := rfl
@[simp] theorem State.setRing_memory (s : State) (k : Nat) (w : Word) : (s.setRing k w).memory = s.memory := rfl
@[simp] theorem State.setRing_reel (s : State) (k : Nat) (w : Word) : (s.setRing k w).reel = s.reel := rfl
@[simp] theorem State.setRing_rport (s : State) (k : Nat) (w : Word) : (s.setRing k w).rport = s.rport := rfl
@[simp] theorem State.setRing_free (s : State) (k : Nat) (w : Word) : (s.setRing k w).free = s.free := rfl
@[simp] theorem State.setRing_pending (s : State) (k : Nat) (w : Word) : (s.setRing k w).pending = s.pending := rfl

/-! ### modSp -/

@[simp] theorem State.modSp_time (s : State) (d : IoDie) (f : Spindle → Spindle) : (s.modSp d f).time = s.time := rfl
@[simp] theorem State.modSp_obs (s : State) (d : IoDie) (f : Spindle → Spindle) : (s.modSp d f).obs = s.obs := rfl
@[simp] theorem State.modSp_host (s : State) (d : IoDie) (f : Spindle → Spindle) : (s.modSp d f).host = s.host := rfl
@[simp] theorem State.modSp_mems (s : State) (d : IoDie) (f : Spindle → Spindle) : (s.modSp d f).mems = s.mems := rfl
@[simp] theorem State.modSp_mod (s : State) (d : IoDie) (f : Spindle → Spindle) : (s.modSp d f).mod = s.mod := rfl
@[simp] theorem State.modSp_conf (s : State) (d : IoDie) (f : Spindle → Spindle) : (s.modSp d f).conf = s.conf := rfl
@[simp] theorem State.modSp_pow (s : State) (d : IoDie) (f : Spindle → Spindle) : (s.modSp d f).pow = s.pow := rfl
@[simp] theorem State.modSp_job (s : State) (d : IoDie) (f : Spindle → Spindle) : (s.modSp d f).job = s.job := rfl
@[simp] theorem State.modSp_cal (s : State) (d : IoDie) (f : Spindle → Spindle) : (s.modSp d f).cal = s.cal := rfl
@[simp] theorem State.modSp_plan (s : State) (d : IoDie) (f : Spindle → Spindle) : (s.modSp d f).plan = s.plan := rfl
@[simp] theorem State.modSp_sec (s : State) (d : IoDie) (f : Spindle → Spindle) : (s.modSp d f).sec = s.sec := rfl
@[simp] theorem State.modSp_card (s : State) (d : IoDie) (f : Spindle → Spindle) : (s.modSp d f).card = s.card := rfl
@[simp] theorem State.modSp_fuse (s : State) (d : IoDie) (f : Spindle → Spindle) : (s.modSp d f).fuse = s.fuse := rfl
@[simp] theorem State.modSp_region (s : State) (d : IoDie) (f : Spindle → Spindle) : (s.modSp d f).region = s.region := rfl
@[simp] theorem State.modSp_block (s : State) (d : IoDie) (f : Spindle → Spindle) : (s.modSp d f).block = s.block := rfl
@[simp] theorem State.modSp_cell (s : State) (d : IoDie) (f : Spindle → Spindle) : (s.modSp d f).cell = s.cell := rfl
@[simp] theorem State.modSp_guard (s : State) (d : IoDie) (f : Spindle → Spindle) : (s.modSp d f).guard = s.guard := rfl
@[simp] theorem State.modSp_light (s : State) (d : IoDie) (f : Spindle → Spindle) : (s.modSp d f).light = s.light := rfl
@[simp] theorem State.modSp_skein (s : State) (d : IoDie) (f : Spindle → Spindle) : (s.modSp d f).skein = s.skein := rfl
@[simp] theorem State.modSp_creel (s : State) (d : IoDie) (f : Spindle → Spindle) : (s.modSp d f).creel = s.creel := rfl
@[simp] theorem State.modSp_ply (s : State) (d : IoDie) (f : Spindle → Spindle) : (s.modSp d f).ply = s.ply := rfl
@[simp] theorem State.modSp_memory (s : State) (d : IoDie) (f : Spindle → Spindle) : (s.modSp d f).memory = s.memory := rfl
@[simp] theorem State.modSp_reel (s : State) (d : IoDie) (f : Spindle → Spindle) : (s.modSp d f).reel = s.reel := rfl
@[simp] theorem State.modSp_rport (s : State) (d : IoDie) (f : Spindle → Spindle) : (s.modSp d f).rport = s.rport := rfl
@[simp] theorem State.modSp_free (s : State) (d : IoDie) (f : Spindle → Spindle) : (s.modSp d f).free = s.free := rfl
@[simp] theorem State.modSp_pending (s : State) (d : IoDie) (f : Spindle → Spindle) : (s.modSp d f).pending = s.pending := rfl

/-! ### gate -/

@[simp] theorem State.gate_time (s : State) (d : IoDie) (ws : List (Word × Word)) : (s.gate d ws).time = s.time := rfl
@[simp] theorem State.gate_obs (s : State) (d : IoDie) (ws : List (Word × Word)) : (s.gate d ws).obs = s.obs := rfl
@[simp] theorem State.gate_host (s : State) (d : IoDie) (ws : List (Word × Word)) : (s.gate d ws).host = s.host := rfl
@[simp] theorem State.gate_mems (s : State) (d : IoDie) (ws : List (Word × Word)) : (s.gate d ws).mems = s.mems := rfl
@[simp] theorem State.gate_mod (s : State) (d : IoDie) (ws : List (Word × Word)) : (s.gate d ws).mod = s.mod := rfl
@[simp] theorem State.gate_conf (s : State) (d : IoDie) (ws : List (Word × Word)) : (s.gate d ws).conf = s.conf := rfl
@[simp] theorem State.gate_pow (s : State) (d : IoDie) (ws : List (Word × Word)) : (s.gate d ws).pow = s.pow := rfl
@[simp] theorem State.gate_job (s : State) (d : IoDie) (ws : List (Word × Word)) : (s.gate d ws).job = s.job := rfl
@[simp] theorem State.gate_cal (s : State) (d : IoDie) (ws : List (Word × Word)) : (s.gate d ws).cal = s.cal := rfl
@[simp] theorem State.gate_plan (s : State) (d : IoDie) (ws : List (Word × Word)) : (s.gate d ws).plan = s.plan := rfl
@[simp] theorem State.gate_sec (s : State) (d : IoDie) (ws : List (Word × Word)) : (s.gate d ws).sec = s.sec := rfl
@[simp] theorem State.gate_card (s : State) (d : IoDie) (ws : List (Word × Word)) : (s.gate d ws).card = s.card := rfl
@[simp] theorem State.gate_fuse (s : State) (d : IoDie) (ws : List (Word × Word)) : (s.gate d ws).fuse = s.fuse := rfl
@[simp] theorem State.gate_region (s : State) (d : IoDie) (ws : List (Word × Word)) : (s.gate d ws).region = s.region := rfl
@[simp] theorem State.gate_block (s : State) (d : IoDie) (ws : List (Word × Word)) : (s.gate d ws).block = s.block := rfl
@[simp] theorem State.gate_cell (s : State) (d : IoDie) (ws : List (Word × Word)) : (s.gate d ws).cell = s.cell := rfl
@[simp] theorem State.gate_guard (s : State) (d : IoDie) (ws : List (Word × Word)) : (s.gate d ws).guard = s.guard := rfl
@[simp] theorem State.gate_light (s : State) (d : IoDie) (ws : List (Word × Word)) : (s.gate d ws).light = s.light := rfl
@[simp] theorem State.gate_skein (s : State) (d : IoDie) (ws : List (Word × Word)) : (s.gate d ws).skein = s.skein := rfl
@[simp] theorem State.gate_creel (s : State) (d : IoDie) (ws : List (Word × Word)) : (s.gate d ws).creel = s.creel := rfl
@[simp] theorem State.gate_ply (s : State) (d : IoDie) (ws : List (Word × Word)) : (s.gate d ws).ply = s.ply := rfl
@[simp] theorem State.gate_memory (s : State) (d : IoDie) (ws : List (Word × Word)) : (s.gate d ws).memory = s.memory := rfl
@[simp] theorem State.gate_reel (s : State) (d : IoDie) (ws : List (Word × Word)) : (s.gate d ws).reel = s.reel := rfl
@[simp] theorem State.gate_rport (s : State) (d : IoDie) (ws : List (Word × Word)) : (s.gate d ws).rport = s.rport := rfl
@[simp] theorem State.gate_free (s : State) (d : IoDie) (ws : List (Word × Word)) : (s.gate d ws).free = s.free := rfl
@[simp] theorem State.gate_pending (s : State) (d : IoDie) (ws : List (Word × Word)) : (s.gate d ws).pending = s.pending := rfl

/-! ### accumulate -/

@[simp] theorem State.accumulate_time (s : State) : (s.accumulate).time = s.time := rfl
@[simp] theorem State.accumulate_obs (s : State) : (s.accumulate).obs = s.obs := rfl
@[simp] theorem State.accumulate_host (s : State) : (s.accumulate).host = s.host := rfl
@[simp] theorem State.accumulate_mems (s : State) : (s.accumulate).mems = s.mems := rfl
@[simp] theorem State.accumulate_spin (s : State) : (s.accumulate).spin = s.spin := rfl
@[simp] theorem State.accumulate_mod (s : State) : (s.accumulate).mod = s.mod := rfl
@[simp] theorem State.accumulate_conf (s : State) : (s.accumulate).conf = s.conf := rfl
@[simp] theorem State.accumulate_pow (s : State) : (s.accumulate).pow = s.pow := rfl
@[simp] theorem State.accumulate_job (s : State) : (s.accumulate).job = s.job := rfl
@[simp] theorem State.accumulate_sec (s : State) : (s.accumulate).sec = s.sec := rfl
@[simp] theorem State.accumulate_card (s : State) : (s.accumulate).card = s.card := rfl
@[simp] theorem State.accumulate_fuse (s : State) : (s.accumulate).fuse = s.fuse := rfl
@[simp] theorem State.accumulate_region (s : State) : (s.accumulate).region = s.region := rfl
@[simp] theorem State.accumulate_block (s : State) : (s.accumulate).block = s.block := rfl
@[simp] theorem State.accumulate_cell (s : State) : (s.accumulate).cell = s.cell := rfl
@[simp] theorem State.accumulate_guard (s : State) : (s.accumulate).guard = s.guard := rfl
@[simp] theorem State.accumulate_light (s : State) : (s.accumulate).light = s.light := rfl
@[simp] theorem State.accumulate_skein (s : State) : (s.accumulate).skein = s.skein := rfl
@[simp] theorem State.accumulate_creel (s : State) : (s.accumulate).creel = s.creel := rfl
@[simp] theorem State.accumulate_ply (s : State) : (s.accumulate).ply = s.ply := rfl
@[simp] theorem State.accumulate_memory (s : State) : (s.accumulate).memory = s.memory := rfl
@[simp] theorem State.accumulate_reel (s : State) : (s.accumulate).reel = s.reel := rfl
@[simp] theorem State.accumulate_rport (s : State) : (s.accumulate).rport = s.rport := rfl
@[simp] theorem State.accumulate_free (s : State) : (s.accumulate).free = s.free := rfl
@[simp] theorem State.accumulate_pending (s : State) : (s.accumulate).pending = s.pending := rfl

/-! ### modStores -/

@[simp] theorem State.modStores_time (s : State) (f : Store → Store) : (s.modStores f).time = s.time := rfl
@[simp] theorem State.modStores_host (s : State) (f : Store → Store) : (s.modStores f).host = s.host := rfl
@[simp] theorem State.modStores_mems (s : State) (f : Store → Store) : (s.modStores f).mems = s.mems := rfl
@[simp] theorem State.modStores_spin (s : State) (f : Store → Store) : (s.modStores f).spin = s.spin := rfl
@[simp] theorem State.modStores_mod (s : State) (f : Store → Store) : (s.modStores f).mod = s.mod := rfl
@[simp] theorem State.modStores_conf (s : State) (f : Store → Store) : (s.modStores f).conf = s.conf := rfl
@[simp] theorem State.modStores_pow (s : State) (f : Store → Store) : (s.modStores f).pow = s.pow := rfl
@[simp] theorem State.modStores_job (s : State) (f : Store → Store) : (s.modStores f).job = s.job := rfl
@[simp] theorem State.modStores_cal (s : State) (f : Store → Store) : (s.modStores f).cal = s.cal := rfl
@[simp] theorem State.modStores_plan (s : State) (f : Store → Store) : (s.modStores f).plan = s.plan := rfl
@[simp] theorem State.modStores_sec (s : State) (f : Store → Store) : (s.modStores f).sec = s.sec := rfl
@[simp] theorem State.modStores_card (s : State) (f : Store → Store) : (s.modStores f).card = s.card := rfl
@[simp] theorem State.modStores_fuse (s : State) (f : Store → Store) : (s.modStores f).fuse = s.fuse := rfl
@[simp] theorem State.modStores_region (s : State) (f : Store → Store) : (s.modStores f).region = s.region := rfl
@[simp] theorem State.modStores_block (s : State) (f : Store → Store) : (s.modStores f).block = s.block := rfl
@[simp] theorem State.modStores_cell (s : State) (f : Store → Store) : (s.modStores f).cell = s.cell := rfl
@[simp] theorem State.modStores_guard (s : State) (f : Store → Store) : (s.modStores f).guard = s.guard := rfl
@[simp] theorem State.modStores_light (s : State) (f : Store → Store) : (s.modStores f).light = s.light := rfl
@[simp] theorem State.modStores_skein (s : State) (f : Store → Store) : (s.modStores f).skein = s.skein := rfl
@[simp] theorem State.modStores_creel (s : State) (f : Store → Store) : (s.modStores f).creel = s.creel := rfl
@[simp] theorem State.modStores_ply (s : State) (f : Store → Store) : (s.modStores f).ply = s.ply := rfl
@[simp] theorem State.modStores_memory (s : State) (f : Store → Store) : (s.modStores f).memory = s.memory := rfl
@[simp] theorem State.modStores_reel (s : State) (f : Store → Store) : (s.modStores f).reel = s.reel := rfl
@[simp] theorem State.modStores_rport (s : State) (f : Store → Store) : (s.modStores f).rport = s.rport := rfl
@[simp] theorem State.modStores_free (s : State) (f : Store → Store) : (s.modStores f).free = s.free := rfl
@[simp] theorem State.modStores_pending (s : State) (f : Store → Store) : (s.modStores f).pending = s.pending := rfl

/-! ### modFw -/

@[simp] theorem State.modFw_time (s : State) (k : Fin 2) (f : FwSlot → FwSlot) : (s.modFw k f).time = s.time := rfl
@[simp] theorem State.modFw_obs (s : State) (k : Fin 2) (f : FwSlot → FwSlot) : (s.modFw k f).obs = s.obs := rfl
@[simp] theorem State.modFw_host (s : State) (k : Fin 2) (f : FwSlot → FwSlot) : (s.modFw k f).host = s.host := rfl
@[simp] theorem State.modFw_mems (s : State) (k : Fin 2) (f : FwSlot → FwSlot) : (s.modFw k f).mems = s.mems := rfl
@[simp] theorem State.modFw_spin (s : State) (k : Fin 2) (f : FwSlot → FwSlot) : (s.modFw k f).spin = s.spin := rfl
@[simp] theorem State.modFw_mod (s : State) (k : Fin 2) (f : FwSlot → FwSlot) : (s.modFw k f).mod = s.mod := rfl
@[simp] theorem State.modFw_conf (s : State) (k : Fin 2) (f : FwSlot → FwSlot) : (s.modFw k f).conf = s.conf := rfl
@[simp] theorem State.modFw_pow (s : State) (k : Fin 2) (f : FwSlot → FwSlot) : (s.modFw k f).pow = s.pow := rfl
@[simp] theorem State.modFw_job (s : State) (k : Fin 2) (f : FwSlot → FwSlot) : (s.modFw k f).job = s.job := rfl
@[simp] theorem State.modFw_cal (s : State) (k : Fin 2) (f : FwSlot → FwSlot) : (s.modFw k f).cal = s.cal := rfl
@[simp] theorem State.modFw_plan (s : State) (k : Fin 2) (f : FwSlot → FwSlot) : (s.modFw k f).plan = s.plan := rfl
@[simp] theorem State.modFw_card (s : State) (k : Fin 2) (f : FwSlot → FwSlot) : (s.modFw k f).card = s.card := rfl
@[simp] theorem State.modFw_fuse (s : State) (k : Fin 2) (f : FwSlot → FwSlot) : (s.modFw k f).fuse = s.fuse := rfl
@[simp] theorem State.modFw_region (s : State) (k : Fin 2) (f : FwSlot → FwSlot) : (s.modFw k f).region = s.region := rfl
@[simp] theorem State.modFw_block (s : State) (k : Fin 2) (f : FwSlot → FwSlot) : (s.modFw k f).block = s.block := rfl
@[simp] theorem State.modFw_cell (s : State) (k : Fin 2) (f : FwSlot → FwSlot) : (s.modFw k f).cell = s.cell := rfl
@[simp] theorem State.modFw_guard (s : State) (k : Fin 2) (f : FwSlot → FwSlot) : (s.modFw k f).guard = s.guard := rfl
@[simp] theorem State.modFw_light (s : State) (k : Fin 2) (f : FwSlot → FwSlot) : (s.modFw k f).light = s.light := rfl
@[simp] theorem State.modFw_skein (s : State) (k : Fin 2) (f : FwSlot → FwSlot) : (s.modFw k f).skein = s.skein := rfl
@[simp] theorem State.modFw_creel (s : State) (k : Fin 2) (f : FwSlot → FwSlot) : (s.modFw k f).creel = s.creel := rfl
@[simp] theorem State.modFw_ply (s : State) (k : Fin 2) (f : FwSlot → FwSlot) : (s.modFw k f).ply = s.ply := rfl
@[simp] theorem State.modFw_memory (s : State) (k : Fin 2) (f : FwSlot → FwSlot) : (s.modFw k f).memory = s.memory := rfl
@[simp] theorem State.modFw_reel (s : State) (k : Fin 2) (f : FwSlot → FwSlot) : (s.modFw k f).reel = s.reel := rfl
@[simp] theorem State.modFw_rport (s : State) (k : Fin 2) (f : FwSlot → FwSlot) : (s.modFw k f).rport = s.rport := rfl
@[simp] theorem State.modFw_free (s : State) (k : Fin 2) (f : FwSlot → FwSlot) : (s.modFw k f).free = s.free := rfl
@[simp] theorem State.modFw_pending (s : State) (k : Fin 2) (f : FwSlot → FwSlot) : (s.modFw k f).pending = s.pending := rfl

/-! ### measure -/

@[simp] theorem State.measure_time (s : State) (mv : Nat) : (s.measure mv).time = s.time := rfl
@[simp] theorem State.measure_obs (s : State) (mv : Nat) : (s.measure mv).obs = s.obs := rfl
@[simp] theorem State.measure_host (s : State) (mv : Nat) : (s.measure mv).host = s.host := rfl
@[simp] theorem State.measure_mems (s : State) (mv : Nat) : (s.measure mv).mems = s.mems := rfl
@[simp] theorem State.measure_spin (s : State) (mv : Nat) : (s.measure mv).spin = s.spin := rfl
@[simp] theorem State.measure_mod (s : State) (mv : Nat) : (s.measure mv).mod = s.mod := rfl
@[simp] theorem State.measure_conf (s : State) (mv : Nat) : (s.measure mv).conf = s.conf := rfl
@[simp] theorem State.measure_job (s : State) (mv : Nat) : (s.measure mv).job = s.job := rfl
@[simp] theorem State.measure_cal (s : State) (mv : Nat) : (s.measure mv).cal = s.cal := rfl
@[simp] theorem State.measure_plan (s : State) (mv : Nat) : (s.measure mv).plan = s.plan := rfl
@[simp] theorem State.measure_sec (s : State) (mv : Nat) : (s.measure mv).sec = s.sec := rfl
@[simp] theorem State.measure_card (s : State) (mv : Nat) : (s.measure mv).card = s.card := rfl
@[simp] theorem State.measure_fuse (s : State) (mv : Nat) : (s.measure mv).fuse = s.fuse := rfl
@[simp] theorem State.measure_region (s : State) (mv : Nat) : (s.measure mv).region = s.region := rfl
@[simp] theorem State.measure_block (s : State) (mv : Nat) : (s.measure mv).block = s.block := rfl
@[simp] theorem State.measure_cell (s : State) (mv : Nat) : (s.measure mv).cell = s.cell := rfl
@[simp] theorem State.measure_guard (s : State) (mv : Nat) : (s.measure mv).guard = s.guard := rfl
@[simp] theorem State.measure_light (s : State) (mv : Nat) : (s.measure mv).light = s.light := rfl
@[simp] theorem State.measure_skein (s : State) (mv : Nat) : (s.measure mv).skein = s.skein := rfl
@[simp] theorem State.measure_creel (s : State) (mv : Nat) : (s.measure mv).creel = s.creel := rfl
@[simp] theorem State.measure_ply (s : State) (mv : Nat) : (s.measure mv).ply = s.ply := rfl
@[simp] theorem State.measure_memory (s : State) (mv : Nat) : (s.measure mv).memory = s.memory := rfl
@[simp] theorem State.measure_reel (s : State) (mv : Nat) : (s.measure mv).reel = s.reel := rfl
@[simp] theorem State.measure_rport (s : State) (mv : Nat) : (s.measure mv).rport = s.rport := rfl
@[simp] theorem State.measure_free (s : State) (mv : Nat) : (s.measure mv).free = s.free := rfl
@[simp] theorem State.measure_pending (s : State) (mv : Nat) : (s.measure mv).pending = s.pending := rfl

/-! ### abandon -/

@[simp] theorem State.abandon_time (s : State) : (s.abandon).time = s.time := rfl
@[simp] theorem State.abandon_obs (s : State) : (s.abandon).obs = s.obs := rfl
@[simp] theorem State.abandon_host (s : State) : (s.abandon).host = s.host := rfl
@[simp] theorem State.abandon_mems (s : State) : (s.abandon).mems = s.mems := rfl
@[simp] theorem State.abandon_conf (s : State) : (s.abandon).conf = s.conf := rfl
@[simp] theorem State.abandon_pow (s : State) : (s.abandon).pow = s.pow := rfl
@[simp] theorem State.abandon_cal (s : State) : (s.abandon).cal = s.cal := rfl
@[simp] theorem State.abandon_plan (s : State) : (s.abandon).plan = s.plan := rfl
@[simp] theorem State.abandon_sec (s : State) : (s.abandon).sec = s.sec := rfl
@[simp] theorem State.abandon_fuse (s : State) : (s.abandon).fuse = s.fuse := rfl
@[simp] theorem State.abandon_region (s : State) : (s.abandon).region = s.region := rfl
@[simp] theorem State.abandon_block (s : State) : (s.abandon).block = s.block := rfl
@[simp] theorem State.abandon_cell (s : State) : (s.abandon).cell = s.cell := rfl
@[simp] theorem State.abandon_guard (s : State) : (s.abandon).guard = s.guard := rfl
@[simp] theorem State.abandon_light (s : State) : (s.abandon).light = s.light := rfl
@[simp] theorem State.abandon_skein (s : State) : (s.abandon).skein = s.skein := rfl
@[simp] theorem State.abandon_creel (s : State) : (s.abandon).creel = s.creel := rfl
@[simp] theorem State.abandon_ply (s : State) : (s.abandon).ply = s.ply := rfl
@[simp] theorem State.abandon_memory (s : State) : (s.abandon).memory = s.memory := rfl
@[simp] theorem State.abandon_rport (s : State) : (s.abandon).rport = s.rport := rfl
@[simp] theorem State.abandon_free (s : State) : (s.abandon).free = s.free := rfl
@[simp] theorem State.abandon_pending (s : State) : (s.abandon).pending = s.pending := rfl

/-! ### enterFail -/

@[simp] theorem State.enterFail_time (s : State) (pending : Bool) (f : CardFail) : (s.enterFail pending f).time = s.time := rfl
@[simp] theorem State.enterFail_obs (s : State) (pending : Bool) (f : CardFail) : (s.enterFail pending f).obs = s.obs := rfl
@[simp] theorem State.enterFail_host (s : State) (pending : Bool) (f : CardFail) : (s.enterFail pending f).host = s.host := rfl
@[simp] theorem State.enterFail_mems (s : State) (pending : Bool) (f : CardFail) : (s.enterFail pending f).mems = s.mems := rfl
@[simp] theorem State.enterFail_spin (s : State) (pending : Bool) (f : CardFail) : (s.enterFail pending f).spin = s.spin := rfl
@[simp] theorem State.enterFail_mod (s : State) (pending : Bool) (f : CardFail) : (s.enterFail pending f).mod = s.mod := rfl
@[simp] theorem State.enterFail_conf (s : State) (pending : Bool) (f : CardFail) : (s.enterFail pending f).conf = s.conf := rfl
@[simp] theorem State.enterFail_pow (s : State) (pending : Bool) (f : CardFail) : (s.enterFail pending f).pow = s.pow := rfl
@[simp] theorem State.enterFail_job (s : State) (pending : Bool) (f : CardFail) : (s.enterFail pending f).job = s.job := rfl
@[simp] theorem State.enterFail_cal (s : State) (pending : Bool) (f : CardFail) : (s.enterFail pending f).cal = s.cal := rfl
@[simp] theorem State.enterFail_plan (s : State) (pending : Bool) (f : CardFail) : (s.enterFail pending f).plan = s.plan := rfl
@[simp] theorem State.enterFail_sec (s : State) (pending : Bool) (f : CardFail) : (s.enterFail pending f).sec = s.sec := rfl
@[simp] theorem State.enterFail_fuse (s : State) (pending : Bool) (f : CardFail) : (s.enterFail pending f).fuse = s.fuse := rfl
@[simp] theorem State.enterFail_region (s : State) (pending : Bool) (f : CardFail) : (s.enterFail pending f).region = s.region := rfl
@[simp] theorem State.enterFail_block (s : State) (pending : Bool) (f : CardFail) : (s.enterFail pending f).block = s.block := rfl
@[simp] theorem State.enterFail_cell (s : State) (pending : Bool) (f : CardFail) : (s.enterFail pending f).cell = s.cell := rfl
@[simp] theorem State.enterFail_guard (s : State) (pending : Bool) (f : CardFail) : (s.enterFail pending f).guard = s.guard := rfl
@[simp] theorem State.enterFail_light (s : State) (pending : Bool) (f : CardFail) : (s.enterFail pending f).light = s.light := rfl
@[simp] theorem State.enterFail_skein (s : State) (pending : Bool) (f : CardFail) : (s.enterFail pending f).skein = s.skein := rfl
@[simp] theorem State.enterFail_creel (s : State) (pending : Bool) (f : CardFail) : (s.enterFail pending f).creel = s.creel := rfl
@[simp] theorem State.enterFail_ply (s : State) (pending : Bool) (f : CardFail) : (s.enterFail pending f).ply = s.ply := rfl
@[simp] theorem State.enterFail_memory (s : State) (pending : Bool) (f : CardFail) : (s.enterFail pending f).memory = s.memory := rfl
@[simp] theorem State.enterFail_reel (s : State) (pending : Bool) (f : CardFail) : (s.enterFail pending f).reel = s.reel := rfl
@[simp] theorem State.enterFail_rport (s : State) (pending : Bool) (f : CardFail) : (s.enterFail pending f).rport = s.rport := rfl
@[simp] theorem State.enterFail_free (s : State) (pending : Bool) (f : CardFail) : (s.enterFail pending f).free = s.free := rfl
@[simp] theorem State.enterFail_pending (s : State) (pending : Bool) (f : CardFail) : (s.enterFail pending f).pending = s.pending := rfl

/-! ### zeroHbm -/

@[simp] theorem State.zeroHbm_time (s : State) : (s.zeroHbm).time = s.time := rfl
@[simp] theorem State.zeroHbm_obs (s : State) : (s.zeroHbm).obs = s.obs := rfl
@[simp] theorem State.zeroHbm_host (s : State) : (s.zeroHbm).host = s.host := rfl
@[simp] theorem State.zeroHbm_spin (s : State) : (s.zeroHbm).spin = s.spin := rfl
@[simp] theorem State.zeroHbm_mod (s : State) : (s.zeroHbm).mod = s.mod := rfl
@[simp] theorem State.zeroHbm_conf (s : State) : (s.zeroHbm).conf = s.conf := rfl
@[simp] theorem State.zeroHbm_pow (s : State) : (s.zeroHbm).pow = s.pow := rfl
@[simp] theorem State.zeroHbm_job (s : State) : (s.zeroHbm).job = s.job := rfl
@[simp] theorem State.zeroHbm_cal (s : State) : (s.zeroHbm).cal = s.cal := rfl
@[simp] theorem State.zeroHbm_plan (s : State) : (s.zeroHbm).plan = s.plan := rfl
@[simp] theorem State.zeroHbm_sec (s : State) : (s.zeroHbm).sec = s.sec := rfl
@[simp] theorem State.zeroHbm_card (s : State) : (s.zeroHbm).card = s.card := rfl
@[simp] theorem State.zeroHbm_fuse (s : State) : (s.zeroHbm).fuse = s.fuse := rfl
@[simp] theorem State.zeroHbm_region (s : State) : (s.zeroHbm).region = s.region := rfl
@[simp] theorem State.zeroHbm_block (s : State) : (s.zeroHbm).block = s.block := rfl
@[simp] theorem State.zeroHbm_cell (s : State) : (s.zeroHbm).cell = s.cell := rfl
@[simp] theorem State.zeroHbm_guard (s : State) : (s.zeroHbm).guard = s.guard := rfl
@[simp] theorem State.zeroHbm_light (s : State) : (s.zeroHbm).light = s.light := rfl
@[simp] theorem State.zeroHbm_skein (s : State) : (s.zeroHbm).skein = s.skein := rfl
@[simp] theorem State.zeroHbm_creel (s : State) : (s.zeroHbm).creel = s.creel := rfl
@[simp] theorem State.zeroHbm_ply (s : State) : (s.zeroHbm).ply = s.ply := rfl
@[simp] theorem State.zeroHbm_memory (s : State) : (s.zeroHbm).memory = s.memory := rfl
@[simp] theorem State.zeroHbm_reel (s : State) : (s.zeroHbm).reel = s.reel := rfl
@[simp] theorem State.zeroHbm_rport (s : State) : (s.zeroHbm).rport = s.rport := rfl
@[simp] theorem State.zeroHbm_free (s : State) : (s.zeroHbm).free = s.free := rfl
@[simp] theorem State.zeroHbm_pending (s : State) : (s.zeroHbm).pending = s.pending := rfl

/-! ### bootStores -/

@[simp] theorem State.bootStores_time (s : State) (b : BringUp) : (s.bootStores b).time = s.time := rfl
@[simp] theorem State.bootStores_host (s : State) (b : BringUp) : (s.bootStores b).host = s.host := rfl
@[simp] theorem State.bootStores_mems (s : State) (b : BringUp) : (s.bootStores b).mems = s.mems := rfl
@[simp] theorem State.bootStores_spin (s : State) (b : BringUp) : (s.bootStores b).spin = s.spin := rfl
@[simp] theorem State.bootStores_mod (s : State) (b : BringUp) : (s.bootStores b).mod = s.mod := rfl
@[simp] theorem State.bootStores_conf (s : State) (b : BringUp) : (s.bootStores b).conf = s.conf := rfl
@[simp] theorem State.bootStores_pow (s : State) (b : BringUp) : (s.bootStores b).pow = s.pow := rfl
@[simp] theorem State.bootStores_job (s : State) (b : BringUp) : (s.bootStores b).job = s.job := rfl
@[simp] theorem State.bootStores_cal (s : State) (b : BringUp) : (s.bootStores b).cal = s.cal := rfl
@[simp] theorem State.bootStores_plan (s : State) (b : BringUp) : (s.bootStores b).plan = s.plan := rfl
@[simp] theorem State.bootStores_sec (s : State) (b : BringUp) : (s.bootStores b).sec = s.sec := rfl
@[simp] theorem State.bootStores_card (s : State) (b : BringUp) : (s.bootStores b).card = s.card := rfl
@[simp] theorem State.bootStores_fuse (s : State) (b : BringUp) : (s.bootStores b).fuse = s.fuse := rfl
@[simp] theorem State.bootStores_region (s : State) (b : BringUp) : (s.bootStores b).region = s.region := rfl
@[simp] theorem State.bootStores_block (s : State) (b : BringUp) : (s.bootStores b).block = s.block := rfl
@[simp] theorem State.bootStores_cell (s : State) (b : BringUp) : (s.bootStores b).cell = s.cell := rfl
@[simp] theorem State.bootStores_guard (s : State) (b : BringUp) : (s.bootStores b).guard = s.guard := rfl
@[simp] theorem State.bootStores_light (s : State) (b : BringUp) : (s.bootStores b).light = s.light := rfl
@[simp] theorem State.bootStores_skein (s : State) (b : BringUp) : (s.bootStores b).skein = s.skein := rfl
@[simp] theorem State.bootStores_creel (s : State) (b : BringUp) : (s.bootStores b).creel = s.creel := rfl
@[simp] theorem State.bootStores_ply (s : State) (b : BringUp) : (s.bootStores b).ply = s.ply := rfl
@[simp] theorem State.bootStores_memory (s : State) (b : BringUp) : (s.bootStores b).memory = s.memory := rfl
@[simp] theorem State.bootStores_reel (s : State) (b : BringUp) : (s.bootStores b).reel = s.reel := rfl
@[simp] theorem State.bootStores_rport (s : State) (b : BringUp) : (s.bootStores b).rport = s.rport := rfl
@[simp] theorem State.bootStores_free (s : State) (b : BringUp) : (s.bootStores b).free = s.free := rfl
@[simp] theorem State.bootStores_pending (s : State) (b : BringUp) : (s.bootStores b).pending = s.pending := rfl

/-! ### flashNow -/

@[simp] theorem State.flashNow_time (s : State) (rs : List (IoDie × Nat × List Byte)) : (s.flashNow rs).time = s.time := rfl
@[simp] theorem State.flashNow_obs (s : State) (rs : List (IoDie × Nat × List Byte)) : (s.flashNow rs).obs = s.obs := rfl
@[simp] theorem State.flashNow_host (s : State) (rs : List (IoDie × Nat × List Byte)) : (s.flashNow rs).host = s.host := rfl
@[simp] theorem State.flashNow_mems (s : State) (rs : List (IoDie × Nat × List Byte)) : (s.flashNow rs).mems = s.mems := rfl
@[simp] theorem State.flashNow_spin (s : State) (rs : List (IoDie × Nat × List Byte)) : (s.flashNow rs).spin = s.spin := rfl
@[simp] theorem State.flashNow_mod (s : State) (rs : List (IoDie × Nat × List Byte)) : (s.flashNow rs).mod = s.mod := rfl
@[simp] theorem State.flashNow_conf (s : State) (rs : List (IoDie × Nat × List Byte)) : (s.flashNow rs).conf = s.conf := rfl
@[simp] theorem State.flashNow_pow (s : State) (rs : List (IoDie × Nat × List Byte)) : (s.flashNow rs).pow = s.pow := rfl
@[simp] theorem State.flashNow_job (s : State) (rs : List (IoDie × Nat × List Byte)) : (s.flashNow rs).job = s.job := rfl
@[simp] theorem State.flashNow_plan (s : State) (rs : List (IoDie × Nat × List Byte)) : (s.flashNow rs).plan = s.plan := rfl
@[simp] theorem State.flashNow_sec (s : State) (rs : List (IoDie × Nat × List Byte)) : (s.flashNow rs).sec = s.sec := rfl
@[simp] theorem State.flashNow_card (s : State) (rs : List (IoDie × Nat × List Byte)) : (s.flashNow rs).card = s.card := rfl
@[simp] theorem State.flashNow_fuse (s : State) (rs : List (IoDie × Nat × List Byte)) : (s.flashNow rs).fuse = s.fuse := rfl
@[simp] theorem State.flashNow_region (s : State) (rs : List (IoDie × Nat × List Byte)) : (s.flashNow rs).region = s.region := rfl
@[simp] theorem State.flashNow_block (s : State) (rs : List (IoDie × Nat × List Byte)) : (s.flashNow rs).block = s.block := rfl
@[simp] theorem State.flashNow_cell (s : State) (rs : List (IoDie × Nat × List Byte)) : (s.flashNow rs).cell = s.cell := rfl
@[simp] theorem State.flashNow_guard (s : State) (rs : List (IoDie × Nat × List Byte)) : (s.flashNow rs).guard = s.guard := rfl
@[simp] theorem State.flashNow_light (s : State) (rs : List (IoDie × Nat × List Byte)) : (s.flashNow rs).light = s.light := rfl
@[simp] theorem State.flashNow_skein (s : State) (rs : List (IoDie × Nat × List Byte)) : (s.flashNow rs).skein = s.skein := rfl
@[simp] theorem State.flashNow_creel (s : State) (rs : List (IoDie × Nat × List Byte)) : (s.flashNow rs).creel = s.creel := rfl
@[simp] theorem State.flashNow_ply (s : State) (rs : List (IoDie × Nat × List Byte)) : (s.flashNow rs).ply = s.ply := rfl
@[simp] theorem State.flashNow_memory (s : State) (rs : List (IoDie × Nat × List Byte)) : (s.flashNow rs).memory = s.memory := rfl
@[simp] theorem State.flashNow_reel (s : State) (rs : List (IoDie × Nat × List Byte)) : (s.flashNow rs).reel = s.reel := rfl
@[simp] theorem State.flashNow_rport (s : State) (rs : List (IoDie × Nat × List Byte)) : (s.flashNow rs).rport = s.rport := rfl
@[simp] theorem State.flashNow_free (s : State) (rs : List (IoDie × Nat × List Byte)) : (s.flashNow rs).free = s.free := rfl
@[simp] theorem State.flashNow_pending (s : State) (rs : List (IoDie × Nat × List Byte)) : (s.flashNow rs).pending = s.pending := rfl

/-! ### bootPlls -/

@[simp] theorem State.bootPlls_obs (s : State) : (s.bootPlls).obs = s.obs := rfl
@[simp] theorem State.bootPlls_host (s : State) : (s.bootPlls).host = s.host := rfl
@[simp] theorem State.bootPlls_mems (s : State) : (s.bootPlls).mems = s.mems := rfl
@[simp] theorem State.bootPlls_spin (s : State) : (s.bootPlls).spin = s.spin := rfl
@[simp] theorem State.bootPlls_mod (s : State) : (s.bootPlls).mod = s.mod := rfl
@[simp] theorem State.bootPlls_conf (s : State) : (s.bootPlls).conf = s.conf := rfl
@[simp] theorem State.bootPlls_pow (s : State) : (s.bootPlls).pow = s.pow := rfl
@[simp] theorem State.bootPlls_job (s : State) : (s.bootPlls).job = s.job := rfl
@[simp] theorem State.bootPlls_cal (s : State) : (s.bootPlls).cal = s.cal := rfl
@[simp] theorem State.bootPlls_plan (s : State) : (s.bootPlls).plan = s.plan := rfl
@[simp] theorem State.bootPlls_sec (s : State) : (s.bootPlls).sec = s.sec := rfl
@[simp] theorem State.bootPlls_card (s : State) : (s.bootPlls).card = s.card := rfl
@[simp] theorem State.bootPlls_fuse (s : State) : (s.bootPlls).fuse = s.fuse := rfl
@[simp] theorem State.bootPlls_region (s : State) : (s.bootPlls).region = s.region := rfl
@[simp] theorem State.bootPlls_block (s : State) : (s.bootPlls).block = s.block := rfl
@[simp] theorem State.bootPlls_cell (s : State) : (s.bootPlls).cell = s.cell := rfl
@[simp] theorem State.bootPlls_guard (s : State) : (s.bootPlls).guard = s.guard := rfl
@[simp] theorem State.bootPlls_light (s : State) : (s.bootPlls).light = s.light := rfl
@[simp] theorem State.bootPlls_skein (s : State) : (s.bootPlls).skein = s.skein := rfl
@[simp] theorem State.bootPlls_creel (s : State) : (s.bootPlls).creel = s.creel := rfl
@[simp] theorem State.bootPlls_ply (s : State) : (s.bootPlls).ply = s.ply := rfl
@[simp] theorem State.bootPlls_memory (s : State) : (s.bootPlls).memory = s.memory := rfl
@[simp] theorem State.bootPlls_reel (s : State) : (s.bootPlls).reel = s.reel := rfl
@[simp] theorem State.bootPlls_rport (s : State) : (s.bootPlls).rport = s.rport := rfl
@[simp] theorem State.bootPlls_free (s : State) : (s.bootPlls).free = s.free := rfl
@[simp] theorem State.bootPlls_pending (s : State) : (s.bootPlls).pending = s.pending := rfl

/-! ### ringsUp -/

@[simp] theorem State.ringsUp_time (s : State) (b : BringUp) : (s.ringsUp b).time = s.time := rfl
@[simp] theorem State.ringsUp_obs (s : State) (b : BringUp) : (s.ringsUp b).obs = s.obs := rfl
@[simp] theorem State.ringsUp_host (s : State) (b : BringUp) : (s.ringsUp b).host = s.host := rfl
@[simp] theorem State.ringsUp_mems (s : State) (b : BringUp) : (s.ringsUp b).mems = s.mems := rfl
@[simp] theorem State.ringsUp_spin (s : State) (b : BringUp) : (s.ringsUp b).spin = s.spin := rfl
@[simp] theorem State.ringsUp_mod (s : State) (b : BringUp) : (s.ringsUp b).mod = s.mod := rfl
@[simp] theorem State.ringsUp_conf (s : State) (b : BringUp) : (s.ringsUp b).conf = s.conf := rfl
@[simp] theorem State.ringsUp_pow (s : State) (b : BringUp) : (s.ringsUp b).pow = s.pow := rfl
@[simp] theorem State.ringsUp_job (s : State) (b : BringUp) : (s.ringsUp b).job = s.job := rfl
@[simp] theorem State.ringsUp_cal (s : State) (b : BringUp) : (s.ringsUp b).cal = s.cal := rfl
@[simp] theorem State.ringsUp_plan (s : State) (b : BringUp) : (s.ringsUp b).plan = s.plan := rfl
@[simp] theorem State.ringsUp_sec (s : State) (b : BringUp) : (s.ringsUp b).sec = s.sec := rfl
@[simp] theorem State.ringsUp_card (s : State) (b : BringUp) : (s.ringsUp b).card = s.card := rfl
@[simp] theorem State.ringsUp_fuse (s : State) (b : BringUp) : (s.ringsUp b).fuse = s.fuse := rfl
@[simp] theorem State.ringsUp_region (s : State) (b : BringUp) : (s.ringsUp b).region = s.region := rfl
@[simp] theorem State.ringsUp_block (s : State) (b : BringUp) : (s.ringsUp b).block = s.block := rfl
@[simp] theorem State.ringsUp_cell (s : State) (b : BringUp) : (s.ringsUp b).cell = s.cell := rfl
@[simp] theorem State.ringsUp_guard (s : State) (b : BringUp) : (s.ringsUp b).guard = s.guard := rfl
@[simp] theorem State.ringsUp_light (s : State) (b : BringUp) : (s.ringsUp b).light = s.light := rfl
@[simp] theorem State.ringsUp_creel (s : State) (b : BringUp) : (s.ringsUp b).creel = s.creel := rfl
@[simp] theorem State.ringsUp_ply (s : State) (b : BringUp) : (s.ringsUp b).ply = s.ply := rfl
@[simp] theorem State.ringsUp_memory (s : State) (b : BringUp) : (s.ringsUp b).memory = s.memory := rfl
@[simp] theorem State.ringsUp_reel (s : State) (b : BringUp) : (s.ringsUp b).reel = s.reel := rfl
@[simp] theorem State.ringsUp_rport (s : State) (b : BringUp) : (s.ringsUp b).rport = s.rport := rfl
@[simp] theorem State.ringsUp_free (s : State) (b : BringUp) : (s.ringsUp b).free = s.free := rfl
@[simp] theorem State.ringsUp_pending (s : State) (b : BringUp) : (s.ringsUp b).pending = s.pending := rfl

/-! ### capture -/

@[simp] theorem State.capture_time (s : State) (g : Nat) : (s.capture g).time = s.time := rfl
@[simp] theorem State.capture_host (s : State) (g : Nat) : (s.capture g).host = s.host := rfl
@[simp] theorem State.capture_mems (s : State) (g : Nat) : (s.capture g).mems = s.mems := rfl
@[simp] theorem State.capture_spin (s : State) (g : Nat) : (s.capture g).spin = s.spin := rfl
@[simp] theorem State.capture_mod (s : State) (g : Nat) : (s.capture g).mod = s.mod := rfl
@[simp] theorem State.capture_conf (s : State) (g : Nat) : (s.capture g).conf = s.conf := rfl
@[simp] theorem State.capture_pow (s : State) (g : Nat) : (s.capture g).pow = s.pow := rfl
@[simp] theorem State.capture_job (s : State) (g : Nat) : (s.capture g).job = s.job := rfl
@[simp] theorem State.capture_cal (s : State) (g : Nat) : (s.capture g).cal = s.cal := rfl
@[simp] theorem State.capture_plan (s : State) (g : Nat) : (s.capture g).plan = s.plan := rfl
@[simp] theorem State.capture_sec (s : State) (g : Nat) : (s.capture g).sec = s.sec := rfl
@[simp] theorem State.capture_card (s : State) (g : Nat) : (s.capture g).card = s.card := rfl
@[simp] theorem State.capture_fuse (s : State) (g : Nat) : (s.capture g).fuse = s.fuse := rfl
@[simp] theorem State.capture_region (s : State) (g : Nat) : (s.capture g).region = s.region := rfl
@[simp] theorem State.capture_block (s : State) (g : Nat) : (s.capture g).block = s.block := rfl
@[simp] theorem State.capture_cell (s : State) (g : Nat) : (s.capture g).cell = s.cell := rfl
@[simp] theorem State.capture_guard (s : State) (g : Nat) : (s.capture g).guard = s.guard := rfl
@[simp] theorem State.capture_light (s : State) (g : Nat) : (s.capture g).light = s.light := rfl
@[simp] theorem State.capture_skein (s : State) (g : Nat) : (s.capture g).skein = s.skein := rfl
@[simp] theorem State.capture_creel (s : State) (g : Nat) : (s.capture g).creel = s.creel := rfl
@[simp] theorem State.capture_ply (s : State) (g : Nat) : (s.capture g).ply = s.ply := rfl
@[simp] theorem State.capture_memory (s : State) (g : Nat) : (s.capture g).memory = s.memory := rfl
@[simp] theorem State.capture_reel (s : State) (g : Nat) : (s.capture g).reel = s.reel := rfl
@[simp] theorem State.capture_rport (s : State) (g : Nat) : (s.capture g).rport = s.rport := rfl
@[simp] theorem State.capture_free (s : State) (g : Nat) : (s.capture g).free = s.free := rfl
@[simp] theorem State.capture_pending (s : State) (g : Nat) : (s.capture g).pending = s.pending := rfl

/-! ### clearGroup -/

@[simp] theorem State.clearGroup_time (s : State) (g : Nat) : (s.clearGroup g).time = s.time := rfl
@[simp] theorem State.clearGroup_host (s : State) (g : Nat) : (s.clearGroup g).host = s.host := rfl
@[simp] theorem State.clearGroup_mems (s : State) (g : Nat) : (s.clearGroup g).mems = s.mems := rfl
@[simp] theorem State.clearGroup_spin (s : State) (g : Nat) : (s.clearGroup g).spin = s.spin := rfl
@[simp] theorem State.clearGroup_mod (s : State) (g : Nat) : (s.clearGroup g).mod = s.mod := rfl
@[simp] theorem State.clearGroup_conf (s : State) (g : Nat) : (s.clearGroup g).conf = s.conf := rfl
@[simp] theorem State.clearGroup_pow (s : State) (g : Nat) : (s.clearGroup g).pow = s.pow := rfl
@[simp] theorem State.clearGroup_job (s : State) (g : Nat) : (s.clearGroup g).job = s.job := rfl
@[simp] theorem State.clearGroup_cal (s : State) (g : Nat) : (s.clearGroup g).cal = s.cal := rfl
@[simp] theorem State.clearGroup_plan (s : State) (g : Nat) : (s.clearGroup g).plan = s.plan := rfl
@[simp] theorem State.clearGroup_sec (s : State) (g : Nat) : (s.clearGroup g).sec = s.sec := rfl
@[simp] theorem State.clearGroup_card (s : State) (g : Nat) : (s.clearGroup g).card = s.card := rfl
@[simp] theorem State.clearGroup_fuse (s : State) (g : Nat) : (s.clearGroup g).fuse = s.fuse := rfl
@[simp] theorem State.clearGroup_region (s : State) (g : Nat) : (s.clearGroup g).region = s.region := rfl
@[simp] theorem State.clearGroup_block (s : State) (g : Nat) : (s.clearGroup g).block = s.block := rfl
@[simp] theorem State.clearGroup_cell (s : State) (g : Nat) : (s.clearGroup g).cell = s.cell := rfl
@[simp] theorem State.clearGroup_guard (s : State) (g : Nat) : (s.clearGroup g).guard = s.guard := rfl
@[simp] theorem State.clearGroup_light (s : State) (g : Nat) : (s.clearGroup g).light = s.light := rfl
@[simp] theorem State.clearGroup_skein (s : State) (g : Nat) : (s.clearGroup g).skein = s.skein := rfl
@[simp] theorem State.clearGroup_creel (s : State) (g : Nat) : (s.clearGroup g).creel = s.creel := rfl
@[simp] theorem State.clearGroup_ply (s : State) (g : Nat) : (s.clearGroup g).ply = s.ply := rfl
@[simp] theorem State.clearGroup_memory (s : State) (g : Nat) : (s.clearGroup g).memory = s.memory := rfl
@[simp] theorem State.clearGroup_reel (s : State) (g : Nat) : (s.clearGroup g).reel = s.reel := rfl
@[simp] theorem State.clearGroup_rport (s : State) (g : Nat) : (s.clearGroup g).rport = s.rport := rfl
@[simp] theorem State.clearGroup_free (s : State) (g : Nat) : (s.clearGroup g).free = s.free := rfl
@[simp] theorem State.clearGroup_pending (s : State) (g : Nat) : (s.clearGroup g).pending = s.pending := rfl

end Sys2Proof.Machine
end

