-- ==== Sys2Proof/Laws/Ops.lean ====
section
/-! SUPPORT. The fields that the shared operations leave alone: completions, taking and refusing a command, stamping a cause. -/

set_option Elab.async false

namespace Sys2Proof.Machine

@[simp] theorem Mems.writeHost_hbm (m : Mems) (p : Port) (a : Nat) (bs : List Byte) : (m.writeHost p a bs).hbm = m.hbm := by
  unfold Mems.writeHost; split <;> rfl
@[simp] theorem Mems.writeRing_hbm (m : Mems) (q : QueueSt) (a : Nat) (bs : List Byte) : (m.writeRing q a bs).hbm = m.hbm := by
  unfold Mems.writeRing; split <;> simp
@[simp] theorem Mems.writeHost_sram (m : Mems) (p : Port) (a : Nat) (bs : List Byte) : (m.writeHost p a bs).sram = m.sram := by
  unfold Mems.writeHost; split <;> rfl
@[simp] theorem Mems.writeRing_sram (m : Mems) (q : QueueSt) (a : Nat) (bs : List Byte) : (m.writeRing q a bs).sram = m.sram := by
  unfold Mems.writeRing; split <;> simp
@[simp] theorem Mems.writeHost_hbmPoison (m : Mems) (p : Port) (a : Nat) (bs : List Byte) : (m.writeHost p a bs).hbmPoison = m.hbmPoison := by
  unfold Mems.writeHost; split <;> rfl
@[simp] theorem Mems.writeRing_hbmPoison (m : Mems) (q : QueueSt) (a : Nat) (bs : List Byte) : (m.writeRing q a bs).hbmPoison = m.hbmPoison := by
  unfold Mems.writeRing; split <;> simp
@[simp] theorem Mems.writeHost_sramPoison (m : Mems) (p : Port) (a : Nat) (bs : List Byte) : (m.writeHost p a bs).sramPoison = m.sramPoison := by
  unfold Mems.writeHost; split <;> rfl
@[simp] theorem Mems.writeRing_sramPoison (m : Mems) (q : QueueSt) (a : Nat) (bs : List Byte) : (m.writeRing q a bs).sramPoison = m.sramPoison := by
  unfold Mems.writeRing; split <;> simp
/-! ### postOne -/

@[simp] theorem State.postOne_time (s : State) (n : Nat) (e : Completion) : (s.postOne n e).time = s.time := rfl
@[simp] theorem State.postOne_spin (s : State) (n : Nat) (e : Completion) : (s.postOne n e).spin = s.spin := rfl
@[simp] theorem State.postOne_mod (s : State) (n : Nat) (e : Completion) : (s.postOne n e).mod = s.mod := rfl
@[simp] theorem State.postOne_conf (s : State) (n : Nat) (e : Completion) : (s.postOne n e).conf = s.conf := rfl
@[simp] theorem State.postOne_pow (s : State) (n : Nat) (e : Completion) : (s.postOne n e).pow = s.pow := rfl
@[simp] theorem State.postOne_job (s : State) (n : Nat) (e : Completion) : (s.postOne n e).job = s.job := rfl
@[simp] theorem State.postOne_cal (s : State) (n : Nat) (e : Completion) : (s.postOne n e).cal = s.cal := rfl
@[simp] theorem State.postOne_plan (s : State) (n : Nat) (e : Completion) : (s.postOne n e).plan = s.plan := rfl
@[simp] theorem State.postOne_sec (s : State) (n : Nat) (e : Completion) : (s.postOne n e).sec = s.sec := rfl
@[simp] theorem State.postOne_card (s : State) (n : Nat) (e : Completion) : (s.postOne n e).card = s.card := rfl
@[simp] theorem State.postOne_fuse (s : State) (n : Nat) (e : Completion) : (s.postOne n e).fuse = s.fuse := rfl
@[simp] theorem State.postOne_region (s : State) (n : Nat) (e : Completion) : (s.postOne n e).region = s.region := rfl
@[simp] theorem State.postOne_block (s : State) (n : Nat) (e : Completion) : (s.postOne n e).block = s.block := rfl
@[simp] theorem State.postOne_cell (s : State) (n : Nat) (e : Completion) : (s.postOne n e).cell = s.cell := rfl
@[simp] theorem State.postOne_guard (s : State) (n : Nat) (e : Completion) : (s.postOne n e).guard = s.guard := rfl
@[simp] theorem State.postOne_light (s : State) (n : Nat) (e : Completion) : (s.postOne n e).light = s.light := rfl
@[simp] theorem State.postOne_skein (s : State) (n : Nat) (e : Completion) : (s.postOne n e).skein = s.skein := rfl
@[simp] theorem State.postOne_creel (s : State) (n : Nat) (e : Completion) : (s.postOne n e).creel = s.creel := rfl
@[simp] theorem State.postOne_ply (s : State) (n : Nat) (e : Completion) : (s.postOne n e).ply = s.ply := rfl
@[simp] theorem State.postOne_memory (s : State) (n : Nat) (e : Completion) : (s.postOne n e).memory = s.memory := rfl
@[simp] theorem State.postOne_reel (s : State) (n : Nat) (e : Completion) : (s.postOne n e).reel = s.reel := rfl
@[simp] theorem State.postOne_rport (s : State) (n : Nat) (e : Completion) : (s.postOne n e).rport = s.rport := rfl
@[simp] theorem State.postOne_free (s : State) (n : Nat) (e : Completion) : (s.postOne n e).free = s.free := rfl
@[simp] theorem State.postOne_pending (s : State) (n : Nat) (e : Completion) : (s.postOne n e).pending = s.pending := rfl
@[simp] theorem State.postOne_hbm (s : State) (n : Nat) (e : Completion) : (s.postOne n e).mems.hbm = s.mems.hbm := by
  unfold State.postOne; dsimp only; split <;> simp
@[simp] theorem State.postOne_sram (s : State) (n : Nat) (e : Completion) : (s.postOne n e).mems.sram = s.mems.sram := by
  unfold State.postOne; dsimp only; split <;> simp
@[simp] theorem State.postOne_hbmPoison (s : State) (n : Nat) (e : Completion) : (s.postOne n e).mems.hbmPoison = s.mems.hbmPoison := by
  unfold State.postOne; dsimp only; split <;> simp
@[simp] theorem State.postOne_sramPoison (s : State) (n : Nat) (e : Completion) : (s.postOne n e).mems.sramPoison = s.mems.sramPoison := by
  unfold State.postOne; dsimp only; split <;> simp

/-! ### post -/

@[simp] theorem State.post_time (s : State) (cq : Nat) (seq : BitVec 32) (st : Status) (stamp : Lea) (res : BitVec 128) (tk : Bool) : (s.post cq seq st stamp res tk).time = s.time := by
  unfold State.post; split <;> rfl
@[simp] theorem State.post_spin (s : State) (cq : Nat) (seq : BitVec 32) (st : Status) (stamp : Lea) (res : BitVec 128) (tk : Bool) : (s.post cq seq st stamp res tk).spin = s.spin := by
  unfold State.post; split <;> rfl
@[simp] theorem State.post_mod (s : State) (cq : Nat) (seq : BitVec 32) (st : Status) (stamp : Lea) (res : BitVec 128) (tk : Bool) : (s.post cq seq st stamp res tk).mod = s.mod := by
  unfold State.post; split <;> rfl
@[simp] theorem State.post_conf (s : State) (cq : Nat) (seq : BitVec 32) (st : Status) (stamp : Lea) (res : BitVec 128) (tk : Bool) : (s.post cq seq st stamp res tk).conf = s.conf := by
  unfold State.post; split <;> rfl
@[simp] theorem State.post_pow (s : State) (cq : Nat) (seq : BitVec 32) (st : Status) (stamp : Lea) (res : BitVec 128) (tk : Bool) : (s.post cq seq st stamp res tk).pow = s.pow := by
  unfold State.post; split <;> rfl
@[simp] theorem State.post_job (s : State) (cq : Nat) (seq : BitVec 32) (st : Status) (stamp : Lea) (res : BitVec 128) (tk : Bool) : (s.post cq seq st stamp res tk).job = s.job := by
  unfold State.post; split <;> rfl
@[simp] theorem State.post_cal (s : State) (cq : Nat) (seq : BitVec 32) (st : Status) (stamp : Lea) (res : BitVec 128) (tk : Bool) : (s.post cq seq st stamp res tk).cal = s.cal := by
  unfold State.post; split <;> rfl
@[simp] theorem State.post_plan (s : State) (cq : Nat) (seq : BitVec 32) (st : Status) (stamp : Lea) (res : BitVec 128) (tk : Bool) : (s.post cq seq st stamp res tk).plan = s.plan := by
  unfold State.post; split <;> rfl
@[simp] theorem State.post_sec (s : State) (cq : Nat) (seq : BitVec 32) (st : Status) (stamp : Lea) (res : BitVec 128) (tk : Bool) : (s.post cq seq st stamp res tk).sec = s.sec := by
  unfold State.post; split <;> rfl
@[simp] theorem State.post_card (s : State) (cq : Nat) (seq : BitVec 32) (st : Status) (stamp : Lea) (res : BitVec 128) (tk : Bool) : (s.post cq seq st stamp res tk).card = s.card := by
  unfold State.post; split <;> rfl
@[simp] theorem State.post_fuse (s : State) (cq : Nat) (seq : BitVec 32) (st : Status) (stamp : Lea) (res : BitVec 128) (tk : Bool) : (s.post cq seq st stamp res tk).fuse = s.fuse := by
  unfold State.post; split <;> rfl
@[simp] theorem State.post_region (s : State) (cq : Nat) (seq : BitVec 32) (st : Status) (stamp : Lea) (res : BitVec 128) (tk : Bool) : (s.post cq seq st stamp res tk).region = s.region := by
  unfold State.post; split <;> rfl
@[simp] theorem State.post_block (s : State) (cq : Nat) (seq : BitVec 32) (st : Status) (stamp : Lea) (res : BitVec 128) (tk : Bool) : (s.post cq seq st stamp res tk).block = s.block := by
  unfold State.post; split <;> rfl
@[simp] theorem State.post_cell (s : State) (cq : Nat) (seq : BitVec 32) (st : Status) (stamp : Lea) (res : BitVec 128) (tk : Bool) : (s.post cq seq st stamp res tk).cell = s.cell := by
  unfold State.post; split <;> rfl
@[simp] theorem State.post_guard (s : State) (cq : Nat) (seq : BitVec 32) (st : Status) (stamp : Lea) (res : BitVec 128) (tk : Bool) : (s.post cq seq st stamp res tk).guard = s.guard := by
  unfold State.post; split <;> rfl
@[simp] theorem State.post_light (s : State) (cq : Nat) (seq : BitVec 32) (st : Status) (stamp : Lea) (res : BitVec 128) (tk : Bool) : (s.post cq seq st stamp res tk).light = s.light := by
  unfold State.post; split <;> rfl
@[simp] theorem State.post_skein (s : State) (cq : Nat) (seq : BitVec 32) (st : Status) (stamp : Lea) (res : BitVec 128) (tk : Bool) : (s.post cq seq st stamp res tk).skein = s.skein := by
  unfold State.post; split <;> rfl
@[simp] theorem State.post_creel (s : State) (cq : Nat) (seq : BitVec 32) (st : Status) (stamp : Lea) (res : BitVec 128) (tk : Bool) : (s.post cq seq st stamp res tk).creel = s.creel := by
  unfold State.post; split <;> rfl
@[simp] theorem State.post_ply (s : State) (cq : Nat) (seq : BitVec 32) (st : Status) (stamp : Lea) (res : BitVec 128) (tk : Bool) : (s.post cq seq st stamp res tk).ply = s.ply := by
  unfold State.post; split <;> rfl
@[simp] theorem State.post_memory (s : State) (cq : Nat) (seq : BitVec 32) (st : Status) (stamp : Lea) (res : BitVec 128) (tk : Bool) : (s.post cq seq st stamp res tk).memory = s.memory := by
  unfold State.post; split <;> rfl
@[simp] theorem State.post_reel (s : State) (cq : Nat) (seq : BitVec 32) (st : Status) (stamp : Lea) (res : BitVec 128) (tk : Bool) : (s.post cq seq st stamp res tk).reel = s.reel := by
  unfold State.post; split <;> rfl
@[simp] theorem State.post_rport (s : State) (cq : Nat) (seq : BitVec 32) (st : Status) (stamp : Lea) (res : BitVec 128) (tk : Bool) : (s.post cq seq st stamp res tk).rport = s.rport := by
  unfold State.post; split <;> rfl
@[simp] theorem State.post_free (s : State) (cq : Nat) (seq : BitVec 32) (st : Status) (stamp : Lea) (res : BitVec 128) (tk : Bool) : (s.post cq seq st stamp res tk).free = s.free := by
  unfold State.post; split <;> rfl
@[simp] theorem State.post_pending (s : State) (cq : Nat) (seq : BitVec 32) (st : Status) (stamp : Lea) (res : BitVec 128) (tk : Bool) : (s.post cq seq st stamp res tk).pending = s.pending := by
  unfold State.post; split <;> rfl
@[simp] theorem State.post_hbm (s : State) (cq : Nat) (seq : BitVec 32) (st : Status) (stamp : Lea) (res : BitVec 128) (tk : Bool) : (s.post cq seq st stamp res tk).mems.hbm = s.mems.hbm := by
  unfold State.post; split <;> simp
@[simp] theorem State.post_sram (s : State) (cq : Nat) (seq : BitVec 32) (st : Status) (stamp : Lea) (res : BitVec 128) (tk : Bool) : (s.post cq seq st stamp res tk).mems.sram = s.mems.sram := by
  unfold State.post; split <;> simp
@[simp] theorem State.post_hbmPoison (s : State) (cq : Nat) (seq : BitVec 32) (st : Status) (stamp : Lea) (res : BitVec 128) (tk : Bool) : (s.post cq seq st stamp res tk).mems.hbmPoison = s.mems.hbmPoison := by
  unfold State.post; split <;> simp
@[simp] theorem State.post_sramPoison (s : State) (cq : Nat) (seq : BitVec 32) (st : Status) (stamp : Lea) (res : BitVec 128) (tk : Bool) : (s.post cq seq st stamp res tk).mems.sramPoison = s.mems.sramPoison := by
  unfold State.post; split <;> simp

/-! ### done -/

@[simp] theorem State.done_time (s : State) (c : Cmd) (st : Status) (res : BitVec 128) : (s.done c st res).time = s.time := by
  unfold State.done; split <;> simp
@[simp] theorem State.done_mod (s : State) (c : Cmd) (st : Status) (res : BitVec 128) : (s.done c st res).mod = s.mod := by
  unfold State.done; split <;> simp
@[simp] theorem State.done_conf (s : State) (c : Cmd) (st : Status) (res : BitVec 128) : (s.done c st res).conf = s.conf := by
  unfold State.done; split <;> simp
@[simp] theorem State.done_pow (s : State) (c : Cmd) (st : Status) (res : BitVec 128) : (s.done c st res).pow = s.pow := by
  unfold State.done; split <;> simp
@[simp] theorem State.done_job (s : State) (c : Cmd) (st : Status) (res : BitVec 128) : (s.done c st res).job = s.job := by
  unfold State.done; split <;> simp
@[simp] theorem State.done_cal (s : State) (c : Cmd) (st : Status) (res : BitVec 128) : (s.done c st res).cal = s.cal := by
  unfold State.done; split <;> simp
@[simp] theorem State.done_plan (s : State) (c : Cmd) (st : Status) (res : BitVec 128) : (s.done c st res).plan = s.plan := by
  unfold State.done; split <;> simp
@[simp] theorem State.done_sec (s : State) (c : Cmd) (st : Status) (res : BitVec 128) : (s.done c st res).sec = s.sec := by
  unfold State.done; split <;> simp
@[simp] theorem State.done_card (s : State) (c : Cmd) (st : Status) (res : BitVec 128) : (s.done c st res).card = s.card := by
  unfold State.done; split <;> simp
@[simp] theorem State.done_fuse (s : State) (c : Cmd) (st : Status) (res : BitVec 128) : (s.done c st res).fuse = s.fuse := by
  unfold State.done; split <;> simp
@[simp] theorem State.done_region (s : State) (c : Cmd) (st : Status) (res : BitVec 128) : (s.done c st res).region = s.region := by
  unfold State.done; split <;> simp
@[simp] theorem State.done_block (s : State) (c : Cmd) (st : Status) (res : BitVec 128) : (s.done c st res).block = s.block := by
  unfold State.done; split <;> simp
@[simp] theorem State.done_cell (s : State) (c : Cmd) (st : Status) (res : BitVec 128) : (s.done c st res).cell = s.cell := by
  unfold State.done; split <;> simp
@[simp] theorem State.done_guard (s : State) (c : Cmd) (st : Status) (res : BitVec 128) : (s.done c st res).guard = s.guard := by
  unfold State.done; split <;> simp
@[simp] theorem State.done_light (s : State) (c : Cmd) (st : Status) (res : BitVec 128) : (s.done c st res).light = s.light := by
  unfold State.done; split <;> simp
@[simp] theorem State.done_skein (s : State) (c : Cmd) (st : Status) (res : BitVec 128) : (s.done c st res).skein = s.skein := by
  unfold State.done; split <;> simp
@[simp] theorem State.done_creel (s : State) (c : Cmd) (st : Status) (res : BitVec 128) : (s.done c st res).creel = s.creel := by
  unfold State.done; split <;> simp
@[simp] theorem State.done_ply (s : State) (c : Cmd) (st : Status) (res : BitVec 128) : (s.done c st res).ply = s.ply := by
  unfold State.done; split <;> simp
@[simp] theorem State.done_memory (s : State) (c : Cmd) (st : Status) (res : BitVec 128) : (s.done c st res).memory = s.memory := by
  unfold State.done; split <;> simp
@[simp] theorem State.done_reel (s : State) (c : Cmd) (st : Status) (res : BitVec 128) : (s.done c st res).reel = s.reel := by
  unfold State.done; split <;> simp
@[simp] theorem State.done_rport (s : State) (c : Cmd) (st : Status) (res : BitVec 128) : (s.done c st res).rport = s.rport := by
  unfold State.done; split <;> simp
@[simp] theorem State.done_free (s : State) (c : Cmd) (st : Status) (res : BitVec 128) : (s.done c st res).free = s.free := by
  unfold State.done; split <;> simp
@[simp] theorem State.done_pending (s : State) (c : Cmd) (st : Status) (res : BitVec 128) : (s.done c st res).pending = s.pending := by
  unfold State.done; split <;> simp
@[simp] theorem State.done_hbm (s : State) (c : Cmd) (st : Status) (res : BitVec 128) : (s.done c st res).mems.hbm = s.mems.hbm := by
  unfold State.done; split <;> simp
@[simp] theorem State.done_sram (s : State) (c : Cmd) (st : Status) (res : BitVec 128) : (s.done c st res).mems.sram = s.mems.sram := by
  unfold State.done; split <;> simp
@[simp] theorem State.done_hbmPoison (s : State) (c : Cmd) (st : Status) (res : BitVec 128) : (s.done c st res).mems.hbmPoison = s.mems.hbmPoison := by
  unfold State.done; split <;> simp
@[simp] theorem State.done_sramPoison (s : State) (c : Cmd) (st : Status) (res : BitVec 128) : (s.done c st res).mems.sramPoison = s.mems.sramPoison := by
  unfold State.done; split <;> simp

/-! ### setSeq -/

@[simp] theorem State.setSeq_time (s : State) (c : Cmd) : (s.setSeq c).time = s.time := by
  unfold State.setSeq; split <;> rfl
@[simp] theorem State.setSeq_obs (s : State) (c : Cmd) : (s.setSeq c).obs = s.obs := by
  unfold State.setSeq; split <;> rfl
@[simp] theorem State.setSeq_mems (s : State) (c : Cmd) : (s.setSeq c).mems = s.mems := by
  unfold State.setSeq; split <;> rfl
@[simp] theorem State.setSeq_spin (s : State) (c : Cmd) : (s.setSeq c).spin = s.spin := by
  unfold State.setSeq; split <;> rfl
@[simp] theorem State.setSeq_mod (s : State) (c : Cmd) : (s.setSeq c).mod = s.mod := by
  unfold State.setSeq; split <;> rfl
@[simp] theorem State.setSeq_conf (s : State) (c : Cmd) : (s.setSeq c).conf = s.conf := by
  unfold State.setSeq; split <;> rfl
@[simp] theorem State.setSeq_pow (s : State) (c : Cmd) : (s.setSeq c).pow = s.pow := by
  unfold State.setSeq; split <;> rfl
@[simp] theorem State.setSeq_job (s : State) (c : Cmd) : (s.setSeq c).job = s.job := by
  unfold State.setSeq; split <;> rfl
@[simp] theorem State.setSeq_cal (s : State) (c : Cmd) : (s.setSeq c).cal = s.cal := by
  unfold State.setSeq; split <;> rfl
@[simp] theorem State.setSeq_plan (s : State) (c : Cmd) : (s.setSeq c).plan = s.plan := by
  unfold State.setSeq; split <;> rfl
@[simp] theorem State.setSeq_sec (s : State) (c : Cmd) : (s.setSeq c).sec = s.sec := by
  unfold State.setSeq; split <;> rfl
@[simp] theorem State.setSeq_card (s : State) (c : Cmd) : (s.setSeq c).card = s.card := by
  unfold State.setSeq; split <;> rfl
@[simp] theorem State.setSeq_fuse (s : State) (c : Cmd) : (s.setSeq c).fuse = s.fuse := by
  unfold State.setSeq; split <;> rfl
@[simp] theorem State.setSeq_region (s : State) (c : Cmd) : (s.setSeq c).region = s.region := by
  unfold State.setSeq; split <;> rfl
@[simp] theorem State.setSeq_block (s : State) (c : Cmd) : (s.setSeq c).block = s.block := by
  unfold State.setSeq; split <;> rfl
@[simp] theorem State.setSeq_cell (s : State) (c : Cmd) : (s.setSeq c).cell = s.cell := by
  unfold State.setSeq; split <;> rfl
@[simp] theorem State.setSeq_guard (s : State) (c : Cmd) : (s.setSeq c).guard = s.guard := by
  unfold State.setSeq; split <;> rfl
@[simp] theorem State.setSeq_light (s : State) (c : Cmd) : (s.setSeq c).light = s.light := by
  unfold State.setSeq; split <;> rfl
@[simp] theorem State.setSeq_skein (s : State) (c : Cmd) : (s.setSeq c).skein = s.skein := by
  unfold State.setSeq; split <;> rfl
@[simp] theorem State.setSeq_creel (s : State) (c : Cmd) : (s.setSeq c).creel = s.creel := by
  unfold State.setSeq; split <;> rfl
@[simp] theorem State.setSeq_ply (s : State) (c : Cmd) : (s.setSeq c).ply = s.ply := by
  unfold State.setSeq; split <;> rfl
@[simp] theorem State.setSeq_memory (s : State) (c : Cmd) : (s.setSeq c).memory = s.memory := by
  unfold State.setSeq; split <;> rfl
@[simp] theorem State.setSeq_reel (s : State) (c : Cmd) : (s.setSeq c).reel = s.reel := by
  unfold State.setSeq; split <;> rfl
@[simp] theorem State.setSeq_rport (s : State) (c : Cmd) : (s.setSeq c).rport = s.rport := by
  unfold State.setSeq; split <;> rfl
@[simp] theorem State.setSeq_free (s : State) (c : Cmd) : (s.setSeq c).free = s.free := by
  unfold State.setSeq; split <;> rfl
@[simp] theorem State.setSeq_pending (s : State) (c : Cmd) : (s.setSeq c).pending = s.pending := by
  unfold State.setSeq; split <;> rfl

/-! ### refusalEffects -/

@[simp] theorem State.refusalEffects_time (s : State) (op : Nat) (r : Reject) : (s.refusalEffects op r).time = s.time := by
  unfold State.refusalEffects State.when; split <;> split <;> rfl
@[simp] theorem State.refusalEffects_host (s : State) (op : Nat) (r : Reject) : (s.refusalEffects op r).host = s.host := by
  unfold State.refusalEffects State.when; split <;> split <;> rfl
@[simp] theorem State.refusalEffects_mems (s : State) (op : Nat) (r : Reject) : (s.refusalEffects op r).mems = s.mems := by
  unfold State.refusalEffects State.when; split <;> split <;> rfl
@[simp] theorem State.refusalEffects_spin (s : State) (op : Nat) (r : Reject) : (s.refusalEffects op r).spin = s.spin := by
  unfold State.refusalEffects State.when; split <;> split <;> rfl
@[simp] theorem State.refusalEffects_mod (s : State) (op : Nat) (r : Reject) : (s.refusalEffects op r).mod = s.mod := by
  unfold State.refusalEffects State.when; split <;> split <;> rfl
@[simp] theorem State.refusalEffects_conf (s : State) (op : Nat) (r : Reject) : (s.refusalEffects op r).conf = s.conf := by
  unfold State.refusalEffects State.when; split <;> split <;> rfl
@[simp] theorem State.refusalEffects_pow (s : State) (op : Nat) (r : Reject) : (s.refusalEffects op r).pow = s.pow := by
  unfold State.refusalEffects State.when; split <;> split <;> rfl
@[simp] theorem State.refusalEffects_job (s : State) (op : Nat) (r : Reject) : (s.refusalEffects op r).job = s.job := by
  unfold State.refusalEffects State.when; split <;> split <;> rfl
@[simp] theorem State.refusalEffects_cal (s : State) (op : Nat) (r : Reject) : (s.refusalEffects op r).cal = s.cal := by
  unfold State.refusalEffects State.when; split <;> split <;> rfl
@[simp] theorem State.refusalEffects_plan (s : State) (op : Nat) (r : Reject) : (s.refusalEffects op r).plan = s.plan := by
  unfold State.refusalEffects State.when; split <;> split <;> rfl
@[simp] theorem State.refusalEffects_sec (s : State) (op : Nat) (r : Reject) : (s.refusalEffects op r).sec = s.sec := by
  unfold State.refusalEffects State.when; split <;> split <;> rfl
@[simp] theorem State.refusalEffects_card (s : State) (op : Nat) (r : Reject) : (s.refusalEffects op r).card = s.card := by
  unfold State.refusalEffects State.when; split <;> split <;> rfl
@[simp] theorem State.refusalEffects_fuse (s : State) (op : Nat) (r : Reject) : (s.refusalEffects op r).fuse = s.fuse := by
  unfold State.refusalEffects State.when; split <;> split <;> rfl
@[simp] theorem State.refusalEffects_region (s : State) (op : Nat) (r : Reject) : (s.refusalEffects op r).region = s.region := by
  unfold State.refusalEffects State.when; split <;> split <;> rfl
@[simp] theorem State.refusalEffects_block (s : State) (op : Nat) (r : Reject) : (s.refusalEffects op r).block = s.block := by
  unfold State.refusalEffects State.when; split <;> split <;> rfl
@[simp] theorem State.refusalEffects_cell (s : State) (op : Nat) (r : Reject) : (s.refusalEffects op r).cell = s.cell := by
  unfold State.refusalEffects State.when; split <;> split <;> rfl
@[simp] theorem State.refusalEffects_guard (s : State) (op : Nat) (r : Reject) : (s.refusalEffects op r).guard = s.guard := by
  unfold State.refusalEffects State.when; split <;> split <;> rfl
@[simp] theorem State.refusalEffects_light (s : State) (op : Nat) (r : Reject) : (s.refusalEffects op r).light = s.light := by
  unfold State.refusalEffects State.when; split <;> split <;> rfl
@[simp] theorem State.refusalEffects_skein (s : State) (op : Nat) (r : Reject) : (s.refusalEffects op r).skein = s.skein := by
  unfold State.refusalEffects State.when; split <;> split <;> rfl
@[simp] theorem State.refusalEffects_creel (s : State) (op : Nat) (r : Reject) : (s.refusalEffects op r).creel = s.creel := by
  unfold State.refusalEffects State.when; split <;> split <;> rfl
@[simp] theorem State.refusalEffects_ply (s : State) (op : Nat) (r : Reject) : (s.refusalEffects op r).ply = s.ply := by
  unfold State.refusalEffects State.when; split <;> split <;> rfl
@[simp] theorem State.refusalEffects_memory (s : State) (op : Nat) (r : Reject) : (s.refusalEffects op r).memory = s.memory := by
  unfold State.refusalEffects State.when; split <;> split <;> rfl
@[simp] theorem State.refusalEffects_reel (s : State) (op : Nat) (r : Reject) : (s.refusalEffects op r).reel = s.reel := by
  unfold State.refusalEffects State.when; split <;> split <;> rfl
@[simp] theorem State.refusalEffects_rport (s : State) (op : Nat) (r : Reject) : (s.refusalEffects op r).rport = s.rport := by
  unfold State.refusalEffects State.when; split <;> split <;> rfl
@[simp] theorem State.refusalEffects_free (s : State) (op : Nat) (r : Reject) : (s.refusalEffects op r).free = s.free := by
  unfold State.refusalEffects State.when; split <;> split <;> rfl
@[simp] theorem State.refusalEffects_pending (s : State) (op : Nat) (r : Reject) : (s.refusalEffects op r).pending = s.pending := by
  unfold State.refusalEffects State.when; split <;> split <;> rfl

/-! ### refuse -/

@[simp] theorem State.refuse_time (s : State) (op : Nat) (c : Cmd) (r : Reject) : (s.refuse op c r).time = s.time := by
  unfold State.refuse State.when; split <;> simp
@[simp] theorem State.refuse_mod (s : State) (op : Nat) (c : Cmd) (r : Reject) : (s.refuse op c r).mod = s.mod := by
  unfold State.refuse State.when; split <;> simp
@[simp] theorem State.refuse_conf (s : State) (op : Nat) (c : Cmd) (r : Reject) : (s.refuse op c r).conf = s.conf := by
  unfold State.refuse State.when; split <;> simp
@[simp] theorem State.refuse_pow (s : State) (op : Nat) (c : Cmd) (r : Reject) : (s.refuse op c r).pow = s.pow := by
  unfold State.refuse State.when; split <;> simp
@[simp] theorem State.refuse_job (s : State) (op : Nat) (c : Cmd) (r : Reject) : (s.refuse op c r).job = s.job := by
  unfold State.refuse State.when; split <;> simp
@[simp] theorem State.refuse_cal (s : State) (op : Nat) (c : Cmd) (r : Reject) : (s.refuse op c r).cal = s.cal := by
  unfold State.refuse State.when; split <;> simp
@[simp] theorem State.refuse_plan (s : State) (op : Nat) (c : Cmd) (r : Reject) : (s.refuse op c r).plan = s.plan := by
  unfold State.refuse State.when; split <;> simp
@[simp] theorem State.refuse_sec (s : State) (op : Nat) (c : Cmd) (r : Reject) : (s.refuse op c r).sec = s.sec := by
  unfold State.refuse State.when; split <;> simp
@[simp] theorem State.refuse_card (s : State) (op : Nat) (c : Cmd) (r : Reject) : (s.refuse op c r).card = s.card := by
  unfold State.refuse State.when; split <;> simp
@[simp] theorem State.refuse_fuse (s : State) (op : Nat) (c : Cmd) (r : Reject) : (s.refuse op c r).fuse = s.fuse := by
  unfold State.refuse State.when; split <;> simp
@[simp] theorem State.refuse_region (s : State) (op : Nat) (c : Cmd) (r : Reject) : (s.refuse op c r).region = s.region := by
  unfold State.refuse State.when; split <;> simp
@[simp] theorem State.refuse_block (s : State) (op : Nat) (c : Cmd) (r : Reject) : (s.refuse op c r).block = s.block := by
  unfold State.refuse State.when; split <;> simp
@[simp] theorem State.refuse_cell (s : State) (op : Nat) (c : Cmd) (r : Reject) : (s.refuse op c r).cell = s.cell := by
  unfold State.refuse State.when; split <;> simp
@[simp] theorem State.refuse_guard (s : State) (op : Nat) (c : Cmd) (r : Reject) : (s.refuse op c r).guard = s.guard := by
  unfold State.refuse State.when; split <;> simp
@[simp] theorem State.refuse_light (s : State) (op : Nat) (c : Cmd) (r : Reject) : (s.refuse op c r).light = s.light := by
  unfold State.refuse State.when; split <;> simp
@[simp] theorem State.refuse_skein (s : State) (op : Nat) (c : Cmd) (r : Reject) : (s.refuse op c r).skein = s.skein := by
  unfold State.refuse State.when; split <;> simp
@[simp] theorem State.refuse_creel (s : State) (op : Nat) (c : Cmd) (r : Reject) : (s.refuse op c r).creel = s.creel := by
  unfold State.refuse State.when; split <;> simp
@[simp] theorem State.refuse_ply (s : State) (op : Nat) (c : Cmd) (r : Reject) : (s.refuse op c r).ply = s.ply := by
  unfold State.refuse State.when; split <;> simp
@[simp] theorem State.refuse_memory (s : State) (op : Nat) (c : Cmd) (r : Reject) : (s.refuse op c r).memory = s.memory := by
  unfold State.refuse State.when; split <;> simp
@[simp] theorem State.refuse_reel (s : State) (op : Nat) (c : Cmd) (r : Reject) : (s.refuse op c r).reel = s.reel := by
  unfold State.refuse State.when; split <;> simp
@[simp] theorem State.refuse_rport (s : State) (op : Nat) (c : Cmd) (r : Reject) : (s.refuse op c r).rport = s.rport := by
  unfold State.refuse State.when; split <;> simp
@[simp] theorem State.refuse_free (s : State) (op : Nat) (c : Cmd) (r : Reject) : (s.refuse op c r).free = s.free := by
  unfold State.refuse State.when; split <;> simp
@[simp] theorem State.refuse_pending (s : State) (op : Nat) (c : Cmd) (r : Reject) : (s.refuse op c r).pending = s.pending := by
  unfold State.refuse State.when; split <;> simp
@[simp] theorem State.refuse_hbm (s : State) (op : Nat) (c : Cmd) (r : Reject) : (s.refuse op c r).mems.hbm = s.mems.hbm := by
  unfold State.refuse State.when; split <;> simp
@[simp] theorem State.refuse_sram (s : State) (op : Nat) (c : Cmd) (r : Reject) : (s.refuse op c r).mems.sram = s.mems.sram := by
  unfold State.refuse State.when; split <;> simp
@[simp] theorem State.refuse_hbmPoison (s : State) (op : Nat) (c : Cmd) (r : Reject) : (s.refuse op c r).mems.hbmPoison = s.mems.hbmPoison := by
  unfold State.refuse State.when; split <;> simp
@[simp] theorem State.refuse_sramPoison (s : State) (op : Nat) (c : Cmd) (r : Reject) : (s.refuse op c r).mems.sramPoison = s.mems.sramPoison := by
  unfold State.refuse State.when; split <;> simp

/-! ### accept -/

@[simp] theorem State.accept_time (s : State) (k : CmdSpec) (c : Cmd) : (s.accept k c).time = s.time := (State.when_keeps (·.time) (by simp) _).trans (by simp)
@[simp] theorem State.accept_mod (s : State) (k : CmdSpec) (c : Cmd) : (s.accept k c).mod = s.mod := (State.when_keeps (·.mod) (by simp) _).trans (by simp)
@[simp] theorem State.accept_conf (s : State) (k : CmdSpec) (c : Cmd) : (s.accept k c).conf = s.conf := (State.when_keeps (·.conf) (by simp) _).trans (by simp)
@[simp] theorem State.accept_pow (s : State) (k : CmdSpec) (c : Cmd) : (s.accept k c).pow = s.pow := (State.when_keeps (·.pow) (by simp) _).trans (by simp)
@[simp] theorem State.accept_job (s : State) (k : CmdSpec) (c : Cmd) : (s.accept k c).job = s.job := (State.when_keeps (·.job) (by simp) _).trans (by simp)
@[simp] theorem State.accept_cal (s : State) (k : CmdSpec) (c : Cmd) : (s.accept k c).cal = s.cal := (State.when_keeps (·.cal) (by simp) _).trans (by simp)
@[simp] theorem State.accept_plan (s : State) (k : CmdSpec) (c : Cmd) : (s.accept k c).plan = s.plan := (State.when_keeps (·.plan) (by simp) _).trans (by simp)
@[simp] theorem State.accept_sec (s : State) (k : CmdSpec) (c : Cmd) : (s.accept k c).sec = s.sec := (State.when_keeps (·.sec) (by simp) _).trans (by simp)
@[simp] theorem State.accept_card (s : State) (k : CmdSpec) (c : Cmd) : (s.accept k c).card = s.card := (State.when_keeps (·.card) (by simp) _).trans (by simp)
@[simp] theorem State.accept_fuse (s : State) (k : CmdSpec) (c : Cmd) : (s.accept k c).fuse = s.fuse := (State.when_keeps (·.fuse) (by simp) _).trans (by simp)
@[simp] theorem State.accept_region (s : State) (k : CmdSpec) (c : Cmd) : (s.accept k c).region = s.region := (State.when_keeps (·.region) (by simp) _).trans (by simp)
@[simp] theorem State.accept_block (s : State) (k : CmdSpec) (c : Cmd) : (s.accept k c).block = s.block := (State.when_keeps (·.block) (by simp) _).trans (by simp)
@[simp] theorem State.accept_cell (s : State) (k : CmdSpec) (c : Cmd) : (s.accept k c).cell = s.cell := (State.when_keeps (·.cell) (by simp) _).trans (by simp)
@[simp] theorem State.accept_guard (s : State) (k : CmdSpec) (c : Cmd) : (s.accept k c).guard = s.guard := (State.when_keeps (·.guard) (by simp) _).trans (by simp)
@[simp] theorem State.accept_light (s : State) (k : CmdSpec) (c : Cmd) : (s.accept k c).light = s.light := (State.when_keeps (·.light) (by simp) _).trans (by simp)
@[simp] theorem State.accept_skein (s : State) (k : CmdSpec) (c : Cmd) : (s.accept k c).skein = s.skein := (State.when_keeps (·.skein) (by simp) _).trans (by simp)
@[simp] theorem State.accept_creel (s : State) (k : CmdSpec) (c : Cmd) : (s.accept k c).creel = s.creel := (State.when_keeps (·.creel) (by simp) _).trans (by simp)
@[simp] theorem State.accept_ply (s : State) (k : CmdSpec) (c : Cmd) : (s.accept k c).ply = s.ply := (State.when_keeps (·.ply) (by simp) _).trans (by simp)
@[simp] theorem State.accept_memory (s : State) (k : CmdSpec) (c : Cmd) : (s.accept k c).memory = s.memory := (State.when_keeps (·.memory) (by simp) _).trans (by simp)
@[simp] theorem State.accept_reel (s : State) (k : CmdSpec) (c : Cmd) : (s.accept k c).reel = s.reel := (State.when_keeps (·.reel) (by simp) _).trans (by simp)
@[simp] theorem State.accept_rport (s : State) (k : CmdSpec) (c : Cmd) : (s.accept k c).rport = s.rport := (State.when_keeps (·.rport) (by simp) _).trans (by simp)
@[simp] theorem State.accept_free (s : State) (k : CmdSpec) (c : Cmd) : (s.accept k c).free = s.free := (State.when_keeps (·.free) (by simp) _).trans (by simp)
@[simp] theorem State.accept_pending (s : State) (k : CmdSpec) (c : Cmd) : (s.accept k c).pending = s.pending := (State.when_keeps (·.pending) (by simp) _).trans (by simp)
@[simp] theorem State.accept_hbm (s : State) (k : CmdSpec) (c : Cmd) : (s.accept k c).mems.hbm = s.mems.hbm := (State.when_keeps (·.mems.hbm) (by simp) _).trans (by simp)
@[simp] theorem State.accept_sram (s : State) (k : CmdSpec) (c : Cmd) : (s.accept k c).mems.sram = s.mems.sram := (State.when_keeps (·.mems.sram) (by simp) _).trans (by simp)
@[simp] theorem State.accept_hbmPoison (s : State) (k : CmdSpec) (c : Cmd) : (s.accept k c).mems.hbmPoison = s.mems.hbmPoison := (State.when_keeps (·.mems.hbmPoison) (by simp) _).trans (by simp)
@[simp] theorem State.accept_sramPoison (s : State) (k : CmdSpec) (c : Cmd) : (s.accept k c).mems.sramPoison = s.mems.sramPoison := (State.when_keeps (·.mems.sramPoison) (by simp) _).trans (by simp)

/-! ### hbmSpindleRead -/

@[simp] theorem State.hbmSpindleRead_time (s : State) (pa : Nat) : (s.hbmSpindleRead pa).time = s.time := rfl
@[simp] theorem State.hbmSpindleRead_host (s : State) (pa : Nat) : (s.hbmSpindleRead pa).host = s.host := rfl
@[simp] theorem State.hbmSpindleRead_mems (s : State) (pa : Nat) : (s.hbmSpindleRead pa).mems = s.mems := rfl
@[simp] theorem State.hbmSpindleRead_spin (s : State) (pa : Nat) : (s.hbmSpindleRead pa).spin = s.spin := rfl
@[simp] theorem State.hbmSpindleRead_mod (s : State) (pa : Nat) : (s.hbmSpindleRead pa).mod = s.mod := rfl
@[simp] theorem State.hbmSpindleRead_conf (s : State) (pa : Nat) : (s.hbmSpindleRead pa).conf = s.conf := rfl
@[simp] theorem State.hbmSpindleRead_pow (s : State) (pa : Nat) : (s.hbmSpindleRead pa).pow = s.pow := rfl
@[simp] theorem State.hbmSpindleRead_job (s : State) (pa : Nat) : (s.hbmSpindleRead pa).job = s.job := rfl
@[simp] theorem State.hbmSpindleRead_cal (s : State) (pa : Nat) : (s.hbmSpindleRead pa).cal = s.cal := rfl
@[simp] theorem State.hbmSpindleRead_plan (s : State) (pa : Nat) : (s.hbmSpindleRead pa).plan = s.plan := rfl
@[simp] theorem State.hbmSpindleRead_sec (s : State) (pa : Nat) : (s.hbmSpindleRead pa).sec = s.sec := rfl
@[simp] theorem State.hbmSpindleRead_card (s : State) (pa : Nat) : (s.hbmSpindleRead pa).card = s.card := rfl
@[simp] theorem State.hbmSpindleRead_fuse (s : State) (pa : Nat) : (s.hbmSpindleRead pa).fuse = s.fuse := rfl
@[simp] theorem State.hbmSpindleRead_region (s : State) (pa : Nat) : (s.hbmSpindleRead pa).region = s.region := rfl
@[simp] theorem State.hbmSpindleRead_block (s : State) (pa : Nat) : (s.hbmSpindleRead pa).block = s.block := rfl
@[simp] theorem State.hbmSpindleRead_cell (s : State) (pa : Nat) : (s.hbmSpindleRead pa).cell = s.cell := rfl
@[simp] theorem State.hbmSpindleRead_guard (s : State) (pa : Nat) : (s.hbmSpindleRead pa).guard = s.guard := rfl
@[simp] theorem State.hbmSpindleRead_light (s : State) (pa : Nat) : (s.hbmSpindleRead pa).light = s.light := rfl
@[simp] theorem State.hbmSpindleRead_skein (s : State) (pa : Nat) : (s.hbmSpindleRead pa).skein = s.skein := rfl
@[simp] theorem State.hbmSpindleRead_creel (s : State) (pa : Nat) : (s.hbmSpindleRead pa).creel = s.creel := rfl
@[simp] theorem State.hbmSpindleRead_ply (s : State) (pa : Nat) : (s.hbmSpindleRead pa).ply = s.ply := rfl
@[simp] theorem State.hbmSpindleRead_memory (s : State) (pa : Nat) : (s.hbmSpindleRead pa).memory = s.memory := rfl
@[simp] theorem State.hbmSpindleRead_reel (s : State) (pa : Nat) : (s.hbmSpindleRead pa).reel = s.reel := rfl
@[simp] theorem State.hbmSpindleRead_rport (s : State) (pa : Nat) : (s.hbmSpindleRead pa).rport = s.rport := rfl
@[simp] theorem State.hbmSpindleRead_free (s : State) (pa : Nat) : (s.hbmSpindleRead pa).free = s.free := rfl
@[simp] theorem State.hbmSpindleRead_pending (s : State) (pa : Nat) : (s.hbmSpindleRead pa).pending = s.pending := rfl

/-! ### readCounts -/

@[simp] theorem State.readCounts_time (s : State) (a n : Nat) : (s.readCounts a n).time = s.time := by
  unfold State.readCounts; split <;> simp
@[simp] theorem State.readCounts_host (s : State) (a n : Nat) : (s.readCounts a n).host = s.host := by
  unfold State.readCounts; split <;> simp
@[simp] theorem State.readCounts_mems (s : State) (a n : Nat) : (s.readCounts a n).mems = s.mems := by
  unfold State.readCounts; split <;> simp
@[simp] theorem State.readCounts_spin (s : State) (a n : Nat) : (s.readCounts a n).spin = s.spin := by
  unfold State.readCounts; split <;> simp
@[simp] theorem State.readCounts_mod (s : State) (a n : Nat) : (s.readCounts a n).mod = s.mod := by
  unfold State.readCounts; split <;> simp
@[simp] theorem State.readCounts_conf (s : State) (a n : Nat) : (s.readCounts a n).conf = s.conf := by
  unfold State.readCounts; split <;> simp
@[simp] theorem State.readCounts_pow (s : State) (a n : Nat) : (s.readCounts a n).pow = s.pow := by
  unfold State.readCounts; split <;> simp
@[simp] theorem State.readCounts_job (s : State) (a n : Nat) : (s.readCounts a n).job = s.job := by
  unfold State.readCounts; split <;> simp
@[simp] theorem State.readCounts_cal (s : State) (a n : Nat) : (s.readCounts a n).cal = s.cal := by
  unfold State.readCounts; split <;> simp
@[simp] theorem State.readCounts_plan (s : State) (a n : Nat) : (s.readCounts a n).plan = s.plan := by
  unfold State.readCounts; split <;> simp
@[simp] theorem State.readCounts_sec (s : State) (a n : Nat) : (s.readCounts a n).sec = s.sec := by
  unfold State.readCounts; split <;> simp
@[simp] theorem State.readCounts_card (s : State) (a n : Nat) : (s.readCounts a n).card = s.card := by
  unfold State.readCounts; split <;> simp
@[simp] theorem State.readCounts_fuse (s : State) (a n : Nat) : (s.readCounts a n).fuse = s.fuse := by
  unfold State.readCounts; split <;> simp
@[simp] theorem State.readCounts_region (s : State) (a n : Nat) : (s.readCounts a n).region = s.region := by
  unfold State.readCounts; split <;> simp
@[simp] theorem State.readCounts_block (s : State) (a n : Nat) : (s.readCounts a n).block = s.block := by
  unfold State.readCounts; split <;> simp
@[simp] theorem State.readCounts_cell (s : State) (a n : Nat) : (s.readCounts a n).cell = s.cell := by
  unfold State.readCounts; split <;> simp
@[simp] theorem State.readCounts_guard (s : State) (a n : Nat) : (s.readCounts a n).guard = s.guard := by
  unfold State.readCounts; split <;> simp
@[simp] theorem State.readCounts_light (s : State) (a n : Nat) : (s.readCounts a n).light = s.light := by
  unfold State.readCounts; split <;> simp
@[simp] theorem State.readCounts_skein (s : State) (a n : Nat) : (s.readCounts a n).skein = s.skein := by
  unfold State.readCounts; split <;> simp
@[simp] theorem State.readCounts_creel (s : State) (a n : Nat) : (s.readCounts a n).creel = s.creel := by
  unfold State.readCounts; split <;> simp
@[simp] theorem State.readCounts_ply (s : State) (a n : Nat) : (s.readCounts a n).ply = s.ply := by
  unfold State.readCounts; split <;> simp
@[simp] theorem State.readCounts_memory (s : State) (a n : Nat) : (s.readCounts a n).memory = s.memory := by
  unfold State.readCounts; split <;> simp
@[simp] theorem State.readCounts_reel (s : State) (a n : Nat) : (s.readCounts a n).reel = s.reel := by
  unfold State.readCounts; split <;> simp
@[simp] theorem State.readCounts_rport (s : State) (a n : Nat) : (s.readCounts a n).rport = s.rport := by
  unfold State.readCounts; split <;> simp
@[simp] theorem State.readCounts_free (s : State) (a n : Nat) : (s.readCounts a n).free = s.free := by
  unfold State.readCounts; split <;> simp
@[simp] theorem State.readCounts_pending (s : State) (a n : Nat) : (s.readCounts a n).pending = s.pending := by
  unfold State.readCounts; split <;> simp

/-! ### readFor -/

@[simp] theorem State.readFor_time (s : State) (c : Cmd) (v : Verdict) : (s.readFor c v).time = s.time := State.forEach_keeps (·.time) (fun x s => by simp) _ _
@[simp] theorem State.readFor_host (s : State) (c : Cmd) (v : Verdict) : (s.readFor c v).host = s.host := State.forEach_keeps (·.host) (fun x s => by simp) _ _
@[simp] theorem State.readFor_mems (s : State) (c : Cmd) (v : Verdict) : (s.readFor c v).mems = s.mems := State.forEach_keeps (·.mems) (fun x s => by simp) _ _
@[simp] theorem State.readFor_spin (s : State) (c : Cmd) (v : Verdict) : (s.readFor c v).spin = s.spin := State.forEach_keeps (·.spin) (fun x s => by simp) _ _
@[simp] theorem State.readFor_mod (s : State) (c : Cmd) (v : Verdict) : (s.readFor c v).mod = s.mod := State.forEach_keeps (·.mod) (fun x s => by simp) _ _
@[simp] theorem State.readFor_conf (s : State) (c : Cmd) (v : Verdict) : (s.readFor c v).conf = s.conf := State.forEach_keeps (·.conf) (fun x s => by simp) _ _
@[simp] theorem State.readFor_pow (s : State) (c : Cmd) (v : Verdict) : (s.readFor c v).pow = s.pow := State.forEach_keeps (·.pow) (fun x s => by simp) _ _
@[simp] theorem State.readFor_job (s : State) (c : Cmd) (v : Verdict) : (s.readFor c v).job = s.job := State.forEach_keeps (·.job) (fun x s => by simp) _ _
@[simp] theorem State.readFor_cal (s : State) (c : Cmd) (v : Verdict) : (s.readFor c v).cal = s.cal := State.forEach_keeps (·.cal) (fun x s => by simp) _ _
@[simp] theorem State.readFor_plan (s : State) (c : Cmd) (v : Verdict) : (s.readFor c v).plan = s.plan := State.forEach_keeps (·.plan) (fun x s => by simp) _ _
@[simp] theorem State.readFor_sec (s : State) (c : Cmd) (v : Verdict) : (s.readFor c v).sec = s.sec := State.forEach_keeps (·.sec) (fun x s => by simp) _ _
@[simp] theorem State.readFor_card (s : State) (c : Cmd) (v : Verdict) : (s.readFor c v).card = s.card := State.forEach_keeps (·.card) (fun x s => by simp) _ _
@[simp] theorem State.readFor_fuse (s : State) (c : Cmd) (v : Verdict) : (s.readFor c v).fuse = s.fuse := State.forEach_keeps (·.fuse) (fun x s => by simp) _ _
@[simp] theorem State.readFor_region (s : State) (c : Cmd) (v : Verdict) : (s.readFor c v).region = s.region := State.forEach_keeps (·.region) (fun x s => by simp) _ _
@[simp] theorem State.readFor_block (s : State) (c : Cmd) (v : Verdict) : (s.readFor c v).block = s.block := State.forEach_keeps (·.block) (fun x s => by simp) _ _
@[simp] theorem State.readFor_cell (s : State) (c : Cmd) (v : Verdict) : (s.readFor c v).cell = s.cell := State.forEach_keeps (·.cell) (fun x s => by simp) _ _
@[simp] theorem State.readFor_guard (s : State) (c : Cmd) (v : Verdict) : (s.readFor c v).guard = s.guard := State.forEach_keeps (·.guard) (fun x s => by simp) _ _
@[simp] theorem State.readFor_light (s : State) (c : Cmd) (v : Verdict) : (s.readFor c v).light = s.light := State.forEach_keeps (·.light) (fun x s => by simp) _ _
@[simp] theorem State.readFor_skein (s : State) (c : Cmd) (v : Verdict) : (s.readFor c v).skein = s.skein := State.forEach_keeps (·.skein) (fun x s => by simp) _ _
@[simp] theorem State.readFor_creel (s : State) (c : Cmd) (v : Verdict) : (s.readFor c v).creel = s.creel := State.forEach_keeps (·.creel) (fun x s => by simp) _ _
@[simp] theorem State.readFor_ply (s : State) (c : Cmd) (v : Verdict) : (s.readFor c v).ply = s.ply := State.forEach_keeps (·.ply) (fun x s => by simp) _ _
@[simp] theorem State.readFor_memory (s : State) (c : Cmd) (v : Verdict) : (s.readFor c v).memory = s.memory := State.forEach_keeps (·.memory) (fun x s => by simp) _ _
@[simp] theorem State.readFor_reel (s : State) (c : Cmd) (v : Verdict) : (s.readFor c v).reel = s.reel := State.forEach_keeps (·.reel) (fun x s => by simp) _ _
@[simp] theorem State.readFor_rport (s : State) (c : Cmd) (v : Verdict) : (s.readFor c v).rport = s.rport := State.forEach_keeps (·.rport) (fun x s => by simp) _ _
@[simp] theorem State.readFor_free (s : State) (c : Cmd) (v : Verdict) : (s.readFor c v).free = s.free := State.forEach_keeps (·.free) (fun x s => by simp) _ _
@[simp] theorem State.readFor_pending (s : State) (c : Cmd) (v : Verdict) : (s.readFor c v).pending = s.pending := State.forEach_keeps (·.pending) (fun x s => by simp) _ _

/-! ### endLops -/

@[simp] theorem State.endLops_time (s : State) (p : LOp → Bool) (st : Status) (res : BitVec 128) : (s.endLops p st res).time = s.time := State.forEach_keeps (·.time) (fun x s => by simp) _ _
@[simp] theorem State.endLops_mod (s : State) (p : LOp → Bool) (st : Status) (res : BitVec 128) : (s.endLops p st res).mod = s.mod := State.forEach_keeps (·.mod) (fun x s => by simp) _ _
@[simp] theorem State.endLops_conf (s : State) (p : LOp → Bool) (st : Status) (res : BitVec 128) : (s.endLops p st res).conf = s.conf := State.forEach_keeps (·.conf) (fun x s => by simp) _ _
@[simp] theorem State.endLops_pow (s : State) (p : LOp → Bool) (st : Status) (res : BitVec 128) : (s.endLops p st res).pow = s.pow := State.forEach_keeps (·.pow) (fun x s => by simp) _ _
@[simp] theorem State.endLops_job (s : State) (p : LOp → Bool) (st : Status) (res : BitVec 128) : (s.endLops p st res).job = s.job := State.forEach_keeps (·.job) (fun x s => by simp) _ _
@[simp] theorem State.endLops_cal (s : State) (p : LOp → Bool) (st : Status) (res : BitVec 128) : (s.endLops p st res).cal = s.cal := State.forEach_keeps (·.cal) (fun x s => by simp) _ _
@[simp] theorem State.endLops_plan (s : State) (p : LOp → Bool) (st : Status) (res : BitVec 128) : (s.endLops p st res).plan = s.plan := State.forEach_keeps (·.plan) (fun x s => by simp) _ _
@[simp] theorem State.endLops_sec (s : State) (p : LOp → Bool) (st : Status) (res : BitVec 128) : (s.endLops p st res).sec = s.sec := State.forEach_keeps (·.sec) (fun x s => by simp) _ _
@[simp] theorem State.endLops_card (s : State) (p : LOp → Bool) (st : Status) (res : BitVec 128) : (s.endLops p st res).card = s.card := State.forEach_keeps (·.card) (fun x s => by simp) _ _
@[simp] theorem State.endLops_fuse (s : State) (p : LOp → Bool) (st : Status) (res : BitVec 128) : (s.endLops p st res).fuse = s.fuse := State.forEach_keeps (·.fuse) (fun x s => by simp) _ _
@[simp] theorem State.endLops_region (s : State) (p : LOp → Bool) (st : Status) (res : BitVec 128) : (s.endLops p st res).region = s.region := State.forEach_keeps (·.region) (fun x s => by simp) _ _
@[simp] theorem State.endLops_block (s : State) (p : LOp → Bool) (st : Status) (res : BitVec 128) : (s.endLops p st res).block = s.block := State.forEach_keeps (·.block) (fun x s => by simp) _ _
@[simp] theorem State.endLops_cell (s : State) (p : LOp → Bool) (st : Status) (res : BitVec 128) : (s.endLops p st res).cell = s.cell := State.forEach_keeps (·.cell) (fun x s => by simp) _ _
@[simp] theorem State.endLops_guard (s : State) (p : LOp → Bool) (st : Status) (res : BitVec 128) : (s.endLops p st res).guard = s.guard := State.forEach_keeps (·.guard) (fun x s => by simp) _ _
@[simp] theorem State.endLops_light (s : State) (p : LOp → Bool) (st : Status) (res : BitVec 128) : (s.endLops p st res).light = s.light := State.forEach_keeps (·.light) (fun x s => by simp) _ _
@[simp] theorem State.endLops_skein (s : State) (p : LOp → Bool) (st : Status) (res : BitVec 128) : (s.endLops p st res).skein = s.skein := State.forEach_keeps (·.skein) (fun x s => by simp) _ _
@[simp] theorem State.endLops_creel (s : State) (p : LOp → Bool) (st : Status) (res : BitVec 128) : (s.endLops p st res).creel = s.creel := State.forEach_keeps (·.creel) (fun x s => by simp) _ _
@[simp] theorem State.endLops_ply (s : State) (p : LOp → Bool) (st : Status) (res : BitVec 128) : (s.endLops p st res).ply = s.ply := State.forEach_keeps (·.ply) (fun x s => by simp) _ _
@[simp] theorem State.endLops_memory (s : State) (p : LOp → Bool) (st : Status) (res : BitVec 128) : (s.endLops p st res).memory = s.memory := State.forEach_keeps (·.memory) (fun x s => by simp) _ _
@[simp] theorem State.endLops_reel (s : State) (p : LOp → Bool) (st : Status) (res : BitVec 128) : (s.endLops p st res).reel = s.reel := State.forEach_keeps (·.reel) (fun x s => by simp) _ _
@[simp] theorem State.endLops_rport (s : State) (p : LOp → Bool) (st : Status) (res : BitVec 128) : (s.endLops p st res).rport = s.rport := State.forEach_keeps (·.rport) (fun x s => by simp) _ _
@[simp] theorem State.endLops_free (s : State) (p : LOp → Bool) (st : Status) (res : BitVec 128) : (s.endLops p st res).free = s.free := State.forEach_keeps (·.free) (fun x s => by simp) _ _
@[simp] theorem State.endLops_pending (s : State) (p : LOp → Bool) (st : Status) (res : BitVec 128) : (s.endLops p st res).pending = s.pending := State.forEach_keeps (·.pending) (fun x s => by simp) _ _
@[simp] theorem State.endLops_hbm (s : State) (p : LOp → Bool) (st : Status) (res : BitVec 128) : (s.endLops p st res).mems.hbm = s.mems.hbm := State.forEach_keeps (·.mems.hbm) (fun x s => by simp) _ _
@[simp] theorem State.endLops_sram (s : State) (p : LOp → Bool) (st : Status) (res : BitVec 128) : (s.endLops p st res).mems.sram = s.mems.sram := State.forEach_keeps (·.mems.sram) (fun x s => by simp) _ _
@[simp] theorem State.endLops_hbmPoison (s : State) (p : LOp → Bool) (st : Status) (res : BitVec 128) : (s.endLops p st res).mems.hbmPoison = s.mems.hbmPoison := State.forEach_keeps (·.mems.hbmPoison) (fun x s => by simp) _ _
@[simp] theorem State.endLops_sramPoison (s : State) (p : LOp → Bool) (st : Status) (res : BitVec 128) : (s.endLops p st res).mems.sramPoison = s.mems.sramPoison := State.forEach_keeps (·.mems.sramPoison) (fun x s => by simp) _ _

/-! ### stamp -/

@[simp] theorem State.stamp_time (s : State) (code index station : Nat) (f : Cause → Cause) : (s.stamp code index station f).time = s.time := by
  unfold State.stamp State.when; split <;> rfl
@[simp] theorem State.stamp_host (s : State) (code index station : Nat) (f : Cause → Cause) : (s.stamp code index station f).host = s.host := by
  unfold State.stamp State.when; split <;> rfl
@[simp] theorem State.stamp_mems (s : State) (code index station : Nat) (f : Cause → Cause) : (s.stamp code index station f).mems = s.mems := by
  unfold State.stamp State.when; split <;> rfl
@[simp] theorem State.stamp_spin (s : State) (code index station : Nat) (f : Cause → Cause) : (s.stamp code index station f).spin = s.spin := by
  unfold State.stamp State.when; split <;> rfl
@[simp] theorem State.stamp_mod (s : State) (code index station : Nat) (f : Cause → Cause) : (s.stamp code index station f).mod = s.mod := by
  unfold State.stamp State.when; split <;> rfl
@[simp] theorem State.stamp_conf (s : State) (code index station : Nat) (f : Cause → Cause) : (s.stamp code index station f).conf = s.conf := by
  unfold State.stamp State.when; split <;> rfl
@[simp] theorem State.stamp_pow (s : State) (code index station : Nat) (f : Cause → Cause) : (s.stamp code index station f).pow = s.pow := by
  unfold State.stamp State.when; split <;> rfl
@[simp] theorem State.stamp_cal (s : State) (code index station : Nat) (f : Cause → Cause) : (s.stamp code index station f).cal = s.cal := by
  unfold State.stamp State.when; split <;> rfl
@[simp] theorem State.stamp_plan (s : State) (code index station : Nat) (f : Cause → Cause) : (s.stamp code index station f).plan = s.plan := by
  unfold State.stamp State.when; split <;> rfl
@[simp] theorem State.stamp_sec (s : State) (code index station : Nat) (f : Cause → Cause) : (s.stamp code index station f).sec = s.sec := by
  unfold State.stamp State.when; split <;> rfl
@[simp] theorem State.stamp_card (s : State) (code index station : Nat) (f : Cause → Cause) : (s.stamp code index station f).card = s.card := by
  unfold State.stamp State.when; split <;> rfl
@[simp] theorem State.stamp_fuse (s : State) (code index station : Nat) (f : Cause → Cause) : (s.stamp code index station f).fuse = s.fuse := by
  unfold State.stamp State.when; split <;> rfl
@[simp] theorem State.stamp_region (s : State) (code index station : Nat) (f : Cause → Cause) : (s.stamp code index station f).region = s.region := by
  unfold State.stamp State.when; split <;> rfl
@[simp] theorem State.stamp_block (s : State) (code index station : Nat) (f : Cause → Cause) : (s.stamp code index station f).block = s.block := by
  unfold State.stamp State.when; split <;> rfl
@[simp] theorem State.stamp_cell (s : State) (code index station : Nat) (f : Cause → Cause) : (s.stamp code index station f).cell = s.cell := by
  unfold State.stamp State.when; split <;> rfl
@[simp] theorem State.stamp_guard (s : State) (code index station : Nat) (f : Cause → Cause) : (s.stamp code index station f).guard = s.guard := by
  unfold State.stamp State.when; split <;> rfl
@[simp] theorem State.stamp_light (s : State) (code index station : Nat) (f : Cause → Cause) : (s.stamp code index station f).light = s.light := by
  unfold State.stamp State.when; split <;> rfl
@[simp] theorem State.stamp_skein (s : State) (code index station : Nat) (f : Cause → Cause) : (s.stamp code index station f).skein = s.skein := by
  unfold State.stamp State.when; split <;> rfl
@[simp] theorem State.stamp_creel (s : State) (code index station : Nat) (f : Cause → Cause) : (s.stamp code index station f).creel = s.creel := by
  unfold State.stamp State.when; split <;> rfl
@[simp] theorem State.stamp_ply (s : State) (code index station : Nat) (f : Cause → Cause) : (s.stamp code index station f).ply = s.ply := by
  unfold State.stamp State.when; split <;> rfl
@[simp] theorem State.stamp_memory (s : State) (code index station : Nat) (f : Cause → Cause) : (s.stamp code index station f).memory = s.memory := by
  unfold State.stamp State.when; split <;> rfl
@[simp] theorem State.stamp_reel (s : State) (code index station : Nat) (f : Cause → Cause) : (s.stamp code index station f).reel = s.reel := by
  unfold State.stamp State.when; split <;> rfl
@[simp] theorem State.stamp_rport (s : State) (code index station : Nat) (f : Cause → Cause) : (s.stamp code index station f).rport = s.rport := by
  unfold State.stamp State.when; split <;> rfl
@[simp] theorem State.stamp_free (s : State) (code index station : Nat) (f : Cause → Cause) : (s.stamp code index station f).free = s.free := by
  unfold State.stamp State.when; split <;> rfl
@[simp] theorem State.stamp_pending (s : State) (code index station : Nat) (f : Cause → Cause) : (s.stamp code index station f).pending = s.pending := by
  unfold State.stamp State.when; split <;> rfl

/-! ### A command that has passed -/

@[simp] theorem accepted_time (s : State) (k : CmdSpec) (c : Cmd) (v : Verdict) : (accepted s k c v).time = s.time := by simp [accepted]
@[simp] theorem accepted_mod (s : State) (k : CmdSpec) (c : Cmd) (v : Verdict) : (accepted s k c v).mod = s.mod := by simp [accepted]
@[simp] theorem accepted_conf (s : State) (k : CmdSpec) (c : Cmd) (v : Verdict) : (accepted s k c v).conf = s.conf := by simp [accepted]
@[simp] theorem accepted_pow (s : State) (k : CmdSpec) (c : Cmd) (v : Verdict) : (accepted s k c v).pow = s.pow := by simp [accepted]
@[simp] theorem accepted_job (s : State) (k : CmdSpec) (c : Cmd) (v : Verdict) : (accepted s k c v).job = s.job := by simp [accepted]
@[simp] theorem accepted_cal (s : State) (k : CmdSpec) (c : Cmd) (v : Verdict) : (accepted s k c v).cal = s.cal := by simp [accepted]
@[simp] theorem accepted_plan (s : State) (k : CmdSpec) (c : Cmd) (v : Verdict) : (accepted s k c v).plan = s.plan := by simp [accepted]
@[simp] theorem accepted_sec (s : State) (k : CmdSpec) (c : Cmd) (v : Verdict) : (accepted s k c v).sec = s.sec := by simp [accepted]
@[simp] theorem accepted_card (s : State) (k : CmdSpec) (c : Cmd) (v : Verdict) : (accepted s k c v).card = s.card := by simp [accepted]
@[simp] theorem accepted_fuse (s : State) (k : CmdSpec) (c : Cmd) (v : Verdict) : (accepted s k c v).fuse = s.fuse := by simp [accepted]
@[simp] theorem accepted_region (s : State) (k : CmdSpec) (c : Cmd) (v : Verdict) : (accepted s k c v).region = s.region := by simp [accepted]
@[simp] theorem accepted_block (s : State) (k : CmdSpec) (c : Cmd) (v : Verdict) : (accepted s k c v).block = s.block := by simp [accepted]
@[simp] theorem accepted_cell (s : State) (k : CmdSpec) (c : Cmd) (v : Verdict) : (accepted s k c v).cell = s.cell := by simp [accepted]
@[simp] theorem accepted_guard (s : State) (k : CmdSpec) (c : Cmd) (v : Verdict) : (accepted s k c v).guard = s.guard := by simp [accepted]
@[simp] theorem accepted_light (s : State) (k : CmdSpec) (c : Cmd) (v : Verdict) : (accepted s k c v).light = s.light := by simp [accepted]
@[simp] theorem accepted_skein (s : State) (k : CmdSpec) (c : Cmd) (v : Verdict) : (accepted s k c v).skein = s.skein := by simp [accepted]
@[simp] theorem accepted_creel (s : State) (k : CmdSpec) (c : Cmd) (v : Verdict) : (accepted s k c v).creel = s.creel := by simp [accepted]
@[simp] theorem accepted_ply (s : State) (k : CmdSpec) (c : Cmd) (v : Verdict) : (accepted s k c v).ply = s.ply := by simp [accepted]
@[simp] theorem accepted_memory (s : State) (k : CmdSpec) (c : Cmd) (v : Verdict) : (accepted s k c v).memory = s.memory := by simp [accepted]
@[simp] theorem accepted_reel (s : State) (k : CmdSpec) (c : Cmd) (v : Verdict) : (accepted s k c v).reel = s.reel := by simp [accepted]
@[simp] theorem accepted_rport (s : State) (k : CmdSpec) (c : Cmd) (v : Verdict) : (accepted s k c v).rport = s.rport := by simp [accepted]
@[simp] theorem accepted_free (s : State) (k : CmdSpec) (c : Cmd) (v : Verdict) : (accepted s k c v).free = s.free := by simp [accepted]
@[simp] theorem accepted_pending (s : State) (k : CmdSpec) (c : Cmd) (v : Verdict) : (accepted s k c v).pending = s.pending := by simp [accepted]
@[simp] theorem accepted_hbm (s : State) (k : CmdSpec) (c : Cmd) (v : Verdict) : (accepted s k c v).mems.hbm = s.mems.hbm := by simp [accepted]
@[simp] theorem accepted_sram (s : State) (k : CmdSpec) (c : Cmd) (v : Verdict) : (accepted s k c v).mems.sram = s.mems.sram := by simp [accepted]
@[simp] theorem accepted_hbmPoison (s : State) (k : CmdSpec) (c : Cmd) (v : Verdict) : (accepted s k c v).mems.hbmPoison = s.mems.hbmPoison := by simp [accepted]
@[simp] theorem accepted_sramPoison (s : State) (k : CmdSpec) (c : Cmd) (v : Verdict) : (accepted s k c v).mems.sramPoison = s.mems.sramPoison := by simp [accepted]

/-! ### What they change -/

theorem State.stamp_job (s : State) (code index station : Nat) (f : Cause → Cause) :
    (s.stamp code index station f).job =
      s.job.stamp (f { code := code, index := index, station := station, stamp := s.time.lea }) s.snapWords := by
  unfold State.stamp State.when; split <;> rfl

/-- With a job open whose end has not come, a cause is appended (R25, R26). -/
theorem Job.stamp_causes (j : Job) (c : Cause) (w : List Word) (h : j.open_.isSome = true) (hf : j.fault ≠ .done) :
    (j.stamp c w).causes = j.causes ++ [c] := by
  simp [Job.stamp, h, hf]


end Sys2Proof.Machine
end

