-- ==== Sys2Proof/Laws/Lookup.lean ====
section
/-! SUPPORT. Reading what an update of one entry leaves: the entry changed holds the new value, every other one is as it was, and
the canonical form is kept. -/

set_option Elab.async false

namespace Sys2Proof.Machine

variable {s : State} {n m : Nat}

/-! ### modReg -/

theorem State.wf_modReg (f : RegionSt → RegionSt) (h : Tab.wf s.region {} = true) : Tab.wf (s.modReg n f).region {} = true := Tab.wf_mod n f h
theorem State.reg_modReg (f : RegionSt → RegionSt) (h : Tab.wf s.region {} = true) : (s.modReg n f).reg n = f (s.reg n) := Tab.get_mod_same n f h
theorem State.reg_modReg_other (f : RegionSt → RegionSt) (h : Tab.wf s.region {} = true) (hn : m ≠ n) : (s.modReg n f).reg m = s.reg m := Tab.get_mod_other hn f h

/-! ### modBlk -/

theorem State.wf_modBlk (f : BlockSt → BlockSt) (h : Tab.wf s.block {} = true) : Tab.wf (s.modBlk n f).block {} = true := Tab.wf_mod n f h
theorem State.blk_modBlk (f : BlockSt → BlockSt) (h : Tab.wf s.block {} = true) : (s.modBlk n f).blk n = f (s.blk n) := Tab.get_mod_same n f h
theorem State.blk_modBlk_other (f : BlockSt → BlockSt) (h : Tab.wf s.block {} = true) (hn : m ≠ n) : (s.modBlk n f).blk m = s.blk m := Tab.get_mod_other hn f h

/-! ### modCel -/

theorem State.wf_modCel (f : CellSt → CellSt) (h : Tab.wf s.cell {} = true) : Tab.wf (s.modCel n f).cell {} = true := Tab.wf_mod n f h
theorem State.cel_modCel (f : CellSt → CellSt) (h : Tab.wf s.cell {} = true) : (s.modCel n f).cel n = f (s.cel n) := Tab.get_mod_same n f h
theorem State.cel_modCel_other (f : CellSt → CellSt) (h : Tab.wf s.cell {} = true) (hn : m ≠ n) : (s.modCel n f).cel m = s.cel m := Tab.get_mod_other hn f h

/-! ### modStk -/

theorem State.wf_modStk (f : StackSt → StackSt) (h : Tab.wf s.memory.stack {} = true) : Tab.wf (s.modStk n f).memory.stack {} = true := Tab.wf_mod n f h
theorem State.stk_modStk (f : StackSt → StackSt) (h : Tab.wf s.memory.stack {} = true) : (s.modStk n f).stk n = f (s.stk n) := Tab.get_mod_same n f h
theorem State.stk_modStk_other (f : StackSt → StackSt) (h : Tab.wf s.memory.stack {} = true) (hn : m ≠ n) : (s.modStk n f).stk m = s.stk m := Tab.get_mod_other hn f h

/-! ### modRp -/

theorem State.wf_modRp (f : RPortSt → RPortSt) (h : Tab.wf s.rport {} = true) : Tab.wf (s.modRp n f).rport {} = true := Tab.wf_mod n f h
theorem State.rp_modRp (f : RPortSt → RPortSt) (h : Tab.wf s.rport {} = true) : (s.modRp n f).rp n = f (s.rp n) := Tab.get_mod_same n f h
theorem State.rp_modRp_other (f : RPortSt → RPortSt) (h : Tab.wf s.rport {} = true) (hn : m ≠ n) : (s.modRp n f).rp m = s.rp m := Tab.get_mod_other hn f h

/-! ### modGrp -/

theorem State.wf_modGrp (f : GroupSt → GroupSt) (h : Tab.wf s.light.group {} = true) : Tab.wf (s.modGrp n f).light.group {} = true := Tab.wf_mod n f h
theorem State.grp_modGrp (f : GroupSt → GroupSt) (h : Tab.wf s.light.group {} = true) : (s.modGrp n f).grp n = f (s.grp n) := Tab.get_mod_same n f h
theorem State.grp_modGrp_other (f : GroupSt → GroupSt) (h : Tab.wf s.light.group {} = true) (hn : m ≠ n) : (s.modGrp n f).grp m = s.grp m := Tab.get_mod_other hn f h

/-! ### modCage -/

theorem State.wf_modCage (f : CageSt → CageSt) (h : Tab.wf s.light.cage {} = true) : Tab.wf (s.modCage n f).light.cage {} = true := Tab.wf_mod n f h
theorem State.cage_modCage (f : CageSt → CageSt) (h : Tab.wf s.light.cage {} = true) : (s.modCage n f).cage n = f (s.cage n) := Tab.get_mod_same n f h
theorem State.cage_modCage_other (f : CageSt → CageSt) (h : Tab.wf s.light.cage {} = true) (hn : m ≠ n) : (s.modCage n f).cage m = s.cage m := Tab.get_mod_other hn f h

/-! ### modDie -/

theorem State.wf_modDie (f : Die → Die) (h : Tab.wf s.pow.die {} = true) : Tab.wf (s.modDie n f).pow.die {} = true := Tab.wf_mod n f h
theorem State.die_modDie (f : Die → Die) (h : Tab.wf s.pow.die {} = true) : (s.modDie n f).die n = f (s.die n) := Tab.get_mod_same n f h
theorem State.die_modDie_other (f : Die → Die) (h : Tab.wf s.pow.die {} = true) (hn : m ≠ n) : (s.modDie n f).die m = s.die m := Tab.get_mod_other hn f h

/-! ### modLoop -/

theorem State.wf_modLoop (f : LoopSt → LoopSt) (h : Tab.wf s.skein.loop {} = true) : Tab.wf (s.modLoop n f).skein.loop {} = true := Tab.wf_mod n f h
theorem State.loopSt_modLoop (f : LoopSt → LoopSt) (h : Tab.wf s.skein.loop {} = true) : (s.modLoop n f).loopSt n = f (s.loopSt n) := Tab.get_mod_same n f h
theorem State.loopSt_modLoop_other (f : LoopSt → LoopSt) (h : Tab.wf s.skein.loop {} = true) (hn : m ≠ n) : (s.modLoop n f).loopSt m = s.loopSt m := Tab.get_mod_other hn f h

/-! ### modPly -/

theorem State.wf_modPly (f : PlyPort → PlyPort) (h : Tab.wf s.ply {} = true) : Tab.wf (s.modPly n f).ply {} = true := Tab.wf_mod n f h
theorem State.plyPort_modPly (f : PlyPort → PlyPort) (h : Tab.wf s.ply {} = true) : (s.modPly n f).plyPort n = f (s.plyPort n) := Tab.get_mod_same n f h
theorem State.plyPort_modPly_other (f : PlyPort → PlyPort) (h : Tab.wf s.ply {} = true) (hn : m ≠ n) : (s.modPly n f).plyPort m = s.plyPort m := Tab.get_mod_other hn f h

/-! ### modGuard -/

theorem State.wf_modGuard (f : Guard → Guard) (h : Tab.wf s.guard {} = true) : Tab.wf (s.modGuard n f).guard {} = true := Tab.wf_mod n f h
theorem State.guardSlot_modGuard (f : Guard → Guard) (h : Tab.wf s.guard {} = true) : (s.modGuard n f).guardSlot n = f (s.guardSlot n) := Tab.get_mod_same n f h
theorem State.guardSlot_modGuard_other (f : Guard → Guard) (h : Tab.wf s.guard {} = true) (hn : m ≠ n) : (s.modGuard n f).guardSlot m = s.guardSlot m := Tab.get_mod_other hn f h

/-! ### modQueue -/

theorem State.wf_modQueue (f : QueueSt → QueueSt) (h : Tab.wf s.host.queues {} = true) : Tab.wf (s.modQueue n f).host.queues {} = true := Tab.wf_mod n f h
theorem State.queue_modQueue (f : QueueSt → QueueSt) (h : Tab.wf s.host.queues {} = true) : (s.modQueue n f).queue n = f (s.queue n) := Tab.get_mod_same n f h
theorem State.queue_modQueue_other (f : QueueSt → QueueSt) (h : Tab.wf s.host.queues {} = true) (hn : m ≠ n) : (s.modQueue n f).queue m = s.queue m := Tab.get_mod_other hn f h

/-! ### Rings, whose default holds the first placement -/

theorem State.ring_modRing (f : RingSt → RingSt) (h : Tab.wf s.skein.ring s.skein.ringDefault = true) : (s.modRing n f).ring n = f (s.ring n) :=
  Tab.get_mod_same n f h
theorem State.ring_modRing_other (f : RingSt → RingSt) (h : Tab.wf s.skein.ring s.skein.ringDefault = true) (hn : m ≠ n) :
    (s.modRing n f).ring m = s.ring m := Tab.get_mod_other hn f h

/-! ### Threads and slots -/

theorem State.thr_modThr {t : Nat} (f : ThreadSt → ThreadSt) (h : Tab.wf s.cell {} = true) (ht : Tab.wf (s.cel n).threads {} = true) :
    (s.modThr n t f).thr n t = f (s.thr n t) := by
  unfold State.modThr State.thr
  rw [State.cel_modCel _ h]
  exact Tab.get_mod_same t f ht

theorem State.thr_modThr_other {t u : Nat} (f : ThreadSt → ThreadSt) (h : Tab.wf s.cell {} = true) (ht : Tab.wf (s.cel n).threads {} = true)
    (hu : u ≠ t) : (s.modThr n t f).thr n u = s.thr n u := by
  unfold State.modThr State.thr
  rw [State.cel_modCel _ h]
  exact Tab.get_mod_other hu f ht

theorem State.cel_modThr_other {t : Nat} (f : ThreadSt → ThreadSt) (h : Tab.wf s.cell {} = true) (hn : m ≠ n) : (s.modThr n t f).cel m = s.cel m :=
  State.cel_modCel_other _ h hn

/-! ### Region states -/

/-- What every launch that is judged leaves alone, judging leaves alone. -/
theorem State.judgeLaunches_keeps {β : Type} (g : State → β) (h : ∀ (u : State) (l : Launch), g ((u.dropLaunch l.seqNo).done l.cmd .badState) = g u)
    (u : State) : g u.judgeLaunches = g u := by
  unfold State.judgeLaunches
  split
  · exact State.forEach_keeps (f := fun (l : Launch) (s : State) => (s.dropLaunch l.seqNo).done l.cmd .badState) g (fun _ _ => h _ _) _ _
  · rfl

/-- What a change of region state leaves alone. -/
theorem State.setRegion_keeps {β : Type} (g : State → β) (h : ∀ (u : State) (l : Launch), g ((u.dropLaunch l.seqNo).done l.cmd .badState) = g u)
    (r : Nat) (st : RState) (h2 : ∀ f a b c, g ((s.modReg r f).fire a b c) = g s) : g (s.setRegion r st) = g s := by
  unfold State.setRegion
  split
  · rfl
  · rw [State.judgeLaunches_keeps g h, h2]

/-- A region that changes its state holds the new one, and no other region changes. -/
theorem State.setRegion_reg (r : Nat) (st : RState) (hw : Tab.wf s.region {} = true) :
    Tab.wf (s.setRegion r st).region {} = true ∧ (s.setRegion r st).reg r = { s.reg r with state := st } ∧
      ∀ q, q ≠ r → (s.setRegion r st).reg q = s.reg q := by
  unfold State.setRegion
  split
  · rename_i h; exact ⟨hw, by rw [← h], fun _ _ => rfl⟩
  · have hj : ∀ u : State, u.judgeLaunches.region = u.region := State.judgeLaunches_keeps (·.region) (by simp [State.dropLaunch])
    have h2 : (((s.modReg r fun x => { x with state := st }).fire (16 * r + 7) st.code r).judgeLaunches).region =
        s.region.mod {} r fun x => { x with state := st } := by rw [hj]; rfl
    unfold State.reg
    rw [h2]
    exact ⟨Tab.wf_mod _ _ hw, Tab.get_mod_same _ _ hw, fun q hq => Tab.get_mod_other hq _ hw⟩

end Sys2Proof.Machine
end

