-- ==== Sys2Proof/Laws/Cells.lean ====
section
/-! SUPPORT. What issuing an instruction, its register writes and its end do to the thread, and that they change nothing else. -/

set_option Elab.async false

namespace Sys2Proof.Machine

variable {s u : State} {c t : Nat}

theorem CellWf.cells (h : CellWf s c t) : Tab.wf s.cell {} = true := h.1
theorem CellWf.threads (h : CellWf s c t) : Tab.wf (s.cel c).threads {} = true := h.2.1
theorem CellWf.marks (h : CellWf s c t) : Tab.wf (s.cel c).regBad false = true := h.2.2.2.2

/-- A thread changed so that its registers stay in their form. -/
theorem CellWf.modThr (f : ThreadSt → ThreadSt) (h : CellWf s c t) (hx : Tab.wf (f (s.thr c t)).x 0 = true) (hv : Tab.wf (f (s.thr c t)).v 0 = true) :
    CellWf (s.modThr c t f) c t := by
  obtain ⟨h1, h2, -, -, h5⟩ := h
  refine ⟨State.wf_modCel _ h1, ?_, ?_, ?_, ?_⟩
  · rw [State.modThr, State.cel_modCel _ h1]; exact Tab.wf_mod t f h2
  · rw [State.thr_modThr f h1 h2]; exact hx
  · rw [State.thr_modThr f h1 h2]; exact hv
  · rw [State.modThr, State.cel_modCel _ h1]; exact h5

theorem State.thr_modThr_wf (f : ThreadSt → ThreadSt) (h : CellWf s c t) : (s.modThr c t f).thr c t = f (s.thr c t) :=
  State.thr_modThr f h.1 h.2.1

theorem State.thr_modCel (f : CellSt → CellSt) (h : Tab.wf s.cell {} = true) (hf : (f (s.cel c)).threads = (s.cel c).threads) (k : Nat) :
    (s.modCel c f).thr c k = s.thr c k := by rw [State.thr, State.cel_modCel f h, hf]; rfl

/-- A cell changed beside its threads. -/
theorem CellWf.modCel (f : CellSt → CellSt) (h : CellWf s c t) (hf : (f (s.cel c)).threads = (s.cel c).threads)
    (hr : Tab.wf (f (s.cel c)).regBad false = true) : CellWf (s.modCel c f) c t := by
  obtain ⟨h1, h2, h3, h4, -⟩ := h
  refine ⟨State.wf_modCel _ h1, ?_, ?_, ?_, ?_⟩
  · rw [State.cel_modCel f h1, hf]; exact h2
  · rw [State.thr_modCel f h1 hf]; exact h3
  · rw [State.thr_modCel f h1 hf]; exact h4
  · rw [State.cel_modCel f h1]; exact hr

/-- Issuing: the thread is RUNNING and its count of beats advances. -/
theorem State.thr_issue (h : CellWf s c t) :
    (s.issue c t).thr c t = { s.thr c t with state := .running, issued := (s.thr c t).issued + 1 } := by
  rw [State.issue, State.thr_modThr_wf _ (h.modCel _ rfl h.marks), State.thr_modCel _ h.1 rfl]

theorem CellWf.issue (h : CellWf s c t) : CellWf (s.issue c t) c t := by
  have h' := h.modCel (fun x => { x with runValid := true, lastRun := t }) rfl h.marks
  exact h'.modThr _ h'.2.2.1 h'.2.2.2.1

@[simp] theorem State.x_issue (h : CellWf s c t) (r : Reg) : (s.issue c t).x c t r = s.x c t r := by simp only [State.x, State.thr_issue h]
@[simp] theorem State.v_issue (h : CellWf s c t) (r : Reg) : (s.issue c t).v c t r = s.v c t r := by simp only [State.v, State.thr_issue h]

/-- Issuing changes no mark. -/
theorem State.regBad_issue (h : CellWf s c t) : ((s.issue c t).cel c).regBad = (s.cel c).regBad := by
  have h1 := h.modCel (fun x => { x with runValid := true, lastRun := t }) rfl h.marks
  rw [State.issue, State.modThr, State.cel_modCel _ h1.1, State.cel_modCel _ h.1]

theorem State.xBad_issue (h : CellWf s c t) (r : Nat) : (s.issue c t).xBad c t r = s.xBad c t r := by
  rw [State.xBad, State.regBad_issue h]; rfl

theorem State.vBad_issue (h : CellWf s c t) (r : Nat) : (s.issue c t).vBad c t r = s.vBad c t r := by
  rw [State.vBad, State.regBad_issue h]; rfl

theorem State.thr_nextIp (h : CellWf s c t) : (s.nextIp c t).thr c t = { s.thr c t with ip := (s.thr c t).ip + 8 } := State.thr_modThr_wf _ h

theorem State.thr_setX (h : CellWf s c t) (r : Nat) (v : Word) : (s.setX c t r v).thr c t = { s.thr c t with x := (s.thr c t).x.set 0 r v } := by
  rw [State.setX, State.thr_modThr_wf _ (h.modCel _ rfl (Tab.wf_set _ _ h.marks)), State.thr_modCel _ h.1 rfl]

theorem State.thr_setV (h : CellWf s c t) (r : Nat) (v : BitVec 2048) : (s.setV c t r v).thr c t = { s.thr c t with v := (s.thr c t).v.set 0 r v } := by
  rw [State.setV, State.thr_modThr_wf _ (h.modCel _ rfl (Tab.wf_clear _ _ h.marks)), State.thr_modCel _ h.1 rfl]

theorem CellWf.nextIp (h : CellWf s c t) : CellWf (s.nextIp c t) c t := h.modThr _ h.2.2.1 h.2.2.2.1

theorem CellWf.setX (h : CellWf s c t) (r : Nat) (v : Word) : CellWf (s.setX c t r v) c t := by
  have h1 := h.modCel (fun x => { x with regBad := x.regBad.set false (regBase t + r) false }) rfl (Tab.wf_set _ _ h.marks)
  refine h1.modThr _ (Tab.wf_set r v ?_) h1.2.2.2.1
  exact h1.2.2.1

theorem CellWf.setV (h : CellWf s c t) (r : Nat) (v : BitVec 2048) : CellWf (s.setV c t r v) c t := by
  have h1 := h.modCel (fun x => { x with regBad := x.regBad.clear (regBase t + 32 + 32 * r) (regBase t + 64 + 32 * r) }) rfl (Tab.wf_clear _ _ h.marks)
  refine h1.modThr _ h1.2.2.1 (Tab.wf_set r v ?_)
  exact h1.2.2.2.1

/-- Leaving RUNNING: state, what is waited for, and the count of beats. -/
theorem State.thr_park (st : TState) (w : SyncWait) (h : CellWf s c t) :
    (s.park c t st w).thr c t =
      { s.thr c t with state := st, waiting := w, waitFrom := if st = .waitSync then s.time.lea else (s.thr c t).waitFrom, issued := 0 } := by
  rw [State.park, State.thr_modThr_wf _ (h.modCel _ rfl h.marks), State.thr_modCel _ h.1 rfl]

/-! ### Taking an instruction -/

variable {k : Nat}

/-- A legal instruction that a thread fetches acts on the state in which it has issued. -/
theorem instr_acts {act : State → State} {legal : Bool} (h : Fetches s c t k) (hk : k < 11) (hl : legal = true) :
    instr c t k legal act s = act (s.issue c t) := by
  obtain ⟨h1, h2, h3⟩ := h
  simp [instr, h1, h2, h3, hl, Nat.not_le.mpr hk]

/-- An illegal one ends the thread. -/
theorem instr_illegal {act : State → State} {legal : Bool} (h : Fetches s c t k) (hk : k < 11) (hl : legal = false) :
    instr c t k legal act s = (s.issue c t).threadFault c t 0x0105 := by
  obtain ⟨h1, h2, h3⟩ := h
  simp [instr, h1, h2, h3, hl, Nat.not_le.mpr hk]

/-- A thread whose turn it is not does nothing. -/
theorem instr_waits {act : State → State} {legal : Bool} (h : s.issues c t = false) : instr c t k legal act s = s := by
  simp [instr, h]

/-- A thread whose turn it is not does nothing, whatever operation the word names. -/
theorem instrOp_waits {act : State → State} {legal : Bool} {op : Nat} (h : s.issues c t = false) : instrOp c t k op legal act s = s := by
  unfold instrOp
  split
  · rfl
  · exact instr_waits h

/-- An instruction of the operation that the word names. -/
theorem instrOp_eq {act : State → State} {legal : Bool} {op : Nat} (h : operationOf (s.fetch c t) = op) :
    instrOp c t k op legal act s = instr c t k legal act s := by
  simp [instrOp, h]

/-- With no source register marked, the act follows. -/
theorem reads_acts {act : State → State} {xs vs : List Nat} (h : Unmarked s c t xs vs) : reads c t xs vs act s = act s := by
  simp [reads, h.1, h.2]

/-- A thread that has issued still has its source registers unmarked. -/
theorem Unmarked.issue {xs vs : List Nat} (h : CellWf s c t) (hu : Unmarked s c t xs vs) : Unmarked (s.issue c t) c t xs vs := by
  have hx : (s.issue c t).xBad c t = s.xBad c t := funext (State.xBad_issue h)
  have hv : (s.issue c t).vBad c t = s.vBad c t := funext (State.vBad_issue h)
  exact ⟨by rw [hx]; exact hu.1, by rw [hv]; exact hu.2⟩

/-! ### Nothing else changes -/

theorem onlyThread_issue (h : CellWf s c t) : OnlyThread s (s.issue c t) c t := by
  have h1 := h.modCel (fun x => { x with runValid := true, lastRun := t }) rfl h.marks
  refine ⟨rfl, fun k hk => ?_, fun k hk => ?_, fun n => ?_, ?_⟩
  · rw [State.issue, State.cel_modThr_other _ h1.1 hk, State.cel_modCel_other _ h.1 hk]
  · rw [State.issue, State.thr_modThr_other _ h1.1 h1.2.1 hk, State.thr_modCel _ h.1 rfl]
  · rw [State.regBad_issue h]; simp
  · simp only [State.issue, State.modThr]
    rw [State.cel_modCel _ h1.1, State.cel_modCel _ h.1]

variable {a b : Nat}

/-- A further change of the same thread. -/
theorem OnlyThread.modThr (f : ThreadSt → ThreadSt) (ho : OnlyThread s u c t a b) (hu : CellWf u c t) : OnlyThread s (u.modThr c t f) c t a b := by
  obtain ⟨o1, o2, o3, o4, o5⟩ := ho
  refine ⟨?_, fun k hk => ?_, fun k hk => ?_, fun n => ?_, ?_⟩
  · conv => lhs; rw [o1]
    rfl
  · rw [State.cel_modThr_other _ hu.1 hk, o2 k hk]
  · rw [State.thr_modThr_other _ hu.1 hu.2.1 hk, o3 k hk]
  · rw [State.modThr, State.cel_modCel _ hu.1]; exact o4 n
  · simp only [State.modThr]
    rw [State.cel_modCel _ hu.1, o5]

/-- A further change of the cell's record of the last issue, or of its marks. -/
theorem OnlyThread.modCel {a' b' : Nat} (g : CellSt → Tab Bool) (rv : CellSt → Bool) (ho : OnlyThread s u c t a b) (hu : CellWf u c t)
    (hg : ∀ n, (g (u.cel c)).get false n = if a' ≤ n ∧ n < b' then false else (s.cel c).regBad.get false n) :
    OnlyThread s (u.modCel c fun x => { x with regBad := g x, runValid := rv x }) c t a' b' := by
  obtain ⟨o1, o2, o3, o4, o5⟩ := ho
  refine ⟨?_, fun k hk => ?_, fun k hk => ?_, fun n => ?_, ?_⟩
  · conv => lhs; rw [o1]
    rfl
  · rw [State.cel_modCel_other _ hu.1 hk, o2 k hk]
  · rw [State.thr_modCel _ hu.1 rfl, o3 k hk]
  · rw [State.cel_modCel _ hu.1]; exact hg n
  · rw [State.cel_modCel _ hu.1, o5]

theorem OnlyThread.park (st : TState) (w : SyncWait) (ho : OnlyThread s u c t a b) (hu : CellWf u c t) : OnlyThread s (u.park c t st w) c t a b :=
  OnlyThread.modThr _ (ho.modCel (·.regBad) (fun x => x.runValid && decide (t ≠ x.lastRun)) hu ho.2.2.2.1) (hu.modCel _ rfl hu.marks)

/-- A write of a scalar register takes its mark away. -/
theorem OnlyThread.setX (r : Nat) (v : Word) (ho : OnlyThread s u c t) (hu : CellWf u c t) : OnlyX s (u.setX c t r v) c t r := by
  have hm := hu.marks
  refine OnlyThread.modThr _ (ho.modCel (fun x => x.regBad.set false (regBase t + r) false) (·.runValid) hu fun n => ?_) (hu.modCel _ rfl (Tab.wf_set _ _ hm))
  have hn := ho.2.2.2.1 n
  simp only [Nat.not_lt_zero, and_false, if_false] at hn
  by_cases h : n = regBase t + r
  · rw [h, Tab.get_set_same _ _ hm]; simp
  · rw [Tab.get_set_other h _ hm, hn]
    have h3 : ¬(regBase t + r ≤ n ∧ n < regBase t + r + 1) := by omega
    simp only [h3, if_false]

/-- A write of a vector register takes the marks of its words away. -/
theorem OnlyThread.setV (r : Nat) (v : BitVec 2048) (ho : OnlyThread s u c t) (hu : CellWf u c t) : OnlyV s (u.setV c t r v) c t r := by
  have hm := hu.marks
  refine OnlyThread.modThr _ (ho.modCel (fun x => x.regBad.clear (regBase t + 32 + 32 * r) (regBase t + 64 + 32 * r)) (·.runValid) hu fun n => ?_)
    (hu.modCel _ rfl (Tab.wf_clear _ _ hm))
  have hn := ho.2.2.2.1 n
  simp only [Nat.not_lt_zero, and_false, if_false] at hn
  rw [Tab.get_clear _ _ _ hm, hn]

/-- Drawing free values touches no thread. -/
theorem OnlyThread.fresh (ho : OnlyThread s u c t a b) : OnlyThread s u.fresh c t a b := by
  obtain ⟨o1, o2, o3, o4, o5⟩ := ho
  exact ⟨by rw [State.fresh, o1], o2, o3, o4, o5⟩

end Sys2Proof.Machine
end

