-- ==== Sys2Proof/Tests/States.lean ====
section
/-! SUPPORT. Small states, commands and packets that the tests are about. -/

set_option Elab.async false

namespace Sys2Proof.Tests

open Sys2Proof Sys2Proof.Machine


/-- Parameter bytes from fields (byte, value). -/
def prm (fs : List (Nat × Nat)) : BitVec 384 := BitVec.ofNat 384 (fs.map fun f => 256 ^ (f.1 - 16) * f.2).sum

/-- A command of queue 0, all 48 parameter bytes inline. -/
def cmd (fs : List (Nat × Nat)) : Cmd := { queue := 0, stamp := 1000, paramLen := 48, params := prm fs }

/-- A READY module at Lea time 10^12: Spindle A holds the claim, queue 0 takes commands and queue 1 their completions, the
regions are READY, and the write windows are open. -/
def ready : State := { State.reset with
  mod := { state := .ready, bringupDue := false }
  spin := { claim := some 0, width := 16, lanesOk := 65535, spindle := ⟨{ state := .active }, { state := .standby }⟩ }
  time := { lea := 1000000000000, refPresent := true, pllLock := 2 ^ 19 - 1 }
  pow := { tempOk := true, supplyOk := true }
  region := (List.range 16).map fun r => (r, { state := .ready })
  host := { ports := ⟨{ up := true, perst := false }, { up := true, perst := false }⟩, queues := [(0, { state := .active, cq := 1, sizeLog2 := 6 }), (1, { state := .active, kind := .completion, sizeLog2 := 10 })] } }

/-- The same with a job open. -/
def inJob : State := { ready with job := { open_ := some 1, prev := 1 } }

/-- The same in HELD. -/
def heldS : State := { ready with mod := { state := .held, heldCause := 0x0801, bringupDue := false }, region := (List.range 16).map fun r => (r, { state := .off }) }

/-- A version image with empty bodies. -/
def cfgImage (version : Nat) : List Byte :=
  let h := leBytes 4 0x4A584346 ++ leBytes 4 1 ++ leBytes 4 version ++ leBytes 4 64 ++ (List.range 5).flatMap (fun _ => leBytes 4 64) ++ leBytes 24 0
  h ++ leBytes 4 (imageCheck (h ++ leBytes 4 0))

/-- A kernel image with one empty section of constants. -/
def kernelImage : List Byte :=
  let h := leBytes 4 0x4A584B49 ++ leBytes 2 1 ++ leBytes 2 1 ++ leBytes 4 88 ++ leBytes 48 0
  let t := leBytes 8 (8 + 65536) ++ leBytes 8 0 ++ leBytes 8 88
  h ++ leBytes 4 (crc32 (h ++ leBytes 4 0 ++ t)) ++ t

/-- A launch of image 1 in region 0. -/
def launch1 : Launch := { cmd := cmd [], seqNo := 1, image := 1, mask := 1, replay := false, seed := 0, barrierUs := 0, argBytes := 0, argAddr := 0 }

/-- Image 1, loaded in region 0, in an open job. -/
def loaded : State := { inJob with job := { inJob.job with images := [{ handle := 1, mask := 1 }], nextHandle := 2 } }

/-- A staged version 2 beside version 1. -/
def staged (n : Settings) : State := { ready with conf := { ready.conf with slot := ⟨{ state := .active, version := 1, actSeq := 1 }, { state := .staged, version := 2, settings := n }⟩ } }

/-- Reel port 0 is UP. -/
def portUp : State := inJob.modRp 0 fun x => { x with state := .up, present := true }

/-- A packet to this node, of node 7, as it leaves now. -/
def pkt (op : BitVec 8) : Pkt := { dst := 0, src := 7, opcode := op, age := portUp.ageNow, data := List.replicate 128 0 }

/-- The home of handle 5: 1 KiB at address 0, every right, key 9; every stack READY. -/
def home : State := { portUp with
  reel := { portUp.reel with regions := [(5, some { base := 0, length := 1024, rights := 31, key := 9 })] }
  memory := { stack := (List.range 16).map fun k => (k, { state := .ready }) } }

/-- A packet for handle 5. -/
def hpkt (op : BitVec 8) : Pkt := { pkt op with handle := 5, key := 9 }

/-- Slot 3 of block 0 awaits the answer to a Reel request. -/
def asked (f : SlotSt → SlotSt) : State := portUp.modSlot 3 fun _ => f { kind := .desc, reel := true, node := 7, opcode := 1, tries := 1 }

/-- Node 7 is reached by port 0, and is the time master. -/
def routed7 : State := { portUp with
  reel := { portUp.reel with routes := ⟨[(7, 257)], []⟩, routed := true }
  conf := { portUp.conf with inForce := { portUp.conf.inForce with timeMaster := 7 } } }

/-- Every loop carries light, and a job is open. -/
def lit : State := { inJob with skein := { inJob.skein with state := 2, locked := true, loop := (List.range 128).map fun n => (n, { state := .active }) } }

/-- A table of one phase with one RAW entry, from station 0 to station 1. -/
def tableImage : List Byte :=
  let h := leBytes 4 0x4A585054 ++ leBytes 2 1 ++ leBytes 2 1 ++ leBytes 4 1 ++ leBytes 4 4000 ++ leBytes 44 0
  let t := leBytes 2 0 ++ leBytes 2 1 ++ leBytes 4 0 ++ leBytes 1 1 ++ leBytes 3 0 ++ leBytes 4 1 ++ leBytes 8 0x0F01FFFFFF010002 ++ leBytes 8 0
  h ++ leBytes 4 (crc32 (h ++ leBytes 4 0 ++ t)) ++ t

/-- A table of one empty phase, at slot 1. -/
def table0 : TableSt := { job := 1, phases := [{ first := 0, count := 0, barrier := false, barrierId := 0, token := 0, tokenCount := 1, slot := 1 }], entries := [], slotNs := 4000, cont := false, loops := false, deferMax := 16, resident := true, placed := [[]] }

/-- The same at a BARRIER switch. -/
def tableB : TableSt := { table0 with phases := [{ first := 0, count := 0, barrier := true, barrierId := 241, token := 0, tokenCount := 1, slot := 0 }] }

/-- Table 0 runs. -/
def running (t : TableSt) (r : Run) : State := { inJob with creel := { inJob.creel with table := [(0, some t)], run := some r } }

/-- Reel port 0 in a state of its own. -/
def port (f : RPortSt → RPortSt) : State := ready.modRp 0 fun x => f { x with present := true }

/-- A command with its parameters in a block at 4096 of HBM, SIGNED with the key in slot 0. -/
def signedCmd (n : Nat) : Cmd := { queue := 0, stamp := 1000, flags := 3, paramLen := 16, params := prm [(16, 4096), (24, n + 80), (28, 1)] }

/-- That block, and an owner key that may do everything in slot 0. -/
def signing (bs : List Byte) : State := { ready with
  mems := { ready.mems with hbm := Memory.write [] 4096 (bs ++ leBytes 80 0) }
  conf := { ready.conf with slot := ⟨{ state := .active, version := 1, actSeq := 1, settings := { keys := [(0, { role := 3 })] } }, {}⟩ } }

/-- A firmware image of version 9. -/
def fwBytes : List Byte := leBytes 4 0x4A584657 ++ leBytes 2 1 ++ leBytes 2 0 ++ leBytes 4 9 ++ leBytes 4 0 ++ leBytes 4 256 ++ leBytes 236 0

/-- What FW_UPDATE names: that image at 8192 of HBM, and its digest. -/
def fwParams : List Byte := leBytes 8 8192 ++ leBytes 4 256 ++ leBytes 4 1 ++ sha512 fwBytes

/-- Thread 0 of cell 0 runs, in an open job. -/
def cellRun (f : ThreadSt → ThreadSt) : State := (inJob.modReg 0 fun x => { x with state := .running }).modThr 0 0 fun x => f { x with state := .running }

/-- The same with an instruction word of a class and an operation at its pointer, the start of cell store 0. -/
def cellAt (k op : Nat) (f : ThreadSt → ThreadSt) : State := { cellRun f with mems := { (cellRun f).mems with sram := Memory.write [] 0 (leBytes 8 (k * 2 ^ 60 + op * 2 ^ 52)) } }

/-- More bytes in SRAM; a word of it marked poisoned; a register-file word of cell 0 marked poisoned. -/
def withSram (a : Nat) (bs : List Byte) (s : State) : State := { s with mems := { s.mems with sram := s.mems.sram.write a bs } }
def badWord (w : Nat) (s : State) : State := { s with mems := { s.mems with sramPoison := [(w, true)] } }
def badReg (k : Nat) (s : State) : State := s.modCel 0 fun x => { x with regBad := [(k, true)] }

/-- A run-time array entry: a BF16 product of one element. -/
def arrayEntry : List Byte := [10, 0, 0, 0, 1, 0, 0, 0, 1, 1, 0, 0, 0, 0, 8, 8] ++ List.replicate 24 0

/-- Thread 0 of cell 0 is to issue ARRAY on that entry, which lies at 64. -/
def arrayRun : State := withSram 64 arrayEntry (cellAt 5 0 fun x => { x with x := [(1, 64)] })

/-- The entry as it is read. -/
def prog1 : ArrayProg := ArrayProg.read arrayEntry

/-- A launch runs in region 0. -/
def launched : State := { inJob with job := { inJob.job with launches := [{ launch1 with running := true, barrierUs := 1000 }] } }

/-- BAR2 of port 0 lies over the SRAM. -/
def overSram : State := ready.modPort 0 fun x => { x with bar2Base := 0xC000000000 }

/-- A queue of data-mover entries with one entry in it. -/
def mover : State := ready.modQueue 0 fun x => { x with kind := .dataMover, tail := 1 }

/-- The same with a transfer in progress. -/
def moving (lost toDevice : Bool) : State := { mover with host := { mover.host with transfers := [{ queue := 0, port := 0, cq := 1, lost := lost, seq := 1, toDevice := toDevice, hostAddr := 0, devAddr := 0, bytes := 128 }] } }

/-- A descriptor of one row of 128 bytes, from cell store 0 to address 4096. -/
def desc (op : Nat) : Desc := { op := op, flags := 0, spaces := 0, scaleMode := 0, rowBytes := 128, rows := 1, srcStride := 0, dstStride := 0, signalToken := 0, waitToken := 0, srcAddr := 0, dstAddr := if op = 5 then 0 else 4096, aux := 0, ext := 0, cookie := 7 }

/-- Cell 0 holds a descriptor in its queue. -/
def withDesc (d : Desc) : State := (cellRun id).modCel 0 fun x => { x with queue := [{ no := 0, desc := d }] }

/-- A table whose phase 0 lights one bobbin from station 0 to station 1, of a kind. -/
def tableK (k : Nat) : TableSt := { table0 with placed := [[{ kind := k, src := 0, drops := [(1, 0)], loop := 0, line := 0, tx := 0 }]] }

/-- The same with that phase live. -/
def phaseLive (k : Nat) (s : State) : State := { s with creel := { s.creel with table := [(0, some (tableK k))], run := some { handle := 0, base := 0, live := some 0, next := none } } }

/-- Slot 3 of block 0 holds a request of cell 0 within the module. -/
def holding (f : SlotSt → SlotSt) : State := (cellRun id).modSlot 3 fun _ => f { kind := .load, bytes := 8, gen := 1 }

/-- Cell 0 executes a tile. -/
def tiled (t : Tile) : State := (cellRun id).modCel 0 fun x => { x with exec := some t }

/-- A tile that has not issued. -/
def tile1 : Tile := { entry := 64, seq := 1, prog := prog1 }

/-- Cell 0 replays a tile whose input lies at 0, in a launch under REPLAY; thread 0 is to issue SCALAR_MEM. -/
def replaying : State :=
  let s := (cellAt 1 0 id).modCel 0 fun x => { x with exec := some { tile1 with replay := true } }
  { s with job := { s.job with launches := [{ launch1 with running := true, barrierUs := 1000, replay := true }] } }

/-- A schedule entry for thread 0 of cell 0. -/
def sched (a : Nat) : SchedEntry := { action := a, target := 0, anchorId := 0, anchor := 0, offset := 0, operand := 0 }

/-- Block 0 runs a schedule of one entry. -/
def scheduled (a : Nat) : State := (cellRun id).modBlk 0 fun x => { x with sched := [sched a], schedRunning := true }

/-- Block 0 runs a schedule whose entry posts the first descriptor of image 1, which lies at 64 of the block store. -/
def descSched : State := { scheduled 2 with job := { inJob.job with
  images := [{ handle := 1, mask := 1, descs := [(1, 64, 1)] }]
  launches := [{ launch1 with running := true }] } }

/-- A ring flit to station 1 of its region. -/
def flit : Flit := { ring := 0, cw := true, vc := 0, dst := 1, dstPort := 0, src := 0, srcPort := 0, type_ := 2, tag := 0 }

/-- A RED flit of group 0 at station 0, from station 15. -/
def redF : Flit := { flit with vc := 1, dst := 0, src := 15, type_ := 6 }

/-- A flit stands in a slot at its destination in region 0. -/
def flitAt (f : Flit) (s : State) : State := s.modRingSlot 0 (flitLane f) f.dst fun x => { x with flit := some f }

/-- A VC0 message to station 2, of a kind. -/
def message (k : Fin 4) : CtrlMsg := { kind := k, dst := 2, src := 1, number := 3 }

/-- Cell 0 has a started reduction, and block 0 the group of it. -/
def reducing (ext : Nat) : State := ((cellRun id).modCel 0 fun x => { x with queue := [{ no := 0, desc := { desc 7 with ext := ext }, started := true, row := 1 }] }).modBlk 0 fun x =>
  { x with groups := [(0, some { cell := 0, ext := ext, startAt := 999999900000, flits := 1 })] }

/-- That group. -/
def group (ext : Nat) : RedGroup := { cell := 0, ext := ext, startAt := 999999900000, flits := 1 }

/-- The live phase lights one packet bobbin from station 0 to another station. -/
def phaseTo (n : Nat) : State := { ready with creel := { ready.creel with
  table := [(0, some { table0 with placed := [[{ kind := 1, src := 0, drops := [(n, 0)], loop := 0, line := 0, tx := 0 }]] })]
  run := some { handle := 0, base := 0, live := some 0, next := none } } }

/-- The bobbin of the live phase, from station 0 to station 1. -/
def bobId : BitVec 32 := 0x80000000
def bob1 (k : Nat) : Bob := { kind := k, src := 0, drops := [(1, 0)], loop := 0, line := 0, tx := 0 }

/-- Its receiver at station 1 is in a state of alignment. -/
def aligned (a : Align) (run : Nat) : State := (phaseLive 1 ready).modRcv bobId 1 fun x => { x with align := a, run := run }

/-- A RAW_TX of cell 0 runs on it; a RAW_RX of cell 256, in region 1, whose block's slots may be frozen. -/
def rawSends : State := phaseLive 2 ((cellRun id).modCel 0 fun x => { x with queue := [{ no := 0, desc := { desc 5 with aux := 2 ^ 31 }, started := true }] })
def rawGets (frozen : Bool) : State :=
  (phaseLive 2 (inJob.modCel 256 fun x => { x with queue := [{ no := 0, desc := { desc 6 with aux := 2 ^ 31 }, started := true }] })).modBlk 16 fun x => { x with frozen := frozen }

/-- A packet on that bobbin. -/
def spkt (t : Nat) : SPkt := { dst := 1, src := 0, type_ := t, tag := if t % 2 = 1 then 4096 else 3, gen := 0, length := 8, addr := 0x10000000, data := List.replicate 8 1 }

/-- A ply group of one member, with its sink in cell 0 and the member in cell 1, the latter of a width of its own. -/
def plying (st : PlyState) (w : Nat) (g : PlyGroup) : State :=
  ((inJob.modCel 0 fun x => { x with queue := [{ no := 0, desc := { desc 8 with ext := 2049 }, started := true, row := 1 }] }).modCel 1 fun x =>
    { x with queue := [{ no := 0, desc := { desc 8 with ext := 256 * w }, started := true, row := 1 }] }).modPly 64 fun _ =>
    { state := st, group := 0, members := [{ bobbin := bobId, src := 0, line := 0 }], grp := some g }

/-- The same, running, with elements of one bit. -/
def plying1 (g : PlyGroup) : State := (plying .run 1 g).modCel 0 fun x =>
  { x with queue := [{ no := 0, desc := { desc 8 with ext := 257 }, started := true, row := 1 }] }

/-- That group, posted whole. -/
def grp0 : PlyGroup := { group := 0, startAt := 999999900000, sink := some 0, cells := [(0, some 1)] }

/-- A ply port in a state of its own. -/
def plyAt (f : PlyPort → PlyPort) : State := ready.modPly 64 fun x => f { x with members := [{ bobbin := bobId, src := 0, line := 0 }] }

/-- A window that meets the margin, and one that does not. -/
def goodPly : PlyMeas := { eqRes := 0, sigmaUc := 1 }
def badPly : PlyMeas := { eqRes := 51, sigmaUc := 1 }

/-- Every stack is READY. -/
def served : State := { inJob with memory := { stack := (List.range 16).map fun k => (k, { state := .ready }) } }

end Sys2Proof.Tests
end

