-- ==== Sys2Proof/Tests/Slice0.lean ====
section
/-! SUPPORT. The implementer's own tests: well-formedness refuses an ill-formed term for each of its checks, and the worked
examples of the manual come out as the manual has them. -/

set_option Elab.async false

namespace Sys2Proof.Tests

open Sys2Proof Sys2Proof.Machine

/-! ### Well-formedness: one ill-formed term for each check -/

/-- A bring-up, an ageing sample and a region reset that are in range. -/
def up : BringUp := {}

theorem test_wf_readings : ([.moduleReset (cmd []) { up with fwBad := 16 } {}, .moduleReset (cmd []) { up with fwDiffer := 4 } {}, .moduleReset (cmd []) { up with lanes := 65536 } {},
    .moduleReset (cmd []) { up with cages := 1024 } {}, .moduleReset (cmd []) { up with trained := [] } {}, .moduleReset (cmd []) { up with trained := List.replicate 16 (some (.pass 256)) } {},
    .moduleReset (cmd []) { up with fails := [{ unit_ := 256, index := 0 }] } {}, .moduleReset (cmd []) { up with resets := [(16, {})] } {}, .moduleReset (cmd []) { up with ms := 65536 } {},
    .moduleReset (cmd []) up { misses := 512 }, .calSave (cmd []) (.failed 2097153), .jobClear (cmd []) [(0, { seam := [none, none, none, none] })],
    .jobClear (cmd []) [(0, { stn := [none, none, none, none] })], .fwUpdate (cmd []) true { svn := 256 }, .fwUpdate (cmd []) true { minIoRev := 256 }] : List Instr).all (!·.wf) = true := by
  decide +kernel

theorem test_wf_settings : ([.configStage (cmd []) { crossing := [(0, 0)] } true, .configStage (cmd []) { keys := [(16, { role := 1 })] } true, .configStage (cmd []) { keys := [(0, {})] } true,
    .configStage (cmd []) { capW := 65536 } true, .configStage (cmd []) { sagPct := 256 } true] : List Instr).all (!·.wf) = true := by
  decide +kernel

theorem test_wf_carding : ([.cardingPair 0 [{ unit_ := 1, index := 65536 }] [] [], .cardingPair 0 [{ unit_ := 1, index := 0, bit := 65536 }] [] [],
    .cardingPair 0 [] [{ unit_ := 1, index := 0, spare := 5 }] [], .cardingPair 0 [] [{ unit_ := 1, index := 0, spareLeft := 65536 }] [], .cardingPair 0 [] [] [(16, {})],
    .cardingThermalStop 0 [(16, {})], .stackTrainDone 0 (.pass 256), .stackRepairDone 0 true [] 256] : List Instr).all (!·.wf) = true := by
  decide +kernel

theorem test_wf_host : ([.msixTableWrite 0 bar0Bytes 1 true 0, .msixTableWrite 0 0 0 true 0, .msixTableWrite 0 0 65 true 0, .hostRoWrite 0 bar0Bytes false, .hostRoWrite 0 4 false, .badShapeAccess 0 bar0Bytes false,
    .bar2Read 0 (2 ^ 40) 1, .bar2Read 0 0 0, .bar2Read 0 0 4097, .bar2Write 0 (2 ^ 40) [some 0] false, .bar2Write 0 0 [] false, .bar4Access 0 (2 ^ 40) 1 none, .bar4Access 0 0 0 none, .bar4Access 0 0 4097 none,
    .bar4Access 0 0 2 (some [1])] : List Instr).all (!·.wf) = true := by
  decide +kernel

theorem test_wf_power : ([.spindleSelfcheckFail 0 16, .iodieReturn 0 { x0 := 17, x1 := 0 }, .iodieReturn 0 { x0 := 0, x1 := 17 }, .iolinkUp { x0 := 17, x1 := 0 }, .iolinkUp { x0 := 0, x1 := 17 }, .configAutoRollback 16, .nvmWindowOpen 0 65536, .supplyOn 65536 0 up, .failRecover 65536 up,
    .powerFail (.low 0) (List.replicate 17 (0, 0)), .powerFail (.low 0) [(65536, 0)], .powerFail (.low 0) [(0, 65536)], .powerWindow 65536 0 0, .powerWindow 0 65536 0, .powerWindow 0 0 65536,
    .powerRelax 65536, .thermalReading (.die 0) 256, .bandgapCompare (List.replicate 19 0), .ageingSample { stagePs := List.replicate 9 0 }, .ageingSample { eye := List.replicate 9 0 },
    .ageingSample { lin := List.replicate 35 0 }] : List Instr).all (!·.wf) = true := by
  decide +kernel

theorem test_wf_cells : ([.scalarMem 0 0 { load := true, reg := 0, base := 0, offset := 0, bytes := 0 }, .scalarMem 0 0 { load := true, reg := 0, base := 0, offset := 0, bytes := 9 },
    .vectorMem 0 0 { load := true, v := 0, base := 0, offset := 0, stride := 0, elem := 0, count := 1 }, .vectorMem 0 0 { load := true, v := 0, base := 0, offset := 0, stride := 0, elem := 1, count := 257 },
    .convert 0 0 { vd := 0, vs := 0, src := 16, dst := 0, round := 0 }, .convert 0 0 { vd := 0, vs := 0, src := 0, dst := 16, round := 0 }, .desc 0 0 (.index 65536) true, .moduleBarrierRelease 0 256,
    .barrierTimeout 0 256, .sramReadError (2 ^ 30) 1 (.stream 0), .sramReadError 0 0 (.stream 0), .sramReadError 0 73 (.stream 0), .sramScrub (2 ^ 30) 0, .redTimeout 0 4096,
    .droopChange 0 2048, .gateHold 0 0 0, .gateHold 0 256 0, .gateHold 0 1 65536, .leaCompare { skews := List.replicate 20 0, halves := [] }, .leaCompare { skews := [], halves := List.replicate 9 0 }] : List Instr).all (!·.wf) = true := by
  decide +kernel

theorem test_wf_streams : ([.ringFlitArrival 0 { flit with type_ := 16 } .none, .ringFlitArrival 0 { flit with rangeCount := 256 } .none, .ringFlitArrival 0 { flit with data := List.replicate 257 0 } .none,
    .packetReceive 0 0 { spkt 0 with dst := 64 } true, .packetReceive 0 0 { spkt 0 with src := 64 } true, .packetReceive 0 0 { spkt 0 with type_ := 16 } true, .packetReceive 0 0 { spkt 0 with length := 1025 } true,
    .packetReceive 0 0 { spkt 0 with status := 16 } true, .packetReceive 0 0 { spkt 0 with space := 4 } true, .plyWindow 0 { goodPly with eqRes := 256 },
    .plyWindow 0 { goodPly with sigmaUc := 65536 }, .plyWindow 0 { goodPly with codes := [64] }, .plyProofMiss { port := 0, slot := 0, code := 64 }, .plyResidueCheck 0 [64], .lightWindow 0 { powers := [] }, .lightCommission (cmd []) [⟨0, false, []⟩], .plyGo 0 0 256, .telemetrySample 5 false] : List Instr).all (!·.wf) = true := by
  decide +kernel

theorem test_wf_memory : ([.hbmRead (2 ^ 40) 0 0 0 .unit, .hbmRead 0 1025 0 0 .unit, .hbmCeWriteback 4500000000, .hbmScrub 4500000000 0, .hbmScrub 0 1025, .stackTempRead 0 256 0, .stackTempRead 0 0 256,
    .linkFlit 0 { seq := 0, kind := 1, crCount := 1024 } true, .linkFlit 0 { seq := 0, kind := 1, data := List.replicate 245 0 } true,
    .reelRead 0 (pkt 1) 1025, .readResp 0 { pkt 2 with data := List.replicate 4097 0 }, .gatherFlush 0 65536, .stagedFetch 0 65536, .mcastBranchDrop 0 65536,
    .trainDone 0 none 65536, .linkResponse 0 0 256 0 true, .cmapReq 0 0 256 0, .cmapReq 0 0 0 256] : List Instr).all (!·.wf) = true := by
  decide +kernel

theorem test_wf_allows : ([.nop (cmd []), .moduleReset (cmd []) up {}, .configStage (cmd []) {} true, .packetReceive 0 0 (spkt 0) true, .ringFlitArrival 0 flit .none, .plyWindow 0 goodPly] : List Instr).all (·.wf) = true := by
  decide +kernel

/-- No row of the opcode table has bits, so no word spells a command. -/
theorem test_no_word_spells : decodeTableWord 8 0 = none := rfl

/-! ### Numbers: the worked examples of chapters 2 and 10 -/

/-- Rows of the twofold dot product of chapter 2: element bytes and scale words. -/
def dotA : OperRow := ⟨.fp4, [0xC3, 0x17, 0, 0, 0, 0, 0, 0, 0x95, 0, 0, 0, 0, 0, 0, 0], [0x7E, 0x18, 0, 0, 0, 0, 0, 0]⟩
def dotB : OperRow := ⟨.fp4, [0x56, 0x7A, 0, 0, 0, 0, 0, 0, 0x34, 0, 0, 0, 0, 0, 0, 0], [0x80, 0x01, 0, 0, 0, 0, 0, 0]⟩

/-- C = -55,296 at 2^-16, and the FP32 result 0xBF58_0000 = -0.84375. -/
theorem test_twofold_dot : fp4Block dotA dotB 3 32 0 = .fin (-55296) (-16) ∧ fp4Dot (fun _ _ _ => .rne) dotA dotB 3 32 0 = (0xBF580000, {}) := by
  decide +kernel

/-- It becomes code 0xD beside an output of 2.5 in the other micro-block: SCALE 0x7E, NUDGE_0 = 1. -/
theorem test_twofold_out : rowOut .fp4 3 0 none (fun _ => .rne) (.fin (-27) (-5) :: List.replicate 15 (.fin 0 0) ++ .fin 5 (-1) :: List.replicate 15 (.fin 0 0)) =
    ([0x0D, 0, 0, 0, 0, 0, 0, 0, 0x06, 0, 0, 0, 0, 0, 0, 0], [0x7E, 0x01, 0, 0, 0, 0, 0, 0], {}) := by
  decide +kernel

/-- Under SR_SEEDED the threshold is 24,576. -/
theorem test_seeded_threshold : cp4 .fp4 (.sr 24575) (.fin (-27) (-3)) = (0xE, {}) ∧ cp4 .fp4 (.sr 24576) (.fin (-27) (-3)) = (0xD, {}) := by
  decide +kernel

/-- 6.2 is written as 6 and not counted (R50). -/
theorem test_fp4_near_the_top : cp4 .fp4 .rne (.fin 62 (-3)) = (0x7, { sat := 1 }) ∧ cp4 .fp4 .rne (.fin 396 (-6)) = (0x7, {}) := by
  decide +kernel

/-- Sums of the ply group of chapter 10, w = 4: U_0 = 33 and U_1 = 24; with the miscount their sum is 53. -/
theorem test_ply_sums : (countSums 4 ((List.range 256).map fun i => if i = 0 then 3 else if i = 64 then 1 else if i = 128 then 3 else if i = 192 then 2 else if i = 1 then 2 else if i = 65 then 3 else if i = 129 then 2 else if i = 193 then 1 else 0)).take 3 = [33, 24, 0] ∧
    (countSums 4 ((List.range 256).map fun i => if i = 0 then 3 else if i = 64 then 1 else if i = 128 then 2 else if i = 192 then 2 else if i = 1 then 2 else if i = 65 then 3 else if i = 129 then 2 else if i = 193 then 1 else 0)).sum = 53 := by
  decide +kernel

/-! ### Places and names: chapters 8, 9, 12, 13, 24 -/

theorem test_address_is_placed : stackOf 4886718336 = 12 ∧ localLine 4886718336 = 0x2468AF ∧ stackOf (0x48D15A * 1024) = 15 := by
  decide +kernel

theorem test_visiting_order : position 42 3 = 6 ∧ position 42 20 = 11 ∧ position 42 18 = 7 ∧ position 42 5 = 10 := by
  decide +kernel

theorem test_phase_names : phaseId 0 0 818 = 0x80000332 ∧ phaseId 0 1 466 = 0x800101D2 := by
  decide +kernel

theorem test_counter_address : Ctr.teaselReplay.addr 1987 = 0x0100BE18 := by
  decide +kernel

/-- FADD_I64 of 5 to 256, as node 0x0B02 applies it. -/
theorem test_atomic_adds : applyAop 0 256 5 0 = 261 := by
  decide +kernel

/-! ### Queues and order: chapters 15 to 17 and 19 -/

theorem test_admin_rings : (adminQueue 0 0x0000004012340101).base = 0x4012340000 ∧ (adminQueue 0 0x0000004012340101).sizeLog2 = 8 ∧ (adminQueue 1 0x0000004012360201).base = 0x4012360000 ∧
    (adminQueue 1 0x0000004012360201).sizeLog2 = 10 ∧ ({ adminQueue 1 0x0000004012360201 with tail := 1023 } : QueueSt).phase = true ∧ ({ adminQueue 1 0x0000004012360201 with tail := 1024 } : QueueSt).phase = false := by
  decide +kernel

/-- The withdrawal of chapter 16, byte by byte. -/
def withdrawal : Stamped := { queue := 0, stamp := 9999996000, entry := [0x08, 0x05, 0, 1, 0xFF, 0xFF, 0xFF, 0xFF, 0x00, 0xE4, 0x0B, 0x54, 2, 0, 0, 0, 0x25] ++ List.replicate 47 0 }

theorem test_entry_is_read : withdrawal.opcode = 0x0508 ∧ withdrawal.cmd.seq = 0xFFFFFFFF ∧ withdrawal.cmd.deadline = 10000000000 ∧ withdrawal.cmd.field ready 16 1 = 37 := by
  decide +kernel

theorem test_sequence_wrap : seqNew { seqSeen := true, lastSeq := 0xFFFFFFFE } 0xFFFFFFFF = true ∧ seqNew { seqSeen := true, lastSeq := 0xFFFFFFFF } 0 = true ∧ seqNew { seqSeen := true, lastSeq := 0 } 0xFFFFFFFE = false := by
  decide +kernel

/-- Its entry: epoch 8 without the loop, status OK; a stamp at the deadline makes it LATE. -/
theorem test_withdrawal : (match exec (.loopWithdraw withdrawal.cmd) { (lit.modQueue 0 fun q => { q with seqSeen := true, lastSeq := 0xFFFFFFFE }) with creel := { lit.creel with epoch := 7 } } with
      | .next t => decide (t.creel.epoch = 8) && decide ((t.loopSt 37).state = .withdrawn) && decide ((t.queue 0).lastSeq = 0xFFFFFFFF) &&
          decide ((t.mems.host 0).read 0 8 = [0xFF, 0xFF, 0xFF, 0xFF, 0, 0, 0, 3]) && decide ((t.mems.host 0).read 16 4 = [8, 0, 0, 0])
      | _ => false) = true ∧
    (check lit { op := 0x0508, named := [(16, 16)], needsJob := true } { withdrawal.cmd with stamp := 10000000000 } {}).map (·.status) = some .late := by
  decide +kernel

/-- Three doorbells on one stamp: A queue 5, A queue 7, B queue 2, in whatever order they come. -/
theorem test_merged_order :
    let s := (ready.modQueue 2 fun q => { q with port := 1 })
    let e (q : Nat) : Stamped := { queue := q, stamp := 1000250, entry := [] }
    (s.insertMerged (e 5) (s.insertMerged (e 7) (s.insertMerged (e 2) []))).map (·.queue) = [5, 7, 2] ∧ (s.insertMerged (e 2) (s.insertMerged (e 7) (s.insertMerged (e 5) []))).map (·.queue) = [5, 7, 2] := by
  decide +kernel

theorem test_priorities : srcPrio 0x20B = 5 ∧ srcPrio 0x030 = 12 ∧ srcPrio 0x031 = 6 := by
  decide +kernel

/-! ### Power, ageing and the link: chapters 20 to 22 -/

theorem test_sag : (match exec (.sagEnter 46999) ready with | .next t => decide (t.pow.supply = .sag) && decide (t.pow.level = 4) | _ => false) = true := by
  decide +kernel

/-- 424 ps take die 3 from +10 mV to +15 mV, its set-point to 0.765 V. -/
theorem test_guardband_step :
    let s : State := { ready with cal := { ready.cal with summaries := [{ stagePs := [0, 0, 0, 424] }] }, plan := { ready.plan with guard := [(3, 10)] } }
    s.setPoint 6 = 760 ∧ (s.replanGuard 3).plan.guard.get 0 3 = 15 ∧ (s.replanGuard 3).setPoint 6 = 765 ∧ (s.replanGuard 3).cal.railTarget.get 750 7 = 765 := by
  decide +kernel

/-- A narrower link commits an epoch with cause PARTIAL_RESET. -/
theorem test_narrow_link :
    let s : State := { ready with creel := { ready.creel with epoch := 0x11, lanes := 16, mapped := true, standing := 0 } }
    let t := s.linkTrained { x0 := 16, x1 := 8 }
    t.spin.width = 8 ∧ t.creel.epoch = 0x12 ∧ t.creel.lanes = 8 ∧ t.creel.lastCause = 5 := by
  refine ⟨?_, ?_, ?_, ?_⟩ <;> decide +kernel

/-- A wider one commits none, and the width stays the map's. -/
theorem test_wide_link :
    let s : State := { ready with creel := { ready.creel with epoch := 0x12, lanes := 8, mapped := true, standing := 0 } }
    let t := s.linkTrained { x0 := 16, x1 := 16 }
    t.spin.width = 8 ∧ t.creel.epoch = 0x12 := by
  refine ⟨?_, ?_⟩ <;> decide +kernel

/-- A READ, 32 bytes of VC 0, crosses from one flit into the next; whole, it gives back one credit (R291, R297). -/
theorem test_flit_credits :
    let k := reelBytes { dst := 1, src := 2, opcode := 1 }
    let a : RPortSt := { state := .up }
    let b := a.sequenced { seq := 0, kind := 1, data := List.replicate 212 1 }
    let c : RPortSt := { a with rx := k.take 20, rxSeq := 1 }
    let f : LFlit := { seq := 1, kind := 1, data := k.drop 20 }
    b.rxSeq = 1 ∧ c.returns f = [(0, 1)] ∧ (c.sequenced f).rx = [] ∧ ((c.sequenced f).says [(0, 1)]).said = [0x81001000] := by
  decide +kernel

/-- A port in TRAIN advertises 4,096 credits of VC 5 in five CONTROL flits; a 256-byte flit ends with its CRC (R291, R298). -/
theorem test_flit_adverts : ((({} : RPortSt).advertises.said).filter fun h => decide (h.toNat / 2 ^ 28 % 8 = 5)).map (·.toNat / 2 ^ 31 % 1024) = [1023, 1023, 1023, 1023, 4] ∧
    (LinkData.bytes { seq := 0, head := 0, data := List.replicate 244 0 }).length = 256 := by
  decide +kernel

/-- A fresh MSI-X entry is masked, and its pending bit can be read (R316). -/
theorem test_msix_read : let x : PortSt := { pba := [(33, true)] }
    x.msixValue 0x80008 8 = 2 ^ 32 ∧ x.msixValue 0xC0000 8 = 2 ^ 33 ∧ x.msixValue 0x80004 8 = BitVec.allOnes 64 := by
  decide +kernel

/-! ### Check values of the published codes -/

/-- CRC-32 of "123456789" (IEEE 802.3), and the first bytes of SHA-512 of "abc" (FIPS 180-4). -/
theorem test_published_codes : crc32 ((List.range 9).map fun i => BitVec.ofNat 8 (49 + i)) = 0xCBF43926 ∧ (sha512 [97, 98, 99]).take 8 = [0xDD, 0xAF, 0x35, 0xA1, 0x93, 0x61, 0x7A, 0xBA] := by
  decide +kernel

end Sys2Proof.Tests
end

