-- ==== Sys2Proof/Tests/Witness1.lean ====
section
/-! SUPPORT. Witnesses: for each statement of Certificates/Slice0/Obligations.lean, small states and operands
that meet the hypotheses of its clauses, each clause on its own, at the edge of a range where there is one. -/

set_option Elab.async false

namespace Sys2Proof.Tests

open Sys2Proof Sys2Proof.Machine

theorem test_witness_IdleStepPassesTime :
    (let s : State := { ready with pow := { supply := .fail } }
    decide (s.pending = [] ∧ s.powered = false)) = true ∧
    (let s : State := ready
    decide (s.pending = [] ∧ s.powered = true ∧ Tab.wf s.region {} = true ∧ (∀ r : Nat, r < 16 → s.paced r = true → (s.reg r).quiet = true))) = true ∧
    (let s : State := ready
    decide ((∀ e ∈ s.skein.snd, e.2.queue = []) ∧ (∀ e ∈ s.skein.ring, e.2.state ≠ .relock) ∧ s.creel.run = none ∧ s.creel.start = none ∧ s.creel.requal = none ∧ s.skein.state ≠ 1 ∧ (∀ e ∈ s.reelSlots, e.2.waiting = true → e.2.until_ ≠ 0))) = true ∧
    (let s : State := ready
    let r : Nat := 0
    let q : Nat := 1
    decide (Tab.wf s.region {} = true ∧ (s.reg r).quiet = true ∧ q ≠ r)) = true := by
  refine ⟨?_, ?_, ?_, ?_⟩ <;> decide +kernel

theorem test_witness_ChecksRefuseInOrder_1 :
    (let s : State := ready.modQueue 0 fun q => { q with lastSeq := 1, seqSeen := true }
    let c : Cmd := cmd []
    let new := seqNew (s.queue c.queue.val) c.seq
    decide (new = false)) = true ∧
    (let s : State := ready
    let c : Cmd := { cmd [] with deadline := 1000 }
    let new := seqNew (s.queue c.queue.val) c.seq
    let late := c.deadline != 0 && !before c.stamp c.deadline
    decide (new = true ∧ late = true)) = true ∧
    (let s : State := ready
    let c : Cmd := { cmd [] with deadline := 1001 }
    let v : Verdict := { noFeature := true }
    let new := seqNew (s.queue c.queue.val) c.seq
    let late := c.deadline != 0 && !before c.stamp c.deadline
    decide (new = true ∧ late = false ∧ v.noFeature = true)) = true ∧
    (let s : State := ready
    let k : CmdSpec := { op := 0x0100 }
    let c : Cmd := cmd [(63, 1)]
    let v : Verdict := {}
    let new := seqNew (s.queue c.queue.val) c.seq
    let late := c.deadline != 0 && !before c.stamp c.deadline
    decide (new = true ∧ late = false ∧ v.noFeature = false ∧ ((c.malformed s k).isSome = true ∨ v.bad.isSome = true))) = true ∧
    (let s : State := heldS
    let k : CmdSpec := { op := 0x0301 }
    let c : Cmd := cmd []
    let v : Verdict := {}
    let new := seqNew (s.queue c.queue.val) c.seq
    let late := c.deadline != 0 && !before c.stamp c.deadline
    decide (new = true ∧ late = false ∧ v.noFeature = false ∧ c.malformed s k = none ∧ v.bad = none ∧ s.mod.state = .held ∧ k.inHeld = false)) = true ∧
    (let s : State := ready
    let k : CmdSpec := { op := 0x0304, needsJob := true }
    let c : Cmd := cmd []
    let v : Verdict := {}
    let new := seqNew (s.queue c.queue.val) c.seq
    let late := c.deadline != 0 && !before c.stamp c.deadline
    let misstate := (k.needsJob && !s.jobOpen) || (k.noJob && s.jobOpen) || v.state
    decide (new = true ∧ late = false ∧ v.noFeature = false ∧ c.malformed s k = none ∧ v.bad = none ∧ (s.mod.state ≠ .held ∨ k.inHeld = true) ∧ misstate = true)) = true ∧
    (let s : State := ready
    let k : CmdSpec := { op := 0x0905 }
    let c : Cmd := cmd []
    let v : Verdict := { denied := true }
    let new := seqNew (s.queue c.queue.val) c.seq
    let late := c.deadline != 0 && !before c.stamp c.deadline
    let misstate := (k.needsJob && !s.jobOpen) || (k.noJob && s.jobOpen) || v.state
    decide (new = true ∧ late = false ∧ v.noFeature = false ∧ c.malformed s k = none ∧ v.bad = none ∧ (s.mod.state ≠ .held ∨ k.inHeld = true) ∧ misstate = false ∧ v.denied = true)) = true ∧
    (let s : State := ready
    let k : CmdSpec := { op := 0x0904 }
    let c : Cmd := cmd []
    let v : Verdict := { needSig := true }
    let new := seqNew (s.queue c.queue.val) c.seq
    let late := c.deadline != 0 && !before c.stamp c.deadline
    let misstate := (k.needsJob && !s.jobOpen) || (k.noJob && s.jobOpen) || v.state
    let unsigned := v.needSig && !(c.signed && v.sigOk)
    decide (new = true ∧ late = false ∧ v.noFeature = false ∧ c.malformed s k = none ∧ v.bad = none ∧ (s.mod.state ≠ .held ∨ k.inHeld = true) ∧ misstate = false ∧ v.denied = false ∧ unsigned = true)) = true ∧
    (let s : State := { ready with pow := { supplyOk := true } }
    let k : CmdSpec := { op := 0x0904, nvm := true }
    let c : Cmd := cmd []
    let v : Verdict := {}
    let new := seqNew (s.queue c.queue.val) c.seq
    let late := c.deadline != 0 && !before c.stamp c.deadline
    let misstate := (k.needsJob && !s.jobOpen) || (k.noJob && s.jobOpen) || v.state
    let unsigned := v.needSig && !(c.signed && v.sigOk)
    decide (new = true ∧ late = false ∧ v.noFeature = false ∧ c.malformed s k = none ∧ v.bad = none ∧ (s.mod.state ≠ .held ∨ k.inHeld = true) ∧ misstate = false ∧ v.denied = false ∧ unsigned = false ∧ k.nvm = true ∧ s.pow.tempOk = false)) = true ∧
    (let s : State := { ready with pow := { tempOk := true } }
    let k : CmdSpec := { op := 0x0904, nvm := true }
    let c : Cmd := cmd []
    let v : Verdict := {}
    let new := seqNew (s.queue c.queue.val) c.seq
    let late := c.deadline != 0 && !before c.stamp c.deadline
    let misstate := (k.needsJob && !s.jobOpen) || (k.noJob && s.jobOpen) || v.state
    let unsigned := v.needSig && !(c.signed && v.sigOk)
    decide (new = true ∧ late = false ∧ v.noFeature = false ∧ c.malformed s k = none ∧ v.bad = none ∧ (s.mod.state ≠ .held ∨ k.inHeld = true) ∧ misstate = false ∧ v.denied = false ∧ unsigned = false ∧ k.nvm = true ∧ s.pow.tempOk = true ∧ s.pow.supplyOk = false)) = true := by
  refine ⟨?_, ?_, ?_, ?_, ?_, ?_, ?_, ?_, ?_, ?_⟩ <;> decide +kernel

theorem test_witness_ChecksRefuseInOrder_2 :
    (let s : State := ready
    let k : CmdSpec := { op := 0x0811, long := true, nvm := true }
    let c : Cmd := cmd []
    let v : Verdict := { busy := some 0 }
    let new := seqNew (s.queue c.queue.val) c.seq
    let late := c.deadline != 0 && !before c.stamp c.deadline
    let misstate := (k.needsJob && !s.jobOpen) || (k.noJob && s.jobOpen) || v.state
    let unsigned := v.needSig && !(c.signed && v.sigOk)
    decide (new = true ∧ late = false ∧ v.noFeature = false ∧ c.malformed s k = none ∧ v.bad = none ∧ (s.mod.state ≠ .held ∨ k.inHeld = true) ∧ misstate = false ∧ v.denied = false ∧ unsigned = false ∧ (k.nvm = true → s.nvmOpen = true) ∧ (busyHint s k v).isSome = true)) = true ∧
    (let s : State := ready
    let k : CmdSpec := { op := 0x0811, long := true, nvm := true }
    let c : Cmd := cmd []
    let v : Verdict := {}
    let new := seqNew (s.queue c.queue.val) c.seq
    let late := c.deadline != 0 && !before c.stamp c.deadline
    let misstate := (k.needsJob && !s.jobOpen) || (k.noJob && s.jobOpen) || v.state
    let unsigned := v.needSig && !(c.signed && v.sigOk)
    decide (new = true ∧ late = false ∧ v.noFeature = false ∧ c.malformed s k = none ∧ v.bad = none ∧ (s.mod.state ≠ .held ∨ k.inHeld = true) ∧ misstate = false ∧ v.denied = false ∧ unsigned = false ∧ (k.nvm = true → s.nvmOpen = true) ∧ busyHint s k v = none)) = true ∧
    (let s : State := State.reset
    decide (s.mod.state = .booting)) = true ∧
    (let s : State := ready
    let e : Stamped := { queue := 0, stamp := 1000, entry := [] }
    decide (opcodeAssigned e.opcode = false ∧ Executes s ∧ s.muted e.cmd = false ∧ s.cutOff e.cmd = false ∧ seqNew (s.queue e.cmd.queue.val) e.cmd.seq = true ∧ (e.cmd.deadline = 0 ∨ before e.cmd.stamp e.cmd.deadline = true))) = true ∧
    (let s : State := ready
    let k : CmdSpec := { op := 0x0404 }
    let c : Cmd := cmd []
    let v : Verdict := { noFeature := true }
    let r : Reject := { status := .badOpcode }
    decide (Executes s ∧ s.cutOff c = false ∧ s.muted c = false ∧ check s k c v = some r ∧ (r.early = true ∨ cmdReads c v = []))) = true := by
  refine ⟨?_, ?_, ?_, ?_, ?_⟩ <;> decide +kernel

theorem test_witness_SequenceNumbersAreKept :
    (let q : QueueSt := { seqSeen := true }
    decide (q.seqSeen = true)) = true ∧
    (let s : State := ready
    decide (Tab.wf s.host.queues {} = true)) = true ∧
    (let s : State := ready.modQueue 0 fun q => { q with lastSeq := 1, seqSeen := true }
    let k : CmdSpec := { op := 0x0100 }
    let c : Cmd := cmd []
    let v : Verdict := {}
    let r : Reject := { status := .badSeq }
    let n := c.queue.val
    decide (Executes s ∧ s.cutOff c = false ∧ s.muted c = false ∧ s.spin.mute = none ∧ Tab.wf s.host.queues {} = true ∧ check s k c v = some r ∧ seqNew (s.queue n) c.seq = false)) = true ∧
    (let s : State := ready.modQueue 0 fun q => { q with lastSeq := 0x80000002, seqSeen := true }
    let k : CmdSpec := { op := 0x0404 }
    let c : Cmd := cmd []
    let v : Verdict := { noFeature := true }
    let r : Reject := { status := .badOpcode }
    let n := c.queue.val
    let m : Nat := 1
    decide (Executes s ∧ s.cutOff c = false ∧ s.muted c = false ∧ s.spin.mute = none ∧ Tab.wf s.host.queues {} = true ∧ check s k c v = some r ∧ seqNew (s.queue n) c.seq = true ∧ m ≠ n)) = true ∧
    (let s : State := ready
    let k : CmdSpec := { op := 0x0100 }
    let c : Cmd := cmd []
    let v : Verdict := {}
    let m : Nat := 1
    decide (Passes s k c v ∧ s.spin.mute = none ∧ Tab.wf s.host.queues {} = true ∧ m ≠ c.queue.val)) = true := by
  refine ⟨?_, ?_, ?_, ?_, ?_⟩ <;> decide +kernel

theorem test_witness_PassedCommandIsCountedAndActs :
    (let s : State := ready
    let k : CmdSpec := { op := 0x0201, long := true }
    let c : Cmd := cmd []
    let v : Verdict := {}
    decide (Passes s k c v ∧ s.spin.mute = none ∧ Tab.wf s.host.queues {} = true ∧ k.long = true)) = true ∧
    (let s : State := ready
    let k : CmdSpec := { op := 0x0100 }
    let c : Cmd := cmd []
    let v : Verdict := {}
    decide (Passes s k c v ∧ s.spin.mute = none ∧ Tab.wf s.host.queues {} = true ∧ k.long = false)) = true := by
  refine ⟨?_, ?_⟩ <;> decide +kernel

theorem test_witness_CompletionLandsAtTheTail :
    (let s : State := ready
    let n : Nat := 1
    let q := s.queue n
    let a : Nat := 32
    decide (q.kind = .completion ∧ (q.state = .active ∨ q.state = .draining) ∧ q.held = [] ∧ q.room = true ∧ s.mems.bar4.wf = true ∧ (s.mems.host q.port).wf = true ∧ Tab.wf s.host.queues {} = true ∧ (a < q.slotAddr ∨ q.slotAddr + 32 ≤ a))) = true ∧
    (let s : State := ready.modQueue 1 fun q => { q with state := .draining, space := true }
    let n : Nat := 1
    let q := s.queue n
    let m : Nat := 0
    decide (q.kind = .completion ∧ (q.state = .active ∨ q.state = .draining) ∧ q.held = [] ∧ q.room = true ∧ s.mems.bar4.wf = true ∧ (s.mems.host q.port).wf = true ∧ Tab.wf s.host.queues {} = true ∧ m ≠ n)) = true := by
  refine ⟨?_, ?_⟩ <;> decide +kernel

theorem test_witness_StatusIsAnsweredAndQueuesAreMade_1 :
    (let s : State := ready
    let c : Cmd := cmd []
    let pass := fun op => Passes s { op := op, inHeld := true } c {}
    decide (pass 0x0100)) = true ∧
    (let s : State := ready
    let c : Cmd := cmd []
    let pass := fun op => Passes s { op := op, inHeld := true } c {}
    decide (pass 0x0101)) = true ∧
    (let s : State := ready
    let c : Cmd := cmd []
    let pass := fun op => Passes s { op := op, inHeld := true } c {}
    decide (pass 0x0501)) = true ∧
    (let s : State := ready
    let c : Cmd := cmd []
    let pass := fun op => Passes s { op := op, inHeld := true } c {}
    decide (pass 0x0601)) = true ∧
    (let s : State := ready
    let c : Cmd := cmd []
    let pass := fun op => Passes s { op := op, inHeld := true } c {}
    decide (pass 0x0701)) = true ∧
    (let s : State := ready
    let c : Cmd := cmd []
    let pass := fun op => Passes s { op := op, inHeld := true } c {}
    decide (pass 0x0801)) = true ∧
    (let s : State := heldS
    let c : Cmd := cmd []
    let pass := fun op => Passes s { op := op, inHeld := true } c {}
    decide (pass 0x0901)) = true ∧
    (let s : State := ready
    let c : Cmd := cmd [(25, 6), (26, 0xFFFF), (28, 1), (30, 4)]
    let n : Nat := 4
    let on := accepted s { op := 0x0110, named := [(16, 31)], inHeld := true } c {}
    decide (Passes s { op := 0x0110, named := [(16, 31)], inHeld := true } c {} ∧ s.createBad c = none ∧ s.queueWanted c = some n ∧ on.queueWanted c = some n)) = true ∧
    (let s : State := ready.modQueue 4 fun q => { q with state := .active }
    let c : Cmd := cmd [(16, 4)]
    let n := c.field s 16 2
    let q := s.queue n
    let k : CmdSpec := { op := 0x0111, named := [(16, 17)], long := true, inHeld := true }
    decide (Passes s k c {} ∧ 4 ≤ n ∧ n < 16384 ∧ q.state ≠ .free ∧ s.namedAsCq n = false ∧ q.port = c.port s)) = true ∧
    (let s : State := { ready.modQueue 4 fun q => { q with state := .draining } with spin := { ready.spin with lops := [{ opcode := 0x0111, cmd := cmd [(16, 4)], aux := 4 + 16384 }] } }
    let q : Queue := 4
    let l : LOp := { opcode := 0x0111, cmd := cmd [(16, 4)], aux := 4 + 16384 }
    decide ((s.queue q.val).state = .draining ∧ s.queueQuiet q.val = true ∧ s.spin.lops.find? (fun l => decide (l.opcode = 0x0111) && decide (l.aux % 16384 = q.val)) = some l)) = true := by
  refine ⟨?_, ?_, ?_, ?_, ?_, ?_, ?_, ?_, ?_, ?_⟩ <;> decide +kernel

theorem test_witness_StatusIsAnsweredAndQueuesAreMade_2 :
    (let s : State := ready.modQueue 4 fun q => { q with state := .draining }
    let q : Queue := 4
    decide ((s.queue q.val).state = .draining ∧ s.queueQuiet q.val = true ∧ s.spin.lops.find? (fun l => decide (l.opcode = 0x0111) && decide (l.aux % 16384 = q.val)) = none)) = true ∧
    (let s : State := ready
    decide (Tab.wf s.host.queues {} = true)) = true ∧
    (let s : State := ready
    let p : Port := 0
    let q : Queue := 0
    let i : BitVec 32 := 64
    let x := s.queue q.val
    decide (s.portLive p = true ∧ Tab.wf s.host.queues {} = true ∧ x.state = .active ∧ x.port = p ∧ x.kind = .command ∧ s.mod.state ≠ .booting ∧ s.ringReaches x = true ∧ (i - x.head).toNat ≤ 2 ^ x.sizeLog2)) = true ∧
    (let s : State := mover
    let p : Port := 0
    let q : Queue := 0
    let i : BitVec 32 := 64
    let x := s.queue q.val
    decide (s.portLive p = true ∧ Tab.wf s.host.queues {} = true ∧ x.state = .active ∧ x.port = p ∧ x.kind = .dataMover ∧ (i - x.head).toNat ≤ 2 ^ x.sizeLog2)) = true ∧
    (let s : State := ready
    let p : Port := 0
    let q : Queue := 1
    let i : BitVec 32 := 0xFFFFFC00
    let x := s.queue q.val
    decide (s.portLive p = true ∧ Tab.wf s.host.queues {} = true ∧ x.state = .active ∧ x.port = p ∧ (x.kind = .completion ∨ x.kind = .event) ∧ (x.tail - i).toNat ≤ 2 ^ x.sizeLog2)) = true := by
  refine ⟨?_, ?_, ?_, ?_, ?_⟩ <;> decide +kernel

theorem test_witness_ConfigurationIsStagedAndApplied :
    (let s : State := { ready with mems := { ready.mems with hbm := Memory.write [] 4096 (cfgImage 2) } }
    let c : Cmd := cmd [(16, 4096), (24, 64), (28, 1)]
    let set : Settings := {}
    let sig : Bool := false
    let img : List Byte := cfgImage 2
    let k : CmdSpec := { op := 0x0201, named := [(16, 28)], long := true, nvm := true, blockForm := true }
    let v : Verdict := { needSig := s.claimed && !secSame s.conf.active.settings set, sigOk := s.signedBy c 0 sig, reads := s.imageReads c }
    let on := accepted s k c v
    decide (Passes s k c v ∧ s.stageBad c set = none ∧ s.conf.watching = false ∧ on.stageImage c = some img)) = true ∧
    (let s : State := staged { capW := 3000 }
    let c : Cmd := cmd [(16, 2)]
    let sig : Bool := false
    let recheck : Bool := false
    let o := s.conf.active.settings
    let n := s.conf.other.settings
    let k : CmdSpec := { op := 0x0202, named := [(16, 19)], long := true, nvm := true, noJob := !onlyPower o n, blockForm := true }
    let v : Verdict := { needSig := s.claimed && !secSame o n, sigOk := s.signedBy c 0 sig }
    decide (Passes s k c v ∧ s.conf.other.state = .staged ∧ s.conf.other.version.toNat = c.field s 16 4 ∧ s.conf.watching = false ∧ (fabricSame o n = false → s.reel.drain = none) ∧ recheck = false)) = true ∧
    (let s : State := staged { node := 3 }
    let c : Cmd := cmd [(16, 2)]
    let sig : Bool := false
    let recheck : Bool := true
    let o := s.conf.active.settings
    let n := s.conf.other.settings
    let k : CmdSpec := { op := 0x0202, named := [(16, 19)], long := true, nvm := true, noJob := !onlyPower o n, blockForm := true }
    let v : Verdict := { needSig := s.claimed && !secSame o n, sigOk := s.signedBy c 0 sig }
    decide (Passes s k c v ∧ s.conf.other.state = .staged ∧ s.conf.other.version.toNat = c.field s 16 4 ∧ s.conf.watching = false ∧ (fabricSame o n = false → s.reel.drain = none) ∧ recheck = true ∧ fabricSame o n = false)) = true ∧
    (let s : State := staged { capW := 3000 }
    let c : Cmd := cmd [(16, 2)]
    let sig : Bool := false
    let recheck : Bool := true
    let o := s.conf.active.settings
    let n := s.conf.other.settings
    let k : CmdSpec := { op := 0x0202, named := [(16, 19)], long := true, nvm := true, noJob := !onlyPower o n, blockForm := true }
    let v : Verdict := { needSig := s.claimed && !secSame o n, sigOk := s.signedBy c 0 sig }
    decide (Passes s k c v ∧ s.conf.other.state = .staged ∧ s.conf.other.version.toNat = c.field s 16 4 ∧ s.conf.watching = false ∧ (fabricSame o n = false → s.reel.drain = none) ∧ recheck = true ∧ fabricSame o n = true)) = true ∧
    (let s : State := staged {}
    let c : Cmd := cmd [(16, 2), (24, 8192)]
    let w : HostWr := .whole
    let x : Slot := { state := .staged, version := 2 }
    let k : CmdSpec := { op := 0x0204, named := [(16, 19), (24, 31)], long := true, inHeld := true }
    decide (Passes s k c {} ∧ s.conf.holding (c.field s 16 4) = some x ∧ w = .whole)) = true ∧
    (let s : State := staged {}
    let c : Cmd := cmd [(16, 1), (24, 8192)]
    let w : HostWr := .failed 3
    let x : Slot := { state := .active, version := 1, actSeq := 1 }
    let k : CmdSpec := { op := 0x0204, named := [(16, 19), (24, 31)], long := true, inHeld := true }
    let n : Nat := 3
    decide (Passes s k c {} ∧ s.conf.holding (c.field s 16 4) = some x ∧ w = .failed n)) = true := by
  refine ⟨?_, ?_, ?_, ?_, ?_, ?_⟩ <;> decide +kernel

theorem test_witness_ConfigurationRollsBackAndFailedBootsCount_1 :
    (let s : State := { ready with conf := { ready.conf with slot := ⟨{ state := .active, version := 2 }, { state := .kept, version := 1 }⟩ } }
    let c : Cmd := cmd []
    let idle := !onlyPower s.conf.active.settings s.conf.other.settings
    let k : CmdSpec := { op := 0x0203, long := true, nvm := true, inHeld := true, noJob := idle }
    decide (Passes s k c {} ∧ s.conf.other.state = .kept)) = true ∧
    (let s : State := { ready with conf := { ready.conf with watching := true, until_ := 1000000000000 } }
    decide (s.conf.watching = true ∧ before s.time.lea s.conf.until_ = false)) = true ∧
    (let s : State := { ready with conf := { ready.conf with watching := true, until_ := 1000000000001 } }
    decide ((s.conf.watching = false ∨ before s.time.lea s.conf.until_ = true))) = true ∧
    (let s : State := { ready with conf := { ready.conf with watching := true, fabSecChanged := true } }
    let code : Nat := 4
    decide (s.conf.watching = true ∧ (code = 2 ∧ s.mod.state = .held ∨ code = 3 ∨ code = 4 ∧ s.conf.fabSecChanged = true ∨ code = 5))) = true ∧
    (let s : State := ready
    decide (s.conf.watching = false)) = true ∧
    (let s : State := ready
    let tempC : Int := 86
    let mv : Nat := 1746
    let warm := decide (0 ≤ tempC) && decide (tempC ≤ 85)
    let fed := decide (1746 ≤ mv) && decide (mv ≤ 1854)
    decide (s.pow.supply ≠ .off ∧ (warm && fed) = false)) = true ∧
    (let s : State := { heldS with mod := { heldS.mod with failDue := true } }
    decide (s.mod.failDue = true ∧ s.mod.state = .held ∧ s.nvmOpen = true ∧ (s.sec.fw.get s.sec.running).state ≠ .trial ∧ s.conf.failedBoots = 0)) = true ∧
    (let s : State := { heldS with mod := { heldS.mod with failDue := true }, conf := { heldS.conf with failedBoots := 1, slot := ⟨{ state := .active, version := 2 }, { state := .kept, version := 1 }⟩ } }
    decide (s.mod.failDue = true ∧ s.mod.state = .held ∧ s.nvmOpen = true ∧ (s.sec.fw.get s.sec.running).state ≠ .trial ∧ s.conf.failedBoots = 1 ∧ s.conf.other.state = .kept)) = true ∧
    (let s : State := { heldS with mod := { heldS.mod with failDue := true }, conf := { heldS.conf with failedBoots := 1 } }
    decide (s.mod.failDue = true ∧ s.mod.state = .held ∧ s.nvmOpen = true ∧ (s.sec.fw.get s.sec.running).state ≠ .trial ∧ s.conf.failedBoots = 1 ∧ s.conf.other.state ≠ .kept)) = true ∧
    (let s : State := { ready with mod := { failDue := true, bootAt := 991000000000 }, sec := { ready.sec with fw := ⟨{ state := .trial, version := 1 }, {}⟩ } }
    decide (s.mod.failDue = true ∧ s.mod.state = .booting ∧ s.elapsed s.mod.bootAt 9000000000 = true ∧ s.nvmOpen = true ∧ (s.sec.fw.get s.sec.running).state = .trial ∧ s.sec.trialBoots = 0)) = true := by
  refine ⟨?_, ?_, ?_, ?_, ?_, ?_, ?_, ?_, ?_, ?_⟩ <;> decide +kernel

theorem test_witness_ConfigurationRollsBackAndFailedBootsCount_2 :
    (let s : State := { ready with mod := { failDue := true, bootAt := 991000000000 }, sec := { ready.sec with trialBoots := 1, fw := ⟨{ state := .trial, version := 1 }, {}⟩ } }
    decide (s.mod.failDue = true ∧ s.mod.state = .booting ∧ s.elapsed s.mod.bootAt 9000000000 = true ∧ s.nvmOpen = true ∧ (s.sec.fw.get s.sec.running).state = .trial ∧ s.sec.trialBoots = 1)) = true := by
  decide +kernel

theorem test_witness_JobsOpenAbortAndClose :
    (let s : State := ready
    let c : Cmd := cmd []
    decide (Passes s { op := 0x0301, noJob := true } c {} ∧ s.conf.watching = false ∧ s.card.pending = [])) = true ∧
    (let s : State := inJob
    let c : Cmd := cmd []
    let k : CmdSpec := { op := 0x0306, long := true, needsJob := true }
    let id : BitVec 32 := 1
    decide (Passes s k c {} ∧ s.job.fault ≠ .done ∧ s.job.open_ = some id)) = true ∧
    (let s : State := { inJob with job := { inJob.job with fault := .done } }
    let c : Cmd := cmd []
    let k : CmdSpec := { op := 0x0306, long := true, needsJob := true }
    decide (Passes s k c {} ∧ s.job.fault = .done)) = true ∧
    (let s : State := inJob
    let c : Cmd := cmd []
    let k : CmdSpec := { op := 0x0305, long := true, needsJob := true }
    decide (Passes s k c {} ∧ s.job.launches = [])) = true ∧
    (let s : State := { inJob with spin := { inJob.spin with lops := [{ opcode := 0x0305, cmd := cmd [], aux := 1 }] } }
    let l : LOp := { opcode := 0x0305, cmd := cmd [], aux := 1 }
    decide (s.lop 0x0305 = some l ∧ s.lop 0x0704 = none ∧ s.outOfReset l.aux = true ∧ (s.closeJob.done l.cmd .ok (result [(16, 4, s.jobId.toNat)])).lop 0x0704 = none)) = true := by
  refine ⟨?_, ?_, ?_, ?_, ?_⟩ <;> decide +kernel

theorem test_witness_ImagesAreLoadedAndLaunched :
    (let s : State := { inJob with mems := { inJob.mems with hbm := Memory.write [] 0 kernelImage } }
    let c : Cmd := cmd [(24, 88), (28, 1)]
    let bs : List Byte := kernelImage
    let first : Nat := 0
    let a := c.field s 16 8
    let n := c.field s 24 4
    let m := c.field s 28 2
    let k : CmdSpec := { op := 0x0302, named := [(16, 29)], long := true, needsJob := true }
    let v : Verdict := { reads := some (a, n) }
    decide (Passes s k c v ∧ 64 ≤ n ∧ n ≤ 268435456 ∧ m ≠ 0 ∧ readSpace s (c.port s) 1 a n = some bs ∧ s.imageOk m bs = true ∧ s.guardRun (fieldAt bs 16 2) = some first ∧ (∀ r ∈ onesOf 16 m, (s.reg r).state = .ready) ∧ s.job.images.length < 64)) = true ∧
    (let s : State := loaded
    let c : Cmd := cmd [(16, 1)]
    let im : Image := { handle := 1, mask := 1 }
    let h := BitVec.ofNat 32 (c.field s 16 4)
    let k : CmdSpec := { op := 0x0303, named := [(16, 19)], needsJob := true }
    decide (Passes s k c {} ∧ s.image h = some im ∧ s.imageUsed h = false)) = true ∧
    (let s : State := loaded
    let c : Cmd := cmd [(16, 1), (20, 1), (32, 1000000)]
    let k : CmdSpec := { op := 0x0304, named := [(16, 22), (24, 47)], long := true, needsJob := true }
    decide (Passes s k c {} ∧ s.launchBad c = none ∧ s.job.fault = .none ∧ s.refOut = false ∧ (∀ r ∈ onesOf 16 (c.field s 20 2), (s.reg r).state.refuses = false) ∧ (s.job.launches.filter fun l : Launch => !l.running).length < 64)) = true ∧
    (let s : State := { loaded with job := { loaded.job with launches := [launch1] } }
    let l : Launch := launch1
    let im : Image := { handle := 1, mask := 1 }
    decide (s.job.launches.find? (fun l => !l.running) = some l ∧ s.image l.image = some im ∧ (l.cmd.deadline = 0 ∨ before s.time.lea l.cmd.deadline = true) ∧ s.job.fault = .none ∧ (∀ r ∈ onesOf 16 l.mask, (s.reg r).state = .ready))) = true ∧
    (let s : State := { loaded with job := { loaded.job with launches := [{ launch1 with cmd := { cmd [] with deadline := 1000000000000 } }] } }
    let l : Launch := { launch1 with cmd := { cmd [] with deadline := 1000000000000 } }
    decide (s.job.launches.find? (fun l : Launch => !l.running) = some l ∧ l.cmd.deadline ≠ 0 ∧ before s.time.lea l.cmd.deadline = false)) = true ∧
    (let s : State := { loaded with job := { loaded.job with launches := [{ launch1 with cmd := { cmd [] with deadline := 1000000000000 } }] } }
    let q : Queue := 0
    let seq : BitVec 32 := 1
    let l : Launch := { launch1 with cmd := { cmd [] with deadline := 1000000000000 } }
    decide (s.job.launches.find? (fun l : Launch => !l.running && decide (l.cmd.queue = q) && decide (l.cmd.seq = seq)) = some l ∧ l.cmd.deadline ≠ 0 ∧ before s.time.lea l.cmd.deadline = false)) = true ∧
    (let s : State := { loaded with job := { loaded.job with launches := [{ launch1 with cmd := { cmd [] with deadline := 1000000000001 } }] } }
    let q : Queue := 0
    let seq : BitVec 32 := 1
    let l : Launch := { launch1 with cmd := { cmd [] with deadline := 1000000000001 } }
    decide (s.job.launches.find? (fun l : Launch => !l.running && decide (l.cmd.queue = q) && decide (l.cmd.seq = seq)) = some l ∧ (l.cmd.deadline = 0 ∨ before s.time.lea l.cmd.deadline = true))) = true ∧
    (let s : State := { loaded with job := { loaded.job with launches := [{ launch1 with running := true }] } }
    let n : Nat := 1
    let l : Launch := { launch1 with running := true }
    let im : Image := { handle := 1, mask := 1 }
    decide (s.job.launches.find? (fun l : Launch => l.running && decide (l.seqNo.toNat = n)) = some l ∧ s.job.causes = [] ∧ (∀ r ∈ onesOf 16 l.mask, s.regionIdle r = true) ∧ s.image l.image = some im)) = true ∧
    (let g : Guard := { amaxEn := true, depth := 1, amax := 3, hist := [1, 2] }
    decide (g.amaxEn = true)) = true ∧
    (let g : Guard := {}
    decide (g.amaxEn = false)) = true := by
  refine ⟨?_, ?_, ?_, ?_, ?_, ?_, ?_, ?_, ?_, ?_⟩ <;> decide +kernel

theorem test_witness_JobFaultHaltsAndEndsTheJob :
    (let s : State := { inJob with job := { inJob.job with causes := [{ code := 0x0701, index := 0, station := 32, stamp := 1 }] } }
    decide (s.job.open_.isSome = true ∧ s.job.fault = .none ∧ s.job.causes ≠ [])) = true ∧
    (let s : State := inJob
    decide ((s.job.open_ = none ∨ s.job.fault ≠ .none ∨ s.job.causes = []))) = true ∧
    (let s : State := { inJob with job := { inJob.job with fault := .draining, causes := [{ code := 0x0701, index := 0, station := 32, stamp := 1 }] } }
    let p : Cause := { code := 0x0701, index := 0, station := 32, stamp := 1 }
    decide (primary s.job.causes = some p ∧ s.job.fault = .draining)) = true ∧
    (let cs : List Cause := [{ code := 0x0701, index := 0, station := 33, stamp := 1 }, { code := 0x0602, index := 0, station := 3, stamp := 1 }]
    let p : Cause := { code := 0x0602, index := 0, station := 3, stamp := 1 }
    decide ((∀ c ∈ cs, c.stamp.toNat < 2 ^ 63) ∧ primary cs = some p)) = true := by
  refine ⟨?_, ?_, ?_, ?_⟩ <;> decide +kernel

theorem test_witness_RegionsResetAndHeldTakesThePower :
    (let s : State := ready
    let r : Nat := 0
    let q : Nat := 1
    decide (Tab.wf s.region {} = true ∧ q ≠ r)) = true ∧
    (let s : State := ready.modReg 3 fun x => { x with state := .reset }
    let r : Region := 3
    decide ((s.reg r).state = .reset ∧ s.mod.state = .ready)) = true ∧
    (let s : State := ready
    let r : Region := 3
    decide ((s.reg r).state ≠ .reset)) = true ∧
    (let s : State := ready.modReg 3 fun x => { x with state := .reset, resetAt := 999995000000 }
    let r : Region := 3
    decide ((s.reg r).state = .reset ∧ s.mod.state = .ready ∧ 5000000 ≤ since (s.reg r).resetAt s.time.lea)) = true ∧
    (let s : State := ready.modReg 3 fun x => { x with state := .reset, resetAt := 999995000001 }
    let r : Region := 3
    decide (since (s.reg r).resetAt s.time.lea < 5000000)) = true ∧
    (let s : State := ready
    decide (s.mod.state ≠ .held ∧ Tab.wf s.region {} = true)) = true ∧
    (let s : State := heldS
    decide (s.mod.state = .held)) = true := by
  refine ⟨?_, ?_, ?_, ?_, ?_, ?_, ?_⟩ <;> decide +kernel

theorem test_witness_RailsBeatsAndCrossingsAreKept_1 :
    (let s : State := ready
    let c : Cmd := cmd [(16, 3)]
    let m := c.field s 16 2
    let k : CmdSpec := { op := 0x0703, named := [(16, 17)], long := true }
    decide (Passes s k c {} ∧ m ≠ 0 ∧ (∀ r ∈ onesOf 16 m, (s.reg r).state = .ready ∧ (s.reg (2 * (r / 2) + (1 - r % 2))).state = .ready))) = true ∧
    (let s : State := ready
    let r : Nat := 15
    decide (r < 16 ∧ Tab.wf s.region {} = true ∧ Tab.wf s.cal.railTarget 750 = true)) = true ∧
    (let s : State := (ready.parkHalf 0).parkHalf 1
    let c : Cmd := cmd [(16, 3)]
    let m := c.field s 16 2
    let k : CmdSpec := { op := 0x0704, named := [(16, 17)], long := true }
    decide (Passes s k c {} ∧ m ≠ 0 ∧ (∀ r ∈ onesOf 16 m, (s.reg r).state = .parked))) = true ∧
    (let s : State := heldS
    decide (s.mod.state ≠ .ready)) = true ∧
    (let s : State := ready
    decide (s.mod.state = .ready ∧ Tab.wf s.cal.railNow 750 = true)) = true ∧
    (let a : Nat := 549
    let b : Nat := 550
    decide (a < b)) = true ∧
    (let a : Nat := 551
    let b : Nat := 550
    decide (b < a)) = true ∧
    (let s : State := ready
    let c : Cmd := cmd [(16, 2 ^ 64 - 1)]
    let k : CmdSpec := { op := 0x0606, named := [(16, 23)], noJob := true }
    decide (Passes s k c {})) = true ∧
    (let s : State := ready
    decide (Tab.wf s.region {} = true)) = true ∧
    (let s : State := ready.modReg 0 fun x => { x with droopMv := 19, droopLen := 4 }
    let r : Region := 0
    decide (Tab.wf s.region {} = true ∧ (s.reg r).droopMv < 20)) = true := by
  refine ⟨?_, ?_, ?_, ?_, ?_, ?_, ?_, ?_, ?_, ?_⟩ <;> decide +kernel

theorem test_witness_RailsBeatsAndCrossingsAreKept_2 :
    (let s : State := ready.modReg 0 fun x => { x with droopMv := 20 }
    let r : Region := 0
    decide (20 ≤ (s.reg r).droopMv)) = true ∧
    (let s : State := ready.modReg 15 fun x => { x with stn := { mode := 0, detOk := true } }
    let r : Region := 15
    decide (Tab.wf s.region {} = true ∧ (s.reg r).stn.mode = 0)) = true ∧
    (let s : State := ready
    let x : Crossing := .seam 0
    let far : Bool := false
    decide ((s.xing x (xingReceiver x far)).mode ≠ 0)) = true ∧
    (let s : State := ready
    let d : Fin 8 := 0
    decide ((s.reg (2 * d.val)).state ≠ .parked ∧ (s.reg (2 * d.val + 1)).state ≠ .parked ∧ s.railsSettled d = true ∧ (s.reg (2 * d.val)).seam.calFails < 3)) = true ∧
    (let s : State := { ready with cal := { ready.cal with railTarget := [(0, 790)] } }
    let d : Fin 8 := 0
    decide ((s.reg (2 * d.val)).state ≠ .parked ∧ (s.reg (2 * d.val + 1)).state ≠ .parked ∧ (s.railsSettled d = false ∨ 3 ≤ (s.reg (2 * d.val)).seam.calFails))) = true := by
  refine ⟨?_, ?_, ?_, ?_, ?_⟩ <;> decide +kernel

theorem test_witness_ReferenceAndFabricTimeAreKept_1 :
    (let s : State := ready
    decide (s.time.refPresent = true)) = true ∧
    (let s : State := { ready with time := { ready.time with refPresent := false, holdover := true } }
    decide (s.time.refPresent = false ∧ s.time.holdover = true)) = true ∧
    (let s : State := { ready with time := { ready.time with refPresent := false } }
    decide (s.time.refPresent = false)) = true ∧
    (let s : State := { ready with time := { ready.time with relocks := [(18, 1)] } }
    let d : DieIx := 18
    let n := s.time.relocks.get 0 d.val + 1
    decide (s.time.refPresent = true ∧ bit s.time.pllLock d.val = true ∧ n < 3)) = true ∧
    (let s : State := { ready with time := { ready.time with relocks := [(18, 2)] } }
    let d : DieIx := 18
    let n := s.time.relocks.get 0 d.val + 1
    decide (s.time.refPresent = true ∧ bit s.time.pllLock d.val = true ∧ 3 ≤ n)) = true ∧
    (let s : State := ready
    decide (s.conf.inForce.timeMaster = s.node)) = true ∧
    (let s : State := routed7
    let p : Nat := 0
    let ps : List Nat := []
    decide (s.conf.inForce.timeMaster ≠ s.node ∧ s.livePorts s.conf.inForce.timeMaster = p :: ps ∧ s.reel.timeT1 = none)) = true ∧
    (let s : State := { routed7 with reel := {} }
    decide (s.conf.inForce.timeMaster ≠ s.node ∧ s.livePorts s.conf.inForce.timeMaster = [])) = true ∧
    (let s : State := { routed7 with reel := { routed7.reel with timeT1 := some 5 } }
    let t1 : BitVec 64 := 5
    decide (s.conf.inForce.timeMaster ≠ s.node ∧ s.reel.timeT1 = some t1)) = true ∧
    (let s : State := routed7
    let t1 : BitVec 64 := 5
    decide (s.reel.timeT1 ≠ some t1)) = true := by
  refine ⟨?_, ?_, ?_, ?_, ?_, ?_, ?_, ?_, ?_, ?_⟩ <;> decide +kernel

theorem test_witness_ReferenceAndFabricTimeAreKept_2 :
    (let s : State := routed7
    let p : RPort := 0
    decide (s.mgmtUp p = true)) = true := by
  decide +kernel

theorem test_witness_ReelObjectsAreSetAndInvalidated :
    (let s : State := { inJob with reel := { inJob.reel with gone := [(1, 999999750000)] } }
    let c : Cmd := cmd [(24, 1024), (32, 31), (36, 9)]
    let h : Nat := 1
    let k : CmdSpec := { op := 0x0401, named := [(16, 32), (36, 39)], needsJob := true }
    let base := c.field s 16 8
    let len := c.field s 24 8
    let g : Nat × Lea := (1, 999999750000)
    decide (Passes s k c {} ∧ base % 1024 = 0 ∧ base < hbmBytes ∧ len % 1024 = 0 ∧ 1024 ≤ len ∧ base + len ≤ hbmBytes ∧ c.field s 32 1 < 32 ∧ c.field s 36 4 ≠ 0 ∧ s.freeHandle = some h ∧ g.1 = h)) = true ∧
    (let s : State := home
    let c : Cmd := cmd [(16, 5)]
    let k : CmdSpec := { op := 0x0402, named := [(16, 17)], long := true, needsJob := true }
    let h := c.field s 16 2
    decide (Passes s k c {} ∧ s.reel.regions.get none h ≠ none)) = true ∧
    (let s : State := inJob
    let c : Cmd := cmd [(16, 1), (20, 2), (24, 4096)]
    let bs : List Byte := [0, 0, 0, 0]
    let n := c.field s 20 2
    let a := c.field s 24 8
    let k : CmdSpec := { op := 0x0403, named := [(16, 16), (20, 31)], needsJob := true }
    let v : Verdict := { reads := some (a, 2 * n) }
    decide (Passes s k c v ∧ 1 ≤ n ∧ n ≤ 4096 ∧ readSpace s (c.port s) 1 a (2 * n) = some bs)) = true ∧
    (let s : State := inJob
    let c : Cmd := cmd [(16, 1), (17, 1), (24, 4096)]
    let bs : List Byte := List.replicate 16 0
    let n := c.field s 17 1
    let a := c.field s 24 8
    let k : CmdSpec := { op := 0x0404, named := [(16, 18), (20, 39)], needsJob := true }
    let v : Verdict := { reads := some (a, 16 * n) }
    let ms := (List.range n).map (mcMember bs)
    decide (Passes s k c v ∧ s.fuse.mcast = true ∧ 1 ≤ n ∧ n ≤ 64 ∧ c.field s 18 1 ≤ 1 ∧ readSpace s (c.port s) 1 a (16 * n) = some bs ∧ (∀ m ∈ ms, routeGateway (s.routeOf m.node) = false) ∧ c.field s 32 8 + 2048 ≤ hbmBytes)) = true ∧
    (let s : State := { inJob with reel := { inJob.reel with sharers := [(1, some [7])], drain := some { what := 1, at_ := 0, cmd := none } } }
    let c : Cmd := cmd [(16, 1), (32, 65536)]
    let ms : List (BitVec 16) := [7]
    let k : CmdSpec := { op := 0x0405, named := [(16, 16), (20, 35)], long := true, needsJob := true }
    decide (Passes s k c {} ∧ s.reel.sharers.get none (c.field s 16 1) = some ms ∧ c.field s 24 8 % 128 = 0 ∧ c.field s 24 8 < 2 ^ 48 ∧ 1 ≤ c.field s 32 4 ∧ c.field s 32 4 ≤ 65536 ∧ s.reel.drain.isSome = true)) = true ∧
    (let s : State := { inJob with reel := { inJob.reel with sharers := [(1, some [7])] } }
    let c : Cmd := cmd [(16, 1), (32, 1)]
    let ms : List (BitVec 16) := [7]
    let k : CmdSpec := { op := 0x0405, named := [(16, 16), (20, 35)], long := true, needsJob := true }
    decide (Passes s k c {} ∧ s.reel.sharers.get none (c.field s 16 1) = some ms ∧ c.field s 24 8 % 128 = 0 ∧ c.field s 24 8 < 2 ^ 48 ∧ 1 ≤ c.field s 32 4 ∧ c.field s 32 4 ≤ 65536 ∧ s.reel.drain = none)) = true ∧
    (let s : State := home
    let c : Cmd := cmd [(16, 5), (20, 10)]
    let r : RegionReg := { base := 0, length := 1024, rights := 31, key := 9 }
    let h := c.field s 16 2
    let key := BitVec.ofNat 32 (c.field s 20 4)
    let k : CmdSpec := { op := 0x0406, named := [(16, 17), (20, 23)], long := true, needsJob := true }
    decide (Passes s k c {} ∧ s.reel.regions.get none h = some r ∧ key ≠ 0 ∧ key ≠ r.key ∧ Tab.wf s.reel.regions none = true)) = true ∧
    (let s : State := { home with spin := { home.spin with lops := [{ opcode := 0x0406, cmd := cmd [], aux := 5 }] } }
    let l : LOp := { opcode := 0x0406, cmd := cmd [], aux := 5 }
    let r : RegionReg := { base := 0, length := 1024, rights := 31, key := 9 }
    decide (s.lop 0x0406 = some l ∧ s.reel.regions.get none l.aux = some r ∧ 250000 ≤ since r.rotatedAt s.time.lea)) = true ∧
    (let s : State := { home with spin := { home.spin with lops := [{ opcode := 0x0406, cmd := cmd [], aux := 5 }] }, reel := { home.reel with regions := [(5, some { base := 0, length := 1024, rights := 31, key := 9, rotatedAt := 999999750001 })] } }
    let l : LOp := { opcode := 0x0406, cmd := cmd [], aux := 5 }
    let r : RegionReg := { base := 0, length := 1024, rights := 31, key := 9, rotatedAt := 999999750001 }
    decide (s.lop 0x0406 = some l ∧ s.reel.regions.get none l.aux = some r ∧ since r.rotatedAt s.time.lea < 250000)) = true := by
  refine ⟨?_, ?_, ?_, ?_, ?_, ?_, ?_, ?_, ?_⟩ <;> decide +kernel

theorem test_witness_HomeServesRejectsAndUpdates_1 :
    (let s : State := home
    let p : RPort := 0
    let k : Pkt := hpkt 1
    let r : RegionReg := { base := 0, length := 1024, rights := 31, key := 9 }
    let pa := s.homeAddr k
    decide (Asked s p 0x01 k ∧ s.homeCheck k 0 128 128 = none ∧ s.regionReg k.handle = some r ∧ s.serves (stackOf pa) = true ∧ s.hotRetry (pa / 128) = none)) = true ∧
    (let s : State := home
    let p : RPort := 0
    let k : Pkt := { hpkt 3 with offset := 896 }
    let pa := s.homeAddr k
    decide (Asked s p 0x03 k ∧ s.homeCheck k 1 128 128 = none ∧ s.serves (stackOf pa) = true ∧ s.hotRetry (pa / 128) = none)) = true ∧
    (let s : State := home
    let p : RPort := 0
    let k : Pkt := hpkt 9
    let pa := s.homeAddr k
    decide (Asked s p 0x09 k ∧ s.homeCheck k 3 128 128 = none ∧ s.serves (stackOf pa) = true ∧ s.hotRetry (pa / 128) = none)) = true ∧
    (let s : State := home
    let p : RPort := 0
    let k : Pkt := pkt 7
    decide (Asked s p 0x07 k)) = true ∧
    (let s : State := home
    let p : RPort := 0
    let k : Pkt := hpkt 11
    let ls := bulkLines k.data
    decide (Asked s p 0x0B k ∧ s.homeCheck k 1 128 (128 * ls.foldl (fun a e => max a (e.1 + 1)) 1) = none)) = true ∧
    (let s : State := home
    let p : RPort := 0
    let k : Pkt := { hpkt 12 with count := 8 }
    let r : RegionReg := { base := 0, length := 1024, rights := 31, key := 9 }
    decide (Asked s p 0x0C k ∧ s.homeCheck k 0 128 (128 * min 32 k.count.toNat) = none ∧ s.regionReg k.handle = some r ∧ ((linesOf (s.homeAddr k) (128 * min 32 k.count.toNat)).filter fun l => s.mems.hbmPoison.get false l) = [])) = true ∧
    (let s : State := home
    let k : Pkt := { hpkt 1 with handle := 6 }
    decide (s.regionReg k.handle = none)) = true ∧
    (let s : State := home
    let k : Pkt := { hpkt 1 with key := 8 }
    let r : RegionReg := { base := 0, length := 1024, rights := 31, key := 9 }
    decide (s.regionReg k.handle = some r ∧ r.opens k.key = false)) = true ∧
    (let s : State := { home with reel := { home.reel with regions := [(5, some { base := 0, length := 1024, rights := 30, key := 9 })] } }
    let k : Pkt := hpkt 1
    let right : Nat := 0
    let r : RegionReg := { base := 0, length := 1024, rights := 30, key := 9 }
    decide (s.regionReg k.handle = some r ∧ r.opens k.key = true ∧ bit r.rights right = false)) = true ∧
    (let s : State := home
    let k : Pkt := { hpkt 1 with offset := 1024 }
    let right : Nat := 0
    let unit : Nat := 128
    let n : Nat := 128
    let sound : Bool := true
    let r : RegionReg := { base := 0, length := 1024, rights := 31, key := 9 }
    decide (s.regionReg k.handle = some r ∧ r.opens k.key = true ∧ bit r.rights right = true ∧ (sound = false ∨ k.offset.toNat % unit ≠ 0 ∨ r.length < k.offset.toNat / 128 * 128 + max n 128))) = true := by
  refine ⟨?_, ?_, ?_, ?_, ?_, ?_, ?_, ?_, ?_, ?_⟩ <;> decide +kernel

theorem test_witness_HomeServesRejectsAndUpdates_2 :
    (let s : State := home
    let k : Pkt := { hpkt 1 with offset := 896 }
    let right : Nat := 0
    let unit : Nat := 128
    let n : Nat := 128
    let sound : Bool := true
    let r : RegionReg := { base := 0, length := 1024, rights := 31, key := 9 }
    decide (s.regionReg k.handle = some r ∧ r.opens k.key = true ∧ bit r.rights right = true ∧ sound = true ∧ k.offset.toNat % unit = 0 ∧ k.offset.toNat / 128 * 128 + max n 128 ≤ r.length)) = true ∧
    (let s : State := home
    let p : RPort := 0
    let k : Pkt := { hpkt 1 with key := 8 }
    let st : Nat := ((home.homeCheck { hpkt 1 with key := 8 } 0 128 128).getD 0)
    decide (Asked s p 0x01 k ∧ s.homeCheck k 0 128 128 = some st)) = true ∧
    (let s : State := home
    let p : RPort := 0
    let k : Pkt := { hpkt 3 with key := 8 }
    let st : Nat := ((home.homeCheck { hpkt 3 with key := 8 } 1 128 128).getD 0)
    decide (Asked s p 0x03 k ∧ s.homeCheck k 1 128 128 = some st)) = true ∧
    (let s : State := home
    let p : RPort := 0
    let k : Pkt := { hpkt 5 with key := 8 }
    let st : Nat := ((home.homeCheck { hpkt 5 with key := 8 } 2 8 8).getD 0)
    decide (Asked s p 0x05 k ∧ s.homeCheck k 2 (reelAopSize k.aop.toNat) (reelAopSize k.aop.toNat) (decide (k.aop.toNat ≤ 11)) = some st)) = true ∧
    (let s : State := { home with memory := { home.memory with journal := [{ die := dieOfLine 0, local_ := false, node := 7, tag := 0, epoch := 0, reply := 1, at_ := 1000000000000 }] } }
    let p : RPort := 0
    let k : Pkt := hpkt 5
    let aop := k.aop.toNat
    let pa := s.homeAddr k
    let die := dieOfLine (pa / 128)
    let e : JEntry := { die := dieOfLine 0, local_ := false, node := 7, tag := 0, epoch := 0, reply := 1, at_ := 1000000000000 }
    decide (Asked s p 0x05 k ∧ s.homeCheck k 2 (reelAopSize aop) (reelAopSize aop) (decide (aop ≤ 11)) = none ∧ s.journaled die false k.src k.tag k.epoch.toNat = some e)) = true ∧
    (let s : State := home
    let p : RPort := 0
    let k : Pkt := { hpkt 5 with offset := 1016 }
    let errs : Nat := 3
    let aop := k.aop.toNat
    let pa := s.homeAddr k
    let die := dieOfLine (pa / 128)
    let c := (s.admitLine (pa / 128) true).probe (pa / 128) errs
    decide (Asked s p 0x05 k ∧ s.homeCheck k 2 (reelAopSize aop) (reelAopSize aop) (decide (aop ≤ 11)) = none ∧ s.journaled die false k.src k.tag k.epoch.toNat = none ∧ s.serves (stackOf pa) = true ∧ s.jUsed die false < 98304 ∧ s.hotRetry (pa / 128) = none ∧ c.1.bad = false)) = true := by
  refine ⟨?_, ?_, ?_, ?_, ?_, ?_⟩ <;> decide +kernel

theorem test_witness_RequesterGathersResendsAndGivesUp_1 :
    (let s : State := { portUp with reel := { portUp.reel with gather := [{ port := 0, node := 7, handle := 5, key := 9, base := 0, last := 999999998000 }] } }
    let p : RPort := 0
    let w : Nat := 0
    let g : Gather := { port := 0, node := 7, handle := 5, key := 9, base := 0, last := 999999998000 }
    decide ((s.reel.gather.filter fun g => decide (g.port = p.val))[w]? = some g ∧ (2000 ≤ since g.last s.time.lea ∨ 512 ≤ g.lines.length))) = true ∧
    (let s : State := { portUp with reel := { portUp.reel with gather := [{ port := 0, node := 7, handle := 5, key := 9, base := 0, last := 999999998001 }] } }
    let p : RPort := 0
    let w : Nat := 0
    let g : Gather := { port := 0, node := 7, handle := 5, key := 9, base := 0, last := 999999998001 }
    decide ((s.reel.gather.filter fun g => decide (g.port = p.val))[w]? = some g ∧ since g.last s.time.lea < 2000 ∧ g.lines.length < 512)) = true ∧
    (let s : State := { portUp with reel := { portUp.reel with pieces := [{ port := 0, node := 7, handle := 5, key := 9, base := 0, fetch := true, sent := false, tag := 1, pkts := [], at_ := 999999999500 }] } }
    let p : RPort := 0
    let n : Nat := 0
    let x : Piece := { port := 0, node := 7, handle := 5, key := 9, base := 0, fetch := true, sent := false, tag := 1, pkts := [], at_ := 999999999500 }
    decide ((s.reel.pieces.filter fun x => decide (x.port = p.val) && x.fetch && !x.sent)[n]? = some x ∧ 500 ≤ since x.at_ s.time.lea)) = true ∧
    (let s : State := { portUp with reel := { portUp.reel with pieces := [{ port := 0, node := 7, handle := 5, key := 9, base := 0, fetch := true, sent := true, tag := 1, pkts := [], at_ := 1 }] } }
    let p : RPort := 0
    let k : Pkt := { pkt 13 with tag := 1 }
    let x : Piece := { port := 0, node := 7, handle := 5, key := 9, base := 0, fetch := true, sent := true, tag := 1, pkts := [], at_ := 1 }
    decide (Answered s p 0x0D k ∧ s.pieceOf k true = some x)) = true ∧
    (let s : State := { portUp with reel := { portUp.reel with pieces := [{ port := 0, node := 7, handle := 5, key := 9, base := 0, fetch := false, sent := true, tag := 1, pkts := [], at_ := 1 }] } }
    let p : RPort := 0
    let k : Pkt := { pkt 14 with tag := 1 }
    let x : Piece := { port := 0, node := 7, handle := 5, key := 9, base := 0, fetch := false, sent := true, tag := 1, pkts := [], at_ := 1 }
    decide (Answered s p 0x0E k ∧ s.pieceOf k false = some x)) = true ∧
    (let s : State := asked fun r => { r with waiting := true, until_ := 1000000000000 }
    let tag : BitVec 16 := 3
    let n := tag.toNat
    let r := s.slot n
    let mcLine := s.reel.mcLines.find? fun x => decide (x.tag = n)
    decide (r.reel = true ∧ r.waiting = true ∧ r.until_ ≠ 0 ∧ before s.time.lea r.until_ = false ∧ (r.opcode ≠ 5 ∨ since r.firstAt s.time.lea < 150000) ∧ mcLine = none)) = true ∧
    (let s : State := asked fun r => { r with waiting := true, until_ := 1000000000001 }
    let tag : BitVec 16 := 3
    let n := tag.toNat
    let r := s.slot n
    let mcLine := s.reel.mcLines.find? fun x => decide (x.tag = n)
    decide ((before s.time.lea r.until_ = true ∨ r.opcode = 5 ∧ 150000 ≤ since r.firstAt s.time.lea) ∧ mcLine = none)) = true ∧
    (let s : State := let a := asked fun r => { r with opcode := 9, waiting := true, until_ := 1000000000000 }; { a with reel := { a.reel with mcLines := [{ tag := 3, group := 1, at_ := 1 }] } }
    let tag : BitVec 16 := 3
    let n := tag.toNat
    let mcLine := s.reel.mcLines.find? fun x => decide (x.tag = n)
    let x := { tag := 3, group := 1, at_ := 1 }
    decide (mcLine = some x)) = true ∧
    (let s : State := asked fun r => { r with opcode := 5, tries := 2, sentAt := 999999980000, firstAt := 999999850001 }
    let tag : BitVec 16 := 3
    let n := tag.toNat
    let r := s.slot n
    decide (r.reel = true ∧ r.opcode = 5 ∧ r.waiting = false ∧ r.tries < 3 ∧ 20000 ≤ since r.sentAt s.time.lea ∧ since r.firstAt s.time.lea < 150000)) = true ∧
    (let s : State := asked fun r => { r with opcode := 5, tries := 3, sentAt := 999999980000, firstAt := 999999850001 }
    let tag : BitVec 16 := 3
    let n := tag.toNat
    let r := s.slot n
    decide ((3 ≤ r.tries ∨ since r.sentAt s.time.lea < 20000 ∨ 150000 ≤ since r.firstAt s.time.lea))) = true := by
  refine ⟨?_, ?_, ?_, ?_, ?_, ?_, ?_, ?_, ?_, ?_⟩ <;> decide +kernel

theorem test_witness_RequesterGathersResendsAndGivesUp_2 :
    (let s : State := asked fun r => { r with opcode := 5, tries := 3, sentAt := 999999980000 }
    let tag : BitVec 16 := 3
    let n := tag.toNat
    let r := s.slot n
    decide (r.reel = true ∧ r.opcode = 5 ∧ r.retries = 0 ∧ 3 ≤ r.tries ∧ 20000 ≤ since r.sentAt s.time.lea)) = true ∧
    (let s : State := asked fun r => { r with opcode := 5, retries := 1, tries := 1, firstAt := 999999850000 }
    let tag : BitVec 16 := 3
    let n := tag.toNat
    let r := s.slot n
    decide (r.reel = true ∧ r.opcode = 5 ∧ 0 < r.retries ∧ 0 < r.tries ∧ 150000 ≤ since r.firstAt s.time.lea)) = true ∧
    (let s : State := asked fun r => { r with sentAt := 999999960000 }
    let tag : BitVec 16 := 3
    let n := tag.toNat
    let r := s.slot n
    decide (r.reel = true ∧ r.opcode ≠ 5 ∧ r.waiting = false ∧ 1000 * s.conf.inForce.requestUs ≤ since r.sentAt s.time.lea ∧ (∀ x ∈ s.reel.mcLines, x.tag ≠ n))) = true ∧
    (let s : State := asked fun r => { r with retries := 1, firstAt := 1 }
    let tag : BitVec 16 := 3
    let n := tag.toNat
    let r := s.slot n
    decide (r.reel = true ∧ r.opcode ≠ 5 ∧ 0 < r.retries ∧ 16 * (1000 * s.conf.inForce.requestUs) ≤ since r.firstAt s.time.lea)) = true ∧
    (let s : State := { portUp with reel := { portUp.reel with inval := some { cmd := cmd [], members := [7], startAt := 999999960000 } } }
    let v : Inval := { cmd := cmd [], members := [7], startAt := 999999960000 }
    decide (s.reel.inval = some v ∧ v.sent = true ∧ 1000 * s.conf.inForce.requestUs ≤ since v.startAt s.time.lea)) = true ∧
    (let s : State := let a := asked fun r => { r with opcode := 9 }; { a with reel := { a.reel with mcLines := [{ tag := 3, group := 1, at_ := 1 }], mcast := [(1, some { members := [], missFault := true, key := 0, maskBase := 0 })] } }
    let tag : BitVec 16 := 3
    let x : McLine := { tag := 3, group := 1, at_ := 1 }
    let g : McGroup := { members := [], missFault := true, key := 0, maskBase := 0 }
    decide ((s.reel.mcLines.find? fun x => decide (x.tag = tag.toNat)) = some x ∧ s.reel.mcast.get none x.group = some g ∧ 1000 * s.conf.inForce.requestUs ≤ since x.at_ s.time.lea)) = true ∧
    (let s : State := { portUp with reel := { portUp.reel with mcLines := [{ tag := 3, group := 1, at_ := 999999980000 }], mcast := [(1, some { members := [{ node := 7, handle := 5, key := 9, base := 0 }], missFault := false, key := 0, maskBase := 0 })] }, rport := [(0, { state := .up, present := true, queue := [(6, [{ pkt 9 with dst := 7, tag := 3 }])] })] }
    let tag : BitVec 16 := 3
    let x : McLine := { tag := 3, group := 1, at_ := 999999980000 }
    let g : McGroup := { members := [{ node := 7, handle := 5, key := 9, base := 0 }], missFault := false, key := 0, maskBase := 0 }
    let m : McMember := { node := 7, handle := 5, key := 9, base := 0 }
    let i : Nat := 0
    let mine := fun k : Pkt => decide (k.opcode = 9) && decide (k.tag = tag) && decide (k.aux.toNat = i) && decide (k.dst = m.node)
    decide ((s.reel.mcLines.find? fun x => decide (x.tag = tag.toNat)) = some x ∧ s.reel.mcast.get none x.group = some g ∧ g.members[i]? = some m ∧ (s.rport.any fun e => (e.2.vcq 6).any mine) = true ∧ 20000 ≤ since x.at_ s.time.lea)) = true := by
  refine ⟨?_, ?_, ?_, ?_, ?_, ?_, ?_⟩ <;> decide +kernel

theorem test_witness_RepliesEndTheirSlots_1 :
    (let s : State := asked id
    let p : RPort := 0
    let k : Pkt := { pkt 2 with tag := 3 }
    let n := k.tag.toNat
    let r := s.slot n
    let fits := fun op => r.reel = true ∧ r.kind ≠ .free ∧ r.opcode = op ∧ r.epoch = k.epoch ∧ (r.node ≠ s.node ∨ r.handle.toNat < 0xFF00)
    decide (Answered s p 0x02 k ∧ fits 0x01 ∧ k.status = 0 ∧ (k.flags.getLsbD 0 = false ∨ r.noFill = true ∨ r.noCache = true))) = true ∧
    (let s : State := asked id
    let p : RPort := 0
    let k : Pkt := { pkt 2 with tag := 3, status := 1, aux := 5 }
    let n := k.tag.toNat
    let r := s.slot n
    let fits := fun op => r.reel = true ∧ r.kind ≠ .free ∧ r.opcode = op ∧ r.epoch = k.epoch ∧ (r.node ≠ s.node ∨ r.handle.toNat < 0xFF00)
    decide (Answered s p 0x02 k ∧ fits 0x01 ∧ k.status = 1)) = true ∧
    (let s : State := asked id
    let p : RPort := 0
    let k : Pkt := { pkt 2 with tag := 3, epoch := 1 }
    let n := k.tag.toNat
    let r := s.slot n
    decide (Answered s p 0x02 k ∧ r.epoch ≠ k.epoch)) = true ∧
    (let s : State := asked fun r => { r with opcode := 3 }
    let p : RPort := 0
    let k : Pkt := { pkt 4 with tag := 3 }
    let n := k.tag.toNat
    let r := s.slot n
    let fits := fun op => r.reel = true ∧ r.kind ≠ .free ∧ r.opcode = op ∧ r.epoch = k.epoch ∧ (r.node ≠ s.node ∨ r.handle.toNat < 0xFF00)
    decide (Answered s p 0x04 k ∧ fits 0x03 ∧ k.status = 0)) = true ∧
    (let s : State := asked fun r => { r with opcode := 3 }
    let p : RPort := 0
    let k : Pkt := { pkt 4 with tag := 3, status := 2 }
    let n := k.tag.toNat
    let r := s.slot n
    let fits := fun op => r.reel = true ∧ r.kind ≠ .free ∧ r.opcode = op ∧ r.epoch = k.epoch ∧ (r.node ≠ s.node ∨ r.handle.toNat < 0xFF00)
    decide (Answered s p 0x04 k ∧ fits 0x03 ∧ k.status = 2)) = true ∧
    (let s : State := asked id
    let p : RPort := 0
    let k : Pkt := { pkt 4 with tag := 4 }
    let n := k.tag.toNat
    let r := s.slot n
    decide (Answered s p 0x04 k ∧ r.kind = .free)) = true ∧
    (let s : State := asked fun r => { r with opcode := 5 }
    let p : RPort := 0
    let k : Pkt := { pkt 6 with tag := 3 }
    let n := k.tag.toNat
    let r := s.slot n
    let fits := fun op => r.reel = true ∧ r.kind ≠ .free ∧ r.opcode = op ∧ r.epoch = k.epoch ∧ (r.node ≠ s.node ∨ r.handle.toNat < 0xFF00)
    decide (Answered s p 0x06 k ∧ fits 0x05 ∧ k.status = 0)) = true ∧
    (let s : State := asked id
    let p : RPort := 0
    let k : Pkt := { pkt 6 with tag := 3 }
    let n := k.tag.toNat
    let r := s.slot n
    decide (Answered s p 0x06 k ∧ r.opcode ≠ 0x05)) = true ∧
    (let s : State := asked id
    let p : RPort := 0
    let k : Pkt := { pkt 8 with tag := 3, status := 5 }
    decide (Answered s p 0x08 k ∧ (k.status = 0 ∨ k.status = 5))) = true ∧
    (let s : State := let a := asked fun r => { r with opcode := 9 }; { a with reel := { a.reel with mcLines := [{ tag := 3, group := 1, at_ := 1 }] } }
    let p : RPort := 0
    let k : Pkt := { pkt 10 with tag := 3 }
    let n := k.tag.toNat
    let r := s.slot n
    decide (Answered s p 0x0A k ∧ r.reel = true ∧ r.epoch = k.epoch ∧ (∃ x ∈ s.reel.mcLines, x.tag = n) ∧ k.status = 0)) = true := by
  refine ⟨?_, ?_, ?_, ?_, ?_, ?_, ?_, ?_, ?_, ?_⟩ <;> decide +kernel

theorem test_witness_RepliesEndTheirSlots_2 :
    (let s : State := let a := asked fun r => { r with opcode := 9 }; { a with reel := { a.reel with mcLines := [{ tag := 3, group := 1, at_ := 1 }] } }
    let p : RPort := 0
    let k : Pkt := { pkt 10 with tag := 3, status := 7 }
    let n := k.tag.toNat
    let r := s.slot n
    decide (Answered s p 0x0A k ∧ r.reel = true ∧ r.epoch = k.epoch ∧ (∃ x ∈ s.reel.mcLines, x.tag = n) ∧ k.status = 7)) = true ∧
    (let s : State := let a := asked fun r => { r with opcode := 9 }; { a with reel := { a.reel with mcLines := [{ tag := 3, group := 1, at_ := 1 }] } }
    let p : RPort := 0
    let k : Pkt := { pkt 10 with tag := 3, status := 5 }
    let n := k.tag.toNat
    let r := s.slot n
    decide (Answered s p 0x0A k ∧ r.reel = true ∧ r.epoch = k.epoch ∧ (∃ x ∈ s.reel.mcLines, x.tag = n) ∧ k.status = 5)) = true ∧
    (let s : State := let a := asked fun r => { r with opcode := 9 }; { a with reel := { a.reel with mcLines := [{ tag := 3, group := 1, at_ := 1 }] } }
    let p : RPort := 0
    let k : Pkt := { pkt 10 with tag := 3, status := 1 }
    let n := k.tag.toNat
    let r := s.slot n
    decide (Answered s p 0x0A k ∧ r.reel = true ∧ r.epoch = k.epoch ∧ (∃ x ∈ s.reel.mcLines, x.tag = n) ∧ k.status = 1)) = true := by
  refine ⟨?_, ?_, ?_⟩ <;> decide +kernel

theorem test_witness_DemandAndPhaseCircuitsAreSwitched_1 :
    (let s : State := lit
    let src : Stn := 0
    let dst : Stn := 1
    let i : Nat := 4
    let b : Bob := (lit.place lit.demandUse.1 lit.demandUse.2 { kind := 1, src := 0, drops := [1], i := 4, sel := 15 }).getD { kind := 0, src := 0, drops := [], loop := 0, line := 0, tx := 0 }
    decide (src ≠ dst ∧ s.isFenced src = false ∧ s.isFenced dst = false ∧ (∀ g ∈ s.creel.grants, g.1 = 64 * src.val + dst.val → 10000 ≤ since g.2 s.time.lea) ∧ s.demandIndex src dst = some i ∧ s.place s.demandUse.1 s.demandUse.2 { kind := 1, src := src, drops := [dst.val], i := i, sel := 15 } = some b)) = true ∧
    (let s : State := lit
    let src : Stn := 3
    let dst : Stn := 3
    decide ((src = dst ∨ s.isFenced src = true ∨ s.isFenced dst = true ∨ ∃ g ∈ s.creel.grants, g.1 = 64 * src.val + dst.val ∧ since g.2 s.time.lea < 10000))) = true ∧
    (let s : State := { lit with creel := { lit.creel with demand := [{ src := 0, dst := 1, index := 4, bob := { kind := 1, src := 0, drops := [], loop := 0, line := 0, tx := 0 }, at_ := 999999900000 }] } }
    let id : BitVec 32 := packetId 1 0 1 4
    let d : Demand := { src := 0, dst := 1, index := 4, bob := { kind := 1, src := 0, drops := [], loop := 0, line := 0, tx := 0 }, at_ := 999999900000 }
    decide ((s.creel.demand.find? fun d => decide (packetId 1 d.src d.dst d.index = id)) = some d ∧ s.lit d.bob = true ∧ 100000 ≤ since d.at_ s.time.lea)) = true ∧
    (let s : State := { lit with creel := { lit.creel with demand := [{ src := 0, dst := 1, index := 4, bob := { kind := 1, src := 0, drops := [], loop := 0, line := 0, tx := 0 }, at_ := 999999900001 }] } }
    let id : BitVec 32 := packetId 1 0 1 4
    let d : Demand := { src := 0, dst := 1, index := 4, bob := { kind := 1, src := 0, drops := [], loop := 0, line := 0, tx := 0 }, at_ := 999999900001 }
    decide ((s.creel.demand.find? fun d => decide (packetId 1 d.src d.dst d.index = id)) = some d ∧ (s.lit d.bob = false ∨ since d.at_ s.time.lea < 100000))) = true ∧
    (let s : State := running table0 { handle := 0, base := 999999997000 }
    let r : Run := { handle := 0, base := 999999997000 }
    let p : Nat := 0
    let t : TableSt := table0
    let late := (takingPart t p).filter fun x => !s.regionReady x p
    let seen : State := { s with creel := { s.creel with lateStn := late.foldl min 63 } }
    decide (s.creel.run = some r ∧ r.next = some p ∧ s.table r.handle = some t ∧ r.armed = false ∧ s.nextIsBarrier = false ∧ before s.time.lea (dueAt t r p - 1000) = false ∧ late = [] ∧ seen.ringsReady (t.placed[p]?.getD []) = true)) = true ∧
    (let s : State := { ((running (tableK 2) { handle := 0, base := 999999997000 }).modBlk 0 fun x => { x with sched := [sched 7] }) with job := launched.job }
    let r : Run := { handle := 0, base := 999999997000 }
    let p : Nat := 0
    let t : TableSt := tableK 2
    let late := (takingPart t p).filter fun x => !s.regionReady x p
    decide (s.creel.run = some r ∧ r.next = some p ∧ s.table r.handle = some t ∧ r.armed = false ∧ s.nextIsBarrier = false ∧ before s.time.lea (dueAt t r p - 1000) = false ∧ late ≠ [])) = true ∧
    (let s : State := running table0 { handle := 0, base := 999999997001 }
    let r : Run := { handle := 0, base := 999999997001 }
    let p : Nat := 0
    let t : TableSt := table0
    decide (s.creel.run = some r ∧ r.next = some p ∧ s.table r.handle = some t ∧ before s.time.lea (dueAt t r p - 1000) = true)) = true ∧
    (let s : State := running tableB { handle := 0, base := 0 }
    let r : Run := { handle := 0, base := 0 }
    let p : Nat := 0
    let n : Nat := 241
    let t : TableSt := tableB
    let d : PhaseD := { first := 0, count := 0, barrier := true, barrierId := 241, token := 0, tokenCount := 1, slot := 0 }
    decide (s.creel.run = some r ∧ r.next = some p ∧ s.table r.handle = some t ∧ t.phases[p]? = some d ∧ r.trigger = none ∧ d.barrier = true ∧ d.barrierId = n)) = true ∧
    (let s : State := running tableB { handle := 0, base := 0 }
    let r : Run := { handle := 0, base := 0 }
    let p : Nat := 0
    let n : Nat := 242
    let t : TableSt := tableB
    let d : PhaseD := { first := 0, count := 0, barrier := true, barrierId := 241, token := 0, tokenCount := 1, slot := 0 }
    decide (s.creel.run = some r ∧ r.next = some p ∧ s.table r.handle = some t ∧ t.phases[p]? = some d ∧ r.trigger = none ∧ d.barrierId ≠ n)) = true ∧
    (let s : State := running { table0 with placed := [[{ kind := 2, src := 0, drops := [(1, 0)], loop := 0, line := 0, tx := 0 }]] } { handle := 0, base := 999999997000 }
    let r : Run := { handle := 0, base := 999999997000 }
    let p : Nat := 0
    let t : TableSt := { table0 with placed := [[{ kind := 2, src := 0, drops := [(1, 0)], loop := 0, line := 0, tx := 0 }]] }
    decide (s.creel.run = some r ∧ r.next = some p ∧ s.table r.handle = some t ∧ s.atSwitch t r p = false)) = true := by
  refine ⟨?_, ?_, ?_, ?_, ?_, ?_, ?_, ?_, ?_, ?_⟩ <;> decide +kernel

theorem test_witness_DemandAndPhaseCircuitsAreSwitched_2 :
    (let s : State := running table0 { handle := 0, base := 999999990000, stopping := true }
    let r : Run := { handle := 0, base := 999999990000, stopping := true }
    let p : Nat := 0
    let t : TableSt := table0
    decide (s.creel.run = some r ∧ r.next = some p ∧ s.table r.handle = some t ∧ s.atSwitch t r p = true ∧ r.stopping = true)) = true ∧
    (let s : State := running table0 { handle := 0, base := 999999990000, armed := true }
    let r : Run := { handle := 0, base := 999999990000, armed := true }
    let p : Nat := 0
    let t : TableSt := table0
    let ready := s.nextIsBarrier = false ∨ s.ringsReady (t.placed[p]?.getD []) = true
    decide (s.creel.run = some r ∧ r.next = some p ∧ s.table r.handle = some t ∧ s.atSwitch t r p = true ∧ r.stopping = false ∧ ready ∧ t.resident = true)) = true ∧
    (let s : State := running { table0 with resident := false, phases := table0.phases ++ table0.phases } { handle := 0, base := 999999990000, armed := true }
    let r : Run := { handle := 0, base := 999999990000, armed := true }
    let p : Nat := 0
    let t : TableSt := { table0 with resident := false, phases := table0.phases ++ table0.phases }
    let failed : List (BitVec 32 × Nat) := []
    let ns : Nat := 0
    let w : List (PlyIx × PlyMeas) := []
    let done := (s.switchTo t r p failed ns w).pendNext t p (s.time.lea + BitVec.ofNat 64 ns) r.pauseEnd.isSome
    let ready := s.nextIsBarrier = false ∨ s.ringsReady (t.placed[p]?.getD []) = true
    let u : Run := (done.creel.run).getD r
    let q : Nat := 1
    decide (s.creel.run = some r ∧ r.next = some p ∧ s.table r.handle = some t ∧ s.atSwitch t r p = true ∧ r.stopping = false ∧ ready ∧ t.resident = false ∧ done.creel.run = some u ∧ u.next = some q)) = true ∧
    (let s : State := { (lit.modRing 0 fun x => { x with state := .locking }) with creel := (running { tableB with placed := (tableK 2).placed } { handle := 0, base := 999999990000, trigger := some 999999990000 }).creel }
    let r : Run := { handle := 0, base := 999999990000, trigger := some 999999990000 }
    let p : Nat := 0
    let t : TableSt := { tableB with placed := (tableK 2).placed }
    let ready := s.nextIsBarrier = false ∨ s.ringsReady (t.placed[p]?.getD []) = true
    decide (s.creel.run = some r ∧ r.next = some p ∧ s.table r.handle = some t ∧ s.atSwitch t r p = true ∧ r.stopping = false ∧ ¬ready)) = true ∧
    (let s : State := { (ready.modRing 0 fun x => { x with state := .locking }) with creel := { ready.creel with retune := [0] } }
    let i : RingIx := ⟨0, 0, .tx, 0⟩
    decide (((s.ring (ringIx i)).state = .locking ∨ (s.ring (ringIx i)).state = .verify) ∧ s.creel.retune.contains (ringIx i) = true)) = true ∧
    (let s : State := ready.modRing 0 fun x => { x with state := .locking }
    let i : RingIx := ⟨0, 0, .tx, 0⟩
    decide ((((s.ring (ringIx i)).state ≠ .locking ∧ (s.ring (ringIx i)).state ≠ .verify) ∨ s.creel.retune.contains (ringIx i) = false))) = true ∧
    (let s : State := running table0 { handle := 0, base := 999999997001 }
    decide (s.creel.demand = [] ∧ s.creel.start = none ∧ s.creel.requal = none ∧ s.skein.state ≠ 1)) = true := by
  refine ⟨?_, ?_, ?_, ?_, ?_, ?_, ?_⟩ <;> decide +kernel

end Sys2Proof.Tests
end

