-- ==== Sys2Proof/Tests/Witness2.lean ====
section
/-! SUPPORT. Witnesses: for each statement of Certificates/Slice0/Obligations.lean, small states and operands
that meet the hypotheses of its clauses, each clause on its own, at the edge of a range where there is one. -/

set_option Elab.async false

namespace Sys2Proof.Tests

open Sys2Proof Sys2Proof.Machine

theorem test_witness_TablesStationsAndLoopsComeAndGo_1 :
    (let s : State := { lit with mems := { lit.mems with hbm := Memory.write [] 4096 tableImage } }
    let c : Cmd := cmd [(16, 4096), (24, 96)]
    let h : Nat := 0
    let t : TableSt := (lit.readTable tableImage).getD table0
    let u : TableSt := (lit.placeTable 0 ((lit.readTable tableImage).getD table0)).getD table0
    let a := c.field s 16 8
    let n := c.field s 24 4
    let k : CmdSpec := { op := 0x0502, named := [(16, 27)], long := true, needsJob := true }
    let v : Verdict := { reads := some (a, n) }
    decide (Passes s k c v ∧ (readSpace s (c.port s) 1 a n).bind s.readTable = some t ∧ s.freeTable = some h ∧ s.placeTable h t = some u)) = true ∧
    (let s : State := { inJob with creel := { inJob.creel with table := [(1, some table0)] } }
    let c : Cmd := cmd [(16, 1)]
    let h := c.field s 16 1
    let k : CmdSpec := { op := 0x0503, named := [(16, 16)], needsJob := true }
    decide (Passes s k c {} ∧ (s.table h).isSome = true ∧ s.tableInUse h = false)) = true ∧
    (let s : State := { lit with creel := { lit.creel with table := [(0, some table0)] } }
    let c : Cmd := cmd []
    let t : TableSt := table0
    let h := c.field s 16 1
    let k : CmdSpec := { op := 0x0504, named := [(16, 16), (24, 31)], long := true, needsJob := true }
    decide (Passes s k c {} ∧ s.table h = some t ∧ s.creel.run = none ∧ s.creel.start = none)) = true ∧
    (let s : State := { (lit.modRing 0 fun x => { x with state := .locking }) with creel := { lit.creel with table := [(0, some (tableK 1))], start := some { handle := 0, base := 0, ply := [] } } }
    let x : Starting := { handle := 0, base := 0, ply := [] }
    let t : TableSt := tableK 1
    let rings := (startBobs x.handle t).flatMap fun b => b.2.rings.map fun r => (r, b.2.line)
    decide (s.creel.start = some x ∧ s.table x.handle = some t ∧ (∃ a : Nat × Nat, a ∈ rings ∧ s.ringOk a.1 = true ∧ s.tuned a.1 a.2 = false))) = true ∧
    (let s : State := { lit with creel := { lit.creel with table := [(0, some table0)], start := some { handle := 0, base := 0, ply := [] } } }
    let x : Starting := { handle := 0, base := 0, ply := [] }
    let t : TableSt := table0
    let rings := (startBobs x.handle t).flatMap fun b => b.2.rings.map fun r => (r, b.2.line)
    decide (s.creel.start = some x ∧ s.table x.handle = some t ∧ (∀ a : Nat × Nat, a ∈ rings → s.ringOk a.1 = true → s.tuned a.1 a.2 = true))) = true ∧
    (let s : State := running table0 { handle := 0, base := 0 }
    let c : Cmd := cmd [(17, 1)]
    let r : Run := { handle := 0, base := 0 }
    let h := c.field s 16 1
    let k : CmdSpec := { op := 0x0505, named := [(16, 17)], long := true, needsJob := true }
    decide (Passes s k c {} ∧ (s.table h).isSome = true ∧ s.creel.run = some r ∧ r.handle = h ∧ c.field s 17 1 = 1)) = true ∧
    (let s : State := running table0 { handle := 0, base := 0, next := none }
    let c : Cmd := cmd []
    let r : Run := { handle := 0, base := 0, next := none }
    let h := c.field s 16 1
    let k : CmdSpec := { op := 0x0505, named := [(16, 17)], long := true, needsJob := true }
    decide (Passes s k c {} ∧ (s.table h).isSome = true ∧ s.creel.run = some r ∧ r.handle = h ∧ c.field s 17 1 = 0 ∧ r.next = none)) = true ∧
    (let s : State := running table0 { handle := 0, base := 0 }
    let c : Cmd := cmd []
    let r : Run := { handle := 0, base := 0 }
    let h := c.field s 16 1
    let k : CmdSpec := { op := 0x0505, named := [(16, 17)], long := true, needsJob := true }
    decide (Passes s k c {} ∧ (s.table h).isSome = true ∧ s.creel.run = some r ∧ r.handle = h ∧ c.field s 17 1 = 0 ∧ r.next ≠ none)) = true ∧
    (let s : State := inJob
    let c : Cmd := cmd [(16, 2 ^ 34 - 1)]
    let m := c.field s 16 8
    let k : CmdSpec := { op := 0x0506, named := [(16, 23)], needsJob := true }
    decide (Passes s k c {} ∧ m < 2 ^ 34)) = true ∧
    (let s : State := inJob
    let c : Cmd := cmd [(16, 2 ^ 34 - 1)]
    let m := c.field s 16 8
    let k : CmdSpec := { op := 0x0507, named := [(16, 23)], needsJob := true }
    decide (Passes s k c {} ∧ m < 2 ^ 34 ∧ (∀ st ∈ onesOf 34 m, st < 16 → (s.reg st).state ≠ .reset ∧ (s.reg st).state ≠ .parked))) = true := by
  refine ⟨?_, ?_, ?_, ?_, ?_, ?_, ?_, ?_, ?_, ?_⟩ <;> decide +kernel

theorem test_witness_TablesStationsAndLoopsComeAndGo_2 :
    (let s : State := lit
    let c : Cmd := cmd [(16, 127)]
    let n := c.field s 16 1
    let k : CmdSpec := { op := 0x0508, named := [(16, 16)], needsJob := true }
    decide (Passes s k c {} ∧ n < 128)) = true ∧
    (let st : Nat := 33
    decide (st < 34)) = true ∧
    (let s : State := ready
    let c : Cmd := cmd []
    let k : CmdSpec := { op := 0x0509, long := true, noJob := true }
    decide (Passes s k c {} ∧ s.creel.requal = none)) = true ∧
    (let s : State := { (lit.modRing 0 fun x => { x with state := .locking }) with creel := { lit.creel with requal := some { loops := [0], rings := [0], lanes := { x0 := 16, x1 := 16, rttNs := 20 } } } }
    let q : Requal := { loops := [0], rings := [0], lanes := { x0 := 16, x1 := 16, rttNs := 20 } }
    let settled := fun r => (s.ring r).state = .locked ∨ (s.ring r).state = .faulty
    let judged := fun n => q.passed.contains n = true ∨ (s.loopSt n).state ≠ .locking
    decide (s.creel.requal = some q ∧ ((∃ r ∈ q.rings, ¬settled r) ∨ ∃ n ∈ q.loops, ¬judged n))) = true ∧
    (let s : State := { (lit.modRing 0 fun x => { x with state := .faulty }) with creel := { lit.creel with requal := some { loops := [0], rings := [0], lanes := { x0 := 4, x1 := 16, rttNs := 20 } } } }
    let q : Requal := { loops := [0], rings := [0], lanes := { x0 := 4, x1 := 16, rttNs := 20 } }
    let settled := fun r => (s.ring r).state = .locked ∨ (s.ring r).state = .faulty
    let judged := fun n => q.passed.contains n = true ∨ (s.loopSt n).state ≠ .locking
    decide (s.creel.requal = some q ∧ (∀ r ∈ q.rings, settled r) ∧ (∀ n ∈ q.loops, judged n) ∧ s.spin.present.a = true ∧ s.spin.present.b = true ∧ 4 ≤ linkLanes q.lanes)) = true ∧
    (let s : State := { lit with creel := { lit.creel with requal := some { loops := [0], rings := [], lanes := { x0 := 0, x1 := 0, rttNs := 0 } } }, spin := { lit.spin with present := ⟨true, false⟩ } }
    let q : Requal := { loops := [0], rings := [], lanes := { x0 := 0, x1 := 0, rttNs := 0 } }
    let settled := fun r => (s.ring r).state = .locked ∨ (s.ring r).state = .faulty
    let judged := fun n => q.passed.contains n = true ∨ (s.loopSt n).state ≠ .locking
    decide (s.creel.requal = some q ∧ (∀ r ∈ q.rings, settled r) ∧ (∀ n ∈ q.loops, judged n) ∧ (s.spin.present.a = false ∨ s.spin.present.b = false))) = true := by
  refine ⟨?_, ?_, ?_, ?_, ?_, ?_⟩ <;> decide +kernel

theorem test_witness_PortsFollowTheirStateTable_1 :
    (let s : State := port fun x => { x with state := .up, width := 8, lanesOk := 3 }
    let p : RPort := 0
    let x := s.rp p
    let here := s.spin.present.get (dieOfPort p) = true
    let lane : Fin 8 := 0
    let w := (runSet 3 8).getD (0, 0)
    decide (here ∧ x.state = .up ∧ runSet x.lanesOk x.width = some w ∧ bit w.2 lane = true ∧ bit x.lanesOk lane = true ∧ runSet (x.lanesOk - 2 ^ lane.val) x.width = none)) = true ∧
    (let s : State := port fun x => { x with state := .up, width := 8, lanesOk := 255 }
    let p : RPort := 0
    let x := s.rp p
    let here := s.spin.present.get (dieOfPort p) = true
    let lane : Fin 8 := 7
    let w := (runSet 255 8).getD (0, 0)
    decide (here ∧ x.state = .up ∧ runSet x.lanesOk x.width = some w ∧ bit w.2 lane = true ∧ bit x.lanesOk lane = true ∧ runSet (x.lanesOk - 2 ^ lane.val) x.width ≠ none)) = true ∧
    (let s : State := port fun x => { x with state := .narrow, width := 8, lanesOk := 127, since_ := 999999980001 }
    let p : RPort := 0
    let x := s.rp p
    let w := (runSet 127 8).getD (0, 0)
    decide (x.state = .narrow ∧ runSet x.lanesOk x.width = some w ∧ since x.since_ s.time.lea < 20000)) = true ∧
    (let s : State := port id
    let p : RPort := 0
    let x := s.rp p
    decide (x.state ≠ .up)) = true ∧
    (let s : State := port fun x => { x with state := .up, queue := [(0, [pkt 1])], credit := [(0, 0)], dryAt := [(0, 1)] }
    let p : RPort := 0
    let x := s.rp p
    let v : Vc := 0
    decide (x.state = .up ∧ (x.vcq v) ≠ [] ∧ x.credit.get 0 v = 0 ∧ 1000 * s.conf.inForce.creditUs ≤ since (x.dryAt.get 0 v) s.time.lea)) = true ∧
    (let s : State := port fun x => { x with state := .up, replay := [{ seq := 0, head := 0, data := [] }], lastAck := 999999990000 }
    let p : RPort := 0
    let x := s.rp p
    decide (x.state = .up ∧ x.replay ≠ [] ∧ 10000 ≤ since x.lastAck s.time.lea)) = true ∧
    (let s : State := port fun x => { x with state := .up }
    let p : RPort := 0
    let x := s.rp p
    decide (x.state = .up ∧ x.replay = [])) = true ∧
    (let s : State := port fun x => { x with state := .seek, since_ := 999950000000 }
    let p : RPort := 0
    let x := s.rp p
    decide (x.state = .seek ∧ 50000000 ≤ since x.since_ s.time.lea)) = true ∧
    (let s : State := port fun x => { x with state := .seek }
    let p : RPort := 0
    let x := s.rp p
    let here := s.spin.present.get (dieOfPort p) = true
    decide (x.state = .seek ∧ here)) = true ∧
    (let s : State := port fun x => { x with state := .train, since_ := 999950000001 }
    let p : RPort := 0
    let x := s.rp p
    let lanes : BitVec 8 := 255
    let w := (runSet 255 8).getD (0, 0)
    decide (x.state = .train ∧ since x.since_ s.time.lea < 50000000 ∧ runSet (BitVec.toNat lanes) x.most = some w)) = true := by
  refine ⟨?_, ?_, ?_, ?_, ?_, ?_, ?_, ?_, ?_, ?_⟩ <;> decide +kernel

theorem test_witness_PortsFollowTheirStateTable_2 :
    (let s : State := port fun x => { x with state := .train, trainFails := 1 }
    let p : RPort := 0
    let x := s.rp p
    decide (x.state = .train ∧ x.trainFails < 2)) = true ∧
    (let s : State := port fun x => { x with state := .train, trainFails := 2 }
    let p : RPort := 0
    let x := s.rp p
    decide (x.state = .train ∧ 2 ≤ x.trainFails)) = true ∧
    (let s : State := port fun x => { x with state := .down, since_ := 999900000000 }
    let p : RPort := 0
    let x := s.rp p
    decide (x.state = .down ∧ x.cause ≠ 9 ∧ x.enabled = true ∧ x.present = true ∧ 100000000 ≤ since x.since_ s.time.lea)) = true ∧
    (let s : State := port fun x => { x with state := .down, cause := 9 }
    let p : RPort := 0
    let x := s.rp p
    decide (x.cause = 9)) = true ∧
    (let s : State := ready
    let p : RPort := 0
    let x := s.rp p
    decide (x.present = false ∧ x.enabled = true ∧ x.state = .off)) = true ∧
    (let s : State := port id
    let p : RPort := 0
    let x := s.rp p
    decide (x.present = true)) = true ∧
    (let s : State := ready
    let p : Nat := 0
    decide (Tab.wf s.rport {} = true ∧ (s.rp p).replay = [] ∧ (s.rp p).queue = [])) = true := by
  refine ⟨?_, ?_, ?_, ?_, ?_, ?_, ?_⟩ <;> decide +kernel

theorem test_witness_LinksAreProvenAndFlitsServed_1 :
    (let s : State := port fun x => { x with state := .prove }
    let p : RPort := 0
    decide (s.mgmtUp p = true)) = true ∧
    (let s : State := let a := port fun x => { x with state := .prove, proving := some 1 }; { a with conf := { a.conf with inForce := { a.conf.inForce with trust := [{ key := 5, node := 7, isSwitch := false }] } } }
    let p : RPort := 0
    let node : BitVec 16 := 7
    let port : Nat := 255
    let key : BitVec 256 := 5
    decide (s.mgmtUp p = true ∧ (s.rp p).proving.isSome = true ∧ port < 256 ∧ node ≠ s.node ∧ (∃ t ∈ s.conf.inForce.trust, t.key = key ∧ (t.isSwitch = true ∨ t.node = node)))) = true ∧
    (let s : State := port fun x => { x with state := .prove, proving := some 1 }
    let p : RPort := 0
    let node : BitVec 16 := 7
    let key : BitVec 256 := 5
    decide (s.mgmtUp p = true ∧ (s.rp p).proving.isSome = true ∧ (∀ t ∈ s.conf.inForce.trust, t.key = key → t.isSwitch = false ∧ t.node ≠ node))) = true ∧
    (let s : State := port fun x => { x with state := .prove, proving := some 1 }
    let p : RPort := 0
    decide (s.mgmtUp p = true ∧ (s.rp p).proving.isSome = true)) = true ∧
    (let s : State := port fun x => { x with state := .prove }
    let p : RPort := 0
    decide ((s.rp p).proving = none)) = true ∧
    (let s : State := port fun x => { x with state := .prove, proving := some 999990000000 }
    let p : RPort := 0
    let t : Lea := 999990000000
    decide ((s.rp p).proving = some t ∧ ((s.rp p).state = .prove ∨ (s.rp p).state = .up) ∧ 10000000 ≤ since t s.time.lea)) = true ∧
    (let s : State := port fun x => { x with state := .quarantine, since_ := 999000000000 }
    let p : RPort := 0
    decide ((s.rp p).state = .quarantine ∧ 1000000000 ≤ since ((s.rp p).proving.getD (s.rp p).since_) s.time.lea)) = true ∧
    (let s : State := port fun x => { x with state := .prove, proving := some 1, ourVerdict := true, theirVerdict := true }
    let p : RPort := 0
    decide (Tab.wf s.rport {} = true ∧ (s.rp p).state = .prove ∧ (s.rp p).ourVerdict = true ∧ (s.rp p).theirVerdict = true ∧ s.reelSlots = [])) = true ∧
    (let x : RPortSt := { state := .quarantine }
    decide (x.state = .quarantine)) = true ∧
    (let s : State := port fun x => { x with state := .up }
    let p : RPort := 0
    decide (s.spin.present.get (dieOfPort p) = true ∧ (s.rp p).state = .up)) = true := by
  refine ⟨?_, ?_, ?_, ?_, ?_, ?_, ?_, ?_, ?_, ?_⟩ <;> decide +kernel

theorem test_witness_LinksAreProvenAndFlitsServed_2 :
    (let s : State := port fun x => { x with state := .down }
    let p : RPort := 0
    decide ((s.rp p).state = .down)) = true ∧
    (let x : RPortSt := { state := .up }
    let f : LFlit := { seq := 0, kind := 1 }
    decide (f.kind = 1 ∧ f.seq = x.rxSeq)) = true ∧
    (let x : RPortSt := { state := .up }
    let f : LFlit := { seq := 1, kind := 1 }
    decide (f.seq ≠ x.rxSeq)) = true ∧
    (let x : RPortSt := { state := .up }
    let f : LFlit := { seq := 0, kind := 0 }
    decide (f.kind ≠ 1 ∧ f.seq = x.rxSeq)) = true ∧
    (let x : RPortSt := { state := .up }
    decide (x.state = .up ∧ Tab.wf x.credit 0 = true)) = true ∧
    (let s : State := let a := port fun x => { x with state := .up }; { a with reel := { a.reel with mgmt := [(7, 999999990001)] } }
    let p : RPort := 0
    let src : BitVec 16 := 7
    decide (s.mgmtUp p = true ∧ s.askedNow src = true)) = true ∧
    (let s : State := let a := port fun x => { x with state := .up }; { a with reel := { a.reel with mgmt := [(7, 999999990000)] } }
    let p : RPort := 0
    let src : BitVec 16 := 7
    decide (s.mgmtUp p = true ∧ s.askedNow src = false)) = true ∧
    (let s : State := ready
    decide (s.time.lea.toNat % 10000 = 0)) = true ∧
    (let s : State := { ready with time := { ready.time with lea := 1000000000001 } }
    decide (s.time.lea.toNat % 10000 ≠ 0)) = true := by
  refine ⟨?_, ?_, ?_, ?_, ?_, ?_, ?_, ?_, ?_⟩ <;> decide +kernel

theorem test_witness_RoutesAndPortsAreSet :
    (let s : State := ready
    let c : Cmd := cmd [(24, 65535), (26, 1)]
    let bs : List Byte := [0, 0, 0, 0]
    let a := c.field s 16 8
    let first := c.field s 24 2
    let n := c.field s 26 4
    let k : CmdSpec := { op := 0x0602, named := [(16, 29)], long := true }
    let v : Verdict := { reads := some (a, 4 * n) }
    let es := (List.range n).map fun i => leNat ((bs.drop (4 * i)).take 4)
    decide (Passes s k c v ∧ 1 ≤ n ∧ first + n ≤ 65536 ∧ readSpace s (c.port s) 1 a (4 * n) = some bs ∧ (∀ e ∈ es, s.routeOk e = true))) = true ∧
    (let s : State := ready
    let c : Cmd := cmd []
    let k : CmdSpec := { op := 0x0603, long := true }
    decide (Passes s k c {} ∧ s.reel.drain = none)) = true ∧
    (let s : State := ready
    decide (s.drained = true)) = true ∧
    (let s : State := { ready with reel := { ready.reel with drain := some { what := 1, at_ := 999999950001, cmd := none } } }
    let d : Drain := { what := 1, at_ := 999999950001, cmd := none }
    decide (s.reel.drain = some d ∧ (since d.at_ s.time.lea < 50000 ∨ s.drained = true))) = true ∧
    (let s : State := { ready with reel := { ready.reel with drain := some { what := 1, at_ := 999999950000, cmd := some (cmd []) } }, rport := [(0, { state := .up, present := true, queue := [(0, [pkt 1])] })] }
    let d : Drain := { what := 1, at_ := 999999950000, cmd := some (cmd []) }
    let c : Cmd := cmd []
    decide (s.reel.drain = some d ∧ 50000 ≤ since d.at_ s.time.lea ∧ s.drained = false ∧ d.what = 1 ∧ d.cmd = some c)) = true ∧
    (let s : State := { ready with reel := { ready.reel with drain := some { what := 2, at_ := 999999950000, cmd := some (cmd []) } }, rport := [(0, { state := .up, present := true, queue := [(0, [pkt 1])] })] }
    let d : Drain := { what := 2, at_ := 999999950000, cmd := some (cmd []) }
    let c : Cmd := cmd []
    decide (s.reel.drain = some d ∧ 50000 ≤ since d.at_ s.time.lea ∧ s.drained = false ∧ d.what ≠ 1 ∧ d.cmd = some c)) = true ∧
    (let s : State := ready
    let c : Cmd := cmd [(16, 7), (17, 1)]
    let p := c.field s 16 1
    let gw := c.field s 18 1
    let k : CmdSpec := { op := 0x0604, named := [(16, 18)] }
    decide (Passes s k c {} ∧ p < 8 ∧ c.field s 17 1 ≤ 1 ∧ gw ≤ 1 ∧ decide (gw = 1) = (s.rp p).gateway ∧ (gw = 1 → s.fuse.gateway = true))) = true ∧
    (let s : State := ready
    let c : Cmd := cmd [(16, 7), (17, 1), (18, 1)]
    let p := c.field s 16 1
    let gw := c.field s 18 1
    let k : CmdSpec := { op := 0x0604, named := [(16, 18)], long := true, noJob := true }
    decide (Passes s k c {} ∧ p < 8 ∧ c.field s 17 1 ≤ 1 ∧ gw ≤ 1 ∧ decide (gw = 1) ≠ (s.rp p).gateway ∧ (gw = 1 → s.fuse.gateway = true) ∧ s.reel.drain = none)) = true ∧
    (let s : State := port fun x => { x with state := .down }
    let c : Cmd := cmd []
    let p := c.field s 16 1
    let k : CmdSpec := { op := 0x0605, named := [(16, 16)], long := true }
    decide (Passes s k c {} ∧ p < 8 ∧ (s.rp p).enabled = true ∧ (s.rp p).present = true ∧ (s.rp p).state = .down)) = true ∧
    (let s : State := port fun x => { x with state := .up }
    let c : Cmd := cmd []
    let p := c.field s 16 1
    let k : CmdSpec := { op := 0x0605, named := [(16, 16)], long := true }
    decide (Passes s k c {} ∧ p < 8 ∧ (s.rp p).enabled = true ∧ (s.rp p).present = true ∧ (s.rp p).state ≠ .down)) = true := by
  refine ⟨?_, ?_, ?_, ?_, ?_, ?_, ?_, ?_, ?_, ?_⟩ <;> decide +kernel

theorem test_witness_SupplyFollowsItsTable_1 :
    (let s : State := ready
    let mv : Nat := 46999
    decide (s.pow.supply = .run ∧ (mv < 47000 ∨ s.hold = true))) = true ∧
    (let s : State := ready
    let mv : Nat := 47000
    decide ((s.pow.supply ≠ .run ∨ 47000 ≤ mv ∧ s.hold = false))) = true ∧
    (let s : State := { ready with pow := { ready.pow with supply := .sag, sagAt := 999999900000 } }
    let mv : Nat := 48000
    decide (s.pow.supply = .sag ∧ 48000 ≤ mv ∧ s.hold = false ∧ 100000 ≤ since s.pow.sagAt s.time.lea ∧ 100000 ≤ since (s.obs.line.get {} 2).since_ s.time.lea)) = true ∧
    (let s : State := { ready with pow := { ready.pow with supply := .sag, sagAt := 999999900001 } }
    let mv : Nat := 48000
    decide ((s.pow.supply ≠ .sag ∨ mv < 48000 ∨ s.hold = true ∨ since s.pow.sagAt s.time.lea < 100000 ∨ since (s.obs.line.get {} 2).since_ s.time.lea < 100000))) = true ∧
    (let s : State := ready
    let mv : Nat := 57000
    decide (s.pow.supply.on = true ∧ decide (57000 ≤ mv ∧ mv ≤ 60000) ≠ s.pow.overV)) = true ∧
    (let s : State := ready
    let cause : FailCause := .low 42999
    decide (s.pow.supply.on = true ∧ s.failing cause = true)) = true ∧
    (let s : State := ready
    let cause : FailCause := .overvolt 59999
    decide ((s.pow.supply.on = false ∨ s.failing cause = false))) = true ∧
    (let s : State := { ready with pow := { ready.pow with supply := .fail } }
    decide (s.pow.supply = .fail)) = true ∧
    (let s : State := ready
    decide (s.pow.supply ≠ .off)) = true ∧
    (let s : State := { ready with pow := { ready.pow with supply := .fail } }
    let mv : Nat := 48000
    decide (s.pow.supply = .fail ∧ 48000 ≤ mv ∧ s.level 1 = true)) = true := by
  refine ⟨?_, ?_, ?_, ?_, ?_, ?_, ?_, ?_, ?_, ?_⟩ <;> decide +kernel

theorem test_witness_SupplyFollowsItsTable_2 :
    (let s : State := { ready with pow := { ready.pow with supply := .off } }
    let mv : Nat := 48000
    let levels : BitVec 25 := 2
    decide ((s.pow.supply = .off ∨ s.mod.bringupDue = true) ∧ 48000 ≤ mv ∧ levels.getLsbD 1 = true)) = true ∧
    (let s : State := ready
    decide (s.pow.supply ≠ .off ∧ s.mod.bringupDue = false)) = true ∧
    (let mv : Nat := 47999
    let levels : BitVec 25 := 2
    decide ((mv < 48000 ∨ levels.getLsbD 1 = false) ∧ mv < 48000)) = true ∧
    (let s : State := ready
    decide (s.conf.writePending = false)) = true := by
  refine ⟨?_, ?_, ?_, ?_⟩ <;> decide +kernel

theorem test_witness_CapsAndTemperatureThrottle_1 :
    (let s : State := ready
    let c : Cmd := cmd [(16, 3000), (20, 100)]
    let k : CmdSpec := { op := 0x0702, named := [(16, 20)] }
    decide (Passes s k c {} ∧ 3000 ≤ c.field s 16 4 ∧ c.field s 16 4 ≤ 5000 ∧ 60 ≤ c.field s 20 1 ∧ c.field s 20 1 ≤ 100)) = true ∧
    (let s : State := ready
    let w : Nat := 5001
    decide (s.pow.supply.on = true ∧ s.pow.effective < w)) = true ∧
    (let s : State := ready
    let w : Nat := 5000
    decide (s.pow.supply.on = true ∧ w ≤ s.pow.effective)) = true ∧
    (let s : State := { ready with pow := { ready.pow with level := 1 } }
    let avg : Nat := 4500
    decide (s.pow.supply.on = true ∧ 0 < s.pow.level ∧ 10 * avg ≤ 9 * s.pow.effective ∧ 100000 ≤ since s.pow.stepAt s.time.lea)) = true ∧
    (let s : State := { ready with pow := { ready.pow with level := 1 } }
    let avg : Nat := 4501
    decide ((s.pow.level = 0 ∨ 9 * s.pow.effective < 10 * avg ∨ since s.pow.stepAt s.time.lea < 100000))) = true ∧
    (let s : State := ready
    decide (s.pow.supply.on = true)) = true ∧
    (let p : Pow := { termCap := true }
    decide (p.termCap = true)) = true ∧
    (let p : Pow := {}
    decide (p.termCap = false ∧ p.supply ≠ .sag)) = true ∧
    (let p : Pow := { supply := .sag }
    decide (p.supply = .sag)) = true ∧
    (let s : State := heldS
    let w : Watched := .die 16
    decide (s.warm w = true)) = true := by
  refine ⟨?_, ?_, ?_, ?_, ?_, ?_, ?_, ?_, ?_, ?_⟩ <;> decide +kernel

theorem test_witness_CapsAndTemperatureThrottle_2 :
    (let s : State := heldS
    let w : Watched := .die 15
    decide (s.warm w = false)) = true ∧
    (let s : State := ready
    let d : DieIx := 7
    decide (d.val < 8 ∧ s.mod.state ≠ .held ∧ Tab.wf s.pow.die {} = true)) = true ∧
    (let s : State := { ready with pow := { ready.pow with die := [(0, { zone := 3 })] } }
    let w : Watched := .die 0
    decide (s.pow.supply.on = true ∧ (watched.find? fun w => decide (s.zoneOf w ≥ 3)) = some w)) = true ∧
    (let s : State := ready
    decide ((∀ w ∈ watched, s.zoneOf w < 3))) = true ∧
    (let s : State := { heldS with pow := { heldS.pow with ackPending := true }, obs := { heldS.obs with store := ⟨{ pairs := [(0, some { kind := 3, rseq := 1 }), (1, some { kind := 3, rseq := 2 })] }, {}⟩ } }
    let c : Cmd := cmd [(16, 1)]
    let n := c.field s 16 4
    let k : CmdSpec := { op := 0x0705, named := [(16, 19)], nvm := true, inHeld := true }
    let told := ((accepted s k c {}).modStores fun x => x.ack n).done c .ok
    decide (Passes s k c {} ∧ s.ackable n = true ∧ s.pow.ackPending = true ∧ told.unacked = true)) = true ∧
    (let s : State := { heldS with pow := { heldS.pow with ackPending := true }, obs := { heldS.obs with store := ⟨{ pairs := [(0, some { kind := 3, rseq := 1 })] }, {}⟩ } }
    let c : Cmd := cmd [(16, 1)]
    let n := c.field s 16 4
    let k : CmdSpec := { op := 0x0705, named := [(16, 19)], nvm := true, inHeld := true }
    let told := ((accepted s k c {}).modStores fun x => x.ack n).done c .ok
    decide (Passes s k c {} ∧ s.ackable n = true ∧ s.pow.ackPending = true ∧ told.unacked = false)) = true := by
  refine ⟨?_, ?_, ?_, ?_, ?_, ?_⟩ <;> decide +kernel

theorem test_witness_LinesAndEventsReachTheirTargets :
    (let s : State := ready
    let l : ExtLine := 24
    let b : Bool := false
    decide (s.pow.supply ≠ .off ∧ s.level l.val ≠ b)) = true ∧
    (let s : State := ready
    let l : ExtLine := 24
    let b : Bool := true
    decide ((s.pow.supply = .off ∨ s.level l.val = b))) = true ∧
    (let s : State := ready
    decide (s.pow.supply ≠ .off)) = true ∧
    (let s : State := { ready with pow := { supply := .off } }
    decide (s.pow.supply = .off)) = true ∧
    (let s : State := ({ ready with host := { ready.host with queues := [(2, { state := .active, kind := .event, sizeLog2 := 6 })] } }).modSrc 800 2 fun x => { x with state := .pending }
    let src : Nat := 800
    let n : Nat := 2
    let x : SrcAt := { state := .pending }
    decide (s.pow.supply ≠ .off ∧ s.obs.next 2 = some (src, x) ∧ s.host.eventQueue 0 = some n ∧ (s.queue n).room = true)) = true ∧
    (let s : State := ({ ready with host := { ready.host with queues := [(2, { state := .active, kind := .event, sizeLog2 := 6, tail := 64 })] } }).modSrc 800 2 fun x => { x with state := .pending }
    let src : Nat := 800
    let n : Nat := 2
    let x : SrcAt := { state := .pending }
    decide (s.pow.supply ≠ .off ∧ s.obs.next 2 = some (src, x) ∧ s.host.eventQueue 0 = some n ∧ (s.queue n).room = false)) = true ∧
    (let s : State := ready.modSrc 800 0 fun x => { x with state := .pending }
    let src : Nat := 800
    let x : SrcAt := { state := .pending }
    decide (s.pow.supply ≠ .off ∧ (s.spin.spindle.get 0).state.live = true ∧ s.obs.next 0 = some (src, x))) = true ∧
    (let s : State := ready.modSrc 1023 2 fun x => { x with state := .active }
    let p : Port := 0
    let v : BitVec 64 := 1023
    decide (s.portLive p = true ∧ (s.obs.srcAt (v.toNat % 1024) (2 + p.val)).serving = true)) = true ∧
    (let s : State := ready
    let p : Port := 1
    let v : BitVec 64 := 1024
    decide (s.portLive p = true ∧ (s.obs.srcAt (v.toNat % 1024) (2 + p.val)).serving = false)) = true := by
  refine ⟨?_, ?_, ?_, ?_, ?_, ?_, ?_, ?_, ?_⟩ <;> decide +kernel

theorem test_witness_ModuleResetBootsAndTrains_1 :
    (let s : State := ready
    let c : Cmd := cmd []
    let k : CmdSpec := { op := 0x0102, named := [(16, 16), (24, 31)], long := true, inHeld := true }
    decide (Passes s k c {} ∧ c.field s 16 1 = 0 ∧ s.pow.supply ≠ .shutdown)) = true ∧
    (let s : State := ready
    let c : Cmd := cmd [(16, 2)]
    let k : CmdSpec := { op := 0x0102, named := [(16, 16), (24, 31)], long := true, inHeld := true }
    let l : Nat := 2
    decide (Passes s k c {} ∧ (l = 1 ∨ l = 2) ∧ c.field s 16 1 = l ∧ s.resetRefused (levelDie l) = false)) = true ∧
    (let s : State := ready
    decide (s.mod.state ≠ .held)) = true ∧
    (let s : State := heldS
    decide (s.mod.state = .held)) = true ∧
    (let s : State := { (ready.modSp 1 fun x => { x with passed := some 999990000000 }) with spin := { (ready.modSp 1 fun x => { x with passed := some 999990000000 }).spin with claim := none } }
    let t : Lea := 999990000000
    decide ((s.sp 1).passed = some t ∧ s.spin.claim = none ∧ s.spin.releasing = none ∧ 10000000 ≤ since t s.time.lea)) = true ∧
    (let s : State := { (ready.modSp 1 fun x => { x with passed := some 999990000001 }) with spin := { (ready.modSp 1 fun x => { x with passed := some 999990000001 }).spin with claim := none } }
    let t : Lea := 999990000001
    decide ((s.sp 1).passed = some t ∧ s.spin.claim = none ∧ s.spin.releasing = none ∧ since t s.time.lea < 10000000)) = true ∧
    (let s : State := ready.modSp 1 fun x => { x with state := .boot }
    let d : IoDie := 1
    decide ((s.sp d).state = .boot ∧ s.sec.recovery.get d = false ∧ s.spin.releasing = none ∧ s.spin.claim = some (other d))) = true ∧
    (let s : State := let a := ready.modSp 0 fun x => { x with state := .boot }; { a with spin := { a.spin with claim := none } }
    let d : IoDie := 0
    decide ((s.sp d).state = .boot ∧ s.sec.recovery.get d = false ∧ s.spin.releasing = none ∧ s.spin.claim = none ∧ d = 0)) = true ∧
    (let s : State := let a := ready.modSp 1 fun x => { x with state := .boot }; { a with spin := { a.spin with claim := none } }
    let d : IoDie := 1
    decide ((s.sp d).state = .boot ∧ s.sec.recovery.get d = false ∧ s.spin.releasing = none ∧ s.spin.claim = none ∧ d = 1)) = true ∧
    (let s : State := ready
    let d : IoDie := 0
    decide ((s.sp d).state ≠ .boot)) = true := by
  refine ⟨?_, ?_, ?_, ?_, ?_, ?_, ?_, ?_, ?_, ?_⟩ <;> decide +kernel

theorem test_witness_ModuleResetBootsAndTrains_2 :
    (let s : State := { ready with mod := { ready.mod with state := .booting }, memory := { stack := [(15, { state := .train, since_ := 999500000000 })] } }
    let k : Stack := 15
    decide ((s.stk k).state = .train ∧ s.mod.state = .booting ∧ since (s.stk k).since_ s.time.lea ≤ 500000000)) = true ∧
    (let s : State := { ready with mod := { ready.mod with state := .booting }, memory := { stack := [(15, { state := .train, since_ := 999499999999 })] } }
    let k : Stack := 15
    decide ((s.stk k).state = .train ∧ s.mod.state = .booting ∧ 500000000 < since (s.stk k).since_ s.time.lea)) = true ∧
    (let s : State := ready
    let k : Stack := 0
    decide (((s.stk k).state ≠ .train ∨ s.mod.state ≠ .booting))) = true ∧
    (let s : State := { ready with mod := { ready.mod with state := .booting }, memory := { stack := [(0, { state := .repair, since_ := 998000000000 })] } }
    let k : Stack := 0
    decide ((s.stk k).state = .repair ∧ s.mod.state = .booting ∧ since (s.stk k).since_ s.time.lea ≤ 2000000000)) = true := by
  refine ⟨?_, ?_, ?_, ?_⟩ <;> decide +kernel

theorem test_witness_SpindlePairKeepsOneClaim_1 :
    (let s : State := ready
    let d : IoDie := 1
    decide (((s.sp d).state.live = true ∨ (s.sp d).state = .catchup))) = true ∧
    (let s : State := ready.modSp 1 fun x => { x with state := .failed }
    let d : IoDie := 1
    decide ((s.sp d).state = .failed)) = true ∧
    (let s : State := ready
    let d : IoDie := 0
    decide (s.spin.claim = some d)) = true ∧
    (let s : State := ready
    let a : StepWrites := { writes := [(16, 2)], ends := [] }
    let b : StepWrites := { writes := [], ends := [] }
    decide (s.spin.inStep = true ∧ s.spin.checking = false ∧ digestOf a ≠ digestOf b)) = true ∧
    (let s : State := ready
    let a : StepWrites := { writes := [(16, 2)], ends := [] }
    let b : StepWrites := { writes := [(16, 2)], ends := [] }
    decide (s.spin.inStep = true ∧ s.spin.checking = false ∧ digestOf a = digestOf b)) = true ∧
    (let s : State := { ready with spin := { ready.spin with checking := true } }
    decide ((s.spin.inStep = false ∨ s.spin.checking = true))) = true ∧
    (let s : State := ready
    decide (s.spin.checking = false)) = true ∧
    (let s : State := { ready with spin := { ready.spin with checking := true } }
    decide (s.spin.checking = true ∧ s.spin.holder = 0)) = true ∧
    (let s : State := { ready with spin := { ready.spin with checking := true } }
    decide (s.spin.checking = true ∧ s.mod.state ≠ .held)) = true ∧
    (let s : State := { ready with spin := { ready.spin with claim := none, releasing := some (999999999901, 2, true) } }
    let t0 : Lea := 999999999901
    let n : Nat := 2
    let pl : Bool := true
    decide (s.spin.releasing = some (t0, n, pl) ∧ since t0 s.time.lea < 100)) = true := by
  refine ⟨?_, ?_, ?_, ?_, ?_, ?_, ?_, ?_, ?_, ?_⟩ <;> decide +kernel

theorem test_witness_SpindlePairKeepsOneClaim_2 :
    (let s : State := { ready with spin := { ready.spin with claim := none, releasing := some (1, 2, true) } }
    let t0 : Lea := 1
    let n : Nat := 2
    let pl : Bool := true
    decide (s.spin.releasing = some (t0, n, pl) ∧ 100 ≤ since t0 s.time.lea ∧ (s.sp (other s.spin.holder)).state = .standby)) = true ∧
    (let s : State := let a := ready.modSp 1 fun x => { x with state := .failed }; { a with spin := { a.spin with claim := none, releasing := some (1, 2, true) } }
    let t0 : Lea := 1
    let n : Nat := 2
    let pl : Bool := true
    decide (s.spin.releasing = some (t0, n, pl) ∧ 100 ≤ since t0 s.time.lea ∧ (s.sp (other s.spin.holder)).state ≠ .standby)) = true ∧
    (let s : State := ready.modSp 1 fun x => { x with state := .boot, bootFrom := 998000000000 }
    let d : IoDie := 1
    decide ((s.sp d).state = .boot ∧ (s.sp d).passed = none ∧ 2000000000 ≤ since (s.sp d).bootFrom s.time.lea)) = true ∧
    (let s : State := ready.modSp 1 fun x => { x with state := .boot, bootFrom := 998000000001 }
    let d : IoDie := 1
    decide (since (s.sp d).bootFrom s.time.lea < 2000000000)) = true ∧
    (let s : State := ready.modSp 1 fun x => { x with state := .catchup, bootFrom := 999900000000 }
    let d : IoDie := 1
    decide ((s.sp d).state = .catchup ∧ 4 ≤ s.spin.width ∧ 100000000 ≤ since (s.sp d).bootFrom s.time.lea)) = true ∧
    (let s : State := ready.modSp 1 fun x => { x with state := .catchup }
    let d : IoDie := 1
    decide ((s.sp d).state = .catchup ∧ 4 ≤ s.spin.width ∧ s.spin.claim = some (other d) ∧ s.sec.mismatch = false)) = true ∧
    (let s : State := let a := ready.modSp 1 fun x => { x with state := .catchup }; { a with sec := { a.sec with mismatch := true } }
    decide (s.sec.mismatch = true)) = true ∧
    (let s : State := { ready with spin := { ready.spin with lops := [{ opcode := 0x0102, cmd := cmd [(16, 1)], aux := 2 * 997800000000 }] } }
    let l : LOp := { opcode := 0x0102, cmd := cmd [(16, 1)], aux := 2 * 997800000000 }
    let t : Lea := 997800000000
    decide (s.spReset 0 = some (l, t) ∧ (s.done l.cmd .timeout (result [(16, 4, (s.sp 0).state.code)])).spReset 1 = none ∧ 2200000000 ≤ since t s.time.lea)) = true ∧
    (let s : State := ready
    decide (s.spReset 0 = none ∧ s.spReset 1 = none)) = true ∧
    (let s : State := { ready with spin := { ready.spin with width := 4 } }
    decide (4 ≤ s.spin.width)) = true := by
  refine ⟨?_, ?_, ?_, ?_, ?_, ?_, ?_, ?_, ?_, ?_⟩ <;> decide +kernel

theorem test_witness_SpindlePairKeepsOneClaim_3 :
    (let s : State := { ready with spin := { ready.spin with width := 3 } }
    decide (s.spin.width < 4)) = true ∧
    (let s : State := { ready with spin := { ready.spin with width := 3 }, creel := { ready.creel with lanes := 4 } }
    let e : LinkEnds := { x0 := 4, x1 := 16, rttNs := 20 }
    decide ((s.spin.width < 4 ∨ s.spindleBack = true) ∧ s.spin.present.a = true ∧ s.spin.present.b = true ∧ 4 ≤ min e.x0 e.x1 ∧ 4 ≤ s.creel.lanes)) = true ∧
    (let s : State := ready
    let e : LinkEnds := { x0 := 3, x1 := 16, rttNs := 20 }
    decide ((min e.x0 e.x1 < 4 ∨ 4 ≤ s.spin.width ∧ s.spindleBack = false))) = true ∧
    (let s : State := ready
    let d : IoDie := 1
    decide (s.spin.present.get d = true)) = true ∧
    (let s : State := { ready with spin := { ready.spin with present := ⟨true, false⟩ } }
    let d : IoDie := 1
    decide (s.spin.present.get d = false)) = true ∧
    (let s : State := { ready with spin := { ready.spin with present := ⟨true, false⟩ } }
    let d : IoDie := 1
    decide (s.spin.present.get d = false ∧ s.pow.supply ≠ .off)) = true := by
  refine ⟨?_, ?_, ?_, ?_, ?_, ?_⟩ <;> decide +kernel

theorem test_witness_CalibrationAndAgeingAreKept_1 :
    (let s : State := ready
    let c : Cmd := cmd [(16, 4096)]
    let k : CmdSpec := { op := 0x0802, named := [(16, 23)], long := true }
    decide (Passes s k c {})) = true ∧
    (let s : State := ready
    decide (s.lifeS < 2 ^ 64)) = true ∧
    (let s : State := ready
    let img : List Byte := [0, 0, 0, 0, 0, 0, 0, 0, 1, 0, 0, 0]
    decide (leNat ((img.drop 8).take 4) ≠ s.fuse.serial.toNat)) = true ∧
    (let s : State := heldS
    let c : Cmd := cmd [(16, 4096)]
    let k : CmdSpec := { op := 0x0804, named := [(16, 23)], long := true, inHeld := true }
    decide (Passes s k c {})) = true ∧
    (let s : State := ready
    decide (s.mod.state = .ready)) = true ∧
    (let s : State := heldS
    decide (s.mod.state ≠ .ready)) = true ∧
    (let s : State := ready
    decide (s.powered = true)) = true ∧
    (let s : State := ready
    decide (s.powered = true ∧ s.nvmOpen = true)) = true ∧
    (let s : State := { ready with pow := { ready.pow with tempOk := false } }
    decide (s.powered = true ∧ s.nvmOpen = false)) = true ∧
    (let s : State := { ready with pow := { ready.pow with supply := .fail } }
    decide (s.powered = false)) = true := by
  refine ⟨?_, ?_, ?_, ?_, ?_, ?_, ?_, ?_, ?_, ?_⟩ <;> decide +kernel

theorem test_witness_CalibrationAndAgeingAreKept_2 :
    (let s : State := { ready with cal := { ready.cal with summaries := [{ stagePs := [420] }] } }
    let d : Nat := 0
    decide (s.worstPs d ≤ 420)) = true ∧
    (let s : State := { ready with cal := { ready.cal with summaries := [{ stagePs := [421] }] }, plan := { ready.plan with guard := [(0, 30)] } }
    let d : Nat := 0
    let e : Nat := 1
    decide (420 < s.worstPs d ∧ s.plan.guard.get 0 d < 40 ∧ Tab.wf s.plan.guard 0 = true ∧ e ≠ d)) = true ∧
    (let s : State := { ready with cal := { ready.cal with summaries := [{ stagePs := [421] }] }, plan := { ready.plan with guard := [(0, 40)] } }
    let d : Nat := 0
    decide (420 < s.worstPs d ∧ 40 ≤ s.plan.guard.get 0 d)) = true ∧
    (let s : State := ready
    decide (s.plan.widthCap ≠ 0)) = true ∧
    (let s : State := { ready with plan := { ready.plan with guard := [(7, 40)] } }
    decide (Tab.wf s.plan.guard 0 = true)) = true := by
  refine ⟨?_, ?_, ?_, ?_, ?_⟩ <;> decide +kernel

theorem test_witness_CountersTelemetryAndRecordsAreRead_1 :
    (let s : State := ready
    let c : Cmd := cmd [(16, 0x8FFF)]
    let m := c.field s 16 8
    let v : Verdict := { bad := groupMaskBad m }
    let k : CmdSpec := { op := 0x0A01, named := [(16, 23)], inHeld := true }
    decide (Passes s k c v)) = true ∧
    (let s : State := ready
    let c : Cmd := cmd [(16, 0x8FFF)]
    let m := c.field s 16 8
    let v : Verdict := { bad := groupMaskBad m }
    let k : CmdSpec := { op := 0x0A02, named := [(16, 23)], inHeld := true }
    decide (Passes s k c v)) = true ∧
    (let s : State := ready
    let g : Nat := 0
    let a : Nat := ctrBase 0
    decide (g ≠ 15 ∧ inGroup g a = true ∧ Tab.wf s.obs.counters 0 = true ∧ Tab.wf s.obs.shadows 0 = true)) = true ∧
    (let s : State := ready
    let g : Nat := 0
    let a : Nat := ctrEnd 0
    decide (inGroup g a = false ∧ Tab.wf s.obs.counters 0 = true)) = true ∧
    (let s : State := ready
    let c : Cmd := cmd [(16, 4), (20, 10000000), (24, 65536)]
    let n := c.field s 16 1
    let v : Verdict := { bad := streamBad s.fuse.cmap n (c.field s 20 4) (c.field s 24 8) }
    let k : CmdSpec := { op := 0x0A03, named := [(16, 16), (20, 31)] }
    decide (Passes s k c v)) = true ∧
    (let s : State := heldS
    let c : Cmd := cmd [(16, 4)]
    let n := c.field s 16 1
    let v : Verdict := { bad := if n > 4 then some 16 else none }
    let k : CmdSpec := { op := 0x0A04, named := [(16, 16)], inHeld := true }
    decide (Passes s k c v)) = true ∧
    (let s : State := ready
    let n : Nat := 4
    let x := s.obs.streams.get {} n
    decide ((x.running = false ∨ s.powered = false ∨ s.time.lea.toNat % (1000 * x.periodUs) ≠ 0))) = true ∧
    (let s : State := { ready with obs := { ready.obs with streams := [(4, { running := true, periodUs := 1000000, target := 65536 })] } }
    let n : Nat := 4
    let x := s.obs.streams.get {} n
    decide (x.running = true ∧ s.powered = true ∧ s.time.lea.toNat % (1000 * x.periodUs) = 0 ∧ x.target.msb = false ∧ (s.mems.host x.port).wf = true ∧ n ≤ 4)) = true ∧
    (let n : Nat := 4
    decide (n ≤ 4)) = true ∧
    (let s : State := heldS
    let c : Cmd := cmd [(16, 1), (24, 4096)]
    let d : IoDie := 1
    let v : Verdict := { state := !s.spin.present.get d }
    let k : CmdSpec := { op := 0x0A05, named := [(16, 16), (24, 31)], long := true, inHeld := true }
    decide (c.field s 16 1 = d.val ∧ Passes s k c v)) = true := by
  refine ⟨?_, ?_, ?_, ?_, ?_, ?_, ?_, ?_, ?_, ?_⟩ <;> decide +kernel

theorem test_witness_CountersTelemetryAndRecordsAreRead_2 :
    (let s : State := heldS
    let c : Cmd := cmd [(16, 5)]
    let k : CmdSpec := { op := 0x0A06, named := [(16, 19)], long := true, nvm := true, inHeld := true }
    decide (Passes s k c {})) = true ∧
    (let r : Rec := { kind := 3, rseq := 5 }
    decide (r.kind = 3 ∧ r.acked = false)) = true ∧
    (let r : Rec := { rseq := 6 }
    let n : BitVec 32 := 5
    decide (r.rseq ≠ n ∧ before32 r.rseq n = false)) = true ∧
    (let r : Rec := { kind := 3, rseq := 5, acked := true }
    let n : BitVec 32 := 5
    decide (r.rseq = n ∧ (r.kind ≠ 3 ∨ r.acked = true))) = true := by
  refine ⟨?_, ?_, ?_, ?_⟩ <;> decide +kernel

theorem test_witness_CardingPassRunsPairByPair_1 :
    (let s : State := ready
    let c : Cmd := cmd [(16, 1), (18, 3)]
    let ds := pairsOf (c.field s 18 2)
    let k : CmdSpec := { op := 0x0B01, named := [(16, 16), (18, 19)], long := true, noJob := true }
    let v : Verdict := { state := !ds.all fun d => (halves d).all fun r => decide ((s.reg r).state = .ready) }
    decide (c.field s 16 1 ≤ 1 ∧ Passes s k c v)) = true ∧
    (let s : State := ready
    decide (Tab.wf s.region {} = true)) = true ∧
    (let s : State := { ready with spin := { ready.spin with lops := [{ opcode := 0x0B01, cmd := cmd [] }] }, card := { ready.card with todo := [7] } }
    let d : Fin 8 := 7
    let l : LOp := { opcode := 0x0B01, cmd := cmd [] }
    let rest : List Nat := []
    decide (s.carding = some l ∧ s.card.todo = d.val :: rest ∧ rest = [])) = true ∧
    (let s : State := { ready with spin := { ready.spin with lops := [{ opcode := 0x0B01, cmd := cmd [] }] }, card := { ready.card with todo := [0, 7] } }
    let d : Fin 8 := 0
    let l : LOp := { opcode := 0x0B01, cmd := cmd [] }
    let rest : List Nat := [7]
    let f : Nat := 7
    let fs : List Nat := []
    decide (s.carding = some l ∧ s.card.todo = d.val :: rest ∧ rest = f :: fs)) = true ∧
    (let s : State := { ready with card := { ready.card with todo := [0, 7] } }
    let d : Fin 8 := 7
    let e : Nat := 0
    let rest : List Nat := [7]
    decide (s.card.todo = e :: rest ∧ e ≠ d.val)) = true ∧
    (let s : State := ready
    let r : Fin 16 := 15
    let a : Nat := 8589934591
    decide (s.mems.sram.wf = true ∧ (r.val * 268435456 ≤ a ∧ a < (r.val + 1) * 268435456) ∨ (4294967296 + r.val * 268435456 ≤ a ∧ a < 4294967296 + (r.val + 1) * 268435456))) = true ∧
    (let s : State := ready
    let r : Fin 16 := 1
    let a : Nat := 268435455
    decide (s.mems.sram.wf = true ∧ a < r.val * 268435456)) = true ∧
    (let s : State := ready
    let r : Fin 16 := 14
    let a : Nat := 4294967295
    decide (s.mems.sram.wf = true ∧ (r.val + 1) * 268435456 ≤ a ∧ a < 4294967296)) = true ∧
    (let s : State := { ready with card := { ready.card with entries := List.replicate 4095 { unit_ := 1, action := 0, pending := false, index := 0, address := 0, bit := 0, spareLeft := 0, stamp := 0 } } }
    decide (s.card.entries.length < 4096)) = true ∧
    (let s : State := { ready with card := { ready.card with entries := List.replicate 4096 { unit_ := 1, action := 0, pending := false, index := 0, address := 0, bit := 0, spareLeft := 0, stamp := 0 } } }
    decide (4096 ≤ s.card.entries.length)) = true := by
  refine ⟨?_, ?_, ?_, ?_, ?_, ?_, ?_, ?_, ?_, ?_⟩ <;> decide +kernel

theorem test_witness_CardingPassRunsPairByPair_2 :
    (let s : State := { ready with card := { ready.card with entries := List.replicate 4096 { unit_ := 1, action := 0, pending := false, index := 0, address := 0, bit := 0, spareLeft := 0, stamp := 0 } } }
    let f : CardFail := { unit_ := 0x11, index := 0, spare := 4 }
    decide (1 ≤ cardAction s.card.used f ∧ cardAction s.card.used f ≤ 4)) = true ∧
    (let s : State := { ready with spin := { ready.spin with lops := [{ opcode := 0x0B01, cmd := cmd [] }] }, card := { ready.card with todo := [7] }, pow := { ready.pow with die := [(7, { zone := 2 })] } }
    let d : Fin 8 := 7
    let l : LOp := { opcode := 0x0B01, cmd := cmd [] }
    let rest : List Nat := []
    decide (s.carding = some l ∧ s.card.todo = d.val :: rest ∧ (2 ≤ (s.die d.val).zone ∨ 2 ≤ (s.die d.val).skeinZone))) = true ∧
    (let s : State := { ready with pow := { ready.pow with die := [(7, { zone := 1 })] } }
    let d : Fin 8 := 7
    decide ((s.die d.val).zone < 2 ∧ (s.die d.val).skeinZone < 2)) = true ∧
    (let s : State := { heldS with card := { heldS.card with present := true } }
    let c : Cmd := cmd [(16, 4096)]
    let k : CmdSpec := { op := 0x0B02, named := [(16, 23)], long := true, inHeld := true }
    let v : Verdict := { state := !s.card.present }
    decide (Passes s k c v)) = true := by
  refine ⟨?_, ?_, ?_, ?_⟩ <;> decide +kernel

theorem test_witness_FirmwareAndTestAccessAreGuarded_1 :
    (let s : State := heldS
    let c : Cmd := cmd [(16, 4096)]
    let k : CmdSpec := { op := 0x0902, named := [(16, 55)], long := true, inHeld := true }
    decide (Passes s k c {})) = true ∧
    (let nonce : List Byte := List.replicate 32 0
    decide (nonce.length = 32)) = true ∧
    (let s : State := { signing fwParams with mems := { (signing fwParams).mems with hbm := Memory.write (signing fwParams).mems.hbm 8192 fwBytes } }
    let c : Cmd := signedCmd 80
    let sig : Bool := true
    let fw : FwRead := {}
    let img := (s.fwImage c).getD []
    let signed := s.signedBy c 1 sig && fw.sigOk
    let k : CmdSpec := { op := 0x0903, named := [(16, 28), (32, 95)], long := true, noJob := true, nvm := true, blockForm := true }
    let v : Verdict := { bad := s.fwBad c fw.sigOk, needSig := true, sigOk := signed && s.fwHeaderOk img, quiet := signed, reads := if c.field s 28 1 = 1 then some (c.field s 16 8, c.field s 24 4) else none }
    decide (Passes s k c v)) = true ∧
    (let s : State := { ready with sec := { ready.sec with recovery := ⟨false, true⟩ } }
    let d : IoDie := 1
    let fw : FwRead := {}
    decide (s.sec.recovery.get d = true ∧ s.nvmOpen = true ∧ s.pow.supply.on = true ∧ s.fwVerifies fw = true)) = true ∧
    (let s : State := { ready with sec := { ready.sec with recovery := ⟨false, true⟩ } }
    let d : IoDie := 1
    let fw : FwRead := { sigOk := false }
    decide (s.sec.recovery.get d = true ∧ s.nvmOpen = true ∧ s.pow.supply.on = true ∧ s.fwVerifies fw = false)) = true ∧
    (let s : State := ready
    let d : IoDie := 1
    decide ((s.sec.recovery.get d = false ∨ s.nvmOpen = false ∨ s.pow.supply.on = false))) = true ∧
    (let s : State := signing [0]
    let c : Cmd := signedCmd 1
    let sig : Bool := true
    let k : CmdSpec := { op := 0x0904, long := true, noJob := true, nvm := true, blockForm := true }
    let v : Verdict := { needSig := true, sigOk := s.signedBy c 1 sig }
    decide (Passes s k c v)) = true ∧
    (let s : State := { ready with fuse := { ready.fuse with testLock := ⟨false, true⟩ } }
    decide (s.locked = true)) = true ∧
    (let s : State := ready
    let c : Cmd := cmd [(16, 255)]
    let k : CmdSpec := { op := 0x0905, named := [(16, 63)], noJob := true }
    let v : Verdict := { denied := s.locked }
    decide (Passes s k c v)) = true ∧
    (let s : State := { ready with pow := { ready.pow with supply := .off } }
    let d : IoDie := 1
    decide ((s.spin.present.get d = false ∨ s.pow.supply = .off))) = true := by
  refine ⟨?_, ?_, ?_, ?_, ?_, ?_, ?_, ?_, ?_, ?_⟩ <;> decide +kernel

theorem test_witness_FirmwareAndTestAccessAreGuarded_2 :
    (let s : State := ready
    let d : IoDie := 1
    decide (s.spin.present.get d = true ∧ s.pow.supply ≠ .off)) = true := by
  decide +kernel

theorem test_witness_LightIsMeasuredAndJudged_1 :
    (let s : State := ready
    let n : Loop := 127
    decide ((s.loopSt n).state.fed = false)) = true ∧
    (let s : State := lit
    let n : Loop := 127
    let w : LightMeas := { powers := [-100], totalDrop := 1001 }
    decide ((s.loopSt n).state.fed = true ∧ 1000 < w.totalDrop)) = true ∧
    (let s : State := lit.modLight 127 fun x => { x with below := 1 }
    let n : Loop := 127
    let w : LightMeas := { powers := [-100, -350], totalDrop := 1000 }
    let lv := s.weakest n w.powers
    let x := s.light.loop.get {} n.val
    decide ((s.loopSt n).state.fed = true ∧ w.totalDrop ≤ 1000 ∧ lv.1 ≤ -250 ∧ 1 ≤ x.below)) = true ∧
    (let s : State := lit.modLight 127 fun x => { x with below := 1 }
    let n : Loop := 127
    let w : LightMeas := { powers := [-100, -349], totalDrop := 1000 }
    let lv := s.weakest n w.powers
    let x := s.light.loop.get {} n.val
    decide ((s.loopSt n).state.fed = true ∧ w.totalDrop ≤ 1000 ∧ (-250 < lv.1 ∨ x.below = 0))) = true ∧
    (let s : State := lit.modLight 5 fun x => { x with windows := List.replicate 10 (-100) }
    let n : Nat := 5
    let a : Int := -100
    decide ((s.light.loop.get {} n).average = some a ∧ Tab.wf s.light.loop {} = true ∧ a ≤ -100 ∧ -150 < a)) = true ∧
    (let s : State := lit.modLight 5 fun x => { x with windows := List.replicate 10 (-70) }
    let n : Nat := 5
    let a : Int := -70
    decide ((s.light.loop.get {} n).average = some a ∧ Tab.wf s.light.loop {} = true ∧ -70 ≤ a)) = true ∧
    (let s : State := lit.modLight 5 fun x => { x with windows := List.replicate 10 (-99) }
    let n : Nat := 5
    let a : Int := -99
    decide ((s.light.loop.get {} n).average = some a ∧ Tab.wf s.light.loop {} = true ∧ -100 < a ∧ a < -70)) = true ∧
    (let s : State := lit.modLight 5 fun x => { x with windows := List.replicate 10 (-149) }
    let n : Nat := 5
    let a : Int := -149
    let m : Nat := 6
    decide ((s.light.loop.get {} n).average = some a ∧ Tab.wf s.light.loop {} = true ∧ -150 < a ∧ m ≠ n)) = true ∧
    (let s : State := lit.modLight 5 fun x => { x with windows := List.replicate 9 0 }
    let n : Nat := 5
    decide (((s.light.loop.get {} n).windows.length < 10))) = true ∧
    (let s : State := lit
    let n : Loop := 0
    decide ((s.loopSt n).state.fed = true)) = true := by
  refine ⟨?_, ?_, ?_, ?_, ?_, ?_, ?_, ?_, ?_, ?_⟩ <;> decide +kernel

theorem test_witness_LightIsMeasuredAndJudged_2 :
    (let s : State := ready.modCage 9 fun x => { x with present := true }
    let k : Cage := 9
    decide ((s.cage k).faultPin = false ∧ (s.cage k).present = true)) = true ∧
    (let s : State := ready
    let k : Cage := 9
    decide (((s.cage k).faultPin = true ∨ (s.cage k).present = false))) = true ∧
    (let s : State := ready
    let c : Cmd := cmd []
    let pw : List LinePower := [⟨127, false, [-100]⟩]
    let k : CmdSpec := { op := 0x0810, long := true, noJob := true, nvm := true }
    decide (Passes s k c {} ∧ (∀ p ∈ pw, ∀ x ∈ p.powers, -100 ≤ x))) = true ∧
    (let s : State := ready
    let c : Cmd := cmd []
    let pw : List LinePower := [⟨127, true, [-101]⟩]
    let k : CmdSpec := { op := 0x0810, long := true, noJob := true, nvm := true }
    decide (Passes s k c {} ∧ shortLoops pw ≠ [])) = true ∧
    (let s : State := ready.modCage 9 fun x => { x with misses := 2, mgmtOk := true }
    let k : Cage := 9
    decide (Tab.wf s.light.cage {} = true ∧ (s.cage k).misses = 2 ∧ (s.cage k).mgmtOk = true)) = true ∧
    (let s : State := ready
    let k : Cage := 0
    decide (s.spin.present.get (dieOfCage k) = true ∧ Tab.wf s.light.cage {} = true)) = true ∧
    (let s : State := ((lit.modLight 5 fun x => { x with windows := List.replicate 10 (-150) }).modLoop 5 fun x => { x with state := .withdrawn })
    let n : Nat := 5
    let a : Int := -150
    decide ((s.light.loop.get {} n).average = some a ∧ (s.loopSt n).state = .withdrawn ∧ a ≤ -150)) = true ∧
    (let s : State := ((lit.modLight 5 fun x => { x with windows := List.replicate 10 (-149) }).modLoop 5 fun x => { x with state := .withdrawn })
    let n : Nat := 5
    let a : Int := -149
    decide ((s.light.loop.get {} n).average = some a ∧ (s.loopSt n).state = .withdrawn ∧ -150 < a)) = true ∧
    (let s : State := lit
    let n : Nat := 5
    decide (((s.loopSt n).state ≠ .withdrawn ∨ (s.light.loop.get {} n).windows.length < 10))) = true := by
  refine ⟨?_, ?_, ?_, ?_, ?_, ?_, ?_, ?_, ?_⟩ <;> decide +kernel

theorem test_witness_GroupsAreHandedOver_1 :
    (let s : State := (ready.modGrp 7 fun x => { x with state := .arming }).modCage 9 fun x => { x with state := .ready }
    let g : Group := 7
    decide ((s.grp g).state = .arming ∧ (s.cage (s.targetCage g)).state ≠ .fault ∧ (s.cage (s.targetCage g)).state ≠ .absent)) = true ∧
    (let s : State := (ready.modGrp 7 fun x => { x with state := .arming }).modCage 9 fun x => { x with state := .fault }
    let g : Group := 7
    decide (((s.grp g).state ≠ .arming ∨ (s.cage (s.targetCage g)).state = .fault))) = true ∧
    (let s : State := ready.modGrp 7 fun x => { x with state := .arming, changedAt := 999995000001 }
    let g : Group := 7
    decide ((s.grp g).state = .arming ∧ since (s.grp g).changedAt s.time.lea < 5000000)) = true ∧
    (let s : State := ready.modGrp 7 fun x => { x with state := .arming, changedAt := 999995000000 }
    let g : Group := 7
    decide ((s.grp g).state = .arming ∧ 5000000 ≤ since (s.grp g).changedAt s.time.lea ∧ (s.grp g).returning = false)) = true ∧
    (let s : State := ready.modGrp 7 fun x => { x with state := .arming, changedAt := 999995000000, returning := true }
    let g : Group := 7
    decide ((s.grp g).state = .arming ∧ 5000000 ≤ since (s.grp g).changedAt s.time.lea ∧ (s.grp g).returning = true)) = true ∧
    (let s : State := ready.modGrp 0 fun x => { x with state := .waiting }
    let g : Group := 0
    decide ((s.grp g).state = .waiting ∧ s.creel.run = none)) = true ∧
    (let s : State := (running table0 { handle := 0, base := 0 }).modGrp 0 fun x => { x with state := .waiting }
    let g : Group := 0
    let r : Run := { handle := 0, base := 0 }
    decide ((s.grp g).state = .waiting ∧ s.creel.run = some r ∧ s.gapAt r g = false)) = true ∧
    (let s : State := (running table0 { handle := 0, base := 0, armed := true }).modGrp 0 fun x => { x with state := .waiting }
    let g : Group := 0
    let r : Run := { handle := 0, base := 0, armed := true }
    decide ((s.grp g).state = .waiting ∧ s.creel.run = some r ∧ s.gapAt r g = true)) = true ∧
    (let s : State := ready.modGrp 0 fun x => { x with state := .waiting, changedAt := 999980000001 }
    let g : Group := 0
    decide ((s.grp g).state = .waiting ∧ since (s.grp g).changedAt s.time.lea < 1000000 * s.light.waitMs)) = true ∧
    (let s : State := ready.modGrp 0 fun x => { x with state := .waiting, changedAt := 999980000000 }
    let g : Group := 0
    decide ((s.grp g).state = .waiting ∧ 1000000 * s.light.waitMs ≤ since (s.grp g).changedAt s.time.lea)) = true := by
  refine ⟨?_, ?_, ?_, ?_, ?_, ?_, ?_, ?_, ?_, ?_⟩ <;> decide +kernel

theorem test_witness_GroupsAreHandedOver_2 :
    (let s : State := ready
    let g : Group := 0
    decide ((s.grp g).state ≠ .waiting)) = true ∧
    (let s : State := ready.modGrp 0 fun x => { x with state := .transfer }
    let g : Group := 0
    decide ((s.grp g).state = .transfer)) = true ∧
    (let s : State := ready
    let g : Group := 0
    decide ((s.grp g).state ≠ .transfer)) = true ∧
    (let s : State := ready
    let g : Nat := 7
    decide (Tab.wf s.light.group {} = true ∧ (s.grp g).returning = false)) = true ∧
    (let s : State := ready.modGrp 7 fun x => { x with state := .arming, returning := true }
    let g : Nat := 7
    decide (Tab.wf s.light.group {} = true ∧ (s.grp g).returning = true)) = true ∧
    (let s : State := ready
    let g : Nat := 7
    let h : Nat := 6
    decide (Tab.wf s.light.group {} = true ∧ h ≠ g)) = true ∧
    (let s : State := (ready.modGrp 7 fun x => { x with state := .standby }).modCage 7 fun x => { x with state := .ready, mgmtOk := true }
    let c : Cmd := cmd [(16, 7)]
    let g := c.field s 16 1
    let k : CmdSpec := { op := 0x0811, named := [(16, 16)], long := true }
    let v : Verdict := { busy := if (s.spin.lops.any fun l => decide (l.opcode = 0x0811) && decide (l.aux = g)) || !(s.cage g).mgmtOk then some 0 else none }
    decide (g < 8 ∧ (s.grp g).state = .standby ∧ (s.cage g).state = .ready ∧ Passes s k c v)) = true := by
  refine ⟨?_, ?_, ?_, ?_, ?_, ?_, ?_⟩ <;> decide +kernel

theorem test_witness_DoorbellsAreTakenFromTheirPort_1 :
    (let s : State := ready
    let p : Port := 1
    let q : Queue := 0
    let x := s.queue q.val
    decide (s.portLive p = true ∧ (x.state = .free ∨ x.port ≠ p))) = true ∧
    (let s : State := ready.modQueue 0 fun x => { x with state := .error }
    let p : Port := 0
    let q : Queue := 0
    let x := s.queue q.val
    decide (s.portLive p = true ∧ x.state ≠ .free ∧ x.port = p ∧ x.state ≠ .active)) = true ∧
    (let s : State := ready
    let p : Port := 0
    let q : Queue := 0
    let i : BitVec 32 := 65
    let x := s.queue q.val
    decide (s.portLive p = true ∧ x.state = .active ∧ x.port = p ∧ 2 ^ x.sizeLog2 < (i - x.head).toNat ∧ x.kind = .command)) = true ∧
    (let s : State := ready.modQueue 0 fun x => { x with kind := .dataMover }
    let p : Port := 0
    let q : Queue := 0
    let i : BitVec 32 := 65
    let x := s.queue q.val
    decide (s.portLive p = true ∧ x.state = .active ∧ x.port = p ∧ 2 ^ x.sizeLog2 < (i - x.head).toNat ∧ x.kind = .dataMover)) = true ∧
    (let s : State := ready.modQueue 0 fun x => { x with kind := .dataMover }
    let p : Port := 0
    let q : Queue := 0
    let i : BitVec 32 := 64
    let x := s.queue q.val
    decide (s.portLive p = true ∧ x.state = .active ∧ x.port = p ∧ (i - x.head).toNat ≤ 2 ^ x.sizeLog2 ∧ x.kind = .dataMover)) = true ∧
    (let s : State := ready
    let p : Port := 0
    let q : Queue := 0
    let i : BitVec 32 := 64
    let x := s.queue q.val
    decide (s.portLive p = true ∧ x.state = .active ∧ x.port = p ∧ (i - x.head).toNat ≤ 2 ^ x.sizeLog2 ∧ x.kind = .command ∧ s.mod.state ≠ .booting)) = true ∧
    (let s : State := { ready with mod := { ready.mod with state := .booting } }
    let p : Port := 0
    let q : Queue := 0
    let i : BitVec 32 := 64
    let x := s.queue q.val
    decide (s.portLive p = true ∧ x.state = .active ∧ x.port = p ∧ (i - x.head).toNat ≤ 2 ^ x.sizeLog2 ∧ x.kind = .command ∧ s.mod.state = .booting)) = true ∧
    (let s : State := ready
    let p : Port := 0
    let q : Queue := 1
    let i : BitVec 32 := 0
    let x := s.queue q.val
    decide (s.portLive p = true ∧ x.state = .active ∧ x.port = p ∧ (x.kind = .completion ∨ x.kind = .event) ∧ (x.tail - i).toNat ≤ 2 ^ x.sizeLog2)) = true ∧
    (let s : State := { ready with host := { ready.host with ports := ⟨{}, {}⟩ } }
    let p : Port := 1
    decide (s.portLive p = false)) = true ∧
    (let s : State := ready
    let n : Nat := 0
    let m : Nat := 1
    decide (Tab.wf s.host.queues {} = true ∧ (s.queue n).state = .active ∧ s.ringReaches (s.queue n) = true ∧ m ≠ n)) = true := by
  refine ⟨?_, ?_, ?_, ?_, ?_, ?_, ?_, ?_, ?_, ?_⟩ <;> decide +kernel

theorem test_witness_DoorbellsAreTakenFromTheirPort_2 :
    (let s : State := ready.modQueue 0 fun x => { x with state := .free }
    let k : Fin 4 := 0
    let w : BitVec 64 := 1281
    decide (s.portLive (ringPort k) = true ∧ w.getLsbD 0 = true ∧ w.toNat / 128 % 16 ≤ 10 ∧ (s.queue k.val).state ≠ .draining ∧ (s.host.adminRing.get 0 k.val).getLsbD 0 = false ∧ Tab.wf s.host.queues {} = true)) = true ∧
    (let s : State := ready
    let p : Port := 1
    let k : Fin 4 := 0
    let w : BitVec 64 := 1
    decide (s.portLive p = true ∧ p ≠ ringPort k ∧ w.getLsbD 0 = true)) = true ∧
    (let s : State := ready
    let p : Port := 1
    let k : Fin 4 := 1
    let w : BitVec 64 := 0
    decide (s.portLive p = true ∧ p ≠ ringPort k ∧ w.getLsbD 0 = false)) = true ∧
    (let s : State := { ready with host := { ready.host with adminRing := [(0, 129)] } }
    let k : Fin 4 := 0
    let w : BitVec 64 := 128
    decide (s.portLive (ringPort k) = true ∧ w.getLsbD 0 = false ∧ (s.host.adminRing.get 0 k.val).getLsbD 0 = true ∧ placement (s.host.adminRing.get 0 k.val) = placement w ∧ (s.queue k.val).state = .active)) = true := by
  refine ⟨?_, ?_, ?_, ?_⟩ <;> decide +kernel

theorem test_witness_DistaffsReleaseInStampOrder :
    (let s : State := { ready with spin := { ready.spin with width := 4 } }
    let d : IoDie := 1
    decide (s.spin.present.get d = true ∧ 4 ≤ s.spin.width)) = true ∧
    (let s : State := { ready with spin := { ready.spin with width := 3 } }
    decide (s.spin.width < 4)) = true ∧
    (let s : State := ready
    let d : IoDie := 1
    decide (s.spin.present.get d = true ∧ s.mod.state ≠ .booting)) = true ∧
    (let s : State := { ready with mod := { ready.mod with state := .booting } }
    let d : IoDie := 1
    decide ((s.spin.present.get d = false ∨ s.mod.state = .booting))) = true ∧
    (let e : Stamped := { queue := 0, stamp := 5, entry := [0, 1] ++ List.replicate 62 0 }
    decide (opcodeAssigned e.opcode = true)) = true ∧
    (let s : State := ready
    let e : Stamped := { queue := 0, stamp := 5, entry := List.replicate 64 0 }
    decide (opcodeAssigned e.opcode = false ∧ Executes s ∧ s.muted e.cmd = false ∧ s.cutOff e.cmd = false ∧ seqNew (s.queue e.cmd.queue.val) e.cmd.seq = true ∧ (e.cmd.deadline = 0 ∨ before e.cmd.stamp e.cmd.deadline = true))) = true ∧
    (let s : State := ready
    let e : Stamped := { queue := 1, stamp := 5, entry := [] }
    let x : Stamped := { queue := 0, stamp := 5, entry := [] }
    decide (s.mergedLe x e = true)) = true ∧
    (let s : State := ready
    let e : Stamped := { queue := 0, stamp := 5, entry := [] }
    let x : Stamped := { queue := 1, stamp := 5, entry := [] }
    decide (s.mergedLe x e = false)) = true ∧
    (let e : Stamped := { queue := 0, stamp := 5, entry := List.replicate 64 0 }
    decide (e.entry.length = 64)) = true := by
  refine ⟨?_, ?_, ?_, ?_, ?_, ?_, ?_, ?_, ?_⟩ <;> decide +kernel

theorem test_witness_HostWindowsReachTheirBytes_1 :
    (let s : State := ready
    let p : Port := 1
    let off : Nat := 0x3FFFFF8
    decide (s.portLive p = true ∧ plainOffset off = true ∧ doorbellOffset off = false ∧ regOwner off = none)) = true ∧
    (let s : State := ready
    let p : Port := 1
    let off : Nat := 0x200
    let q : Port := 0
    decide (s.portLive p = true ∧ plainOffset off = true ∧ doorbellOffset off = false ∧ regOwner off = some q ∧ q ≠ p)) = true ∧
    (let s : State := ready
    let p : Port := 1
    let off : Nat := 0x3FFFFFF
    decide (s.portLive p = true ∧ off < 0x4000000)) = true ∧
    (let s : State := ready
    let p : Port := 1
    let q : Port := 0
    decide (s.portLive p = true ∧ p ≠ q)) = true ∧
    (let s : State := ready
    let p : Port := 1
    let v : BitVec 64 := 1
    let off := v.toNat % 2 ^ 40
    decide (s.portLive p = true ∧ off % (s.host.ports.get p).bar2Size ≠ 0)) = true ∧
    (let s : State := ready
    let p : Port := 1
    let v : BitVec 64 := 0x400000000
    let off := v.toNat % 2 ^ 40
    decide (s.portLive p = true ∧ off % (s.host.ports.get p).bar2Size = 0)) = true ∧
    (let s : State := ready
    let p : Port := 1
    let off : Nat := 0x87FFC
    decide (s.portLive p = true ∧ 0x80000 ≤ off ∧ off < 0x88000 ∧ off % 4 = 0)) = true ∧
    (let s : State := ready
    let p : Port := 1
    let off : Nat := 0x80000
    decide (s.portLive p = true ∧ 0x80000 ≤ off ∧ off < 0x88000 ∧ off % 8 = 0)) = true ∧
    (let s : State := ready
    let p : Port := 1
    let off : Nat := 0x80001
    decide (s.portLive p = true ∧ 0x80000 ≤ off ∧ off < 0x88000 ∧ off % 4 ≠ 0)) = true ∧
    (let off : Nat := 0xC00F8
    decide (0xC0000 ≤ off ∧ off < 0xC0100 ∧ off % 8 = 0)) = true := by
  refine ⟨?_, ?_, ?_, ?_, ?_, ?_, ?_, ?_, ?_, ?_⟩ <;> decide +kernel

end Sys2Proof.Tests
end

