-- ==== Sys2Proof/Tests/Witness3.lean ====
section
/-! SUPPORT. Witnesses: for each statement of Certificates/Slice0/Obligations.lean, small states and operands
that meet the hypotheses of its clauses, each clause on its own, at the edge of a range where there is one. -/

set_option Elab.async false

namespace Sys2Proof.Tests

open Sys2Proof Sys2Proof.Machine

theorem test_witness_HostWindowsReachTheirBytes_2 :
    (let s : State := ready
    let p : Port := 1
    let off : Nat := 127
    let len : Nat := 2
    decide (s.portLive p = true ∧ s.inBar2 p off len = true ∧ s.bar2Place p off len = .reserved)) = true ∧
    (let s : State := ready
    let p : Port := 1
    let off : Nat := 0x3FFFFFFFF
    let len : Nat := 1
    decide (s.portLive p = true ∧ s.inBar2 p off len = true ∧ s.bar2Place p off len ≠ .reserved ∧ s.devBad (s.bar2Place p off len) len = [])) = true ∧
    (let s : State := { ready with mems := { ready.mems with hbmPoison := [(0, true)] } }
    let p : Port := 1
    let off : Nat := 127
    let len : Nat := 1
    decide (s.portLive p = true ∧ s.inBar2 p off len = true ∧ s.bar2Place p off len ≠ .reserved ∧ s.devBad (s.bar2Place p off len) len ≠ [])) = true ∧
    (let s : State := ready
    let p : Port := 1
    let off : Nat := 0
    let len : Nat := 128
    let a : Nat := 0
    decide (s.portLive p = true ∧ s.inBar2 p off len = true ∧ s.bar2Place p off len = .hbm a)) = true ∧
    (let s : State := overSram
    let p : Port := 0
    let off : Nat := 8
    let len : Nat := 8
    let a : Nat := 8
    decide (s.portLive p = true ∧ s.inBar2 p off len = true ∧ s.bar2Place p off len = .sram a)) = true ∧
    (let s : State := ready
    let p : Port := 1
    let off : Nat := 127
    let d : List (Option Byte) := [none, none]
    decide (s.portLive p = true ∧ s.inBar2 p off d.length = true ∧ s.bar2Place p off d.length = .reserved)) = true ∧
    (let s : State := ready
    let p : Port := 1
    let off : Nat := 127
    let d : List (Option Byte) := [none]
    let a : Nat := 127
    decide (s.portLive p = true ∧ s.inBar2 p off d.length = true ∧ s.bar2Place p off d.length = .hbm a)) = true ∧
    (let s : State := overSram
    let p : Port := 0
    let off : Nat := 0
    let d : List (Option Byte) := List.replicate 8 (some 1)
    let a : Nat := 0
    decide (s.portLive p = true ∧ s.inBar2 p off d.length = true ∧ s.bar2Place p off d.length = .sram a ∧ (∀ b ∈ d, b.isSome = true))) = true ∧
    (let s : State := ready
    let a : Nat := 127
    let bs : List Byte := [1, 2]
    decide (s.mems.hbm.wf = true ∧ s.mems.hbmMerges a bs.length = [])) = true ∧
    (let s : State := ready
    let a : Nat := 127
    let bs : List Byte := [1, 2]
    let b : Nat := 129
    decide (s.mems.hbm.wf = true ∧ (b < a ∨ a + bs.length ≤ b))) = true := by
  refine ⟨?_, ?_, ?_, ?_, ?_, ?_, ?_, ?_, ?_, ?_⟩ <;> decide +kernel

theorem test_witness_HostWindowsReachTheirBytes_3 :
    (let s : State := ready
    let a : Nat := 8
    let bs : List Byte := List.replicate 8 1
    let b : Nat := 7
    decide (s.mems.sram.wf = true ∧ (b < a ∨ a + bs.length ≤ b))) = true ∧
    (let i : Nat := 0
    let d : List (Option Byte) := [some 1]
    decide (i < d.length)) = true ∧
    (let s : State := ready
    let p : Port := 1
    let off : Nat := 268435455
    let bs : List Byte := [1]
    let b : Nat := 268435454
    decide (s.portLive p = true ∧ bs ≠ [] ∧ off + bs.length ≤ 268435456 ∧ s.mems.bar4.wf = true ∧ s.bar4Reaches p off = true ∧ s.bar4Reaches p (off + bs.length - 1) = true ∧ (b < off ∨ off + bs.length ≤ b))) = true ∧
    (let s : State := ready
    let p : Port := 1
    let off : Nat := 134217727
    let len : Nat := 2
    decide (s.portLive p = true ∧ 0 < len ∧ off + len ≤ 268435456 ∧ s.bar4Reaches p off = true ∧ s.bar4Reaches p (off + len - 1) = true)) = true ∧
    (let s : State := { ready with spin := { ready.spin with width := 3 } }
    let p : Port := 1
    let off : Nat := 134217727
    let len : Nat := 1
    decide (s.portLive p = true ∧ 0 < len ∧ off + len ≤ 268435456 ∧ s.bar4Reaches p off = false)) = true := by
  refine ⟨?_, ?_, ?_, ?_, ?_⟩ <;> decide +kernel

theorem test_witness_TransfersMoveTheirBytes_1 :
    (let s : State := moving false true
    let m : Move := { queue := 0, seq := 2, flags := 1, hostAddr := 0, devAddr := 0, bytes := 1 }
    let n := m.queue.val
    let q := s.queue n
    decide (s.portLive q.port = true ∧ q.kind = .dataMover ∧ q.state = .active ∧ q.head ≠ q.tail ∧ s.ringReaches q = true ∧ (∃ x ∈ s.host.transfers, x.queue = n) ∧ m.flags.getLsbD 0 = true)) = true ∧
    (let s : State := moving false true
    let m : Move := { queue := 0, seq := 2, hostAddr := 0, devAddr := 0, bytes := 2 ^ 32 }
    let n := m.queue.val
    let q := s.queue n
    let s1 := s.modQueue n fun q => { q with head := q.head + 1, done := q.done + 1 }
    decide (s.portLive q.port = true ∧ q.kind = .dataMover ∧ q.state = .active ∧ q.head ≠ q.tail ∧ s.ringReaches q = true ∧ m.badOp = false ∧ m.flags = 0 ∧ m.rest = 0 ∧ 0 < m.bytes.toNat ∧ m.bytes.toNat ≤ 2 ^ 32 ∧ s1.devPlace m.devAddr.toNat m.bytes.toNat ≠ .reserved)) = true ∧
    (let s : State := moving false true
    let m : Move := { queue := 0, seq := 2, hostAddr := 0, devAddr := 0xC200000000, bytes := 8 }
    let n := m.queue.val
    let q := s.queue n
    let s1 := s.modQueue n fun q => { q with head := q.head + 1, done := q.done + 1 }
    decide (s.portLive q.port = true ∧ q.kind = .dataMover ∧ q.state = .active ∧ q.head ≠ q.tail ∧ s.ringReaches q = true ∧ m.flags = 0 ∧ (m.badOp = true ∨ s1.devPlace m.devAddr.toNat m.bytes.toNat = .reserved))) = true ∧
    (let s : State := moving true true
    let q : Queue := 0
    let seq : BitVec 32 := 1
    let t : Transfer := { queue := 0, port := 0, cq := 1, lost := true, seq := 1, toDevice := true, hostAddr := 0, devAddr := 0, bytes := 128 }
    decide ((s.host.transfers.find? fun t => decide (t.queue = q.val) && decide (t.seq = seq)) = some t ∧ t.lost = true)) = true ∧
    (let s : State := moving false true
    let q : Queue := 0
    let seq : BitVec 32 := 1
    let t : Transfer := { queue := 0, port := 0, cq := 1, seq := 1, toDevice := true, hostAddr := 0, devAddr := 0, bytes := 128 }
    decide ((s.host.transfers.find? fun t => decide (t.queue = q.val) && decide (t.seq = seq)) = some t ∧ t.lost = false ∧ t.toDevice = true)) = true ∧
    (let s : State := moving false false
    let q : Queue := 0
    let seq : BitVec 32 := 1
    let t : Transfer := { queue := 0, port := 0, cq := 1, seq := 1, toDevice := false, hostAddr := 0, devAddr := 0, bytes := 128 }
    let s1 : State := { s with host := { s.host with transfers := s.host.transfers.erase t } }
    decide ((s.host.transfers.find? fun t => decide (t.queue = q.val) && decide (t.seq = seq)) = some t ∧ t.lost = false ∧ t.toDevice = false ∧ s1.devBad (s1.devPlace t.devAddr t.bytes) t.bytes = [])) = true ∧
    (let s : State := moving false false
    let q : Queue := 0
    let seq : BitVec 32 := 2
    decide ((∀ t ∈ s.host.transfers, t.queue = q.val → t.seq ≠ seq))) = true ∧
    (let s : State := ready
    let p : Port := 1
    decide (s.portLive p = true)) = true ∧
    (let s : State := ready
    let p : Port := 0
    let n : Nat := 1
    decide (Tab.wf s.host.queues {} = true ∧ (s.queue n).port = p ∧ (s.queue n).state ≠ .free)) = true ∧
    (let s : State := ready
    let p : Port := 1
    decide ((s.host.ports.get p).perst = false ∧ Tab.wf s.host.queues {} = true ∧ Tab.wf s.host.adminRing 0 = true)) = true := by
  refine ⟨?_, ?_, ?_, ?_, ?_, ?_, ?_, ?_, ?_, ?_⟩ <;> decide +kernel

theorem test_witness_TransfersMoveTheirBytes_2 :
    (let s : State := { ready with host := { ready.host with ports := ⟨{}, {}⟩ } }
    let p : Port := 1
    decide ((s.host.ports.get p).perst = true)) = true ∧
    (let s : State := ready
    let p : Port := 1
    decide ((s.host.ports.get p).perst = false ∧ s.spin.present.get p = true ∧ s.pow.supply ≠ .off)) = true := by
  refine ⟨?_, ?_⟩ <;> decide +kernel

theorem test_witness_RegisterInstructionsChangeTheirThread_1 :
    (let s : State := loaded
    let c : Cell := 0
    let t : Thread := 0
    decide (s.issues c t = false)) = true ∧
    (let s : State := badWord 0 (cellAt 0 0 id)
    let c : Cell := 0
    let t : Thread := 0
    decide (s.issues c t = true ∧ s.fetchBad c t = true)) = true ∧
    (let s : State := cellAt 11 0 id
    let c : Cell := 0
    let t : Thread := 0
    let w := s.fetch c t
    decide (s.issues c t = true ∧ s.fetchBad c t = false ∧ 11 ≤ classOf w)) = true ∧
    (let s : State := cellAt 1 0 id
    let c : Cell := 0
    let t : Thread := 0
    let w := s.fetch c t
    let k : Nat := 1
    let i : AluOp := { op := 0, rd := 0, rs := 0, rt := none }
    decide (k < 11 ∧ Fetches s c t k ∧ (k ≠ 0 ∨ operationOf w ≠ i.op.toNat))) = true ∧
    (let s : State := cellAt 2 1 id
    let c : Cell := 0
    let t : Thread := 0
    let w := s.fetch c t
    let k : Nat := 2
    let i : VecOp := { op := 0, etype := 0, vd := 0, vs := 0, vt := 0, mask := 0 }
    decide (k < 11 ∧ Fetches s c t k ∧ (k ≠ 2 ∨ operationOf w ≠ i.op.toNat))) = true ∧
    (let s : State := cellAt 10 0 id
    let c : Cell := 0
    let t : Thread := 0
    let k : Nat := 10
    decide (k < 11 ∧ Fetches s c t k ∧ k ≠ 4)) = true ∧
    (let s : State := cellAt 10 0 id
    let c : Cell := 0
    let t : Thread := 0
    let k : Nat := 10
    decide (k < 11 ∧ Fetches s c t k ∧ k ≠ 9)) = true ∧
    (let s : State := cellAt 9 0 id
    let c : Cell := 0
    let t : Thread := 0
    let k : Nat := 9
    decide (k < 11 ∧ Fetches s c t k ∧ k ≠ 10)) = true ∧
    (let s : State := cellAt 0 3 id
    let c : Cell := 0
    let t : Thread := 0
    let w := s.fetch c t
    let i : AluOp := { op := 3, rd := 0, rs := 0, rt := none, legal := false }
    decide (Fetches s c t 0 ∧ operationOf w = i.op.toNat ∧ i.legal = false)) = true ∧
    (let s : State := cellAt 2 3 id
    let c : Cell := 0
    let t : Thread := 0
    let w := s.fetch c t
    let i : VecOp := { op := 3, etype := 0, vd := 0, vs := 0, vt := 0, mask := 0, legal := false }
    decide (Fetches s c t 2 ∧ operationOf w = i.op.toNat ∧ i.legal = false)) = true := by
  refine ⟨?_, ?_, ?_, ?_, ?_, ?_, ?_, ?_, ?_, ?_⟩ <;> decide +kernel

theorem test_witness_RegisterInstructionsChangeTheirThread_2 :
    (let s : State := cellAt 4 0 id
    let c : Cell := 0
    let t : Thread := 0
    let i : CvtOp := { vd := 31, vs := 31, src := 15, dst := 0, round := 2 }
    decide (Fetches s c t 4 ∧ (i.legal = false ∨ Fmt.ofCode i.src = none ∨ Fmt.ofCode i.dst = none))) = true ∧
    (let s : State := cellAt 9 0 id
    let c : Cell := 0
    let t : Thread := 0
    let i : BrOp := { cond := 0, target := none, legal := false }
    decide (Fetches s c t 9 ∧ i.legal = false)) = true ∧
    (let s : State := cellAt 10 0 id
    let c : Cell := 0
    let t : Thread := 0
    decide (Fetches s c t 10)) = true ∧
    (let s : State := badReg 31 (cellAt 0 3 id)
    let c : Cell := 0
    let t : Thread := 0
    let w := s.fetch c t
    let i : AluOp := { op := 3, rd := 31, rs := 0, rt := some 31 }
    let reg := i.rs.val :: (i.rt.map (·.val)).toList
    decide (CellWf s c t ∧ Fetches s c t 0 ∧ operationOf w = i.op.toNat ∧ i.legal = true ∧ ¬Unmarked s c t reg [])) = true ∧
    (let s : State := badReg 30 (cellAt 0 3 id)
    let c : Cell := 0
    let t : Thread := 0
    let w := s.fetch c t
    let i : AluOp := { op := 3, rd := 31, rs := 0, rt := some 31, residueOk := false }
    let reg := i.rs.val :: (i.rt.map (·.val)).toList
    decide (CellWf s c t ∧ Fetches s c t 0 ∧ operationOf w = i.op.toNat ∧ i.legal = true ∧ Unmarked s c t reg [] ∧ i.residueOk = false)) = true ∧
    (let s : State := badReg 31 (cellAt 0 255 id)
    let c : Cell := 0
    let t : Thread := 0
    let w := s.fetch c t
    let i : AluOp := { op := 255, rd := 31, rs := 0, rt := some 1 }
    let reg := i.rs.val :: (i.rt.map (·.val)).toList
    decide (CellWf s c t ∧ Fetches s c t 0 ∧ operationOf w = i.op.toNat ∧ i.legal = true ∧ Unmarked s c t reg [] ∧ i.residueOk = true)) = true ∧
    (let s : State := badReg 1055 (cellAt 2 3 id)
    let c : Cell := 0
    let t : Thread := 0
    let w := s.fetch c t
    let i : VecOp := { op := 3, etype := 0, vd := 0, vs := 0, vt := 0, mask := 31 }
    let reg := [i.vs.val, i.vt.val, i.mask.val] ++ (i.vu.map (·.val)).toList
    decide (CellWf s c t ∧ Fetches s c t 2 ∧ operationOf w = i.op.toNat ∧ i.legal = true ∧ ¬Unmarked s c t [] reg)) = true ∧
    (let s : State := badReg 1055 (cellAt 2 3 id)
    let c : Cell := 0
    let t : Thread := 0
    let w := s.fetch c t
    let i : VecOp := { op := 3, etype := 0, vd := 31, vs := 0, vt := 30, mask := 0, residueOk := false }
    let reg := [i.vs.val, i.vt.val, i.mask.val] ++ (i.vu.map (·.val)).toList
    decide (CellWf s c t ∧ Fetches s c t 2 ∧ operationOf w = i.op.toNat ∧ i.legal = true ∧ Unmarked s c t [] reg ∧ i.residueOk = false)) = true ∧
    (let s : State := badReg 1055 (cellAt 2 3 id)
    let c : Cell := 0
    let t : Thread := 0
    let w := s.fetch c t
    let i : VecOp := { op := 3, etype := 0, vd := 31, vs := 0, vt := 30, mask := 0, vu := some 1 }
    let reg := [i.vs.val, i.vt.val, i.mask.val] ++ (i.vu.map (·.val)).toList
    decide (CellWf s c t ∧ Fetches s c t 2 ∧ operationOf w = i.op.toNat ∧ i.legal = true ∧ Unmarked s c t [] reg ∧ i.residueOk = true)) = true ∧
    (let s : State := badReg 31 (cellAt 4 0 id)
    let c : Cell := 0
    let t : Thread := 0
    let x31 := fun i : CvtOp => if i.round = 3 then [31] else []
    let i : CvtOp := { vd := 31, vs := 31, src := 8, dst := 0, round := 3 }
    let f := (Fmt.ofCode i.src).getD .bf16
    let g := (Fmt.ofCode i.dst).getD .bf16
    decide (CellWf s c t ∧ Fetches s c t 4 ∧ i.legal = true ∧ Fmt.ofCode i.src = some f ∧ Fmt.ofCode i.dst = some g ∧ ¬Unmarked s c t (x31 i) [i.vs.val])) = true := by
  refine ⟨?_, ?_, ?_, ?_, ?_, ?_, ?_, ?_, ?_, ?_⟩ <;> decide +kernel

theorem test_witness_RegisterInstructionsChangeTheirThread_3 :
    (let s : State := badReg 30 (cellAt 4 0 id)
    let c : Cell := 0
    let t : Thread := 0
    let x31 := fun i : CvtOp => if i.round = 3 then [31] else []
    let i : CvtOp := { vd := 31, vs := 31, src := 8, dst := 0, round := 2, residueOk := false }
    let f := (Fmt.ofCode i.src).getD .bf16
    let g := (Fmt.ofCode i.dst).getD .bf16
    decide (CellWf s c t ∧ Fetches s c t 4 ∧ i.legal = true ∧ Fmt.ofCode i.src = some f ∧ Fmt.ofCode i.dst = some g ∧ Unmarked s c t (x31 i) [i.vs.val] ∧ i.residueOk = false)) = true ∧
    (let s : State := (cellAt 4 0 id).modReg 0 fun x => { x with entropyDead := true }
    let c : Cell := 0
    let t : Thread := 0
    let x31 := fun i : CvtOp => if i.round = 3 then [31] else []
    let i : CvtOp := { vd := 31, vs := 31, src := 8, dst := 0, round := 2 }
    let f := (Fmt.ofCode i.src).getD .bf16
    let g := (Fmt.ofCode i.dst).getD .bf16
    decide (CellWf s c t ∧ Fetches s c t 4 ∧ i.legal = true ∧ Fmt.ofCode i.src = some f ∧ Fmt.ofCode i.dst = some g ∧ Unmarked s c t (x31 i) [i.vs.val] ∧ i.residueOk = true ∧ i.round = 2 ∧ (s.reg (regionOfCell c)).entropyDead = true)) = true ∧
    (let s : State := cellAt 4 0 id
    let c : Cell := 0
    let t : Thread := 0
    let x31 := fun i : CvtOp => if i.round = 3 then [31] else []
    let i : CvtOp := { vd := 31, vs := 31, src := 8, dst := 0, round := 3 }
    let f := (Fmt.ofCode i.src).getD .bf16
    let g := (Fmt.ofCode i.dst).getD .bf16
    decide (CellWf s c t ∧ Fetches s c t 4 ∧ i.legal = true ∧ Fmt.ofCode i.src = some f ∧ Fmt.ofCode i.dst = some g ∧ Unmarked s c t (x31 i) [i.vs.val] ∧ i.residueOk = true ∧ (i.round ≠ 2 ∨ (s.reg (regionOfCell c)).entropyDead = false))) = true ∧
    (let s : State := cellAt 10 0 id
    let c : Cell := 0
    let t : Thread := 0
    decide (CellWf s c t ∧ Fetches s c t 10)) = true ∧
    (let s : State := badReg 31 (cellAt 9 0 id)
    let c : Cell := 0
    let t : Thread := 0
    let i : BrOp := { cond := 0, target := some 31 }
    decide (CellWf s c t ∧ Fetches s c t 9 ∧ i.legal = true ∧ ¬Unmarked s c t (i.target.map (·.val)).toList [])) = true ∧
    (let s : State := badReg 31 (cellAt 9 0 id)
    let c : Cell := 0
    let t : Thread := 0
    let i : BrOp := { cond := 0, target := some 30 }
    decide (CellWf s c t ∧ Fetches s c t 9 ∧ i.legal = true ∧ Unmarked s c t (i.target.map (·.val)).toList [])) = true ∧
    (let s : State := (cellRun fun x => { x with issued := 64 }).modThr 0 7 fun x => { x with state := .ready }
    let c : Cell := 0
    let x := s.cel c
    decide (x = s.cel c ∧ (s.thr c x.lastRun).state = .running ∧ 64 ≤ (s.thr c x.lastRun).issued ∧ x.readyOrder ≠ [] ∧ CellWf s c x.lastRun)) = true ∧
    (let s : State := cellRun id
    let c : Cell := 0
    decide ((s.thr c (s.cel c).lastRun).issued < 64)) = true := by
  refine ⟨?_, ?_, ?_, ?_, ?_, ?_, ?_, ?_⟩ <;> decide +kernel

theorem test_witness_MemoryInstructionsReachTheirBytes_1 :
    (let s : State := badReg 31 (cellAt 1 0 id)
    let c : Cell := 0
    let t : Thread := 0
    let i : MemOp := { load := false, reg := 31, base := 0, offset := 0xFFFF8, bytes := 8 }
    let reg := i.base.val :: if i.load then [] else [i.reg.val]
    decide (CellWf s c t ∧ Fetches s c t 1 ∧ i.legal = true ∧ 1 ≤ i.bytes ∧ i.bytes ≤ 8 ∧ ¬Unmarked s c t reg [])) = true ∧
    (let s : State := badReg 31 (cellAt 1 0 id)
    let c : Cell := 0
    let t : Thread := 0
    let i : MemOp := { load := true, reg := 31, base := 0, offset := 0xFFFF8, bytes := 8 }
    let a := s.ea c t i.base i.offset
    let reg := i.base.val :: if i.load then [] else [i.reg.val]
    decide (CellWf s c t ∧ Fetches s c t 1 ∧ i.legal = true ∧ 1 ≤ i.bytes ∧ i.bytes ≤ 8 ∧ Unmarked s c t reg [] ∧ i.load = true ∧ ownStore a i.bytes = true ∧ s.mems.sramBad (cellSram c a) i.bytes = false)) = true ∧
    (let s : State := badWord 131071 (cellAt 1 0 id)
    let c : Cell := 0
    let t : Thread := 0
    let i : MemOp := { load := true, reg := 31, base := 0, offset := 0xFFFF8, bytes := 8 }
    let a := s.ea c t i.base i.offset
    let reg := i.base.val :: if i.load then [] else [i.reg.val]
    decide (CellWf s c t ∧ Fetches s c t 1 ∧ i.legal = true ∧ 1 ≤ i.bytes ∧ i.bytes ≤ 8 ∧ Unmarked s c t reg [] ∧ i.load = true ∧ ownStore a i.bytes = true ∧ s.mems.sramBad (cellSram c a) i.bytes = true)) = true ∧
    (let s : State := badWord 131071 (cellAt 1 0 id)
    let c : Cell := 0
    let t : Thread := 0
    let waits := ((s.cel c).heldStores.any fun h => decide (h.owner = .thread t)) = true
    let i : MemOp := { load := false, reg := 31, base := 0, offset := 0xFFFF8, bytes := 8 }
    let a := s.ea c t i.base i.offset
    let reg := i.base.val :: if i.load then [] else [i.reg.val]
    decide (CellWf s c t ∧ Fetches s c t 1 ∧ i.legal = true ∧ 1 ≤ i.bytes ∧ i.bytes ≤ 8 ∧ Unmarked s c t reg [] ∧ i.load = false ∧ ownStore a i.bytes = true ∧ s.heldByReplay c a i.bytes = false ∧ s.mems.mergesBad (cellSram c a) i.bytes = false ∧ ¬waits ∧ s.mems.sram.wf = true)) = true ∧
    (let s : State := replaying
    let c : Cell := 0
    let t : Thread := 0
    let i : MemOp := { load := false, reg := 31, base := 0, offset := 0, bytes := 8 }
    let a := s.ea c t i.base i.offset
    let reg := i.base.val :: if i.load then [] else [i.reg.val]
    decide (CellWf s c t ∧ Fetches s c t 1 ∧ i.legal = true ∧ 1 ≤ i.bytes ∧ i.bytes ≤ 8 ∧ Unmarked s c t reg [] ∧ i.load = false ∧ ownStore a i.bytes = true ∧ s.heldByReplay c a i.bytes = true)) = true ∧
    (let s : State := cellAt 1 0 id
    let c : Cell := 0
    let t : Thread := 0
    let i : MemOp := { load := true, reg := 31, base := 0, offset := 0x100000, bytes := 1 }
    let a := s.ea c t i.base i.offset
    let reg := i.base.val :: if i.load then [] else [i.reg.val]
    decide (CellWf s c t ∧ Fetches s c t 1 ∧ i.legal = true ∧ 1 ≤ i.bytes ∧ i.bytes ≤ 8 ∧ Unmarked s c t reg [] ∧ i.load = true ∧ ownStore a i.bytes = false ∧ s.lineBusy c t a i.bytes = false)) = true ∧
    (let s : State := (cellAt 1 0 id).modSlot 3 fun _ => { kind := .store, cell := 0, thread := 0, offset := 0x100000, bytes := 8 }
    let c : Cell := 0
    let t : Thread := 0
    let i : MemOp := { load := true, reg := 31, base := 0, offset := 0x10007F, bytes := 1 }
    let a := s.ea c t i.base i.offset
    let reg := i.base.val :: if i.load then [] else [i.reg.val]
    decide (CellWf s c t ∧ Fetches s c t 1 ∧ i.legal = true ∧ 1 ≤ i.bytes ∧ i.bytes ≤ 8 ∧ Unmarked s c t reg [] ∧ i.load = true ∧ ownStore a i.bytes = false ∧ s.lineBusy c t a i.bytes = true)) = true ∧
    (let s : State := cellAt 1 0 id
    let c : Cell := 0
    let t : Thread := 0
    let i : MemOp := { load := false, reg := 31, base := 0, offset := 0x100000, bytes := 1 }
    let a := s.ea c t i.base i.offset
    let reg := i.base.val :: if i.load then [] else [i.reg.val]
    decide (CellWf s c t ∧ Fetches s c t 1 ∧ i.legal = true ∧ 1 ≤ i.bytes ∧ i.bytes ≤ 8 ∧ Unmarked s c t reg [] ∧ i.load = false ∧ ownStore a i.bytes = false)) = true ∧
    (let s : State := badReg 1055 (cellAt 3 0 id)
    let c : Cell := 0
    let t : Thread := 0
    let i : VMemOp := { load := false, v := 31, base := 0, offset := 0, stride := 4, elem := 4, count := 2 }
    let vec := if i.load then [] else [i.v.val]
    decide (CellWf s c t ∧ Fetches s c t 3 ∧ i.legal = true ∧ 1 ≤ i.elem * i.count ∧ i.elem * i.count ≤ 256 ∧ ¬Unmarked s c t [i.base.val] vec)) = true ∧
    (let s : State := badReg 1055 (cellAt 3 0 id)
    let c : Cell := 0
    let t : Thread := 0
    let i : VMemOp := { load := true, v := 31, base := 0, offset := 0, stride := 4, elem := 4, count := 64 }
    let a := s.ea c t i.base i.offset
    let at_ := fun k : Nat => ((a : Int) + k * i.stride).toNat
    let own := (List.range i.count).all fun k => decide ((a : Int) + k * i.stride ≥ 0) && ownStore (at_ k) i.elem
    let vec := if i.load then [] else [i.v.val]
    decide (CellWf s c t ∧ Fetches s c t 3 ∧ i.legal = true ∧ 1 ≤ i.elem * i.count ∧ i.elem * i.count ≤ 256 ∧ Unmarked s c t [i.base.val] vec ∧ own = true ∧ i.load = true ∧ (∀ k : Nat, k < i.count → s.mems.sramBad (cellSram c (at_ k)) i.elem = false))) = true := by
  refine ⟨?_, ?_, ?_, ?_, ?_, ?_, ?_, ?_, ?_, ?_⟩ <;> decide +kernel

theorem test_witness_MemoryInstructionsReachTheirBytes_2 :
    (let s : State := badWord 1 (cellAt 3 0 id)
    let c : Cell := 0
    let t : Thread := 0
    let i : VMemOp := { load := true, v := 31, base := 0, offset := 0, stride := 8, elem := 4, count := 2 }
    let a := s.ea c t i.base i.offset
    let at_ := fun k : Nat => ((a : Int) + k * i.stride).toNat
    let own := (List.range i.count).all fun k => decide ((a : Int) + k * i.stride ≥ 0) && ownStore (at_ k) i.elem
    let vec := if i.load then [] else [i.v.val]
    decide (CellWf s c t ∧ Fetches s c t 3 ∧ i.legal = true ∧ 1 ≤ i.elem * i.count ∧ i.elem * i.count ≤ 256 ∧ Unmarked s c t [i.base.val] vec ∧ own = true ∧ i.load = true ∧ (∃ k < i.count, s.mems.sramBad (cellSram c (at_ k)) i.elem = true))) = true ∧
    (let s : State := badWord 1 (cellAt 3 0 id)
    let c : Cell := 0
    let t : Thread := 0
    let i : VMemOp := { load := false, v := 31, base := 0, offset := 4, stride := -4, elem := 4, count := 2 }
    let a := s.ea c t i.base i.offset
    let at_ := fun k : Nat => ((a : Int) + k * i.stride).toNat
    let own := (List.range i.count).all fun k => decide ((a : Int) + k * i.stride ≥ 0) && ownStore (at_ k) i.elem
    let vec := if i.load then [] else [i.v.val]
    decide (CellWf s c t ∧ Fetches s c t 3 ∧ i.legal = true ∧ 1 ≤ i.elem * i.count ∧ i.elem * i.count ≤ 256 ∧ Unmarked s c t [i.base.val] vec ∧ own = true ∧ i.load = false)) = true ∧
    (let s : State := cellAt 3 0 id
    let c : Cell := 0
    let t : Thread := 0
    let i : VMemOp := { load := true, v := 31, base := 0, offset := 0, stride := -4, elem := 4, count := 2 }
    let a := s.ea c t i.base i.offset
    let at_ := fun k : Nat => ((a : Int) + k * i.stride).toNat
    let own := (List.range i.count).all fun k => decide ((a : Int) + k * i.stride ≥ 0) && ownStore (at_ k) i.elem
    let vec := if i.load then [] else [i.v.val]
    decide (CellWf s c t ∧ Fetches s c t 3 ∧ i.legal = true ∧ 1 ≤ i.elem * i.count ∧ i.elem * i.count ≤ 256 ∧ Unmarked s c t [i.base.val] vec ∧ own = false ∧ i.load = true ∧ s.lineBusy c t a (i.elem * i.count) = false)) = true ∧
    (let s : State := (cellAt 3 0 id).modSlot 3 fun _ => { kind := .store, cell := 0, thread := 0, offset := 0, bytes := 8 }
    let c : Cell := 0
    let t : Thread := 0
    let i : VMemOp := { load := true, v := 31, base := 0, offset := 0, stride := -4, elem := 4, count := 2 }
    let a := s.ea c t i.base i.offset
    let at_ := fun k : Nat => ((a : Int) + k * i.stride).toNat
    let own := (List.range i.count).all fun k => decide ((a : Int) + k * i.stride ≥ 0) && ownStore (at_ k) i.elem
    let vec := if i.load then [] else [i.v.val]
    decide (CellWf s c t ∧ Fetches s c t 3 ∧ i.legal = true ∧ 1 ≤ i.elem * i.count ∧ i.elem * i.count ≤ 256 ∧ Unmarked s c t [i.base.val] vec ∧ own = false ∧ i.load = true ∧ s.lineBusy c t a (i.elem * i.count) = true)) = true ∧
    (let s : State := cellAt 3 0 id
    let c : Cell := 0
    let t : Thread := 0
    let i : VMemOp := { load := false, v := 31, base := 0, offset := 0, stride := -4, elem := 4, count := 2 }
    let a := s.ea c t i.base i.offset
    let at_ := fun k : Nat => ((a : Int) + k * i.stride).toNat
    let own := (List.range i.count).all fun k => decide ((a : Int) + k * i.stride ≥ 0) && ownStore (at_ k) i.elem
    let vec := if i.load then [] else [i.v.val]
    decide (CellWf s c t ∧ Fetches s c t 3 ∧ i.legal = true ∧ 1 ≤ i.elem * i.count ∧ i.elem * i.count ≤ 256 ∧ Unmarked s c t [i.base.val] vec ∧ own = false ∧ i.load = false)) = true ∧
    (let s : State := cellAt 8 7 id
    let c : Cell := 0
    let t : Thread := 0
    let i : AtomOp := { op := 7, data := 1, compare := 2, addr := 3, wide := true }
    decide (CellWf s c t ∧ Fetches s c t 8 ∧ operationOf (s.fetch c t) = i.op.toNat ∧ i.legal = true ∧ Unmarked s c t [i.data.val, i.compare.val, i.addr.val] [])) = true ∧
    (let s : State := cellAt 6 0 fun x => { x with posted := 16 }
    let c : Cell := 0
    let t : Thread := 0
    decide (CellWf s c t ∧ 16 ≤ (s.thr c t).posted)) = true ∧
    (let s : State := cellAt 6 0 fun x => { x with posted := 15 }
    let c : Cell := 0
    let t : Thread := 0
    decide (CellWf s c t ∧ (s.thr c t).posted < 16)) = true ∧
    (let s : State := cellAt 6 0 id
    let c : Cell := 0
    let t : Thread := 0
    decide (CellWf s c t ∧ Fetches s c t 6 ∧ (s.thr c t).posted = 0)) = true ∧
    (let s : State := cellAt 6 0 fun x => { x with posted := 1 }
    let c : Cell := 0
    let t : Thread := 0
    decide (CellWf s c t ∧ Fetches s c t 6 ∧ 0 < (s.thr c t).posted)) = true := by
  refine ⟨?_, ?_, ?_, ?_, ?_, ?_, ?_, ?_, ?_, ?_⟩ <;> decide +kernel

theorem test_witness_MemoryInstructionsReachTheirBytes_3 :
    (let s : State := (cellAt 7 0 id).modCel 0 fun x => { x with queue := List.replicate 16 { no := 0, desc := desc 1 } }
    let c : Cell := 0
    let t : Thread := 0
    let r : DescRef := .reg 31
    decide (CellWf s c t ∧ Fetches s c t 7 ∧ Unmarked s c t (descRegs r) [] ∧ 16 ≤ (s.cel c).queue.length)) = true ∧
    (let s : State := (cellAt 7 0 id).modCel 0 fun x => { x with queue := List.replicate 15 { no := 0, desc := desc 1 } }
    let c : Cell := 0
    let t : Thread := 0
    let r : DescRef := .reg 31
    let a : Nat := 0
    decide (CellWf s c t ∧ Fetches s c t 7 ∧ Unmarked s c t (descRegs r) [] ∧ (s.cel c).queue.length < 16 ∧ s.descRef c t r = some a ∧ s.mems.sramBad a 64 = false)) = true ∧
    (let s : State := badWord 8 (cellAt 7 0 fun x => { x with x := [(31, 64)] })
    let c : Cell := 0
    let t : Thread := 0
    let r : DescRef := .reg 31
    let a : Nat := 64
    decide (CellWf s c t ∧ Fetches s c t 7 ∧ Unmarked s c t (descRegs r) [] ∧ (s.cel c).queue.length < 16 ∧ s.descRef c t r = some a ∧ s.mems.sramBad a 64 = true)) = true ∧
    (let s : State := cellAt 7 0 id
    let c : Cell := 0
    let t : Thread := 0
    let r : DescRef := .index 0
    decide (CellWf s c t ∧ Fetches s c t 7 ∧ Unmarked s c t (descRegs r) [] ∧ (s.cel c).queue.length < 16 ∧ s.descRef c t r = none)) = true ∧
    (let s : State := cellRun id
    let c : Cell := 0
    let t : Thread := 0
    decide (CellWf s c t)) = true ∧
    (let s : State := cellRun id
    let c : Cell := 0
    let t : Thread := 0
    let d : Desc := desc 1
    let k : Nat := 1
    decide (CellWf s c t ∧ s.descOk (blockOfCell c) d = true ∧ k ≠ c.val)) = true ∧
    (let s : State := cellRun id
    let c : Cell := 0
    let t : Thread := 0
    let d : Desc := { desc 1 with rows := 0 }
    decide (CellWf s c t ∧ s.descOk (blockOfCell c) d = false)) = true := by
  refine ⟨?_, ?_, ?_, ?_, ?_, ?_, ?_⟩ <;> decide +kernel

theorem test_witness_TokensAndBarriersSynchronise_1 :
    (let s : State := cellAt 6 0 id
    let c : Cell := 0
    let t : Thread := 0
    let b := blockOfCell c
    let token : Nat := 4095
    let n : Nat := 255
    decide (CellWf s c t ∧ Fetches s c t 6 ∧ token ≤ 4095 ∧ 1 ≤ n ∧ n ≤ 255 ∧ (s.thr c t).posted = 0 ∧ s.vc0Full b = false)) = true ∧
    (let s : State := (cellAt 6 0 id).modReg 0 fun x => { x with vc0 := [(0, List.replicate 32 { msg := { kind := 0, dst := 1, src := 0, number := 0 }, cw := true, ccw := false })] }
    let c : Cell := 0
    let t : Thread := 0
    let b := blockOfCell c
    let token : Nat := 4095
    let n : Nat := 255
    decide (CellWf s c t ∧ Fetches s c t 6 ∧ token ≤ 4095 ∧ 1 ≤ n ∧ n ≤ 255 ∧ (s.thr c t).posted = 0 ∧ s.vc0Full b = true)) = true ∧
    (let s : State := cellAt 6 0 fun x => { x with posted := 1 }
    let c : Cell := 0
    let t : Thread := 0
    let token : Nat := 0
    let n : Nat := 1
    decide (CellWf s c t ∧ Fetches s c t 6 ∧ token ≤ 4095 ∧ 1 ≤ n ∧ n ≤ 255 ∧ 0 < (s.thr c t).posted)) = true ∧
    (let s : State := (cellAt 6 0 id).modReg 0 fun x => { x with tokens := [(5, 2)] }
    let c : Cell := 0
    let t : Thread := 0
    let r := regionOfCell c
    let token : Nat := 5
    let n : Nat := 2
    let m := (s.reg r).tokens.get 0 token
    decide (CellWf s c t ∧ Fetches s c t 6 ∧ token ≤ 4095 ∧ 1 ≤ n ∧ n ≤ 255 ∧ n ≤ m)) = true ∧
    (let s : State := (cellAt 6 0 id).modReg 0 fun x => { x with tokens := [(5, 2)] }
    let c : Cell := 0
    let t : Thread := 0
    let r := regionOfCell c
    let token : Nat := 5
    let n : Nat := 3
    let m := (s.reg r).tokens.get 0 token
    decide (CellWf s c t ∧ Fetches s c t 6 ∧ token ≤ 4095 ∧ 1 ≤ n ∧ n ≤ 255 ∧ m < n)) = true ∧
    (let s : State := cellAt 6 0 id
    let c : Cell := 0
    let t : Thread := 0
    let token : Nat := 4096
    let n : Nat := 1
    decide (CellWf s c t ∧ Fetches s c t 6 ∧ (4095 < token ∨ n = 0 ∨ 255 < n))) = true ∧
    (let s : State := cellAt 6 0 id
    let c : Cell := 0
    let t : Thread := 0
    let k : Nat := 255
    decide (CellWf s c t ∧ Fetches s c t 6 ∧ k ≤ 255 ∧ (s.thr c t).posted = 0)) = true ∧
    (let s : State := cellAt 6 0 fun x => { x with posted := 1 }
    let c : Cell := 0
    let t : Thread := 0
    let k : Nat := 255
    decide (CellWf s c t ∧ Fetches s c t 6 ∧ k ≤ 255 ∧ 0 < (s.thr c t).posted)) = true ∧
    (let s : State := badWord 12 arrayRun
    let c : Cell := 0
    let t : Thread := 0
    let rs : Reg := 1
    let a := (s.x c t rs).toNat
    decide (CellWf s c t ∧ Fetches s c t 5 ∧ Unmarked s c t [rs.val] [] ∧ ownStore a 40 = true ∧ s.mems.sramBad (cellSram c a) 40 = true)) = true ∧
    (let s : State := arrayRun
    let c : Cell := 0
    let t : Thread := 0
    let rs : Reg := 0
    let a := (s.x c t rs).toNat
    decide (CellWf s c t ∧ Fetches s c t 5 ∧ Unmarked s c t [rs.val] [] ∧ (ownStore a 40 = false ∨ s.mems.sramBad (cellSram c a) 40 = false ∧ (s.arrayProg c a).valid = false))) = true := by
  refine ⟨?_, ?_, ?_, ?_, ?_, ?_, ?_, ?_, ?_, ?_⟩ <;> decide +kernel

theorem test_witness_TokensAndBarriersSynchronise_2 :
    (let s : State := arrayRun.modCel 0 fun x => { x with exec := some tile1 }
    let c : Cell := 0
    let t : Thread := 0
    let rs : Reg := 1
    let a := (s.x c t rs).toNat
    decide (CellWf s c t ∧ Fetches s c t 5 ∧ Unmarked s c t [rs.val] [] ∧ ownStore a 40 = true ∧ s.mems.sramBad (cellSram c a) 40 = false ∧ (s.arrayProg c a).valid = true ∧ ((s.cel c).exec = none ∨ (s.cel c).queued = none))) = true ∧
    (let s : State := arrayRun.modCel 0 fun x => { x with exec := some tile1, queued := some tile1 }
    let c : Cell := 0
    let t : Thread := 0
    let rs : Reg := 1
    let a := (s.x c t rs).toNat
    decide (CellWf s c t ∧ Fetches s c t 5 ∧ Unmarked s c t [rs.val] [] ∧ ownStore a 40 = true ∧ s.mems.sramBad (cellSram c a) 40 = false ∧ (s.arrayProg c a).valid = true ∧ (s.cel c).exec ≠ none ∧ (s.cel c).queued ≠ none)) = true ∧
    (let s : State := ready.modReg 0 fun x => { x with tokens := [(5, 65535)] }
    let r : Nat := 0
    let k : Nat := 5
    let n : Nat := 1
    let m := (s.reg r).tokens.get 0 k + n
    decide (Tab.wf s.region {} = true ∧ Tab.wf (s.reg r).tokens 0 = true ∧ 65535 < m)) = true ∧
    (let s : State := ready.modReg 0 fun x => { x with tokens := [(5, 65534)] }
    let r : Nat := 0
    let k : Nat := 5
    let n : Nat := 1
    let m := (s.reg r).tokens.get 0 k + n
    let j : Nat := 6
    decide (Tab.wf s.region {} = true ∧ Tab.wf (s.reg r).tokens 0 = true ∧ m ≤ 65535 ∧ s.tokenWaiters r k = [] ∧ j ≠ k)) = true ∧
    (let s : State := ready.modReg 0 fun x => { x with tokens := [(5, 65534)] }
    let r : Nat := 0
    let k : Nat := 5
    let n : Nat := 1
    let m := (s.reg r).tokens.get 0 k + n
    let q : Nat := 1
    decide (Tab.wf s.region {} = true ∧ Tab.wf (s.reg r).tokens 0 = true ∧ m ≤ 65535 ∧ s.tokenWaiters r k = [] ∧ q ≠ r)) = true ∧
    (let s : State := ready.modReg 0 fun x => { x with barriers := [(3, { participants := 3, arrived := 1 })] }
    let r : Nat := 0
    let k : Nat := 3
    let b := s.bar r k
    decide (Tab.wf s.region {} = true ∧ Tab.wf (s.reg r).barriers {} = true ∧ b.reached = false ∧ b.arrived + 1 < b.participants)) = true ∧
    (let s : State := ready.modReg 0 fun x => { x with barriers := [(3, { participants := 2, arrived := 1 })] }
    let r : Nat := 0
    let k : Nat := 3
    let b := s.bar r k
    decide (Tab.wf s.region {} = true ∧ Tab.wf (s.reg r).barriers {} = true ∧ b.reached = false ∧ b.participants ≤ b.arrived + 1 ∧ b.moduleScope = false)) = true ∧
    (let s : State := ready.modReg 0 fun x => { x with barriers := [(3, { participants := 2, arrived := 1, moduleScope := true })] }
    let r : Nat := 0
    let k : Nat := 3
    let b := s.bar r k
    decide (Tab.wf s.region {} = true ∧ Tab.wf (s.reg r).barriers {} = true ∧ b.reached = false ∧ b.participants ≤ b.arrived + 1 ∧ b.moduleScope = true)) = true ∧
    (let s : State := ready.modReg 0 fun x => { x with barriers := [(3, { participants := 2, arrived := 2, moduleScope := true, reached := true })] }
    let r : Nat := 0
    let k : Nat := 3
    let b := s.bar r k
    decide (Tab.wf s.region {} = true ∧ Tab.wf (s.reg r).barriers {} = true ∧ b.reached = true ∧ b.moduleScope = true)) = true ∧
    (let s : State := launched.modReg 0 fun x => { x with barriers := [(3, { participants := 2, arrived := 2, moduleScope := true, reached := true })] }
    let n : Nat := 1
    let b : Nat := 3
    let l : Launch := { launch1 with running := true, barrierUs := 1000 }
    decide ((s.job.launches.find? fun l => l.running && decide (l.seqNo.toNat = n)) = some l ∧ (∀ r ∈ onesOf 16 l.mask, (s.bar r b).moduleScope = true ∧ (s.bar r b).reached = true))) = true := by
  refine ⟨?_, ?_, ?_, ?_, ?_, ?_, ?_, ?_, ?_, ?_⟩ <;> decide +kernel

theorem test_witness_TokensAndBarriersSynchronise_3 :
    (let s : State := launched
    let n : Nat := 1
    let b : Nat := 3
    let l : Launch := { launch1 with running := true, barrierUs := 1000 }
    let r : Nat := 0
    decide ((s.job.launches.find? fun l => l.running && decide (l.seqNo.toNat = n)) = some l ∧ (s.bar r b).reached = false)) = true ∧
    (let s : State := launched.modReg 0 fun x => { x with barriers := [(3, { participants := 2, arrived := 1, firstAt := 999999000000 })] }
    let r : Region := 0
    let b : Nat := 3
    let l : Launch := { launch1 with running := true, barrierUs := 1000 }
    decide (s.launchOf r = some l ∧ 0 < (s.bar r b).arrived ∧ 1000 * l.barrierUs ≤ since (s.bar r b).firstAt s.time.lea)) = true ∧
    (let s : State := launched.modReg 0 fun x => { x with barriers := [(3, { participants := 2, arrived := 1, firstAt := 999999000001 })] }
    let r : Region := 0
    let b : Nat := 3
    let l : Launch := { launch1 with running := true, barrierUs := 1000 }
    decide (s.launchOf r = some l ∧ ((s.bar r b).arrived = 0 ∨ since (s.bar r b).firstAt s.time.lea < 1000 * l.barrierUs))) = true ∧
    (let s : State := launched
    let r : Region := 0
    let l : Launch := { launch1 with running := true, barrierUs := 1000 }
    decide (s.launchOf r = some l ∧ (∀ e ∈ s.cell, ∀ y ∈ e.2.threads, y.2.state ≠ .waitSync))) = true := by
  refine ⟨?_, ?_, ?_, ?_⟩ <;> decide +kernel

theorem test_witness_DescriptorsMoveTheirRows_1 :
    (let s : State := withDesc { desc 1 with waitToken := 0 }
    let c : Cell := 0
    let q : DescSt := { no := 0, desc := desc 1 }
    let d := q.desc
    decide ((s.cel c).nextDesc = some q ∧ s.mayStart c q = true ∧ d.op = 1)) = true ∧
    (let s : State := withDesc (desc 2)
    let c : Cell := 0
    let q : DescSt := { no := 0, desc := desc 2 }
    let d := q.desc
    decide ((s.cel c).nextDesc = some q ∧ s.mayStart c q = true ∧ d.op = 2)) = true ∧
    (let s : State := withDesc (desc 3)
    let c : Cell := 0
    let q : DescSt := { no := 0, desc := desc 3 }
    let d := q.desc
    decide ((s.cel c).nextDesc = some q ∧ s.mayStart c q = true ∧ d.op = 3)) = true ∧
    (let s : State := withDesc (desc 4)
    let c : Cell := 0
    let q : DescSt := { no := 0, desc := desc 4 }
    let d := q.desc
    decide ((s.cel c).nextDesc = some q ∧ s.mayStart c q = true ∧ d.op = 4)) = true ∧
    (let s : State := phaseLive 1 (withDesc { desc 5 with aux := 2 ^ 31 })
    let c : Cell := 0
    let q : DescSt := { no := 0, desc := { desc 5 with aux := 2 ^ 31 } }
    let d := q.desc
    let id := BitVec.ofNat 32 d.aux
    decide ((s.cel c).nextDesc = some q ∧ s.mayStart c q = true ∧ d.op = 5 ∧ s.bobLive id = true ∧ (∀ i : Nat, i < d.rows → s.mems.sramBad (s.rowSrc d i).toNat d.rowBytes = false))) = true ∧
    (let s : State := withDesc { desc 5 with aux := 2 ^ 31 }
    let c : Cell := 0
    let q : DescSt := { no := 0, desc := { desc 5 with aux := 2 ^ 31 } }
    let d := q.desc
    let id := BitVec.ofNat 32 d.aux
    decide ((s.cel c).nextDesc = some q ∧ s.mayStart c q = true ∧ d.op = 5 ∧ s.bobLive id = false)) = true ∧
    (let s : State := phaseLive 1 (withDesc { desc 6 with aux := 2 ^ 31 })
    let c : Cell := 0
    let q : DescSt := { no := 0, desc := { desc 6 with aux := 2 ^ 31 } }
    let d := q.desc
    let id := BitVec.ofNat 32 d.aux
    decide ((s.cel c).nextDesc = some q ∧ s.mayStart c q = true ∧ d.op = 6 ∧ s.bobLive id = true)) = true ∧
    (let s : State := withDesc { desc 6 with aux := 2 ^ 31 }
    let c : Cell := 0
    let q : DescSt := { no := 0, desc := { desc 6 with aux := 2 ^ 31 } }
    let d := q.desc
    let id := BitVec.ofNat 32 d.aux
    decide ((s.cel c).nextDesc = some q ∧ s.mayStart c q = true ∧ d.op = 6 ∧ s.bobLive id = false)) = true ∧
    (let s : State := withDesc { desc 7 with ext := 0x800120 }
    let c : Cell := 0
    let q : DescSt := { no := 0, desc := { desc 7 with ext := 0x800120 } }
    let d := q.desc
    let b := blockOfCell c
    decide ((s.cel c).nextDesc = some q ∧ s.mayStart c q = true ∧ d.op = 7 ∧ redDest d.ext ≠ b % 16 ∧ redStarts d.ext (b % 16) = false)) = true ∧
    (let s : State := withDesc { desc 7 with ext := 0x120 }
    let c : Cell := 0
    let q : DescSt := { no := 0, desc := { desc 7 with ext := 0x120 } }
    let d := q.desc
    let b := blockOfCell c
    decide ((s.cel c).nextDesc = some q ∧ s.mayStart c q = true ∧ d.op = 7 ∧ redDest d.ext ≠ b % 16 ∧ redStarts d.ext (b % 16) = true)) = true := by
  refine ⟨?_, ?_, ?_, ?_, ?_, ?_, ?_, ?_, ?_, ?_⟩ <;> decide +kernel

theorem test_witness_DescriptorsMoveTheirRows_2 :
    (let s : State := withDesc { desc 7 with ext := 0x800000 }
    let c : Cell := 0
    let q : DescSt := { no := 0, desc := { desc 7 with ext := 0x800000 } }
    let d := q.desc
    let b := blockOfCell c
    decide ((s.cel c).nextDesc = some q ∧ s.mayStart c q = true ∧ d.op = 7 ∧ redDest d.ext = b % 16 ∧ redChains d.ext ≠ [])) = true ∧
    (let s : State := withDesc (desc 7)
    let c : Cell := 0
    let q : DescSt := { no := 0, desc := desc 7 }
    let d := q.desc
    let b := blockOfCell c
    decide ((s.cel c).nextDesc = some q ∧ s.mayStart c q = true ∧ d.op = 7 ∧ redDest d.ext = b % 16 ∧ redChains d.ext = [])) = true ∧
    (let s : State := phaseLive 3 (withDesc { desc 8 with aux := 2 ^ 31 })
    let c : Cell := 0
    let q : DescSt := { no := 0, desc := { desc 8 with aux := 2 ^ 31 } }
    let d := q.desc
    let id := BitVec.ofNat 32 d.aux
    let i := (s.plyIxOf q.desc.aux).getD 0
    decide ((s.cel c).nextDesc = some q ∧ s.mayStart c q = true ∧ d.op = 8 ∧ s.plyIxOf d.aux = some i ∧ s.bobLive id = true ∧ (s.plyPort i).open_ d.ext (s.memberOf i d.aux) = true ∧ Tab.wf s.ply {} = true)) = true ∧
    (let s : State := cellRun id
    let c : Cell := 0
    decide (((s.cel c).nextDesc = none ∨ ∃ q, (s.cel c).nextDesc = some q ∧ s.mayStart c q = false))) = true ∧
    (let s : State := cellRun id
    let c : Nat := 0
    let q : DescSt := { no := 0, desc := desc 1 }
    let d := q.desc
    let b := blockOfCell c
    let src := (s.rowSrc d q.row + q.col).toNat
    let dst := (s.rowDst d q.row + q.col).toNat
    let n := pieceLen d src dst q.col
    decide ((q.desc.op = 1 ∨ q.desc.op = 4) ∧ q.desc.src = 0 ∧ q.desc.dst = 0 ∧ (d.op = 1 → s.answers 0 src = true ∧ byRing b 0 src = false) ∧ s.answers 0 dst = true ∧ byRing b 0 dst = false ∧ (isBlockStore dst = true ∨ s.heldByReplay (cellOfSram dst) (dst % 1048576) n = false))) = true ∧
    (let s : State := withDesc { desc 1 with dstAddr := 0x1000000 }
    let c : Nat := 0
    let q : DescSt := { no := 0, desc := { desc 1 with dstAddr := 0x1000000 } }
    let d := q.desc
    let b := blockOfCell c
    let src := (s.rowSrc d q.row + q.col).toNat
    let dst := (s.rowDst d q.row + q.col).toNat
    decide ((q.desc.op = 1 ∨ q.desc.op = 4) ∧ q.desc.src = 0 ∧ q.desc.dst = 0 ∧ (d.op = 1 → s.answers 0 src = true ∧ byRing b 0 src = false) ∧ s.answers 0 dst = true ∧ byRing b 0 dst = true)) = true ∧
    (let d : Desc := desc 1
    let col : Nat := 127
    decide (d.src = 0 ∧ d.dst = 0 ∧ d.reads = true ∧ col < d.rowBytes)) = true ∧
    (let s : State := withDesc (desc 1)
    let c : Cell := 0
    let n : Nat := 0
    let q : DescSt := { no := 0, desc := desc 1 }
    decide ((s.cel c).queue[n]? = some q ∧ s.descDone c q = false)) = true ∧
    (let s : State := (cellRun id).modCel 0 fun x => { x with queue := [{ no := 0, desc := desc 1, started := true, row := 1 }] }
    let c : Cell := 0
    let n : Nat := 0
    let q : DescSt := { no := 0, desc := desc 1, started := true, row := 1 }
    decide ((s.cel c).queue[n]? = some q ∧ s.descDone c q = true ∧ q.desc.signalToken = 0)) = true ∧
    (let s : State := (cellRun id).modCel 0 fun x => { x with queue := [{ no := 0, desc := { desc 1 with signalToken := 4095 }, started := true, row := 1 }] }
    let c : Cell := 0
    let n : Nat := 0
    let q : DescSt := { no := 0, desc := { desc 1 with signalToken := 4095 }, started := true, row := 1 }
    decide ((s.cel c).queue[n]? = some q ∧ s.descDone c q = true ∧ q.desc.signalToken ≠ 0)) = true := by
  refine ⟨?_, ?_, ?_, ?_, ?_, ?_, ?_, ?_, ?_, ?_⟩ <;> decide +kernel

theorem test_witness_DescriptorsMoveTheirRows_3 :
    (let s : State := withDesc (desc 1)
    let c : Cell := 0
    let n : Nat := 0
    let q : DescSt := { no := 0, desc := desc 1 }
    decide ((s.cel c).queue[n]? = some q ∧ Tab.wf s.cell {} = true)) = true ∧
    (let s : State := withDesc (desc 1)
    let c : Cell := 0
    let n : Nat := 1
    decide ((s.cel c).queue.length ≤ n)) = true ∧
    (let s : State := withDesc (desc 1)
    let c : Nat := 0
    let k : Nat := 1
    decide (Tab.wf s.cell {} = true ∧ Tab.wf s.region {} = true ∧ Tab.wf (s.reg (regionOfCell c)).tokens 0 = true ∧ k ≠ c)) = true ∧
    (let s : State := withDesc (desc 1)
    let c : Nat := 0
    let q : DescSt := { no := 0, desc := desc 1 }
    decide (Tab.wf s.cell {} = true ∧ Tab.wf s.region {} = true ∧ Tab.wf (s.reg (regionOfCell c)).tokens 0 = true ∧ q.desc.waitToken = 0)) = true ∧
    (let s : State := withDesc { desc 1 with waitToken := 4095 }
    let c : Nat := 0
    let q : DescSt := { no := 0, desc := { desc 1 with waitToken := 4095 } }
    decide (Tab.wf s.cell {} = true ∧ Tab.wf s.region {} = true ∧ Tab.wf (s.reg (regionOfCell c)).tokens 0 = true ∧ q.desc.waitToken ≠ 0)) = true := by
  refine ⟨?_, ?_, ?_, ?_, ?_⟩ <;> decide +kernel

theorem test_witness_RepliesAndStoreErrorsAreHandled_1 :
    (let s : State := holding id
    let tag : BitVec 16 := 3
    let gen : BitVec 10 := 2
    let n := tag.toNat
    let r := s.slot n
    decide ((r.kind = .free ∨ r.gen ≠ gen ∨ r.reel = true))) = true ∧
    (let s : State := holding fun r => { r with onRing := true }
    let tag : BitVec 16 := 3
    let gen : BitVec 10 := 1
    let n := tag.toNat
    let r := s.slot n
    decide (r.kind ≠ .free ∧ r.gen = gen ∧ r.reel = false ∧ (r.stream = true ∨ r.onRing = true ∨ s.holds (.slot n) = true))) = true ∧
    (let s : State := (holding fun r => { r with kind := .desc }).modReg 0 fun x => { x with state := .parked }
    let tag : BitVec 16 := 3
    let gen : BitVec 10 := 1
    let n := tag.toNat
    let r := s.slot n
    decide ((r.kind ≠ .free ∧ r.gen = gen ∧ r.reel = false ∧ r.stream = false ∧ r.onRing = false ∧ s.holds (.slot n) = false) ∧ s.parkedPlace r = true)) = true ∧
    (let s : State := holding fun r => { r with kind := .desc, refused := true }
    let tag : BitVec 16 := 3
    let gen : BitVec 10 := 1
    let n := tag.toNat
    let r := s.slot n
    decide ((r.kind ≠ .free ∧ r.gen = gen ∧ r.reel = false ∧ r.stream = false ∧ r.onRing = false ∧ s.holds (.slot n) = false) ∧ s.parkedPlace r = false ∧ r.refused = true)) = true ∧
    (let s : State := holding fun r => { r with kind := .desc }
    let tag : BitVec 16 := 3
    let gen : BitVec 10 := 1
    let st : Nat := 1
    let n := tag.toNat
    let r := s.slot n
    decide (((r.kind ≠ .free ∧ r.gen = gen ∧ r.reel = false ∧ r.stream = false ∧ r.onRing = false ∧ s.holds (.slot n) = false) ∧ s.parkedPlace r = false ∧ r.refused = false) ∧ st = 1)) = true ∧
    (let s : State := holding fun r => { r with kind := .desc }
    let tag : BitVec 16 := 3
    let gen : BitVec 10 := 1
    let st : Nat := 2
    let n := tag.toNat
    let r := s.slot n
    decide (((r.kind ≠ .free ∧ r.gen = gen ∧ r.reel = false ∧ r.stream = false ∧ r.onRing = false ∧ s.holds (.slot n) = false) ∧ s.parkedPlace r = false ∧ r.refused = false) ∧ st = 2)) = true ∧
    (let s : State := holding fun r => { r with kind := .desc }
    let tag : BitVec 16 := 3
    let gen : BitVec 10 := 1
    let st : Nat := 0
    let n := tag.toNat
    let r := s.slot n
    decide (((r.kind ≠ .free ∧ r.gen = gen ∧ r.reel = false ∧ r.stream = false ∧ r.onRing = false ∧ s.holds (.slot n) = false) ∧ s.parkedPlace r = false ∧ r.refused = false) ∧ st = 0 ∧ r.kind = .desc)) = true ∧
    (let s : State := holding id
    let tag : BitVec 16 := 3
    let n := tag.toNat
    let r := s.slot n
    decide (r.data = [])) = true ∧
    (let s : State := holding fun r => { r with sentAt := 999999900000 }
    let tag : BitVec 16 := 3
    let n := tag.toNat
    let r := s.slot n
    decide (r.kind ≠ .free ∧ r.kind ≠ .reduce ∧ r.reel = false ∧ 100000 ≤ since r.sentAt s.time.lea)) = true ∧
    (let s : State := holding fun r => { r with sentAt := 999999900001 }
    let tag : BitVec 16 := 3
    let n := tag.toNat
    let r := s.slot n
    decide ((r.kind = .free ∨ r.kind = .reduce ∨ r.reel = true ∨ since r.sentAt s.time.lea < 100000))) = true := by
  refine ⟨?_, ?_, ?_, ?_, ?_, ?_, ?_, ?_, ?_, ?_⟩ <;> decide +kernel

theorem test_witness_RepliesAndStoreErrorsAreHandled_2 :
    (let s : State := holding id
    let n : Nat := 3
    decide (Tab.wf s.block {} = true ∧ Tab.wf (s.blk (n / 256)).slots {} = true ∧ (s.slot n).kind ≠ .free)) = true ∧
    (let s : State := cellRun id
    let r : SlotSt := { kind := .load }
    decide (CellWf s r.cell r.thread ∧ r.kind = .load)) = true ∧
    (let s : State := cellRun id
    let r : SlotSt := { kind := .vload }
    decide (CellWf s r.cell r.thread ∧ r.kind = .vload)) = true ∧
    (let s : State := (cellRun id).modCel 0 fun x => { x with requests := [(0, { kind := .load })] }
    let b : Block := 0
    let i : Nat := 0
    let c : Nat := 0
    let t : Nat := 0
    let r : SlotSt := { kind := .load }
    decide ((s.blk b).freeSlot = some i ∧ (s.blk b).frozen = false ∧ (s.reg (regionOfBlock b)).state = .running ∧ (s.blk b).threadSlots < 128 ∧ s.oldestRequest b = some (c, t, r))) = true ∧
    (let s : State := (cellRun id).modCel 0 fun x => { x with queue := [{ no := 0, desc := desc 1, started := true }] }
    let b : Block := 0
    let i : Nat := 0
    let c : Nat := 0
    let no : Nat := 0
    decide ((s.blk b).freeSlot = some i ∧ (s.blk b).frozen = false ∧ (s.reg (regionOfBlock b)).state = .running ∧ ((s.blk b).threadSlots ≥ 128 ∨ s.oldestRequest b = none) ∧ s.nextGrant b = some (c, no))) = true ∧
    (let s : State := ready
    let b : Block := 0
    decide (((s.blk b).freeSlot = none ∨ (s.blk b).frozen = true ∨ (s.reg (regionOfBlock b)).state ≠ .running))) = true ∧
    (let s : State := inJob
    decide (s.jobOpen = true)) = true ∧
    (let s : State := ready
    decide (s.jobOpen = false)) = true ∧
    (let s : State := badReg 8447 ready
    let c : Cell := 0
    let w : Nat := 8447
    decide ((s.cel c).regBad.get false w = true)) = true ∧
    (let s : State := badReg 8447 ready
    let c : Cell := 0
    let w : Nat := 0
    let bits : Nat := 2
    decide ((s.cel c).regBad.get false w = false ∧ 2 ≤ bits)) = true := by
  refine ⟨?_, ?_, ?_, ?_, ?_, ?_, ?_, ?_, ?_, ?_⟩ <;> decide +kernel

theorem test_witness_RepliesAndStoreErrorsAreHandled_3 :
    (let s : State := badReg 8447 ready
    let c : Cell := 0
    let w : Nat := 0
    decide ((s.cel c).regBad.get false w = false ∧ Tab.wf s.cell {} = true ∧ Tab.wf (s.cel c).regBad false = true)) = true ∧
    (let s : State := badWord 5 ready
    let w : Nat := 5
    decide (s.mems.sramPoison.get false w = true)) = true ∧
    (let s : State := ready
    let w : Nat := 5
    let bits : Nat := 2
    decide (s.mems.sramPoison.get false w = false ∧ 2 ≤ bits)) = true ∧
    (let s : State := ready
    let w : Nat := 5
    let v : Nat := 6
    decide (Tab.wf s.mems.sramPoison false = true ∧ v ≠ w)) = true := by
  refine ⟨?_, ?_, ?_, ?_⟩ <;> decide +kernel

theorem test_witness_TilesAreComparedBeforeRelease_1 :
    (let s : State := badWord 8 (tiled { tile1 with prog := { prog1 with aAddr := 64 } })
    let c : Cell := 0
    let tile : Tile := { tile1 with prog := { prog1 with aAddr := 64 } }
    let i : Instr := .tileIssue 0
    decide ((s.cel c).exec = some tile ∧ (s.reg (regionOfCell c)).state = .running ∧ tile.out = none ∧ (i = .tileIssue c ∧ tile.replay = false ∨ i = .replayIssue c ∧ tile.replay = true ∧ (s.cel c).replayPending = true) ∧ s.tilePoison c tile = true)) = true ∧
    (let s : State := (tiled { tile1 with prog := { prog1 with control := 1 } }).modReg 0 fun x => { x with entropyDead := true }
    let c : Cell := 0
    let tile : Tile := { tile1 with prog := { prog1 with control := 1 } }
    let i : Instr := .tileIssue 0
    decide ((s.cel c).exec = some tile ∧ (s.reg (regionOfCell c)).state = .running ∧ tile.out = none ∧ (i = .tileIssue c ∧ tile.replay = false ∨ i = .replayIssue c ∧ tile.replay = true ∧ (s.cel c).replayPending = true) ∧ s.tilePoison c tile = false ∧ tile.prog.control % 4 = 1 ∧ (s.reg (regionOfCell c)).entropyDead = true)) = true ∧
    (let s : State := (tiled { tile1 with replay := true }).modCel 0 fun x => { x with replayPending := true }
    let c : Cell := 0
    let tile : Tile := { tile1 with replay := true }
    let i : Instr := .replayIssue 0
    decide ((s.cel c).exec = some tile ∧ (s.reg (regionOfCell c)).state = .running ∧ tile.out = none ∧ (i = .tileIssue c ∧ tile.replay = false ∨ i = .replayIssue c ∧ tile.replay = true ∧ (s.cel c).replayPending = true) ∧ s.tilePoison c tile = false ∧ (tile.prog.control % 4 ≠ 1 ∨ (s.reg (regionOfCell c)).entropyDead = false) ∧ Tab.wf s.cell {} = true)) = true ∧
    (let s : State := tiled { tile1 with out := some {} }
    let c : Cell := 0
    decide (((s.cel c).exec = none ∨ (∃ tile, (s.cel c).exec = some tile ∧ (tile.out ≠ none ∨ tile.replay = true)) ∨ (s.reg (regionOfCell c)).state ≠ .running))) = true ∧
    (let s : State := tiled tile1
    let c : Cell := 0
    let tile : Tile := tile1
    decide ((s.cel c).exec = some tile ∧ (tile.replay = false ∨ tile.out ≠ none ∨ (s.reg (regionOfCell c)).state ≠ .running))) = true ∧
    (let s : State := tiled { tile1 with out := some {} }
    let c : Cell := 0
    let tile : Tile := { tile1 with out := some {} }
    let out : TileOut := {}
    let x : TileUpset := .none
    decide ((s.cel c).exec = some tile ∧ tile.out = some out ∧ out.holds x = true ∧ tile.replay = false)) = true ∧
    (let s : State := tiled { tile1 with out := some {}, replay := true }
    let c : Cell := 0
    let tile : Tile := { tile1 with out := some {}, replay := true }
    let out : TileOut := {}
    let x : TileUpset := .none
    decide ((s.cel c).exec = some tile ∧ tile.out = some out ∧ out.holds x = true ∧ tile.replay = true)) = true ∧
    (let s : State := (tiled { tile1 with out := some {} }).modCel 0 fun x => { x with mismatches := List.replicate 7 999999000001 }
    let c : Cell := 0
    let tile : Tile := { tile1 with out := some {} }
    let out : TileOut := {}
    let x : TileUpset := .unit_
    let recent := s.recentMismatches c
    decide ((s.cel c).exec = some tile ∧ tile.out = some out ∧ out.holds x = false ∧ 7 ≤ recent.length)) = true ∧
    (let s : State := { (tiled { tile1 with out := some {} }).modCel 0 fun x => { x with mismatches := List.replicate 7 999999000000 } with job := { inJob.job with launches := [{ launch1 with running := true, replay := true }] } }
    let c : Cell := 0
    let tile : Tile := { tile1 with out := some {} }
    let out : TileOut := {}
    let x : TileUpset := .unit_
    let recent := s.recentMismatches c
    let replays := match s.launchOf (regionOfCell c) with | some l => l.replay | none => false
    decide ((s.cel c).exec = some tile ∧ tile.out = some out ∧ out.holds x = false ∧ recent.length < 7 ∧ replays = true ∧ tile.replay = false)) = true ∧
    (let s : State := (tiled { tile1 with out := some {} }).modCel 0 fun x => { x with mismatches := List.replicate 6 999999000001 }
    let c : Cell := 0
    let tile : Tile := { tile1 with out := some {} }
    let out : TileOut := {}
    let x : TileUpset := .unit_
    let recent := s.recentMismatches c
    let replays := match s.launchOf (regionOfCell c) with | some l => l.replay | none => false
    decide ((s.cel c).exec = some tile ∧ tile.out = some out ∧ out.holds x = false ∧ recent.length < 7 ∧ (replays = false ∨ tile.replay = true))) = true := by
  refine ⟨?_, ?_, ?_, ?_, ?_, ?_, ?_, ?_, ?_, ?_⟩ <;> decide +kernel

theorem test_witness_TilesAreComparedBeforeRelease_2 :
    (let s : State := ready
    let c : Cell := 0
    decide (((s.cel c).exec = none ∨ ∃ tile, (s.cel c).exec = some tile ∧ tile.out = none))) = true ∧
    (let p : ArrayProg := { prog1 with pair := 1, aFormat := 1, bFormat := 1, scaleMode := 1, k := 16 }
    let rd : Nat → Nat → List Byte := fun _ n => List.replicate n 255
    let md : Draw := fun _ _ _ => .rne
    let dl : Option Int := none
    let out := tileEval p rd md dl
    let i : Nat := 0
    let d : Int := 1
    decide (i < out.checks.length ∧ d ≠ 0)) = true ∧
    (let p : ArrayProg := { prog1 with pair := 1, aFormat := 1, bFormat := 1, scaleMode := 1, k := 16 }
    let rd : Nat → Nat → List Byte := fun _ n => List.replicate n 255
    let md : Draw := fun _ _ _ => .rne
    let dl : Option Int := none
    let out := tileEval p rd md dl
    let n : Nat := 0
    decide (out.holds (.twin n) = true)) = true ∧
    (let s : State := ready.modReg 15 fun x => { x with entropyDead := true }
    let r : Region := 15
    decide ((s.reg r).entropyDead = true)) = true ∧
    (let s : State := ready
    let r : Region := 15
    decide ((s.reg r).entropyDead = false ∧ (s.reg r).entropyAlt = false)) = true ∧
    (let s : State := ready.modReg 15 fun x => { x with entropyAlt := true }
    let r : Region := 15
    decide ((s.reg r).entropyDead = false ∧ (s.reg r).entropyAlt = true)) = true := by
  refine ⟨?_, ?_, ?_, ?_, ?_, ?_⟩ <;> decide +kernel

theorem test_witness_ScheduleEntriesIssueWhenDue_1 :
    (let s : State := (scheduled 0).modBlk 0 fun x => { x with schedRunning := false }
    let b : Block := 0
    let e : SchedEntry := sched 0
    let waits := s.due b e = none ∨ (s.blk b).schedRunning = false ∨ (s.reg (b / 16)).state ≠ .running
    decide ((s.blk b).sched[(s.blk b).schedPos]? = some e ∧ waits)) = true ∧
    (let s : State := scheduled 1
    let b : Block := 0
    let e : SchedEntry := sched 1
    decide ((s.blk b).sched[(s.blk b).schedPos]? = some e ∧ e.action ≠ 0)) = true ∧
    (let s : State := scheduled 0
    let b : Block := 0
    let e : SchedEntry := sched 0
    let slip : Nat := (((scheduled 0).due 0 (sched 0)).getD 0)
    decide ((s.blk b).sched[(s.blk b).schedPos]? = some e ∧ s.due b e = some slip ∧ (s.blk b).schedRunning = true ∧ (s.reg (b / 16)).state = .running ∧ e.action = 0)) = true ∧
    (let s : State := withSram 0 arrayEntry (scheduled 1)
    let b : Block := 0
    let e : SchedEntry := sched 1
    let c := schedCell b e
    let slip : Nat := (((scheduled 0).due 0 (sched 0)).getD 0)
    decide ((s.blk b).sched[(s.blk b).schedPos]? = some e ∧ s.due b e = some slip ∧ (s.blk b).schedRunning = true ∧ (s.reg (b / 16)).state = .running ∧ e.action = 1 ∧ (s.cel c).placeFree = true ∧ ownStore e.operand 40 = true ∧ s.mems.sramBad (cellSram c e.operand) 40 = false ∧ (s.arrayProg c e.operand).valid = true)) = true ∧
    (let s : State := scheduled 1
    let b : Block := 0
    let e : SchedEntry := sched 1
    let c := schedCell b e
    let slip : Nat := (((scheduled 0).due 0 (sched 0)).getD 0)
    decide ((s.blk b).sched[(s.blk b).schedPos]? = some e ∧ s.due b e = some slip ∧ (s.blk b).schedRunning = true ∧ (s.reg (b / 16)).state = .running ∧ e.action = 1 ∧ (s.cel c).placeFree = true ∧ (ownStore e.operand 40 = false ∨ s.mems.sramBad (cellSram c e.operand) 40 = false ∧ (s.arrayProg c e.operand).valid = false))) = true ∧
    (let s : State := badWord 4 (withSram 0 arrayEntry (scheduled 1))
    let b : Block := 0
    let e : SchedEntry := sched 1
    let c := schedCell b e
    let slip : Nat := (((scheduled 0).due 0 (sched 0)).getD 0)
    decide ((s.blk b).sched[(s.blk b).schedPos]? = some e ∧ s.due b e = some slip ∧ (s.blk b).schedRunning = true ∧ (s.reg (b / 16)).state = .running ∧ e.action = 1 ∧ (s.cel c).placeFree = true ∧ ownStore e.operand 40 = true ∧ s.mems.sramBad (cellSram c e.operand) 40 = true)) = true ∧
    (let s : State := (scheduled 1).modCel 0 fun x => { x with exec := some tile1, queued := some tile1 }
    let b : Block := 0
    let e : SchedEntry := sched 1
    let c := schedCell b e
    let slip : Nat := (((scheduled 0).due 0 (sched 0)).getD 0)
    decide ((s.blk b).sched[(s.blk b).schedPos]? = some e ∧ s.due b e = some slip ∧ (s.blk b).schedRunning = true ∧ (s.reg (b / 16)).state = .running ∧ e.action = 1 ∧ (s.cel c).placeFree = false)) = true ∧
    (let s : State := descSched
    let b : Block := 0
    let e : SchedEntry := sched 2
    let c := schedCell b e
    let slip : Nat := 0
    let a : Nat := 4294967360
    decide ((s.blk b).sched[(s.blk b).schedPos]? = some e ∧ s.due b e = some slip ∧ (s.blk b).schedRunning = true ∧ (s.reg (b / 16)).state = .running ∧ e.action = 2 ∧ (s.cel c).queue.length < 16 ∧ s.descAddr b e.operand = some a ∧ s.mems.sramBad a 64 = false)) = true ∧
    (let s : State := badWord 536870927 descSched
    let b : Block := 0
    let e : SchedEntry := sched 2
    let c := schedCell b e
    let slip : Nat := 0
    let a : Nat := 4294967360
    decide ((s.blk b).sched[(s.blk b).schedPos]? = some e ∧ s.due b e = some slip ∧ (s.blk b).schedRunning = true ∧ (s.reg (b / 16)).state = .running ∧ e.action = 2 ∧ (s.cel c).queue.length < 16 ∧ s.descAddr b e.operand = some a ∧ s.mems.sramBad a 64 = true)) = true ∧
    (let s : State := scheduled 2
    let b : Block := 0
    let e : SchedEntry := sched 2
    let c := schedCell b e
    let slip : Nat := (((scheduled 0).due 0 (sched 0)).getD 0)
    decide ((s.blk b).sched[(s.blk b).schedPos]? = some e ∧ s.due b e = some slip ∧ (s.blk b).schedRunning = true ∧ (s.reg (b / 16)).state = .running ∧ e.action = 2 ∧ (s.cel c).queue.length < 16 ∧ s.descAddr b e.operand = none)) = true := by
  refine ⟨?_, ?_, ?_, ?_, ?_, ?_, ?_, ?_, ?_, ?_⟩ <;> decide +kernel

theorem test_witness_ScheduleEntriesIssueWhenDue_2 :
    (let s : State := (scheduled 2).modCel 0 fun x => { x with queue := List.replicate 16 { no := 0, desc := desc 1 } }
    let b : Block := 0
    let e : SchedEntry := sched 2
    let c := schedCell b e
    let slip : Nat := (((scheduled 0).due 0 (sched 0)).getD 0)
    decide ((s.blk b).sched[(s.blk b).schedPos]? = some e ∧ s.due b e = some slip ∧ (s.blk b).schedRunning = true ∧ (s.reg (b / 16)).state = .running ∧ e.action = 2 ∧ 16 ≤ (s.cel c).queue.length)) = true ∧
    (let s : State := scheduled 3
    let b : Block := 0
    let e : SchedEntry := sched 3
    let slip : Nat := 0
    decide ((s.blk b).sched[(s.blk b).schedPos]? = some e ∧ s.due b e = some slip ∧ (s.blk b).schedRunning = true ∧ (s.reg (b / 16)).state = .running ∧ e.action = 3 ∧ s.vc0Full b = false)) = true ∧
    (let s : State := (scheduled 3).modReg 0 fun x => { x with vc0 := [(0, List.replicate 32 { msg := { kind := 0, dst := 1, src := 0, number := 0 }, cw := true, ccw := false })] }
    let b : Block := 0
    let e : SchedEntry := sched 3
    let slip : Nat := 0
    decide ((s.blk b).sched[(s.blk b).schedPos]? = some e ∧ s.due b e = some slip ∧ (s.blk b).schedRunning = true ∧ (s.reg (b / 16)).state = .running ∧ e.action = 3 ∧ s.vc0Full b = true)) = true ∧
    (let s : State := scheduled 4
    let b : Block := 0
    let e : SchedEntry := sched 4
    let slip : Nat := (((scheduled 0).due 0 (sched 0)).getD 0)
    decide ((s.blk b).sched[(s.blk b).schedPos]? = some e ∧ s.due b e = some slip ∧ (s.blk b).schedRunning = true ∧ (s.reg (b / 16)).state = .running ∧ e.action = 4)) = true ∧
    (let s : State := { (scheduled 5).modThr 0 0 fun x => { x with state := .free } with job := { inJob.job with launches := [{ launch1 with running := true }], images := [{ handle := 1, mask := 1, entries := [{ blockMask := 1, cellMask := 1, thread := 0, addr := 0 }] }] } }
    let b : Block := 0
    let e : SchedEntry := sched 5
    let c := schedCell b e
    let slip : Nat := (((scheduled 0).due 0 (sched 0)).getD 0)
    let im : Image := { handle := 1, mask := 1, entries := [{ blockMask := 1, cellMask := 1, thread := 0, addr := 0 }] }
    let p : EntryPoint := { blockMask := 1, cellMask := 1, thread := 0, addr := 0 }
    decide ((s.blk b).sched[(s.blk b).schedPos]? = some e ∧ s.due b e = some slip ∧ (s.blk b).schedRunning = true ∧ (s.reg (b / 16)).state = .running ∧ e.action = 5 ∧ (s.thr c (schedThread e)).state = .free ∧ ((s.launchOf (regionOfBlock b)).bind fun l => s.image l.image) = some im ∧ im.entries[e.operand]? = some p)) = true ∧
    (let s : State := scheduled 5
    let b : Block := 0
    let e : SchedEntry := sched 5
    let c := schedCell b e
    let slip : Nat := (((scheduled 0).due 0 (sched 0)).getD 0)
    decide ((s.blk b).sched[(s.blk b).schedPos]? = some e ∧ s.due b e = some slip ∧ (s.blk b).schedRunning = true ∧ (s.reg (b / 16)).state = .running ∧ e.action = 5 ∧ (s.thr c (schedThread e)).state ≠ .free)) = true ∧
    (let s : State := scheduled 6
    let b : Block := 0
    let e : SchedEntry := sched 6
    let slip : Nat := (((scheduled 0).due 0 (sched 0)).getD 0)
    decide ((s.blk b).sched[(s.blk b).schedPos]? = some e ∧ s.due b e = some slip ∧ (s.blk b).schedRunning = true ∧ (s.reg (b / 16)).state = .running ∧ e.action = 6 ∧ (s.blk b).phases.contains e.operand = false)) = true ∧
    (let s : State := scheduled 6
    let b : Block := 0
    let e : SchedEntry := sched 6
    let k : Nat := 1
    decide ((s.blk b).sched[(s.blk b).schedPos]? = some e ∧ Tab.wf s.block {} = true ∧ k ≠ b.val)) = true := by
  refine ⟨?_, ?_, ?_, ?_, ?_, ?_, ?_, ?_⟩ <;> decide +kernel

end Sys2Proof.Tests
end

