-- ==== Sys2Proof/Tests/Witness4.lean ====
section
/-! SUPPORT. Witnesses: for each statement of Certificates/Slice0/Obligations.lean, small states and operands
that meet the hypotheses of its clauses, each clause on its own, at the edge of a range where there is one. -/

set_option Elab.async false

namespace Sys2Proof.Tests

open Sys2Proof Sys2Proof.Machine

theorem test_witness_RingFlitsAndReductionsArrive_1 :
    (let s : State := flitAt flit ready
    let r : Region := 0
    let f : Flit := { flit with dst := 2 }
    decide (((s.reg r).slotAt (flitLane f) f.dst).flit ≠ some f)) = true ∧
    (let s : State := flitAt flit ready
    let r : Region := 0
    let f : Flit := flit
    let err : RingErr := .hdr
    decide (((s.reg r).slotAt (flitLane f) f.dst).flit = some f ∧ f.type_ ≠ 6 ∧ err = .hdr)) = true ∧
    (let s : State := flitAt { flit with dstPort := 2, dst := 4 } ready
    let r : Region := 0
    let f : Flit := { flit with dstPort := 2, dst := 4 }
    let err : RingErr := .ue
    decide (((s.reg r).slotAt (flitLane f) f.dst).flit = some f ∧ f.type_ ≠ 6 ∧ err ≠ .hdr ∧ (f.dstPort = 1 ∨ f.dstPort = 2))) = true ∧
    (let s : State := flitAt { flit with srcPort := 1 } ready
    let r : Region := 0
    let f : Flit := { flit with srcPort := 1 }
    let err : RingErr := .none
    let s1 := (s.modRingSlot r (flitLane f) f.dst fun x => { x with flit := none }).ringError r f.dst f.ring f.cw err
    decide (((s.reg r).slotAt (flitLane f) f.dst).flit = some f ∧ f.type_ ≠ 6 ∧ err ≠ .hdr ∧ f.dstPort = 0 ∧ (f.srcPort ≠ 0 ∨ s1.answers 0 (r.val * 268435456) = false))) = true ∧
    (let s : State := flitAt { flit with type_ := 0, last := true } ready
    let r : Region := 0
    let f : Flit := { flit with type_ := 0, last := true }
    let err : RingErr := .none
    let s1 := (s.modRingSlot r (flitLane f) f.dst fun x => { x with flit := none }).ringError r f.dst f.ring f.cw err
    let s2 := s1.giveBack r f.dst f
    let a := r.val * 268435456 + f.addr.toNat % 268435456 + (f.addr.toNat / 4294967296 % 2) * 4294967296
    decide (((s.reg r).slotAt (flitLane f) f.dst).flit = some f ∧ f.type_ ≠ 6 ∧ err ≠ .hdr ∧ f.dstPort = 0 ∧ f.srcPort = 0 ∧ s1.answers 0 (r.val * 268435456) = true ∧ f.type_ = 0 ∧ s2.mems.sramBad a f.bytes = false)) = true ∧
    (let s : State := flitAt flit ready
    let r : Region := 0
    let f : Flit := flit
    let err : RingErr := .ce
    let s1 := (s.modRingSlot r (flitLane f) f.dst fun x => { x with flit := none }).ringError r f.dst f.ring f.cw err
    decide (((s.reg r).slotAt (flitLane f) f.dst).flit = some f ∧ f.type_ ≠ 6 ∧ err ≠ .hdr ∧ f.dstPort = 0 ∧ f.srcPort = 0 ∧ s1.answers 0 (r.val * 268435456) = true ∧ f.type_ = 2 ∧ f.last = false)) = true ∧
    (let s : State := flitAt { flit with last := true } ready
    let r : Region := 0
    let f : Flit := { flit with last := true }
    let err : RingErr := .none
    let s1 := (s.modRingSlot r (flitLane f) f.dst fun x => { x with flit := none }).ringError r f.dst f.ring f.cw err
    decide (((s.reg r).slotAt (flitLane f) f.dst).flit = some f ∧ f.type_ ≠ 6 ∧ err ≠ .hdr ∧ f.dstPort = 0 ∧ f.srcPort = 0 ∧ s1.answers 0 (r.val * 268435456) = true ∧ f.type_ = 2 ∧ f.last = true)) = true ∧
    (let a : Nat := 15
    let b : Nat := 7
    decide (a < 16 ∧ b < 16 ∧ goesCw a b = true)) = true ∧
    (let a : Nat := 15
    let b : Nat := 8
    decide (a < 16 ∧ b < 16 ∧ goesCw a b = false)) = true ∧
    (let x : RegionSt := {}
    let lane : Nat := 7
    let st : Nat := 15
    decide (Tab.wf x.slots {} = true ∧ lane < 8 ∧ st < 16)) = true := by
  refine ⟨?_, ?_, ?_, ?_, ?_, ?_, ?_, ?_, ?_, ?_⟩ <;> decide +kernel

theorem test_witness_RingFlitsAndReductionsArrive_2 :
    (let x : RegionSt := { passed := [(queueNo 15 7 3, 4)] }
    let st : Nat := 15
    let lane : Nat := 7
    let hs : List Head := [{ vc := 1, flit := flit }, { vc := 3, flit := flit }]
    let h : Head := { vc := 3, flit := flit }
    decide (x.choose st lane hs = some h)) = true ∧
    (let s : State := ready
    let r : Nat := 15
    let st : Nat := 15
    let lane : Nat := 7
    decide (Tab.wf s.region {} = true ∧ (∀ h ∈ s.heads r st lane, (s.reg r).holdsCredit h.flit = false))) = true ∧
    (let s : State := inJob
    decide (s.jobOpen = true ∧ s.job.fault ≠ .done)) = true ∧
    (let s : State := ready.modRingSlot 0 1 15 fun x => { x with credit := some (15, 1, 0) }
    let r : Region := 0
    let k : CreditKey := { sender := 15, receiver := 0, ring := 0, cw := true, vc := 1 }
    let lane := backLane (2 * k.ring.val + if k.cw then 0 else 1)
    decide (Tab.wf s.region {} = true ∧ Tab.wf (s.reg r).credits 0 = true ∧ Tab.wf (s.reg r).slots {} = true ∧ ((s.reg r).slotAt lane k.sender).credit = some (k.sender.val, k.vc.val, k.receiver.val))) = true ∧
    (let s : State := ready.modRingSlot 0 1 15 fun x => { x with credit := some (15, 1, 0) }
    let r : Region := 0
    let k : CreditKey := { sender := 15, receiver := 0, ring := 0, cw := true, vc := 2 }
    let lane := backLane (2 * k.ring.val + if k.cw then 0 else 1)
    decide (Tab.wf s.region {} = true ∧ Tab.wf (s.reg r).credits 0 = true ∧ Tab.wf (s.reg r).slots {} = true ∧ ((s.reg r).slotAt lane k.sender).credit ≠ some (k.sender.val, k.vc.val, k.receiver.val))) = true ∧
    (let s : State := ready
    let r : Region := 0
    let st : Fin 16 := 15
    let ring : Fin 4 := 3
    let cw : Bool := false
    let lane := laneNo ring cw
    let b := 8 * st.val + lane
    decide ((s.reg r).waits.get 0 b < 16)) = true ∧
    (let s : State := ready.modRingSlot 0 7 15 fun x => { x with rsv := some 0 }
    let r : Region := 0
    let st : Fin 16 := 15
    let ring : Fin 4 := 3
    let cw : Bool := false
    let lane := laneNo ring cw
    decide (((s.reg r).slotAt lane st).rsv ≠ none)) = true ∧
    (let s : State := ready.modReg 0 fun x => { x with rsv := 2 ^ 127 }
    let r : Region := 0
    let st : Fin 16 := 15
    let ring : Fin 4 := 3
    let cw : Bool := false
    let lane := laneNo ring cw
    let b := 8 * st.val + lane
    decide (bit (s.reg r).rsv b = true)) = true ∧
    (let s : State := ready.modReg 0 fun x => { x with waits := [(127, 16)] }
    let r : Region := 0
    let st : Fin 16 := 15
    let ring : Fin 4 := 3
    let cw : Bool := false
    let lane := laneNo ring cw
    let b := 8 * st.val + lane
    decide (16 ≤ (s.reg r).waits.get 0 b ∧ ((s.reg r).slotAt lane st).rsv = none ∧ bit (s.reg r).rsv b = false ∧ Tab.wf s.region {} = true ∧ Tab.wf (s.reg r).slots {} = true)) = true ∧
    (let s : State := ready.modRingSlot 0 5 2 fun x => { x with ctrl := some (message 0) }
    let r : Region := 0
    let m : CtrlMsg := message 0
    let lane : Nat := 5
    let st : Nat := 2
    decide ((s.reg r).ctrlLane m = some (lane, st))) = true := by
  refine ⟨?_, ?_, ?_, ?_, ?_, ?_, ?_, ?_, ?_, ?_⟩ <;> decide +kernel

theorem test_witness_RingFlitsAndReductionsArrive_3 :
    (let s : State := ready
    let r : Region := 15
    let m : CtrlMsg := message 0
    decide ((s.reg r).ctrlLane m = none ∧ m.kind = 0)) = true ∧
    (let s : State := ready
    let r : Region := 15
    let m : CtrlMsg := message 1
    decide ((s.reg r).ctrlLane m = none ∧ m.kind = 1)) = true ∧
    (let s : State := ready
    let r : Region := 15
    let m : CtrlMsg := message 2
    decide ((s.reg r).ctrlLane m = none ∧ m.kind = 2 ∧ m.gen.toNat = (s.bar r m.number).gen % 256)) = true ∧
    (let s : State := ready
    let r : Region := 15
    let m : CtrlMsg := { message 2 with gen := 1 }
    decide ((s.reg r).ctrlLane m = none ∧ m.kind = 2 ∧ m.gen.toNat ≠ (s.bar r m.number).gen % 256)) = true ∧
    (let s : State := ready
    let r : Region := 15
    let m : CtrlMsg := message 3
    decide ((s.reg r).ctrlLane m = none ∧ m.kind = 3)) = true ∧
    (let s : State := flitAt redF (reducing 0x110)
    let r : Region := 0
    let st : Fin 16 := 0
    let f : Flit := redF
    let err : RingErr := .hdr
    decide (((s.reg r).slotAt (flitLane f) st).flit = some f ∧ f.dst = st ∧ f.type_ = 6 ∧ err = .hdr)) = true ∧
    (let s : State := flitAt redF ready
    let r : Region := 0
    let st : Fin 16 := 0
    let f : Flit := redF
    let err : RingErr := .none
    let b := 16 * r.val + st.val
    let s1 := (s.modRingSlot r (flitLane f) st fun x => { x with flit := none }).ringError r st f.ring f.cw err
    let f1 := { f with poison := f.poison || decide (err = .ue) }
    decide (((s.reg r).slotAt (flitLane f) st).flit = some f ∧ f.dst = st ∧ f.type_ = 6 ∧ err ≠ .hdr ∧ s1.redAt b f1 = none)) = true ∧
    (let s : State := flitAt { redF with tag := 1 } (reducing 0x110)
    let r : Region := 0
    let st : Fin 16 := 0
    let f : Flit := { redF with tag := 1 }
    let err : RingErr := .none
    let b := 16 * r.val + st.val
    let s1 := (s.modRingSlot r (flitLane f) st fun x => { x with flit := none }).ringError r st f.ring f.cw err
    let f1 := { f with poison := f.poison || decide (err = .ue) }
    let g : RedGroup := group 0x110
    let d : Desc := { desc 7 with ext := 0x110 }
    decide (((s.reg r).slotAt (flitLane f) st).flit = some f ∧ f.dst = st ∧ f.type_ = 6 ∧ err ≠ .hdr ∧ s1.redAt b f1 = some (g, d) ∧ g.flits ≤ f.tag.toNat)) = true ∧
    (let s : State := flitAt redF (reducing 0x110)
    let r : Region := 0
    let st : Fin 16 := 0
    let f : Flit := redF
    let err : RingErr := .none
    let b := 16 * r.val + st.val
    let s1 := (s.modRingSlot r (flitLane f) st fun x => { x with flit := none }).ringError r st f.ring f.cw err
    let f1 := { f with poison := f.poison || decide (err = .ue) }
    let g : RedGroup := group 0x110
    let d : Desc := { desc 7 with ext := 0x110 }
    let f2 := s1.redSum b g d f1
    decide (((s.reg r).slotAt (flitLane f) st).flit = some f ∧ f.dst = st ∧ f.type_ = 6 ∧ err ≠ .hdr ∧ s1.redAt b f1 = some (g, d) ∧ f.tag.toNat < g.flits ∧ redDest g.ext ≠ st.val ∧ (s1.reg r).holdsCredit f2 = true)) = true ∧
    (let s : State := (flitAt redF (reducing 0x110)).modReg 0 fun x => { x with credits := [(creditIx { sender := 0, receiver := 1, ring := 0, cw := true, vc := 1 }, 8)] }
    let r : Region := 0
    let st : Fin 16 := 0
    let f : Flit := redF
    let err : RingErr := .none
    let b := 16 * r.val + st.val
    let s1 := (s.modRingSlot r (flitLane f) st fun x => { x with flit := none }).ringError r st f.ring f.cw err
    let f1 := { f with poison := f.poison || decide (err = .ue) }
    let g : RedGroup := group 0x110
    let d : Desc := { desc 7 with ext := 0x110 }
    let f2 := s1.redSum b g d f1
    decide (((s.reg r).slotAt (flitLane f) st).flit = some f ∧ f.dst = st ∧ f.type_ = 6 ∧ err ≠ .hdr ∧ s1.redAt b f1 = some (g, d) ∧ f.tag.toNat < g.flits ∧ redDest g.ext ≠ st.val ∧ (s1.reg r).holdsCredit f2 = false)) = true := by
  refine ⟨?_, ?_, ?_, ?_, ?_, ?_, ?_, ?_, ?_, ?_⟩ <;> decide +kernel

theorem test_witness_RingFlitsAndReductionsArrive_4 :
    (let s : State := flitAt redF (reducing 0x800000)
    let r : Region := 0
    let st : Fin 16 := 0
    let f : Flit := redF
    let err : RingErr := .none
    let b := 16 * r.val + st.val
    let s1 := (s.modRingSlot r (flitLane f) st fun x => { x with flit := none }).ringError r st f.ring f.cw err
    let f1 := { f with poison := f.poison || decide (err = .ue) }
    let g : RedGroup := group 0x800000
    let d : Desc := { desc 7 with ext := 0x800000 }
    decide (((s.reg r).slotAt (flitLane f) st).flit = some f ∧ f.dst = st ∧ f.type_ = 6 ∧ err ≠ .hdr ∧ s1.redAt b f1 = some (g, d) ∧ f.tag.toNat < g.flits ∧ redDest g.ext = st.val)) = true ∧
    (let s : State := flitAt redF ready
    let r : Region := 0
    let st : Fin 16 := 1
    let f : Flit := redF
    decide (((s.reg r).slotAt (flitLane f) st).flit ≠ some f)) = true ∧
    (let b : Nat := 0
    let g : RedGroup := group 0x110
    decide (redNext g.ext (b % 16) < 16)) = true ∧
    (let ext : Nat := 0x110
    let here : Nat := 0
    decide (here < 16 ∧ here ≠ redDest ext)) = true ∧
    (let g : RedGroup := group 0x800200
    let f : Flit := redF
    let i := f.tag.toNat
    let chains := g.chains.set none (2 * i + if f.cw then 0 else 1) (some (f.data, f.poison, f.rangeCount))
    decide ((((redChains g.ext).map fun k => chains.get none (2 * i + k)).any (·.isNone)) = true)) = true ∧
    (let s : State := reducing 0x800300
    let b : Nat := 0
    let g : RedGroup := { group 0x800300 with chains := [(1, some (List.replicate 256 1, false, 255))] }
    let d : Desc := { desc 7 with ext := 0x800300 }
    let f : Flit := redF
    let i := f.tag.toNat
    let own := s.redOwn g d i
    let chains := g.chains.set none (2 * i + if f.cw then 0 else 1) (some (f.data, f.poison, f.rangeCount))
    let A := (f.data, f.poison, f.rangeCount)
    let B := (List.replicate 256 1, false, 255)
    decide (redChains g.ext = [0, 1] ∧ chains.get none (2 * i) = some A ∧ chains.get none (2 * i + 1) = some B ∧ bit (redContrib g.ext) (b % 16) = true ∧ own.2 = false)) = true ∧
    (let s : State := reducing 16
    let b : Block := 0
    let n : Nat := 0
    let g : RedGroup := group 16
    decide ((s.blk b).groups.get none n = some g ∧ 100000 ≤ since g.startAt s.time.lea ∧ g.done < g.flits)) = true ∧
    (let s : State := { reducing 16 with time := { (reducing 16).time with lea := 999999999999 } }
    let b : Block := 0
    let n : Nat := 0
    let g : RedGroup := group 16
    decide ((s.blk b).groups.get none n = some g ∧ (since g.startAt s.time.lea < 100000 ∨ g.flits ≤ g.done))) = true ∧
    (let a : Nat := 2 ^ 31 - 1
    let b : Nat := 1
    let v := signed 32 a + signed 32 b
    decide (a < 2 ^ 32 ∧ b < 2 ^ 32 ∧ v > 2 ^ 31 - 1)) = true ∧
    (let a : Nat := 2 ^ 31
    let b : Nat := 2 ^ 32 - 1
    let v := signed 32 a + signed 32 b
    decide (a < 2 ^ 32 ∧ b < 2 ^ 32 ∧ v < -(2 ^ 31))) = true := by
  refine ⟨?_, ?_, ?_, ?_, ?_, ?_, ?_, ?_, ?_, ?_⟩ <;> decide +kernel

theorem test_witness_RingFlitsAndReductionsArrive_5 :
    (let a : Nat := 2 ^ 31 - 1
    let b : Nat := 0
    let v := signed 32 a + signed 32 b
    decide (a < 2 ^ 32 ∧ b < 2 ^ 32 ∧ -(2 ^ 31) ≤ v ∧ v ≤ 2 ^ 31 - 1)) = true ∧
    (let op : Nat := 2
    let a : Nat := 0x7F800001
    let b : Nat := 0
    decide (op ≤ 2 ∧ a < 2 ^ 32 ∧ b < 2 ^ 32 ∧ 0x7F800000 < a % 2 ^ 31)) = true ∧
    (let a : List Byte := [0, 0, 0, 0]
    let b : List Byte := [1, 2, 3, 4]
    decide (a.length = b.length ∧ a.length % 4 = 0)) = true := by
  refine ⟨?_, ?_, ?_⟩ <;> decide +kernel

theorem test_witness_FramesAndPacketsAreReceived_1 :
    (let s : State := aligned .hunt 0
    let id : BitVec 32 := bobId
    let stn : Stn := 1
    let f : BitVec 544 := 0
    let b : Bob := bob1 1
    let k : Nat := 0
    let x := s.rcv id stn
    decide (s.dropOf id stn = some (b, k) ∧ x.align = .hunt ∧ syndrome f = 0)) = true ∧
    (let s : State := aligned .hunt 0
    let id : BitVec 32 := bobId
    let stn : Stn := 1
    let f : BitVec 544 := 1
    let b : Bob := bob1 1
    let k : Nat := 0
    let x := s.rcv id stn
    decide (s.dropOf id stn = some (b, k) ∧ x.align = .hunt ∧ syndrome f ≠ 0)) = true ∧
    (let s : State := aligned .presync 5
    let id : BitVec 32 := bobId
    let stn : Stn := 1
    let b : Bob := bob1 1
    let k : Nat := 0
    let x := s.rcv id stn
    decide (s.dropOf id stn = some (b, k) ∧ x.align = .presync)) = true ∧
    (let s : State := aligned .presync 5
    let id : BitVec 32 := bobId
    let stn : Stn := 1
    let f : BitVec 544 := 0
    let b : Bob := bob1 1
    let k : Nat := 0
    let x := s.rcv id stn
    let d : Nat := ((decodeFrame 0).getD (0, 0)).1
    let n : Nat := 0
    decide (s.dropOf id stn = some (b, k) ∧ x.align = .presync ∧ decodeFrame f = some (d, n) ∧ 5 ≤ x.run)) = true ∧
    (let s : State := aligned .presync 4
    let id : BitVec 32 := bobId
    let stn : Stn := 1
    let f : BitVec 544 := 0
    let b : Bob := bob1 1
    let k : Nat := 0
    let x := s.rcv id stn
    let d : Nat := ((decodeFrame 0).getD (0, 0)).1
    let n : Nat := 0
    decide (s.dropOf id stn = some (b, k) ∧ x.align = .presync ∧ decodeFrame f = some (d, n) ∧ x.run < 5)) = true ∧
    (let s : State := aligned .sync 6
    let id : BitVec 32 := bobId
    let stn : Stn := 1
    let f : BitVec 544 := 0
    let b : Bob := bob1 1
    let k : Nat := 0
    let x := s.rcv id stn
    let d : Nat := ((decodeFrame 0).getD (0, 0)).1
    let n : Nat := 0
    decide (s.dropOf id stn = some (b, k) ∧ x.align = .sync ∧ decodeFrame f = some (d, n))) = true ∧
    (let s : State := aligned .sync 5
    let id : BitVec 32 := bobId
    let stn : Stn := 1
    let b : Bob := bob1 1
    let k : Nat := 0
    let x := s.rcv id stn
    decide (s.dropOf id stn = some (b, k) ∧ x.align = .sync ∧ x.run < 6)) = true ∧
    (let s : State := aligned .sync 6
    let id : BitVec 32 := bobId
    let stn : Stn := 1
    let b : Bob := bob1 1
    let k : Nat := 0
    let x := s.rcv id stn
    decide (s.dropOf id stn = some (b, k) ∧ x.align = .sync ∧ 6 ≤ x.run)) = true ∧
    (let s : State := aligned .sync 0
    let id : BitVec 32 := bobId
    let stn : Stn := 2
    decide (s.dropOf id stn = none)) = true ∧
    (let s : State := ready
    let id : BitVec 32 := bobId
    decide (s.bobById id = none)) = true := by
  refine ⟨?_, ?_, ?_, ?_, ?_, ?_, ?_, ?_, ?_, ?_⟩ <;> decide +kernel

theorem test_witness_FramesAndPacketsAreReceived_2 :
    (let s : State := { aligned .sync 0 with creel := { (aligned .sync 0).creel with fenced := 2 } }
    let stn : Stn := 1
    decide (s.isFenced stn = true)) = true ∧
    (let s : State := phaseLive 3 ready
    let id : BitVec 32 := bobId
    let b := bob1 3
    decide (s.bobById id = some b ∧ b.kind = 3)) = true ∧
    (let s : State := aligned .sync 0
    let id : BitVec 32 := bobId
    let stn : Stn := 2
    let b := bob1 1
    decide (s.bobById id = some b ∧ (∀ d ∈ b.drops, d.1 ≠ stn.val))) = true ∧
    (let s : State := aligned .hunt 0
    let id : BitVec 32 := bobId
    let stn : Stn := 1
    let b := bob1 1
    decide (s.bobById id = some b ∧ b.kind ≠ 3 ∧ s.isFenced stn = false ∧ bit s.creel.pruned stn = false ∧ (∃ d ∈ b.drops, d.1 = stn.val))) = true ∧
    (let s : State := ready.modRcv bobId 1 fun x => { x with expect := some 31 }
    let id : BitVec 32 := bobId
    let stn : Nat := 1
    let d : Nat := 240
    let e : BitVec 5 := 31
    decide (Tab.wf s.skein.rcv {} = true ∧ (s.rcv id stn).expect = some e ∧ e ≠ frameSeq d ∧ s.rawRx id stn = none ∧ frameKind d = 0)) = true ∧
    (let s : State := aligned .hunt 64
    let id : BitVec 32 := bobId
    let stn : Stn := 1
    decide ((s.rcv id stn).align = .hunt ∧ 64 ≤ (s.rcv id stn).run)) = true ∧
    (let s : State := aligned .sync 64
    let id : BitVec 32 := bobId
    let stn : Stn := 1
    decide ((s.rcv id stn).align ≠ .hunt)) = true ∧
    (let s : State := aligned .hunt 63
    let id : BitVec 32 := bobId
    let stn : Stn := 1
    decide ((s.rcv id stn).run < 64)) = true ∧
    (let f : BitVec 544 := 0
    decide (syndrome f = 0)) = true ∧
    (let d : Nat := 2 ^ 520 - 1
    decide (d < 2 ^ 520)) = true := by
  refine ⟨?_, ?_, ?_, ?_, ?_, ?_, ?_, ?_, ?_, ?_⟩ <;> decide +kernel

theorem test_witness_FramesAndPacketsAreReceived_3 :
    (let p : SPkt := spkt 4
    decide (p.dst < 64 ∧ p.src < 64 ∧ p.type_ < 16 ∧ p.status < 8 ∧ p.space < 8 ∧ p.length < 2048 ∧ p.data.length ≤ 1024 ∧ (p.type_ = 0 → p.data = []) ∧ (p.type_ ≠ 0 → p.length = p.data.length))) = true ∧
    (let stn : Stn := 2
    let p : SPkt := spkt 0
    decide (p.dst ≠ stn.val)) = true ∧
    (let s : State := phaseTo 16
    let id : BitVec 32 := bobId
    let stn : Stn := 16
    let p : SPkt := { spkt 0 with dst := 16 }
    let b : Bob := { bob1 1 with drops := [(16, 0)] }
    decide (s.bobById id = some b ∧ b.src = p.src ∧ p.dst = stn.val ∧ (∃ d ∈ b.drops, d.1 = stn.val) ∧ 16 ≤ stn.val)) = true ∧
    (let s : State := (aligned .sync 0).modReg 1 fun x => { x with state := .reset }
    let id : BitVec 32 := bobId
    let stn : Stn := 1
    let p : SPkt := spkt 1
    let b : Bob := bob1 1
    decide (s.bobById id = some b ∧ b.src = p.src ∧ p.dst = stn.val ∧ (∃ d ∈ b.drops, d.1 = stn.val) ∧ stn.val < 16 ∧ (s.reg stn).state = .reset ∧ (p.type_ = 1 ∨ p.type_ = 3 ∨ p.type_ = 5))) = true ∧
    (let s : State := (aligned .sync 0).modReg 1 fun x => { x with state := .reset }
    let id : BitVec 32 := bobId
    let stn : Stn := 1
    let p : SPkt := spkt 2
    let b : Bob := bob1 1
    decide (s.bobById id = some b ∧ b.src = p.src ∧ p.dst = stn.val ∧ (∃ d ∈ b.drops, d.1 = stn.val) ∧ stn.val < 16 ∧ (s.reg stn).state = .reset ∧ (p.type_ ≠ 1 ∧ p.type_ ≠ 3 ∧ p.type_ ≠ 5))) = true ∧
    (let s : State := aligned .sync 0
    let id : BitVec 32 := bobId
    let stn : Stn := 1
    let p : SPkt := spkt 1
    let b : Bob := bob1 1
    let s1 := s.retried id p.tag.toNat
    decide (s.bobById id = some b ∧ b.src = p.src ∧ p.dst = stn.val ∧ (∃ d ∈ b.drops, d.1 = stn.val) ∧ stn.val < 16 ∧ (s.reg stn).state ≠ .reset ∧ (s1.reg stn).state ≠ .reset ∧ (p.type_ = 1 ∨ p.type_ = 3 ∨ p.type_ = 5) ∧ p.tag.toNat / 4096 = stn.val)) = true ∧
    (let s : State := aligned .sync 0
    let id : BitVec 32 := bobId
    let stn : Stn := 1
    let p : SPkt := spkt 0
    let b : Bob := bob1 1
    let a := p.addr.toNat
    let s1 := s.retried id p.tag.toNat
    let s2 := s1.gateIn stn p
    decide (s.bobById id = some b ∧ b.src = p.src ∧ p.dst = stn.val ∧ (∃ d ∈ b.drops, d.1 = stn.val) ∧ stn.val < 16 ∧ (s.reg stn).state ≠ .reset ∧ (s1.reg stn).state ≠ .reset ∧ p.type_ = 0 ∧ p.space = 0 ∧ sramValid a p.length = true ∧ regionOfSram a = stn.val ∧ s2.mems.sramBad a p.length = false)) = true ∧
    (let s : State := aligned .sync 0
    let id : BitVec 32 := bobId
    let stn : Stn := 1
    let p : SPkt := spkt 2
    let b : Bob := bob1 1
    let a := p.addr.toNat
    let s1 := s.retried id p.tag.toNat
    let s2 := s1.gateIn stn p
    decide (s.bobById id = some b ∧ b.src = p.src ∧ p.dst = stn.val ∧ (∃ d ∈ b.drops, d.1 = stn.val) ∧ stn.val < 16 ∧ (s.reg stn).state ≠ .reset ∧ (s1.reg stn).state ≠ .reset ∧ p.type_ = 2 ∧ p.space = 0 ∧ sramValid a p.data.length = true ∧ regionOfSram a = stn.val ∧ s2.unanswered p = false)) = true ∧
    (let s : State := aligned .sync 0
    let id : BitVec 32 := bobId
    let stn : Stn := 1
    let p : SPkt := { spkt 0 with space := 1 }
    let b : Bob := bob1 1
    let a := p.addr.toNat
    let s1 := s.retried id p.tag.toNat
    decide (s.bobById id = some b ∧ b.src = p.src ∧ p.dst = stn.val ∧ (∃ d ∈ b.drops, d.1 = stn.val) ∧ stn.val < 16 ∧ (s.reg stn).state ≠ .reset ∧ (s1.reg stn).state ≠ .reset ∧ (p.type_ = 0 ∨ p.type_ = 2) ∧ (p.space ≠ 0 ∨ regionOfSram a ≠ stn.val))) = true ∧
    (let s : State := (aligned .sync 0).modSnd bobId fun x => { x with idleOnly := true }
    let id : BitVec 32 := bobId
    decide (Tab.wf s.skein.snd {} = true ∧ s.idles id = true)) = true := by
  refine ⟨?_, ?_, ?_, ?_, ?_, ?_, ?_, ?_, ?_, ?_⟩ <;> decide +kernel

theorem test_witness_FramesAndPacketsAreReceived_4 :
    (let s : State := (aligned .sync 0).modSnd bobId fun x => { x with fails := [(3, 3)] }
    let id : BitVec 32 := bobId
    let p : SPkt := spkt 0
    let tag := p.tag.toNat
    let n := (s.snd id).fails.get 0 tag
    decide (3 ≤ n)) = true ∧
    (let s : State := (aligned .sync 0).modSnd bobId fun x => { x with fails := [(3, 2)] }
    let id : BitVec 32 := bobId
    let loop : Nat := 0
    let p : SPkt := spkt 0
    let tag := p.tag.toNat
    let n := (s.snd id).fails.get 0 tag
    let forgot := s.modSnd id fun y =>
      { y with fails := y.fails.set 0 tag 0, log := y.log.filter fun e => decide (e.2 ≠ tag), sent := y.sent.filter fun q => decide (q.tag ≠ p.tag) }
    let dest : BitVec 32 := (forgot.otherBob id loop p).getD 0
    decide (n < 3 ∧ forgot.otherBob id loop p = some dest)) = true ∧
    (let s : State := ready.modSnd bobId fun x => { x with fails := [(3, 2)] }
    let id : BitVec 32 := bobId
    let loop : Nat := 0
    let p : SPkt := spkt 0
    let tag := p.tag.toNat
    let n := (s.snd id).fails.get 0 tag
    let forgot := s.modSnd id fun y =>
      { y with fails := y.fails.set 0 tag 0, log := y.log.filter fun e => decide (e.2 ≠ tag), sent := y.sent.filter fun q => decide (q.tag ≠ p.tag) }
    decide (n < 3 ∧ forgot.otherBob id loop p = none)) = true ∧
    (let s : State := (aligned .sync 0).modSnd bobId fun x => { x with fails := [(3, 3)] }
    let id : BitVec 32 := bobId
    let b : Bob := bob1 1
    decide (s.bobById id = some b)) = true ∧
    (let s : State := ready.modSnd bobId fun x => { x with fails := [(3, 3)] }
    let id : BitVec 32 := bobId
    decide (s.bobById id = none)) = true ∧
    (let s : State := (aligned .sync 0).modSnd bobId fun x => { x with idleOnly := true, darkAt := 999998000001 }
    let id : BitVec 32 := bobId
    let s1 := s.modSnd id fun x => { x with idleOnly := false }
    decide (s1.idles id = false)) = true ∧
    (let s : State := (aligned .sync 0).modSnd bobId fun x => { x with openAt := 1000000000001 }
    let id : BitVec 32 := bobId
    let s1 := s.modSnd id fun x => { x with idleOnly := false }
    decide (s1.idles id = true)) = true ∧
    (let s : State := (aligned .sync 0).modSnd bobId fun x => { x with idleOnly := true, darkAt := 999998000001 }
    let id : BitVec 32 := bobId
    let x := s.snd id
    decide ((x.idleOnly = false ∨ since x.darkAt s.time.lea < 2000000))) = true ∧
    (let s : State := (aligned .sync 0).modSnd bobId fun x => { x with idleOnly := true, darkAt := 999998000000 }
    let id : BitVec 32 := bobId
    let x := s.snd id
    decide (x.idleOnly = true ∧ 2000000 ≤ since x.darkAt s.time.lea)) = true ∧
    (let s : State := aligned .sync 0
    let id : BitVec 32 := bobId
    decide (s.rawTx id = none)) = true := by
  refine ⟨?_, ?_, ?_, ?_, ?_, ?_, ?_, ?_, ?_, ?_⟩ <;> decide +kernel

theorem test_witness_FramesAndPacketsAreReceived_5 :
    (let s : State := { aligned .sync 0 with creel := { (aligned .sync 0).creel with pruned := 2 } }
    let stn : Stn := 1
    decide (bit s.creel.pruned stn = true)) = true ∧
    (let s : State := rawSends
    let id : BitVec 32 := bobId
    let stn : Stn := 1
    let final : Bool := false
    let b : Bob := bob1 2
    let c : Nat := 0
    let q : DescSt := ((s.rawTx id).map (·.2)).getD { no := 1, desc := desc 5 }
    decide (s.rawTx id = some (c, q) ∧ s.bobById id = some b ∧ (∃ d ∈ b.drops, d.1 = stn.val) ∧ s.isFenced stn = false ∧ bit s.creel.pruned stn = false ∧ (final = false ∨ (s.rcv id stn).finished = false))) = true ∧
    (let s : State := rawSends.modRcv bobId 1 fun x => { x with finished := true }
    let id : BitVec 32 := bobId
    let stn : Stn := 1
    let final : Bool := true
    let b : Bob := bob1 2
    let c : Nat := 0
    let q : DescSt := ((s.rawTx id).map (·.2)).getD { no := 1, desc := desc 5 }
    decide (s.rawTx id = some (c, q) ∧ s.bobById id = some b ∧ (∃ d ∈ b.drops, d.1 = stn.val) ∧ s.isFenced stn = false ∧ bit s.creel.pruned stn = false ∧ final = true ∧ (s.rcv id stn).finished = true)) = true ∧
    (let s : State := (rawGets true).modRcv bobId 1 fun x => { x with waiting := List.replicate 63 default }
    let id : BitVec 32 := bobId
    let stn : Nat := 1
    let c : Nat := 256
    let q : DescSt := ((s.rawRx id 1).map (·.2)).getD { no := 1, desc := desc 6 }
    decide (s.rawRx id stn = some (c, q) ∧ (s.blk (blockOfCell c)).frozen = true ∧ (s.rcv id stn).waiting.length < 64)) = true ∧
    (let s : State := (rawGets true).modRcv bobId 1 fun x => { x with waiting := List.replicate 64 default }
    let id : BitVec 32 := bobId
    let stn : Nat := 1
    let c : Nat := 256
    let q : DescSt := ((s.rawRx id 1).map (·.2)).getD { no := 1, desc := desc 6 }
    decide (s.rawRx id stn = some (c, q) ∧ (s.blk (blockOfCell c)).frozen = true ∧ 64 ≤ (s.rcv id stn).waiting.length)) = true := by
  refine ⟨?_, ?_, ?_, ?_, ?_⟩ <;> decide +kernel

theorem test_witness_RingsLockAndLoopsAreJudged_1 :
    (let s : State := ready.modRing 0 fun x => { x with state := .verify }
    let i : RingIx := ⟨0, 0, .tx, 0⟩
    let r := ringIx i
    let x := s.ring r
    let pilot : Option Line := none
    decide (ringExists i = true ∧ x.state = .verify ∧ pilot.map (·.val) ≠ some (s.ringLine r))) = true ∧
    (let s : State := ready.modRing 0 fun x => { x with state := .verify, line := some 47, passed := 1 }
    let i : RingIx := ⟨0, 0, .tx, 0⟩
    let r := ringIx i
    let x := s.ring r
    let pilot : Option Line := some 47
    decide (ringExists i = true ∧ x.state = .verify ∧ pilot.map (·.val) = some (s.ringLine r) ∧ 1 ≤ x.passed)) = true ∧
    (let s : State := ready.modRing 0 fun x => { x with state := .verify, line := some 47 }
    let i : RingIx := ⟨0, 0, .tx, 0⟩
    let r := ringIx i
    let x := s.ring r
    let pilot : Option Line := some 47
    decide (ringExists i = true ∧ x.state = .verify ∧ pilot.map (·.val) = some (s.ringLine r) ∧ x.passed = 0)) = true ∧
    (let s : State := ready.modRing 0 fun x => { x with state := .locked, line := some 47 }
    let i : RingIx := ⟨0, 0, .tx, 0⟩
    let r := ringIx i
    let x := s.ring r
    let pilot : Option Line := some 47
    decide (ringExists i = true ∧ x.state = .locked ∧ pilot.map (·.val) = some (s.ringLine r))) = true ∧
    (let s : State := ready.modRing 0 fun x => { x with state := .locked, line := some 46 }
    let i : RingIx := ⟨0, 0, .tx, 0⟩
    let r := ringIx i
    let x := s.ring r
    let pilot : Option Line := some 47
    decide (ringExists i = true ∧ x.state = .locked ∧ pilot.map (·.val) ≠ some (s.ringLine r))) = true ∧
    (let i : RingIx := ⟨16, 0, .ply, 0⟩
    decide (ringExists i = false)) = true ∧
    (let s : State := ready.modRing 0 fun x => { x with state := .relock }
    let i : RingIx := ⟨0, 0, .tx, 0⟩
    let r := ringIx i
    let x := s.ring r
    decide ((x.state = .locking ∨ x.state = .relock))) = true ∧
    (let s : State := ready
    let i : RingIx := ⟨0, 0, .tx, 0⟩
    let r := ringIx i
    let x := s.ring r
    decide (x.state ≠ .locking ∧ x.state ≠ .relock)) = true ∧
    (let s : State := ready.modRing 0 fun x => { x with state := .muted }
    let i : RingIx := ⟨0, 0, .tx, 0⟩
    let r := ringIx i
    let x := s.ring r
    decide (x.state = .muted)) = true ∧
    (let s : State := ready
    let i : RingIx := ⟨0, 0, .tx, 0⟩
    let r := ringIx i
    let x := s.ring r
    decide (x.state ≠ .muted)) = true := by
  refine ⟨?_, ?_, ?_, ?_, ?_, ?_, ?_, ?_, ?_, ?_⟩ <;> decide +kernel

theorem test_witness_RingsLockAndLoopsAreJudged_2 :
    (let s : State := ready.modRing 0 fun x => { x with attempts := 1 }
    let r : Nat := 0
    decide (Tab.wf s.skein.ring s.skein.ringDefault = true ∧ (s.ring r).attempts < 2)) = true ∧
    (let s : State := ready.modRing 0 fun x => { x with attempts := 2 }
    let r : Nat := 0
    decide (Tab.wf s.skein.ring s.skein.ringDefault = true ∧ 2 ≤ (s.ring r).attempts)) = true ∧
    (let s : State := lit
    let n : Loop := 127
    decide ((s.loopSt n).state.usable = true)) = true ∧
    (let s : State := { lit.modLoop 127 (fun x => { x with state := .locking }) with creel := { lit.creel with requal := some { loops := [127], rings := [], lanes := { x0 := 16, x1 := 16 } } } }
    let n : Loop := 127
    decide ((s.loopSt n).state = .locking ∧ s.creel.requal.isSome = true)) = true ∧
    (let s : State := lit.modLoop 127 fun x => { x with state := .locking }
    let n : Loop := 127
    decide ((s.loopSt n).state = .locking ∧ s.creel.requal = none)) = true ∧
    (let s : State := lit.modLoop 127 fun x => { x with state := .withdrawn }
    let n : Loop := 127
    decide ((s.loopSt n).state.usable = false ∧ (s.loopSt n).state ≠ .locking)) = true ∧
    (let s : State := lit.modLoop 127 fun x => { x with corrected := 101, bits := 10 ^ 9 }
    let n : Nat := 127
    let x := s.loopSt n
    decide (10 ^ 9 ≤ x.bits ∧ x.badRings = [] ∧ x.bits < x.corrected * 10 ^ 7)) = true ∧
    (let s : State := lit.modLoop 127 fun x => { x with rings := [(0, (101, 10 ^ 9)), (1, (101, 10 ^ 9))] }
    let n : Nat := 127
    let x := s.loopSt n
    decide (2 ≤ x.badRings.length)) = true ∧
    (let s : State := lit.modLoop 127 fun x => { x with corrected := 100, bits := 10 ^ 9 }
    let n : Nat := 127
    let x := s.loopSt n
    decide (10 ^ 9 ≤ x.bits ∧ x.badRings = [] ∧ x.corrected * 10 ^ 7 ≤ x.bits)) = true ∧
    (let s : State := lit.modLoop 127 fun x => { x with corrected := 100, bits := 10 ^ 9, rings := [(8, (101, 10 ^ 9))] }
    let n : Nat := 127
    let x := s.loopSt n
    let k := 8
    decide (x.badRings = [k] ∧ 10 ^ 9 ≤ x.bits ∧ x.corrected * 10 ^ 7 ≤ x.bits)) = true := by
  refine ⟨?_, ?_, ?_, ?_, ?_, ?_, ?_, ?_, ?_, ?_⟩ <;> decide +kernel

theorem test_witness_RingsLockAndLoopsAreJudged_3 :
    (let s : State := lit.modLoop 127 fun x => { x with corrected := 100, bits := 10 ^ 9 - 1, rings := [(8, (101, 10 ^ 9))] }
    let n : Nat := 127
    let x := s.loopSt n
    let k := 8
    decide (x.badRings = [k] ∧ x.bits < 10 ^ 9)) = true ∧
    (let s : State := lit
    let n : Nat := 127
    let x := s.loopSt n
    decide (x.badRings = [] ∧ x.bits < 10 ^ 9)) = true ∧
    (let s : State := lit.modLoop 127 fun x => { x with hot := 1 }
    let n : Nat := 127
    let x := s.loopSt n
    decide (x.bits < 10 ^ 9)) = true ∧
    (let s : State := lit.modLoop 127 fun x => { x with rings := [(8, (101, 10 ^ 9))] }
    let n : Nat := 127
    let x := s.loopSt n
    let k := 8
    let c := 101
    let b := 10 ^ 9
    decide ((k, c, b) ∈ x.rings ∧ 10 ^ 9 ≤ b ∧ b < c * 10 ^ 7)) = true ∧
    (let s : State := lit.modLoop 127 fun x => { x with hot := 1 }
    let n : Nat := 127
    decide (Tab.wf s.skein.loop {} = true ∧ (s.loopSt n).state.usable = true ∧ 1 ≤ (s.loopSt n).hot)) = true ∧
    (let s : State := lit.modLoop 127 fun x => { x with cool := 1 }
    let n : Nat := 127
    decide (Tab.wf s.skein.loop {} = true ∧ (s.loopSt n).state.usable = true ∧ 1 ≤ (s.loopSt n).cool)) = true ∧
    (let s : State := lit
    let n : Nat := 127
    let m : Nat := 126
    decide (Tab.wf s.skein.loop {} = true ∧ (s.loopSt n).state.usable = true ∧ m ≠ n)) = true ∧
    (let a : Nat := 1
    let b : Nat := 2
    decide (0 < a ∧ 0 < b ∧ a < b)) = true := by
  refine ⟨?_, ?_, ?_, ?_, ?_, ?_, ?_, ?_⟩ <;> decide +kernel

theorem test_witness_PlyGroupsAcceptCheckedBlocks_codes1 :
    (let s : State := plying1 { grp0 with go := true, going := 1 }
    let p : PlyIx := 64
    let g : PlyGroup := { grp0 with go := true, going := 1 }
    let rho := s.plyResidues g g.next
    let codes : List Nat := List.replicate 64 0
    decide (s.plyRuns p = some g ∧ (s.plySums p g codes).sum % 255 = rho % 255)) = true := by
  decide +kernel

theorem test_witness_PlyGroupsAcceptCheckedBlocks_codes2 :
    (let s : State := plying1 { grp0 with go := true, going := 1 }
    let p : PlyIx := 64
    let g : PlyGroup := { grp0 with go := true, going := 1 }
    let rho := s.plyResidues g g.next
    let recent := s.plyRecent p ++ [s.time.lea]
    let codes : List Nat := 6 :: List.replicate 63 0
    decide (s.plyRuns p = some g ∧ (s.plySums p g codes).sum % 255 ≠ rho % 255 ∧ recent.length < 8)) = true := by
  decide +kernel

theorem test_witness_PlyGroupsAcceptCheckedBlocks_codes3 :
    (let s : State := (plying1 { grp0 with go := true, going := 1 }).modPly 64 fun x => { x with mismatches := List.replicate 7 999999000001 }
    let p : PlyIx := 64
    let g : PlyGroup := { grp0 with go := true, going := 1 }
    let rho := s.plyResidues g g.next
    let recent := s.plyRecent p ++ [s.time.lea]
    let codes : List Nat := 6 :: List.replicate 63 0
    decide (s.plyRuns p = some g ∧ (s.plySums p g codes).sum % 255 ≠ rho % 255 ∧ 8 ≤ recent.length)) = true := by
  decide +kernel

theorem test_witness_PlyGroupsAcceptCheckedBlocks_1 :
    (let s : State := plying .ready 8 { grp0 with sink := none }
    let p : PlyIx := 64
    let g : PlyGroup := { grp0 with sink := none }
    let x := s.plyPort p
    decide ((s.plyPort p).grp = some g ∧ (g.go = true ∨ x.posted = false))) = true ∧
    (let s : State := plying .ready 9 grp0
    let p : PlyIx := 64
    let g : PlyGroup := grp0
    let x := s.plyPort p
    let d : Desc := { desc 8 with ext := 2049 }
    decide ((s.plyPort p).grp = some g ∧ g.go = false ∧ x.posted = true ∧ s.plySinkDesc g = some d ∧ (∃ m ∈ s.plyMemberDescs g, plyAgree d m.2 = false))) = true ∧
    (let s : State := plying .ready 8 grp0
    let p : PlyIx := 64
    let g : PlyGroup := grp0
    let x := s.plyPort p
    let d : Desc := { desc 8 with ext := 2049 }
    decide ((s.plyPort p).grp = some g ∧ g.go = false ∧ x.posted = true ∧ s.plySinkDesc g = some d ∧ (∀ m ∈ s.plyMemberDescs g, plyAgree d m.2 = true) ∧ x.state = .ready)) = true ∧
    (let s : State := plying .digital 8 grp0
    let p : PlyIx := 64
    let g : PlyGroup := grp0
    let x := s.plyPort p
    let d : Desc := { desc 8 with ext := 2049 }
    decide ((s.plyPort p).grp = some g ∧ g.go = false ∧ x.posted = true ∧ s.plySinkDesc g = some d ∧ (∀ m ∈ s.plyMemberDescs g, plyAgree d m.2 = true) ∧ x.state = .digital)) = true ∧
    (let s : State := plying .faulted 8 grp0
    let p : PlyIx := 64
    let g : PlyGroup := grp0
    let x := s.plyPort p
    let d : Desc := { desc 8 with ext := 2049 }
    decide ((s.plyPort p).grp = some g ∧ g.go = false ∧ x.posted = true ∧ s.plySinkDesc g = some d ∧ (∀ m ∈ s.plyMemberDescs g, plyAgree d m.2 = true) ∧ x.state = .faulted)) = true ∧
    (let s : State := plying .ready 8 grp0
    let p : PlyIx := 64
    let g : PlyGroup := grp0
    decide ((s.plyPort p).grp = some g ∧ g.go = false ∧ 100000 ≤ since g.startAt s.time.lea)) = true ∧
    (let s : State := plying .ready 8 { grp0 with startAt := 999999900001 }
    let p : PlyIx := 64
    let g : PlyGroup := { grp0 with startAt := 999999900001 }
    decide ((s.plyPort p).grp = some g ∧ (g.go = true ∨ since g.startAt s.time.lea < 100000))) = true ∧
    (let s : State := plying .run 8 { grp0 with go := true }
    let p : PlyIx := 64
    let g : PlyGroup := { grp0 with go := true }
    let x := s.plyPort p
    let m : Fin 16 := 0
    decide ((s.plyPort p).grp = some g ∧ g.go = true ∧ m.val < x.members.length)) = true ∧
    (let s : State := plying .run 8 { grp0 with go := true, accepted := 1 }
    let p : PlyIx := 64
    let g : PlyGroup := { grp0 with go := true, accepted := 1 }
    let m : Fin 16 := 0
    let c : Nat := 1
    decide ((s.plyPort p).grp = some g ∧ g.go = true ∧ s.plyTotal g ≤ g.accepted ∧ g.cells.get none m.val = some c)) = true ∧
    (let s : State := plying .run 8 { grp0 with go := true }
    let p : PlyIx := 64
    let g : PlyGroup := { grp0 with go := true }
    decide ((s.plyPort p).grp = some g ∧ (g.go = false ∨ g.accepted < s.plyTotal g))) = true := by
  refine ⟨?_, ?_, ?_, ?_, ?_, ?_, ?_, ?_, ?_, ?_⟩ <;> decide +kernel

theorem test_witness_PlyGroupsAcceptCheckedBlocks_2 :
    (let s : State := plying .run 8 { grp0 with go := true, going := 1 }
    let p : PlyIx := 64
    let g : PlyGroup := { grp0 with go := true, going := 1 }
    let m : Fin 16 := 0
    decide (s.plyRuns p = some g ∧ m.val < (s.plyPort p).members.length)) = true ∧
    (let wide : Bool := true
    let code : Nat := 62
    let c := countOf wide code
    decide (0 < c)) = true ∧
    (let wide : Bool := false
    let code : Nat := 5
    let c := countOf wide code
    decide (c < (if wide then 16 else 8))) = true ∧
    (let n : Nat := 254
    let d : Nat := 1
    decide (proofSlot n = false ∧ 0 < d)) = true ∧
    (let s : State := plyAt fun x => { x with narrowDue := true }
    let p : Nat := 64
    let x : PlyPort := s.plyPort p
    decide (Tab.wf s.ply {} = true ∧ s.plyPort p = x ∧ x.narrowDue = true)) = true ∧
    (let s : State := ready
    let p : PlyIx := 1023
    decide (s.plyRuns p = none)) = true ∧
    (let s : State := (plying .run 8 { grp0 with go := true, redo := [{ block := 0 }] }).modPly 64 fun x => { x with members := x.members ++ x.members }
    let p : PlyIx := 64
    let m : Fin 16 := 0
    let g : PlyGroup := { grp0 with go := true, redo := [{ block := 0 }] }
    let r : Redo := { block := 0 }
    let d : Nat × Desc := (0, { desc 8 with ext := 2048 })
    let r1 : Redo := { r with got := r.got ||| 2 ^ m.val, sums := r.sums.zipWith (· + ·) (s.plyVals d.2 r.block) }
    decide ((s.plyPort p).state ≠ .digital ∧ (s.plyPort p).grp = some g ∧ g.redoFor m = some r ∧ ((s.plyMemberDescs g).find? fun d => decide (d.1 = m.val)) = some d ∧ r1.got ≠ 2 ^ (s.plyPort p).members.length - 1)) = true ∧
    (let s : State := plying .run 8 { grp0 with go := true, redo := [{ block := 0 }] }
    let p : PlyIx := 64
    let m : Fin 16 := 0
    let g : PlyGroup := { grp0 with go := true, redo := [{ block := 0 }] }
    let r : Redo := { block := 0 }
    let d : Nat × Desc := (0, { desc 8 with ext := 2048 })
    let r1 : Redo := { r with got := r.got ||| 2 ^ m.val, sums := r.sums.zipWith (· + ·) (s.plyVals d.2 r.block) }
    decide ((s.plyPort p).state ≠ .digital ∧ (s.plyPort p).grp = some g ∧ g.redoFor m = some r ∧ ((s.plyMemberDescs g).find? fun d => decide (d.1 = m.val)) = some d ∧ r1.got = 2 ^ (s.plyPort p).members.length - 1)) = true ∧
    (let s : State := plying .run 8 grp0
    let p : PlyIx := 64
    let m : Fin 16 := 0
    decide (m.val < (s.plyPort p).members.length)) = true ∧
    (let s : State := plying .run 8 grp0
    let p : PlyIx := 64
    let m : Fin 16 := 1
    decide ((s.plyPort p).members.length ≤ m.val)) = true := by
  refine ⟨?_, ?_, ?_, ?_, ?_, ?_, ?_, ?_, ?_, ?_⟩ <;> decide +kernel

theorem test_witness_PlyGroupsAcceptCheckedBlocks_3 :
    (let s : State := plying .run 8 grp0
    let i : Nat := 64
    decide (Tab.wf s.ply {} = true ∧ ((s.plyPort i).state = .ready ∨ (s.plyPort i).state = .run) ∧ (s.plyPort i).state = .run)) = true ∧
    (let s : State := plying .ready 8 grp0
    let i : Nat := 64
    let j : Nat := 65
    decide (Tab.wf s.ply {} = true ∧ ((s.plyPort i).state = .ready ∨ (s.plyPort i).state = .run) ∧ j ≠ i)) = true := by
  refine ⟨?_, ?_⟩ <;> decide +kernel

theorem test_witness_PlyPortsKeepTheirMargin_1 :
    (let s : State := plyAt id
    let p : PlyIx := 64
    decide ((s.plyPort p).state ≠ .run ∧ (s.plyPort p).state ≠ .ready)) = true ∧
    (let s : State := plyAt fun x => { x with state := .run, members := [{ bobbin := bobId, src := 0, line := 0, low := 1 }] }
    let p : PlyIx := 64
    let w : PlyMeas := { goodPly with levels := [31], reference := 64 }
    let s1 := s.modPly p (·.measured w)
    decide (((s.plyPort p).state = .run ∨ (s.plyPort p).state = .ready) ∧ (∃ m ∈ (s1.plyPort p).members, 2 ≤ m.low))) = true ∧
    (let s : State := plyAt fun x => { x with state := .run, members := [{ bobbin := bobId, src := 0, line := 0, low := 1 }] }
    let p : PlyIx := 64
    let w : PlyMeas := { goodPly with levels := [32], reference := 64 }
    let n := (s.plyPort p).members.length
    let sp := (s.plyPort p).split
    let s1 := s.modPly p (·.measured w)
    decide (((s.plyPort p).state = .run ∨ (s.plyPort p).state = .ready) ∧ (∀ m ∈ (s1.plyPort p).members, m.low < 2) ∧ meets n sp w = true)) = true ∧
    (let s : State := plyAt fun x => { x with state := .ready }
    let p : PlyIx := 64
    let w : PlyMeas := { goodPly with sigmaUc := 65535 }
    let n := (s.plyPort p).members.length
    let sp := (s.plyPort p).split
    let s1 := s.modPly p (·.measured w)
    decide (((s.plyPort p).state = .run ∨ (s.plyPort p).state = .ready) ∧ (∀ m ∈ (s1.plyPort p).members, m.low < 2) ∧ meets n sp w = false)) = true ∧
    (let s : State := plyAt fun x => { x with state := .ready }
    let p : PlyIx := 64
    let n := (s.plyPort p).members.length
    let sp := (s.plyPort p).split
    let slot := 31
    let code := 5
    let q := 31
    decide (((s.plyPort p).state = .run ∨ (s.plyPort p).state = .ready) ∧ ((s.plyPort p).state = .run ∧ slot % 256 = 255 ∧ q = slot / 256 % 32 ∨ (s.plyPort p).state = .ready ∧ q = slot % 32) ∧ countOf (plyWide n sp) code ≠ proofCount n sp q)) = true ∧
    (let s : State := plyAt fun x => { x with state := .run }
    let p : PlyIx := 64
    let n := (s.plyPort p).members.length
    let sp := (s.plyPort p).split
    let slot := 255
    let code := 6
    let q := 0
    decide (((s.plyPort p).state = .run ∨ (s.plyPort p).state = .ready) ∧ ((s.plyPort p).state = .run ∧ slot % 256 = 255 ∧ q = slot / 256 % 32 ∨ (s.plyPort p).state = .ready ∧ q = slot % 32) ∧ countOf (plyWide n sp) code = proofCount n sp q)) = true ∧
    (let s : State := plyAt fun x => { x with state := .run }
    let p : PlyIx := 64
    let slot := 254
    decide (((s.plyPort p).state = .run ∨ (s.plyPort p).state = .ready) ∧ (s.plyPort p).state = .run ∧ slot % 256 ≠ 255)) = true ∧
    (let x : PlyPort := { state := .run, members := [{ bobbin := 0, src := 0, line := 0 }] }
    let w : PlyMeas := goodPly
    let i : Nat := 0
    let m : PlyMember := { bobbin := 0, src := 0, line := 0 }
    let n : PlyMember := ((x.measured w).members[0]?).getD m
    decide (x.members[i]? = some m ∧ (x.measured w).members[i]? = some n ∧ x.state = .run)) = true ∧
    (let x : PlyPort := { members := [{ bobbin := 0, src := 0, line := 0 }] }
    let w : PlyMeas := goodPly
    let i : Nat := 0
    let m : PlyMember := { bobbin := 0, src := 0, line := 0 }
    let n : PlyMember := (((({ members := [{ bobbin := 0, src := 0, line := 0 }] } : PlyPort).measured goodPly).members[0]?).getD { bobbin := 0, src := 0, line := 0 })
    decide (x.members[i]? = some m ∧ (x.measured w).members[i]? = some n ∧ x.state ≠ .run)) = true ∧
    (let s : State := plyAt fun x => { x with state := .run, split := 2 }
    let i : Nat := 64
    let b : Bool := true
    decide (Tab.wf s.ply {} = true ∧ (s.plyPort i).state = .run ∧ (s.plyPort i).split < 4 ∧ b = true)) = true := by
  refine ⟨?_, ?_, ?_, ?_, ?_, ?_, ?_, ?_, ?_, ?_⟩ <;> decide +kernel

theorem test_witness_PlyPortsKeepTheirMargin_2 :
    (let s : State := plyAt fun x => { x with state := .run, split := 2 }
    let i : Nat := 64
    let b : Bool := false
    decide (Tab.wf s.ply {} = true ∧ (s.plyPort i).state = .run ∧ (s.plyPort i).split < 4 ∧ b = false)) = true ∧
    (let s : State := plyAt fun x => { x with state := .run, split := 4 }
    let i : Nat := 64
    decide (Tab.wf s.ply {} = true ∧ (s.plyPort i).state = .run ∧ 4 ≤ (s.plyPort i).split)) = true ∧
    (let s : State := plyAt fun x => { x with state := .run, split := 4 }
    let i : Nat := 64
    let j : Nat := 63
    decide (Tab.wf s.ply {} = true ∧ (s.plyPort i).state = .run ∧ j ≠ i)) = true ∧
    (let s : State := plyAt fun x => { x with state := .train }
    let p : PlyIx := 64
    decide ((s.plyPort p).state = .train)) = true ∧
    (let s : State := plyAt fun x => { x with state := .check }
    let p : PlyIx := 64
    decide ((s.plyPort p).state = .check)) = true ∧
    (let s : State := plyAt fun x => { x with state := .run }
    let p : PlyIx := 64
    decide ((s.plyPort p).state = .run)) = true ∧
    (let s : State := plyAt fun x => { x with state := .train }
    let i : Nat := 64
    let w : PlyMeas := { goodPly with eqRes := 50 }
    let n := (s.plyPort i).members.length
    let sp : Nat := 1
    decide (Tab.wf s.ply {} = true ∧ splitFor n s.plan.widthCap w = some sp)) = true ∧
    (let s : State := plyAt fun x => { x with state := .train }
    let i : Nat := 64
    let w : PlyMeas := badPly
    let n := (s.plyPort i).members.length
    decide (Tab.wf s.ply {} = true ∧ splitFor n s.plan.widthCap w = none)) = true ∧
    (let s : State := plyAt fun x => { x with state := .train }
    let i : Nat := 64
    let w : PlyMeas := { badPly with codes := 6 :: List.replicate 16 0 ++ List.replicate 15 6 }
    let n := (s.plyPort i).members.length
    let ok := meets n (s.plyPort i).split w && proofsRight n (s.plyPort i).split w.codes
    decide (Tab.wf s.ply {} = true ∧ ok = true)) = true ∧
    (let s : State := plyAt fun x => { x with state := .train }
    let i : Nat := 64
    let w : PlyMeas := badPly
    let n := (s.plyPort i).members.length
    let ok := meets n (s.plyPort i).split w && proofsRight n (s.plyPort i).split w.codes
    decide (Tab.wf s.ply {} = true ∧ ok = false)) = true := by
  refine ⟨?_, ?_, ?_, ?_, ?_, ?_, ?_, ?_, ?_, ?_⟩ <;> decide +kernel

theorem test_witness_PlyPortsKeepTheirMargin_3 :
    (let n := 16
    let cap := 16
    let w := goodPly
    let sp := (splitFor n cap w).getD 0
    decide (splitFor n cap w = some sp)) = true ∧
    (let n : Nat := 16
    let sp : Nat := 4
    let k := 3
    decide (n ≤ 16 ∧ sp ∈ [1, 2, 4] ∧ k < sp)) = true ∧
    (let s : State := plyAt fun x => { x with state := .train, since_ := 999999950000 }
    let p : PlyIx := 64
    let x := s.plyPort p
    decide (x.state = .train ∧ 50000 ≤ since x.since_ s.time.lea)) = true ∧
    (let s : State := plyAt fun x => { x with state := .train, since_ := 999999950001 }
    let p : PlyIx := 64
    let x := s.plyPort p
    decide ((x.state ≠ .train ∨ since x.since_ s.time.lea < 50000))) = true ∧
    (let s : State := plyAt fun x => { x with state := .check, since_ := 999999998600 }
    let p : PlyIx := 64
    let x := s.plyPort p
    decide (x.state = .check ∧ 1400 ≤ since x.since_ s.time.lea)) = true ∧
    (let s : State := plyAt fun x => { x with state := .check, since_ := 999999998601 }
    let p : PlyIx := 64
    let x := s.plyPort p
    decide ((x.state ≠ .check ∨ since x.since_ s.time.lea < 1400))) = true := by
  refine ⟨?_, ?_, ?_, ?_, ?_, ?_⟩ <;> decide +kernel

theorem test_witness_HomeLinesAreReadWrittenAndUpdated_1 :
    (let pa : Nat := hbmBytes
    decide (hbmBytes ≤ pa)) = true ∧
    (let s : State := { inJob with memory := { stack := [(0, { state := .failed })] } }
    let pa : Nat := 0
    decide (pa < hbmBytes ∧ (s.stk (stackOf pa)).state = .failed)) = true ∧
    (let s : State := served
    let pa : Nat := hbmBytes - 8
    let errs : Nat := 0
    let tag : BitVec 16 := 3
    let l := pa / 128
    let on := (s.linkGood (stackOf pa)).admitLine l false
    let p := on.probe l errs
    let n := (s.slot tag.toNat).bytes
    decide (pa < hbmBytes ∧ s.serves (stackOf pa) = true ∧ s.hotFull l = false ∧ p.1.bad = false ∧ p.2.mems.hbmBad pa n = false)) = true ∧
    (let s : State := { served with mems := { served.mems with hbmPoison := [(0, true)] } }.modSlot 3 fun x => { x with bytes := 8 }
    let pa : Nat := 0
    let errs : Nat := 0
    let tag : BitVec 16 := 3
    let l := pa / 128
    let on := (s.linkGood (stackOf pa)).admitLine l false
    let p := on.probe l errs
    let n := (s.slot tag.toNat).bytes
    decide (pa < hbmBytes ∧ s.serves (stackOf pa) = true ∧ s.hotFull l = false ∧ p.1.bad = true ∧ p.2.mems.hbmBad pa n = true)) = true ∧
    (let s : State := served
    let pa : Nat := hbmBytes - 128
    let l := pa / 128
    let data : List Byte := List.replicate 128 1
    decide (pa < hbmBytes ∧ s.serves (stackOf pa) = true ∧ s.hotFull l = false ∧ pa + data.length ≤ hbmBytes ∧ pa % 128 = 0 ∧ 128 ≤ data.length)) = true ∧
    (let s : State := served
    let pa : Nat := 128
    let errs : Nat := 3
    let l := pa / 128
    let on := (s.linkGood (stackOf pa)).admitLine l false
    let p := on.probe l errs
    let data : List Byte := List.replicate 127 1
    decide (pa < hbmBytes ∧ s.serves (stackOf pa) = true ∧ s.hotFull l = false ∧ pa + data.length ≤ hbmBytes ∧ data.length < 128 ∧ p.1 ≠ .found)) = true ∧
    (let s : State := served
    let pa : Nat := 128
    let errs : Nat := 5
    let l := pa / 128
    let on := (s.linkGood (stackOf pa)).admitLine l false
    let p := on.probe l errs
    let data : List Byte := List.replicate 127 1
    decide (pa < hbmBytes ∧ s.serves (stackOf pa) = true ∧ s.hotFull l = false ∧ pa + data.length ≤ hbmBytes ∧ data.length < 128 ∧ p.1 = .found)) = true ∧
    (let s : State := { served with memory := { served.memory with journal := [{ die := dieOfLine 0, local_ := true, node := 0, tag := 3, epoch := 0, reply := 1, at_ := 1000000000000 }] } }
    let pa : Nat := 0
    let tag : BitVec 16 := 3
    let gen : BitVec 10 := 0
    let l := pa / 128
    let die := dieOfLine l
    let e : JEntry := { die := dieOfLine 0, local_ := true, node := 0, tag := 3, epoch := 0, reply := 1, at_ := 1000000000000 }
    decide (pa < hbmBytes ∧ s.serves (stackOf pa) = true ∧ s.journaled die true s.node tag gen.toNat = some e)) = true ∧
    (let s : State := served
    let pa : Nat := 8
    let tag : BitVec 16 := 3
    let gen : BitVec 10 := 0
    let l := pa / 128
    let aop : BitVec 4 := 4
    let size : Nat := 16
    let die := dieOfLine l
    decide (pa < hbmBytes ∧ s.serves (stackOf pa) = true ∧ s.journaled die true s.node tag gen.toNat = none ∧ (aopAllowed aop.toNat size = false ∨ pa % size ≠ 0))) = true ∧
    (let s : State := { served with mems := { served.mems with hbmPoison := [(0, true)] } }
    let pa : Nat := 0
    let errs : Nat := 0
    let tag : BitVec 16 := 3
    let gen : BitVec 10 := 0
    let l := pa / 128
    let on := (s.linkGood (stackOf pa)).admitLine l false
    let p := on.probe l errs
    let aop : BitVec 4 := 11
    let size : Nat := 8
    let die := dieOfLine l
    decide (pa < hbmBytes ∧ s.serves (stackOf pa) = true ∧ s.journaled die true s.node tag gen.toNat = none ∧ aopAllowed aop.toNat size = true ∧ pa % size = 0 ∧ s.jUsed die true < 32768 ∧ s.hotFull l = false ∧ p.1.bad = true)) = true := by
  refine ⟨?_, ?_, ?_, ?_, ?_, ?_, ?_, ?_, ?_, ?_⟩ <;> decide +kernel

theorem test_witness_HomeLinesAreReadWrittenAndUpdated_2 :
    (let s : State := served
    let pa : Nat := 0
    let errs : Nat := 3
    let tag : BitVec 16 := 3
    let gen : BitVec 10 := 0
    let l := pa / 128
    let on := (s.linkGood (stackOf pa)).admitLine l false
    let p := on.probe l errs
    let aop : BitVec 4 := 4
    let size : Nat := 16
    let die := dieOfLine l
    decide (pa < hbmBytes ∧ s.serves (stackOf pa) = true ∧ s.journaled die true s.node tag gen.toNat = none ∧ aopAllowed aop.toNat size = true ∧ pa % size = 0 ∧ s.jUsed die true < 32768 ∧ s.hotFull l = false ∧ p.1.bad = false)) = true ∧
    (let s : State := served
    let pa : Nat := 127
    let bs : List Byte := [1]
    decide (s.mems.hbm.wf = true ∧ pa / 128 = (pa + bs.length - 1) / 128 ∧ bs ≠ [] ∧ s.mems.hbmMerges pa bs.length = [])) = true ∧
    (let s : State := served
    let pa : Nat := 127
    let bs : List Byte := [1]
    let a : Nat := 128
    decide (s.mems.hbm.wf = true ∧ pa / 128 = (pa + bs.length - 1) / 128 ∧ bs ≠ [] ∧ (a < pa ∨ pa + bs.length ≤ a))) = true ∧
    (let s : State := { served with mems := { served.mems with hbmPoison := [(0, true)] } }
    let pa : Nat := 127
    let bs : List Byte := [1]
    decide (s.mems.hbm.wf = true ∧ pa / 128 = (pa + bs.length - 1) / 128 ∧ bs ≠ [] ∧ s.mems.hbmMerges pa bs.length ≠ [])) = true ∧
    (let s : State := { served with mems := { served.mems with hbmPoison := [(5, true)] } }
    let l : Nat := 5
    decide (s.mems.hbmPoison.get false l = true)) = true ∧
    (let s : State := served
    let l : Nat := 5
    let e : Nat := 3
    decide (s.mems.hbmPoison.get false l = false ∧ 1 ≤ e ∧ e ≤ 3)) = true ∧
    (let s : State := served
    let l : Nat := 5
    let e : Nat := 4
    decide (s.mems.hbmPoison.get false l = false ∧ 4 ≤ e ∧ e ≤ 5)) = true ∧
    (let old : BitVec 128 := 1
    let cmp : BitVec 128 := 1
    decide (old = cmp)) = true ∧
    (let old : BitVec 128 := 1
    let cmp : BitVec 128 := 2
    decide (old ≠ cmp)) = true := by
  refine ⟨?_, ?_, ?_, ?_, ?_, ?_, ?_, ?_, ?_⟩ <;> decide +kernel

theorem test_witness_StacksAreScrubbedCooledAndKept_1 :
    (let s : State := served
    let l : Nat := 4500000000
    let k := stackOf (128 * l)
    decide ((s.serves k = false ∨ hbmBytes ≤ 128 * l))) = true ∧
    (let s : State := served
    let l : Nat := 4499999999
    let errs : Nat := 3
    let k := stackOf (128 * l)
    let p := s.probe l errs
    decide (s.serves k = true ∧ 128 * l < hbmBytes ∧ p.1 = .corrected)) = true ∧
    (let s : State := served
    let l : Nat := 0
    let errs : Nat := 4
    let k := stackOf (128 * l)
    let p := s.probe l errs
    decide (s.serves k = true ∧ 128 * l < hbmBytes ∧ p.1 = .found)) = true ∧
    (let s : State := served
    let l : Nat := 0
    let errs : Nat := 0
    let k := stackOf (128 * l)
    let p := s.probe l errs
    decide (s.serves k = true ∧ 128 * l < hbmBytes ∧ (p.1 = .clean ∨ p.1 = .poisoned))) = true ∧
    (let s : State := inJob
    let k : Stack := 15
    decide (s.serves k = false)) = true ∧
    (let s : State := served.modStk 15 fun x => { x with linkErrs := 2 }
    let k : Stack := 15
    decide (s.serves k = true ∧ (s.stk k).linkErrs < 3)) = true ∧
    (let s : State := served.modStk 15 fun x => { x with linkErrs := 3 }
    let k : Stack := 15
    decide (s.serves k = true ∧ 3 ≤ (s.stk k).linkErrs)) = true ∧
    (let s : State := inJob
    let k : Stack := 15
    let x := s.stk k
    decide ((x.state = .off ∨ x.state = .failed))) = true ∧
    (let s : State := served
    let k : Stack := 15
    let t : Nat := 85
    let sk : Nat := 84
    let x := s.stk k
    let y := x.heat t sk
    decide (x.state ≠ .off ∧ x.state ≠ .failed ∧ y.fast = x.fast ∧ y.state = x.state)) = true ∧
    (let s : State := served
    let k : Stack := 15
    let t : Nat := 85
    let sk : Nat := 85
    let x := s.stk k
    let y := x.heat t sk
    decide (x.state = .ready ∧ y.fast = x.fast ∧ y.state = .throttled)) = true := by
  refine ⟨?_, ?_, ?_, ?_, ?_, ?_, ?_, ?_, ?_, ?_⟩ <;> decide +kernel

theorem test_witness_StacksAreScrubbedCooledAndKept_2 :
    (let s : State := served.modStk 15 fun x => { x with state := .throttled }
    let k : Stack := 15
    let t : Nat := 90
    let sk : Nat := 80
    let x := s.stk k
    let y := x.heat t sk
    decide (x.state = .throttled ∧ y.fast ≠ x.fast ∧ y.state = .ready)) = true ∧
    (let x : StackSt := { state := .ready }
    let t : Nat := 95
    let k : Nat := 84
    decide (x.state = .ready ∧ (95 ≤ t ∨ 85 ≤ k))) = true ∧
    (let x : StackSt := { state := .ready }
    let t : Nat := 94
    let k : Nat := 84
    decide (x.state = .ready ∧ t < 95 ∧ k < 85)) = true ∧
    (let x : StackSt := { state := .throttled }
    let t : Nat := 90
    let k : Nat := 80
    decide (x.state = .throttled ∧ t ≤ 90 ∧ k ≤ 80)) = true ∧
    (let x : StackSt := { state := .throttled }
    let t : Nat := 91
    let k : Nat := 80
    decide (x.state = .throttled ∧ (90 < t ∨ 80 < k))) = true ∧
    (let x : StackSt := {}
    decide (x.state ≠ .ready ∧ x.state ≠ .throttled)) = true ∧
    (let t : Nat := 86
    decide (85 < t)) = true ∧
    (let t : Nat := 80
    decide (t ≤ 80)) = true ∧
    (let t : Nat := 81
    decide (80 < t ∧ t ≤ 85)) = true ∧
    (let s : State := { served with memory := { served.memory with hot := [{ line := 5, served := 999999999000, tFree := 1 }] } }
    let l : Nat := 5
    let h : HotSlot := { line := 5, served := 999999999000, tFree := 1 }
    decide (s.hotSlot l = some h ∧ before s.time.lea h.served = false ∧ 1000 ≤ since h.served s.time.lea ∧ before s.time.lea h.tFree = false)) = true := by
  refine ⟨?_, ?_, ?_, ?_, ?_, ?_, ?_, ?_, ?_, ?_⟩ <;> decide +kernel

theorem test_witness_StacksAreScrubbedCooledAndKept_3 :
    (let s : State := { served with memory := { served.memory with hot := [{ line := 5, served := 999999999001, tFree := 1 }] } }
    let l : Nat := 5
    let h : HotSlot := { line := 5, served := 999999999001, tFree := 1 }
    decide (s.hotSlot l = some h ∧ (before s.time.lea h.served = true ∨ since h.served s.time.lea < 1000 ∨ before s.time.lea h.tFree = true))) = true := by
  decide +kernel

theorem test_witness_NarrowCodesHaveTheirValues :
    (let c : Nat := 15
    decide (c < 16)) = true ∧
    (let md : Rnd := .rne
    let m : Int := 0
    let e : Int := 0
    decide ((roundMag 2 (-1) md m.natAbs e).1 = 0)) = true := by
  refine ⟨?_, ?_⟩ <;> decide +kernel

theorem test_witness_ConversionsErrByHalfAUnit :
    (let m : Int := 1
    let e : Int := 0
    let b : Int := -149
    let g : Int := -23
    let n : Int := 8388608
    decide ((toFp32 .rne (.fin m e)).2.ovf = 0 ∧ Fmt.fp32.value (toFp32 .rne (.fin m e)).1 = .fin n g ∧ b ≤ e ∧ b ≤ g ∧ b ≤ ulpExp 24 (-149) m.natAbs e)) = true ∧
    (let m : Int := 3
    let e : Int := -30
    let b : Int := -149
    let g : Int := -52
    let n : Int := 12582912
    let u : Nat := 65535
    decide (u < 65536 ∧ (toFp32 (.sr u) (.fin m e)).2.ovf = 0 ∧ Fmt.fp32.value (toFp32 (.sr u) (.fin m e)).1 = .fin n g ∧ b ≤ e ∧ b ≤ g ∧ b ≤ ulpExp 24 (-149) m.natAbs e)) = true ∧
    (let f : Fmt := .bf16
    let m : Int := 3
    let e : Int := 0
    let b : Int := -149
    let g : Int := -6
    let n : Int := 192
    decide ((cp4 f .rne (.fin m e)).2.sat = 0 ∧ f.value (cp4 f .rne (.fin m e)).1 = .fin n g ∧ b ≤ e ∧ b ≤ g ∧ b ≤ ulpExp (f.shape.1 + 1) f.shape.2 m.natAbs e)) = true ∧
    (let f : Fmt := .int4
    let m : Int := 7
    let e : Int := 0
    let b : Int := 0
    let g : Int := 0
    let n : Int := 7
    decide ((cp4 f .rne (.fin m e)).2.sat = 0 ∧ f.value (cp4 f .rne (.fin m e)).1 = .fin n g ∧ b ≤ e ∧ b ≤ g ∧ b ≤ 0)) = true ∧
    (let f : Fmt := .int4
    let md : Rnd := .rne
    let m : Int := 8
    let e : Int := 0
    decide (f.isInt = true ∧ (cp4 f md (.fin m e)).2.sat = 1)) = true := by
  refine ⟨?_, ?_, ?_, ?_, ?_⟩ <;> decide +kernel

theorem test_witness_BlocksAreSummedExactly :
    (let a : OperRow := ⟨.fp4, [0x22], [254]⟩
    let w : OperRow := ⟨.int4, [0x11], []⟩
    let b : Nat := 0
    decide (a.e8m0 1 b ≠ 255 ∧ w.e8m0 1 b ≠ 255)) = true ∧
    (let a : OperRow := ⟨.fp4, [0x22], [0, 0, 0, 0, 0, 0, 0, 0]⟩
    let w : OperRow := ⟨.int4, [0x11], []⟩
    let b : Nat := 0
    decide (a.e8m0 3 b ≠ 255 ∧ w.e8m0 3 b ≠ 255)) = true ∧
    (let a : OperRow := ⟨.fp4, [0x22], [255]⟩
    let w : OperRow := ⟨.int4, [0x11], []⟩
    let mode : Nat := 1
    let b : Nat := 0
    decide ((a.e8m0 mode b = 255 ∨ w.e8m0 mode b = 255))) = true ∧
    (let a : OperRow := ⟨.fp4, [0x22], [127]⟩
    let w : OperRow := ⟨.int4, [0x11], []⟩
    let k : Nat := 2
    let b : Nat := 0
    let c : Int := 131072
    let e : Int := -16
    decide (a.fmt = .fp4 ∧ w.fmt ∈ [Fmt.fp4, .int4, .int2, .t2, .t5b] ∧ fp4Block a w 1 k b = .fin c e)) = true ∧
    (let a : OperRow := ⟨.fp4, [0x22], [127, 0, 0, 0, 0, 0, 0, 0]⟩
    let w : OperRow := ⟨.int4, [0x11], []⟩
    let k : Nat := 2
    let b : Nat := 0
    let c : Int := 131072
    let e : Int := -16
    decide (a.fmt = .fp4 ∧ w.fmt ∈ [Fmt.fp4, .int4, .int2, .t2, .t5b] ∧ fp4Block a w 3 k b = .fin c e)) = true ∧
    (let a : OperRow := ⟨.t5b, [0], []⟩
    let w : OperRow := ⟨.int2, [0], []⟩
    let k : Nat := 16777216
    decide (a.fmt.isInt = true ∧ w.fmt.isInt = true ∧ k ≤ 16777216)) = true := by
  refine ⟨?_, ?_, ?_, ?_, ?_, ?_⟩ <;> decide +kernel

end Sys2Proof.Tests
end

