-- ==== Sys2Proof/Tests/Witness5.lean ====
section
/-! SUPPORT. Witnesses whose hypotheses need a proof and not a finite check alone, and those of the invariants. -/

set_option Elab.async false

namespace Sys2Proof.Tests

open Sys2Proof Sys2Proof.Machine

/-- A consumer that is no register file meets a bad word, or one with two bits wrong. -/
theorem test_witness_RepliesAndStoreErrorsAreHandled_consumer :
    (∀ c, Consumer.stream 0 ≠ .regfile c) ∧ ({ ready.mems with sramPoison := [(5, true)] } : Mems).sramPoison.get false 5 = true ∧
      ready.mems.sramPoison.get false 5 = false :=
  ⟨(fun _ h => nomatch h), by decide +kernel, by decide +kernel⟩

/-- A load, a store and an atomic within the module await their replies, and their data came by a core ring: no place that they could
lead to lies in a PARKED region. -/
def awaits (k : SlotKind) : State := State.reset.modSlot 3 fun _ => { kind := k, bytes := 8, gen := 1, data := [1] }

theorem awaits_parkedPlace (k : SlotKind) (r : SlotSt) (h : r.kind ≠ .desc) : (awaits k).parkedPlace r = false := by
  have none (a : Nat) : (awaits k).reg a = {} := rfl
  unfold State.parkedPlace
  cases r.place <;> simp [none, h]

theorem test_witness_RepliesAndStoreErrorsAreHandled_answered (k : SlotKind) (hk : k = .load ∨ k = .store ∨ k = .atomic) :
    let s := awaits k
    let r := s.slot 3
    (r.kind = k ∧ r.gen = 1 ∧ r.reel = false ∧ r.stream = false ∧ r.onRing = false ∧ s.holds (.slot 3) = false) ∧
      s.parkedPlace r = false ∧ r.refused = false ∧ r.bad = false := by
  refine ⟨?_, awaits_parkedPlace k _ ?_, ?_, ?_⟩ <;> rcases hk with rfl | rfl | rfl <;> decide +kernel

/-- An image of another calibration format, whatever format the firmware writes. -/
theorem test_witness_CalibrationAndAgeingAreKept_format :
    ∃ img : List Byte, leNat ((img.drop 4).take 2) ≠ (Config.calFormat ready.fwVersion).toNat := by
  by_cases h : (Config.calFormat ready.fwVersion).toNat = 0
  · exact ⟨[0, 0, 0, 0, 1, 0], by rw [h]; decide⟩
  · exact ⟨[], fun g => h g.symm⟩

/-- The values that `h` takes on the powers of `bchPowers`, as a set of bits. -/
def bchMarks (h : Nat → Nat) : Nat → Nat → Nat → Nat
  | 0, _, m => m
  | n + 1, p, m => bchMarks h n (if 2 * p ≥ 2 ^ 24 then (2 * p) ^^^ bchG else 2 * p) (m ||| 2 ^ h p)

theorem bchMarks_keep (h : Nat → Nat) (k : Nat) : ∀ n p m, m.testBit k = true → (bchMarks h n p m).testBit k = true
  | 0, _, _, hm => hm
  | n + 1, p, m, hm => bchMarks_keep h k n _ _ (by rw [Nat.testBit_or, hm, Bool.true_or])

theorem bchMarks_of_contains (h : Nat → Nat) (k : Nat) : ∀ n p m, (bchPowers n p).contains k = true → (bchMarks h n p m).testBit (h k) = true
  | 0, _, _, hc => by simp [bchPowers] at hc
  | n + 1, p, m, hc => by
    rw [bchPowers, List.contains_cons, Bool.or_eq_true] at hc
    rcases hc with e | hc
    · rw [beq_iff_eq.1 e]
      exact bchMarks_keep h _ n _ _ (by rw [Nat.testBit_or, Nat.testBit_two_pow_self, Bool.or_true])
    · exact bchMarks_of_contains h k n _ _ hc

/-- That a value is no power, told by its two halves where they tell it and by a look through the list where they do not. -/
def noPower (k : Nat) : Bool :=
  !(bchMarks (· % 4096) 544 1 0).testBit (k % 4096) || !(bchMarks (· / 4096) 544 1 0).testBit (k / 4096) || !(bchPowers 544 1).contains k

theorem noPower_sound (k : Nat) (h : noPower k = true) : (bchPowers 544 1).contains k = false := by
  rw [Bool.eq_false_iff]
  intro hc
  rw [noPower, hc, bchMarks_of_contains (· % 4096) k 544 1 0 hc, bchMarks_of_contains (· / 4096) k 544 1 0 hc] at h
  exact Bool.false_ne_true h

/-- Three bit errors that no pattern of one or two explains (R169). -/
theorem test_seven_is_uncorrectable : decodeFrame 7 = none := by
  have all : (bchPowers 544 1).all (fun p => noPower (syndrome 7 ^^^ p)) = true := by decide +kernel
  have one : (bchPowers 544 1).contains (syndrome 7) = false := noPower_sound _ (by decide +kernel)
  have two : (bchPowers 544 1).zipIdx.find? (fun p => (bchPowers 544 1).contains (syndrome 7 ^^^ p.1)) = none := by
    rw [List.find?_eq_none]
    intro p hp
    have h := noPower_sound _ ((List.all_eq_true.1 all) p.1 (List.fst_mem_of_mem_zipIdx hp))
    rw [h]; exact Bool.false_ne_true
  have nz : syndrome 7 ≠ 0 := by decide +kernel
  simp only [decodeFrame, nz, if_false, errorPlaces, one, two]
  rfl

/-- Estimates at and above 1e-7 over 10^9 bits (R173). -/
theorem test_berAbove_edge : berAbove 100 1000000000 7 = false ∧ berAbove 101 1000000000 7 = true := by decide +kernel

/-- A step is taken from a state whose memories keep their form, from one whose test fuse is blown, and from HELD. -/
theorem test_witness_MemoriesKeepTheirForm : MemsWf ready.mems ∧ ∃ t, step { ready with pending := [.hostEos 0 0] } = .next t :=
  ⟨by decide +kernel, _, rfl⟩

theorem test_witness_FusesAreNeverRestored :
    ∃ s : State, s.fuse.testLock.get 1 = true ∧ ∃ t, step s = .next t :=
  ⟨{ ready with fuse := { ready.fuse with testLock := ⟨false, true⟩ }, pending := [.hostEos 0 0] }, rfl, _, rfl⟩

theorem test_witness_OnlyResetsAndPowerLeaveHeld : heldS.mod.state = .held ∧ ∃ t, step { heldS with pending := [.hostEos 0 0] } = .next t :=
  ⟨rfl, _, rfl⟩

/-- A snapshot of this module in the format the firmware writes, whatever format that is. -/
def calBody : List Byte :=
  leBytes 4 0x4A584353 ++ leBytes 2 (Config.calFormat ready.fwVersion).toNat ++ leBytes 6 0 ++ leBytes 4 64 ++ leBytes 44 0
def calImage : List Byte := calBody ++ leBytes 4 (crc32 (calBody ++ leBytes 4 0))

/-- Port 0's host memory holds it at 4096. -/
def snapshot : State := { ready with mems := { ready.mems with hostA := Memory.write [] 4096 calImage } }

theorem crcByte_lt (c : Nat) (b : Byte) (h : c < 2 ^ 32) : crcByte c b < 2 ^ 32 := by
  have bit : ∀ x, x < 2 ^ 32 → crcBit x < 2 ^ 32 := by
    intro x hx
    unfold crcBit
    split
    · exact Nat.xor_lt_two_pow (by omega) (by decide)
    · omega
  have hb : c ^^^ b.toNat < 2 ^ 32 := Nat.xor_lt_two_pow h (Nat.lt_trans b.isLt (by decide))
  exact bit _ (bit _ (bit _ (bit _ (bit _ (bit _ (bit _ (bit _ hb)))))))

theorem crc32_lt (bs : List Byte) : crc32 bs < 2 ^ 32 := by
  have : ∀ (l : List Byte) c, c < 2 ^ 32 → l.foldl crcByte c < 2 ^ 32 := by
    intro l; induction l with
    | nil => intro c h; exact h
    | cons b l ih => intro c h; exact ih _ (crcByte_lt c b h)
  exact Nat.xor_lt_two_pow (this bs _ (by decide)) (by decide)

theorem leNat_leBytes4 (n : Nat) (h : n < 2 ^ 32) : leNat (leBytes 4 n) = n := by
  simp [leBytes, leNat, List.range, List.range.loop]; omega

theorem calImage_checks : snapshot.snapCheck calImage = 1 := by
  have hf : (Config.calFormat ready.fwVersion).toNat < 65536 := (Config.calFormat ready.fwVersion).isLt
  have hc := leNat_leBytes4 _ (crc32_lt (calBody ++ leBytes 4 0))
  have e0 : leNat (calImage.take 4) = 0x4A584353 := by decide +kernel
  have e1 : leNat ((calImage.drop 12).take 4) = 64 := by decide +kernel
  have e2 : calImage.length = 64 := by decide +kernel
  have e3 : leNat ((calImage.drop 60).take 4) = crc32 (calImage.take 60 ++ leBytes 4 0 ++ calImage.drop 64) := by
    have a : (calImage.drop 60).take 4 = leBytes 4 (crc32 (calBody ++ leBytes 4 0)) := rfl
    have b : calImage.take 60 ++ leBytes 4 0 ++ calImage.drop 64 = calBody ++ leBytes 4 0 := rfl
    rw [a, b, hc]
  have e4 : leNat ((calImage.drop 8).take 4) = snapshot.fuse.serial.toNat := by decide +kernel
  have e5 : leNat ((calImage.drop 4).take 2) = (Config.calFormat snapshot.fwVersion).toNat := by
    have a : (calImage.drop 4).take 2 = leBytes 2 (Config.calFormat ready.fwVersion).toNat := rfl
    have b : snapshot.fwVersion = ready.fwVersion := rfl
    rw [a, b]; simp [leBytes, leNat, List.range, List.range.loop]; omega
  have e6 : leNat ((calImage.drop 16).take 8) = 0 := by decide +kernel
  have e7 : snapshot.lifeS = 0 := by decide +kernel
  simp [State.snapCheck, e0, e1, e2, e3, e4, e5, e6, e7]

/-- CAL_RESTORE passes: the bytes it names are that snapshot, which passes its checks, so the verdict of the statement is the
empty one. -/
theorem test_witness_CalibrationAndAgeingAreKept_restore :
    let c := cmd [(16, 4096), (24, 64)]
    c.field snapshot 24 4 = 64 ∧ (snapshot.mems.host (c.port snapshot)).read (c.field snapshot 16 8) (c.field snapshot 24 4) = calImage ∧
      snapshot.snapCheck calImage = 1 ∧ Passes snapshot { op := 0x0803, named := [(16, 27)], long := true, noJob := true } c {} := by
  have h1 : (cmd [(16, 4096), (24, 64)]).field snapshot 24 4 = 64 := by decide +kernel
  have h2 : (cmd [(16, 4096), (24, 64)]).field snapshot 16 8 = 4096 := by decide +kernel
  have h3 : (cmd [(16, 4096), (24, 64)]).port snapshot = 0 := by decide +kernel
  have h4 : calImage.length = 64 := by decide +kernel
  refine ⟨h1, ?_, calImage_checks, by decide +kernel⟩
  have h5 : snapshot.mems.host 0 = Memory.write [] 4096 calImage := rfl
  have h6 := Memory.read_write (m := []) 4096 calImage (by decide)
  rw [h4] at h6
  simp only [h1, h2, h3, h5]
  exact h6

end Sys2Proof.Tests
end

section
/-! PROOFS. The windows of a host port (R6, R315-R319): what a write to HBM or SRAM leaves in each byte, what a write with byte
enables covers, what each access of BAR0, BAR2 and BAR4 does, and the statement that they settle. -/

namespace Sys2Proof.Machine

/-! ### Lines of HBM -/

/-- The lines of a range run from that of its first byte to that of its last. -/
theorem mem_linesOf {a n l : Nat} : l ∈ linesOf a n ↔ a / 128 ≤ l ∧ 128 * l < a + n := by
  simp only [linesOf, List.mem_map, List.mem_range]
  constructor
  · rintro ⟨k, hk, rfl⟩
    omega
  · intro h
    exact ⟨l - a / 128, by omega, by omega⟩

/-- The line of a byte of a range is a line of the range. -/
theorem line_mem_linesOf {a n i : Nat} (hi : i < n) : (a + i) / 128 ∈ linesOf a n := by
  rw [mem_linesOf]; omega

section slices
variable (a : Nat) (bs : List Byte) (l : Nat)

theorem lineSlice_fst : (lineSlice a bs l).1 = max a (128 * l) := rfl

theorem lineSlice_length : (lineSlice a bs l).2.length = min (a + bs.length) (128 * l + 128) - max a (128 * l) := by
  simp only [lineSlice, List.length_take, List.length_drop]
  omega

/-- A byte of a slice is the byte of the write that goes to the same address. -/
theorem lineSlice_getElem {j : Nat} (hj : j < (lineSlice a bs l).2.length) (h : max a (128 * l) - a + j < bs.length) :
    (lineSlice a bs l).2[j] = bs[max a (128 * l) - a + j] := by
  simp [lineSlice]

end slices

/-! ### Writing HBM line by line (R250) -/

/-- Write the part of a write that lies in one line: what `Mems.storeHbm` does for each line it does not leave out. -/
def Mems.storeLine (m : Mems) (a : Nat) (bs : List Byte) (bad : Bool) (l : Nat) : Mems :=
  m.writeHbm (lineSlice a bs l).1 (lineSlice a bs l).2 bad

/-- A write stores its lines, but for the poisoned ones that it covers in part, one after the other. -/
theorem Mems.storeHbm_eq_foldl_storeLine (m : Mems) (a : Nat) (bs : List Byte) (bad : Bool) :
    m.storeHbm a bs bad = ((linesOf a bs.length).filter fun l => !(m.hbmMerges a bs.length).contains l).foldl
      (fun m l => m.storeLine a bs bad l) m := by
  rw [List.foldl_filter, Mems.storeHbm]
  congr 1
  funext u l
  cases (m.hbmMerges a bs.length).contains l <;> rfl

section storeLine
variable {m : Mems} {a : Nat} {bs : List Byte} {bad : Bool} {l : Nat}

@[simp] theorem Mems.storeLine_sram : (m.storeLine a bs bad l).sram = m.sram := rfl
@[simp] theorem Mems.storeLine_bar4 : (m.storeLine a bs bad l).bar4 = m.bar4 := rfl

theorem Mems.storeLine_hbm :
    (m.storeLine a bs bad l).hbm = m.hbm.write (lineSlice a bs l).1 (lineSlice a bs l).2 := rfl

theorem Mems.wf_storeLine (h : m.hbm.wf = true) : (m.storeLine a bs bad l).hbm.wf = true :=
  Memory.wf_write _ _ h

/-- A line's part of a write reaches no byte outside the write. -/
theorem Mems.storeLine_get_outside (h : m.hbm.wf = true) {b : Nat} (hb : b < a ∨ a + bs.length ≤ b) :
    (m.storeLine a bs bad l).hbm.get 0 b = m.hbm.get 0 b := by
  rw [Mems.storeLine_hbm]
  refine Memory.get_write_outside _ h ?_
  rw [lineSlice_length, lineSlice_fst]
  omega

/-- A line's part of a write reaches the bytes of the write that lie in that line, and no others. -/
theorem Mems.storeLine_get_inside (h : m.hbm.wf = true) {i : Nat} (hi : i < bs.length) :
    (m.storeLine a bs bad l).hbm.get 0 (a + i) = if (a + i) / 128 = l then bs[i] else m.hbm.get 0 (a + i) := by
  rw [Mems.storeLine_hbm]
  split
  · rename_i hl
    have hj : a + i - max a (128 * l) < (lineSlice a bs l).2.length := by rw [lineSlice_length]; omega
    have hat : a + i = (lineSlice a bs l).1 + (a + i - max a (128 * l)) := by rw [lineSlice_fst]; omega
    have hidx : max a (128 * l) - a + (a + i - max a (128 * l)) = i := by omega
    calc
      _ = ((m.hbm.write _ (lineSlice a bs l).2).get 0 ((lineSlice a bs l).1 + (a + i - max a (128 * l)))) := by rw [← hat]
      _ = (lineSlice a bs l).2[a + i - max a (128 * l)] := Tab.get_setAll_inside _ _ _ _ h hj
      _ = bs[i] := by rw [lineSlice_getElem _ _ _ hj (by omega)]; simp only [hidx]
  · refine Memory.get_write_outside _ h ?_
    rw [lineSlice_length, lineSlice_fst]
    omega

end storeLine

section storeHbm
variable {m : Mems} {a : Nat} {bs : List Byte} {bad : Bool}

theorem Mems.foldl_storeLine_get_outside (ls : List Nat) (h : m.hbm.wf = true) {b : Nat} (hb : b < a ∨ a + bs.length ≤ b) :
    (ls.foldl (fun m l => m.storeLine a bs bad l) m).hbm.get 0 b = m.hbm.get 0 b := by
  induction ls generalizing m with
  | nil => rfl
  | cons l ls ih => rw [List.foldl_cons, ih (Mems.wf_storeLine h), Mems.storeLine_get_outside h hb]

theorem Mems.foldl_storeLine_get_inside (ls : List Nat) (h : m.hbm.wf = true) {i : Nat} (hi : i < bs.length) :
    (ls.foldl (fun m l => m.storeLine a bs bad l) m).hbm.get 0 (a + i) =
      if (a + i) / 128 ∈ ls then bs[i] else m.hbm.get 0 (a + i) := by
  induction ls generalizing m with
  | nil => simp
  | cons l ls ih =>
    rw [List.foldl_cons, ih (Mems.wf_storeLine h), Mems.storeLine_get_inside h hi]
    by_cases hl : (a + i) / 128 = l <;> simp [hl]

/-- A write to HBM reaches no byte outside it. -/
theorem Mems.storeHbm_get_outside (h : m.hbm.wf = true) {b : Nat} (hb : b < a ∨ a + bs.length ≤ b) :
    (m.storeHbm a bs bad).hbm.get 0 b = m.hbm.get 0 b := by
  rw [Mems.storeHbm_eq_foldl_storeLine]
  exact Mems.foldl_storeLine_get_outside _ h hb

/-- A byte of a write is stored, unless its line is poisoned and covered in part (R250). -/
theorem Mems.storeHbm_get_inside (h : m.hbm.wf = true) {i : Nat} (hi : i < bs.length) :
    (m.storeHbm a bs bad).hbm.get 0 (a + i) =
      if (a + i) / 128 ∈ m.hbmMerges a bs.length then m.hbm.get 0 (a + i) else bs[i] := by
  rw [Mems.storeHbm_eq_foldl_storeLine, Mems.foldl_storeLine_get_inside _ h hi]
  by_cases hl : (a + i) / 128 ∈ m.hbmMerges a bs.length <;> simp [hl, line_mem_linesOf hi]

/-- Where no line is left out, the bytes written read back. -/
theorem Mems.storeHbm_read (h : m.hbm.wf = true) (hm : m.hbmMerges a bs.length = []) :
    (m.storeHbm a bs bad).hbm.read a bs.length = bs := by
  refine List.ext_getElem (by simp [Memory.read, Tab.getAll]) fun i _ hi => ?_
  simp only [Memory.read, Tab.getAll, List.getElem_map, List.getElem_range]
  rw [Mems.storeHbm_get_inside h hi]
  simp [hm]

theorem Mems.storeHbm_keeps {β : Type} (g : Mems → β) (hg : ∀ (u : Mems) (l : Nat), g (u.storeLine a bs bad l) = g u) :
    g (m.storeHbm a bs bad) = g m := by
  rw [Mems.storeHbm_eq_foldl_storeLine]
  generalize (linesOf a bs.length).filter _ = ls
  induction ls generalizing m with
  | nil => rfl
  | cons l ls ih => rw [List.foldl_cons, ih, hg]

@[simp] theorem Mems.storeHbm_sram : (m.storeHbm a bs bad).sram = m.sram := Mems.storeHbm_keeps _ fun _ _ => rfl
@[simp] theorem Mems.storeHbm_bar4 : (m.storeHbm a bs bad).bar4 = m.bar4 := Mems.storeHbm_keeps _ fun _ _ => rfl

end storeHbm

@[simp] theorem State.devWrite_hbm_mems (s : State) (a : Nat) (bs : List Byte) :
    (s.devWrite (.hbm a) bs).mems = s.mems.storeHbm a bs false := rfl
@[simp] theorem State.devWrite_sram_mems (s : State) (a : Nat) (bs : List Byte) :
    (s.devWrite (.sram a) bs).mems = s.mems.writeSram a bs false := rfl
@[simp] theorem Mems.writeSram_sram (m : Mems) (a : Nat) (bs : List Byte) (bad : Bool) :
    (m.writeSram a bs bad).sram = m.sram.write a bs := rfl
@[simp] theorem Mems.writeSram_hbm (m : Mems) (a : Nat) (bs : List Byte) (bad : Bool) : (m.writeSram a bs bad).hbm = m.hbm := rfl

/-! ### Byte enables (R318) -/

/-- Does some stretch of a write with byte enables hold address `n`? -/
def covered (a : Nat) (d : List (Option Byte)) (n : Nat) : Prop := ∃ w ∈ enabled a d, w.1 ≤ n ∧ n < w.1 + w.2.length

theorem enabled_none_cons (a : Nat) (d : List (Option Byte)) : enabled a (none :: d) = enabled (a + 1) d := rfl

/-- An enabled byte lengthens the stretch that starts just after it, or is a stretch of its own. -/
theorem enabled_some_cons (a : Nat) (b : Byte) (d : List (Option Byte)) :
    (∃ cs rest, enabled (a + 1) d = (a + 1, cs) :: rest ∧ enabled a (some b :: d) = (a, b :: cs) :: rest) ∨
      enabled a (some b :: d) = (a, [b]) :: enabled (a + 1) d := by
  rw [enabled]
  rcases hr : enabled (a + 1) d with _ | ⟨⟨x, cs⟩, rest⟩
  · exact .inr rfl
  · by_cases hx : x = a + 1
    · subst hx; exact .inl ⟨cs, rest, rfl, by simp⟩
    · exact .inr (by simp [hx])

theorem covered_none_cons {a n : Nat} {d : List (Option Byte)} : covered a (none :: d) n ↔ covered (a + 1) d n := Iff.rfl

theorem covered_some_cons {a n : Nat} {b : Byte} {d : List (Option Byte)} :
    covered a (some b :: d) n ↔ n = a ∨ covered (a + 1) d n := by
  rcases enabled_some_cons a b d with ⟨cs, rest, hr, he⟩ | he
  · simp only [covered, he, hr, List.mem_cons, exists_eq_or_imp, List.length_cons, ← or_assoc]
    exact or_congr_left (by omega)
  · simp only [covered, he, List.mem_cons, exists_eq_or_imp, List.length_singleton]
    exact or_congr_left (by omega)

theorem le_of_covered {a n : Nat} {d : List (Option Byte)} (h : covered a d n) : a ≤ n := by
  induction d generalizing a with
  | nil => simp [covered, enabled] at h
  | cons x d ih =>
    cases x with
    | none => exact Nat.le_of_succ_le (ih (covered_none_cons.1 h))
    | some b =>
      rcases covered_some_cons.1 h with rfl | h
      · exact Nat.le_refl _
      · exact Nat.le_of_succ_le (ih h)

/-- The stretches of a write hold exactly the bytes that are enabled. -/
theorem covered_iff_enabled {a i : Nat} {d : List (Option Byte)} : covered a d (a + i) ↔ d[i]?.join.isSome = true := by
  induction d generalizing a i with
  | nil => simp [covered, enabled]
  | cons x d ih =>
    have hnext : ∀ i, covered (a + 1) d (a + (i + 1)) ↔ d[i]?.join.isSome = true := fun i => by
      rw [← ih (a := a + 1), Nat.add_right_comm a 1 i, Nat.add_assoc]
    have hhead : ¬ covered (a + 1) d (a + 0) := fun h => by have := le_of_covered h; omega
    cases x with
    | none =>
      rw [covered_none_cons]
      cases i with
      | zero => simpa using hhead
      | succ i => simpa using hnext i
    | some b =>
      rw [covered_some_cons]
      cases i with
      | zero => simp
      | succ i => simpa using hnext i

/-! ### Refused accesses (R450) -/

@[simp] theorem Obs.fire_accessLog (o : Obs) (lea : Lea) (live src : Nat) (code index : BitVec 32) (value : Word) :
    (o.fire lea live src code index value).accessLog = o.accessLog := by
  unfold Obs.fire; dsimp only; split <;> rfl

@[simp] theorem Obs.bump_accessLog (o : Obs) (lea : Lea) (live : Nat) (k : Ctr) (i n : Nat) :
    (o.bump lea live k i n).accessLog = o.accessLog := by
  unfold Obs.bump; dsimp only; split
  · rw [Obs.fire_accessLog]; rfl
  · rfl

theorem other_ne (p : Port) : other p ≠ p := by revert p; decide

section refuse
variable (s : State) (p : Port) (kind : Nat) (w : Bool) (off : Nat) (d : Bool)

@[simp] theorem State.refuseAccess_mems : (s.refuseAccess p kind w off d).mems = s.mems := rfl
@[simp] theorem State.refuseAccess_host : (s.refuseAccess p kind w off d).host = s.host := rfl
@[simp] theorem State.refuseAccess_region : (s.refuseAccess p kind w off d).region = s.region := rfl

/-- The log of the port holds the access refused last. -/
theorem State.refuseAccess_accessLog : (s.refuseAccess p kind w off d).obs.accessLog =
    s.obs.accessLog.set p (pack [(44, 20, s.time.lea.toNat / 1000), (43, 1, w.toNat), (40, 3, kind), (0, 40, off)]) :=
  congrArg (Two.set · p _) (Obs.bump_accessLog ..)

end refuse

/-! ### BAR0 (R6, R315-R317) -/

section bar0
variable {s : State} {p q : Port} {off : Nat}

theorem exec_hostRoWrite (foreign : Bool) : exec (.hostRoWrite p off foreign) s = execHostRoWrite p off foreign s := rfl
theorem exec_badShapeAccess (w : Bool) : exec (.badShapeAccess p off w) s = execBadShapeAccess p off w s := rfl
theorem exec_bar2BaseWrite (v : BitVec 64) : exec (.bar2BaseWrite p q v) s = execBar2BaseWrite p q v s := rfl
theorem exec_msixTableWrite (size : Nat) (w : Bool) (v : BitVec 64) :
    exec (.msixTableWrite p off size w v) s = execMsixTableWrite p off size w v s := rfl

section plain
variable (hl : s.portLive p = true) (hp : plainOffset off = true) (hd : doorbellOffset off = false)
include hl hp hd

/-- A write to a register that no host may write is refused with KIND 2. -/
theorem exec_hostRoWrite_of_readOnly (ho : regOwner off = none) :
    exec (.hostRoWrite p off false) s = .next (s.refuseAccess p 2 true off) := by
  simp [exec_hostRoWrite, execHostRoWrite, hl, hp, hd, ho]

/-- A write to a register of the other port is refused with KIND 3. -/
theorem exec_hostRoWrite_of_foreign (ho : regOwner off = some q) (hq : q ≠ p) :
    exec (.hostRoWrite p off true) s = .next (s.refuseAccess p 3 true off) := by
  simp [exec_hostRoWrite, execHostRoWrite, hl, hp, hd, ho, hq]

end plain

theorem exec_badShapeAccess_of_live (hl : s.portLive p = true) (hoff : off < 0x4000000) (w : Bool) :
    exec (.badShapeAccess p off w) s = .next (s.refuseAccess p 1 w off) := by
  simp [exec_badShapeAccess, execBadShapeAccess, hl, hoff]

section base
variable (hl : s.portLive p = true) {v : BitVec 64}
include hl

theorem exec_bar2BaseWrite_of_foreign (hq : p ≠ q) :
    exec (.bar2BaseWrite p q v) s = .next (s.refuseAccess p 3 true (0x200 + 8 * q.val)) := by
  simp [exec_bar2BaseWrite, execBar2BaseWrite, hl, hq]

theorem exec_bar2BaseWrite_of_misaligned (h : v.toNat % 2 ^ 40 % (s.host.ports.get p).bar2Size ≠ 0) :
    exec (.bar2BaseWrite p p v) s = .next (s.refuseAccess p 5 true (0x200 + 8 * p.val)) := by
  simp only [exec_bar2BaseWrite, execBar2BaseWrite, hl, if_pos h, Bool.not_true, Bool.false_eq_true, if_false, ne_eq,
    not_true_eq_false]

theorem exec_bar2BaseWrite_of_aligned (h : v.toNat % 2 ^ 40 % (s.host.ports.get p).bar2Size = 0) :
    exec (.bar2BaseWrite p p v) s = .next (s.modPort p fun x => { x with bar2Base := BitVec.ofNat 64 (v.toNat % 2 ^ 40) }) := by
  simp only [exec_bar2BaseWrite, execBar2BaseWrite, hl, h, Bool.not_true, Bool.false_eq_true, if_false, ne_eq,
    not_true_eq_false]

end base

theorem msixOffset_of_table (h : 0x80000 ≤ off) (h' : off < 0x88000) : msixOffset off = true := by simp [msixOffset, h, h']

section table
variable (hl : s.portLive p = true) (h : 0x80000 ≤ off) (h' : off < 0x88000) (v : BitVec 64)
include hl h h'

/-- An aligned 32-bit write writes its word of the port's table. -/
theorem exec_msixTableWrite_word (ha : off % 4 = 0) : exec (.msixTableWrite p off 4 true v) s =
    .next (s.modPort p fun x => x.msixPut (off - 0x80000) (v.setWidth 32)) := by
  simp [exec_msixTableWrite, execMsixTableWrite, hl, msixOffset_of_table h h', h', ha]

/-- An aligned 64-bit write writes both its words of the port's table. -/
theorem exec_msixTableWrite_words (ha : off % 8 = 0) : exec (.msixTableWrite p off 8 true v) s =
    .next (s.modPort p fun x =>
      (x.msixPut (off - 0x80000) (v.setWidth 32)).msixPut (off - 0x80000 + 4) ((v >>> 32).setWidth 32)) := by
  simp [exec_msixTableWrite, execMsixTableWrite, hl, msixOffset_of_table h h', h', ha]

theorem exec_msixTableWrite_misaligned (ha : off % 4 ≠ 0) :
    exec (.msixTableWrite p off 4 true v) s = .next (s.refuseAccess p 1 true off) := by
  simp [exec_msixTableWrite, execMsixTableWrite, hl, msixOffset_of_table h h', ha]

end table

/-- The pending bits are read-only, of a port that is live and of one that is not. -/
theorem exec_msixTableWrite_pending (h : 0xC0000 ≤ off) (ha : off % 8 = 0) (v : BitVec 64) :
    exec (.msixTableWrite p off 8 true v) s = .next s := by
  have hn : ¬ off < 0x88000 := by omega
  simp [exec_msixTableWrite, execMsixTableWrite, ha, hn]

end bar0

/-! ### BAR2 (R318) -/

section bar2
variable {s : State} {p : Port} {off : Nat}

theorem exec_bar2Read (len : Nat) : exec (.bar2Read p off len) s = execBar2Read p off len s := rfl
theorem exec_bar2Write (d : List (Option Byte)) (ep : Bool) : exec (.bar2Write p off d ep) s = execBar2Write p off d ep s := rfl

section read
variable {len : Nat} (hl : s.portLive p = true) (hin : s.inBar2 p off len = true)
include hl hin

theorem exec_bar2Read_of_reserved (h : s.bar2Place p off len = .reserved) :
    exec (.bar2Read p off len) s = .next (s.refuseAccess p 4 false off) := by
  simp [exec_bar2Read, execBar2Read, hl, hin, h]

/-- A read that reaches a place counts only the poison that it meets. -/
theorem exec_bar2Read_of_place (h : s.bar2Place p off len ≠ .reserved) : exec (.bar2Read p off len) s =
    .next (s.when (!(s.devBad (s.bar2Place p off len) len).isEmpty) (·.bump Ctr.hostPoisonTx p.val)) := by
  rcases hx : s.bar2Place p off len with a | a | _
  · simp [exec_bar2Read, execBar2Read, hl, hin, hx]
  · simp [exec_bar2Read, execBar2Read, hl, hin, hx]
  · exact absurd hx h

end read

theorem bar2Value_fst {len : Nat} : (s.bar2Value p off len).1 = s.devRead (s.bar2Place p off len) len := rfl

section write
variable {d : List (Option Byte)} {a : Nat} (hl : s.portLive p = true) (hin : s.inBar2 p off d.length = true)
include hl hin

theorem exec_bar2Write_poisoned : exec (.bar2Write p off d true) s = .next (s.bump Ctr.hostPoisonRx p.val) := by
  simp [exec_bar2Write, execBar2Write, hl, hin]

theorem exec_bar2Write_of_reserved (h : s.bar2Place p off d.length = .reserved) :
    exec (.bar2Write p off d false) s = .next (s.refuseAccess p 4 true off) := by
  simp [exec_bar2Write, execBar2Write, hl, hin, h]

theorem exec_bar2Write_of_hbm (h : s.bar2Place p off d.length = .hbm a) : exec (.bar2Write p off d false) s =
    .next (s.forEach (enabled a d) fun w (u : State) => u.devWrite (.hbm w.1) w.2) := by
  simp [exec_bar2Write, execBar2Write, hl, hin, h]

theorem exec_bar2Write_of_sram (h : s.bar2Place p off d.length = .sram a) (hd : ∀ b ∈ d, b.isSome = true) :
    exec (.bar2Write p off d false) s = .next (s.devWrite (.sram a) (d.filterMap id)) := by
  have hall : d.all (·.isSome) = true := List.all_eq_true.2 hd
  simp [exec_bar2Write, execBar2Write, hl, hin, h, hall]

end write
end bar2

/-! ### BAR4 (R319) -/

section bar4
variable {s : State} {p : Port} {off len : Nat}

theorem exec_bar4Access (data : Option (List Byte)) : exec (.bar4Access p off len data) s = execBar4Access p off len data s := rfl

theorem exec_bar4Access_write {bs : List Byte} (hl : s.portLive p = true) (hne : bs ≠ []) (hoff : off + bs.length ≤ 268435456)
    (h : s.bar4Reaches p off = true) (h' : s.bar4Reaches p (off + bs.length - 1) = true) :
    exec (.bar4Access p off len (some bs)) s = .next { s with mems := { s.mems with bar4 := s.mems.bar4.write off bs } } := by
  have hpos : 0 < bs.length := List.length_pos_iff.2 hne
  simp [exec_bar4Access, execBar4Access, hl, hpos, hoff, h, h']

section read
variable (hl : s.portLive p = true) (hpos : 0 < len) (hoff : off + len ≤ 268435456)
include hl hpos hoff

theorem exec_bar4Access_read (h : s.bar4Reaches p off = true) (h' : s.bar4Reaches p (off + len - 1) = true) :
    exec (.bar4Access p off len none) s = .next s := by
  simp [exec_bar4Access, execBar4Access, hl, hpos, hoff, h, h']

theorem exec_bar4Access_of_unreached (h : s.bar4Reaches p off = false) :
    exec (.bar4Access p off len none) s = .next (s.refuseAccess p 6 false off) := by
  simp [exec_bar4Access, execBar4Access, hl, hpos, hoff, h]

end read
end bar4

/-- Settles O38: an access of each window does what its case of `exec` says, a write to HBM stores line by line, and the
stretches of a write with byte enables hold its enabled bytes. -/
theorem hostWindowsReachTheirBytes : Obligations.HostWindowsReachTheirBytes := by
  unfold Obligations.HostWindowsReachTheirBytes
  refine ⟨?roWrite, ?badShape, ?refusal, ?base, ?table, ?pending, ?read, ?write, ?hbm, ?sram, ?enables, ?queueWrite, ?queueRead⟩
  case roWrite => exact fun s p off hl hp hd =>
    ⟨exec_hostRoWrite_of_readOnly hl hp hd, fun q ho hq => exec_hostRoWrite_of_foreign hl hp hd ho hq⟩
  case badShape => exact fun s p off w hl hoff => exec_badShapeAccess_of_live hl hoff w
  case refusal =>
    intro s p kind off w d
    refine ⟨State.refuseAccess_mems .., State.refuseAccess_host .., State.refuseAccess_region .., ?_, ?_⟩ <;> rw [State.refuseAccess_accessLog]
    · exact Two.get_set_same ..
    · exact Two.get_set_other _ (other_ne p) _
  case base => exact fun s p q v hl =>
    ⟨exec_bar2BaseWrite_of_foreign hl, exec_bar2BaseWrite_of_misaligned hl, exec_bar2BaseWrite_of_aligned hl⟩
  case table => exact fun s p off v hl h h' =>
    ⟨exec_msixTableWrite_word hl h h' v, exec_msixTableWrite_words hl h h' v, exec_msixTableWrite_misaligned hl h h' v⟩
  case pending => exact fun s p off v h _ ha => exec_msixTableWrite_pending h ha v
  case read =>
    intro s p off len hl hin
    refine ⟨fun h => ⟨exec_bar2Read_of_reserved hl hin h, ?_⟩, fun h hb => ?_, fun h hb => ?_, fun a h => ?_, fun a h => ?_⟩
    · rw [bar2Value_fst, h]; rfl
    · rw [exec_bar2Read_of_place hl hin h, hb]; rfl
    · rw [exec_bar2Read_of_place hl hin h, List.isEmpty_eq_false_iff.2 hb]; rfl
    · rw [bar2Value_fst, h]; rfl
    · rw [bar2Value_fst, h]; rfl
  case write => exact fun s p off d hl hin =>
    ⟨exec_bar2Write_poisoned hl hin, exec_bar2Write_of_reserved hl hin, fun a => exec_bar2Write_of_hbm hl hin,
      fun a => exec_bar2Write_of_sram hl hin⟩
  case hbm =>
    intro s a bs hw
    simp only [State.devWrite_hbm_mems]
    exact ⟨Mems.storeHbm_read hw, fun b => Mems.storeHbm_get_outside hw, Mems.storeHbm_sram, Mems.storeHbm_bar4⟩
  case sram =>
    intro s a bs hw
    simp only [State.devWrite_sram_mems, Mems.writeSram_sram, Mems.writeSram_hbm]
    exact ⟨Memory.read_write a bs hw, fun b => Memory.get_write_outside bs hw, trivial⟩
  case enables =>
    intro a i d _
    have hc := covered_iff_enabled (a := a) (i := i) (d := d)
    rw [← Option.not_isSome_iff_eq_none, ← hc]
    simp only [covered, not_exists, not_and]
  case queueWrite => exact fun s p off len bs hl hne hoff hw h h' =>
    ⟨exec_bar4Access_write hl hne hoff h h', Memory.read_write off bs hw, fun b => Memory.get_write_outside bs hw⟩
  case queueRead => exact fun s p off len hl hpos hoff =>
    ⟨exec_bar4Access_read hl hpos hoff, exec_bar4Access_of_unreached hl hpos hoff⟩

end Sys2Proof.Machine
end

section
/-! PROOFS. The job fault (R25, R26): which cause of a list is primary, what JOB_FAULT and JOB_FAULT_DRAIN_END do, and the
statement that they settle. -/

namespace Sys2Proof.Machine

/-! ### The order of causes (R26) -/

/-- Between times that do not wrap past one another, precedence (R157) is the order of the numbers. -/
theorem before_iff_toNat_lt {a b : Lea} (ha : a.toNat < 2 ^ 63) (hb : b.toNat < 2 ^ 63) : before a b = true ↔ a.toNat < b.toNat := by
  simp only [before, Bool.and_eq_true, decide_eq_true_eq, BitVec.toNat_sub]
  omega

/-- `a` is not after `b` (R26): it has the earlier stamp, or the same stamp and no higher station. -/
def Cause.NotAfter (a b : Cause) : Prop := a.stamp.toNat < b.stamp.toNat ∨ a.stamp = b.stamp ∧ a.station ≤ b.station

/-- Among causes whose stamps do not wrap past one another, `Cause.le` says which is not after the other. -/
theorem Cause.le_iff_notAfter {a b : Cause} (ha : a.stamp.toNat < 2 ^ 63) (hb : b.stamp.toNat < 2 ^ 63) :
    a.le b = true ↔ a.NotAfter b := by
  simp only [Cause.le, Bool.or_eq_true, before_iff_toNat_lt ha hb, Bool.and_eq_true, decide_eq_true_eq, Cause.NotAfter]

theorem Cause.notAfter_refl (a : Cause) : a.NotAfter a := .inr ⟨rfl, Nat.le_refl _⟩

theorem Cause.NotAfter.trans {a b c : Cause} (hab : a.NotAfter b) (hbc : b.NotAfter c) : a.NotAfter c := by
  simp only [Cause.NotAfter, ← BitVec.toNat_inj] at *
  omega

theorem Cause.notAfter_of_not {a b : Cause} (h : ¬ a.NotAfter b) : b.NotAfter a := by
  simp only [Cause.NotAfter, ← BitVec.toNat_inj] at *
  omega

/-! ### The primary cause and the others (R26) -/

section primary
variable {cs : List Cause} {c p : Cause}

theorem primary_eq_none : primary cs = none ↔ cs = [] := by
  cases cs with
  | nil => exact iff_of_true rfl rfl
  | cons c cs =>
    refine iff_of_false ?_ (List.cons_ne_nil c cs)
    rw [primary]
    split
    · exact Option.some_ne_none _
    · split <;> exact Option.some_ne_none _

/-- The primary cause is the first of a list with no other cause, and else the earlier of the first and the primary of the rest. -/
theorem primary_cons_eq_some (h : primary (c :: cs) = some p) :
    (cs = [] ∧ p = c) ∨ ∃ d, primary cs = some d ∧ ((c.le d = true ∧ p = c) ∨ (c.le d = false ∧ p = d)) := by
  rw [primary] at h
  split at h
  · rename_i hn
    exact .inl ⟨primary_eq_none.1 hn, (Option.some.inj h).symm⟩
  · rename_i d hd
    refine .inr ⟨d, hd, ?_⟩
    cases hle : c.le d with
    | true => exact .inl ⟨rfl, by simpa [hle] using h.symm⟩
    | false => exact .inr ⟨rfl, by simpa [hle] using h.symm⟩

theorem mem_of_primary (h : primary cs = some p) : p ∈ cs := by
  induction cs generalizing p with
  | nil => cases h
  | cons c cs ih =>
    obtain ⟨-, rfl⟩ | ⟨d, hd, ⟨-, rfl⟩ | ⟨-, rfl⟩⟩ := primary_cons_eq_some h
    · exact List.mem_cons_self
    · exact List.mem_cons_self
    · exact List.mem_cons_of_mem c (ih hd)

/-- The primary cause is after none. -/
theorem primary_notAfter (hs : ∀ c ∈ cs, c.stamp.toNat < 2 ^ 63) (h : primary cs = some p) : ∀ c ∈ cs, p.NotAfter c := by
  induction cs generalizing p with
  | nil => cases h
  | cons c cs ih =>
    obtain ⟨hc, hcs⟩ := List.forall_mem_cons.1 hs
    rw [List.forall_mem_cons]
    obtain ⟨rfl, rfl⟩ | ⟨d, hd, hcase⟩ := primary_cons_eq_some h
    · exact ⟨p.notAfter_refl, fun x hx => absurd hx List.not_mem_nil⟩
    · have hmin := ih hcs hd
      have hle := Cause.le_iff_notAfter hc (hcs d (mem_of_primary hd))
      obtain ⟨h1, rfl⟩ | ⟨h1, rfl⟩ := hcase
      · exact ⟨p.notAfter_refl, fun x hx => (hle.1 h1).trans (hmin x hx)⟩
      · exact ⟨Cause.notAfter_of_not (mt hle.2 (Bool.eq_false_iff.1 h1)), hmin⟩

theorem secondaries_eq_erase (h : primary cs = some p) : secondaries cs = cs.erase p := by simp [secondaries, h]

theorem length_secondaries_add_one (h : primary cs = some p) : (secondaries cs).length + 1 = cs.length := by
  have hp := mem_of_primary h
  rw [secondaries_eq_erase h, List.length_erase_of_mem hp, Nat.sub_add_cancel (List.length_pos_of_mem hp)]

theorem eq_or_mem_secondaries (h : primary cs = some p) (hc : c ∈ cs) : c = p ∨ c ∈ secondaries cs := by
  rw [secondaries_eq_erase h]
  by_cases hne : c = p
  · exact .inl hne
  · exact .inr ((List.mem_erase_of_ne hne).2 hc)

end primary

/-! ### JOB_FAULT (R25 steps 2 to 4) -/

theorem exec_jobFault (s : State) : exec .jobFault s = execJobFault s := rfl
theorem exec_jobFaultDrainEnd (s : State) : exec .jobFaultDrainEnd s = execJobFaultDrainEnd s := rfl

/-- With no job, with no cause or with a sequence under way, JOB_FAULT does nothing. -/
theorem exec_jobFault_of_idle {s : State} (h : s.job.open_ = none ∨ s.job.fault ≠ .none ∨ s.job.causes = []) :
    exec .jobFault s = .next s := by
  obtain h | h | h := h <;> simp [exec_jobFault, execJobFault, State.jobOpen, h]

/-- What parking a thread leaves alone, faulting the threads of a region leaves alone. -/
theorem State.faultThreads_keeps {β : Type} (g : State → β) (hg : ∀ (u : State) (c t : Nat), g (u.park c t .faulted) = g u)
    (s : State) (r : Nat) : g (s.faultThreads r) = g s :=
  State.forEach_keeps g (fun w u => by exact hg u w.1 w.2) s _

@[simp] theorem State.faultThreads_region (s : State) (r : Nat) : (s.faultThreads r).region = s.region :=
  State.faultThreads_keeps (·.region) (fun _ _ _ => rfl) s r
@[simp] theorem State.faultThreads_mems (s : State) (r : Nat) : (s.faultThreads r).mems = s.mems :=
  State.faultThreads_keeps (·.mems) (fun _ _ _ => rfl) s r
@[simp] theorem State.faultThreads_job (s : State) (r : Nat) : (s.faultThreads r).job = s.job :=
  State.faultThreads_keeps (·.job) (fun _ _ _ => rfl) s r

/-! ### JOB_FAULT_DRAIN_END (R25 steps 5 and 6) -/

@[simp] theorem State.abandonSlots_job (s : State) : s.abandonSlots.job = s.job :=
  State.forEach_keeps (·.job) (fun b u => by exact State.modBlk_job u b _) s _
@[simp] theorem State.abandonSlots_mcLines (s : State) : s.abandonSlots.reel.mcLines = [] := rfl

section completions
variable (s : State) (ls : List Launch) (st : Status) (res : State → BitVec 128)

@[simp] theorem State.forEach_done_job : (s.forEach ls fun l u => u.done l.cmd st (res u)).job = s.job :=
  State.forEach_keeps (·.job) (fun l u => u.done_job l.cmd st (res u)) s ls
@[simp] theorem State.forEach_done_reel : (s.forEach ls fun l u => u.done l.cmd st (res u)).reel = s.reel :=
  State.forEach_keeps (·.reel) (fun l u => u.done_reel l.cmd st (res u)) s ls

end completions

/-- The end of the drain ends the job: what is kept of the job changes in its step of the sequence and its launches only. -/
theorem exec_jobFaultDrainEnd_of_draining {s : State} {p : Cause} (hp : primary s.job.causes = some p) (hf : s.job.fault = .draining) :
    ∃ t, exec .jobFaultDrainEnd s = .next t ∧ t.job = { s.job with fault := .done, launches := [] } ∧ t.reel.mcLines = [] := by
  rw [exec_jobFaultDrainEnd, execJobFaultDrainEnd, hp]
  simp only [hf, if_true]
  exact ⟨_, rfl, by simp, by simp⟩

/-- Settles O12: each step of the sequence does what its case of `exec` says, and the primary cause of a list is after
no other by stamp and station. -/
theorem jobFaultHaltsAndEndsTheJob : Obligations.JobFaultHaltsAndEndsTheJob := by
  unfold Obligations.JobFaultHaltsAndEndsTheJob
  refine ⟨⟨?halts, ?idle, ?drainEnd, ?faultThreads⟩, ?primary⟩
  case halts =>
    intro s ho hf hc
    simp [exec_jobFault, execJobFault, State.jobOpen, ho, hf, hc]
  case idle => exact fun s => exec_jobFault_of_idle
  case drainEnd =>
    intro s p hp hf
    obtain ⟨t, ht, hjob, hlines⟩ := exec_jobFaultDrainEnd_of_draining hp hf
    exact ⟨t, ht, by rw [hjob], by rw [hjob], by rw [hjob], by rw [hjob], hlines⟩
  case faultThreads => exact fun s r => ⟨s.faultThreads_region r, s.faultThreads_mems r, s.faultThreads_job r⟩
  case primary => exact fun cs p hs hp => ⟨mem_of_primary hp, primary_notAfter hs hp,
    length_secondaries_add_one hp, fun c => eq_or_mem_secondaries hp⟩

end Sys2Proof.Machine
end

section
/-! PROOFS. The narrow number formats (R29, R30, R36, R51): a magnitude rounded to `p` significant bits never exceeds `2^p`
units, so the codes of FP4 in range end at 7 below the sign; the values of the codes; and the statement that they settle. -/

namespace Sys2Proof.Machine

/-! ### Rounding to `p` significant bits (R46-R48, R51) -/

section rounding
variable (md : Rnd) (p : Nat) (qmin : Int) (m : Nat) (e : Int)

theorem le_ulpExp : qmin ≤ ulpExp p qmin m e := Int.le_max_left ..

/-- A magnitude is below `2^p` of its own units. -/
theorem log2_add_le_ulpExp : (Nat.log2 m : Int) + 1 + e ≤ p + ulpExp p qmin m e := by
  unfold ulpExp
  omega

/-- Rounding takes a multiple or the next one. -/
theorem roundAt_le_div_add_one {q : Int} (h : e < q) : roundAt md q m e ≤ m / 2 ^ (q - e).toNat + 1 := by
  simp only [roundAt, if_neg (show ¬ e ≥ q by omega)]
  split
  · exact Nat.le_refl _
  · exact Nat.le_succ _

/-- At the unit of its own magnitude, rounding gives at most `2^p` units. -/
theorem roundAt_ulpExp_le : roundAt md (ulpExp p qmin m e) m e ≤ 2 ^ p := by
  have hlog := log2_add_le_ulpExp p qmin m e
  have hm : m < 2 ^ (m.log2 + 1) := Nat.lt_log2_self
  generalize ulpExp p qmin m e = q at hlog
  by_cases hq : e < q
  · have hdiv : m / 2 ^ (q - e).toNat < 2 ^ p := by
      rw [Nat.div_lt_iff_lt_mul (Nat.two_pow_pos _), ← Nat.pow_add]
      exact Nat.lt_of_lt_of_le hm (Nat.pow_le_pow_right Nat.two_pos (by omega))
    exact Nat.le_trans (roundAt_le_div_add_one md m e hq) hdiv
  · rw [roundAt, if_pos (by omega)]
    calc
      m * 2 ^ (e - q).toNat ≤ 2 ^ (m.log2 + 1) * 2 ^ (e - q).toNat := Nat.mul_le_mul_right _ (Nat.le_of_lt hm)
      _ = 2 ^ (m.log2 + 1 + (e - q).toNat) := (Nat.pow_add ..).symm
      _ ≤ 2 ^ p := Nat.pow_le_pow_right Nat.two_pos (by omega)

theorem roundMag_fst_le : (roundMag p qmin md m e).1 ≤ 2 ^ p := by
  rw [roundMag]
  split
  · exact Nat.zero_le _
  · exact roundAt_ulpExp_le md p qmin m e

theorem le_roundMag_snd : qmin ≤ (roundMag p qmin md m e).2 := by
  rw [roundMag]
  split
  · exact Int.le_refl _
  · exact le_ulpExp p qmin m e

end rounding

/-! ### FP4 -/

/-- Two units or more that are not above 6 are units of 2 at most. -/
theorem unit_le_of_not_magGt {k : Nat} {q : Int} (hk : 2 ≤ k) (h : magGt k q 6 0 = false) : q ≤ 1 := by
  refine Int.not_lt.1 fun hq => ?_
  have hmin : min q 0 = 0 := by omega
  simp only [magGt, hmin, Int.sub_zero, Int.toNat_zero, Nat.pow_zero, Nat.mul_one, decide_eq_false_iff_not, Nat.not_lt] at h
  have hpow : 2 ^ 2 ≤ 2 ^ q.toNat := Nat.pow_le_pow_right Nat.two_pos (by omega)
  have hmul : 2 * 2 ^ 2 ≤ k * 2 ^ q.toNat := Nat.mul_le_mul hk hpow
  omega

/-- A magnitude of one to four units that is not above 6 has one of the seven codes of an FP4 magnitude that is not zero. -/
theorem encMag_fp4_mem {k : Nat} {q : Int} (hk : k ≠ 0) (hk4 : k ≤ 4) (hq : -1 ≤ q) (h : magGt k q 6 0 = false) :
    0 < encMag 1 (-1) k q ∧ encMag 1 (-1) k q < 8 := by
  by_cases hk1 : k = 1
  · subst hk1
    exact (by decide : 0 < 1 ∧ 1 < 8)
  · have hq1 := unit_le_of_not_magGt (by omega) h
    have hqs : q = -1 ∨ q = 0 ∨ q = 1 := by omega
    have hks : k = 2 ∨ k = 3 ∨ k = 4 := by omega
    obtain rfl | rfl | rfl := hqs <;> obtain rfl | rfl | rfl := hks <;> revert h <;> decide

theorem fp4Open_lt (n : Nat) : fp4Open n < 16 := by
  rw [fp4Open]
  split
  · decide
  · exact (Config.unscaledFp4 n).isLt

theorem fp4Open_ne_eight (n : Nat) : fp4Open n ≠ 8 := by
  rw [fp4Open]
  split
  · decide
  · rename_i h
    exact fun h8 => h (BitVec.eq_of_toNat_eq h8)

theorem cp4_fp4_nan (md : Rnd) : (cp4 .fp4 md .nan).1 = fp4Open 0 := rfl
theorem cp4_fp4_inf (md : Rnd) (neg : Bool) : (cp4 .fp4 md (.inf neg)).1 = fp4Open (if neg then 2 else 1) := rfl

/-- The code of a finite value: 0x0 where it rounds to zero, and else its sign and the code of its magnitude, 7 where that is
above 6 (R30, R51). -/
theorem cp4_fp4_fin (md : Rnd) (m e : Int) : (cp4 .fp4 md (.fin m e)).1 =
    let x := roundMag 2 (-1) md m.natAbs e
    if x.1 = 0 then 0 else (if m < 0 then 8 else 0) + if magGt x.1 x.2 6 0 then 7 else encMag 1 (-1) x.1 x.2 := by
  rw [cp4]
  simp only [Fmt.isInt, Fmt.shape, Fmt.maxFin, Bool.false_eq_true, if_false, decide_eq_true_eq]
  split
  · rfl
  · split <;> rfl

theorem cp4_fp4_fin_of_zero {md : Rnd} {m e : Int} (h : (roundMag 2 (-1) md m.natAbs e).1 = 0) : (cp4 .fp4 md (.fin m e)).1 = 0 := by
  rw [cp4_fp4_fin]
  exact if_pos h

/-- The magnitude of a finite result that is not zero has a code from 1 to 7. -/
theorem fp4_magnitude_mem (md : Rnd) (m : Nat) (e : Int) (h : (roundMag 2 (-1) md m e).1 ≠ 0) :
    let x := roundMag 2 (-1) md m e
    let c := if magGt x.1 x.2 6 0 then 7 else encMag 1 (-1) x.1 x.2
    0 < c ∧ c < 8 := by
  intro x c
  cases hgt : magGt x.1 x.2 6 0 with
  | true => simp [c, hgt]
  | false => simpa [c, hgt] using encMag_fp4_mem h (roundMag_fst_le md 2 (-1) m e) (le_roundMag_snd md 2 (-1) m e) hgt

/-- No conversion to FP4 writes the code 0x8 (R30). -/
theorem cp4_fp4_lt_and_ne_eight (md : Rnd) (x : Num) : (cp4 .fp4 md x).1 < 16 ∧ (cp4 .fp4 md x).1 ≠ 8 := by
  cases x with
  | nan => exact ⟨fp4Open_lt _, fp4Open_ne_eight _⟩
  | inf neg => exact ⟨fp4Open_lt _, fp4Open_ne_eight _⟩
  | fin m e =>
    by_cases hz : (roundMag 2 (-1) md m.natAbs e).1 = 0
    · rw [cp4_fp4_fin_of_zero hz]
      decide
    · obtain ⟨hpos, hlt⟩ := fp4_magnitude_mem md m.natAbs e hz
      rw [cp4_fp4_fin]
      simp only [if_neg hz]
      split <;> omega

theorem Fmt.code_fp4_lt (row : List Byte) (i : Nat) : Fmt.fp4.code row i < 16 := Nat.mod_lt _ (by decide)
theorem Fmt.code_int4_lt (row : List Byte) (i : Nat) : Fmt.int4.code row i < 16 := Nat.mod_lt _ (by decide)
theorem Fmt.code_int2_lt (row : List Byte) (i : Nat) : Fmt.int2.code row i < 4 := Nat.mod_lt _ (by decide)

/-- Settles O54: the sixteen codes are read one by one, and a conversion to FP4 ends in 0x0 or in a sign with a magnitude code of
1 to 7. -/
theorem narrowCodesHaveTheirValues : Obligations.NarrowCodesHaveTheirValues := by
  unfold Obligations.NarrowCodesHaveTheirValues
  refine ⟨?fp4Values, ?fp4Codes, ?eightIsZero, ?neverEight, ?zero, ?int4Values, ?int2Values⟩
  case fp4Values => decide
  case fp4Codes => exact Fmt.code_fp4_lt
  case eightIsZero => rfl
  case neverEight => exact cp4_fp4_lt_and_ne_eight
  case zero => exact fun md m e => cp4_fp4_fin_of_zero
  case int4Values => decide
  case int2Values => decide

end Sys2Proof.Machine
end

section
/-! PROOFS. Exact accumulation (R31, R33, R34, R43, R44): a sum over consecutive numbers is the sum of a list and is bounded by
its length times the bound of its terms; the value of a block in SCALE_MODE 1 and 3; bounds of the elements; and the statement
that they settle. -/

namespace Sys2Proof.Machine

/-! ### Sums over consecutive numbers -/

section sums
variable {f g : Nat → Int} {lo n : Nat}

theorem sumFrom_eq_sum (f : Nat → Int) (lo n : Nat) : sumFrom f lo n = ((List.range n).map fun i => f (lo + i)).sum := by
  induction n with
  | zero => rfl
  | succ n ih => simp [sumFrom, ih, List.range_succ]

theorem sumFrom_congr (h : ∀ i < n, f (lo + i) = g (lo + i)) : sumFrom f lo n = sumFrom g lo n := by
  induction n with
  | zero => rfl
  | succ n ih => rw [sumFrom, sumFrom, ih fun i hi => h i (Nat.lt_succ_of_lt hi), h n (Nat.lt_succ_self n)]

/-- A sum of `n` terms of magnitude at most `B` has magnitude at most `n * B`. -/
theorem natAbs_sumFrom_le {B : Nat} (h : ∀ i, (f i).natAbs ≤ B) (lo n : Nat) : (sumFrom f lo n).natAbs ≤ n * B := by
  induction n with
  | zero => exact Nat.zero_le _
  | succ n ih =>
    calc
      (sumFrom f lo n + f (lo + n)).natAbs ≤ (sumFrom f lo n).natAbs + (f (lo + n)).natAbs := Int.natAbs_add_le ..
      _ ≤ n * B + B := Nat.add_le_add ih (h _)
      _ = (n + 1) * B := (Nat.succ_mul n B).symm

end sums

theorem natAbs_mul_le {x y : Int} {A B : Nat} (hx : x.natAbs ≤ A) (hy : y.natAbs ≤ B) : (x * y).natAbs ≤ A * B := by
  rw [Int.natAbs_mul]
  exact Nat.mul_le_mul hx hy

/-! ### The elements (R29, R36-R39, R43) -/

theorem natAbs_fp4Halves_le (c : Nat) : (fp4Halves c).natAbs ≤ 12 := by
  have h : ∀ r < 8, (([0, 1, 2, 3, 4, 6, 8, 12] : List Int).getD r 0).natAbs ≤ 12 := by decide
  have h8 := h (c % 8) (Nat.mod_lt _ (by decide))
  simp only [fp4Halves]
  split <;> omega

/-- A signed field of 4 bits, and so one of 2, is at least -8 and at most 7. -/
theorem natAbs_signed_le {w c : Nat} (hw : w = 4 ∨ w = 2) (h : c < 2 ^ w) : (signed w c).natAbs ≤ 8 := by
  obtain rfl | rfl := hw <;> simp only [signed] <;> split <;> omega

/-- A trit is 1, -1 or 0. -/
theorem natAbs_trit_le {P Q : Prop} [Decidable P] [Decidable Q] : (if P then 1 else if Q then -1 else 0 : Int).natAbs ≤ 8 := by
  split
  · decide
  · split <;> decide

/-- An element of an integer or ternary format is an integer of magnitude at most 8. -/
theorem Fmt.value_code_of_isInt {f : Fmt} (hf : f.isInt = true) (row : List Byte) (i : Nat) :
    ∃ m : Int, f.value (f.code row i) = .fin m 0 ∧ m.natAbs ≤ 8 := by
  cases f with
  | int4 => exact ⟨_, rfl, natAbs_signed_le (.inl rfl) (Fmt.code_int4_lt row i)⟩
  | int2 => exact ⟨_, rfl, natAbs_signed_le (.inr rfl) (Fmt.code_int2_lt row i)⟩
  | t2 => exact ⟨_, rfl, natAbs_trit_le⟩
  | t5b => exact ⟨_, rfl, natAbs_trit_le⟩
  | fp32 => cases hf
  | fp4 => cases hf
  | e4m3 => cases hf
  | e5m2 => cases hf
  | bf16 => cases hf

section elements
variable {o : OperRow} (k : Nat)

theorem OperRow.natAbs_halves_of_fp4 (h : o.fmt = .fp4) : (o.halves k).natAbs ≤ 12 := by
  simp only [OperRow.halves, h, Fmt.value, if_true]
  exact natAbs_fp4Halves_le _

theorem OperRow.natAbs_halves_of_isInt (h : o.fmt.isInt = true) : (o.halves k).natAbs ≤ 16 := by
  obtain ⟨m, hv, hm⟩ := Fmt.value_code_of_isInt h o.row k
  simp only [OperRow.halves, hv, Int.reduceNeg, Int.reduceEq, if_false]
  omega

theorem OperRow.natAbs_int_of_isInt (h : o.fmt.isInt = true) : (o.int k).natAbs ≤ 8 := by
  obtain ⟨m, hv, hm⟩ := Fmt.value_code_of_isInt h o.row k
  simpa only [OperRow.int, hv] using hm

end elements

theorem Fmt.eq_fp4_or_isInt {f : Fmt} (h : f ∈ [Fmt.fp4, .int4, .int2, .t2, .t5b]) : f = .fp4 ∨ f.isInt = true := by
  revert f
  decide

/-- The largest product of the FP4 path is 8 times 6, or 192 quarters (R44). -/
theorem natAbs_halves_mul_halves_le {a w : OperRow} (ha : a.fmt = .fp4) (hw : w.fmt ∈ [Fmt.fp4, .int4, .int2, .t2, .t5b]) (i : Nat) :
    (a.halves i * w.halves i).natAbs ≤ 192 := by
  have hx : (w.halves i).natAbs ≤ 16 := by
    obtain h | h := Fmt.eq_fp4_or_isInt hw
    · exact Nat.le_trans (w.natAbs_halves_of_fp4 i h) (by decide)
    · exact w.natAbs_halves_of_isInt i h
  exact natAbs_mul_le (a.natAbs_halves_of_fp4 i ha) hx

/-! ### Blocks (R31, R33, R34, R43) -/

/-- Length of a micro-block: 16 in SCALE_MODE 3, and else the block is one. -/
def microLen (mode : Nat) : Nat := if mode = 3 then 16 else 32

/-- The register of a micro-block of `n` elements from `lo`, in quarters, in a reduction of length `k`. -/
def microSum (a w : OperRow) (k lo n : Nat) : Int := sumFrom (fun i => if i < k then a.halves i * w.halves i else 0) lo n

/-- The combiner's sum of a block over its micro-blocks, each with its nudges. -/
def blockSum (a w : OperRow) (mode k b : Nat) : Int :=
  sumFrom (fun j => microSum a w k (blockLen mode * b + microLen mode * j) (microLen mode) * 2 ^ (14 - a.nudge mode b j - w.nudge mode b j))
    0 (blockLen mode / microLen mode)

section blocks
variable {a w : OperRow} {mode : Nat} (k b : Nat)

theorem fp4Block_of_scaleNan (h : a.e8m0 mode b = 255 ∨ w.e8m0 mode b = 255) : fp4Block a w mode k b = .nan := by
  simp [fp4Block, h]

/-- Within a block, the elements that a partial block lacks are those at `k` and beyond. -/
theorem microSum_eq_min {lo n top : Nat} (h : lo + n ≤ top) :
    sumFrom (fun i => if i < min k top then a.halves i * w.halves i else 0) lo n = microSum a w k lo n := by
  refine sumFrom_congr fun i hi => ?_
  have hlt : lo + i < min k top ↔ lo + i < k := by omega
  simp only [hlt]

/-- A micro-block of a block ends within it. -/
theorem micro_end_le {j : Nat} (hj : j < blockLen mode / microLen mode) :
    blockLen mode * b + microLen mode * j + microLen mode ≤ blockLen mode * (b + 1) := by
  revert hj
  simp only [blockLen, microLen]
  split <;> omega

/-- Without a scale of NaN, the value of a block is its combiner's sum times both scales. -/
theorem fp4Block_of_scales (ha : a.e8m0 mode b ≠ 255) (hw : w.e8m0 mode b ≠ 255) : fp4Block a w mode k b =
    .fin (blockSum a w mode k b) (-16 + ((a.e8m0 mode b : Int) - 127) + ((w.e8m0 mode b : Int) - 127)) := by
  simp only [fp4Block, ha, hw, decide_false, Bool.or_self, Bool.false_eq_true, if_false]
  refine congrArg (Num.fin · _) (sumFrom_congr fun j hj => ?_)
  rw [Nat.zero_add]
  exact congrArg (· * _) (microSum_eq_min k (micro_end_le b hj))

theorem microSum_eq_sum (a w : OperRow) (k lo n : Nat) :
    microSum a w k lo n = ((List.range n).map fun i => if lo + i < k then a.halves (lo + i) * w.halves (lo + i) else 0).sum :=
  sumFrom_eq_sum ..

/-- A block of SCALE_MODE 1 is one micro-block, without nudges. -/
theorem blockSum_one (a w : OperRow) : blockSum a w 1 k b =
    2 ^ 14 * ((List.range 32).map fun i => if 32 * b + i < k then a.halves (32 * b + i) * w.halves (32 * b + i) else 0).sum := by
  calc
    blockSum a w 1 k b = 0 + microSum a w k (32 * b) 32 * 2 ^ 14 := rfl
    _ = _ := by rw [Int.zero_add, Int.mul_comm, microSum_eq_sum]

/-- A block of SCALE_MODE 3 has 16 micro-blocks of 16 elements. -/
theorem blockSum_three (a w : OperRow) : blockSum a w 3 k b =
    ((List.range 16).map fun j => 2 ^ (14 - a.nudge 3 b j - w.nudge 3 b j) * ((List.range 16).map fun i =>
      if 256 * b + 16 * j + i < k then a.halves (256 * b + 16 * j + i) * w.halves (256 * b + 16 * j + i) else 0).sum).sum := by
  simp only [blockSum, blockLen, microLen, if_true, Nat.reduceDiv, sumFrom_eq_sum, Nat.zero_add, microSum_eq_sum, Int.mul_comm _ ((2 : Int) ^ _)]

/-! ### No overflow inside a block (R44) -/

theorem natAbs_microSum_le (ha : a.fmt = .fp4) (hw : w.fmt ∈ [Fmt.fp4, .int4, .int2, .t2, .t5b]) (lo n : Nat) :
    (microSum a w k lo n).natAbs ≤ n * 192 := by
  refine natAbs_sumFrom_le (fun i => ?_) lo n
  split
  · exact natAbs_halves_mul_halves_le ha hw i
  · exact Nat.zero_le _

theorem natAbs_two_pow_sub_le (n m : Nat) : ((2 : Int) ^ (14 - n - m)).natAbs ≤ 2 ^ 14 := by
  rw [Int.natAbs_pow]
  exact Nat.pow_le_pow_right Nat.two_pos (by omega)

theorem natAbs_blockSum_le (ha : a.fmt = .fp4) (hw : w.fmt ∈ [Fmt.fp4, .int4, .int2, .t2, .t5b]) :
    (blockSum a w mode k b).natAbs ≤ blockLen mode / microLen mode * (microLen mode * 192 * 2 ^ 14) :=
  natAbs_sumFrom_le (fun _ => natAbs_mul_le (natAbs_microSum_le k ha hw _ _) (natAbs_two_pow_sub_le _ _)) _ _

/-- A finite block value has the combiner's sum as its integer. -/
theorem eq_blockSum_of_fp4Block {c e : Int} (h : fp4Block a w mode k b = .fin c e) : c = blockSum a w mode k b := by
  by_cases hs : a.e8m0 mode b = 255 ∨ w.e8m0 mode b = 255
  · rw [fp4Block_of_scaleNan k b hs] at h
    cases h
  · obtain ⟨ha, hw⟩ := not_or.1 hs
    rw [fp4Block_of_scales k b ha hw] at h
    exact (Num.fin.inj h).1.symm

end blocks

/-! ### The integer path (R44) -/

/-- The exact sum of the integer path. -/
def exactDot (a w : OperRow) (k : Nat) : Int := sumFrom (fun i => a.int i * w.int i) 0 k

section readout
variable (a w : OperRow) (k : Nat)

theorem exactDot_eq_sum : exactDot a w k = ((List.range k).map fun i => a.int i * w.int i).sum := by
  simp only [exactDot, sumFrom_eq_sum, Nat.zero_add]

theorem intDot_eq : intDot a w k =
    if exactDot a w k < -(2 ^ 31) then (-(2 ^ 31), { sat := 1 })
    else if exactDot a w k > 2 ^ 31 - 1 then (2 ^ 31 - 1, { sat := 1 }) else (exactDot a w k, {}) := rfl

/-- The readout clamps the exact sum to 32 bits. -/
theorem intDot_fst : (intDot a w k).1 = max (-(2 ^ 31)) (min (2 ^ 31 - 1) (exactDot a w k)) := by
  rw [intDot_eq, apply_ite Prod.fst, apply_ite Prod.fst]
  omega

/-- It counts what it clamps. -/
theorem intDot_sat : (intDot a w k).2.sat = if exactDot a w k < -(2 ^ 31) ∨ 2 ^ 31 - 1 < exactDot a w k then 1 else 0 := by
  rw [intDot_eq]
  by_cases hlo : exactDot a w k < -(2 ^ 31)
  · rw [if_pos hlo, if_pos (.inl hlo)]
  · by_cases hhi : 2 ^ 31 - 1 < exactDot a w k
    · rw [if_neg hlo, if_pos hhi, if_pos (.inr hhi)]
    · rw [if_neg hlo, if_neg hhi, if_neg (not_or.2 ⟨hlo, hhi⟩)]

variable {a w k}

/-- Elements of magnitude 8 at most cannot reach the ends of the readout while K is at most 16,777,216. -/
theorem natAbs_exactDot_le (ha : a.fmt.isInt = true) (hw : w.fmt.isInt = true) (hk : k ≤ 16777216) :
    (exactDot a w k).natAbs ≤ 2 ^ 30 :=
  calc
    (exactDot a w k).natAbs ≤ k * (8 * 8) :=
      natAbs_sumFrom_le (fun i => natAbs_mul_le (a.natAbs_int_of_isInt i ha) (w.natAbs_int_of_isInt i hw)) 0 k
    _ ≤ 2 ^ 30 := by omega

end readout

/-- Settles O56: the model's sums are the lists' sums, and a sum is bounded by its length times the bound of its terms. -/
theorem blocksAreSummedExactly : Obligations.BlocksAreSummedExactly := by
  unfold Obligations.BlocksAreSummedExactly
  refine ⟨?mode1, ?mode3, ?scaleNan, ?bounds, ?clamp, ?noClamp⟩
  case mode1 => exact fun a w k b ha hw => by rw [fp4Block_of_scales k b ha hw, blockSum_one]
  case mode3 => exact fun a w k b ha hw => by rw [fp4Block_of_scales k b ha hw, blockSum_three]
  case scaleNan => exact fun a w mode k b => fp4Block_of_scaleNan k b
  case bounds =>
    intro a w k b c e ha hw
    constructor <;> intro h <;> rw [eq_blockSum_of_fp4Block k b h] <;> exact natAbs_blockSum_le k b ha hw
  case clamp =>
    intro a w k
    simp only [← exactDot_eq_sum]
    exact ⟨intDot_fst a w k, intDot_sat a w k⟩
  case noClamp =>
    intro a w k ha hw hk
    have hle := natAbs_exactDot_le ha hw hk
    rw [intDot_sat, intDot_fst]
    exact ⟨if_neg (by omega), by omega⟩

end Sys2Proof.Machine
end

section
/-! PROOFS. The array and its Teasel lane (R49, R54-R62, R76, R77): when a tile is evaluated and what is left of it, that the two
sides of every comparison of an error-free evaluation are the same sum in two orders, what an upset does to them, what
TEASEL_COMPARE and ENTROPY_HEALTH_FAIL do in each case, and the statement that they settle. -/

namespace Sys2Proof.Machine

/-! ### The comparisons of the Teasel lane (R54, R55) -/

/-- Do both sides of each comparison agree? -/
def Balanced (cs : List (Int × Int)) : Prop := ∀ x ∈ cs, x.1 = x.2

theorem sum_map_add {α : Type} (f g : α → Int) (xs : List α) :
    (xs.map fun x => f x + g x).sum = (xs.map f).sum + (xs.map g).sum := by
  induction xs with
  | nil => rfl
  | cons x xs ih => simp only [List.map_cons, List.sum_cons, ih]; omega

theorem sum_map_mul_left {α : Type} (y : Int) (f : α → Int) (xs : List α) : (xs.map fun x => y * f x).sum = y * (xs.map f).sum := by
  induction xs with
  | nil => exact (Int.mul_zero y).symm
  | cons x xs ih => simp only [List.map_cons, List.sum_cons, ih, Int.mul_add]

theorem sum_map_const {α : Type} (y : Int) (xs : List α) : (xs.map fun _ => y).sum = xs.length * y := by
  induction xs with
  | nil => exact (Int.zero_mul y).symm
  | cons x xs ih =>
    simp only [List.map_cons, List.sum_cons, ih, List.length_cons, Int.natCast_add, Int.cast_ofNat_Int, Int.add_mul, Int.one_mul]
    omega

/-- The sum of the columns' sums is the sum over the steps of the element times the column sum. -/
theorem dotCheck_balanced (a : OperRow) (ws : List OperRow) (dec : OperRow → Nat → Int) (lo n : Nat) :
    (dotCheck a ws dec lo n).1 = (dotCheck a ws dec lo n).2 := by
  simp only [dotCheck, columnSum]
  induction n with
  | zero => simp only [sumFrom, sum_map_const, Int.mul_zero]
  | succ n ih => simp only [sumFrom, sum_map_add, sum_map_mul_left, ih]

theorem fp4Checks_balanced (a : OperRow) (ws : List OperRow) (mode k : Nat) : Balanced (fp4Checks a ws mode k) := by
  intro x hx
  obtain ⟨j, -, rfl⟩ := List.mem_map.1 hx
  exact dotCheck_balanced ..

/-- Products of significands and sums of exponents over the columns: both identities of a step of the FP32 path. -/
theorem fp32Checks_balanced (a : OperRow) (ws : List OperRow) (k : Nat) : Balanced (fp32Checks a ws k) := by
  unfold fp32Checks
  split
  · intro x hx
    simp only [List.mem_cons, List.not_mem_nil, or_false] at hx
    obtain rfl | rfl := hx
    · exact sum_map_mul_left ..
    · simp only [sum_map_add, sum_map_const]
  · exact fun x hx => absurd hx List.not_mem_nil

theorem rowChecks_balanced (p : ArrayProg) (ws : List OperRow) (a : OperRow) : Balanced (rowChecks p ws a) := by
  unfold rowChecks
  split
  · exact fp4Checks_balanced a ws _ _
  · split
    · exact List.forall_mem_singleton.2 (dotCheck_balanced ..)
    · intro x hx
      obtain ⟨k, -, hk⟩ := List.mem_flatMap.1 hx
      exact fp32Checks_balanced a ws k x hk

/-- An error-free evaluation leaves comparisons that hold. -/
theorem tileEval_balanced (p : ArrayProg) (rd : Nat → Nat → List Byte) (md : Draw) (dl : Option Int) :
    Balanced (tileEval p rd md dl).checks := by
  unfold tileEval
  split
  · intro x hx
    obtain ⟨a, -, ha⟩ := List.mem_flatMap.1 hx
    exact rowChecks_balanced _ _ _ x ha
  · exact fun x hx => absurd hx List.not_mem_nil

/-- A numbered element that fails a check makes the check of all fail. -/
theorem all_zipIdx_eq_false {α : Type} {xs : List α} {i : Nat} {f : α × Nat → Bool} (hi : i < xs.length) (h : f (xs[i], i) = false) :
    xs.zipIdx.all f = false :=
  List.all_eq_false.2 ⟨(xs[i], i), List.mk_mem_zipIdx_iff_getElem?.2 (List.getElem?_eq_getElem hi), by simp [h]⟩

section holds
variable {o : TileOut}

theorem TileOut.holds_none : o.holds .none = true ↔ Balanced o.checks := by
  simp only [TileOut.holds, List.all_eq_true, decide_eq_true_eq, Balanced]

section upset
variable (h : Balanced o.checks) {i : Nat} (hi : i < o.checks.length) {d : Int} (hd : d ≠ 0)
include h hi hd

/-- The comparison that a multiply-accumulate cell feeds is off by what the cell is off. -/
theorem TileOut.holds_mac : o.holds (.mac i d) = false :=
  all_zipIdx_eq_false hi (decide_eq_false (by simp only [h _ (List.getElem_mem hi), if_true]; omega))

theorem TileOut.holds_column65 : o.holds (.column65 i d) = false :=
  all_zipIdx_eq_false hi (decide_eq_false (by simp only [h _ (List.getElem_mem hi), if_true]; omega))

end upset

theorem TileOut.mem_forced_of_holds_twin {n : Nat} (h : o.holds (.twin n) = true) : n ∈ o.forced := by
  simp only [TileOut.holds, Bool.and_eq_true, List.contains_iff_mem] at h
  exact h.1

end holds

/-! ### TILE_ISSUE and REPLAY_ISSUE (R49, R60, R76, R77, R96) -/

theorem exec_tileIssue (c : Cell) (s : State) : exec (.tileIssue c) s = execTileIssue c s := rfl
theorem exec_replayIssue (c : Cell) (s : State) : exec (.replayIssue c) s = execReplayIssue c s := rfl

theorem Tile.inFlight_iff {tile : Tile} : tile.inFlight = true ↔ tile.out ≠ none ∨ tile.replay = true := by
  simp only [Tile.inFlight, Bool.or_eq_true, ← Option.isSome_iff_ne_none]

/-- Does command `i` evaluate this tile: one that has not issued, or one whose replay is due? -/
def Issues (s : State) (c : Cell) (tile : Tile) (i : Instr) : Prop :=
  i = .tileIssue c ∧ tile.replay = false ∨ i = .replayIssue c ∧ tile.replay = true ∧ (s.cel c).replayPending = true

section issue
variable {s : State} {c : Cell} {tile : Tile}

/-- A command that evaluates the tile in the execution place of a running region runs it. -/
theorem exec_of_issues {i : Instr} (he : (s.cel c).exec = some tile) (hr : (s.reg (regionOfCell c)).state = .running) (ho : tile.out = none)
    (hi : Issues s c tile i) : exec i s = .next (s.runTile c tile) := by
  obtain ⟨rfl, hrep⟩ | ⟨rfl, hrep, hpend⟩ := hi
  · simp [exec_tileIssue, execTileIssue, he, hr, Tile.inFlight, ho, hrep]
  · simp [exec_replayIssue, execReplayIssue, he, hr, ho, hrep, hpend]

theorem exec_tileIssue_of_idle (h : (s.cel c).exec = none ∨ (∃ tile, (s.cel c).exec = some tile ∧ (tile.out ≠ none ∨ tile.replay = true)) ∨
    (s.reg (regionOfCell c)).state ≠ .running) : exec (.tileIssue c) s = .next s := by
  rw [exec_tileIssue, execTileIssue]
  obtain he | ⟨tile, he, hfl⟩ | hr := h
  · rw [he]
  · rw [he]
    simp [Tile.inFlight_iff.2 hfl]
  · cases (s.cel c).exec <;> simp [hr]

theorem exec_replayIssue_of_idle (he : (s.cel c).exec = some tile)
    (h : tile.replay = false ∨ tile.out ≠ none ∨ (s.reg (regionOfCell c)).state ≠ .running) : exec (.replayIssue c) s = .next s := by
  rw [exec_replayIssue, execReplayIssue, he]
  obtain h | h | h := h <;> simp [h]

theorem runTile_of_poison (h : s.tilePoison c tile = true) : s.runTile c tile =
    (s.stamp 0x0201 c (regionOfCell c) fun x => { x with cell := c, tile := tile.seq.toNat }).haltTile c := by
  rw [State.runTile, if_pos h]

theorem runTile_of_entropyDead (h : s.tilePoison c tile = false) (hsr : tile.prog.control % 4 = 1)
    (hd : (s.reg (regionOfCell c)).entropyDead = true) : s.runTile c tile =
    (s.stamp 0x0104 (regionOfCell c) (regionOfCell c) fun x => { x with cell := c, tile := tile.seq.toNat }).haltTile c := by
  simp [State.runTile, h, hsr, hd]

theorem State.fresh_cel (s : State) (k : Nat) : s.fresh.cel k = s.cel k := rfl

/-- Otherwise the tile keeps its place, with what its evaluation leaves. -/
theorem runTile_of_sound (h : s.tilePoison c tile = false)
    (hsr : tile.prog.control % 4 ≠ 1 ∨ (s.reg (regionOfCell c)).entropyDead = false) : s.runTile c tile =
    (s.modCel c fun x => { x with exec := some { tile with out := some (s.evalTile c tile) } }).fresh := by
  obtain h1 | h1 := hsr <;> simp [State.runTile, h, h1]

end issue

/-! ### TEASEL_COMPARE (R56-R62) -/

theorem exec_teaselCompare (c : Cell) (x : TileUpset) (s : State) : exec (.teaselCompare c x) s = execTeaselCompare c x s := rfl

@[simp] theorem State.wakeArray_mems (s : State) (c : Nat) : (s.wakeArray c).mems = s.mems :=
  State.forEach_keeps (·.mems) (fun t u => by exact State.modCel_mems u c _) s _
@[simp] theorem State.haltTile_mems (s : State) (c : Nat) : (s.haltTile c).mems = s.mems := by simp [State.haltTile]
@[simp] theorem State.teaselFault_mems (s : State) (c code : Nat) (tile : Tile) : (s.teaselFault c code tile).mems = s.mems := by
  simp [State.teaselFault]

/-- A mismatch counted, told as a corrected event and kept with those of the last millisecond (R61). -/
def State.mismatched (s : State) (c : Cell) (tile : Tile) : State :=
  ((s.bump Ctr.teaselMismatch c).fire (16 * regionOfCell c + 1) 0x0101 c tile.seq.toNat).modCel c fun x =>
    { x with mismatches := s.recentMismatches c ++ [s.time.lea] }

/-- Does the region's launch replay (R60)? -/
def State.replays (s : State) (c : Cell) : Bool := match s.launchOf (regionOfCell c) with | some l => l.replay | none => false

section compare
variable {s : State} {c : Cell} {tile : Tile} {out : TileOut} {x : TileUpset}

@[simp] theorem State.mismatched_mems : (s.mismatched c tile).mems = s.mems := rfl

/-- With no tile evaluated there is nothing to compare. -/
theorem exec_teaselCompare_of_idle (h : (s.cel c).exec = none ∨ ∃ tile, (s.cel c).exec = some tile ∧ tile.out = none) :
    exec (.teaselCompare c x) s = .next s := by
  rw [exec_teaselCompare, execTeaselCompare]
  obtain he | ⟨tile, he, ho⟩ := h
  · rw [he]
  · simp only [he, ho]

variable (he : (s.cel c).exec = some tile) (ho : tile.out = some out)
include he ho

theorem exec_teaselCompare_of_holds (h : out.holds x = true) : exec (.teaselCompare c x) s =
    .next ((s.when tile.replay fun s => (s.bump Ctr.teaselReplay c).fire (16 * regionOfCell c + 1) 0 c tile.seq.toNat).releaseTile c tile out) := by
  simp only [exec_teaselCompare, execTeaselCompare, he, ho, h, if_true]

/-- A mismatch: the storm goes before the replay, and the replay before the fault. -/
theorem exec_teaselCompare_of_mismatch (h : out.holds x = false) : exec (.teaselCompare c x) s = .next (
    if 7 ≤ (s.recentMismatches c).length then (s.mismatched c tile).teaselFault c 0x0102 tile
    else if s.replays c && !tile.replay then
      (s.mismatched c tile).modCel c fun x => { x with exec := some { tile with replay := true, out := none }, replayPending := true }
    else (s.mismatched c tile).teaselFault c 0x0101 tile) := by
  simp only [exec_teaselCompare, execTeaselCompare, he, ho, h, Bool.false_eq_true, if_false]
  rfl

end compare

/-! ### ENTROPY_HEALTH_FAIL (R49) -/

theorem exec_entropyHealthFail (r : Region) (s : State) : exec (.entropyHealthFail r) s = execEntropyHealthFail r s := rfl

section entropy
variable {s : State} {r : Region}

/-- A health failure is counted and told as a corrected event of the region. -/
def State.entropySwitched (s : State) (r : Region) : State := (s.bump Ctr.entropySwitch r).fire (16 * r.val + 2) 0 r

theorem exec_entropyHealthFail_of_dead (hd : (s.reg r).entropyDead = true) : exec (.entropyHealthFail r) s = .next s := by
  simp [exec_entropyHealthFail, execEntropyHealthFail, hd]

variable (hd : (s.reg r).entropyDead = false)
include hd

/-- The first failure takes the other source. -/
theorem exec_entropyHealthFail_of_first (ha : (s.reg r).entropyAlt = false) : exec (.entropyHealthFail r) s =
    .next ((s.entropySwitched r).modReg r fun x => { x with entropyAlt := true }) := by
  simp [exec_entropyHealthFail, execEntropyHealthFail, hd, ha, State.entropySwitched]

/-- The second ends SR_ENTROPY. -/
theorem exec_entropyHealthFail_of_second (ha : (s.reg r).entropyAlt = true) : exec (.entropyHealthFail r) s =
    .next (((s.entropySwitched r).modReg r fun x => { x with entropyDead := true }).stamp 0x0104 r r) := by
  simp [exec_entropyHealthFail, execEntropyHealthFail, hd, ha, State.entropySwitched]

end entropy

/-- Settles O45: each command is taken apart by its cases, and an error-free evaluation by the two orders of one sum. -/
theorem tilesAreComparedBeforeRelease : Obligations.TilesAreComparedBeforeRelease := by
  unfold Obligations.TilesAreComparedBeforeRelease
  refine ⟨?evaluates, ?noTile, ?noReplay, ?compares, ?nothingToCompare, ?checks, ?entropy⟩
  case evaluates =>
    intro s c tile i he hr ho hi
    rw [exec_of_issues he hr ho hi]
    refine ⟨fun hp => by rw [runTile_of_poison hp], fun hp hsr hd => by rw [runTile_of_entropyDead hp hsr hd], fun hp hsr hw => ?_⟩
    rw [runTile_of_sound hp hsr]
    refine ⟨_, rfl, rfl, ?_, ?_, fun k hk => ?_⟩
    · rw [State.fresh_cel, State.cel_modCel _ hw]
    · rw [State.fresh_cel, State.cel_modCel _ hw]
    · rw [State.fresh_cel, State.cel_modCel_other _ hw hk]
  case noTile => exact fun s c => exec_tileIssue_of_idle
  case noReplay => exact fun s c tile => exec_replayIssue_of_idle
  case compares =>
    intro s c tile out x he ho
    have hmatch := exec_teaselCompare_of_holds (x := x) he ho
    have hmismatch := exec_teaselCompare_of_mismatch (x := x) he ho
    refine ⟨fun h hr => ?_, fun h hr => ?_, fun h h7 => ?_, fun h h7 hl hr => ?_, fun h h7 hl => ?_, State.mismatched_mems,
      State.teaselFault_mems (s.mismatched c tile) c 0x0101 tile⟩
    · rw [hmatch h, hr, State.when_false]
    · rw [hmatch h, hr, State.when_true]
    · rw [hmismatch h, if_pos h7]
      rfl
    · have hl' : s.replays c = true := hl
      rw [hmismatch h, if_neg (by omega), if_pos (by simp [hl', hr])]
      rfl
    · have hl' : s.replays c = false ∨ tile.replay = true := hl
      rw [hmismatch h, if_neg (by omega), if_neg (by obtain h | h := hl' <;> simp [h])]
      rfl
  case nothingToCompare => exact fun s c h x => exec_teaselCompare_of_idle h
  case checks =>
    intro p rd md dl
    have hb := tileEval_balanced p rd md dl
    exact ⟨TileOut.holds_none.2 hb, fun i d hi hd => ⟨TileOut.holds_mac hb hi hd, TileOut.holds_column65 hb hi hd⟩,
      fun n => TileOut.mem_forced_of_holds_twin, rfl⟩
  case entropy => exact fun s r => ⟨exec_entropyHealthFail_of_dead, exec_entropyHealthFail_of_first, exec_entropyHealthFail_of_second⟩

end Sys2Proof.Machine
end

section
/-! PROOFS. The instructions of a thread (R80-R82, R96, R110): what is fetched decides whether an instruction acts, and what
reading its registers, writing one, and moving on leave of its thread. -/

namespace Sys2Proof.Machine

variable {s u : State} {c t k op : Nat} {act : State → State} {legal : Bool} {xs vs : List Nat}

/-! ### What the word fetched decides (R82, R96, R110) -/

/-- An instruction that names its operation acts as its class does when the word is of another class or names that operation. -/
theorem instrOp_eq_instr (h : classOf (s.fetch c t) ≠ k ∨ operationOf (s.fetch c t) = op) :
    instrOp c t k op legal act s = instr c t k legal act s := by
  obtain h | h := h <;> simp [instrOp, h]

/-- A word of the class that names another operation leaves the instruction without effect. -/
theorem instrOp_of_otherOperation (hk : classOf (s.fetch c t) = k) (h : operationOf (s.fetch c t) ≠ op) :
    instrOp c t k op legal act s = s := by
  simp [instrOp, hk, h]

section fetched
variable (hi : s.issues c t = true)
include hi

theorem instr_of_poisonedWord (hb : s.fetchBad c t = true) :
    instr c t k legal act s = (s.issue c t).threadUe c t (cellSram c (8 * ((s.thr c t).ip / 8))) := by
  simp [instr, hi, hb]

theorem instr_of_reservedClass (hb : s.fetchBad c t = false) (hc : 11 ≤ classOf (s.fetch c t)) :
    instr c t k legal act s = (s.issue c t).threadFault c t 0x0105 := by
  simp [instr, hi, hb, hc]

end fetched

/-- A word of another class leaves the instruction without effect. -/
theorem instr_of_otherClass {j : Nat} (h : Fetches s c t j) (hj : j < 11) (hk : j ≠ k) : instr c t k legal act s = s := by
  obtain ⟨hi, hb, hc⟩ := h
  simp [instr, hi, hb, hc, hk, Nat.not_le.mpr hj]

/-- A word of another class, or one that names another operation, leaves the instruction without effect. -/
theorem instrOp_of_otherWord {j : Nat} (h : Fetches s c t j) (hj : j < 11) (hd : j ≠ k ∨ operationOf (s.fetch c t) ≠ op) :
    instrOp c t k op legal act s = s := by
  by_cases hk : j = k
  · exact instrOp_of_otherOperation (h.2.2.trans hk) (hd.resolve_left (not_not_intro hk))
  · rw [instrOp_eq_instr (.inl fun hc => hk (h.2.2.symm.trans hc)), instr_of_otherClass h hj hk]

/-! ### Reading registers (R96) -/

/-- A marked source register is an uncorrectable error of the register file, of the thread that has issued. -/
theorem reads_of_marked (hw : CellWf s c t) (h : ¬Unmarked s c t xs vs) : reads c t xs vs act (s.issue c t) = (s.issue c t).regUe c t := by
  have hx : (s.issue c t).xBad c t = s.xBad c t := funext (State.xBad_issue hw)
  have hv : (s.issue c t).vBad c t = s.vBad c t := funext (State.vBad_issue hw)
  rw [reads, hx, hv, if_pos]
  cases hxs : xs.any (s.xBad c t) with
  | true => rfl
  | false => exact eq_true_of_ne_false fun hvs => h ⟨hxs, hvs⟩

/-- A legal instruction with no source register marked acts. -/
theorem instr_reads_acts (hw : CellWf s c t) (h : Fetches s c t k) (hk : k < 11) (hl : legal = true) (hu : Unmarked s c t xs vs) :
    instr c t k legal (reads c t xs vs act) s = act (s.issue c t) := by
  rw [instr_acts h hk hl, reads_acts (hu.issue hw)]

theorem instr_reads_of_marked (hw : CellWf s c t) (h : Fetches s c t k) (hk : k < 11) (hl : legal = true) (hu : ¬Unmarked s c t xs vs) :
    instr c t k legal (reads c t xs vs act) s = (s.issue c t).regUe c t := by
  rw [instr_acts h hk hl, reads_of_marked hw hu]

/-! ### The thread's own registers -/

/-- A thread whose scalar registers are those of `s` with one written reads the value there, and the others as before. -/
theorem State.x_of_set (hw : CellWf s c t) {r : Reg} {v : Word} (h : (u.thr c t).x = (s.thr c t).x.set 0 r v) :
    u.x c t r = v ∧ ∀ q, q ≠ r → u.x c t q = s.x c t q := by
  simp only [State.x, h]
  exact ⟨Tab.get_set_same _ _ hw.2.2.1, fun q hq => Tab.get_set_other (Fin.val_ne_of_ne hq) _ hw.2.2.1⟩

theorem State.v_of_set (hw : CellWf s c t) {r : Reg} {v : BitVec 2048} (h : (u.thr c t).v = (s.thr c t).v.set 0 r v) :
    u.v c t r = v ∧ ∀ q, q ≠ r → u.v c t q = s.v c t q := by
  simp only [State.v, h]
  exact ⟨Tab.get_set_same _ _ hw.2.2.2.1, fun q hq => Tab.get_set_other (Fin.val_ne_of_ne hq) _ hw.2.2.2.1⟩

/-- A state that differs in nothing differs in no thread, when that thread issued last. -/
theorem onlyThread_refl (h : (s.cel c).lastRun = t) : OnlyThread s s c t :=
  ⟨rfl, fun _ _ => rfl, fun _ _ => rfl, fun n => by simp, by rw [← h]⟩

end Sys2Proof.Machine
end

section
/-! PROOFS. Register and control instructions (R41, R57, R80-R82, R96, R110, R111): the lanes of a vector result, what each
instruction leaves of its thread, and the statement that they settle. -/

namespace Sys2Proof.Machine

/-! ### Lanes (R41, R111) -/

theorem leNat_append (xs ys : List Byte) : leNat (xs ++ ys) = leNat xs + 256 ^ xs.length * leNat ys := by
  induction xs with
  | nil => rw [List.nil_append, leNat, List.length_nil, Nat.pow_zero, Nat.one_mul, Nat.zero_add]
  | cons x xs ih =>
    rw [List.cons_append, leNat, leNat, ih, List.length_cons, Nat.pow_succ', Nat.mul_add, Nat.mul_assoc, Nat.add_assoc]

@[simp] theorem length_leBytes (n v : Nat) : (leBytes n v).length = n := by
  rw [leBytes, List.length_map, List.length_range]

theorem length_flatMap_leBytes (w : Nat) (f : Nat → Nat) (ks : List Nat) : (ks.flatMap fun k => leBytes w (f k)).length = ks.length * w := by
  induction ks with
  | nil => exact (Nat.zero_mul w).symm
  | cons k ks ih => rw [List.flatMap_cons, List.length_append, length_leBytes, ih, List.length_cons, Nat.succ_mul, Nat.add_comm]

theorem leNat_lt (xs : List Byte) : leNat xs < 256 ^ xs.length := by
  induction xs with
  | nil => exact Nat.one_pos
  | cons x xs ih =>
    have hx : x.toNat < 256 := x.isLt
    rw [leNat, List.length_cons, Nat.pow_succ]
    omega

/-- A register as wide as its bytes holds what they spell. -/
theorem toNat_ofNat_leNat {w : Nat} {xs : List Byte} (h : 8 * xs.length = w) : (BitVec.ofNat w (leNat xs)).toNat = leNat xs := by
  subst h
  have hlt : leNat xs < 2 ^ (8 * xs.length) := by
    rw [Nat.pow_mul]
    exact leNat_lt xs
  rw [BitVec.toNat_ofNat, Nat.mod_eq_of_lt hlt]

theorem leBytes_succ (n v : Nat) : leBytes (n + 1) v = BitVec.ofNat 8 v :: leBytes n (v / 256) := by
  have htail : (List.range n).map (fun i => BitVec.ofNat 8 (v / 256 ^ (i + 1))) = leBytes n (v / 256) :=
    List.map_congr_left fun i _ => by rw [Nat.pow_succ', Nat.div_div_eq_div_mul]
  rw [← htail, leBytes, List.range_succ_eq_map, List.map_cons, List.map_map, Nat.pow_zero, Nat.div_one]
  rfl

/-- The bytes of a number spell it, modulo what they can hold. -/
theorem leNat_leBytes (n v : Nat) : leNat (leBytes n v) = v % 256 ^ n := by
  induction n generalizing v with
  | zero => exact (Nat.mod_one v).symm
  | succ n ih =>
    have hbyte : (BitVec.ofNat 8 v).toNat = v % 256 := BitVec.toNat_ofNat v 8
    rw [leBytes_succ, leNat, ih, hbyte, Nat.pow_succ', Nat.mod_mul]

/-- Lanes of `w` bytes, one after the other, each read back at its place. -/
theorem leNat_flatMap_leBytes (w : Nat) (f : Nat → Nat) (n k : Nat) (hk : k < n) :
    leNat ((List.range n).flatMap fun i => leBytes w (f i)) / 256 ^ (w * k) % 256 ^ w = f k % 256 ^ w := by
  induction n generalizing f k with
  | zero => exact absurd hk (Nat.not_lt_zero k)
  | succ n ih =>
    rw [List.range_succ_eq_map, List.flatMap_cons, List.flatMap_map, leNat_append, leNat_leBytes, length_leBytes]
    have hpos : 0 < 256 ^ w := Nat.pow_pos (by decide)
    cases k with
    | zero => rw [Nat.mul_zero, Nat.pow_zero, Nat.div_one, Nat.add_mul_mod_self_left, Nat.mod_mod]
    | succ k =>
      rw [Nat.mul_succ, Nat.add_comm (w * k), Nat.pow_add, ← Nat.div_div_eq_div_mul, Nat.add_mul_div_left _ _ hpos,
        Nat.div_eq_of_lt (Nat.mod_lt _ hpos), Nat.zero_add]
      exact ih (fun i => f (i + 1)) k (Nat.lt_of_succ_lt_succ hk)

/-- Bytes and lanes of a vector register under an element type: 128 BF16 lanes of 2, 64 FP32 lanes of 4. -/
theorem laneOf_eq (bf : Bool) (v : BitVec 2048) (k : Nat) :
    laneOf bf v k = v.toNat / 256 ^ ((if bf then 2 else 4) * k) % 256 ^ (if bf then 2 else 4) := by
  have hpow : ∀ w j : Nat, 256 ^ (w * j) = 2 ^ (8 * w * j) := fun w j => by
    rw [Nat.mul_assoc, Nat.pow_mul 2 8]
  cases bf with
  | false => exact congrArg (fun b => v.toNat / b % 2 ^ 32) (hpow 4 k).symm
  | true => exact congrArg (fun b => v.toNat / b % 2 ^ 16) (hpow 2 k).symm

theorem laneOf_lt (bf : Bool) (v : BitVec 2048) (k : Nat) : laneOf bf v k < 2 ^ (if bf then 16 else 32) := by
  cases bf <;> exact Nat.mod_lt _ (by decide)

/-- A register spelled lane by lane holds each lane's value, modulo the lane's width. -/
theorem laneOf_flatMap (bf : Bool) (f : Nat → Nat) (k : Nat) (hk : k < if bf then 128 else 64) :
    laneOf bf (BitVec.ofNat 2048 (leNat ((List.range (if bf then 128 else 64)).flatMap fun i => leBytes (if bf then 2 else 4) (f i)))) k =
      f k % 2 ^ (if bf then 16 else 32) := by
  have hlen : ((List.range (if bf then 128 else 64)).flatMap fun i => leBytes (if bf then 2 else 4) (f i)).length = 256 := by
    rw [length_flatMap_leBytes, List.length_range]
    cases bf <;> rfl
  rw [laneOf_eq, toNat_ofNat_leNat (by rw [hlen]), leNat_flatMap_leBytes _ _ _ _ hk]
  cases bf <;> rfl

/-- What lane `k` of a vector result holds: the arithmetic's value where the mask takes the lane in, and what nothing constrains
elsewhere. -/
def laneResult (bf : Bool) (op : BitVec 8) (etype : BitVec 4) (srcs : List (BitVec 2048)) (mask old : BitVec 2048) (k : Nat) : Nat :=
  match laneArith bf (Config.vectorArith op) (srcs.map fun v => laneOf bf v k) with
  | some r => if Config.laneOn mask k then r else laneOf bf (Config.vectorAlu op etype srcs mask old) k
  | none => laneOf bf (Config.vectorAlu op etype srcs mask old) k

section vector
variable {op : BitVec 8} {etype : BitVec 4} {srcs : List (BitVec 2048)} {mask old : BitVec 2048}

theorem vectorResult_of_untyped (h : Config.vectorType etype = none) :
    vectorResult op etype srcs mask old = Config.vectorAlu op etype srcs mask old := by
  simp only [vectorResult, h]

theorem vectorResult_of_typed {bf : Bool} (h : Config.vectorType etype = some bf) : vectorResult op etype srcs mask old =
    BitVec.ofNat 2048 (leNat ((List.range (if bf then 128 else 64)).flatMap fun k =>
      leBytes (if bf then 2 else 4) (laneResult bf op etype srcs mask old k))) := by
  simp only [vectorResult, h]
  rfl

theorem laneOf_vectorResult {bf : Bool} (h : Config.vectorType etype = some bf) {k : Nat} (hk : k < if bf then 128 else 64) :
    laneOf bf (vectorResult op etype srcs mask old) k = laneResult bf op etype srcs mask old k % 2 ^ (if bf then 16 else 32) := by
  rw [vectorResult_of_typed h, laneOf_flatMap bf _ k hk]

end vector

/-! ### What an instruction leaves of its thread -/

/-- `w` is `s` once the thread has issued, with nothing else changed but free values drawn. -/
structure Issued (s w : State) (c t : Nat) : Prop where
  only : OnlyThread s w c t
  wf : CellWf w c t
  thr : w.thr c t = { s.thr c t with state := .running, issued := (s.thr c t).issued + 1 }

section writes
variable {s w : State} {c t : Nat}

theorem issued_issue (h : CellWf s c t) : Issued s (s.issue c t) c t := ⟨onlyThread_issue h, h.issue, State.thr_issue h⟩
theorem Issued.fresh (h : Issued s w c t) : Issued s w.fresh c t := ⟨h.only.fresh, h.wf, h.thr⟩

variable (hs : CellWf s c t) (h : Issued s w c t)
include h

theorem Issued.thr_setX (r : Reg) (v : Word) : (w.setX c t r v).thr c t =
    { s.thr c t with state := .running, issued := (s.thr c t).issued + 1, x := (s.thr c t).x.set 0 r v } := by
  rw [State.thr_setX h.wf, h.thr]

theorem Issued.thr_setV (r : Reg) (v : BitVec 2048) : (w.setV c t r v).thr c t =
    { s.thr c t with state := .running, issued := (s.thr c t).issued + 1, v := (s.thr c t).v.set 0 r v } := by
  rw [State.thr_setV h.wf, h.thr]

include hs

/-- A scalar result reaches its register; the next instruction follows. -/
theorem Issued.nextIp_setX (r : Reg) (v : Word) :
    let u := (w.setX c t r v).nextIp c t
    OnlyX s u c t r ∧ u.x c t r = v ∧ (∀ q, q ≠ r → u.x c t q = s.x c t q) ∧ (u.thr c t).v = (s.thr c t).v ∧
      (u.thr c t).ip = (s.thr c t).ip + 8 := by
  intro u
  have ht := State.thr_nextIp (h.wf.setX r v)
  rw [h.thr_setX] at ht
  obtain ⟨hr, hq⟩ := State.x_of_set (u := u) hs (congrArg ThreadSt.x ht)
  exact ⟨(h.only.setX r v h.wf).modThr _ (h.wf.setX r v), hr, hq, by rw [ht], by rw [ht]⟩

/-- A scalar result reaches its register, and the condition state changes with it. -/
theorem Issued.nextIp_cond_setX (r : Reg) (v : Word) (f : Word → Word) :
    let u := ((w.setX c t r v).modThr c t fun x => { x with cond := f x.cond }).nextIp c t
    OnlyX s u c t r ∧ u.x c t r = v ∧ (∀ q, q ≠ r → u.x c t q = s.x c t q) ∧ (u.thr c t).v = (s.thr c t).v ∧
      (u.thr c t).ip = (s.thr c t).ip + 8 ∧ (u.thr c t).state = .running ∧ (u.thr c t).posted = (s.thr c t).posted := by
  intro u
  have hx := h.wf.setX r v
  have hc := hx.modThr (fun x => { x with cond := f x.cond }) hx.2.2.1 hx.2.2.2.1
  have ht := State.thr_nextIp hc
  rw [State.thr_modThr_wf _ hx, h.thr_setX] at ht
  obtain ⟨hr, hq⟩ := State.x_of_set (u := u) hs (congrArg ThreadSt.x ht)
  exact ⟨((h.only.setX r v h.wf).modThr _ hx).modThr _ hc, hr, hq, by rw [ht], by rw [ht],
    by rw [ht], by rw [ht]⟩

/-- A vector result reaches its register; the next instruction follows. -/
theorem Issued.nextIp_setV (r : Reg) (v : BitVec 2048) :
    let u := (w.setV c t r v).nextIp c t
    OnlyV s u c t r ∧ u.v c t r = v ∧ (∀ q, q ≠ r → u.v c t q = s.v c t q) ∧ (u.thr c t).x = (s.thr c t).x ∧
      (u.thr c t).cond = (s.thr c t).cond ∧ (u.thr c t).ip = (s.thr c t).ip + 8 := by
  intro u
  have ht := State.thr_nextIp (h.wf.setV r v)
  rw [h.thr_setV] at ht
  obtain ⟨hr, hq⟩ := State.v_of_set (u := u) hs (congrArg ThreadSt.v ht)
  exact ⟨(h.only.setV r v h.wf).modThr _ (h.wf.setV r v), hr, hq, by rw [ht], by rw [ht], by rw [ht]⟩

end writes

/-! ### The commands (R80-R82, R110, R111) -/

section commands
variable {s : State} {c : Cell} {t : Thread}

theorem exec_scalarAlu (i : AluOp) : exec (.scalarAlu c t i) s = execScalarAlu c t i s := rfl
theorem exec_vectorAlu (i : VecOp) : exec (.vectorAlu c t i) s = execVectorAlu c t i s := rfl
theorem exec_convert (i : CvtOp) : exec (.convert c t i) s = execConvert c t i s := rfl
theorem exec_branch (i : BrOp) : exec (.branch c t i) s = execBranch c t i s := rfl
theorem exec_special (rd : Reg) (x : SpecialRead) (legal : Bool) : exec (.special c t rd x legal) s = execSpecial c t rd x legal s := rfl
theorem exec_endThread : exec (.endThread c t) s = execEndThread c t s := rfl
theorem exec_threadQuantum : exec (.threadQuantum c) s = execThreadQuantum c s := rfl

/-- All six kinds of register and control instructions answer `u`, but for those of the word's class that name another operation. -/
def AllAnswer (s : State) (c : Cell) (t : Thread) (u : State) : Prop :=
  (∀ i, (classOf (s.fetch c t) ≠ 0 ∨ operationOf (s.fetch c t) = i.op.toNat) → exec (.scalarAlu c t i) s = .next u) ∧
  (∀ i, (classOf (s.fetch c t) ≠ 2 ∨ operationOf (s.fetch c t) = i.op.toNat) → exec (.vectorAlu c t i) s = .next u) ∧
  (∀ i, exec (.convert c t i) s = .next u) ∧ (∀ i, exec (.branch c t i) s = .next u) ∧
  (∀ rd x b, exec (.special c t rd x b) s = .next u) ∧ exec (.endThread c t) s = .next u

/-- What an instruction does whatever its class, its operands and its effect, all of them do. -/
theorem allAnswer_of_instr {u : State} (h : ∀ k legal act, instr c t k legal act s = u) : AllAnswer s c t u := by
  refine ⟨fun i hi => ?_, fun i hi => ?_, fun i => ?_, fun i => ?_, fun rd x b => ?_, ?_⟩
  · rw [exec_scalarAlu, execScalarAlu, instrOp_eq_instr hi, h]
  · rw [exec_vectorAlu, execVectorAlu, instrOp_eq_instr hi, h]
  · rw [exec_convert, execConvert, h]
  · rw [exec_branch, execBranch, h]
  · rw [exec_special, execSpecial, h]
  · rw [exec_endThread, execEndThread, h]

/-! ### Scalar operations (R57, R110) -/

/-- The second source of a scalar operation: a register, or the immediate. -/
def aluSecond (i : AluOp) (s : State) (c t : Nat) : Word := match i.rt with | some r => s.x c t r | none => i.imm.setWidth 64

section scalarAlu
variable {i : AluOp} (hw : CellWf s c t) (hf : Fetches s c t 0) (hop : operationOf (s.fetch c t) = i.op.toNat) (hl : i.legal = true)
include hw hf hop hl

theorem exec_scalarAlu_of_marked (hu : ¬Unmarked s c t (i.rs.val :: (i.rt.map (·.val)).toList) []) :
    exec (.scalarAlu c t i) s = .next ((s.issue c t).regUe c t) := by
  rw [exec_scalarAlu, execScalarAlu, instrOp_eq hop, instr_reads_of_marked hw hf (by decide) hl hu]

variable (hu : Unmarked s c t (i.rs.val :: (i.rt.map (·.val)).toList) [])
include hu

theorem exec_scalarAlu_of_residue (hr : i.residueOk = false) :
    exec (.scalarAlu c t i) s = .next (((s.issue c t).bump Ctr.vectorResidue c).threadFault c t 0x0103) := by
  rw [exec_scalarAlu, execScalarAlu, instrOp_eq hop, instr_reads_acts hw hf (by decide) hl hu]
  simp only [hr, Bool.not_false, if_true]

/-- Otherwise the result, of the registers as they were, reaches its register. -/
theorem exec_scalarAlu_of_sound (hr : i.residueOk = true) : ∃ f : Word → Word,
    exec (.scalarAlu c t i) s = .next ((((s.issue c t).setX c t i.rd (Config.scalarAlu i.op (s.x c t i.rs) (aluSecond i s c t))).modThr c t fun x =>
      { x with cond := f x.cond }).nextIp c t) := by
  rw [exec_scalarAlu, execScalarAlu, instrOp_eq hop, instr_reads_acts hw hf (by decide) hl hu]
  simp only [hr, Bool.not_true, Bool.false_eq_true, if_false, State.x_issue hw]
  exact ⟨Config.scalarCond i.op (s.x c t i.rs) (aluSecond i s c t), rfl⟩

end scalarAlu

/-! ### Vector operations (R57, R111) -/

/-- The third source of a vector operation, where it has one. -/
def vecThird (i : VecOp) (s : State) (c t : Nat) : List (BitVec 2048) := match i.vu with | some r => [s.v c t r] | none => []

section vectorAlu
variable {i : VecOp} (hw : CellWf s c t) (hf : Fetches s c t 2) (hop : operationOf (s.fetch c t) = i.op.toNat) (hl : i.legal = true)
include hw hf hop hl

theorem exec_vectorAlu_of_marked (hu : ¬Unmarked s c t [] ([i.vs.val, i.vt.val, i.mask.val] ++ (i.vu.map (·.val)).toList)) :
    exec (.vectorAlu c t i) s = .next ((s.issue c t).regUe c t) := by
  rw [exec_vectorAlu, execVectorAlu, instrOp_eq hop, instr_reads_of_marked hw hf (by decide) hl hu]

variable (hu : Unmarked s c t [] ([i.vs.val, i.vt.val, i.mask.val] ++ (i.vu.map (·.val)).toList))
include hu

theorem exec_vectorAlu_of_residue (hr : i.residueOk = false) :
    exec (.vectorAlu c t i) s = .next (((s.issue c t).bump Ctr.vectorResidue c).threadFault c t 0x0103) := by
  rw [exec_vectorAlu, execVectorAlu, instrOp_eq hop, instr_reads_acts hw hf (by decide) hl hu]
  simp only [hr, Bool.not_false, if_true]

theorem exec_vectorAlu_of_sound (hr : i.residueOk = true) :
    exec (.vectorAlu c t i) s = .next (((s.issue c t).setV c t i.vd
      (vectorResult i.op i.etype ([s.v c t i.vs, s.v c t i.vt] ++ vecThird i s c t) (s.v c t i.mask) (s.v c t i.vd))).nextIp c t) := by
  rw [exec_vectorAlu, execVectorAlu, instrOp_eq hop, instr_reads_acts hw hf (by decide) hl hu]
  simp only [hr, Bool.not_true, Bool.false_eq_true, if_false, State.v_issue hw]
  rfl

end vectorAlu

/-! ### CONVERT (R49, R57, R111) -/

/-- The rounding of a lane under ROUND: SR_ENTROPY draws free values, SR_SEEDED draws from the launch's seed and scalar register 31. -/
def cvtRounding (i : CvtOp) (s : State) (c t lane : Nat) : Rnd :=
  if i.round = 0 then .rne else if i.round = 1 then .rtz
  else if i.round = 2 then .sr (Config.entropy s.free 5 0 lane).toNat
  else .sr (srDraw (match s.launchOf (regionOfCell c) with | some l => l.seed | none => 0) ((s.x c t 31).toNat % 2 ^ 32) 5 0 lane)

/-- The register that a conversion from `f` to `g` gives, lane by lane. -/
def converted (i : CvtOp) (f g : Fmt) (s : State) (c t : Nat) : BitVec 2048 :=
  BitVec.ofNat 2048 (leNat (packRow g ((List.range (min f.lanes g.lanes)).map fun k =>
    convertLane f g (cvtRounding i s c t k) (f.code (vecBytes (s.v c t i.vs) 256) k))))

section convert
variable {i : CvtOp}

theorem exec_convert_of_illegal (hf : Fetches s c t 4) (h : i.legal = false ∨ Fmt.ofCode i.src = none ∨ Fmt.ofCode i.dst = none) :
    exec (.convert c t i) s = .next ((s.issue c t).threadFault c t 0x0105) := by
  rw [exec_convert, execConvert, instr_illegal hf (by decide)]
  obtain h | h | h := h <;> simp [h]

variable {f g : Fmt} (hw : CellWf s c t) (hf : Fetches s c t 4) (hl : i.legal = true)
  (hsrc : Fmt.ofCode i.src = some f) (hdst : Fmt.ofCode i.dst = some g)
include hw hf hl hsrc hdst

theorem exec_convert_of_marked (hu : ¬Unmarked s c t (if i.round = 3 then [31] else []) [i.vs.val]) :
    exec (.convert c t i) s = .next ((s.issue c t).regUe c t) := by
  rw [exec_convert, execConvert, instr_reads_of_marked hw hf (by decide) (by simp [hl, hsrc, hdst]) hu]

variable (hu : Unmarked s c t (if i.round = 3 then [31] else []) [i.vs.val])
include hu

theorem exec_convert_of_residue (hr : i.residueOk = false) :
    exec (.convert c t i) s = .next (((s.issue c t).bump Ctr.vectorResidue c).threadFault c t 0x0103) := by
  rw [exec_convert, execConvert, instr_reads_acts hw hf (by decide) (by simp [hl, hsrc, hdst]) hu]
  simp only [hsrc, hdst, hr, Bool.not_false, if_true]

variable (hr : i.residueOk = true)
include hr

theorem exec_convert_of_entropyDead (h2 : i.round = 2) (hd : (s.reg (regionOfCell c)).entropyDead = true) :
    exec (.convert c t i) s = .next ((s.issue c t).threadFault c t 0x0104) := by
  have hd' : ((s.issue c t).reg (regionOfCell c)).entropyDead = true := hd
  rw [exec_convert, execConvert, instr_reads_acts hw hf (by decide) (by simp [hl, hsrc, hdst]) hu]
  simp [hsrc, hdst, hr, h2, hd']

theorem exec_convert_of_sound (he : i.round ≠ 2 ∨ (s.reg (regionOfCell c)).entropyDead = false) :
    exec (.convert c t i) s = .next (((s.issue c t).fresh.setV c t i.vd (converted i f g s c t)).nextIp c t) := by
  have he' : (decide (i.round = 2) && ((s.issue c t).reg (regionOfCell c)).entropyDead) = false := by
    rw [Bool.and_eq_false_iff, decide_eq_false_iff_not]
    exact he
  rw [exec_convert, execConvert, instr_reads_acts hw hf (by decide) (by simp [hl, hsrc, hdst]) hu]
  simp only [hsrc, hdst, hr, he', Bool.not_true, Bool.false_eq_true, if_false, State.x_issue hw, State.v_issue hw]
  rfl

end convert

/-! ### BRANCH, SPECIAL, END and the quantum (R80, R82, R110) -/

/-- Where a branch leads when it is taken: to its register, or from its own address. -/
def branchDest (i : BrOp) (s : State) (c t : Nat) : Nat :=
  match i.target with | some r => (s.x c t r).toNat | none => (BitVec.ofNat 64 (s.thr c t).ip + i.offset.signExtend 64).toNat

/-- What SPECIAL reads: Lea time, the cell's linear index, or the sequence number of its last tile. -/
def specialValue (x : SpecialRead) (s : State) (c : Nat) : Word :=
  match x with | .lea => s.time.lea | .cellId => BitVec.ofNat 64 c | .tileSeq => (s.cel c).lastSeq.setWidth 64

section control
variable (hw : CellWf s c t)
include hw

theorem exec_branch_of_marked {i : BrOp} (hf : Fetches s c t 9) (hl : i.legal = true) (hu : ¬Unmarked s c t (i.target.map (·.val)).toList []) :
    exec (.branch c t i) s = .next ((s.issue c t).regUe c t) := by
  rw [exec_branch, execBranch, instr_reads_of_marked hw hf (by decide) hl hu]

theorem exec_branch_acts {i : BrOp} (hf : Fetches s c t 9) (hl : i.legal = true) (hu : Unmarked s c t (i.target.map (·.val)).toList []) :
    exec (.branch c t i) s = .next ((s.issue c t).modThr c t fun x =>
      { x with ip := if Config.branchTaken i.cond x.cond then branchDest i s c t else x.ip + 8 }) := by
  rw [exec_branch, execBranch, instr_reads_acts hw hf (by decide) hl hu]
  simp only [State.x_issue hw, State.thr_issue hw]
  rfl

/-- What SPECIAL reads, it reads as it was before the instruction. -/
theorem exec_special_acts (rd : Reg) (x : SpecialRead) (hf : Fetches s c t 10) :
    exec (.special c t rd x true) s = .next (((s.issue c t).setX c t rd (specialValue x s c)).nextIp c t) := by
  have hc : ((s.issue c t).cel c).lastSeq = (s.cel c).lastSeq := by rw [(onlyThread_issue hw).2.2.2.2]
  rw [exec_special, execSpecial, instr_acts hf (by decide) rfl]
  simp only [hc]
  rfl

end control

end commands

/-- Settles O40: what the word fetched decides is decided for all kinds at once, and each kind's effect is a write of one register
or of the pointer. -/
theorem registerInstructionsChangeTheirThread : Obligations.RegisterInstructionsChangeTheirThread := by
  unfold Obligations.RegisterInstructionsChangeTheirThread
  refine ⟨fun s c t => ?_, ?lanes⟩
  · intro on ip w x31 all
    refine ⟨?waits, ?poisoned, ?reserved, ?others, ?illegal, ?acts, ?quantum, ?short⟩
    case waits => exact fun hi => allAnswer_of_instr fun _ _ _ => instr_waits hi
    case poisoned => exact fun hi hb => allAnswer_of_instr fun _ _ _ => instr_of_poisonedWord hi hb
    case reserved => exact fun hi hb hc => allAnswer_of_instr fun _ _ _ => instr_of_reservedClass hi hb hc
    case others =>
      intro k hk hf
      refine ⟨fun i hd => ?_, fun i hd => ?_, fun hd i => ?_, fun hd i => ?_, fun hd => ⟨fun rd x b => ?_, ?_⟩⟩
      · rw [exec_scalarAlu, execScalarAlu, instrOp_of_otherWord hf hk hd]
      · rw [exec_vectorAlu, execVectorAlu, instrOp_of_otherWord hf hk hd]
      · rw [exec_convert, execConvert, instr_of_otherClass hf hk hd]
      · rw [exec_branch, execBranch, instr_of_otherClass hf hk hd]
      · rw [exec_special, execSpecial, instr_of_otherClass hf hk hd]
      · rw [exec_endThread, execEndThread, instr_of_otherClass hf hk hd]
    case illegal =>
      refine ⟨fun i hf hop hl => ?_, fun i hf hop hl => ?_, fun i hf h => exec_convert_of_illegal hf h, fun i hf hl => ?_, fun rd x hf => ?_⟩
      · rw [exec_scalarAlu, execScalarAlu, instrOp_eq hop, instr_illegal hf (by decide) hl]
      · rw [exec_vectorAlu, execVectorAlu, instrOp_eq hop, instr_illegal hf (by decide) hl]
      · rw [exec_branch, execBranch, instr_illegal hf (by decide) hl]
      · rw [exec_special, execSpecial, instr_illegal hf (by decide) rfl]
    case acts =>
      intro hw
      have hs := issued_issue hw
      refine ⟨?alu, ?vec, ?cvt, ?special, ?branch, ?endThread⟩
      case alu =>
        intro i hf hop hl reg
        refine ⟨exec_scalarAlu_of_marked hw hf hop hl, exec_scalarAlu_of_residue hw hf hop hl, fun hu hr => ?_⟩
        obtain ⟨f, h⟩ := exec_scalarAlu_of_sound hw hf hop hl hu hr
        exact ⟨_, h, hs.nextIp_cond_setX hw i.rd _ f⟩
      case vec =>
        intro i hf hop hl reg
        exact ⟨exec_vectorAlu_of_marked hw hf hop hl, exec_vectorAlu_of_residue hw hf hop hl, fun hu hr =>
          ⟨_, exec_vectorAlu_of_sound hw hf hop hl hu hr, hs.nextIp_setV hw i.vd _⟩⟩
      case cvt =>
        intro i f g hf hl hsrc hdst
        refine ⟨exec_convert_of_marked hw hf hl hsrc hdst, exec_convert_of_residue hw hf hl hsrc hdst,
          exec_convert_of_entropyDead hw hf hl hsrc hdst, fun hu hr he => ?_⟩
        intro seed md row
        obtain ⟨ho, hv, hq, hx, -, hip⟩ := hs.fresh.nextIp_setV hw i.vd (converted i f g s c t)
        exact ⟨_, exec_convert_of_sound hw hf hl hsrc hdst hu hr he, ho, hv, hq, hx, hip⟩
      case special => exact fun rd x hf => ⟨_, exec_special_acts hw rd x hf, hs.nextIp_setX hw rd _⟩
      case branch =>
        intro i hf hl
        refine ⟨exec_branch_of_marked hw hf hl, fun hu => ⟨_, exec_branch_acts hw hf hl hu, hs.only.modThr _ hs.wf, ?_⟩⟩
        rw [State.thr_modThr_wf _ hs.wf, hs.thr]
        exact ⟨rfl, rfl, fun h => if_neg (by simp [h]), fun h => if_pos h⟩
      case endThread =>
        intro hf
        refine ⟨(on.nextIp c t).park c t .free, ?_, (hs.only.modThr _ hs.wf).park _ _ hs.wf.nextIp, ?_⟩
        · rw [exec_endThread, execEndThread, instr_acts hf (by decide) rfl]
        · rw [State.thr_park _ _ hs.wf.nextIp, State.thr_nextIp hs.wf, hs.thr]
          exact ⟨rfl, rfl⟩
    case quantum =>
      rintro x rfl hrun h64 hready hw
      have hne : (s.cel c).readyOrder.isEmpty = false := List.isEmpty_eq_false_iff.2 hready
      refine ⟨s.park c (s.cel c).lastRun .ready, ?_, (onlyThread_refl rfl).park _ _ hw, ?_⟩
      · simp [exec_threadQuantum, execThreadQuantum, hrun, h64, hne]
      · rw [State.thr_park _ _ hw]
        exact ⟨rfl, rfl⟩
    case short =>
      intro h
      simp [exec_threadQuantum, execThreadQuantum, Nat.not_le.mpr h]
  case lanes =>
    intro op etype srcs mask old
    cases h : Config.vectorType etype with
    | none => exact vectorResult_of_untyped h
    | some bf =>
      intro k hk
      have hfree : laneOf bf (Config.vectorAlu op etype srcs mask old) k % 2 ^ (if bf then 16 else 32) = _ := Nat.mod_eq_of_lt (laneOf_lt ..)
      rw [laneOf_vectorResult h hk, laneResult]
      cases laneArith bf (Config.vectorArith op) (srcs.map fun v => laneOf bf v k) with
      | none => exact hfree
      | some r => cases Config.laneOn mask k <;> simp only [hfree, Bool.false_eq_true, if_true, if_false]

end Sys2Proof.Machine
end

section
/-! PROOFS. The state after reset (R100, R142, R212, R230, R311, R316, R360, R372, R382, R401), and the statement that it settles. -/

namespace Sys2Proof.Machine

/-- Settles O60: the reset state is a closed term, so each of its registers is computed. -/
theorem resetIsAsTheFieldTablesSay : Obligations.ResetIsAsTheFieldTablesSay := by
  unfold Obligations.ResetIsAsTheFieldTablesSay
  refine ⟨rfl, by decide, rfl, rfl, ?registers⟩
  case registers => decide +kernel

end Sys2Proof.Machine
end

section
/-! PROOFS. Memory instructions (R60, R81, R89, R92, R96, R110, R113): what an issued thread still finds as it was, where its
stores land, what each instruction answers, and the statement that they settle. -/

namespace Sys2Proof.Machine

/-! ### What moving on and waiting leave of the cell -/

section moves
variable {s : State} {c t : Nat} (h : Tab.wf s.cell {} = true)
include h

theorem State.heldStores_nextIp : ((s.nextIp c t).cel c).heldStores = (s.cel c).heldStores := by
  rw [State.nextIp, State.modThr, State.cel_modCel _ h]

theorem State.heldStores_park (st : TState) (w : SyncWait) : ((s.park c t st w).cel c).heldStores = (s.cel c).heldStores := by
  rw [State.park, State.modThr, State.cel_modCel _ (State.wf_modCel _ h), State.cel_modCel _ h]

end moves

/-! ### What issuing leaves as it was -/

section issue
variable {s : State} {c t : Nat} (hw : CellWf s c t)
include hw

theorem State.cel_issue : (s.issue c t).cel c = { s.cel c with
    threads := ((s.issue c t).cel c).threads, runValid := ((s.issue c t).cel c).runValid, lastRun := t, regBad := ((s.issue c t).cel c).regBad } :=
  (onlyThread_issue hw).2.2.2.2

theorem State.heldStores_issue : ((s.issue c t).cel c).heldStores = (s.cel c).heldStores := by rw [State.cel_issue hw]
theorem State.queue_issue : ((s.issue c t).cel c).queue = (s.cel c).queue := by rw [State.cel_issue hw]

theorem State.ea_issue (base : Reg) (offset : BitVec 32) : (s.issue c t).ea c t base offset = s.ea c t base offset := by
  rw [State.ea, State.ea, State.x_issue hw]

theorem State.heldByReplay_issue (a n : Nat) : (s.issue c t).heldByReplay c a n = s.heldByReplay c a n := by
  have he : ((s.issue c t).cel c).exec = (s.cel c).exec := by rw [State.cel_issue hw]
  rw [State.heldByReplay, State.heldByReplay, he]
  rfl

theorem State.lineBusy_issue (a n : Nat) : (s.issue c t).lineBusy c t a n = s.lineBusy c t a n := by
  have hr : ((s.issue c t).cel c).requests = (s.cel c).requests := by rw [State.cel_issue hw]
  rw [State.lineBusy, State.lineBusy, hr]
  rfl

theorem State.pairOf_issue (r : Reg) (wide : Bool) : (s.issue c t).pairOf c t r wide = s.pairOf c t r wide := by
  simp only [State.pairOf, State.x_issue hw]

theorem State.descRef_issue (r : DescRef) : (s.issue c t).descRef c t r = s.descRef c t r := by
  cases r with
  | reg r => rw [State.descRef, State.descRef, State.x_issue hw]
  | index n => rfl

theorem State.posted_issue : ((s.issue c t).thr c t).posted = (s.thr c t).posted := by rw [State.thr_issue hw]

end issue

/-! ### A store into the cell's own store (R60, R81, R97) -/

section own
variable {a n : Nat} (hn : 1 ≤ n) (h : ownStore a n = true)
include hn h

theorem lt_of_ownStore : a < 1048576 := by
  have h' := of_decide_eq_true h
  omega

theorem cellOfSram_cellSram (c : Cell) : cellOfSram (cellSram c a) = c := by
  have ha := lt_of_ownStore hn h
  have hc := c.isLt
  unfold cellOfSram cellSram
  omega

theorem cellSram_mod (c : Nat) : cellSram c a % 1048576 = a := by
  have ha := lt_of_ownStore hn h
  unfold cellSram
  omega

theorem isBlockStore_cellSram (c : Cell) : isBlockStore (cellSram c a) = false := by
  have ha := lt_of_ownStore hn h
  have hc := c.isLt
  unfold isBlockStore cellSram
  rw [decide_eq_false_iff_not]
  omega

end own

section store
variable {s : State} {c : Cell} {t : Nat} {a : Nat} {bs : List Byte} (hn : 1 ≤ bs.length) (h : ownStore a bs.length = true)
include hn h

/-- A store whose bytes a replay still reads is held back. -/
theorem State.storeOwn_of_held (hh : s.heldByReplay c a bs.length = true) : s.storeOwn c t a bs =
    s.modCel c fun x => { x with heldStores := x.heldStores ++ [{ addr := a, data := bs, bad := false, owner := .thread t }] } := by
  simp only [State.storeOwn, State.putSram, isBlockStore_cellSram hn h, cellOfSram_cellSram hn h, cellSram_mod hn h, hh, Bool.not_false,
    Bool.and_self, if_true]

/-- One that covers no poisoned word in part is made. -/
theorem State.storeOwn_of_free (hh : s.heldByReplay c a bs.length = false) (hm : s.mems.mergesBad (cellSram c a) bs.length = false) :
    s.storeOwn c t a bs = { s with mems := s.mems.writeSram (cellSram c a) bs } := by
  simp only [State.storeOwn, State.putSram, isBlockStore_cellSram hn h, cellOfSram_cellSram hn h, cellSram_mod hn h, hh, Bool.not_false,
    Bool.and_false, Bool.false_eq_true, if_false, State.storeSram, hm, State.when_false]

end store

/-- A thread that has issued, and whose store has changed memory, goes on to its next instruction. -/
theorem Issued.nextIp_mems {s w : State} {c t : Nat} (h : Issued s w c t) (m : Mems) :
    let u := ({ w with mems := m } : State).nextIp c t
    OnlyThread s { u with mems := w.mems } c t ∧ u.mems = m ∧ (u.thr c t).x = (s.thr c t).x ∧ (u.thr c t).ip = (s.thr c t).ip + 8 ∧
      (u.thr c t).state = .running := by
  intro u
  have he : { u with mems := w.mems } = w.nextIp c t := rfl
  have ht : u.thr c t = (w.nextIp c t).thr c t := rfl
  rw [State.thr_nextIp h.wf, h.thr] at ht
  rw [he, ht]
  exact ⟨h.only.modThr _ h.wf, rfl, rfl, rfl, rfl⟩

/-- The state in which a store waits with its cell. -/
def State.heldBack (s : State) (c t a : Nat) (bs : List Byte) : State :=
  s.modCel c fun x => { x with heldStores := x.heldStores ++ [{ addr := a, data := bs, bad := false, owner := .thread t }] }

/-- A thread that has issued, and whose store waits with its cell, waits for it at its next instruction. -/
theorem Issued.park_heldBack {s w : State} {c t : Nat} (h : Issued s w c t) (a : Nat) (bs : List Byte) :
    let u := ((w.heldBack c t a bs).nextIp c t).park c t .waitMem .held
    u.mems = w.mems ∧ (u.cel c).heldStores = (w.cel c).heldStores ++ [{ addr := a, data := bs, bad := false, owner := .thread t }] ∧
      (u.thr c t).ip = (s.thr c t).ip + 8 ∧ (u.thr c t).state = .waitMem ∧ (u.thr c t).waiting = .held := by
  intro u
  have hb : CellWf (w.heldBack c t a bs) c t := h.wf.modCel _ rfl h.wf.marks
  refine ⟨rfl, ?_⟩
  rw [State.heldStores_park hb.nextIp.cells, State.heldStores_nextIp hb.cells, State.thr_park _ _ hb.nextIp, State.thr_nextIp hb]
  have ht : (w.heldBack c t a bs).thr c t = w.thr c t := State.thr_modCel _ h.wf.cells rfl t
  rw [ht, h.thr, State.heldBack, State.cel_modCel _ h.wf.cells]
  exact ⟨rfl, rfl, rfl, rfl⟩

/-! ### SCALAR_MEM (R81, R96, R110) -/

section commands
variable {s : State} {c : Cell} {t : Thread}

theorem exec_scalarMem (i : MemOp) : exec (.scalarMem c t i) s = execScalarMem c t i s := rfl
theorem exec_vectorMem (i : VMemOp) : exec (.vectorMem c t i) s = execVectorMem c t i s := rfl
theorem exec_atomic (i : AtomOp) : exec (.atomic c t i) s = execAtomic c t i s := rfl
theorem exec_syncFence : exec (.syncFence c t) s = execSyncFence c t s := rfl
theorem exec_desc (r : DescRef) (legal : Bool) : exec (.desc c t r legal) s = execDesc c t r legal s := rfl

section scalarMem
variable {i : MemOp} (hw : CellWf s c t) (hf : Fetches s c t 1) (hl : i.legal = true) (h1 : 1 ≤ i.bytes) (h8 : i.bytes ≤ 8)
include hw hf hl h1 h8

theorem exec_scalarMem_of_marked (hu : ¬Unmarked s c t (i.base.val :: if i.load then [] else [i.reg.val]) []) :
    exec (.scalarMem c t i) s = .next ((s.issue c t).regUe c t) := by
  rw [exec_scalarMem, execScalarMem, instr_reads_of_marked hw hf (by decide) (by simp [hl, h1, h8]) hu]

variable (hu : Unmarked s c t (i.base.val :: if i.load then [] else [i.reg.val]) [])
include hu

/-- The five ways of a scalar access: of the own store, read or written; outside it, a load that waits for a line or for its reply,
and a posted store. -/
theorem exec_scalarMem_acts {a : Nat} (ha : s.ea c t i.base i.offset = a) :
    let on := s.issue c t
    exec (.scalarMem c t i) s = .next (
      if ownStore a i.bytes then
        if i.load then
          if s.mems.sramBad (cellSram c a) i.bytes then on.threadUe c t (cellSram c a)
          else (on.setX c t i.reg (extend i.bytes (leNat (s.mems.sram.read (cellSram c a) i.bytes)) i.signExtend)).nextIp c t
        else (on.storeOwn c t a (leBytes i.bytes (s.x c t i.reg).toNat)).stored c t
      else if i.load && s.lineBusy c t a i.bytes then on.park c t .waitMem .room
      else if i.load then
        ((on.request c t { kind := .load, reg := i.reg, bytes := i.bytes, dst := i.signExtend.toNat, offset := a }).nextIp c t).park c t .waitMem
      else on.postOut c t { kind := .store, bytes := i.bytes, offset := a, data := leBytes i.bytes (s.x c t i.reg).toNat }) := by
  rw [exec_scalarMem, execScalarMem, instr_reads_acts hw hf (by decide) (by simp [hl, h1, h8]) hu]
  simp only [State.ea_issue hw, State.x_issue hw, State.lineBusy_issue hw, ha]
  rfl

end scalarMem

section stored
variable (hw : CellWf s c t) {a n : Nat} {bs : List Byte} (hlen : bs.length = n) (hn : 1 ≤ n) (ho : ownStore a n = true)
include hw hlen hn ho

/-- A store that no replay holds back leaves its bytes in the cell's store and goes on to the next instruction. -/
theorem storeOwn_stored_of_free (hh : s.heldByReplay c a n = false) (hm : s.mems.mergesBad (cellSram c a) n = false)
    (hq : (s.cel c).heldStores.any (fun h => decide (h.owner = .thread t)) = false) :
    ((s.issue c t).storeOwn c t a bs).stored c t =
      ({ s.issue c t with mems := s.mems.writeSram (cellSram c a) bs } : State).nextIp c t := by
  subst hlen
  have hq' : ((s.issue c t).cel c).heldStores.any (fun h => decide (h.owner = .thread t)) = false := by rw [State.heldStores_issue hw]; exact hq
  rw [State.storeOwn_of_free (s := s.issue c t) hn ho (by rw [State.heldByReplay_issue hw]; exact hh) hm, State.stored]
  exact if_neg (ne_true_of_eq_false hq')

/-- A store that a replay holds back waits with the cell, and the thread waits for it. -/
theorem storeOwn_stored_of_held (hh : s.heldByReplay c a n = true) : ((s.issue c t).storeOwn c t a bs).stored c t =
    ((((s.issue c t).heldBack c t a bs).nextIp c t).park c t .waitMem .held) := by
  subst hlen
  rw [State.storeOwn_of_held hn ho (by rw [State.heldByReplay_issue hw]; exact hh), State.stored, if_pos]
  · rfl
  · rw [State.cel_modCel _ hw.issue.cells]
    simp

end stored

section vectorMem
variable {i : VMemOp} (hw : CellWf s c t) (hf : Fetches s c t 3) (hl : i.legal = true) (h1 : 1 ≤ i.elem * i.count) (h256 : i.elem * i.count ≤ 256)
include hw hf hl h1 h256

theorem exec_vectorMem_of_marked (hu : ¬Unmarked s c t [i.base.val] (if i.load then [] else [i.v.val])) :
    exec (.vectorMem c t i) s = .next ((s.issue c t).regUe c t) := by
  rw [exec_vectorMem, execVectorMem, instr_reads_of_marked hw hf (by decide) (by simp [hl, h1, h256]) hu]

variable (hu : Unmarked s c t [i.base.val] (if i.load then [] else [i.v.val]))
include hu

/-- The five ways of a vector access, element by element in the own store and in one request outside it. -/
theorem exec_vectorMem_acts {a : Nat} (ha : s.ea c t i.base i.offset = a) :
    let on := s.issue c t
    let at_ := fun k : Nat => ((a : Int) + k * i.stride).toNat
    exec (.vectorMem c t i) s = .next (
      if (List.range i.count).all fun k => decide ((a : Int) + k * i.stride ≥ 0) && ownStore (at_ k) i.elem then
        if i.load then
          if (List.range i.count).any fun k => s.mems.sramBad (cellSram c (at_ k)) i.elem then on.threadUe c t (cellSram c a)
          else (on.setV c t i.v (BitVec.ofNat 2048 (leNat
            ((List.range i.count).flatMap fun k => s.mems.sram.read (cellSram c (at_ k)) i.elem)))).nextIp c t
        else (on.forEach (List.range i.count) fun k u =>
          u.storeOwn c t (at_ k) (((vecBytes (u.v c t i.v) 256).drop (k * i.elem)).take i.elem)).stored c t
      else if i.load && s.lineBusy c t a (i.elem * i.count) then on.park c t .waitMem .room
      else if i.load then
        ((on.request c t { kind := .vload, reg := i.v, bytes := i.elem * i.count, offset := a }).nextIp c t).park c t .waitMem
      else on.postOut c t { kind := .store, bytes := i.elem * i.count, offset := a, data := vecBytes (s.v c t i.v) (i.elem * i.count) }) := by
  rw [exec_vectorMem, execVectorMem, instr_reads_acts hw hf (by decide) (by simp [hl, h1, h256]) hu]
  simp only [State.ea_issue hw, State.v_issue hw, State.lineBusy_issue hw, ha]
  rfl

end vectorMem

/-! ### ATOMIC, posted accesses and SYNC FENCE (R81, R113) -/

theorem exec_atomic_acts {i : AtomOp} (hw : CellWf s c t) (hf : Fetches s c t 8) (hop : operationOf (s.fetch c t) = i.op.toNat) (hl : i.legal = true)
    (hu : Unmarked s c t [i.data.val, i.compare.val, i.addr.val] []) :
    exec (.atomic c t i) s = .next ((s.issue c t).postOut c t
      { kind := .atomic, reg := i.data, bytes := if i.wide then 16 else 8, offset := (s.x c t i.addr).toNat, aop := i.op.toNat,
        operand := s.pairOf c t i.data i.wide, compare := s.pairOf c t i.compare i.wide }) := by
  rw [exec_atomic, execAtomic, instrOp_eq hop, instr_reads_acts hw hf (by decide) hl hu]
  simp only [State.x_issue hw, State.pairOf_issue hw]

theorem State.postOut_of_full {s : State} {c t : Nat} (h : 16 ≤ (s.thr c t).posted) (r : SlotSt) : s.postOut c t r = s.park c t .waitMem .room :=
  if_pos h

theorem State.postOut_of_room {s : State} {c t : Nat} (h : (s.thr c t).posted < 16) (r : SlotSt) :
    let out := ((s.request c t r).wakeReel.modThr c t fun x => { x with posted := x.posted + 1 }).nextIp c t
    s.postOut c t r = if (s.threadSlot c).isSome then out.park c t .ready else out.park c t .waitMem .slot :=
  if_neg (by omega)

section fence
variable (hw : CellWf s c t) (hf : Fetches s c t 6)
include hw hf

theorem exec_syncFence_of_none (hp : (s.thr c t).posted = 0) : exec (.syncFence c t) s = .next ((s.issue c t).nextIp c t) := by
  rw [exec_syncFence, execSyncFence, instr_acts hf (by decide) rfl, State.fenced, State.posted_issue hw, if_neg (by omega)]

theorem exec_syncFence_of_some (hp : 0 < (s.thr c t).posted) : exec (.syncFence c t) s = .next ((s.issue c t).park c t .waitMem .fence) := by
  rw [exec_syncFence, execSyncFence, instr_acts hf (by decide) rfl, State.fenced, State.posted_issue hw, if_pos hp]

end fence

/-! ### DESC (R89, R92, R96) -/

theorem exec_desc_acts {r : DescRef} (hw : CellWf s c t) (hf : Fetches s c t 7) (hu : Unmarked s c t (descRegs r) []) :
    exec (.desc c t r true) s = .next (
      if 16 ≤ (s.cel c).queue.length then (s.issue c t).park c t .ready
      else match s.descRef c t r with
        | some a =>
          if s.mems.sramBad a 64 then (s.issue c t).threadUe c t a
          else ((s.issue c t).nextIp c t).postDesc c (Desc.read (s.mems.sram.read a 64))
        | none => ((s.issue c t).nextIp c t).badDesc c (Desc.read [])) := by
  rw [exec_desc, execDesc, instr_reads_acts hw hf (by decide) rfl hu]
  simp only [State.queue_issue hw, State.descRef_issue hw]
  rfl

end commands

theorem State.postDesc_of_ok {s : State} {c : Nat} {d : Desc} (h : s.descOk (blockOfCell c) d = true) :
    s.postDesc c d = s.modCel c fun x => { x with queue := x.queue ++ [{ no := x.descNo, desc := d }], descNo := x.descNo + 1 } :=
  if_pos h

theorem State.postDesc_of_invalid {s : State} {c : Nat} {d : Desc} (h : s.descOk (blockOfCell c) d = false) : s.postDesc c d = s.badDesc c d :=
  if_neg (ne_true_of_eq_false h)

/-- Settles O41: each instruction answers by the case it is in, and a store in the own store is the write or the wait that R60 says. -/
theorem memoryInstructionsReachTheirBytes : Obligations.MemoryInstructionsReachTheirBytes := by
  unfold Obligations.MemoryInstructionsReachTheirBytes
  intro s c t hw on ip waits
  have hs := issued_issue hw
  refine ⟨?scalar, ?vector, ?atomic, ?postOut, ?noFence, ?fence, ?desc, ?descRef, ?post, ?invalid⟩
  case scalar =>
    intro i hf hl h1 h8 a data reg
    refine ⟨exec_scalarMem_of_marked hw hf hl h1 h8, fun hu => ?_⟩
    have hacts := exec_scalarMem_acts hw hf hl h1 h8 hu (a := a) rfl
    have hlen : data.length = i.bytes := length_leBytes ..
    refine ⟨fun hld ho hb => ?load, fun hld ho hb => ?poisoned, fun hld ho => ?store, fun hld ho hh hm hq hsw => ?free, fun hld ho hh => ?held,
      fun hld ho hb => ?request, fun hld ho hb => ?busy, fun hld ho => ?posted⟩
    case load =>
      rw [hacts, if_pos ho, if_pos hld, if_neg (ne_true_of_eq_false hb)]
      exact ⟨_, rfl, hs.nextIp_setX hw i.reg _⟩
    case poisoned => rw [hacts, if_pos ho, if_pos hld, if_pos hb]
    case store => rw [hacts, if_pos ho, if_neg (ne_true_of_eq_false hld)]
    case free =>
      rw [hacts, if_pos ho, if_neg (ne_true_of_eq_false hld)]
      obtain ⟨honly, hmems, hthr⟩ := hs.nextIp_mems (s.mems.writeSram (cellSram c a) data)
      have hread := Memory.read_write (cellSram c a) data hsw
      rw [hlen] at hread
      have hst := storeOwn_stored_of_free hw hlen h1 ho hh hm (eq_false_of_ne_true hq)
      refine ⟨_, congrArg Host.Outcome.next hst, honly, ?_, fun b hb => ?_, ?_, hthr⟩
      · rw [hmems, Mems.writeSram_sram, hread]
      · rw [hmems, Mems.writeSram_sram, Memory.get_write_outside _ hsw (by rwa [hlen])]
      · rw [hmems, Mems.writeSram_hbm]
    case held =>
      rw [hacts, if_pos ho, if_neg (ne_true_of_eq_false hld)]
      obtain ⟨hmems, hheld, hthr⟩ := hs.park_heldBack a data
      rw [State.heldStores_issue hw] at hheld
      have hst := storeOwn_stored_of_held hw hlen h1 ho hh
      exact ⟨_, congrArg Host.Outcome.next hst, hmems, hheld, hthr⟩
    case request => rw [hacts, if_neg (ne_true_of_eq_false ho), if_neg (by simp [hb]), if_pos hld]
    case busy => rw [hacts, if_neg (ne_true_of_eq_false ho), if_pos (by simp [hld, hb])]
    case posted => rw [hacts, if_neg (ne_true_of_eq_false ho), if_neg (by simp [hld]), if_neg (ne_true_of_eq_false hld)]
  case vector =>
    intro i hf hl h1 h256 a at_ own vec
    refine ⟨exec_vectorMem_of_marked hw hf hl h1 h256, fun hu => ?_⟩
    have hacts := exec_vectorMem_acts hw hf hl h1 h256 hu (a := a) rfl
    refine ⟨fun ho hld hb => ?load, fun ho hld hb => ?poisoned, fun ho hld => ?store, fun ho hld hb => ?request, fun ho hld hb => ?busy,
      fun ho hld => ?posted⟩
    case load =>
      rw [hacts, if_pos ho, if_pos hld, if_neg (by simpa using hb)]
      obtain ⟨h1, h2, h3, h4, -, h5⟩ := hs.nextIp_setV hw i.v _
      exact ⟨_, rfl, h1, h2, h3, h4, h5⟩
    case poisoned => rw [hacts, if_pos ho, if_pos hld, if_pos (by simpa using hb)]
    case store => rw [hacts, if_pos ho, if_neg (ne_true_of_eq_false hld)]
    case request => rw [hacts, if_neg (ne_true_of_eq_false ho), if_neg (by simp [hb]), if_pos hld]
    case busy => rw [hacts, if_neg (ne_true_of_eq_false ho), if_pos (by simp [hld, hb])]
    case posted => rw [hacts, if_neg (ne_true_of_eq_false ho), if_neg (by simp [hld]), if_neg (ne_true_of_eq_false hld)]
  case atomic => exact fun i hf hop hl hu => exec_atomic_acts hw hf hop hl hu
  case postOut =>
    intro r
    have hp := State.posted_issue hw
    exact ⟨fun h => State.postOut_of_full (hp ▸ h) r, fun h => State.postOut_of_room (hp ▸ h) r⟩
  case noFence =>
    intro hf hp
    refine ⟨_, exec_syncFence_of_none hw hf hp, hs.only.modThr _ hs.wf, ?_⟩
    rw [State.thr_nextIp hs.wf, hs.thr]
    exact ⟨rfl, rfl, rfl⟩
  case fence =>
    intro hf hp
    refine ⟨_, exec_syncFence_of_some hw hf hp, hs.only.park _ _ hs.wf, ?_⟩
    rw [State.thr_park _ _ hs.wf, hs.thr]
    exact ⟨rfl, rfl, rfl⟩
  case desc =>
    intro r hf hu
    have hacts := exec_desc_acts hw hf hu
    refine ⟨fun h => ?_, fun h => ⟨fun a ha hb => ?_, fun a ha hb => ?_, fun ha => ?_⟩⟩
    · rwa [if_pos h] at hacts
    · simpa only [if_neg (Nat.not_le.2 h), ha, hb, Bool.false_eq_true, if_false] using hacts
    · simpa only [if_neg (Nat.not_le.2 h), ha, hb, if_true] using hacts
    · simpa only [if_neg (Nat.not_le.2 h), ha] using hacts
  case descRef => exact fun r n => ⟨by simp only [State.descRef, ownStore, decide_eq_true_eq], rfl⟩
  case post =>
    intro d h
    simp only [State.postDesc_of_ok h]
    refine ⟨?_, fun k hk => State.cel_modCel_other _ hw.cells hk, rfl, rfl⟩
    rw [State.cel_modCel _ hw.cells]
  case invalid => exact fun d h => State.postDesc_of_invalid h

end Sys2Proof.Machine
end

section
/-! PROOFS. Slots, replies and store errors (R75, R81, R87, R88, R93-R97): which of its cases a reply meets, what a grant, a
timeout and an error found in a store do, and the statement that they settle. -/

namespace Sys2Proof.Machine

/-! ### MEMORY_REPLY (R75, R81, R87, R155) -/

theorem exec_memoryReply (tag : BitVec 16) (gen : BitVec 10) (st : Nat) (p : Bool) (data : List Byte) (s : State) :
    exec (.memoryReply tag gen st p data) s = .next (s.reply tag gen st p data) := rfl

section reply
variable {s : State} {tag : BitVec 16} {gen : BitVec 10} {st : Nat} {p : Bool} {data : List Byte} {r : SlotSt} (hr : s.slot tag.toNat = r)
include hr

/-- A reply of another generation, or to a slot that is free or the fabric's, is counted stale. -/
theorem reply_of_stale (h : r.kind = .free ∨ r.gen ≠ gen ∨ r.reel = true) :
    s.reply tag gen st p data = s.bump Ctr.seStaleReply (tag.toNat / 256) := by
  simp only [State.reply, hr]
  exact if_pos (by simpa [or_assoc] using h)

/-- A request that is held, on a ring or a stream's has no reply yet. -/
theorem reply_of_underWay (hk : r.kind ≠ .free) (hg : r.gen = gen) (hreel : r.reel = false)
    (h : r.stream = true ∨ r.onRing = true ∨ s.holds (.slot tag.toNat) = true) : s.reply tag gen st p data = s := by
  simp only [State.reply, hr]
  rw [if_neg (by simp [hk, hg, hreel]), if_pos (by simpa [or_assoc] using h)]

/-- The slot awaits this reply: it is of its generation, within the module, and no ring, stream or held store answers in its place. -/
def State.Awaits (s : State) (n : Nat) (r : SlotSt) (gen : BitVec 10) : Prop :=
  r.kind ≠ .free ∧ r.gen = gen ∧ r.reel = false ∧ r.stream = false ∧ r.onRing = false ∧ s.holds (.slot n) = false

/-- What an OK reply does before its slot ends: a load's data reach its register or a poisoned word ends its thread, a posted access
is acknowledged, and a descriptor's request does nothing more. -/
def State.answered (s : State) (r : SlotSt) (p : Bool) (data : List Byte) : State :=
  match r.kind with
  | .load | .vload =>
    if s.loadBad r then s.threadUe r.cell r.thread ((r.place.map (·.2)).getD 0)
    else if p then s.park r.cell r.thread .faulted else s.loadDone r (s.loadData r data)
  | .store => s.modThr r.cell r.thread ThreadSt.acked
  | .atomic =>
    if r.bad || p then (s.modThr r.cell r.thread ThreadSt.acked).park r.cell r.thread .faulted
    else s.atomicDone r (BitVec.ofNat 128 (leNat ((if r.atSram then r.data else data).take 16)))
  | _ => s

variable (hf : s.Awaits tag.toNat r gen)
include hf

/-- One that fits with a status that is no success ends its slot with the cause. -/
theorem reply_of_cause {code : Nat} (h : replyCause (if s.parkedPlace r then 1 else if r.refused then 2 else st) = some code) :
    s.reply tag gen st p data = (s.slotCause tag.toNat code).endSlot tag.toNat := by
  obtain ⟨hk, hg, hreel, hs, hring, hh⟩ := hf
  simp only [State.reply, hr]
  rw [if_neg (by simp [hk, hg, hreel]), if_neg (by simp [hs, hring, hh]), h]

/-- One that fits and is OK does what its kind of request takes it for, and ends its slot. -/
theorem reply_of_ok (hp : s.parkedPlace r = false) (href : r.refused = false) :
    s.reply tag gen 0 p data = (s.answered r p data).endSlot tag.toNat := by
  obtain ⟨hk, hg, hreel, hs, hring, hh⟩ := hf
  have hc : replyCause (if s.parkedPlace r then 1 else if r.refused then 2 else 0) = none := by simp [hp, href, replyCause]
  have h3 : decide (0 = 3) = false := rfl
  simp only [State.reply, State.answered, hr]
  rw [if_neg (by simp [hk, hg, hreel]), if_neg (by simp [hs, hring, hh]), hc]
  simp only [h3, Bool.or_false]
  cases r.kind <;> simp only [State.threadUe, apply_ite (fun u : State => u.endSlot tag.toNat)]

end reply

section answered
variable {s : State} {r : SlotSt} {p : Bool} {data : List Byte}

theorem answered_of_load (h : r.kind = .load ∨ r.kind = .vload) : s.answered r p data =
    if s.loadBad r then s.threadUe r.cell r.thread ((r.place.map (·.2)).getD 0)
    else if p then s.park r.cell r.thread .faulted else s.loadDone r (s.loadData r data) := by
  obtain h | h := h <;> simp only [State.answered, h]

theorem answered_of_store (h : r.kind = .store) : s.answered r p data = s.modThr r.cell r.thread ThreadSt.acked := by
  simp only [State.answered, h]

theorem answered_of_atomic (h : r.kind = .atomic) (hp : p = false) (hb : r.bad = false) : s.answered r p data =
    s.atomicDone r (BitVec.ofNat 128 (leNat ((if r.atSram then r.data else data).take 16))) := by
  simp only [State.answered, h, hp, hb, Bool.or_self, Bool.false_eq_true, if_false]

theorem answered_of_desc (h : r.kind = .desc) : s.answered r p data = s := by
  simp only [State.answered, h]

end answered

/-! ### The slot and the thread after a reply (R75, R81) -/

/-- A slot that ends is free in its next generation, and no memory changes. -/
theorem slot_endSlot {s : State} {n : Nat} (hb : Tab.wf s.block {} = true) (hs : Tab.wf (s.blk (n / 256)).slots {} = true) :
    ((s.endSlot n).slot n).kind = .free ∧ ((s.endSlot n).slot n).gen = (s.slot n).gen + 1 ∧ (s.endSlot n).mems = s.mems := by
  have hblock : (s.endSlot n).block = (s.modBlk (n / 256) (·.release (n % 256))).block := State.when_keeps (·.block) rfl _
  have hslot : (s.endSlot n).slot n = { gen := (s.slot n).gen + 1, epoch := (s.slot n).epoch } := by
    rw [State.slot, State.blk, hblock]
    change BlockSt.slot ((s.modBlk (n / 256) (·.release (n % 256))).blk (n / 256)) (n % 256) = _
    rw [State.blk_modBlk _ hb]
    exact Tab.get_set_same _ _ hs
  rw [hslot]
  exact ⟨rfl, rfl, State.when_keeps (·.mems) rfl _⟩

section loadDone
variable {s : State} {r : SlotSt} {data : List Byte} (hw : CellWf s r.cell r.thread)
include hw

/-- A vector load's data are in its register and its thread is READY. -/
theorem thr_loadDone_of_vload (h : r.kind = .vload) : (s.loadDone r data).thr r.cell r.thread =
    { s.thr r.cell r.thread with
      v := (s.thr r.cell r.thread).v.set 0 r.reg (BitVec.ofNat 2048 (leNat (data.take r.bytes))), state := .ready, waiting := .none } := by
  simp only [State.loadDone, h, if_true]
  rw [State.thr_modThr_wf _ (hw.setV _ _), State.thr_setV hw]

/-- A scalar load's data are in its register and its thread is READY. -/
theorem thr_loadDone_of_scalar (h : r.kind ≠ .vload) : (s.loadDone r data).thr r.cell r.thread =
    { s.thr r.cell r.thread with
      x := (s.thr r.cell r.thread).x.set 0 r.reg (extend r.bytes (leNat (data.take r.bytes)) (r.dst = 1)), state := .ready, waiting := .none } := by
  simp only [State.loadDone, h, if_false]
  rw [State.thr_modThr_wf _ (hw.setX _ _), State.thr_setX hw]

end loadDone

/-! ### Grants, timeouts and parity (R88, R93, R96) -/

section grant
variable {s : State} {b : Block}

theorem exec_slotGrant : exec (.slotGrant b) s = .next (s.grantSlot b) := rfl
theorem exec_seTimeout (tag : BitVec 16) : exec (.seTimeout tag) s = execSeTimeout tag s := rfl
theorem exec_seParity : exec (.seParity b) s = execSeParity b s := rfl

/-- With no slot free, a frozen engine or a region that does not run, nothing is granted. -/
theorem grantSlot_of_idle (h : (s.blk b).freeSlot = none ∨ (s.blk b).frozen = true ∨ (s.reg (regionOfBlock b)).state ≠ .running) :
    s.grantSlot b = s := by
  unfold State.grantSlot
  split
  · rename_i i hi
    have hb : ((s.blk b).frozen || !decide ((s.reg (regionOfBlock b)).state = .running)) = true := by
      obtain h | h | h := h
      · rw [hi] at h; exact nomatch h
      · simp [h]
      · simp [h]
    exact if_pos hb
  · rfl

variable {i : Nat} (hi : (s.blk b).freeSlot = some i) (hf : (s.blk b).frozen = false) (hr : (s.reg (regionOfBlock b)).state = .running)
include hi hf hr

theorem grantSlot_of_thread {c t : Nat} {r : SlotSt} (h : (s.blk b).threadSlots < 128) (ho : s.oldestRequest b = some (c, t, r)) :
    s.grantSlot b = ((s.leaveBuffer c t).sendThread c i r).wakeReel.notePeak (regionOfBlock b) := by
  simp [State.grantSlot, hi, hf, hr, h, ho]

theorem grantSlot_of_desc {c no : Nat} (h : (s.blk b).threadSlots ≥ 128 ∨ s.oldestRequest b = none) (hn : s.nextGrant b = some (c, no)) :
    s.grantSlot b = (s.modBlk b fun x => { x with grantNext := (c + 1) % 16 }).issueOne c no i := by
  have hnone : (if (s.blk b).threadSlots < 128 then s.oldestRequest b else none) = none := by
    obtain h | h := h
    · exact if_neg (Nat.not_lt.2 h)
    · rw [h, ite_self]
  simp [State.grantSlot, hi, hf, hr, hnone, hn]

end grant

section timeout
variable {s : State} {tag : BitVec 16} {r : SlotSt} (hr : s.slot tag.toNat = r)
include hr

theorem exec_seTimeout_of_due (hk : r.kind ≠ .free) (hk' : r.kind ≠ .reduce) (hreel : r.reel = false) (h : 100000 ≤ since r.sentAt s.time.lea) :
    exec (.seTimeout tag) s = .next (((s.bump Ctr.seTimeout (tag.toNat / 256)).slotCause tag.toNat 0x0206).modBlk (tag.toNat / 256)
      (·.release (tag.toNat % 256))) := by
  simp [exec_seTimeout, execSeTimeout, hr, hk, hk', hreel, State.elapsed, h]

theorem exec_seTimeout_of_idle (h : r.kind = .free ∨ r.kind = .reduce ∨ r.reel = true ∨ since r.sentAt s.time.lea < 100000) :
    exec (.seTimeout tag) s = .next s := by
  rw [exec_seTimeout, execSeTimeout, hr]
  obtain h | h | h | h := h
  · simp [h]
  · simp [h]
  · simp [h]
  · simp [State.elapsed, Nat.not_le.2 h]

end timeout

/-! ### Errors of the stores (R94-R97) -/

section stores
variable {s : State} {w : Nat}

/-- A read of a store, by a consumer that is no register file: a word marked is consumed; a good one is left, corrected, or marked and
consumed. -/
theorem exec_sramReadError_of_store {who : Consumer} (hw : ∀ c, who ≠ .regfile c) (bits : Nat) : exec (.sramReadError w bits who) s = .next (
    if s.mems.sramPoison.get false w then s.consumedBy (8 * w) who
    else if bits = 0 then s else if bits = 1 then s.sramCe w else (s.sramUe w).consumedBy (8 * w) who) := by
  cases who with
  | regfile c => exact absurd rfl (hw c)
  | _ => rfl

/-- A read of a register file: the same, by the marks of its cell. -/
theorem exec_sramReadError_of_regfile (c : Cell) (bits : Nat) : exec (.sramReadError w bits (.regfile c)) s = .next (
    if (s.cel c).regBad.get false w then s.regUe c (w / 1056 % 8)
    else if bits = 0 then s
    else if bits = 1 then (s.bump Ctr.regfileCe c).modReg (regionOfCell c) fun x => { x with ceSeen := x.ceSeen ||| 2 ^ (blockOfCell c % 16) }
    else (s.regfileUe c w).regUe c (w / 1056 % 8)) := rfl

theorem exec_sramScrub (bits : Nat) : exec (.sramScrub w bits) s = .next (
    if s.mems.sramPoison.get false w || bits = 0 then s else if bits = 1 then s.sramCe w else s.sramUe w) := rfl

theorem State.notePoison_mems (s : State) (r : Nat) : (s.notePoison r).mems = s.mems := State.when_keeps (·.mems) rfl _
theorem State.notePoison_cell (s : State) (r : Nat) : (s.notePoison r).cell = s.cell := State.when_keeps (·.cell) rfl _

/-- Two wrong bits or more mark the word, and leave every byte as it was. -/
theorem sramUe_mems : (s.sramUe w).mems = { s.mems with sramPoison := s.mems.sramPoison.set false w true } := State.notePoison_mems _ _

theorem regfileUe_cell {c : Nat} : (s.regfileUe c w).cell = (s.modCel c fun x => { x with regBad := x.regBad.set false w true }).cell :=
  State.notePoison_cell _ _

theorem regfileUe_marks {c : Nat} (hc : Tab.wf s.cell {} = true) (hm : Tab.wf (s.cel c).regBad false = true) :
    ((s.regfileUe c w).cel c).regBad.get false w = true := by
  rw [State.cel, regfileUe_cell, ← State.cel, State.cel_modCel _ hc]
  exact Tab.get_set_same _ _ hm

theorem regfileUe_mems {c : Nat} : (s.regfileUe c w).mems = s.mems := State.notePoison_mems _ _

end stores

/-- Settles O44: each command by the case it is in. -/
theorem repliesAndStoreErrorsAreHandled : Obligations.RepliesAndStoreErrorsAreHandled := by
  unfold Obligations.RepliesAndStoreErrorsAreHandled
  refine ⟨?reply, ?ends, ?loads, ?grants, ?noGrant, ?parity, ?storeRead, ?regfileRead, ?scrub, ?words, fun s w => rfl⟩
  case reply =>
    intro s tag gen st p data n r fits answered
    simp only [exec_memoryReply]
    refine ⟨fun h => ?_, fun hk hg hreel h => ?_, fun hf hp => ?_, fun hf hp href => ?_, ?answer, ?data, fun hk hk' hreel h => ?_, fun h => ?_⟩
    · rw [reply_of_stale rfl h]
    · rw [reply_of_underWay rfl hk hg hreel h]
    · rw [reply_of_cause (code := 0x0305) rfl hf]
      rw [if_pos hp]; rfl
    · rw [reply_of_cause (code := 0x0503) rfl hf]
      rw [if_neg (ne_true_of_eq_false hp), if_pos href]; rfl
    case answer =>
      rintro ⟨hf, hp, href⟩
      have hfail : ∀ code, replyCause st = some code → s.reply tag gen st p data = (s.slotCause n code).endSlot n := fun code h =>
        reply_of_cause rfl hf (by rwa [if_neg (ne_true_of_eq_false hp), if_neg (ne_true_of_eq_false href)])
      have hok : st = 0 → s.reply tag gen st p data = (s.answered r p data).endSlot n := by
        rintro rfl
        exact reply_of_ok rfl hf hp href
      refine ⟨fun h => ?_, fun h => ?_, fun h hk => ?_, fun h hk => ?_, fun h hp hk hb => ?_, fun h hk => ?_⟩
      · rw [hfail 0x0305 (by rw [h]; rfl)]
      · rw [hfail 0x0503 (by rw [h]; rfl)]
      · rw [hok h, answered_of_load hk]
      · rw [hok h, answered_of_store hk]
      · rw [hok h, answered_of_atomic hk hp hb]
      · rw [hok h, answered_of_desc hk]
    case data =>
      intro h
      exact if_neg (by simp [h])
    · exact exec_seTimeout_of_due rfl hk hk' hreel h
    · exact exec_seTimeout_of_idle rfl h
  case ends => exact fun s n hb hs _ => slot_endSlot hb hs
  case loads =>
    intro s r data hw
    by_cases hk : r.kind = .vload
    · rw [thr_loadDone_of_vload hw hk]
      exact ⟨rfl, rfl, fun h => absurd (h.symm.trans hk) (by decide), fun _ => ⟨Tab.get_set_same _ _ hw.2.2.2.1, rfl⟩⟩
    · rw [thr_loadDone_of_scalar hw hk]
      exact ⟨rfl, rfl, fun _ => ⟨Tab.get_set_same _ _ hw.2.2.1, rfl⟩, fun h => absurd h hk⟩
  case grants =>
    intro s b i hi hf hr
    exact ⟨fun c t r h ho => by rw [exec_slotGrant, grantSlot_of_thread hi hf hr h ho], fun c no h hn => by
      rw [exec_slotGrant, grantSlot_of_desc hi hf hr h hn]⟩
  case noGrant => exact fun s b h => by rw [exec_slotGrant, grantSlot_of_idle h]
  case parity =>
    exact fun s b => ⟨fun h => by rw [exec_seParity, execSeParity, h, State.when_true],
      fun h => by rw [exec_seParity, execSeParity, h, State.when_false]⟩
  case storeRead =>
    intro s w who hw
    have hread := exec_sramReadError_of_store (s := s) (w := w) hw
    refine ⟨fun h bits => by rw [hread, if_pos h], fun h => ⟨?_, ?_, fun bits hb => ?_⟩⟩
    · rw [hread, if_neg (ne_true_of_eq_false h), if_pos rfl]
    · rw [hread, if_neg (ne_true_of_eq_false h), if_neg (by decide), if_pos rfl]
    · rw [hread, if_neg (ne_true_of_eq_false h), if_neg (by omega), if_neg (by omega)]
  case regfileRead =>
    intro s c w reader
    have hread := exec_sramReadError_of_regfile (s := s) (w := w) c
    refine ⟨fun h bits => by rw [hread, if_pos h], fun h => ⟨?_, ?_, fun bits hb => ?_, fun hc hm => ⟨regfileUe_marks hc hm, regfileUe_mems⟩⟩⟩
    · rw [hread, if_neg (ne_true_of_eq_false h), if_pos rfl]
    · rw [hread, if_neg (ne_true_of_eq_false h), if_neg (by decide), if_pos rfl]
    · rw [hread, if_neg (ne_true_of_eq_false h), if_neg (by omega), if_neg (by omega)]
  case scrub =>
    intro s w
    simp only [exec_sramScrub]
    refine ⟨fun h bits => by simp [h], fun h => ⟨by simp, by simp [h], fun bits hb => ?_⟩⟩
    rw [if_neg (by simp [h]; omega), if_neg (by omega)]
  case words =>
    intro s w
    refine ⟨rfl, List.mem_append_right _ (List.mem_singleton_self w), ?_, by rw [sramUe_mems]⟩
    intro h
    rw [sramUe_mems]
    exact ⟨Tab.get_set_same _ _ h, fun v hv => Tab.get_set_other hv _ h⟩

end Sys2Proof.Machine
end

section
/-! PROOFS. Descriptors (R87, R89, R90): the statement about them is refuted by a slot number beyond the 256 slots of a block. -/

namespace Sys2Proof.Machine

/-- A module whose region C00 runs, and in which nothing else has happened. -/
def runningRegion : State := { State.reset with region := [(0, { state := .running })] }

/-- FILL, started: one row of 8 bytes, the first of them 1, to the start of the store of block 0. -/
def fillOfBlockStore : DescSt where
  no := 0
  desc := {
    op := 4, flags := 0, spaces := 0, scaleMode := 0, rowBytes := 8, rows := 1, srcStride := 0, dstStride := 0, signalToken := 0, waitToken := 0,
    srcAddr := 0, dstAddr := 2 ^ 32, aux := 1, ext := 0, cookie := 0 }
  started := true

/-- In slot 256 of block 0 the piece takes the tag of slot 0 of block 1, which is free and names no place: nothing is written. -/
theorem issuePiece_beyondSlots_mems : (runningRegion.issuePiece 0 fillOfBlockStore 256).mems = runningRegion.mems := by decide +kernel

/-- Refutes O43: what a piece of FILL writes is stated for every slot number, and a block has 256 slots (R87). The tag of a piece in
slot 256 of block 0 is that of slot 0 of block 1; the destination is read from there, and the bytes of the row are not written. -/
theorem not_descriptorsMoveTheirRows : ¬ Obligations.DescriptorsMoveTheirRows := by
  unfold Obligations.DescriptorsMoveTheirRows
  rintro ⟨-, -, hpiece, -⟩
  obtain ⟨hwrite, -⟩ := hpiece runningRegion 0 fillOfBlockStore 256 (.inr rfl) rfl rfl (by decide) (by decide)
  have hmems := hwrite (by decide) (.inl (by decide))
  rw [issuePiece_beyondSlots_mems] at hmems
  exact absurd hmems (by decide +kernel)

end Sys2Proof.Machine
end

section
/-! PROOFS. Jobs (R103, R341, R451): the identifier of the next job, and what JOB_OPEN, JOB_ABORT, JOB_CLEAR and the end of a
clear's resets do when they pass. -/

namespace Sys2Proof.Machine

/-- The next identifier skips 0 (R103). -/
theorem succ32_ne_zero (a : BitVec 32) : succ32 a ≠ 0 := by
  unfold succ32
  split
  · decide
  · assumption

/-- With a job open whose end has not come, a cause stamped is appended to its causes (R25, R26). -/
theorem State.stamp_causes {s : State} (code index station : Nat) (f : Cause → Cause) (ho : s.job.open_.isSome = true) (hf : s.job.fault ≠ .done) :
    (s.stamp code index station f).job.causes =
      s.job.causes ++ [f { code := code, index := index, station := station, stamp := s.time.lea }] := by
  rw [State.stamp_job, Job.stamp_causes _ _ _ ho hf]

/-- A step that changes nothing, taken for each of a list, changes nothing. -/
theorem State.forEach_eq_self {α : Type} {f : α → State → State} (h : ∀ x u, f x u = u) (s : State) (xs : List α) : s.forEach xs f = s :=
  State.forEach_keeps (fun u => u) h s xs

/-! ### The commands -/

section commands
variable {s : State} {c : Cmd}

theorem exec_jobOpen : exec (.jobOpen c) s = execJobOpen c s := rfl
theorem exec_jobAbort : exec (.jobAbort c) s = execJobAbort c s := rfl
theorem exec_jobClear (rr : ResetReads) : exec (.jobClear c rr) s = execJobClear c rr s := rfl

/-- With no watch window open and no repair pending, JOB_OPEN opens the job after the latest one. -/
theorem exec_jobOpen_of_passes (h : Passes s { op := 0x0301, noJob := true } c {}) (hw : s.conf.watching = false) (hp : s.card.pending = []) :
    let on := accepted s { op := 0x0301, noJob := true } c {}
    exec (.jobOpen c) s = .next ({ on with
      job := { open_ := some (succ32 s.job.prev), prev := succ32 s.job.prev }
      time := { on.time with stepped := false }
      creel := { on.creel with maxNs := 0 } }.done c .ok (result [(16, 4, (succ32 s.job.prev).toNat)])) := by
  have hv : ({ state := s.conf.watching || !s.card.pending.isEmpty } : Verdict) = {} := by rw [hw, hp]; rfl
  simp only [exec_jobOpen, execJobOpen, selkan_passes_of hv h, accepted_job]

/-- JOB_ABORT of a job that has not ended stamps HOST_ABORT. -/
theorem exec_jobAbort_of_running (h : Passes s { op := 0x0306, long := true, needsJob := true } c {}) (hf : s.job.fault ≠ .done) :
    let on := accepted s { op := 0x0306, long := true, needsJob := true } c {}
    exec (.jobAbort c) s = .next (on.stamp 0x0701 0 (32 + (c.port on).val)) := by
  simp only [exec_jobAbort, execJobAbort, selkan_passes h, accepted_job, if_neg hf]

/-- JOB_ABORT of a job that has ended is answered at once. -/
theorem exec_jobAbort_of_ended (h : Passes s { op := 0x0306, long := true, needsJob := true } c {}) (hf : s.job.fault = .done) :
    exec (.jobAbort c) s =
      .next ((accepted s { op := 0x0306, long := true, needsJob := true } c {}).done c .ok (result [(16, 4, s.jobId.toNat)])) := by
  simp only [exec_jobAbort, execJobAbort, selkan_passes h, accepted_job, if_pos hf, State.jobId]

/-- JOB_CLEAR with no readings given leaves the job's regions in RESET. -/
theorem exec_jobClear_of_passes (h : Passes s { op := 0x0305, long := true, needsJob := true } c {}) (hl : s.job.launches = []) :
    let on := accepted s { op := 0x0305, long := true, needsJob := true } c {}
    exec (.jobClear c []) s = .next (((on.setAux c (bitsOf ((List.range 16).map on.jobRegions.contains))).freeJob).forEach
      on.jobRegions fun r s => s.enterReset r).resetsDone := by
  have hv : ({ busy := if s.job.launches.isEmpty then none else some 0 } : Verdict) = {} := by rw [hl]; rfl
  simp only [exec_jobClear, execJobClear, selkan_passes_of hv h]
  refine congrArg (fun u => Host.Outcome.next (State.resetsDone u)) (State.forEach_eq_self (fun _ _ => ?_) _ _)
  rfl

/-- Once the regions of a clear have left RESET, its job is closed and the clear is answered. -/
theorem State.resetsDone_of_clear {l : LOp} (hl : s.lop 0x0305 = some l) (ho : s.outOfReset l.aux = true)
    (hn : (s.closeJob.done l.cmd .ok (result [(16, 4, s.jobId.toNat)])).lop 0x0704 = none) :
    s.resetsDone = s.closeJob.done l.cmd .ok (result [(16, 4, s.jobId.toNat)]) := by
  simp only [State.resetsDone, hl, ho, State.when_true, hn]

end commands

/-- Settles O10: each command by the case it is in. -/
theorem jobsOpenAbortAndClose : Obligations.JobsOpenAbortAndClose := by
  unfold Obligations.JobsOpenAbortAndClose
  refine ⟨?opens, ?abort, ?clear, ?closes⟩
  case opens => exact fun s c h hw hp => ⟨exec_jobOpen_of_passes h hw hp, succ32_ne_zero _⟩
  case abort =>
    intro s c k on h
    refine ⟨fun hf => ⟨exec_jobAbort_of_running h hf, fun id hid => ?_⟩, exec_jobAbort_of_ended h⟩
    have ho : on.job.open_.isSome = true := by simp [on, hid]
    have hn : on.job.fault ≠ .done := by rwa [accepted_job]
    rw [State.stamp_causes _ _ _ _ ho hn, accepted_job, accepted_time]
    rfl
  case clear => exact fun s c h hl => exec_jobClear_of_passes h hl
  case closes => exact fun s l hl _ ho hn => ⟨State.resetsDone_of_clear hl ho hn, rfl, rfl⟩

end Sys2Proof.Machine
end

section
/-! PROOFS. Images and launches (R64, R68, R104-R108, R337): what each command does when it passes, what becomes of a launch that
waits, and what a tracked tensor's history keeps. -/

namespace Sys2Proof.Machine

/-! ### Images (R64, R107) -/

@[simp] theorem State.freeGuards_job (s : State) (im : Image) : (s.freeGuards im).job = s.job :=
  State.forEach_keeps (·.job) (fun t u => by exact u.modGuard_job t _) s _
@[simp] theorem State.freeGuards_mems (s : State) (im : Image) : (s.freeGuards im).mems = s.mems :=
  State.forEach_keeps (·.mems) (fun t u => by exact u.modGuard_mems t _) s _

section images
variable {s : State} {c : Cmd}

theorem exec_loadImage : exec (.loadImage c) s = execLoadImage c s := rfl
theorem exec_unloadImage : exec (.unloadImage c) s = execUnloadImage c s := rfl

/-- No region of a list in which all are READY is in a state that `p` singles out, when READY is none of those. -/
theorem any_state_eq_false {rs : List Nat} {p : RState → Bool} (hr : ∀ r ∈ rs, (s.reg r).state = .ready) (hp : p .ready = false) :
    (rs.any fun r => p (s.reg r).state) = false :=
  List.any_eq_false.2 fun r h => by rw [hr r h, hp]; exact Bool.false_ne_true

/-- LOAD_IMAGE of an image that its checks accept, for READY regions, loads it and answers its handle and its first slot. -/
theorem exec_loadImage_of_passes {bs : List Byte} {first a n m : Nat} (ha : c.field s 16 8 = a) (hn : c.field s 24 4 = n) (hm : c.field s 28 2 = m)
    (h : Passes s { op := 0x0302, named := [(16, 29)], long := true, needsJob := true } c { reads := some (a, n) })
    (hlo : 64 ≤ n) (hhi : n ≤ 268435456) (hm0 : m ≠ 0) (hbs : readSpace s (c.port s) 1 a n = some bs) (hok : s.imageOk m bs = true)
    (hfirst : s.guardRun (fieldAt bs 16 2) = some first) (hr : ∀ r ∈ onesOf 16 m, (s.reg r).state = .ready) (hlen : s.job.images.length < 64) :
    let on := accepted s { op := 0x0302, named := [(16, 29)], long := true, needsJob := true } c { reads := some (a, n) }
    exec (.loadImage c) s =
      .next ((on.loadImage m first bs).done c .ok (result [(16, 4, on.job.nextHandle.toNat), (20, 2, first)])) := by
  have himg : (readSpace s (c.port s) 1 a n).filter (s.imageOk m) = some bs := by rw [hbs, Option.filter_some, if_pos hok]
  have hstate : ((onesOf 16 m).any fun r => (s.reg r).state != .ready && (s.reg r).state != .running) = false :=
    any_state_eq_false (p := fun st => st != .ready && st != .running) hr rfl
  have hbusy : ((onesOf 16 m).any fun r => (s.reg r).state = .running) = false :=
    any_state_eq_false (p := fun st => decide (st = .running)) hr rfl
  have hsize : ¬ (n < 64 ∨ 268435456 < n) := by omega
  simp only [exec_loadImage, execLoadImage, ha, hn, hm, himg, Option.bind_some, hfirst]
  rw [selkan_passes_of (v' := { reads := some (a, n) }) (by simp [hsize, hm0, hstate, hbusy, hlen]) h]

/-- UNLOAD_IMAGE of an image that no launch uses frees its slots and forgets it. -/
theorem exec_unloadImage_of_passes {im : Image} {h : BitVec 32} (hh : BitVec.ofNat 32 (c.field s 16 4) = h)
    (hp : Passes s { op := 0x0303, named := [(16, 19)], needsJob := true } c {}) (him : s.image h = some im) (hu : s.imageUsed h = false) :
    exec (.unloadImage c) s =
      .next ({ (accepted s { op := 0x0303, named := [(16, 19)], needsJob := true } c {}).freeGuards im with job := { s.job with
        images := s.job.images.filter fun i => !decide (i.handle = h) } }.done c .ok) := by
  have hv : ({ bad := if s.jobOpen && (s.image h).isNone then some 16 else none
               busy := if s.imageUsed h then some 0 else none } : Verdict) = {} := by simp [him, hu]
  have hon : (accepted s { op := 0x0303, named := [(16, 19)], needsJob := true } c {}).image h = some im := by
    rw [State.image, accepted_job]; exact him
  simp only [exec_unloadImage, execUnloadImage, hh, selkan_passes_of hv hp, hon, State.freeGuards_job, accepted_job]

end images

/-! ### Launches (R108, R337) -/

section launches
variable {s : State}

theorem exec_launch {c : Cmd} : exec (.launch c) s = execLaunch c s := rfl
theorem exec_launchStart : exec .launchStart s = execLaunchStart s := rfl
theorem exec_launchComplete {n : Nat} : exec (.launchComplete n) s = execLaunchComplete n s := rfl
theorem exec_deadlineExpiry {q : Queue} {seq : BitVec 32} : exec (.deadlineExpiry q seq) s = execDeadlineExpiry q seq s := rfl

/-- LAUNCH appends the launch that it asks for, and it waits. -/
theorem exec_launch_of_passes {c : Cmd}
    (h : Passes s { op := 0x0304, named := [(16, 22), (24, 47)], long := true, needsJob := true } c {}) (hb : s.launchBad c = none)
    (hf : s.job.fault = .none) (href : s.refOut = false) (hr : ∀ r ∈ onesOf 16 (c.field s 20 2), (s.reg r).state.refuses = false)
    (hl : (s.job.launches.filter fun l : Launch => !l.running).length < 64) :
    let on := accepted s { op := 0x0304, named := [(16, 22), (24, 47)], long := true, needsJob := true } c {}
    exec (.launch c) s = .next { on with job := { on.job with
      launches := on.job.launches ++ [on.newLaunch c], launchSeq := on.job.launchSeq + 1 } } := by
  have hrefuse : ((onesOf 16 (c.field s 20 2)).any fun r => (s.reg r).state.refuses) = false :=
    List.any_eq_false.2 fun r h => by rw [hr r h]; exact Bool.false_ne_true
  rw [exec_launch, execLaunch, selkan_passes_of (v' := {}) (by simp [hb, hf, href, hrefuse, hl]) h]

/-- Before its deadline, or with none, a launch has not lapsed (R337). -/
theorem lapsed_eq_false {l : Launch} (h : l.cmd.deadline = 0 ∨ before s.time.lea l.cmd.deadline = true) :
    (l.cmd.deadline != 0 && !before s.time.lea l.cmd.deadline) = false := by
  obtain h | h := h <;> simp [h]

theorem lapsed_eq_true {l : Launch} (h0 : l.cmd.deadline ≠ 0) (h : before s.time.lea l.cmd.deadline = false) :
    (l.cmd.deadline != 0 && !before s.time.lea l.cmd.deadline) = true := by
  rw [h, Bool.not_false, Bool.and_true]
  exact bne_iff_ne.2 h0

/-- The first launch that waits starts when every region of its mask is READY. -/
theorem exec_launchStart_of_ready {l : Launch} {im : Image} (hl : s.job.launches.find? (fun l => !l.running) = some l)
    (him : s.image l.image = some im) (hd : l.cmd.deadline = 0 ∨ before s.time.lea l.cmd.deadline = true) (hf : s.job.fault = .none)
    (hr : ∀ r ∈ onesOf 16 l.mask, (s.reg r).state = .ready) : exec .launchStart s = .next (s.beginLaunch l im) := by
  have hall : ((onesOf 16 l.mask).all fun r => (s.reg r).state = .ready) = true := List.all_eq_true.2 fun r h => decide_eq_true (hr r h)
  simp only [exec_launchStart, execLaunchStart, hl, lapsed_eq_false hd, him, hf, hall, Bool.false_eq_true, if_false,
    decide_true, Bool.and_self, if_true]

/-- One whose deadline has come completes with LATE. -/
theorem exec_launchStart_of_late {l : Launch} (hl : s.job.launches.find? (fun l => !l.running) = some l) (h0 : l.cmd.deadline ≠ 0)
    (hd : before s.time.lea l.cmd.deadline = false) : exec .launchStart s = .next ((s.dropLaunch l.seqNo).done l.cmd .late) := by
  simp only [exec_launchStart, execLaunchStart, hl, lapsed_eq_true h0 hd, if_true]

section deadline
variable {q : Queue} {seq : BitVec 32} {l : Launch}
  (hl : s.job.launches.find? (fun l : Launch => !l.running && decide (l.cmd.queue = q) && decide (l.cmd.seq = seq)) = some l)
include hl

theorem exec_deadlineExpiry_of_late (h0 : l.cmd.deadline ≠ 0) (hd : before s.time.lea l.cmd.deadline = false) :
    exec (.deadlineExpiry q seq) s = .next ((s.dropLaunch l.seqNo).done l.cmd .late) := by
  simp only [exec_deadlineExpiry, execDeadlineExpiry, hl, lapsed_eq_true h0 hd, if_true]

theorem exec_deadlineExpiry_of_early (hd : l.cmd.deadline = 0 ∨ before s.time.lea l.cmd.deadline = true) :
    exec (.deadlineExpiry q seq) s = .next s := by
  simp only [exec_deadlineExpiry, execDeadlineExpiry, hl, lapsed_eq_false hd, Bool.false_eq_true, if_false]

end deadline

/-- A launch that has ended everything, with no cause stamped, pushes the AMAX of its image's tensors, makes its regions READY and is
answered. -/
theorem exec_launchComplete_of_idle {n : Nat} {l : Launch} {im : Image}
    (hl : s.job.launches.find? (fun l : Launch => l.running && decide (l.seqNo.toNat = n)) = some l) (hc : s.job.causes = [])
    (hr : ∀ r ∈ onesOf 16 l.mask, s.regionIdle r = true) (him : s.image l.image = some im) :
    exec (.launchComplete n) s = .next (((((s.forEach ((List.range im.tensors).map (· + im.firstSlot)) fun t s => s.modGuard t Guard.push).dropLaunch
      l.seqNo).forEach (onesOf 16 l.mask) fun r s => s.setRegion r .ready).done l.cmd .ok (s.launchResult l))) := by
  have hidle : (s.job.causes.isEmpty && (onesOf 16 l.mask).all fun r => s.regionIdle r) = true := by
    rw [hc, List.all_eq_true.2 hr]; rfl
  simp only [exec_launchComplete, execLaunchComplete, hl, hidle, if_true, him]

end launches

/-! ### The history of a tracked tensor (R68) -/

theorem Guard.push_of_tracked {g : Guard} (h : g.amaxEn = true) : g.push = { g with hist := (g.amax :: g.hist).take (g.depth + 1), amax := 0 } :=
  if_pos h

theorem Guard.push_of_untracked {g : Guard} (h : g.amaxEn = false) : g.push = g := if_neg (ne_true_of_eq_false h)

/-- Settles O11: each command by the case it is in, and the history by what a push keeps of it. -/
theorem imagesAreLoadedAndLaunched : Obligations.ImagesAreLoadedAndLaunched := by
  unfold Obligations.ImagesAreLoadedAndLaunched
  refine ⟨⟨?load, ?unload, ?launch, ?start, ?lapse, ?expiry, ?complete⟩, ?history⟩
  case load => exact fun s c bs first => exec_loadImage_of_passes rfl rfl rfl
  case unload => exact fun s c im hp him hu => ⟨exec_unloadImage_of_passes rfl hp him hu, State.freeGuards_mems _ _⟩
  case launch => exact fun s c h hb hf href hr hl => ⟨exec_launch_of_passes h hb hf href hr hl, rfl, rfl⟩
  case start => exact fun s l im => exec_launchStart_of_ready
  case lapse => exact fun s l => exec_launchStart_of_late
  case expiry => exact fun s q seq l hl => ⟨exec_deadlineExpiry_of_late hl, exec_deadlineExpiry_of_early hl⟩
  case complete => exact fun s n l im => exec_launchComplete_of_idle
  case history =>
    refine fun g => ⟨fun h => ⟨Guard.push_of_tracked h, ?_, ?_⟩, Guard.push_of_untracked⟩
    · rw [Guard.push_of_tracked h]; rfl
    · rw [Guard.push_of_tracked h]; exact List.length_take_le ..

end Sys2Proof.Machine
end

section
/-! PROOFS. Beat schedules (R120-R123): when the current entry issues, what each action does when it does, and what going on to the
next entry leaves as it was. -/

namespace Sys2Proof.Machine

/-! ### When an entry is due (R120, R121) -/

/-- An entry is due from its offset after its anchor on, and has been due for the beats since. -/
theorem due_eq_some_iff {s : State} {b slip : Nat} {e : SchedEntry} :
    s.due b e = some slip ↔ ∃ a, s.anchorBeat b e = some a ∧ (s.reg (b / 16)).beats = a + e.offset + slip := by
  unfold State.due
  cases h : s.anchorBeat b e with
  | none => simp
  | some a =>
    simp only [Option.some.injEq, exists_eq_left', Option.ite_none_right_eq_some]
    omega

/-! ### When an entry issues (R120) -/

section issue
variable {s : State} {b k slip : Nat} {e : SchedEntry} {ready : SchedEntry → State → Bool} {act : SchedEntry → State → State}
  (he : (s.blk b).sched[(s.blk b).schedPos]? = some e)
include he

/-- An entry that is not due, or whose schedule or region does not run, does not issue. -/
theorem schedIssue_of_waits (h : s.due b e = none ∨ (s.blk b).schedRunning = false ∨ (s.reg (b / 16)).state ≠ .running) :
    s.schedIssue b k ready act = s := by
  obtain h | h | h := h <;> simp [State.schedIssue, he, h]

/-- An entry of another action does not issue. -/
theorem schedIssue_of_action_ne (h : e.action ≠ k) : s.schedIssue b k ready act = s := by
  simp [State.schedIssue, he, h]

/-- An entry whose target cannot accept it does not issue. -/
theorem schedIssue_of_not_ready (h : ready e s = false) : s.schedIssue b k ready act = s := by
  simp [State.schedIssue, he, h]

/-- A due entry of the action whose target can accept it issues, and the next entry is current. -/
theorem schedIssue_of_ready (hd : s.due b e = some slip) (hrun : (s.blk b).schedRunning = true) (hreg : (s.reg (b / 16)).state = .running)
    (hk : e.action = k) (h : ready e s = true) : s.schedIssue b k ready act = (act e s).schedAdvance b slip := by
  simp [State.schedIssue, he, hd, hrun, hreg, hk, h]

end issue

/-! ### Going on to the next entry (R121) -/

/-- `t` is `s` with the entry after the current one current in block `b`, where the beat is kept; regions, cells, memories and the
other blocks are those of `s`. -/
structure State.Advanced (s : State) (b : Nat) (t : State) : Prop where
  wf : Tab.wf t.block {} = true
  pos : (t.blk b).schedPos = (s.blk b).schedPos + 1
  prev : (t.blk b).schedPrev = (s.reg (b / 16)).beats
  region : t.region = s.region
  cell : t.cell = s.cell
  mems : t.mems = s.mems
  others : ∀ k, k ≠ b → t.blk k = s.blk k

/-- An anchor that comes for the entry now current changes none of this. -/
theorem State.Advanced.anchor {s t : State} {b : Nat} (h : s.Advanced b t) (a : Option Nat) :
    s.Advanced b (t.modBlk b fun x => { x with schedAnchor := a }) where
  wf := State.wf_modBlk _ h.wf
  pos := by rw [State.blk_modBlk _ h.wf]; exact h.pos
  prev := by rw [State.blk_modBlk _ h.wf]; exact h.prev
  region := h.region
  cell := h.cell
  mems := h.mems
  others k hk := by rw [State.blk_modBlk_other _ h.wf hk, h.others k hk]

theorem advanced_schedAdvance {s : State} {b : Nat} (hw : Tab.wf s.block {} = true) (slip : Nat) : s.Advanced b (s.schedAdvance b slip) := by
  have hb : Tab.wf (s.bump Ctr.schedSlip b slip).block {} = true := hw
  have hnext : s.Advanced b ((s.bump Ctr.schedSlip b slip).modBlk b fun x =>
      { x with schedPos := x.schedPos + 1, schedPrev := (s.reg (b / 16)).beats, schedAnchor := none }) :=
    { wf := State.wf_modBlk _ hb
      pos := by rw [State.blk_modBlk _ hb]; rfl
      prev := by rw [State.blk_modBlk _ hb]
      region := rfl
      cell := rfl
      mems := rfl
      others := fun k hk => State.blk_modBlk_other _ hb hk }
  unfold State.schedAdvance
  dsimp only
  split
  · exact State.when_holds hnext (fun h => h.anchor _) _
  · exact hnext

/-! ### The actions (R121) -/

/-- A change of a block is what it makes of the block it finds. -/
theorem modBlk_congr {s : State} {b : Nat} {f g : BlockSt → BlockSt} (h : f (s.blk b) = g (s.blk b)) : s.modBlk b f = s.modBlk b g :=
  congrArg (fun x => { s with block := s.block.set {} b x }) h

/-- The array has a place free while it does not hold both a tile in execution and one behind it (R77). -/
theorem placeFree_iff (x : CellSt) : x.placeFree = true ↔ x.exec = none ∨ x.queued = none := by
  simp [CellSt.placeFree]

/-- VC0 of a station is full with 32 messages in it (R131). -/
theorem vc0Full_iff (s : State) (b : Nat) : s.vc0Full b = true ↔ 32 ≤ (s.reg (b / 16)).vc0Depth (b % 16) := decide_eq_true_iff

section actions
variable (s : State) (b : Block)

theorem exec_schedEnd : exec (.schedEnd b) s = execSchedEnd b s := rfl
theorem exec_schedIssueTile : exec (.schedIssueTile b) s = execSchedIssueTile b s := rfl
theorem exec_schedPostDesc : exec (.schedPostDesc b) s = execSchedPostDesc b s := rfl
theorem exec_schedSignal : exec (.schedSignal b) s = execSchedSignal b s := rfl
theorem exec_schedArrive : exec (.schedArrive b) s = execSchedArrive b s := rfl
theorem exec_schedStartThread : exec (.schedStartThread b) s = execSchedStartThread b s := rfl
theorem exec_phaseReady : exec (.phaseReady b) s = execPhaseReady b s := rfl

variable {s b} {e : SchedEntry} {slip : Nat} (he : (s.blk b).sched[(s.blk b).schedPos]? = some e)
include he

/-- While its entry is not due, or its schedule or region does not run, no command of a schedule does anything. -/
theorem exec_sched_of_waits (h : s.due b e = none ∨ (s.blk b).schedRunning = false ∨ (s.reg (b / 16)).state ≠ .running) :
    exec (.schedEnd b) s = .next s ∧ exec (.schedIssueTile b) s = .next s ∧ exec (.schedPostDesc b) s = .next s ∧ exec (.schedSignal b) s = .next s ∧
      exec (.schedArrive b) s = .next s ∧ exec (.schedStartThread b) s = .next s ∧ exec (.phaseReady b) s = .next s := by
  have hwait : ∀ k ready act, s.schedIssue b k ready act = s := fun _ _ _ => schedIssue_of_waits he h
  refine ⟨?_, ?_, ?_, ?_, ?_, ?_, ?_⟩ <;> exact congrArg _ (hwait _ _ _)

variable (hd : s.due b e = some slip) (hrun : (s.blk b).schedRunning = true) (hreg : (s.reg (b / 16)).state = .running)
include hd hrun hreg

theorem exec_schedEnd_of_due (hk : e.action = 0) :
    exec (.schedEnd b) s = .next ((s.modBlk b fun x => { x with schedRunning := false }).schedAdvance b slip) := by
  rw [exec_schedEnd, execSchedEnd, schedIssue_of_ready he hd hrun hreg hk rfl]

/-- ISSUE_TILE with a place free: a poisoned entry stamps the cause of its store, a good one is queued, any other is ILLEGAL_OP. -/
theorem exec_schedIssueTile_of_due (hk : e.action = 1) (hp : (s.cel (schedCell b e)).placeFree = true) :
    exec (.schedIssueTile b) s = .next ((
      if ownStore e.operand 40 && s.mems.sramBad (cellSram (schedCell b e) e.operand) 40 then s.sramCause (cellSram (schedCell b e) e.operand)
      else if ownStore e.operand 40 && (s.arrayProg (schedCell b e) e.operand).valid then s.queueTile (schedCell b e) e.operand
      else s.stamp 0x0105 (schedCell b e) (regionOfCell (schedCell b e)) fun x => { x with cell := schedCell b e }).schedAdvance b slip) := by
  rw [exec_schedIssueTile, execSchedIssueTile, schedIssue_of_ready he hd hrun hreg hk hp]

/-- POST_DESC with room in the queue. -/
theorem exec_schedPostDesc_of_due (hk : e.action = 2) (hp : (s.cel (schedCell b e)).queue.length < 16) :
    exec (.schedPostDesc b) s = .next ((match s.descAddr b e.operand with
      | some a => if s.mems.sramBad a 64 then s.sramCause a else s.postDesc (schedCell b e) (Desc.read (s.mems.sram.read a 64))
      | none => s.badDesc (schedCell b e) (Desc.read [])).schedAdvance b slip) :=
  congrArg Host.Outcome.next (schedIssue_of_ready he hd hrun hreg hk (decide_eq_true hp))

theorem exec_schedSignal_of_due (hk : e.action = 3) (hv : s.vc0Full b = false) :
    exec (.schedSignal b) s = .next (((s.signal (regionOfBlock b) e.operand 1 b).tellSignal b e.operand 1).schedAdvance b slip) := by
  rw [exec_schedSignal, execSchedSignal, schedIssue_of_ready he hd hrun hreg hk (by rw [hv]; rfl)]

theorem exec_schedArrive_of_due (hk : e.action = 4) :
    exec (.schedArrive b) s = .next (((s.tellArrive b e.operand).arrive (regionOfBlock b) e.operand none).schedAdvance b slip) := by
  rw [exec_schedArrive, execSchedArrive, schedIssue_of_ready he hd hrun hreg hk rfl]

theorem exec_schedStartThread_of_due {im : Image} {p : EntryPoint} (hk : e.action = 5) (hf : (s.thr (schedCell b e) (schedThread e)).state = .free)
    (him : ((s.launchOf (regionOfBlock b)).bind fun l => s.image l.image) = some im) (hp : im.entries[e.operand]? = some p) :
    exec (.schedStartThread b) s = .next ((s.modThr (schedCell b e) (schedThread e) fun x =>
      { x with state := .ready, ip := p.addr, waiting := .none, issued := 0 }).schedAdvance b slip) := by
  rw [exec_schedStartThread, execSchedStartThread, schedIssue_of_ready he hd hrun hreg hk (decide_eq_true hf)]
  simp only [him, hp]

theorem exec_phaseReady_of_due (hk : e.action = 6) (hp : (s.blk b).phases.contains e.operand = false) :
    exec (.phaseReady b) s = .next ((s.modBlk b fun x => { x with phases := x.phases ++ [e.operand] }).schedAdvance b slip) := by
  have hnew : (s.modBlk b fun x => { x with phases := if x.phases.contains e.operand then x.phases else x.phases ++ [e.operand] }) =
      s.modBlk b fun x => { x with phases := x.phases ++ [e.operand] } :=
    modBlk_congr (by rw [hp, if_neg Bool.false_ne_true])
  rw [exec_phaseReady, execPhaseReady, schedIssue_of_ready he hd hrun hreg hk rfl, hnew]

end actions

/-- Settles O46: each command by whether its entry is current, due and accepted. -/
theorem scheduleEntriesIssueWhenDue : Obligations.ScheduleEntriesIssueWhenDue := by
  unfold Obligations.ScheduleEntriesIssueWhenDue
  intro s b e he c waits
  refine ⟨exec_sched_of_waits he, fun h => ?_, fun slip hd hrun hreg => ?issues, fun slip => due_eq_some_iff, ?advance⟩
  · rw [exec_schedEnd, execSchedEnd, schedIssue_of_action_ne he h]
  case advance =>
    intro slip hw
    obtain ⟨-, hpos, hprev, hregion, hcell, hmems, hothers⟩ := advanced_schedAdvance (b := b) hw slip
    exact ⟨hpos, hprev, hregion, hcell, hmems, hothers⟩
  case issues =>
    have htile := exec_schedIssueTile_of_due he hd hrun hreg
    have hdesc := exec_schedPostDesc_of_due he hd hrun hreg
    refine ⟨exec_schedEnd_of_due he hd hrun hreg, ?queues, ?illegal, ?poisoned, ?taken, placeFree_iff _, ?posts, ?poisonedDesc, ?nowhere, ?full,
      exec_schedSignal_of_due he hd hrun hreg, ?signalWaits, vc0Full_iff s b, exec_schedArrive_of_due he hd hrun hreg,
      fun im p => exec_schedStartThread_of_due he hd hrun hreg, ?threadWaits, exec_phaseReady_of_due he hd hrun hreg⟩
    case queues =>
      intro hk hp hown hgood hvalid
      simp only [htile hk hp, hown, hgood, hvalid, Bool.and_false, Bool.and_self, Bool.false_eq_true, if_false, if_true, c]
    case illegal =>
      intro hk hp h
      obtain hown | ⟨hgood, hvalid⟩ := h
      · simp only [htile hk hp, hown, Bool.false_and, Bool.false_eq_true, if_false, c]
      · simp only [htile hk hp, hgood, hvalid, Bool.and_false, Bool.false_eq_true, if_false, c]
    case poisoned =>
      intro hk hp hown hbad
      simp only [htile hk hp, hown, hbad, Bool.and_self, if_true, c]
    case taken =>
      intro _ hp
      rw [exec_schedIssueTile, execSchedIssueTile, schedIssue_of_not_ready he hp]
    case posts =>
      intro a hk hp ha hgood
      simp only [hdesc hk hp, ha, hgood, Bool.false_eq_true, if_false, c]
    case poisonedDesc =>
      intro a hk hp ha hbad
      simp only [hdesc hk hp, ha, hbad, if_true]
    case nowhere =>
      intro hk hp ha
      simp only [hdesc hk hp, ha, c]
    case full =>
      intro _ hp
      rw [exec_schedPostDesc, execSchedPostDesc, schedIssue_of_not_ready he (decide_eq_false (Nat.not_lt.2 hp))]
    case signalWaits =>
      intro _ hv
      rw [exec_schedSignal, execSchedSignal, schedIssue_of_not_ready he (by rw [hv]; rfl)]
    case threadWaits =>
      intro _ hf
      rw [exec_schedStartThread, execSchedStartThread, schedIssue_of_not_ready he (decide_eq_false hf)]

end Sys2Proof.Machine
end

section
/-! PROOFS. Tokens and barriers (R84, R119): the statement about them is refuted by a barrier whose waiter waits for a token. -/

namespace Sys2Proof.Machine

/-- A launch that runs in region C00, with a barrier timeout of 1 ms. -/
def barrierLaunch : Launch where
  cmd := { queue := 0, stamp := 0 }
  seqNo := 1
  image := 1
  mask := 1
  replay := false
  seed := 0
  barrierUs := 1000
  argBytes := 0
  argAddr := 0
  running := true

/-- Barrier 0 of region C00 has had one of two arrivals, 1 ms ago, and lists thread 0 of cell 0 as its waiter; that thread has waited
for token 0 as long. -/
def barrierListsTokenWaiter : State := { State.reset with
  time := { lea := 1000000 }
  job := { open_ := some 1, prev := 1, launches := [barrierLaunch] }
  region := [(0, { state := .running, barriers := [(0, { participants := 2, arrived := 1, waiters := [(0, 0)] })] })]
  cell := [(0, { threads := [(0, { state := .waitSync, waiting := .token 0 1 true })] })] }

/-- BARRIER_TIMEOUT stamps a cause for the barrier and one for the thread, which it found waiting for the token before the barrier's
waiters were FAULTED. -/
theorem exec_barrierTimeout_of_tokenWaiter :
    ∃ u, exec (.barrierTimeout 0 0) barrierListsTokenWaiter = .next u ∧ u.job.causes.length = 2 :=
  ⟨_, rfl, by decide +kernel⟩

/-- Refutes O42: its clause on BARRIER_TIMEOUT looks for the late waiters of tokens among the threads that are left when the barrier's
waiters have been FAULTED. The model looks for them in the state it starts from, so a thread that is both is stamped there and not in the
clause, whose next state has the barrier's cause alone. Nothing in the statement ties a barrier's waiters to what their threads wait for. -/
theorem not_tokensAndBarriersSynchronise : ¬ Obligations.TokensAndBarriersSynchronise := by
  unfold Obligations.TokensAndBarriersSynchronise
  rintro ⟨-, -, -, -, htimeout⟩
  obtain ⟨hreleased, -, -⟩ := htimeout barrierListsTokenWaiter 0 0 barrierLaunch rfl
  have hstated := hreleased (by decide) (by decide)
  obtain ⟨u, hu, hcauses⟩ := exec_barrierTimeout_of_tokenWaiter
  rw [hu, Host.Outcome.next.injEq] at hstated
  rw [hstated] at hcauses
  exact absurd hcauses (by decide +kernel)

end Sys2Proof.Machine
end

section
/-! PROOFS. The core rings (R126-R142): which way and to which tap a flit goes, what a beat makes of the slots, who takes a slot, what
arrives out of one, and how a reduction passes from member to member, with the statement that they settle. -/

namespace Sys2Proof

/-- A table rewritten entry by entry under new keys reads under each new key what it read under the old one, when no two keys meet. -/
theorem Tab.get_foldl_set_map {α : Type} [DecidableEq α] {d : α} {φ : Nat → Nat} (hφ : Function.Injective φ) (k : Nat) (xs : Tab α) :
    ∀ (lo : Option Nat) (acc : Tab α), Tab.wfFrom d lo xs = true → acc.wf d = true →
      (xs.foldl (fun t e => t.set d (φ e.1) e.2) acc).get d (φ k) = if xs.get d k = d then acc.get d (φ k) else xs.get d k := by
  induction xs with
  | nil => intro _ _ _ _; simp
  | cons e xs ih =>
    obtain ⟨n, v⟩ := e
    intro lo acc hxs hacc
    simp only [Tab.wfFrom, Bool.and_eq_true, decide_eq_true_eq] at hxs
    obtain ⟨⟨-, hv⟩, hxs⟩ := hxs
    rw [List.foldl_cons, ih (some n) _ hxs (Tab.wf_set _ _ hacc), Tab.get_cons]
    obtain hkn | hkn | hkn := Nat.lt_trichotomy k n
    · have htail : Tab.get xs d k = d := Tab.get_of_le_bound hxs (Nat.le_of_lt hkn)
      have hne : φ k ≠ φ n := fun h => Nat.ne_of_lt hkn (hφ h)
      simp [htail, Nat.ne_of_lt hkn, hkn, Tab.get_set_other hne v hacc]
    · subst hkn
      have htail : Tab.get xs d k = d := Tab.get_of_le_bound hxs (Nat.le_refl k)
      simp [htail, hv, Tab.get_set_same _ v hacc]
    · have hne : φ k ≠ φ n := fun h => Nat.ne_of_gt hkn (hφ h)
      simp [Nat.ne_of_gt hkn, Nat.not_lt_of_gt hkn, Tab.get_set_other hne v hacc]

/-- Setting a bit that is clear sets it and no other. -/
theorem bit_add_two_pow {n b : Nat} (h : bit n b = false) (j : Nat) : bit (n + 2 ^ b) j = (bit n j || decide (j = b)) := by
  have heven : n / 2 ^ b % 2 = 0 := by
    have hne : n / 2 ^ b % 2 ≠ 1 := of_decide_eq_false h
    omega
  obtain hj | rfl | hj := Nat.lt_trichotomy j b
  · obtain ⟨k, rfl⟩ := Nat.exists_eq_add_of_lt hj
    have hsplit : 2 ^ (j + k + 1) = 2 ^ j * (2 * 2 ^ k) := by rw [Nat.add_assoc, Nat.pow_add, Nat.pow_succ' (n := k)]
    have hquot : (n + 2 ^ (j + k + 1)) / 2 ^ j = n / 2 ^ j + 2 * 2 ^ k := by
      rw [hsplit, Nat.add_mul_div_left _ _ (Nat.two_pow_pos j)]
    simp [bit, hquot, Nat.add_mul_mod_self_left, Nat.ne_of_lt hj]
  · have hodd : (n + 2 ^ j) / 2 ^ j % 2 = 1 := by
      rw [Nat.add_div_right _ (Nat.two_pow_pos j)]
      omega
    rw [decide_eq_true rfl, Bool.or_true]
    exact decide_eq_true hodd
  · obtain ⟨k, rfl⟩ := Nat.exists_eq_add_of_lt hj
    have hquot (m : Nat) : m / 2 ^ (b + k + 1) = m / 2 ^ b / 2 / 2 ^ k := by
      rw [Nat.div_div_eq_div_mul, Nat.div_div_eq_div_mul, ← Nat.pow_succ', ← Nat.pow_add, Nat.add_assoc]
    have hhalf : (n / 2 ^ b + 1) / 2 = n / 2 ^ b / 2 := by omega
    simp [bit, hquot, Nat.add_div_right _ (Nat.two_pow_pos b), hhalf, Nat.ne_of_gt hj]

end Sys2Proof

namespace Sys2Proof.Machine

/-! ### Ways and taps (R126, R127) -/

theorem goesCw_iff {a b : Nat} : goesCw a b = true ↔ hopsCw a b ≤ 8 := decide_eq_true_iff
theorem not_goesCw_iff {a b : Nat} : goesCw a b = false ↔ 8 < hopsCw a b := by rw [goesCw, decide_eq_false_iff_not, Nat.not_le]

theorem ringHops_of_cw {a b : Nat} (h : goesCw a b = true) : ringHops a b = hopsCw a b := if_pos h
theorem ringHops_of_ccw {a b : Nat} (h : goesCw a b = false) : ringHops a b = 16 - hopsCw a b := if_neg (ne_true_of_eq_false h)

theorem hopsCw_lt (a b : Nat) : hopsCw a b < 16 := Nat.mod_lt _ (by decide)

/-- The way taken is the shorter of the two. -/
theorem ringHops_eq_min (a b : Nat) : ringHops a b = min (hopsCw a b) (16 - hopsCw a b) := by
  cases h : goesCw a b with
  | true =>
    have hcw := goesCw_iff.1 h
    rw [ringHops_of_cw h]
    omega
  | false =>
    have hccw := not_goesCw_iff.1 h
    rw [ringHops_of_ccw h]
    omega

theorem ringHops_le (a b : Nat) : ringHops a b ≤ 8 := by
  rw [ringHops_eq_min]
  omega

theorem add_ringHops_of_cw {a b : Nat} (ha : a < 16) (hb : b < 16) (h : goesCw a b = true) : (a + ringHops a b) % 16 = b := by
  rw [ringHops_of_cw h, hopsCw]
  omega

/-- Counter-clockwise the way is shorter than half the ring: 8 hops go clockwise. -/
theorem add_ringHops_of_ccw {a b : Nat} (ha : a < 16) (h : goesCw a b = false) : (b + ringHops a b) % 16 = a ∧ ringHops a b < 8 := by
  have hccw := not_goesCw_iff.1 h
  rw [ringHops_of_ccw h]
  rw [hopsCw] at hccw ⊢
  omega

theorem ringHops_outTap (port b : Nat) : ringHops b (outTap port b) = min (ringHops b (tapsOf port).1) (ringHops b (tapsOf port).2) := by
  simp only [outTap]
  split <;> omega

theorem ringHops_inTap (port b : Nat) : ringHops (inTap port b) b = min (ringHops (tapsOf port).1 b) (ringHops (tapsOf port).2 b) := by
  simp only [inTap]
  split <;> omega

theorem ringHops_pos {a b : Nat} (ha : a < 16) (hb : b < 16) (h : a ≠ b) : 1 ≤ ringHops a b := by
  rw [ringHops_eq_min, hopsCw]
  omega

/-- A station passed on the way to another, `k + 1` stations on. -/
def passedStation (a b k : Nat) : Nat := if goesCw a b then (a + 1 + k) % 16 else (a + 15 - k) % 16

/-- It is as far off as the stations passed to it. -/
theorem ringHops_passedStation {a b k : Nat} (ha : a < 16) (hk : k < ringHops a b - 1) : ringHops a (passedStation a b k) = k + 1 := by
  have hle := ringHops_le a b
  rw [ringHops_eq_min, hopsCw, passedStation]
  split <;> omega

/-! ### A beat (R125) -/

/-- Number of the slot that stands one station on from slot `k`. -/
def slotAfterBeat (k : Nat) : Nat := 16 * (k / 16) + nextStation (k / 16) (k % 16)

theorem nextStation_lt (lane st : Nat) : nextStation lane st < 16 := by
  unfold nextStation
  split <;> omega

theorem slotAfterBeat_eq {lane st : Nat} (h : st < 16) : slotAfterBeat (16 * lane + st) = 16 * lane + nextStation lane st := by
  have hlane : (16 * lane + st) / 16 = lane := by omega
  have hst : (16 * lane + st) % 16 = st := by omega
  rw [slotAfterBeat, hlane, hst]

theorem slotAfterBeat_injective : Function.Injective slotAfterBeat := by
  intro j k h
  have hj := nextStation_lt (j / 16) (j % 16)
  have hk := nextStation_lt (k / 16) (k % 16)
  simp only [slotAfterBeat] at h
  have hlane : j / 16 = k / 16 := by omega
  rw [hlane] at h hj
  simp only [nextStation] at h
  split at h <;> omega

theorem RegionSt.slotAt_advance {x : RegionSt} {lane st : Nat} (hw : Tab.wf x.slots {} = true) (hst : st < 16) :
    x.advance.slotAt lane (nextStation lane st) = x.slotAt lane st := by
  have hget := Tab.get_foldl_set_map slotAfterBeat_injective (16 * lane + st) x.slots none [] hw (Tab.wf_nil _)
  rw [slotAfterBeat_eq hst, Tab.get_nil] at hget
  refine Eq.trans hget ?_
  split
  next h => exact h.symm
  next => rfl

/-! ### Who takes a slot (R132-R134) -/

/-- A head passed over four times is taken before the first of the others. -/
theorem RegionSt.of_choose_eq_some {x : RegionSt} {st lane : Nat} {hs : List Head} {h : Head} (hc : x.choose st lane hs = some h) :
    h ∈ hs ∧ (4 ≤ x.passed.get 0 (queueNo st lane h.vc) ∨ (hs.head? = some h ∧ ∀ o ∈ hs, x.passed.get 0 (queueNo st lane o.vc) < 4)) := by
  unfold RegionSt.choose at hc
  split at hc
  next g hg =>
    cases hc
    have hpassed := List.find?_some hg
    exact ⟨List.mem_of_find?_eq_some hg, .inl (of_decide_eq_true hpassed)⟩
  next hg =>
    have hall : ∀ o ∈ hs, x.passed.get 0 (queueNo st lane o.vc) < 4 := by simpa using hg
    exact ⟨List.mem_of_mem_head? hc, .inr ⟨hc, hall⟩⟩

/-- Where no head holds a credit, nothing rides: at most the count of beats waited changes. -/
theorem State.fillLane_of_noCredit {s : State} {r st lane : Nat} (h : ∀ o ∈ s.heads r st lane, (s.reg r).holdsCredit o.flit = false) :
    s.fillLane r st lane = s.when (decide ((s.reg r).waits.get 0 (8 * st + lane) ≠ 0)) fun s =>
      s.modReg r fun x => { x with waits := x.waits.set 0 (8 * st + lane) 0 } := by
  have hnone : ((s.heads r st lane).filter fun o => (s.reg r).holdsCredit o.flit) = [] := by simpa using h
  simp only [State.fillLane, hnone]
  rfl

theorem State.fillLane_keeps_of_noCredit {s : State} {r st lane : Nat} (hw : Tab.wf s.region {} = true)
    (h : ∀ o ∈ s.heads r st lane, (s.reg r).holdsCredit o.flit = false) :
    ((s.fillLane r st lane).reg r).slots = (s.reg r).slots ∧ ((s.fillLane r st lane).reg r).credits = (s.reg r).credits := by
  rw [State.fillLane_of_noCredit h]
  exact ⟨State.when_keeps (fun u => (u.reg r).slots) (by rw [State.reg_modReg _ hw]) _,
    State.when_keeps (fun u => (u.reg r).credits) (by rw [State.reg_modReg _ hw]) _⟩

/-! ### Parity (R128, R129) -/

/-- Do the fields of a register stand one above the other, from bit `lo` up and below bit `n`? -/
def Stacked (n : Nat) : Nat → List (Nat × Nat × Nat) → Prop
  | lo, [] => lo ≤ n
  | lo, (at_, w, _) :: fs => lo ≤ at_ ∧ Stacked n (at_ + w) fs

/-- Such fields pack into the bits between. -/
theorem packNat_add_two_pow_le {n : Nat} (fs : List (Nat × Nat × Nat)) : ∀ lo, Stacked n lo fs → packNat fs + 2 ^ lo ≤ 2 ^ n := by
  induction fs with
  | nil =>
    intro lo h
    rw [packNat, Nat.zero_add]
    exact Nat.pow_le_pow_right (by decide) h
  | cons f fs ih =>
    obtain ⟨at_, w, v⟩ := f
    rintro lo ⟨hlo, hfs⟩
    have hrest := ih _ hfs
    have hlow : 2 ^ lo ≤ 2 ^ at_ := Nat.pow_le_pow_right (by decide) hlo
    have hfield : 2 ^ at_ * (v % 2 ^ w) + 2 ^ at_ ≤ 2 ^ (at_ + w) := by
      rw [Nat.pow_add, ← Nat.mul_succ]
      exact Nat.mul_le_mul_left _ (Nat.mod_lt _ (Nat.two_pow_pos w))
    rw [packNat]
    omega

/-- The fields of HEADER stand below its parity bits: the flit's in [111:0], the credit's in [118:112], the mark's in [123:119] (R129). -/
theorem RingSlot.fields_lt (x : RingSlot) : x.fields < 2 ^ 124 := by
  have hparts : ∀ body back mark : Nat, body + 2 ^ 0 ≤ 2 ^ 112 → back + 2 ^ 112 ≤ 2 ^ 119 → mark + 2 ^ 119 ≤ 2 ^ 124 →
      body + back + mark < 2 ^ 124 := by omega
  unfold RingSlot.fields
  refine hparts _ _ _ ?_ ?_ ?_
  · split
    · exact packNat_add_two_pow_le _ 0 (by simp [Stacked])
    · decide
  · split
    · exact packNat_add_two_pow_le _ 112 (by simp [Stacked])
    · decide
  · split
    · exact packNat_add_two_pow_le _ 119 (by simp [Stacked])
    · decide

theorem onesIn_of_lt_two {n : Nat} (h : n < 2) : onesIn n = n := by
  obtain rfl | rfl : n = 0 ∨ n = 1 := by omega
  · rfl
  · rfl

/-- The lowest parity bit is over the lowest group. -/
theorem parities_mod_two (w k n : Nat) : parities w (k + 1) n % 2 = onesIn (n % 2 ^ w) % 2 := by
  rw [parities, List.range_succ_eq_map, List.map_cons, bitsOf, Nat.add_mul_mod_self_left, Nat.mul_zero, Nat.pow_zero, Nat.div_one]
  split
  next h => exact (of_decide_eq_true h).symm
  next h =>
    have hone : onesIn (n % 2 ^ w) % 2 ≠ 1 := fun h1 => h (decide_eq_true h1)
    omega

/-- Bit 124 of HEADER is the even parity of its lowest 32 bits. -/
theorem RingSlot.header_parity (x : RingSlot) : onesIn (x.header % 2 ^ 32) % 2 = onesIn (x.header / 2 ^ 124 % 2) % 2 := by
  have hlt := x.fields_lt
  have hlow : x.header % 2 ^ 32 = x.fields % 2 ^ 32 := by
    rw [RingSlot.header]
    omega
  have hbit : x.header / 2 ^ 124 % 2 = parities 32 4 x.fields % 2 := by
    rw [RingSlot.header]
    omega
  rw [hlow, hbit, onesIn_of_lt_two (Nat.mod_lt _ (by decide)), Nat.mod_mod, parities_mod_two]

/-! ### Errors found at a station (R141, R142) -/

theorem ringError_none (s : State) (r st ring : Nat) (cw : Bool) : s.ringError r st ring cw .none = s := rfl

theorem ringError_mems (s : State) (r st ring : Nat) (cw : Bool) (e : RingErr) : (s.ringError r st ring cw e).mems = s.mems := by
  cases e <;> simp [State.ringError]

/-- A header error stamps its cause at the station that found it, while a job is open whose end has not come (R25, R141). -/
theorem ringError_hdr_cause {s : State} (r st ring : Nat) (cw : Bool) (ho : s.jobOpen = true) (hf : s.job.fault ≠ .done) :
    { code := 0x0302, index := 16 * r + st, station := r, stamp := s.time.lea } ∈ (s.ringError r st ring cw .hdr).job.causes := by
  simp only [State.ringError, State.stamp_job, State.fire_job, State.modReg_job, State.bump_job, Job.stamp_causes _ _ _ ho hf]
  exact List.mem_append_right _ (List.mem_singleton_self _)

/-! ### Arrival (R126, R129, R132) -/

theorem carries_iff {x : RegionSt} {st : Nat} {f : Flit} : x.carries st f = true ↔ (x.slotAt (flitLane f) st).flit = some f := decide_eq_true_iff

theorem carries_eq_false {x : RegionSt} {st : Nat} {f : Flit} (h : (x.slotAt (flitLane f) st).flit ≠ some f) : x.carries st f = false :=
  decide_eq_false h

/-- Flit `f` taken out of its slot at station `st`, and what its error check found noted. -/
def State.takeFlit (s : State) (r st : Nat) (f : Flit) (err : RingErr) : State :=
  (s.modRingSlot r (flitLane f) st fun x => { x with flit := none }).ringError r st f.ring f.cw err

section eject
variable {s : State} {r : Nat} {f : Flit} {bad : Bool}

theorem ejectFlit_of_gateway (h : f.dstPort = 1 ∨ f.dstPort = 2) : s.ejectFlit r f bad = s.gateTakes r f.dst f := if_pos h

/-- At a block's station a flit from a gateway has acted already, and none acts in a region that does not answer. -/
theorem ejectFlit_of_noAct (hp : f.dstPort = 0) (h : f.srcPort ≠ 0 ∨ s.answers 0 (r * 268435456) = false) :
    s.ejectFlit r f bad = s.giveBack r f.dst f := by
  rcases h with h | h <;> simp [State.ejectFlit, hp, h]

theorem ejectFlit_of_block (hp : f.dstPort = 0) (hs : f.srcPort = 0) (ha : s.answers 0 (r * 268435456) = true) :
    s.ejectFlit r f bad = (s.giveBack r f.dst f).ringServe r f bad := by
  simp [State.ejectFlit, hp, hs, ha]

/-- A READ_REQ is answered with the bytes it asks for. -/
theorem ringServe_of_read (ht : f.type_ = 0) (hb : s.mems.sramBad (flitAddr r f) f.bytes = false) : s.ringServe r f bad =
    s.queueFlit r 1 { flitOf f.dst.val f.src.val 0 0 f.vc.val 1 f.tag.toNat with
      last := f.last, gen := f.gen, addr := f.addr, bytes := f.bytes, data := s.mems.sram.read (flitAddr r f) f.bytes } := by
  simp only [State.ringServe, ht, hb]
  rfl

/-- A WRITE before the last stores its bytes. -/
theorem ringServe_of_write (ht : f.type_ = 2) (hl : f.last = false) :
    s.ringServe r f bad = s.putSram (flitAddr r f) f.data bad (.slot f.tag.toNat) := by
  simp [State.ringServe, ht, hl]

/-- The last stores its bytes and is acknowledged. -/
theorem ringServe_of_lastWrite (ht : f.type_ = 2) (hl : f.last = true) : s.ringServe r f bad =
    ((s.putSram (flitAddr r f) f.data bad (.slot f.tag.toNat)).modSlot f.tag.toNat fun x => { x with landed := true }).ringAck f.tag.toNat
      (16 * r + f.dst.val) := by
  simp [State.ringServe, ht, hl]

end eject

section arrival
variable {s : State} {r : Region} {f : Flit} {err : RingErr}

theorem exec_ringFlitArrival : exec (.ringFlitArrival r f err) s = execRingFlitArrival r f err s := rfl

theorem exec_ringFlitArrival_of_absent (h : ((s.reg r).slotAt (flitLane f) f.dst).flit ≠ some f) :
    exec (.ringFlitArrival r f err) s = .next s := by
  rw [exec_ringFlitArrival, execRingFlitArrival, carries_eq_false h]
  rfl

variable (h : ((s.reg r).slotAt (flitLane f) f.dst).flit = some f) (ht : f.type_ ≠ 6)
include h ht

theorem exec_ringFlitArrival_of_hdr : exec (.ringFlitArrival r f .hdr) s = .next (s.takeFlit r f.dst f .hdr) := by
  rw [exec_ringFlitArrival, execRingFlitArrival, carries_iff.2 h, decide_eq_true ht]
  rfl

theorem exec_ringFlitArrival_of_sound (he : err ≠ .hdr) :
    exec (.ringFlitArrival r f err) s = .next ((s.takeFlit r f.dst f err).ejectFlit r f (f.poison || decide (err = .ue))) := by
  rw [exec_ringFlitArrival, execRingFlitArrival, carries_iff.2 h, decide_eq_true ht]
  exact congrArg _ (if_neg he)

end arrival

/-! ### Credits and reservations (R132, R133) -/

section slots
variable {s : State} {r lane st : Nat} (f : RingSlot → RingSlot) (hw : Tab.wf s.region {} = true)
include hw

theorem wf_modRingSlot : Tab.wf (s.modRingSlot r lane st f).region {} = true := State.wf_modReg _ hw

theorem reg_modRingSlot : (s.modRingSlot r lane st f).reg r = { s.reg r with slots := (s.reg r).slots.mod {} (16 * lane + st) f } :=
  State.reg_modReg _ hw

theorem reg_modRingSlot_other {q : Nat} (hq : q ≠ r) : (s.modRingSlot r lane st f).reg q = s.reg q := State.reg_modReg_other _ hw hq

end slots

section credits
variable {s : State} (k : CreditKey)

/-- Lane in which a credit of the pool comes back: the one that runs the other way. -/
def returnLane : Nat := backLane (laneNo k.ring.val k.cw)

/-- Credit `k` taken out of its slot at its sender, which holds one more of the pool. -/
def State.creditBackAt (s : State) (r : Nat) (k : CreditKey) : State :=
  (s.modRingSlot r (returnLane k) k.sender fun x => { x with credit := none }).modReg r fun x =>
    { x with credits := x.credits.mod 0 (creditIx k) (· - 1) }

theorem exec_ringCreditReturn (r : Region) : exec (.ringCreditReturn r k) s =
    .next (s.when (decide (((s.reg r).slotAt (returnLane k) k.sender).credit = some (k.sender.val, k.vc.val, k.receiver.val)))
      (·.creditBackAt r k)) := rfl

theorem exec_ringCreditReturn_of_absent {r : Region}
    (h : ((s.reg r).slotAt (returnLane k) k.sender).credit ≠ some (k.sender.val, k.vc.val, k.receiver.val)) :
    exec (.ringCreditReturn r k) s = .next s := by
  rw [exec_ringCreditReturn, decide_eq_false h]
  rfl

theorem exec_ringCreditReturn_of_present {r : Region}
    (h : ((s.reg r).slotAt (returnLane k) k.sender).credit = some (k.sender.val, k.vc.val, k.receiver.val)) :
    exec (.ringCreditReturn r k) s = .next (s.creditBackAt r k) := by
  rw [exec_ringCreditReturn, decide_eq_true h]
  rfl

theorem reg_creditBackAt {r : Nat} (hw : Tab.wf s.region {} = true) : (s.creditBackAt r k).reg r = { s.reg r with
    slots := (s.reg r).slots.mod {} (16 * returnLane k + k.sender) fun x => { x with credit := none }
    credits := (s.reg r).credits.mod 0 (creditIx k) (· - 1) } := by
  rw [State.creditBackAt, State.reg_modReg _ (wf_modRingSlot _ hw), reg_modRingSlot _ hw]

/-- The slot has lost the credit. -/
theorem credit_creditBackAt {r : Nat} (hw : Tab.wf s.region {} = true) (hslots : Tab.wf (s.reg r).slots {} = true) :
    (((s.creditBackAt r k).reg r).slotAt (returnLane k) k.sender).credit = none := by
  rw [reg_creditBackAt k hw]
  simp only [RegionSt.slotAt, Tab.get_mod_same _ _ hslots]

/-- Its sender has one more of the pool. -/
theorem credits_creditBackAt {r : Nat} (hw : Tab.wf s.region {} = true) (hcredits : Tab.wf (s.reg r).credits 0 = true) :
    ((s.creditBackAt r k).reg r).credits.get 0 (creditIx k) = (s.reg r).credits.get 0 (creditIx k) - 1 := by
  rw [reg_creditBackAt k hw]
  simp only [Tab.get_mod_same _ _ hcredits]

theorem reg_creditBackAt_other {r q : Nat} (hw : Tab.wf s.region {} = true) (hq : q ≠ r) : (s.creditBackAt r k).reg q = s.reg q := by
  rw [State.creditBackAt, State.reg_modReg_other _ (wf_modRingSlot _ hw) hq, reg_modRingSlot_other _ hw hq]

end credits

section reservations
variable {s : State} {r st lane : Nat}

theorem mayReserve_iff {x : RegionSt} : x.mayReserve st lane = true ↔
    16 ≤ x.waits.get 0 (8 * st + lane) ∧ (x.slotAt lane st).rsv = none ∧ bit x.rsv (8 * st + lane) = false := by
  simp [RegionSt.mayReserve, and_assoc]

theorem reg_reserve (hw : Tab.wf s.region {} = true) : (s.reserve r st lane).reg r = { s.reg r with
    slots := (s.reg r).slots.mod {} (16 * lane + st) fun x => { x with rsv := some st }
    rsv := (s.reg r).rsv + 2 ^ (8 * st + lane) } := by
  have hb : Tab.wf (s.bump Ctr.ringRsv r).region {} = true := hw
  rw [State.reserve, State.reg_modReg _ (wf_modRingSlot _ hb), reg_modRingSlot _ hb]
  rfl

/-- The slot carries the station's mark. -/
theorem rsv_slotAt_reserve (hw : Tab.wf s.region {} = true) (hslots : Tab.wf (s.reg r).slots {} = true) :
    (((s.reserve r st lane).reg r).slotAt lane st).rsv = some st := by
  rw [reg_reserve hw]
  simp only [RegionSt.slotAt, Tab.get_mod_same _ _ hslots]

/-- The station's bit for the lane is set, and no other changes. -/
theorem bit_rsv_reserve (hw : Tab.wf s.region {} = true) (hb : bit (s.reg r).rsv (8 * st + lane) = false) (j : Nat) :
    bit ((s.reserve r st lane).reg r).rsv j = (bit (s.reg r).rsv j || decide (j = 8 * st + lane)) := by
  rw [reg_reserve hw]
  exact bit_add_two_pow hb j

theorem reg_reserve_other {q : Nat} (hw : Tab.wf s.region {} = true) (hq : q ≠ r) : (s.reserve r st lane).reg q = s.reg q := by
  have hb : Tab.wf (s.bump Ctr.ringRsv r).region {} = true := hw
  rw [State.reserve, State.reg_modReg_other _ (wf_modRingSlot _ hb) hq, reg_modRingSlot_other _ hb hq]
  rfl

theorem exec_ringRsv (s : State) (r : Region) (st : Fin 16) (ring : Fin 4) (cw : Bool) : exec (.ringRsv r st ring cw) s =
    .next (s.when ((s.reg r).mayReserve st (laneNo ring cw)) fun s => s.reserve r st (laneNo ring cw)) := rfl

variable {r : Region} {st : Fin 16} {ring : Fin 4} {cw : Bool}

/-- No slot is marked before the head has waited, in a slot that has a mark, or by a station that has one in the lane. -/
theorem exec_ringRsv_of_not (h : (s.reg r).waits.get 0 (8 * st.val + laneNo ring cw) < 16 ∨ ((s.reg r).slotAt (laneNo ring cw) st).rsv ≠ none ∨
    bit (s.reg r).rsv (8 * st.val + laneNo ring cw) = true) : exec (.ringRsv r st ring cw) s = .next s := by
  have hm : (s.reg r).mayReserve st (laneNo ring cw) = false := by
    rw [Bool.eq_false_iff, ne_eq, mayReserve_iff]
    rintro ⟨hwait, hrsv, hbit⟩
    obtain h | h | h := h
    · exact absurd hwait (Nat.not_le.2 h)
    · exact h hrsv
    · exact Bool.false_ne_true (hbit.symm.trans h)
  rw [exec_ringRsv, hm]
  rfl

theorem exec_ringRsv_of_may (h : (s.reg r).mayReserve st (laneNo ring cw) = true) :
    exec (.ringRsv r st ring cw) s = .next (s.reserve r st (laneNo ring cw)) := by
  rw [exec_ringRsv, h]
  rfl

end reservations

/-! ### VC0 (R131) -/

section messages
variable {s : State} {r : Region} {m : CtrlMsg}

theorem exec_controlMessage (ok : Bool) : exec (.controlMessage r m ok) s = execControlMessage r m ok s := rfl

/-- A message that a slot carries leaves it, and is an error where its parity is. -/
theorem exec_controlMessage_of_slot {lane st : Nat} (h : (s.reg r).ctrlLane m = some (lane, st)) :
    let u := s.modRingSlot r lane st fun x => { x with ctrl := none }
    exec (.controlMessage r m true) s = .next u ∧
      exec (.controlMessage r m false) s = .next (u.ringError r st (lane / 2) (decide (lane % 2 = 0)) .hdr) := by
  simp [exec_controlMessage, execControlMessage, h]

theorem exec_controlMessage_of_parityError (h : (s.reg r).ctrlLane m = none) :
    exec (.controlMessage r m false) s = .next (s.ringError r m.dst 0 true .hdr) := by
  simp [exec_controlMessage, execControlMessage, h]

variable (h : (s.reg r).ctrlLane m = none)
include h

theorem exec_controlMessage_of_signal (hk : m.kind = 0) :
    exec (.controlMessage r m true) s = .next (s.signal r m.number m.count (16 * r.val + m.src.val)) := by
  simp [exec_controlMessage, execControlMessage, h, hk]

theorem exec_controlMessage_of_arrive (hk : m.kind = 1) : exec (.controlMessage r m true) s = .next (s.arrive r m.number none) := by
  simp [exec_controlMessage, execControlMessage, h, hk]

/-- A RELEASE of another generation than the barrier's is past. -/
theorem exec_controlMessage_of_release (hk : m.kind = 2) : exec (.controlMessage r m true) s =
    .next (s.when (decide (m.gen.toNat = (s.bar r m.number).gen % 256)) fun s => s.releaseBar r m.number) := by
  simp [exec_controlMessage, execControlMessage, h, hk]

theorem exec_controlMessage_of_event (hk : m.kind = 3) : exec (.controlMessage r m true) s = .next s := by
  simp [exec_controlMessage, execControlMessage, h, hk]

end messages

/-! ### Reductions in the rings (R136-R141) -/

/-- Station `st` captures the flit (R137). -/
def State.captureFlit (s : State) (r st : Nat) (f : Flit) : State :=
  (s.bump Ctr.redCapture r).modReg r fun x => { x with captured := x.captured.mod [] st (· ++ [f]) }

section reach
variable {s : State} {r st : Nat} {f : Flit} {g : RedGroup} {d : Desc}

theorem redReach_of_unposted (h : s.redAt (16 * r + st) f = none) : s.redReach r st f = s.captureFlit r st f := by
  simp only [State.redReach, h]
  rfl

variable (h : s.redAt (16 * r + st) f = some (g, d))
include h

theorem redReach_of_beyond (hi : g.flits ≤ f.tag.toNat) :
    s.redReach r st f = (s.giveBack r st f).stamp 0x0303 (16 * r + st) r := by
  simp only [State.redReach, h]
  exact if_pos hi

variable (hi : f.tag.toNat < g.flits)
include hi

theorem redReach_of_dest (hd : redDest g.ext = st) :
    s.redReach r st f = (s.giveBack r st f).redTake (16 * r + st) g d f := by
  simp only [State.redReach, h]
  exact (if_neg (Nat.not_le.2 hi)).trans (if_pos hd)

variable (hd : redDest g.ext ≠ st)
include hd

theorem redReach_of_credit (hc : (s.reg r).holdsCredit (s.redSum (16 * r + st) g d f) = true) : s.redReach r st f =
    (((s.giveBack r st f).redAdded (16 * r + st) g d f).takeCredit r (s.redSum (16 * r + st) g d f)).ride r st
      (s.redSum (16 * r + st) g d f) := by
  simp only [State.redReach, h]
  exact (if_neg (Nat.not_le.2 hi)).trans ((if_neg hd).trans (if_pos hc))

theorem redReach_of_noCredit (hc : (s.reg r).holdsCredit (s.redSum (16 * r + st) g d f) = false) :
    s.redReach r st f = s.captureFlit r st f := by
  simp only [State.redReach, h]
  exact (if_neg (Nat.not_le.2 hi)).trans ((if_neg hd).trans (if_neg (ne_true_of_eq_false hc)))

end reach

section add
variable {s : State} {r : Region} {st : Fin 16} {f : Flit} {err : RingErr}

theorem exec_redFlitAdd : exec (.redFlitAdd r st f err) s = execRedFlitAdd r st f err s := rfl

theorem exec_redFlitAdd_of_absent (h : ((s.reg r).slotAt (flitLane f) st).flit ≠ some f) : exec (.redFlitAdd r st f err) s = .next s := by
  rw [exec_redFlitAdd, execRedFlitAdd, carries_eq_false h]
  rfl

variable (h : ((s.reg r).slotAt (flitLane f) st).flit = some f) (hd : f.dst = st) (ht : f.type_ = 6)
include h hd ht

theorem exec_redFlitAdd_of_hdr : exec (.redFlitAdd r st f .hdr) s = .next (s.takeFlit r st f .hdr) := by
  rw [exec_redFlitAdd, execRedFlitAdd, carries_iff.2 h, decide_eq_true hd, decide_eq_true ht]
  rfl

theorem exec_redFlitAdd_of_sound (he : err ≠ .hdr) : exec (.redFlitAdd r st f err) s =
    .next ((s.takeFlit r st f err).redReach r st { f with poison := f.poison || decide (err = .ue) }) := by
  rw [exec_redFlitAdd, execRedFlitAdd, carries_iff.2 h, decide_eq_true hd, decide_eq_true ht]
  exact congrArg _ (if_neg he)

end add

theorem redDest_lt (ext : Nat) : redDest ext < 16 := Nat.mod_lt _ (by decide)

/-- The next station is the first contributor passed on the way to DEST, or DEST (R136). -/
theorem redNext_eq (ext here : Nat) : redNext ext here = (((List.range (ringHops here (redDest ext) - 1)).map
    (passedStation here (redDest ext))).find? fun b => bit (redContrib ext) b).getD (redDest ext) := rfl

/-- So it is a member, and no farther than DEST. -/
theorem redNext_member {ext here : Nat} (hh : here < 16) (hd : here ≠ redDest ext) :
    (redNext ext here = redDest ext ∨ bit (redContrib ext) (redNext ext here) = true) ∧ 1 ≤ ringHops here (redNext ext here) ∧
      ringHops here (redNext ext here) ≤ ringHops here (redDest ext) := by
  rw [redNext_eq]
  cases hn : ((List.range (ringHops here (redDest ext) - 1)).map (passedStation here (redDest ext))).find? fun b => bit (redContrib ext) b with
  | none => exact ⟨.inl rfl, ringHops_pos hh (redDest_lt ext) hd, Nat.le_refl _⟩
  | some n =>
    obtain ⟨k, hk, rfl⟩ := List.mem_map.1 (List.mem_of_find?_eq_some hn)
    have hlt := List.mem_range.1 hk
    have hhops := ringHops_passedStation hh hlt
    have hcontrib := List.find?_some hn
    rw [Option.getD_some, hhops]
    exact ⟨.inr hcontrib, by omega, by omega⟩

/-- The sum goes on to the next member as a RED flit of VC1 with the index of the flit it came from, on the ring of that index and the
group (R129, R136). -/
theorem redSum_fields (s : State) (b : Nat) (g : RedGroup) (d : Desc) (f : Flit) :
    (s.redSum b g d f).type_ = 6 ∧ (s.redSum b g d f).vc = 1 ∧ (s.redSum b g d f).ring.val = (f.tag.toNat + redGroup g.ext) % 4 ∧
      (s.redSum b g d f).tag = f.tag ∧ (s.redSum b g d f).dst.val = redNext g.ext (b % 16) % 16 :=
  ⟨rfl, rfl, rfl, (BitVec.ofNat_toNat 16 f.tag).trans (BitVec.setWidth_eq f.tag), rfl⟩

section take
variable {s : State} {b : Nat} {g : RedGroup} {d : Desc} {f : Flit}

/-- The chains' results that DEST holds, with the flit's among them. -/
def RedGroup.chainsWith (g : RedGroup) (f : Flit) : Tab (Option (List Byte × Bool × Nat)) :=
  g.chains.set none (2 * f.tag.toNat + if f.cw then 0 else 1) (some (f.data, f.poison, f.rangeCount))

/-- The flit's group at block `b` holds the chains' results `ch`. -/
def State.putChains (s : State) (b : Nat) (g : RedGroup) (f : Flit) (ch : Tab (Option (List Byte × Bool × Nat))) : State :=
  s.modBlk b fun x => { x with groups := x.groups.set none f.group.toNat (some { g with chains := ch }) }

/-- A chain's result waits for the other's. -/
theorem redTake_of_partial (h : ((redChains g.ext).map fun k => (g.chainsWith f).get none (2 * f.tag.toNat + k)).any (·.isNone) = true) :
    s.redTake b g d f = (s.redSeen (b / 16) f.poison f.rangeCount).putChains b g f (g.chainsWith f) := if_pos h

/-- With both chains' results there, DEST adds them, then its own elements, and writes the sum with the poison and clamps of all. -/
theorem redTake_of_both {A B : List Byte × Bool × Nat} (hch : redChains g.ext = [0, 1])
    (hA : (g.chainsWith f).get none (2 * f.tag.toNat) = some A) (hB : (g.chainsWith f).get none (2 * f.tag.toNat + 1) = some B)
    (hmine : bit (redContrib g.ext) (b % 16) = true) (hown : (s.redOwn g d f.tag.toNat).2 = false) :
    let x := redCombine g.ext A.1 B.1
    let y := redCombine g.ext x.1 (s.redOwn g d f.tag.toNat).1
    s.redTake b g d f = (((s.redSeen (b / 16) (A.2.1 || B.2.1) (A.2.2 + B.2.2 + (x.2 + y.2))).putChains b g f
        (((g.chainsWith f).set none (2 * f.tag.toNat) none).set none (2 * f.tag.toNat + 1) none)).redWrite g d f.tag.toNat y.1
      (A.2.1 || B.2.1) (A.2.2 + B.2.2 + (x.2 + y.2)) (b / 16)).redDone b f.group.toNat := by
  have hparts : ((redChains g.ext).map fun k => (g.chainsWith f).get none (2 * f.tag.toNat + k)) = [some A, some B] := by
    rw [hch, List.map_cons, List.map_cons, List.map_nil, Nat.add_zero, hA, hB]
  unfold RedGroup.chainsWith at hparts ⊢
  simp only [State.redTake, hparts, hmine, hown]
  simp [State.putChains]

end take

/-- RED_TIMEOUT for a group that the block holds: late and not complete, its cause is stamped here. -/
theorem exec_redTimeout {s : State} {b : Block} {n : Nat} {g : RedGroup} (h : (s.blk b).groups.get none n = some g) :
    exec (.redTimeout b n) s = .next (s.when (decide (100000 ≤ since g.startAt s.time.lea) && decide (g.done < g.flits)) fun s =>
      s.stamp 0x0304 b (regionOfBlock b)) := by
  change execRedTimeout b n s = _
  rw [execRedTimeout, h]
  rfl

/-! ### Elements (R139) -/

theorem signed_32_emod {v : Int} (hlo : -(2 ^ 31) ≤ v) (hhi : v ≤ 2 ^ 31 - 1) : signed 32 (v % 2 ^ 32).toNat = v := by
  simp only [signed]
  split <;> omega

theorem redInt_add (a b : Nat) : redInt 0 a b =
    if signed 32 a + signed 32 b > 2 ^ 31 - 1 then (2 ^ 31 - 1, 1)
    else if signed 32 a + signed 32 b < -(2 ^ 31) then (2 ^ 31, 1) else (((signed 32 a + signed 32 b) % 2 ^ 32).toNat, 0) := rfl

theorem redInt_max (a b : Nat) : redInt 1 a b = (if signed 32 a ≥ signed 32 b then a else b, 0) := by
  by_cases h : signed 32 a ≥ signed 32 b <;> simp [redInt, h]

theorem redInt_min (a b : Nat) : redInt 2 a b = (if signed 32 a ≥ signed 32 b then b else a, 0) := by
  by_cases h : signed 32 a ≥ signed 32 b <;> simp [redInt, h]

theorem signed_redInt_max (a b : Nat) : signed 32 (redInt 1 a b).1 = max (signed 32 a) (signed 32 b) := by
  rw [redInt_max, apply_ite (signed 32), Int.max_comm, Int.max_def]

theorem signed_redInt_min (a b : Nat) : signed 32 (redInt 2 a b).1 = min (signed 32 a) (signed 32 b) := by
  rw [redInt_min, apply_ite (signed 32), Int.min_comm, Int.min_def]

/-- An FP32 code above the infinities, sign apart, is a NaN (R41). -/
theorem value_fp32_of_nan {a : Nat} (h : 0x7F800000 < a % 2 ^ 31) : Fmt.fp32.value a = .nan := by
  have hexp : a / 2 ^ 23 % 256 = 255 := by omega
  have hfrac : a % 2 ^ 23 ≠ 0 := by omega
  exact (if_pos hexp).trans (if_neg hfrac)

theorem Num.nan_add (x : Num) : Num.nan.add x = .nan := by cases x <;> rfl
theorem Num.add_nan (x : Num) : x.add .nan = .nan := by cases x <;> rfl

/-- A NaN on either side gives the one NaN, in a sum, a maximum and a minimum. -/
theorem redFp32_of_nan {op a b : Nat} (h : 0x7F800000 < a % 2 ^ 31 ∨ 0x7F800000 < b % 2 ^ 31) : (redFp32 op a b).1 = fp32Nan := by
  have hsum : (Fmt.fp32.value a).add (Fmt.fp32.value b) = .nan := by
    rcases h with h | h
    · rw [value_fp32_of_nan h, Num.nan_add]
    · rw [value_fp32_of_nan h, Num.add_nan]
  have hnan : (decide (a % 2 ^ 31 > 0x7F800000) || decide (b % 2 ^ 31 > 0x7F800000)) = true := by simpa using h
  unfold redFp32
  by_cases hop : op = 0
  · simp only [hop, if_true, hsum]
  · simp only [hop, if_false, hnan, if_true]

/-- Flits of as many bytes combine to as many. -/
theorem length_redCombine {ext : Nat} {a b : List Byte} (h : a.length = b.length) (h4 : a.length % 4 = 0) :
    (redCombine ext a b).1.length = a.length := by
  simp only [redCombine, List.flatMap_map]
  rw [length_flatMap_leBytes, List.length_range, h, Nat.min_self]
  split <;> omega

/-! ### The statement -/

/-- Settles O47: each command case by case from the lemmas above, and routes, slots, parity and elements by the laws of each. That a message
in a slot only tells what has acted at its source, and one from outside the blocks acts here, is the model's choice (log 133). -/
theorem ringFlitsAndReductionsArrive : Obligations.RingFlitsAndReductionsArrive := by
  unfold Obligations.RingFlitsAndReductionsArrive
  refine ⟨⟨?arrival, ?routes, ?advance, ?choice, ?noCredit, RingSlot.header_parity, ?errors, ?hdrCause, ?creditReturn, ?reservation, ?messages⟩,
    ?redAdd, ?redAbsent, ?redSum, ?redNext, ?redTake, ?redTimeout, ?ints, ?nans, ?lengths⟩
  case arrival =>
    intro s r f err
    refine ⟨exec_ringFlitArrival_of_absent, fun h ht => ⟨?_, fun he hp => ?_, fun he hp hn => ?_, fun he hp hs ha => ⟨fun h0 hb => ?_, fun h2 hl => ?_,
      fun h2 hl => ?_⟩⟩⟩
    · rintro rfl
      exact exec_ringFlitArrival_of_hdr h ht
    all_goals rw [exec_ringFlitArrival_of_sound h ht he]
    · exact congrArg _ (ejectFlit_of_gateway hp)
    · exact congrArg _ (ejectFlit_of_noAct hp hn)
    all_goals refine congrArg _ ((ejectFlit_of_block hp hs ha).trans ?_)
    · exact ringServe_of_read h0 hb
    · exact ringServe_of_write h2 hl
    · exact ringServe_of_lastWrite h2 hl
  case routes =>
    intro a b ha hb
    exact ⟨ringHops_le a b, add_ringHops_of_cw ha hb, add_ringHops_of_ccw ha, ringHops_outTap 1 a, ringHops_outTap 2 a, ringHops_inTap 1 a,
      ringHops_inTap 2 a⟩
  case advance => exact fun x lane st hw _ hst => RegionSt.slotAt_advance hw hst
  case choice => exact fun x st lane hs h => RegionSt.of_choose_eq_some
  case noCredit => exact fun s r st lane => State.fillLane_keeps_of_noCredit
  case errors => exact fun s r st ring cw => ⟨ringError_none s r st ring cw, ringError_mems s r st ring cw⟩
  case hdrCause => exact fun s r st ring cw ho hf => ⟨_, ringError_hdr_cause r st ring cw ho hf, rfl, rfl, rfl⟩
  case creditReturn =>
    intro s r k hw hcredits hslots
    exact ⟨fun h => ⟨_, exec_ringCreditReturn_of_present k h, rfl, credit_creditBackAt k hw hslots, credits_creditBackAt k hw hcredits,
      fun q => reg_creditBackAt_other k hw⟩, exec_ringCreditReturn_of_absent k⟩
  case reservation =>
    intro s r st ring cw
    refine ⟨fun h => exec_ringRsv_of_not (.inl h), fun h => exec_ringRsv_of_not (.inr (.inl h)), fun h => exec_ringRsv_of_not (.inr (.inr h)),
      fun hwait hrsv hbit hw hslots => ⟨_, exec_ringRsv_of_may (mayReserve_iff.2 ⟨hwait, hrsv, hbit⟩), ?_, rsv_slotAt_reserve hw hslots, fun j hj => ?_,
        rfl, fun q => reg_reserve_other hw⟩⟩
    · rw [bit_rsv_reserve hw hbit, decide_eq_true rfl, Bool.or_true]
    · rw [bit_rsv_reserve hw hbit, decide_eq_false hj, Bool.or_false]
  case messages =>
    intro s r m
    refine ⟨fun lane st => exec_controlMessage_of_slot, fun h => ⟨exec_controlMessage_of_parityError h, exec_controlMessage_of_signal h,
      exec_controlMessage_of_arrive h, fun hk hg => ?_, fun hk hg => ?_, exec_controlMessage_of_event h⟩⟩
    · rw [exec_controlMessage_of_release h hk, decide_eq_true hg, State.when_true]
    · rw [exec_controlMessage_of_release h hk, decide_eq_false hg, State.when_false]
  case redAdd =>
    intro s r st f err h hd ht
    refine ⟨?_, fun he hat => ?_, fun g d he hat => ⟨fun hi => ?_, fun hi hdest => ⟨fun hc => ?_, fun hc => ?_⟩, fun hi hdest => ?_⟩⟩
    · rintro rfl
      exact exec_redFlitAdd_of_hdr h hd ht
    all_goals refine (exec_redFlitAdd_of_sound h hd ht he).trans (congrArg _ ?_)
    · exact redReach_of_unposted hat
    · exact redReach_of_beyond hat hi
    · exact redReach_of_credit hat hi hdest hc
    · exact redReach_of_noCredit hat hi hdest hc
    · exact redReach_of_dest hat hi hdest
  case redAbsent => exact fun s r st f err => exec_redFlitAdd_of_absent
  case redSum =>
    intro s b g d f
    obtain ⟨htype, hvc, hring, htag, hdst⟩ := redSum_fields s b g d f
    exact ⟨rfl, rfl, rfl, htype, hvc, hring, htag, fun hlt => hdst.trans (Nat.mod_eq_of_lt hlt)⟩
  case redNext => exact fun ext here => redNext_member
  case redTake => exact fun s b g d f => ⟨redTake_of_partial, fun A B => redTake_of_both⟩
  case redTimeout =>
    intro s b n g h
    rw [exec_redTimeout h]
    refine ⟨fun hlate hopen => ?_, ?_⟩
    · rw [decide_eq_true hlate, decide_eq_true hopen, Bool.and_self, State.when_true]
    · rintro (hearly | hdone)
      · rw [decide_eq_false (Nat.not_le.2 hearly), Bool.false_and, State.when_false]
      · rw [decide_eq_false (Nat.not_lt.2 hdone), Bool.and_false, State.when_false]
  case ints =>
    intro a b _ _
    rw [redInt_add]
    refine ⟨fun hv => if_pos hv, fun hv => ?_, fun hlo hhi => ?_, signed_redInt_max a b, signed_redInt_min a b, congrArg Prod.snd (redInt_max a b)⟩
    · exact (if_neg (by omega)).trans (if_pos hv)
    · rw [if_neg (by omega), if_neg (by omega)]
      exact ⟨signed_32_emod hlo hhi, rfl⟩
  case nans => exact fun op a b _ _ _ h => ⟨redFp32_of_nan (.inl h), redFp32_of_nan (.inr h)⟩
  case lengths => exact fun ext a b => length_redCombine

end Sys2Proof.Machine
end

section
/-! PROOFS. The reference and the PLLs (R156), the comparison of the copies of Lea (R158), and time over the fabric (R159, R160, R308): what
each instruction does in each of its cases, the size of a slew, and the statement that they settle. -/

namespace Sys2Proof

/-- A number with a bit set is at least that bit. -/
theorem two_pow_le_of_bit {n i : Nat} (h : bit n i = true) : 2 ^ i ≤ n := by
  refine Nat.le_of_not_lt fun hlt => ?_
  have hodd : n / 2 ^ i % 2 = 1 := of_decide_eq_true h
  rw [Nat.div_eq_of_lt hlt] at hodd
  exact absurd hodd (by decide)

end Sys2Proof

namespace Sys2Proof.Machine

/-! ### The reference (R156) -/

section reference
variable {s : State}

theorem exec_refAbsent : exec .refAbsent s = execRefAbsent s := rfl
theorem exec_refReturn : exec .refReturn s = execRefReturn s := rfl
theorem exec_refLost : exec .refLost s = execRefLost s := rfl

theorem exec_refAbsent_of_present (h : s.time.refPresent = true) : exec .refAbsent s =
    .next (({ s with time := { s.time with refPresent := false, holdover := true, refLost := s.refOut } }).fire 0x311 0 0 s.time.lea.toNat) := by
  rw [exec_refAbsent, execRefAbsent, h, State.when_true]

theorem exec_refAbsent_of_absent (h : s.time.refPresent = false) : exec .refAbsent s = .next s := by
  rw [exec_refAbsent, execRefAbsent, h, State.when_false]

theorem exec_refReturn_of_absent (h : s.time.refPresent = false) : exec .refReturn s =
    .next { s with time := { s.time with refPresent := true, holdover := false, pllLock := 0x7FFFF, refAt := s.time.lea, relocks := [] } } := by
  rw [exec_refReturn, execRefReturn, h, Bool.not_false, State.when_true]

theorem exec_refReturn_of_present (h : s.time.refPresent = true) : exec .refReturn s = .next s := by
  rw [exec_refReturn, execRefReturn, h, Bool.not_true, State.when_false]

theorem exec_refLost_of_absent (h : s.time.refPresent = false) (hh : s.time.holdover = true) :
    exec .refLost s = .next (({ s with time := { s.time with refLost := true } }).stamp 0x0306 0 32) := by
  rw [exec_refLost, execRefLost, h, hh, Bool.not_false, Bool.and_self, State.when_true]

theorem exec_refLost_of_present (h : s.time.refPresent = true) : exec .refLost s = .next s := by
  rw [exec_refLost, execRefLost, h, Bool.not_true, Bool.false_and, State.when_false]

/-- Launches are refused once the reference was lost, unless it is back, has been so for 100 ms, and every PLL is locked. -/
theorem State.refOut_iff : s.refOut = true ↔ s.time.refLost = true ∧
    (s.time.refPresent = true → since s.time.refAt s.time.lea < 100000000 ∨ s.time.pllLock ≠ 0x7FFFF) := by
  simp only [State.refOut, State.elapsed, Bool.and_eq_true, Bool.not_eq_true', Bool.and_eq_false_iff, decide_eq_false_iff_not, Nat.not_le, ge_iff_le]
  cases s.time.refPresent <;> simp

end reference

/-! ### PLLs (R156) -/

/-- The state that a PLL leaves which unlocks while the reference is there: its lock is gone, its cause stamped and its event fired. -/
def State.pllUnlocked (s : State) (d : DieIx) : State :=
  (({ s with time := { s.time with pllLock := s.time.pllLock - 2 ^ d.val } }).stamp 0x0307 d.val (stationOfDie d.val)).fire 0x311 0x0307 d.val

/-- The state that it leaves when it then fails to relock: the failures in a row are one more. -/
def State.relockFailed (s : State) (d : DieIx) : State :=
  { s.pllUnlocked d with time := { (s.pllUnlocked d).time with
    relocks := (s.pllUnlocked d).time.relocks.set 0 d.val (s.time.relocks.get 0 d.val + 1) } }

section plls
variable {s : State} {d : DieIx}

theorem exec_pllUnlock (b : Bool) : exec (.pllUnlock d b) s = execPllUnlock d b s := rfl

theorem State.pllUnlocked_time : (s.pllUnlocked d).time = { s.time with pllLock := s.time.pllLock - 2 ^ d.val } := by
  rw [State.pllUnlocked, State.fire_time, State.stamp_time]

/-- The lock that a PLL regains is the one it lost. -/
theorem State.pllUnlocked_pllLock_add (hb : bit s.time.pllLock d.val = true) : (s.pllUnlocked d).time.pllLock + 2 ^ d.val = s.time.pllLock := by
  rw [State.pllUnlocked_time]
  exact Nat.sub_add_cancel (two_pow_le_of_bit hb)

/-- Without the reference every PLL is in holdover, and none unlocks. -/
theorem exec_pllUnlock_of_absent (h : s.time.refPresent = false) (b : Bool) : exec (.pllUnlock d b) s = .next s := by
  simp [exec_pllUnlock, execPllUnlock, h]

section unlocks
variable (h : s.time.refPresent = true) (hb : bit s.time.pllLock d.val = true)
include h hb

theorem exec_pllUnlock_of_relocked : exec (.pllUnlock d true) s = .next { s.pllUnlocked d with time := { (s.pllUnlocked d).time with
    pllLock := (s.pllUnlocked d).time.pllLock + 2 ^ d.val, relocks := (s.pllUnlocked d).time.relocks.set 0 d.val 0 } } := by
  simp [exec_pllUnlock, execPllUnlock, h, hb, State.pllUnlocked]

theorem exec_pllUnlock_of_failed (hn : s.time.relocks.get 0 d.val + 1 < 3) : exec (.pllUnlock d false) s = .next (s.relockFailed d) := by
  simp [exec_pllUnlock, execPllUnlock, h, hb, Nat.not_le.2 hn, State.relockFailed, State.pllUnlocked]

/-- The third failure in a row leaves the module in HELD. -/
theorem exec_pllUnlock_of_thirdFailure (hn : 3 ≤ s.time.relocks.get 0 d.val + 1) :
    exec (.pllUnlock d false) s = .next ((s.relockFailed d).enterHeld 0x0307 d.val) := by
  simp [exec_pllUnlock, execPllUnlock, h, hb, hn, State.relockFailed, State.pllUnlocked]

end unlocks
end plls

/-! ### The copies of Lea (R158) -/

section copies
variable (s : State) (skews : List Int) (halves : List Nat)

theorem exec_leaCompare : exec (.leaCompare { skews := skews, halves := halves }) s = .next (s.compareLea skews halves) := rfl

theorem State.compareLea_time : (s.compareLea skews halves).time = { s.time with
    copies := Tab.setAll [] 0 0 skews, skewNow := min (skewSpread skews) 0xFF, skewMax := max s.time.skewMax (min (skewSpread skews) 0xFF)
    synced := decide (skewSpread skews ≤ 4) && halves.all fun h => decide (h ≤ 2) } :=
  State.when_keeps (·.time) (by rw [State.fire_time, State.bump_time]) _

/-- A comparison leaves everything but the time and what is observed of it. -/
theorem State.compareLea_frame : s.compareLea skews halves =
    { s with time := (s.compareLea skews halves).time, obs := (s.compareLea skews halves).obs } := by
  unfold State.compareLea
  exact State.when_holds (P := fun u => u = { s with time := u.time, obs := u.obs }) rfl (fun _ => rfl) _

/-- With no copy more than 4 ns off, nothing is counted and nothing fires. -/
theorem State.compareLea_obs (hnear : ∀ k ∈ skews, k.natAbs ≤ 4) : (s.compareLea skews halves).obs = s.obs := by
  have hfar : (skews.filter fun k => decide (k.natAbs > 4)) = [] := by
    simpa [List.filter_eq_nil_iff] using hnear
  simp [State.compareLea, hfar]

theorem State.compareLea_synced : (s.compareLea skews halves).time.synced = true ↔ skewSpread skews ≤ 4 ∧ ∀ h ∈ halves, h ≤ 2 := by
  simp [State.compareLea_time]

theorem State.compareLea_copies {k : Nat} (hk : k < skews.length) : (s.compareLea skews halves).time.copies.get 0 k = skews[k] := by
  rw [State.compareLea_time]
  simpa using Tab.get_setAll_inside skews [] 0 k (Tab.wf_nil (0 : Int)) hk

end copies

/-! ### Asking the time master (R308) -/

section ask
variable {s : State}

theorem exec_timeReq : exec .timeReq s = execTimeReq s := rfl

theorem exec_timeReq_of_own (h : s.conf.inForce.timeMaster = s.node) : exec .timeReq s = .next s := by
  rw [exec_timeReq, execTimeReq, if_pos h]

/-- With a live port and no exchange open, the module asks. -/
theorem exec_timeReq_of_live {p : Nat} {ps : List Nat} (h : s.conf.inForce.timeMaster ≠ s.node)
    (hlive : s.livePorts s.conf.inForce.timeMaster = p :: ps) (ht : s.reel.timeT1 = none) : exec .timeReq s =
    .next (({ s with reel := { s.reel with timeMiss := 0, timeT1 := some s.time.lea } }).sendMgmt p s.conf.inForce.timeMaster 0x0010
      (leBytes 8 s.time.lea.toNat)) := by
  simp [exec_timeReq, execTimeReq, h, hlive, ht]

/-- With no live port, the exchange is missed, and the third miss takes the master away. -/
theorem exec_timeReq_of_unreached (h : s.conf.inForce.timeMaster ≠ s.node) (hlive : s.livePorts s.conf.inForce.timeMaster = []) :
    exec .timeReq s = .next (({ s with reel := { s.reel with timeMiss := min (s.reel.timeMiss + 1) 3, timeT1 := none } }).when
      (decide (3 ≤ s.reel.timeMiss + 1)) fun u => u.setMaster false) := by
  simp [exec_timeReq, execTimeReq, h, hlive]

theorem State.setMaster_time (ok : Bool) : (s.setMaster ok).time = { s.time with masterValid := ok } :=
  State.when_keeps (·.time) (State.fire_time ..) _

theorem State.setMaster_reel (ok : Bool) : (s.setMaster ok).reel = s.reel := State.when_keeps (·.reel) (State.fire_reel ..) _

theorem exec_timeReqAnswer_of_up {p : RPort} (h : s.mgmtUp p = true) (src : BitVec 16) (t1 t2 t3 : BitVec 64) :
    exec (.timeReqAnswer p src t1 t2 t3) s =
      .next (s.sendMgmt p src 0x0011 (leBytes 8 t1.toNat ++ leBytes 8 t2.toNat ++ leBytes 8 t3.toNat ++ leBytes 4 0)) := by
  change execTimeReqAnswer p src t1 t2 t3 s = _
  rw [execTimeReqAnswer, h, State.when_true]

end ask

/-! ### The size of a slew (R159, R160) -/

theorem signOf_eq_sign (x : Int) : signOf x = x.sign := by
  obtain hx | rfl | hx := Int.lt_trichotomy x 0
  · rw [signOf, if_neg (by omega), if_pos hx, Int.sign_eq_neg_one_of_neg hx]
  · rfl
  · rw [signOf, if_pos hx, Int.sign_eq_one_of_pos hx]

section slew
variable (s : State) {x : Int}

/-- An offset above 100 µs is not slewed. -/
theorem State.slewFor_of_beyond (h : 100000 < x.natAbs) : s.slewFor x = 0 := if_pos h

/-- Up to 100 µs the slew has the sign of the offset and a size between the least that is fast enough and 100 ppm. -/
theorem State.slewFor_of_within (h : x.natAbs ≤ 100000) :
    ∃ m : Nat, s.slewFor x = x.sign * m ∧ min 100 (5 * x.natAbs) ≤ m ∧ m ≤ 100 := by
  refine ⟨_, (if_neg (Nat.not_lt.2 h)).trans (by rw [signOf_eq_sign]), Nat.le_add_right _ _, ?_⟩
  have hfree := Nat.mod_lt (Config.word s.free).toNat (show 101 - min 100 (5 * x.natAbs) > 0 by omega)
  omega

theorem State.slewFor_bounds (h : x.natAbs ≤ 100000) :
    min 100 (5 * x.natAbs) ≤ (s.slewFor x).natAbs ∧ (s.slewFor x).natAbs ≤ 100 ∧ (s.slewFor x).sign = x.sign := by
  obtain ⟨m, hslew, hleast, hmost⟩ := s.slewFor_of_within h
  rw [hslew]
  by_cases hx : x = 0
  · subst hx
    simp
  · have hm : 0 < m := by omega
    rw [Int.natAbs_mul, Int.natAbs_sign_of_ne_zero hx, Nat.one_mul, Int.natAbs_natCast, Int.sign_mul, Int.sign_sign,
      Int.sign_natCast_of_ne_zero (Nat.ne_of_gt hm), Int.mul_one]
    exact ⟨hleast, hmost, rfl⟩

end slew

/-! ### The answer of the time master (R159, R308) -/

/-- The state in which a measured offset of `x` ns, master minus local, leaves the module: the exchange is closed and the slew is set. -/
def State.aligned (s : State) (x : Int) : State :=
  { s with
    reel := { s.reel with timeT1 := none, timeMiss := 0 }
    time := { s.time with
      offset := max (-(2 ^ 31 - 1)) (min (2 ^ 31 - 1) (-x)), slew := s.slewFor x, toClose := x.natAbs, frac := 0
      good := if x.natAbs ≤ 5 then min 16 (s.time.good + 1) else 0 }
    free := s.free + 1 }

section answer
variable {s : State} {src : BitVec 16} {t1 t2 t3 t4 : BitVec 64} {corr : Int}

theorem exec_timeResp : exec (.timeResp src t1 t2 t3 t4 corr) s = execTimeResp src t1 t2 t3 t4 corr s := rfl

/-- The master's answer to the exchange under way aligns the module and makes the master valid. -/
theorem exec_timeResp_of_awaited (h : s.conf.inForce.timeMaster ≠ s.node) (ht : s.reel.timeT1 = some t1) :
    exec (.timeResp s.conf.inForce.timeMaster t1 t2 t3 t4 corr) s =
      .next ((s.aligned (((t2 - t1).toInt - (t4 - t3).toInt - corr) / 2)).setMaster true) :=
  congrArg _ (if_pos ⟨rfl, h, ht⟩)

theorem exec_timeResp_of_unawaited (ht : s.reel.timeT1 ≠ some t1) : exec (.timeResp src t1 t2 t3 t4 corr) s = .next s := by
  rw [exec_timeResp, execTimeResp, if_neg fun h => ht h.2.2]

end answer

/-! ### The statement -/

/-- Settles O15: each instruction case by case from the lemmas above. The model's choices among them: that the reference's return locks every
PLL and forgets the failures to relock, and the code 0x0307 of source 0x311 at an unlock (log 84); the code 0 of that source when the reference
goes (log 85); and the size of a slew within its bounds (log 48). -/
theorem referenceAndFabricTimeAreKept : Obligations.ReferenceAndFabricTimeAreKept := by
  unfold Obligations.ReferenceAndFabricTimeAreKept
  refine ⟨⟨?absent, ?back, ?lost, ?present, ?refused, ?holdover, ?unlock, ?compare⟩, ?own, ?ask, ?miss, ?answer, ?other, ?serve⟩
  case absent => exact fun s => exec_refAbsent_of_present
  case back => exact fun s h => ⟨exec_refAbsent_of_absent h, exec_refReturn_of_absent h⟩
  case lost => exact fun s => exec_refLost_of_absent
  case present => exact fun s h => ⟨exec_refReturn_of_present h, exec_refLost_of_present h⟩
  case refused => exact fun s => State.refOut_iff
  case holdover => exact fun s d => exec_pllUnlock_of_absent
  case unlock => exact fun s d h hb => ⟨exec_pllUnlock_of_relocked h hb, State.pllUnlocked_pllLock_add hb, exec_pllUnlock_of_failed h hb,
    exec_pllUnlock_of_thirdFailure h hb⟩
  case compare =>
    intro s skews halves
    refine ⟨_, exec_leaCompare s skews halves, s.compareLea_frame skews halves, ?_, s.compareLea_synced skews halves, s.compareLea_obs skews halves,
      fun k => s.compareLea_copies skews halves, ?_, ?_⟩ <;> rw [State.compareLea_time]
    exact Nat.le_max_left _ _
  case own => exact fun s => exec_timeReq_of_own
  case ask => exact fun s p ps => exec_timeReq_of_live
  case miss => exact fun s => exec_timeReq_of_unreached
  case answer =>
    intro s t1 t2 t3 t4 corr h ht
    refine ⟨_, exec_timeResp_of_awaited h ht, ?_⟩
    rw [State.setMaster_time, State.setMaster_reel]
    exact ⟨rfl, rfl, rfl, rfl, s.slewFor_of_beyond, s.slewFor_bounds, rfl⟩
  case other => exact fun s src t1 t2 t3 t4 corr => exec_timeResp_of_unawaited
  case serve => exact fun s p src t1 t2 t3 h => exec_timeReqAnswer_of_up h src t1 t2 t3

end Sys2Proof.Machine
end

section
/-! PROOFS. The code of a Skein frame (R169, R170): the remainder modulo g is additive, so the frame that a source forms has syndrome zero and
is read back; CRC-32 and the bytes of a packet, which is read back from its frames (R174, R175). -/

namespace Sys2Proof.Machine

/-! ### Bits from the top down -/

theorem bit_eq_testBit (n i : Nat) : bit n i = n.testBit i := Nat.testBit_eq_decide_div_mod_eq.symm

/-- The bits of a number in two parts, the upper part first. -/
theorem bitsDown_add (m n v : Nat) : bitsDown (m + n) v = bitsDown m (v / 2 ^ n) ++ bitsDown n v := by
  induction m with
  | zero => rw [Nat.zero_add]; rfl
  | succ m ih =>
    have hbit : bit v (m + n) = bit (v / 2 ^ n) m := by
      simp only [bit_eq_testBit, Nat.testBit_div_two_pow]
    rw [Nat.add_right_comm, bitsDown, ih, bitsDown, hbit, List.cons_append]

theorem bitsDown_mod (n m v : Nat) (h : n ≤ m) : bitsDown n (v % 2 ^ m) = bitsDown n v := by
  induction n with
  | zero => rfl
  | succ n ih =>
    have hbit : bit (v % 2 ^ m) n = bit v n := by
      rw [bit_eq_testBit, bit_eq_testBit, Nat.testBit_mod_two_pow, decide_eq_true (Nat.lt_of_succ_le h), Bool.true_and]
    rw [bitsDown, bitsDown, hbit, ih (Nat.le_of_succ_le h)]

@[simp] theorem length_bitsDown (n v : Nat) : (bitsDown n v).length = n := by
  induction n with
  | zero => rfl
  | succ n ih => rw [bitsDown, List.length_cons, ih]

theorem bitsDown_zero (n : Nat) : bitsDown n 0 = List.replicate n false := by
  induction n with
  | zero => rfl
  | succ n ih => rw [bitsDown, ih, bit_eq_testBit, Nat.zero_testBit, List.replicate_succ]

/-- A number below 2^24 followed by a lower one, as a code word is. -/
theorem bitsDown_mul_add (n m c : Nat) (hc : c < 2 ^ 24) : bitsDown (n + 24) (m * 2 ^ 24 + c) = bitsDown n m ++ bitsDown 24 c := by
  have hupper : (m * 2 ^ 24 + c) / 2 ^ 24 = m := by omega
  have hlower : (m * 2 ^ 24 + c) % 2 ^ 24 = c := by omega
  rw [bitsDown_add, ← bitsDown_mod 24 24 (m * 2 ^ 24 + c) (Nat.le_refl _), hupper, hlower]

/-! ### The remainder modulo g (R169) -/

/-- One step of the remainder: a polynomial of degree at most 24 modulo g. -/
def bchReduce (t : Nat) : Nat := if t ≥ 2 ^ 24 then t ^^^ bchG else t

theorem bchRem_cons (b : Bool) (bs : List Bool) (r : Nat) : bchRem (b :: bs) r = bchRem bs (bchReduce (2 * r + b.toNat)) := rfl

theorem bchRem_append (xs ys : List Bool) (r : Nat) : bchRem (xs ++ ys) r = bchRem ys (bchRem xs r) := by
  induction xs generalizing r with
  | nil => rfl
  | cons x xs ih => rw [List.cons_append, bchRem_cons, ih, bchRem_cons]

theorem le_iff_testBit_of_lt {t n : Nat} (h : t < 2 ^ (n + 1)) : 2 ^ n ≤ t ↔ t.testBit n = true := by
  constructor
  · exact fun hle => Nat.testBit_of_two_pow_le_and_two_pow_add_one_gt hle h
  · exact Nat.ge_two_pow_of_testBit

/-- The remainder subtracts g exactly when the coefficient of x^24 is set. -/
theorem bchReduce_eq {t : Nat} (h : t < 2 ^ 25) : bchReduce t = t ^^^ bif t.testBit 24 then bchG else 0 := by
  rw [bchReduce]
  cases htop : t.testBit 24 with
  | true => exact if_pos ((le_iff_testBit_of_lt h).2 htop)
  | false =>
    rw [if_neg fun hle => by rw [(le_iff_testBit_of_lt h).1 hle] at htop; cases htop]
    exact (Nat.xor_zero t).symm

theorem bchReduce_lt {t : Nat} (h : t < 2 ^ 25) : bchReduce t < 2 ^ 24 := by
  rw [bchReduce]
  split
  case isFalse hlt => exact Nat.lt_of_not_le hlt
  case isTrue hle =>
    have hwide : t ^^^ bchG < 2 ^ 25 := Nat.xor_lt_two_pow h (by decide)
    refine Nat.lt_of_not_le fun hge => ?_
    have htop := (le_iff_testBit_of_lt hwide).1 hge
    rw [Nat.testBit_xor, (le_iff_testBit_of_lt h).1 hle] at htop
    exact absurd htop (by decide)

theorem bchReduce_xor {s t : Nat} (hs : s < 2 ^ 25) (ht : t < 2 ^ 25) : bchReduce (s ^^^ t) = bchReduce s ^^^ bchReduce t := by
  have hsub : (bif s.testBit 24 ^^ t.testBit 24 then bchG else 0) = (bif s.testBit 24 then bchG else 0) ^^^ bif t.testBit 24 then bchG else 0 := by
    cases s.testBit 24 <;> cases t.testBit 24 <;> rfl
  rw [bchReduce_eq (Nat.xor_lt_two_pow hs ht), bchReduce_eq hs, bchReduce_eq ht, Nat.testBit_xor, hsub]
  ac_rfl

theorem two_mul_add_toNat_lt {r : Nat} (b : Bool) (h : r < 2 ^ 24) : 2 * r + b.toNat < 2 ^ 25 := by
  have := b.toNat_lt
  omega

theorem bchRem_lt (bs : List Bool) {r : Nat} (h : r < 2 ^ 24) : bchRem bs r < 2 ^ 24 := by
  induction bs generalizing r with
  | nil => exact h
  | cons b bs ih => exact ih (bchReduce_lt (two_mul_add_toNat_lt b h))

/-- A bit shifted into a sum is a bit shifted into one summand and a zero into the other. -/
theorem two_mul_xor_add_toNat (r q : Nat) (b : Bool) : 2 * (r ^^^ q) + b.toNat = (2 * r + false.toNat) ^^^ (2 * q + b.toNat) := by
  have hhalf (x : Nat) (c : Bool) : (2 * x + c.toNat) / 2 = x := by
    have := c.toNat_lt
    omega
  have hodd (x : Nat) (c : Bool) : (2 * x + c.toNat).testBit 0 = c := by
    rw [Nat.testBit_zero, Nat.mul_add_mod]
    cases c <;> rfl
  refine Nat.eq_of_testBit_eq fun i => ?_
  cases i with
  | zero => rw [Nat.testBit_xor, hodd, hodd, hodd, Bool.false_xor]
  | succ i => rw [Nat.testBit_xor, Nat.testBit_succ, Nat.testBit_succ, Nat.testBit_succ, hhalf, hhalf, hhalf, Nat.testBit_xor]

/-- The remainder is additive: what a register adds to it is what the register leaves behind zeros. -/
theorem bchRem_xor (bs : List Bool) {r q : Nat} (hr : r < 2 ^ 24) (hq : q < 2 ^ 24) :
    bchRem bs (r ^^^ q) = bchRem (List.replicate bs.length false) r ^^^ bchRem bs q := by
  induction bs generalizing r q with
  | nil => rfl
  | cons b bs ih =>
    rw [List.length_cons, List.replicate_succ, bchRem_cons, bchRem_cons, bchRem_cons, two_mul_xor_add_toNat,
      bchReduce_xor (two_mul_add_toNat_lt false hr) (two_mul_add_toNat_lt b hq),
      ih (bchReduce_lt (two_mul_add_toNat_lt false hr)) (bchReduce_lt (two_mul_add_toNat_lt b hq))]

/-- A polynomial of degree below 24 is its own remainder. -/
theorem bchRem_bitsDown {n r v : Nat} (h : r * 2 ^ n + v % 2 ^ n < 2 ^ 24) : bchRem (bitsDown n v) r = r * 2 ^ n + v % 2 ^ n := by
  induction n generalizing r with
  | zero => rw [Nat.pow_zero, Nat.mod_one, Nat.mul_one]; rfl
  | succ n ih =>
    have hbit : (bit v n).toNat = v / 2 ^ n % 2 := by
      rw [bit_eq_testBit, Nat.toNat_testBit]
    have hsplit : r * 2 ^ (n + 1) + v % 2 ^ (n + 1) = (2 * r + (bit v n).toNat) * 2 ^ n + v % 2 ^ n := by
      rw [Nat.mod_pow_succ, hbit, Nat.pow_succ, Nat.add_mul, Nat.mul_comm (2 ^ n) (v / 2 ^ n % 2)]
      ac_rfl
    have hsmall : 2 * r + (bit v n).toNat < 2 ^ 24 :=
      Nat.lt_of_le_of_lt (Nat.le_trans (Nat.le_mul_of_pos_right _ (Nat.two_pow_pos n)) (Nat.le_add_right _ _)) (hsplit ▸ h)
    rw [hsplit] at h ⊢
    rw [bitsDown, bchRem_cons, bchReduce, if_neg (Nat.not_le.2 hsmall), ih h]

/-- Appending CHECK of a message makes its remainder zero. -/
theorem bchRem_append_check {r : Nat} (h : r < 2 ^ 24) : bchRem (bitsDown 24 (bchRem (List.replicate 24 false) r)) r = 0 := by
  have hcheck := bchRem_lt (List.replicate 24 false) h
  generalize hc : bchRem (List.replicate 24 false) r = c at hcheck
  have hadd := bchRem_xor (bitsDown 24 c) h (q := 0) (by decide)
  have hself := bchRem_bitsDown (n := 24) (r := 0) (v := c) (by omega)
  rw [Nat.xor_zero, length_bitsDown, hc, hself] at hadd
  rw [hadd, Nat.zero_mul, Nat.zero_add, Nat.mod_eq_of_lt hcheck, Nat.xor_self]

theorem bchCheck_eq {m : Nat} (hm : m < 2 ^ 520) : bchCheck m = bchRem (List.replicate 24 false) (bchRem (bitsDown 520 m) 0) := by
  rw [bchCheck, Nat.mod_eq_of_lt hm, ← Nat.add_zero (m * 2 ^ 24), bitsDown_mul_add 520 m 0 (by decide), bchRem_append, bitsDown_zero]

theorem bchCheck_lt (m : Nat) : bchCheck m < 2 ^ 24 := bchRem_lt _ (by decide)

/-! ### Frames (R167-R170) -/

theorem bitsOf_lt (bs : List Bool) : bitsOf bs < 2 ^ bs.length := by
  induction bs with
  | nil => decide
  | cons b bs ih =>
    rw [bitsOf, List.length_cons, Nat.pow_succ]
    split <;> omega

theorem length_scrambleBits (n r : Nat) : (scrambleBits n r).length = n := by
  induction n generalizing r with
  | zero => rfl
  | succ n ih => rw [scrambleBits, List.length_cons, ih]

theorem scramble_lt : scramble < 2 ^ 520 := by
  have h := bitsOf_lt (scrambleBits 520 (2 ^ 31 - 1))
  rwa [length_scrambleBits] at h

section frame
variable {d : Nat} (hd : d < 2 ^ 520)
include hd

theorem xor_scramble_lt : d ^^^ scramble < 2 ^ 520 := by
  have hs := scramble_lt
  generalize 520 = n at hd hs ⊢
  exact Nat.xor_lt_two_pow hd hs

theorem codeword_encodeFrame : codeword (encodeFrame d) = (d ^^^ scramble) * 2 ^ 24 + bchCheck (d ^^^ scramble) := by
  have hm := xor_scramble_lt hd
  have hc := bchCheck_lt (d ^^^ scramble)
  rw [encodeFrame, Nat.mod_eq_of_lt hd, codeword, BitVec.toNat_ofNat]
  generalize d ^^^ scramble = m at hm hc ⊢
  generalize bchCheck m = c at hc ⊢
  have hwide : m + 2 ^ 520 * c < 2 ^ 544 := by
    rw [show 544 = 520 + 24 from rfl, Nat.pow_add]
    generalize 520 = n at hm ⊢
    have hstep : 2 ^ n * (c + 1) ≤ 2 ^ n * 2 ^ 24 := Nat.mul_le_mul_left _ hc
    rw [Nat.mul_succ] at hstep
    omega
  rw [Nat.mod_eq_of_lt hwide, Nat.add_mul_mod_self_left, Nat.mod_eq_of_lt hm,
    Nat.add_mul_div_left _ _ (Nat.two_pow_pos 520), Nat.div_eq_of_lt hm, Nat.zero_add]

theorem syndrome_encodeFrame : syndrome (encodeFrame d) = 0 := by
  have hm := xor_scramble_lt hd
  rw [syndrome, codeword_encodeFrame hd, bitsDown_mul_add 520 _ _ (bchCheck_lt _), bchRem_append, bchCheck_eq hm]
  exact bchRem_append_check (bchRem_lt _ (by decide))

end frame

/-- A frame of syndrome zero is taken as it came. -/
theorem decodeFrame_of_syndrome_zero {f : BitVec 544} (h : syndrome f = 0) :
    decodeFrame f = some (codeword f / 2 ^ 24 % 2 ^ 520 ^^^ scramble, 0) := by
  rw [decodeFrame, if_pos h]

/-- A frame formed at the source is read back. -/
theorem decodeFrame_encodeFrame {d : Nat} (hd : d < 2 ^ 520) : decodeFrame (encodeFrame d) = some (d, 0) := by
  rw [decodeFrame_of_syndrome_zero (syndrome_encodeFrame hd), codeword_encodeFrame hd, Nat.mul_comm, Nat.mul_add_div (Nat.two_pow_pos 24),
    Nat.div_eq_of_lt (bchCheck_lt _), Nat.add_zero, Nat.mod_eq_of_lt (xor_scramble_lt hd), Nat.xor_assoc, Nat.xor_self, Nat.xor_zero]

/-! ### Fields of a packed register -/

/-- Fields that stand from bit `lo` up pack into a multiple of 2^lo. -/
theorem two_pow_dvd_packNat {n : Nat} (fs : List (Nat × Nat × Nat)) : ∀ {lo}, Stacked n lo fs → 2 ^ lo ∣ packNat fs := by
  induction fs with
  | nil => exact fun _ => Nat.dvd_zero _
  | cons f fs ih =>
    obtain ⟨at_, w, v⟩ := f
    rintro lo ⟨hlo, hfs⟩
    have hfield : 2 ^ lo ∣ 2 ^ at_ * (v % 2 ^ w) := Nat.dvd_mul_right_of_dvd (Nat.pow_dvd_pow 2 hlo) _
    have hrest : 2 ^ lo ∣ packNat fs := Nat.dvd_trans (Nat.pow_dvd_pow 2 (by omega)) (ih hfs)
    exact Nat.dvd_add hfield hrest

theorem Stacked.le_of_mem {n at_ w v : Nat} {fs : List (Nat × Nat × Nat)} : ∀ {lo}, Stacked n lo fs → (at_, w, v) ∈ fs → lo ≤ at_ := by
  induction fs with
  | nil => exact fun _ h => nomatch h
  | cons f fs ih =>
    obtain ⟨at', w', v'⟩ := f
    rintro lo ⟨hlo, hfs⟩ hmem
    obtain heq | hmem := List.mem_cons.1 hmem
    · cases heq
      exact hlo
    · exact Nat.le_trans (Nat.le_trans hlo (Nat.le_add_right _ _)) (ih hfs hmem)

/-- A field of a register whose fields stand one above the other reads what was packed. -/
theorem packNat_field {n at_ w v : Nat} (fs : List (Nat × Nat × Nat)) :
    ∀ {lo}, Stacked n lo fs → (at_, w, v) ∈ fs → packNat fs / 2 ^ at_ % 2 ^ w = v % 2 ^ w := by
  induction fs with
  | nil => exact fun _ h => nomatch h
  | cons f fs ih =>
    obtain ⟨at', w', v'⟩ := f
    rintro lo ⟨hlo, hfs⟩ hmem
    obtain ⟨q, hq⟩ := two_pow_dvd_packNat fs hfs
    rw [packNat]
    obtain heq | hmem := List.mem_cons.1 hmem
    · cases heq
      rw [hq, Nat.pow_add, Nat.mul_assoc, ← Nat.mul_add, Nat.mul_div_cancel_left _ (Nat.two_pow_pos _), Nat.add_mul_mod_self_left, Nat.mod_mod]
    · have habove : at' + w' ≤ at_ := Stacked.le_of_mem hfs hmem
      obtain ⟨k, rfl⟩ := Nat.exists_eq_add_of_le habove
      have hlow : 2 ^ at' * (v' % 2 ^ w') < 2 ^ (at' + w') := by
        rw [Nat.pow_add]
        exact Nat.mul_lt_mul_of_pos_left (Nat.mod_lt _ (Nat.two_pow_pos _)) (Nat.two_pow_pos _)
      rw [← ih hfs hmem, hq, Nat.pow_add (n := k), ← Nat.div_div_eq_div_mul, ← Nat.div_div_eq_div_mul,
        Nat.add_mul_div_left _ _ (Nat.two_pow_pos _), Nat.div_eq_of_lt hlow, Nat.zero_add, Nat.mul_div_cancel_left _ (Nat.two_pow_pos _)]

/-! ### Bytes -/

theorem leBytes_leNat (bs : List Byte) : leBytes bs.length (leNat bs) = bs := by
  induction bs with
  | nil => rfl
  | cons b bs ih =>
    have hb : b.toNat < 256 := b.isLt
    have hhead : BitVec.ofNat 8 (b.toNat + 256 * leNat bs) = b := by
      apply BitVec.eq_of_toNat_eq
      rw [BitVec.toNat_ofNat]
      omega
    have htail : (b.toNat + 256 * leNat bs) / 256 = leNat bs := by omega
    rw [List.length_cons, leNat, leBytes_succ, hhead, htail, ih]

/-- Pieces of `w` bytes, one after the other, are the whole. -/
theorem flatMap_leBytes_pieces (w n : Nat) (bs : List Byte) (h : bs.length = w * n) :
    ((List.range n).map fun i => leNat ((bs.drop (w * i)).take w)).flatMap (leBytes w) = bs := by
  induction n generalizing bs with
  | zero => exact (List.eq_nil_of_length_eq_zero h).symm
  | succ n ih =>
    have hfirst : (bs.take w).length = w := by
      rw [List.length_take, h, Nat.mul_succ]
      omega
    have hrest : (bs.drop w).length = w * n := by
      rw [List.length_drop, h, Nat.mul_succ]
      omega
    have hpieces (i : Nat) : (bs.drop (w * (i + 1))).take w = ((bs.drop w).drop (w * i)).take w := by
      rw [List.drop_drop, Nat.mul_succ, Nat.add_comm]
    have hhead := leBytes_leNat (bs.take w)
    rw [hfirst] at hhead
    rw [List.range_succ_eq_map, List.map_cons, List.flatMap_cons, List.map_map, Nat.mul_zero, List.drop_zero, hhead]
    simp only [Function.comp_def, Nat.succ_eq_add_one, hpieces]
    rw [ih _ hrest, List.take_append_drop]

/-! ### CRC-32 (R174) -/

theorem crcBit_lt_two_pow {c : Nat} (h : c < 2 ^ 32) : crcBit c < 2 ^ 32 := by
  rw [crcBit]
  split
  · exact Nat.xor_lt_two_pow (by omega) (by decide)
  · omega

theorem crcByte_lt_two_pow {c : Nat} (b : Byte) (h : c < 2 ^ 32) : crcByte c b < 2 ^ 32 := by
  have hin : c ^^^ b.toNat < 2 ^ 32 := Nat.xor_lt_two_pow h (Nat.lt_trans b.isLt (by decide))
  rw [crcByte]
  iterate 8 apply crcBit_lt_two_pow
  exact hin

theorem crc32_lt_two_pow (bs : List Byte) : crc32 bs < 2 ^ 32 := by
  have hfold (l : List Byte) : ∀ c, c < 2 ^ 32 → l.foldl crcByte c < 2 ^ 32 := by
    induction l with
    | nil => exact fun _ h => h
    | cons b l ih => exact fun _ h => ih _ (crcByte_lt_two_pow b h)
  exact Nat.xor_lt_two_pow (hfold bs _ (by decide)) (by decide)

/-! ### Packets (R174, R175) -/

/-- The fields of a packet's header. -/
def pktFields (p : SPkt) : List (Nat × Nat × Nat) :=
  [(0, 6, p.dst), (6, 6, p.src), (12, 4, p.type_), (16, 16, p.tag.toNat), (32, 10, p.gen.toNat), (42, 11, p.length), (53, 1, p.poison.toNat),
    (54, 3, p.status), (57, 3, p.space), (60, 4, p.aop.toNat), (64, 64, p.addr.toNat)]

/-- The packet that a header and data bytes spell. -/
def pktOf (h : Nat) (data : List Byte) : SPkt where
  dst := h / 2 ^ 0 % 2 ^ 6
  src := h / 2 ^ 6 % 2 ^ 6
  type_ := h / 2 ^ 12 % 2 ^ 4
  tag := BitVec.ofNat 16 (h / 2 ^ 16 % 2 ^ 16)
  gen := BitVec.ofNat 10 (h / 2 ^ 32 % 2 ^ 10)
  length := h / 2 ^ 42 % 2 ^ 11
  poison := bit h 53
  status := h / 2 ^ 54 % 2 ^ 3
  space := h / 2 ^ 57 % 2 ^ 3
  aop := BitVec.ofNat 4 (h / 2 ^ 60 % 2 ^ 4)
  addr := BitVec.ofNat 64 (h / 2 ^ 64 % 2 ^ 64)
  data := data

/-- The number of data bytes that a header announces: a READ_REQ carries none. -/
def pktDataLen (h : Nat) : Nat := if h / 2 ^ 12 % 2 ^ 4 = 0 then 0 else h / 2 ^ 42 % 2 ^ 11

/-- The bytes of a packet that its CRC covers. -/
def pktBody (p : SPkt) : List Byte := leBytes 16 (pktHeader p) ++ p.data

/-- The bytes of a packet's frames. -/
def pktBytes (p : SPkt) : List Byte :=
  pktBody p ++ List.replicate (64 * framesOf p.data.length - 4 - (pktBody p).length) 0 ++ leBytes 4 (crc32 (pktBody p))

theorem pktRead_eq {ps : List Nat} {bs : List Byte} (h : ps.flatMap (leBytes 64) = bs) :
    pktRead ps = if ps.length = framesOf (pktDataLen (leNat (bs.take 16))) ∧ pktDataLen (leNat (bs.take 16)) ≤ 1024 ∧
        crc32 (bs.take (16 + pktDataLen (leNat (bs.take 16)))) = leNat (bs.drop (bs.length - 4)) then
      some (pktOf (leNat (bs.take 16)) ((bs.drop 16).take (pktDataLen (leNat (bs.take 16))))) else none := by
  subst h
  rfl

section packet
variable (p : SPkt)

theorem pktHeader_eq : pktHeader p = packNat (pktFields p) := rfl

theorem stacked_pktFields : Stacked 128 0 (pktFields p) := by simp [pktFields, Stacked]

theorem pktHeader_lt : pktHeader p < 256 ^ 16 := Nat.lt_of_succ_le (packNat_add_two_pow_le _ 0 (stacked_pktFields p))

theorem length_pktBody : (pktBody p).length = 16 + p.data.length := by
  rw [pktBody, List.length_append, length_leBytes]

/-- The frames of a packet hold its header, its data and its CRC. -/
theorem length_pktBytes : (pktBytes p).length = 64 * framesOf p.data.length := by
  have hroom : 20 + p.data.length ≤ 64 * framesOf p.data.length := by
    rw [framesOf]
    omega
  rw [pktBytes, List.length_append, List.length_append, List.length_replicate, length_leBytes, length_pktBody]
  omega

theorem flatMap_pktPayloads : (pktPayloads p).flatMap (leBytes 64) = pktBytes p :=
  flatMap_leBytes_pieces 64 (framesOf p.data.length) (pktBytes p) (length_pktBytes p)

theorem length_pktPayloads : (pktPayloads p).length = framesOf p.data.length := by
  rw [pktPayloads, List.length_map, List.length_range]

theorem take_pktBytes : (pktBytes p).take (16 + p.data.length) = pktBody p := by
  rw [pktBytes, List.append_assoc, List.take_left' (length_pktBody p)]

theorem take_pktBytes_header : (pktBytes p).take 16 = leBytes 16 (pktHeader p) := by
  rw [pktBytes, pktBody, List.append_assoc, List.append_assoc, List.take_left' (length_leBytes _ _)]

theorem drop_pktBytes_header : ((pktBytes p).drop 16).take p.data.length = p.data := by
  rw [pktBytes, pktBody, List.append_assoc, List.append_assoc, List.drop_left' (length_leBytes _ _), List.take_left' rfl]

theorem drop_pktBytes_crc : (pktBytes p).drop ((pktBytes p).length - 4) = leBytes 4 (crc32 (pktBody p)) := by
  refine List.drop_left' ?_
  rw [pktBytes, List.length_append (bs := leBytes 4 _), length_leBytes, Nat.add_sub_cancel]

variable {p}

theorem pktHeader_field {at_ w v : Nat} (h : (at_, w, v) ∈ pktFields p) (hv : v < 2 ^ w) : pktHeader p / 2 ^ at_ % 2 ^ w = v := by
  rw [pktHeader_eq, packNat_field _ (stacked_pktFields p) h, Nat.mod_eq_of_lt hv]

theorem bit_pktHeader_poison : bit (pktHeader p) 53 = p.poison := by
  have h := pktHeader_field (p := p) (at_ := 53) (w := 1) (v := p.poison.toNat) (by simp [pktFields]) p.poison.toNat_lt
  rw [Nat.pow_one] at h
  rw [bit, h]
  cases p.poison <;> rfl

/-- Every field of a header reads what was packed. -/
theorem pktOf_pktHeader (hdst : p.dst < 64) (hsrc : p.src < 64) (htype : p.type_ < 16) (hstatus : p.status < 8) (hspace : p.space < 8)
    (hlen : p.length < 2048) : pktOf (pktHeader p) p.data = p := by
  have field {at_ w v : Nat} := pktHeader_field (p := p) (at_ := at_) (w := w) (v := v)
  rw [pktOf, bit_pktHeader_poison, field (at_ := 0) (v := p.dst) (by simp [pktFields]) hdst, field (v := p.src) (by simp [pktFields]) hsrc,
    field (v := p.type_) (by simp [pktFields]) htype, field (v := p.tag.toNat) (by simp [pktFields]) p.tag.isLt,
    field (v := p.gen.toNat) (by simp [pktFields]) p.gen.isLt, field (v := p.length) (by simp [pktFields]) hlen,
    field (v := p.status) (by simp [pktFields]) hstatus, field (v := p.space) (by simp [pktFields]) hspace,
    field (v := p.aop.toNat) (by simp [pktFields]) p.aop.isLt, field (v := p.addr.toNat) (by simp [pktFields]) p.addr.isLt]
  simp only [BitVec.ofNat_toNat, BitVec.setWidth_eq]

/-- A packet is read back from the payloads of its frames. -/
theorem pktRead_pktPayloads (hdst : p.dst < 64) (hsrc : p.src < 64) (htype : p.type_ < 16) (hstatus : p.status < 8) (hspace : p.space < 8)
    (hlen : p.length < 2048) (hmost : p.data.length ≤ 1024) (hread : p.type_ = 0 → p.data = []) (hdata : p.type_ ≠ 0 → p.length = p.data.length) :
    pktRead (pktPayloads p) = some p := by
  have hhead : leNat ((pktBytes p).take 16) = pktHeader p := by
    rw [take_pktBytes_header, leNat_leBytes, Nat.mod_eq_of_lt (pktHeader_lt p)]
  have hcount : pktDataLen (pktHeader p) = p.data.length := by
    rw [pktDataLen, pktHeader_field (v := p.type_) (by simp [pktFields]) htype, pktHeader_field (v := p.length) (by simp [pktFields]) hlen]
    split
    case isTrue h => rw [hread h, List.length_nil]
    case isFalse h => exact hdata h
  have hcrc : leNat ((pktBytes p).drop ((pktBytes p).length - 4)) = crc32 (pktBody p) := by
    rw [drop_pktBytes_crc, leNat_leBytes]
    exact Nat.mod_eq_of_lt (crc32_lt_two_pow _)
  rw [pktRead_eq (flatMap_pktPayloads p), hhead, hcount, drop_pktBytes_header, pktOf_pktHeader hdst hsrc htype hstatus hspace hlen]
  exact if_pos ⟨length_pktPayloads p, hmost, by rw [take_pktBytes, hcrc]⟩

end packet

end Sys2Proof.Machine
end

section
/-! PROOFS. The Skein base layer (R171-R179, R186, R196). -/

namespace Sys2Proof.Machine

/-! ### Senders and receivers -/

section tables
variable {s : State} {id : BitVec 32} {stn : Nat}

theorem State.wf_modRcv (f : Receiver → Receiver) (h : Tab.wf s.skein.rcv {} = true) : Tab.wf (s.modRcv id stn f).skein.rcv {} = true := Tab.wf_mod _ f h
theorem State.rcv_modRcv (f : Receiver → Receiver) (h : Tab.wf s.skein.rcv {} = true) : (s.modRcv id stn f).rcv id stn = f (s.rcv id stn) :=
  Tab.get_mod_same _ f h
theorem State.snd_modSnd (f : Sender → Sender) (h : Tab.wf s.skein.snd {} = true) : (s.modSnd id f).snd id = f (s.snd id) := Tab.get_mod_same _ f h

end tables

/-! ### The drops that receive (R209, R210, R214) -/

section drops
variable {s : State} {id : BitVec 32} {stn : Nat} {b : Bob}

theorem State.dropOf_of_bob (h : s.bobById id = some b) : s.dropOf id stn =
    if b.kind = 3 || s.isFenced stn || (decide (id.toNat ≥ 2 ^ 31) && bit s.creel.pruned stn) then none
    else (b.drops.find? fun d => decide (d.1 = stn)).map fun d => (b, d.2) := by
  rw [State.dropOf, h]

theorem State.dropOf_of_no_bob (h : s.bobById id = none) : s.dropOf id stn = none := by
  rw [State.dropOf, h]

theorem State.dropOf_of_fenced (h : s.isFenced stn = true) : s.dropOf id stn = none := by
  cases hb : s.bobById id with
  | none => exact State.dropOf_of_no_bob hb
  | some b => rw [State.dropOf_of_bob hb, h, Bool.or_true, Bool.true_or, if_pos rfl]

theorem State.dropOf_of_ply (h : s.bobById id = some b) (hk : b.kind = 3) : s.dropOf id stn = none := by
  rw [State.dropOf_of_bob h, decide_eq_true hk, Bool.true_or, Bool.true_or, if_pos rfl]

theorem State.dropOf_of_not_drop (h : s.bobById id = some b) (hd : ∀ d ∈ b.drops, d.1 ≠ stn) : s.dropOf id stn = none := by
  have hfind : (b.drops.find? fun d => decide (d.1 = stn)) = none := List.find?_eq_none.2 fun d hm => by simpa using hd d hm
  rw [State.dropOf_of_bob h, hfind, Option.map_none, ite_self]

/-- A drop that is neither fenced nor pruned receives. -/
theorem State.dropOf_of_drop (h : s.bobById id = some b) (hk : b.kind ≠ 3) (hf : s.isFenced stn = false) (hp : bit s.creel.pruned stn = false)
    (hd : ∃ d ∈ b.drops, d.1 = stn) : ∃ k, s.dropOf id stn = some (b, k) := by
  have hfind : (b.drops.find? fun d => decide (d.1 = stn)).isSome = true := by simpa using hd
  obtain ⟨d, hsome⟩ := Option.isSome_iff_exists.1 hfind
  refine ⟨d.2, ?_⟩
  rw [State.dropOf_of_bob h, hf, hp, decide_eq_false hk, Bool.and_false, hsome]
  rfl

end drops

/-! ### FRAME_RECEIVE (R169-R171, R173)

The proofs put variables for a frame's syndrome and for what it decodes to, both of which are long computations. -/

/-- The counts of a frame of 544 bits that the drop ring `k` of a station receives on a bobbin, `n` of them corrected (R173). -/
def State.seenFrame (s : State) (b : Bob) (stn k n ue : Nat) : State :=
  ((s.modLoop b.loop fun y => y.count (8 * stn + k) n 544 ue).bump Ctr.skeinCeBits b.loop n).bump Ctr.skeinUeFrame b.loop ue

section frames
variable {s : State} {id : BitVec 32} {stn : Stn} {f : BitVec 544}

theorem exec_frameReceive : exec (.frameReceive id stn f) s = execFrameReceive id stn f s := rfl

theorem exec_frameReceive_of_no_drop (h : s.dropOf id stn = none) : exec (.frameReceive id stn f) s = .next s := by
  rw [exec_frameReceive, execFrameReceive, h]

section received
variable {b : Bob} {k : Nat} (h : s.dropOf id stn = some (b, k))
include h

section hunt
variable (ha : (s.rcv id stn).align = .hunt)
include ha

theorem exec_frameReceive_of_hunt_found (hf : syndrome f = 0) : exec (.frameReceive id stn f) s =
    .next ((s.seenFrame b stn k 0 0).modRcv id stn fun x => { x with align := .presync, run := 0 }) := by
  rw [exec_frameReceive, execFrameReceive, h]
  generalize syndrome f = y at hf ⊢
  generalize decodeFrame f = z
  simp [ha, hf, State.seenFrame]

theorem exec_frameReceive_of_hunt_missed (hf : syndrome f ≠ 0) : exec (.frameReceive id stn f) s =
    .next ((s.seenFrame b stn k 0 0).modRcv id stn fun x => { x with run := x.run + 1 }) := by
  rw [exec_frameReceive, execFrameReceive, h]
  generalize syndrome f = y at hf ⊢
  generalize decodeFrame f = z
  simp [ha, hf, State.seenFrame]

end hunt

section presync
variable (ha : (s.rcv id stn).align = .presync)
include ha

theorem exec_frameReceive_of_presync_lost (hf : decodeFrame f = none) : exec (.frameReceive id stn f) s =
    .next ((s.seenFrame b stn k 0 1).modRcv id stn fun x => { x with align := .hunt, run := 0 }) := by
  rw [exec_frameReceive, execFrameReceive, h, hf]
  generalize syndrome f = y
  simp [ha, State.seenFrame]

theorem exec_frameReceive_of_presync_sixth {d n : Nat} (hf : decodeFrame f = some (d, n)) (hr : 5 ≤ (s.rcv id stn).run) :
    exec (.frameReceive id stn f) s = .next ((s.seenFrame b stn k n 0).modRcv id stn fun x =>
      { x with align := .sync, run := 0, dark := false, expect := none, packet := none }) := by
  rw [exec_frameReceive, execFrameReceive, h, hf]
  generalize syndrome f = y
  simp [ha, hr, State.seenFrame]

theorem exec_frameReceive_of_presync_early {d n : Nat} (hf : decodeFrame f = some (d, n)) (hr : (s.rcv id stn).run < 5) :
    exec (.frameReceive id stn f) s = .next ((s.seenFrame b stn k n 0).modRcv id stn fun x => { x with run := x.run + 1 }) := by
  rw [exec_frameReceive, execFrameReceive, h, hf]
  generalize syndrome f = y
  simp [ha, Nat.not_le.2 hr, State.seenFrame]

end presync

section sync
variable (ha : (s.rcv id stn).align = .sync)
include ha

theorem exec_frameReceive_of_sync {d n : Nat} (hf : decodeFrame f = some (d, n)) : exec (.frameReceive id stn f) s =
    .next ((s.seenFrame b stn k n 0).syncFrame id stn d) := by
  rw [exec_frameReceive, execFrameReceive, h, hf]
  generalize syndrome f = y
  simp [ha, State.seenFrame]

theorem exec_frameReceive_of_sync_missed (hf : decodeFrame f = none) (hr : (s.rcv id stn).run < 6) :
    let e := (s.rcv id stn).expect.getD ((s.rcv id stn).last + 1)
    exec (.frameReceive id stn f) s =
      .next (((s.seenFrame b stn k 0 1).framesLost id stn e e).modRcv id stn fun x => { x with run := x.run + 1, expect := none }) := by
  rw [exec_frameReceive, execFrameReceive, h, hf]
  generalize syndrome f = y
  simp [ha, Nat.not_le.2 hr, State.seenFrame]

/-- SYNC is lost at the seventh uncorrectable frame in a row. -/
theorem exec_frameReceive_of_sync_lost (hf : decodeFrame f = none) (hr : 6 ≤ (s.rcv id stn).run) :
    let e := (s.rcv id stn).expect.getD ((s.rcv id stn).last + 1)
    exec (.frameReceive id stn f) s =
      .next ((((s.seenFrame b stn k 0 1).framesLost id stn e e).modRcv id stn fun x => { x with align := .hunt, expect := none }).darkNotice id stn) := by
  rw [exec_frameReceive, execFrameReceive, h, hf]
  generalize syndrome f = y
  simp [ha, hr, State.seenFrame]

end sync
end received

/-! ### HUNT_TIMEOUT (R171) -/

theorem exec_huntTimeout : exec (.huntTimeout id stn) s = execHuntTimeout id stn s := rfl

theorem exec_huntTimeout_of_due (ha : (s.rcv id stn).align = .hunt) (hr : 64 ≤ (s.rcv id stn).run) :
    exec (.huntTimeout id stn) s = .next (s.darkNotice id stn) := by
  simp [exec_huntTimeout, execHuntTimeout, ha, hr]

theorem exec_huntTimeout_of_found (ha : (s.rcv id stn).align ≠ .hunt) : exec (.huntTimeout id stn) s = .next s := by
  simp [exec_huntTimeout, execHuntTimeout, ha]

theorem exec_huntTimeout_of_early (hr : (s.rcv id stn).run < 64) : exec (.huntTimeout id stn) s = .next s := by
  simp [exec_huntTimeout, execHuntTimeout, Nat.not_le.2 hr]

end frames

/-! ### Frames that are lost (R177) -/

section lost
variable {s : State} {id : BitVec 32} {stn d : Nat}

theorem State.framesLost_of_packets (h : s.rawRx id stn = none) (lo hi : BitVec 5) : s.framesLost id stn lo hi =
    (s.bump Ctr.skeinNak (s.loopOfBob id)).modRcv id stn fun x => { x with nak := some (lo, hi), packet := none } := by
  rw [State.framesLost, h]
  rfl

theorem State.pktFrame_of_idle (h : frameKind d = 0) : s.pktFrame id stn d = s.modRcv id stn fun x => { x with packet := none } := by
  simp [State.pktFrame, nextPacket, h]

/-- The packet frame or IDLE frame that shows a loss: the NAK names the frames between, and the packet in hand is broken. -/
theorem State.syncFrame_of_gap {e : BitVec 5} (he : (s.rcv id stn).expect = some e) (hne : e ≠ frameSeq d)
    (hk : frameKind d = 0) : s.syncFrame id stn d = (((s.framesLost id stn e (frameSeq d - 1)).modRcv id stn fun x =>
      { x with run := 0, expect := some (frameSeq d) }).modRcv id stn fun x => { x with packet := none }) := by
  simp [State.syncFrame, he, hne, hk, State.pktFrame_of_idle]

theorem State.rcv_syncFrame_of_gap {e : BitVec 5} (hw : Tab.wf s.skein.rcv {} = true) (he : (s.rcv id stn).expect = some e) (hne : e ≠ frameSeq d)
    (hx : s.rawRx id stn = none) (hk : frameKind d = 0) :
    ((s.syncFrame id stn d).rcv id stn).nak = some (e, frameSeq d - 1) ∧ ((s.syncFrame id stn d).rcv id stn).packet = none := by
  have hw0 : Tab.wf (s.bump Ctr.skeinNak (s.loopOfBob id)).skein.rcv {} = true := hw
  rw [State.syncFrame_of_gap he hne hk, State.framesLost_of_packets hx, State.rcv_modRcv _ (State.wf_modRcv _ (State.wf_modRcv _ hw0)),
    State.rcv_modRcv _ (State.wf_modRcv _ hw0), State.rcv_modRcv _ hw0]
  exact ⟨rfl, rfl⟩

end lost

/-! ### PACKET_RECEIVE (R174, R175) -/

section packets
variable {s : State} {id : BitVec 32} {stn : Stn} {p : SPkt}

theorem exec_packetReceive (ok : Bool) : exec (.packetReceive id stn p ok) s = execPacketReceive id stn p ok s := rfl

theorem exec_packetReceive_of_broken : exec (.packetReceive id stn p false) s = .next s := rfl

theorem exec_packetReceive_of_other (h : p.dst ≠ stn.val) : exec (.packetReceive id stn p true) s = .next s := by
  rw [exec_packetReceive, execPacketReceive, State.when_true, State.packetCame, decide_eq_false h, Bool.false_and, State.when_false]

theorem isAnswer_eq_true (h : p.type_ = 1 ∨ p.type_ = 3 ∨ p.type_ = 5) : isAnswer p = true := by
  simp [isAnswer, h, or_assoc]

theorem isAnswer_eq_false (h : p.type_ ≠ 1 ∧ p.type_ ≠ 3 ∧ p.type_ ≠ 5) : isAnswer p = false := by
  simp [isAnswer, h]

/-- The packet names the station, a drop of the bobbin, and the bobbin's source. -/
def State.addressed (s : State) (id : BitVec 32) (stn : Nat) (p : SPkt) : Prop :=
  ∃ b, s.bobById id = some b ∧ b.src = p.src ∧ p.dst = stn ∧ ∃ d ∈ b.drops, d.1 = stn

section addressed
variable (h : s.addressed id stn p)
include h

theorem State.packetCame_of_addressed : s.packetCame id stn p =
    let s1 := s.retried id p.tag.toNat
    if stn.val ≥ 16 then s1
    else if (s.reg stn).state = .reset then s1.when (!isAnswer p) fun s => s.answerPkt stn p 1
    else (s1.gateIn stn p).pktHere stn p := by
  obtain ⟨b, hb, hsrc, hdst, hdrop⟩ := h
  have hany : (b.drops.any fun d => decide (d.1 = stn.val)) = true := by simpa using hdrop
  rw [State.packetCame, hb]
  simp only [hdst, hsrc, hany, decide_true, Bool.and_self, State.when_true]

theorem exec_packetReceive_of_memory (hn : 16 ≤ stn.val) : exec (.packetReceive id stn p true) s = .next (s.retried id p.tag.toNat) := by
  rw [exec_packetReceive, execPacketReceive, State.when_true, State.packetCame_of_addressed h]
  exact congrArg _ (if_pos hn)

section region
variable (hn : stn.val < 16)
include hn

section reset
variable (hr : (s.reg stn).state = .reset)
include hr

theorem exec_packetReceive_of_reset : exec (.packetReceive id stn p true) s =
    .next ((s.retried id p.tag.toNat).when (!isAnswer p) fun s => s.answerPkt stn p 1) := by
  rw [exec_packetReceive, execPacketReceive, State.when_true, State.packetCame_of_addressed h]
  exact congrArg _ ((if_neg (Nat.not_le.2 hn)).trans (if_pos hr))

theorem exec_packetReceive_of_reset_answer (ht : p.type_ = 1 ∨ p.type_ = 3 ∨ p.type_ = 5) :
    exec (.packetReceive id stn p true) s = .next (s.retried id p.tag.toNat) := by
  rw [exec_packetReceive_of_reset h hn hr, isAnswer_eq_true ht, Bool.not_true, State.when_false]

theorem exec_packetReceive_of_reset_request (ht : p.type_ ≠ 1 ∧ p.type_ ≠ 3 ∧ p.type_ ≠ 5) :
    exec (.packetReceive id stn p true) s = .next ((s.retried id p.tag.toNat).answerPkt stn p 1) := by
  rw [exec_packetReceive_of_reset h hn hr, isAnswer_eq_false ht, Bool.not_false, State.when_true]

end reset

theorem exec_packetReceive_of_running (hr : (s.reg stn).state ≠ .reset) : exec (.packetReceive id stn p true) s =
    .next (((s.retried id p.tag.toNat).gateIn stn p).pktHere stn p) := by
  rw [exec_packetReceive, execPacketReceive, State.when_true, State.packetCame_of_addressed h]
  exact congrArg _ ((if_neg (Nat.not_le.2 hn)).trans (if_neg hr))

end region
end addressed

/-! ### What a packet does at a station (R174, R175) -/

section here
variable {n : Nat}

theorem State.pktHere_of_answer (ht : p.type_ = 1 ∨ p.type_ = 3 ∨ p.type_ = 5) (htag : p.tag.toNat / 4096 = n) :
    s.pktHere n p = s.reply p.tag p.gen p.status p.poison p.data := by
  obtain ht | ht | ht := ht <;> simp [State.pktHere, ht, htag]

theorem State.pktHere_of_read (ht : p.type_ = 0) (hs : p.space = 0) (hv : sramValid p.addr.toNat p.length = true)
    (hr : regionOfSram p.addr.toNat = n) (hbad : s.mems.sramBad p.addr.toNat p.length = false) :
    s.pktHere n p = s.answerPkt n p 0 false (s.mems.sram.read p.addr.toNat p.length) := by
  simp [State.pktHere, ht, hs, hv, hr, hbad]

theorem State.pktHere_of_write (ht : p.type_ = 2) (hs : p.space = 0) (hv : sramValid p.addr.toNat p.data.length = true)
    (hr : regionOfSram p.addr.toNat = n) (hu : s.unanswered p = false) :
    s.pktHere n p = (s.storeSram p.addr.toNat p.data p.poison).answerPkt n p 0 := by
  simp [State.pktHere, ht, hs, hv, hr, hu]

theorem State.pktHere_of_elsewhere (ht : p.type_ = 0 ∨ p.type_ = 2) (ha : p.space ≠ 0 ∨ regionOfSram p.addr.toNat ≠ n) :
    s.pktHere n p = s.answerPkt n p 2 := by
  obtain ht | ht := ht <;> obtain ha | ha := ha <;> simp [State.pktHere, ht, ha]

end here
end packets

/-! ### Retry (R171, R177, R186) -/

section retry
variable {s : State} {id : BitVec 32}

/-- A bobbin that carries only IDLE frames keeps its log, and the packet waits. -/
theorem State.snd_sendOn_of_idles (hw : Tab.wf s.skein.snd {} = true) (h : s.idles id = true) (p : SPkt) :
    (s.sendOn id p).snd id = { s.snd id with queue := (s.snd id).queue ++ [p] } := by
  change (s.modSnd id fun x => if s.idles id then { x with queue := x.queue ++ [p] } else x.flush.send p).snd id = _
  rw [State.snd_modSnd _ hw, h, if_pos rfl]

theorem exec_nak (lo hi : BitVec 5) :
    exec (.nak id lo hi) s = .next (s.reissueAll id fun q => decide ((q - lo).toNat ≤ (hi - lo).toNat)) := rfl

theorem State.reissueAll_eq (p : BitVec 5 → Bool) : s.reissueAll id p =
    s.forEach ((s.snd id).sent.filter fun k => (s.snd id).log.any fun e => decide (e.2 = k.tag.toNat) && p (frameSeq e.1)) fun k (u : State) =>
      u.reissue id (s.loopOfBob id) k := rfl

/-- The state in which a bobbin has forgotten a packet: its failed sends, its frames and itself. -/
def State.forgets (s : State) (id : BitVec 32) (p : SPkt) : State :=
  s.modSnd id fun y => { y with
    fails := y.fails.set 0 p.tag.toNat 0, log := y.log.filter fun e => decide (e.2 ≠ p.tag.toNat), sent := y.sent.filter fun q => decide (q.tag ≠ p.tag) }

section reissue
variable {p : SPkt} (loop : Nat)

/-- The fourth failed send stamps SKEIN_RETRY. -/
theorem State.reissue_of_fourth (h : 3 ≤ (s.snd id).fails.get 0 p.tag.toNat) : s.reissue id loop p = (s.forgets id p).stamp 0x0401 p.src p.src :=
  if_pos (Nat.succ_le_succ h)

variable (h : (s.snd id).fails.get 0 p.tag.toNat < 3)
include h

theorem State.reissue_of_bobbin {dest : BitVec 32} (hd : (s.forgets id p).otherBob id loop p = some dest) : s.reissue id loop p =
    ((s.forgets id p).sendOn dest ((s.forgets id p).again p)).modSnd dest fun y =>
      { y with fails := y.fails.set 0 p.tag.toNat ((s.snd id).fails.get 0 p.tag.toNat + 1) } := by
  refine (if_neg (Nat.not_le.2 (Nat.succ_lt_succ h))).trans ?_
  rw [State.forgets] at hd
  rw [hd]
  rfl

theorem State.reissue_of_no_bobbin (hd : (s.forgets id p).otherBob id loop p = none) : s.reissue id loop p = s.forgets id p := by
  refine (if_neg (Nat.not_le.2 (Nat.succ_lt_succ h))).trans ?_
  rw [State.forgets] at hd
  rw [hd]
  rfl

end reissue

/-! ### DARK and SYNC_NOTICE (R186) -/

/-- The state in which a bobbin's source sends IDLE frames only from now on and has reissued the packets after the last SEQ accepted. -/
def State.goesDark (s : State) (id : BitVec 32) (last : BitVec 5) : State :=
  (s.modSnd id fun x => { x with idleOnly := true, darkAt := s.time.lea }).reissueAll id fun q => ((s.snd id).after last).contains q

theorem exec_dark_of_bob {b : Bob} (h : s.bobById id = some b) (last : BitVec 5) : exec (.dark id last) s =
    .next ((s.goesDark id last).forEach b.rings fun r (u : State) => u.modRing r fun x => { x with passed := 0 }) := by
  change execDark id last s = _
  rw [execDark, h]
  rfl

theorem exec_dark_of_no_bob (h : s.bobById id = none) (last : BitVec 5) : exec (.dark id last) s = .next (s.goesDark id last) := by
  change execDark id last s = _
  rw [execDark, h]
  rfl

theorem exec_syncNotice : exec (.syncNotice id) s = .next ((s.modSnd id fun x => { x with idleOnly := false }).when
    (!(s.modSnd id fun x => { x with idleOnly := false }).idles id) fun s => s.modSnd id (·.flush)) := rfl

/-- What waited goes out with the notice, unless the grant's IDLE frames have not passed. -/
theorem exec_syncNotice_of_open (h : (s.modSnd id fun x => { x with idleOnly := false }).idles id = false) :
    exec (.syncNotice id) s = .next ((s.modSnd id fun x => { x with idleOnly := false }).modSnd id (·.flush)) := by
  rw [exec_syncNotice, h, Bool.not_false, State.when_true]

theorem exec_syncNotice_of_idles (h : (s.modSnd id fun x => { x with idleOnly := false }).idles id = true) :
    exec (.syncNotice id) s = .next (s.modSnd id fun x => { x with idleOnly := false }) := by
  rw [exec_syncNotice, h, Bool.not_true, State.when_false]

theorem exec_darkBobbinTimeout : exec (.darkBobbinTimeout id) s = execDarkBobbinTimeout id s := rfl

theorem exec_darkBobbinTimeout_of_early (h : (s.snd id).idleOnly = false ∨ since (s.snd id).darkAt s.time.lea < 2000000) :
    exec (.darkBobbinTimeout id) s = .next s := by
  obtain h | h := h <;> simp [exec_darkBobbinTimeout, execDarkBobbinTimeout, State.elapsed, h, Nat.not_le.2]

theorem exec_darkBobbinTimeout_of_due (hd : (s.snd id).idleOnly = true) (h : 2000000 ≤ since (s.snd id).darkAt s.time.lea) :
    exec (.darkBobbinTimeout id) s = .next (((s.withdraw [s.nowId id]).modSnd id fun y => { y with idleOnly := false }).fire
      (0x200 + s.loopOfBob id) 0 (s.loopOfBob id) id.toNat) := by
  simp [exec_darkBobbinTimeout, execDarkBobbinTimeout, State.elapsed, hd, h]

end retry

/-! ### Raw streams (R178, R179, R196) -/

section raw
variable {s : State} {id : BitVec 32} {c : Nat} {q : DescSt}

section acknowledged
variable {stn : Stn} {final : Bool}

theorem exec_rawCheckAck : exec (.rawCheckAck id stn final) s = execRawCheckAck id stn final s := rfl

theorem exec_rawCheckAck_of_no_stream (h : s.rawTx id = none) : exec (.rawCheckAck id stn final) s = .next s := by
  rw [exec_rawCheckAck, execRawCheckAck, h, ite_self]

theorem exec_rawCheckAck_of_fenced (h : s.isFenced stn = true) : exec (.rawCheckAck id stn final) s = .next s := by
  simp [exec_rawCheckAck, execRawCheckAck, h]

theorem exec_rawCheckAck_of_pruned (h : bit s.creel.pruned stn = true) : exec (.rawCheckAck id stn final) s = .next s := by
  simp [exec_rawCheckAck, execRawCheckAck, h]

section drop
variable {b : Bob} (htx : s.rawTx id = some (c, q)) (hb : s.bobById id = some b) (hd : ∃ d ∈ b.drops, d.1 = stn.val)
    (hf : s.isFenced stn = false) (hp : bit s.creel.pruned stn = false)
include htx hb hd hf hp

/-- The acknowledgement of a drop in service lets the stream go on. -/
theorem exec_rawCheckAck_of_drop : exec (.rawCheckAck id stn final) s =
    .next ((s.touchSlot c q.no).when (final && (s.rcv id stn).finished) fun s => s.modSnd id fun x => { x with acked := x.acked ||| 2 ^ stn.val }) := by
  have hany : (b.drops.any fun d => decide (d.1 = stn.val)) = true := by simpa using hd
  simp [exec_rawCheckAck, execRawCheckAck, htx, hb, hany, hf, hp]

theorem exec_rawCheckAck_of_unfinished (h : final = false ∨ (s.rcv id stn).finished = false) :
    exec (.rawCheckAck id stn final) s = .next (s.touchSlot c q.no) := by
  rw [exec_rawCheckAck_of_drop htx hb hd hf hp, Bool.and_eq_false_iff.2 h, State.when_false]

theorem exec_rawCheckAck_of_finished (hl : final = true) (h : (s.rcv id stn).finished = true) : exec (.rawCheckAck id stn final) s =
    .next ((s.touchSlot c q.no).modSnd id fun x => { x with acked := x.acked ||| 2 ^ stn.val }) := by
  rw [exec_rawCheckAck_of_drop htx hb hd hf hp, hl, h, Bool.and_self, State.when_true]

end drop
end acknowledged

section frozen
variable {stn : Nat} (hrx : s.rawRx id stn = some (c, q)) (hz : (s.blk (blockOfCell c)).frozen = true) (d : Nat)
include hrx hz

theorem State.rawFrame_of_frozen : s.rawFrame id stn d = if (s.rcv id stn).waiting.length ≥ 64 then (s.touchSlot c q.no).rawFault id stn 0x0403
    else (s.touchSlot c q.no).modRcv id stn fun x => { x with waiting := x.waiting ++ [d] } := by
  rw [State.rawFrame, hrx]
  exact if_pos hz

theorem State.rawFrame_of_room (h : (s.rcv id stn).waiting.length < 64) :
    s.rawFrame id stn d = (s.touchSlot c q.no).modRcv id stn fun x => { x with waiting := x.waiting ++ [d] } := by
  rw [State.rawFrame_of_frozen hrx hz, if_neg (Nat.not_le.2 h)]

theorem State.rawFrame_of_overflow (h : 64 ≤ (s.rcv id stn).waiting.length) : s.rawFrame id stn d = (s.touchSlot c q.no).rawFault id stn 0x0403 := by
  rw [State.rawFrame_of_frozen hrx hz, if_pos h]

end frozen
end raw

/-! ### The statement -/

/-- Settles O48: each instruction by the case that it is in; a frame is read back because the remainder modulo g is additive, and a packet
because its bytes are cut into whole frames. The model's choices among them: the code 0 of source 0x200 + loop when a dark bobbin is withdrawn
(log 85), and the answer NOT_PRESENT of a station in RESET to a packet that is neither READ_REQ, WRITE nor ATOMIC (log 138). -/
theorem framesAndPacketsAreReceived : Obligations.FramesAndPacketsAreReceived := by
  unfold Obligations.FramesAndPacketsAreReceived
  refine ⟨?frame, ?drop, ?gap, ?hunt, ?zero, ?code, ?packet, ?receive, ?wait, ?nak, ?reissueAll, ?reissue, ?dark, ?sync, ?timeout, ?ack, ?frozen⟩
  case frame =>
    exact fun s id stn f b k h => ⟨exec_frameReceive_of_hunt_found h, exec_frameReceive_of_hunt_missed h, exec_frameReceive_of_presync_lost h,
      fun _ _ ha hf => exec_frameReceive_of_presync_sixth h ha hf, fun _ _ ha hf => exec_frameReceive_of_presync_early h ha hf,
      fun _ _ ha hf => exec_frameReceive_of_sync h ha hf, exec_frameReceive_of_sync_missed h, exec_frameReceive_of_sync_lost h⟩
  case drop =>
    exact fun s id stn => ⟨fun h _ => exec_frameReceive_of_no_drop h, State.dropOf_of_no_bob, State.dropOf_of_fenced, fun b hb =>
      ⟨State.dropOf_of_ply hb, State.dropOf_of_not_drop hb, State.dropOf_of_drop hb⟩⟩
  case gap => exact fun s id stn d e hw he hne hx hk => State.rcv_syncFrame_of_gap hw he hne hx hk
  case hunt => exact fun s id stn => ⟨exec_huntTimeout_of_due, exec_huntTimeout_of_found, exec_huntTimeout_of_early⟩
  case zero => exact fun f => decodeFrame_of_syndrome_zero
  case code => exact fun d => decodeFrame_encodeFrame
  case packet => exact fun p => pktRead_pktPayloads
  case receive =>
    intro s id stn p
    refine ⟨exec_packetReceive_of_broken, exec_packetReceive_of_other, fun b hb hsrc hdst hdrop => ?_⟩
    have h : s.addressed id stn p := ⟨b, hb, hsrc, hdst, hdrop⟩
    refine ⟨exec_packetReceive_of_memory h, fun hn hr => ⟨exec_packetReceive_of_reset_answer h hn hr, exec_packetReceive_of_reset_request h hn hr⟩,
      fun hn hr _ => ?_⟩
    rw [exec_packetReceive_of_running h hn hr]
    exact ⟨fun ht htag => congrArg _ (State.pktHere_of_answer ht htag),
      fun ht hs hv hreg hbad => congrArg _ (State.pktHere_of_read ht hs hv hreg hbad),
      fun ht hs hv hreg hu => congrArg _ (State.pktHere_of_write ht hs hv hreg hu),
      fun ht ha => congrArg _ (State.pktHere_of_elsewhere ht ha)⟩
  case wait =>
    intro s id p hw h
    rw [State.snd_sendOn_of_idles hw h]
    exact ⟨rfl, rfl⟩
  case nak => exact fun s id => exec_nak
  case reissueAll => exact fun s id => State.reissueAll_eq
  case reissue =>
    exact fun s id loop p => ⟨State.reissue_of_fourth loop, fun _ h hd => State.reissue_of_bobbin loop h hd, State.reissue_of_no_bobbin loop⟩
  case dark => exact fun s id last b => ⟨fun h => exec_dark_of_bob h last, fun h => exec_dark_of_no_bob h last⟩
  case sync => exact fun s id => ⟨exec_syncNotice_of_open, exec_syncNotice_of_idles⟩
  case timeout => exact fun s id => ⟨exec_darkBobbinTimeout_of_early, exec_darkBobbinTimeout_of_due⟩
  case ack =>
    exact fun s id stn final => ⟨exec_rawCheckAck_of_no_stream, exec_rawCheckAck_of_fenced, exec_rawCheckAck_of_pruned,
      fun b c q htx hb hd hf hp => ⟨exec_rawCheckAck_of_unfinished htx hb hd hf hp, exec_rawCheckAck_of_finished htx hb hd hf hp⟩⟩
  case frozen => exact fun s id stn d c q hrx hz => ⟨State.rawFrame_of_room hrx hz d, State.rawFrame_of_overflow hrx hz d⟩

end Sys2Proof.Machine
end

section
/-! PROOFS. Rings and loops (R173, R181-R185, R200): what a pilot window, resonance, a timeout and a detuned ring do in each state of the ring,
how a loop's window is read out and judged, and the statement that they settle. -/

namespace Sys2Proof.Machine

/-! ### Identity windows (R181, R183, R185) -/

section rings
variable {s : State} {i : RingIx}

section identity
variable {pilot : Option Line}

theorem exec_identityWindow : exec (.identityWindow i pilot) s = execIdentityWindow i pilot s := rfl

theorem exec_identityWindow_of_no_ring (he : ringExists i = false) : exec (.identityWindow i pilot) s = .next s := by
  simp [exec_identityWindow, execIdentityWindow, he]

section existing
variable (he : ringExists i = true)
include he

section verify
variable (hs : (s.ring (ringIx i)).state = .verify)
include hs

theorem exec_identityWindow_of_verify_other (hp : pilot.map (·.val) ≠ some (s.ringLine (ringIx i))) :
    exec (.identityWindow i pilot) s = .next (s.attemptFails (ringIx i)).locksDone := by
  simp [exec_identityWindow, execIdentityWindow, he, hs, hp]

variable (hp : pilot.map (·.val) = some (s.ringLine (ringIx i)))
include hp

/-- The second window in a row on the ring's line locks it. -/
theorem exec_identityWindow_of_verify_second (h : 1 ≤ (s.ring (ringIx i)).passed) :
    exec (.identityWindow i pilot) s = .next (s.ringLocked (ringIx i)) := by
  simp [exec_identityWindow, execIdentityWindow, he, hs, hp, h]

theorem exec_identityWindow_of_verify_first (h : (s.ring (ringIx i)).passed = 0) :
    exec (.identityWindow i pilot) s = .next (s.modRing (ringIx i) fun x => { x with passed := 1 }) := by
  simp [exec_identityWindow, execIdentityWindow, he, hs, hp, h]

end verify

section locked
variable (hs : (s.ring (ringIx i)).state = .locked)
include hs

theorem exec_identityWindow_of_locked_same (hp : pilot.map (·.val) = some (s.ringLine (ringIx i))) :
    exec (.identityWindow i pilot) s = .next s := by
  simp [exec_identityWindow, execIdentityWindow, he, hs, hp]

theorem exec_identityWindow_of_locked_other (hp : pilot.map (·.val) ≠ some (s.ringLine (ringIx i))) :
    exec (.identityWindow i pilot) s = .next ((s.bump Ctr.pilotMismatch i.loop).muteRing (ringIx i)) := by
  simp [exec_identityWindow, execIdentityWindow, he, hs, hp]

end locked
end existing
end identity

/-! ### Resonance, timeout and muting (R183) -/

theorem exec_resonanceHeld : exec (.resonanceHeld i) s = execResonanceHeld i s := rfl
theorem exec_lockTimeout : exec (.lockTimeout i) s = execLockTimeout i s := rfl
theorem exec_ringMuteDone : exec (.ringMuteDone i) s = execRingMuteDone i s := rfl

section locks
variable (h : (s.ring (ringIx i)).state = .locking ∨ (s.ring (ringIx i)).state = .relock)
include h

theorem exec_resonanceHeld_of_locks :
    exec (.resonanceHeld i) s = .next (s.modRing (ringIx i) fun x => { x with state := .verify, passed := 0 }) := by
  obtain h | h := h <;> simp [exec_resonanceHeld, execResonanceHeld, h]

theorem exec_lockTimeout_of_locks : exec (.lockTimeout i) s = .next (s.attemptFails (ringIx i)).locksDone := by
  obtain h | h := h <;> simp [exec_lockTimeout, execLockTimeout, h]

end locks

section rests
variable (hl : (s.ring (ringIx i)).state ≠ .locking) (hr : (s.ring (ringIx i)).state ≠ .relock)
include hl hr

theorem exec_resonanceHeld_of_rests : exec (.resonanceHeld i) s = .next s := by
  rw [exec_resonanceHeld, execResonanceHeld]
  split
  case h_1 h => exact absurd h hl
  case h_2 h => exact absurd h hr
  case h_3 => rfl

theorem exec_lockTimeout_of_rests : exec (.lockTimeout i) s = .next s := by
  rw [exec_lockTimeout, execLockTimeout]
  split
  case h_1 h => exact absurd h hl
  case h_2 h => exact absurd h hr
  case h_3 => rfl

end rests

theorem exec_ringMuteDone_of_muted (h : (s.ring (ringIx i)).state = .muted) :
    exec (.ringMuteDone i) s = .next ((s.bump Ctr.ringRelock i.loop).modRing (ringIx i) fun x => { x with state := .relock }) := by
  simp [exec_ringMuteDone, execRingMuteDone, h]

theorem exec_ringMuteDone_of_not_muted (h : (s.ring (ringIx i)).state ≠ .muted) : exec (.ringMuteDone i) s = .next s := by
  rw [exec_ringMuteDone, execRingMuteDone]
  split
  case h_1 hs => exact absurd hs h
  case h_2 => rfl

end rings

/-! ### Locked rings and failed attempts (R183, R184) -/

section attempts
variable {s : State} {r : Nat}

/-- Lighting a DEMAND bobbin changes no ring. -/
theorem State.ring_lightDemand (q : Nat) : (s.lightDemand r).ring q = s.ring q := by
  rw [State.lightDemand]
  refine State.forEach_keeps (·.ring q) ?_ _ _
  exact fun _ _ => rfl

theorem State.ringLocked_eq : s.ringLocked r = State.locksDone (State.lightDemand
    { s.modRing r fun x => { x with state := .locked, attempts := 0, passed := 0 } with
      creel := { s.creel with retune := s.creel.retune.filter (· ≠ r) } } r) := rfl

variable (hw : Tab.wf s.skein.ring s.skein.ringDefault = true)
include hw

theorem State.ringLocked_holds : ∃ u : State, s.ringLocked r = u.locksDone ∧ (u.ring r).state = .locked ∧ (u.ring r).attempts = 0 ∧
    ∀ q, q ≠ r → u.ring q = s.ring q := by
  have hlocked := State.ring_modRing (n := r) (fun x => { x with state := .locked, attempts := 0, passed := 0 }) hw
  refine ⟨_, State.ringLocked_eq, ?_, ?_, fun q hq => ?_⟩ <;> rw [State.ring_lightDemand]
  · exact congrArg (·.state) hlocked
  · exact congrArg (·.attempts) hlocked
  · exact State.ring_modRing_other _ hw hq

theorem State.ring_attemptFails (h : (s.ring r).attempts < 2) :
    (s.attemptFails r).ring r = { s.ring r with state := .relock, attempts := (s.ring r).attempts + 1, passed := 0 } := by
  rw [State.attemptFails, if_neg (Nat.not_le.2 h)]
  exact State.ring_modRing _ hw

omit hw in
/-- The third attempt that fails makes the ring FAULTY. -/
theorem State.attemptFails_of_third (h : 2 ≤ (s.ring r).attempts) : s.attemptFails r = s.faultRings [r] := if_pos h

end attempts

/-! ### A window of a loop (R173, R200) -/

/-- The state in which the bits of a window have been counted for a loop's drop rings, and its uncorrectable frames for the loop. -/
def State.countWindow (s : State) (n : Loop) (rings : List RingBer) (ue : Nat) : State :=
  s.modLoop n fun x => rings.foldl (fun x r => x.count (8 * r.stn.val + r.n.val) r.corrected r.bits 0) { x with ue := x.ue + ue }

section window
variable {s : State} {n : Loop} {rings : List RingBer} {ue : Nat}

theorem exec_skeinHealthWindow : exec (.skeinHealthWindow n rings ue) s = execSkeinHealthWindow n rings ue s := rfl

theorem exec_skeinHealthWindow_of_usable (h : (s.loopSt n).state.usable = true) :
    exec (.skeinHealthWindow n rings ue) s = .next ((s.countWindow n rings ue).judgeLoop n) := by
  rw [exec_skeinHealthWindow, execSkeinHealthWindow]
  cases hs : (s.loopSt n).state with
  | active | advisory => rfl
  | dark | locking | withdrawn => rw [hs] at h; exact absurd h (by decide)

theorem exec_skeinHealthWindow_of_tested (h : (s.loopSt n).state = .locking) (hq : s.creel.requal.isSome = true) :
    exec (.skeinHealthWindow n rings ue) s = .next ((s.countWindow n rings ue).judgeTest n).tryRequal := by
  rw [exec_skeinHealthWindow, execSkeinHealthWindow, h, hq]
  rfl

theorem exec_skeinHealthWindow_of_untested (h : (s.loopSt n).state = .locking) (hq : s.creel.requal = none) :
    exec (.skeinHealthWindow n rings ue) s = .next s := by
  rw [exec_skeinHealthWindow, execSkeinHealthWindow, h, hq]
  rfl

theorem exec_skeinHealthWindow_of_unlit (hu : (s.loopSt n).state.usable = false) (h : (s.loopSt n).state ≠ .locking) :
    exec (.skeinHealthWindow n rings ue) s = .next s := by
  rw [exec_skeinHealthWindow, execSkeinHealthWindow]
  cases hs : (s.loopSt n).state with
  | active | advisory => rw [hs] at hu; exact absurd hu (by decide)
  | locking => exact absurd hs h
  | dark | withdrawn => rfl

end window

/-! ### What a window's end leaves (R173, R189) -/

section next
variable {x : LoopSt}

theorem LoopSt.full_eq_true (h : 10 ^ 9 ≤ x.bits) : x.full = true := decide_eq_true h
theorem LoopSt.full_eq_false (h : x.bits < 10 ^ 9) : x.full = false := decide_eq_false (Nat.not_le.2 h)

/-- A short window goes on into the next, but for the rings that were judged. -/
theorem LoopSt.next_of_short (h : x.bits < 10 ^ 9) : x.next = { x with rings := x.rings.filter fun r => decide (r.2.2 < 10 ^ 9) } := by
  rw [LoopSt.next, LoopSt.full_eq_false h]
  rfl

/-- A complete window is read out, and the loop's counts begin afresh. -/
theorem LoopSt.next_of_full (h : 10 ^ 9 ≤ x.bits) : x.next =
    { x with rings := x.rings.filter fun r => decide (r.2.2 < 10 ^ 9), ueFrames := min x.ue 255, berLog := Machine.berLog x.corrected x.bits
             worstStn := (worstRing x.rings).1 / 8, corrected := 0, bits := 0, ue := 0 } := by
  rw [LoopSt.next, LoopSt.full_eq_true h]
  rfl

theorem LoopSt.next_rings : x.next.rings = x.rings.filter fun r => decide (r.2.2 < 10 ^ 9) := by
  rw [LoopSt.next]
  split <;> rfl

variable {k c b : Nat} (h : (k, c, b) ∈ x.rings)
include h

/-- The window of a ring goes on exactly when it is short. -/
theorem LoopSt.mem_next_rings : b < 10 ^ 9 ↔ (k, c, b) ∈ x.next.rings := by
  simp only [LoopSt.next_rings, List.mem_filter, decide_eq_true_eq, h, true_and]

theorem LoopSt.mem_badRings (hb : 10 ^ 9 ≤ b) (hc : b < c * 10 ^ 7) : k ∈ x.badRings := by
  have hdue : (k, c, b) ∈ x.due := List.mem_filter.2 ⟨h, decide_eq_true hb⟩
  exact List.mem_map.2 ⟨(k, c, b), List.mem_filter.2 ⟨hdue, decide_eq_true hc⟩, rfl⟩

end next

/-! ### The judgement of a usable loop (R173) -/

section judged
variable {s : State} {n : Nat}

theorem berAbove_eq_false {c b e : Nat} (h : c * 10 ^ e ≤ b) : berAbove c b e = false := decide_eq_false (Nat.not_lt.2 h)

/-- With two drop rings above 1e-7 the loop is withdrawn. -/
theorem State.judgeLoop_of_two (h : 2 ≤ (s.loopSt n).badRings.length) : s.judgeLoop n = (s.modLoop n LoopSt.next).withdrawLoops [n] 1 := by
  rw [State.judgeLoop]
  match hbad : (s.loopSt n).badRings with
  | [] | [_] => rw [hbad] at h; exact absurd h (by simp)
  | k :: l :: ks => simp

section quiet
variable (h : (s.loopSt n).badRings = [])
include h

theorem State.judgeLoop_of_none : s.judgeLoop n =
    if (s.loopSt n).full && berAbove (s.loopSt n).corrected (s.loopSt n).bits 7 then (s.modLoop n LoopSt.next).withdrawLoops [n] 1
    else (s.modLoop n LoopSt.next).when (s.loopSt n).full fun u => u.advise n (berAbove (s.loopSt n).corrected (s.loopSt n).bits 9) := by
  rw [State.judgeLoop, h]
  simp

theorem State.judgeLoop_of_short (hb : (s.loopSt n).bits < 10 ^ 9) : s.judgeLoop n = s.modLoop n LoopSt.next := by
  rw [State.judgeLoop_of_none h, LoopSt.full_eq_false hb]
  rfl

variable (hb : 10 ^ 9 ≤ (s.loopSt n).bits)
include hb

/-- Above 1e-7 the loop is withdrawn. -/
theorem State.judgeLoop_of_bad (hc : (s.loopSt n).bits < (s.loopSt n).corrected * 10 ^ 7) :
    s.judgeLoop n = (s.modLoop n LoopSt.next).withdrawLoops [n] 1 := by
  have hber : berAbove (s.loopSt n).corrected (s.loopSt n).bits 7 = true := decide_eq_true hc
  rw [State.judgeLoop_of_none h, LoopSt.full_eq_true hb, hber]
  rfl

theorem State.judgeLoop_of_good (hc : (s.loopSt n).corrected * 10 ^ 7 ≤ (s.loopSt n).bits) : s.judgeLoop n =
    (s.modLoop n LoopSt.next).advise n (decide ((s.loopSt n).bits < (s.loopSt n).corrected * 10 ^ 9)) := by
  rw [State.judgeLoop_of_none h, LoopSt.full_eq_true hb, berAbove_eq_false hc]
  rfl

end quiet

section one
variable {k : Nat} (h : (s.loopSt n).badRings = [k])
include h

/-- One drop ring above 1e-7 is FAULTED. -/
theorem State.judgeLoop_of_one : s.judgeLoop n =
    if (s.loopSt n).full && berAbove (s.loopSt n).corrected (s.loopSt n).bits 7 then
      ((s.modLoop n LoopSt.next).faultRings [dropRing n k]).withdrawLoops [n] 1
    else ((s.modLoop n LoopSt.next).faultRings [dropRing n k]).when (s.loopSt n).full fun u =>
      u.advise n (berAbove (s.loopSt n).corrected (s.loopSt n).bits 9) := by
  rw [State.judgeLoop, h]
  simp

theorem State.judgeLoop_of_one_short (hb : (s.loopSt n).bits < 10 ^ 9) :
    s.judgeLoop n = (s.modLoop n LoopSt.next).faultRings [dropRing n k] := by
  rw [State.judgeLoop_of_one h, LoopSt.full_eq_false hb]
  rfl

theorem State.judgeLoop_of_one_good (hb : 10 ^ 9 ≤ (s.loopSt n).bits) (hc : (s.loopSt n).corrected * 10 ^ 7 ≤ (s.loopSt n).bits) :
    s.judgeLoop n = ((s.modLoop n LoopSt.next).faultRings [dropRing n k]).advise n
      (decide ((s.loopSt n).bits < (s.loopSt n).corrected * 10 ^ 9)) := by
  rw [State.judgeLoop_of_one h, LoopSt.full_eq_true hb, berAbove_eq_false hc]
  rfl

end one
end judged

/-! ### ADVISORY (R173) -/

/-- A loop's record after a window whose estimate stands above 1e-9, or does not. -/
def LoopSt.advised (x : LoopSt) (hot : Bool) : LoopSt :=
  let h := if hot then min (x.hot + 1) 2 else 0
  let c := if hot then 0 else min (x.cool + 1) 2
  { x with hot := h, cool := c, ber := decide (h = 2) || (x.ber && decide (c < 2)) }

theorem LoopSt.ber_advised_hot {x : LoopSt} (h : 1 ≤ x.hot) : (x.advised true).ber = true := by
  have htwo : min (x.hot + 1) 2 = 2 := by omega
  simp [LoopSt.advised, htwo]

theorem LoopSt.ber_advised_cool {x : LoopSt} (h : 1 ≤ x.cool) : (x.advised false).ber = false := by
  have htwo : min (x.cool + 1) 2 = 2 := by omega
  simp [LoopSt.advised, htwo]

/-- The state that a loop's estimate gives it. -/
def LoopSt.flagged (x : LoopSt) : LoopState := if x.ber then .advisory else .active

section flag
variable {s : State} {n : Nat}

theorem State.advise_eq (hot : Bool) : s.advise n hot = (s.modLoop n (·.advised hot)).loopFlag n := rfl

theorem State.loopFlag_of_same (h : (s.loopSt n).state = (s.loopSt n).flagged) : s.loopFlag n = s := by
  rw [LoopSt.flagged] at h
  simp [State.loopFlag, ← h]

theorem State.loopFlag_of_change (hu : (s.loopSt n).state.usable = true) (h : (s.loopSt n).state ≠ (s.loopSt n).flagged) : s.loopFlag n =
    (s.modLoop n fun y => { y with state := (s.loopSt n).flagged }).fire (0x200 + n) 1 n (if (s.loopSt n).flagged = .advisory then 3 else 2) := by
  refine if_pos ?_
  rw [hu, Bool.true_and]
  exact decide_eq_true h

variable (hw : Tab.wf s.skein.loop {} = true) (hu : (s.loopSt n).state.usable = true)
include hw hu

/-- A usable loop is ADVISORY or ACTIVE as its estimate says. -/
theorem State.loopFlag_state : ((s.loopFlag n).loopSt n).state = (s.loopSt n).flagged := by
  by_cases h : (s.loopSt n).state = (s.loopSt n).flagged
  · rw [State.loopFlag_of_same h, h]
  · rw [State.loopFlag_of_change hu h]
    exact congrArg (·.state) (State.loopSt_modLoop _ hw)

theorem State.loopFlag_other {m : Nat} (hm : m ≠ n) : (s.loopFlag n).loopSt m = s.loopSt m := by
  by_cases h : (s.loopSt n).state = (s.loopSt n).flagged
  · rw [State.loopFlag_of_same h]
  · rw [State.loopFlag_of_change hu h]
    exact State.loopSt_modLoop_other _ hw hm

theorem State.usable_advised (hot : Bool) : ((s.modLoop n (·.advised hot)).loopSt n).state.usable = true := by
  rw [State.loopSt_modLoop _ hw]
  exact hu

theorem State.advise_state (hot : Bool) : ((s.advise n hot).loopSt n).state = ((s.loopSt n).advised hot).flagged := by
  rw [State.advise_eq, State.loopFlag_state (State.wf_modLoop _ hw) (State.usable_advised hw hu hot), State.loopSt_modLoop _ hw]

/-- The second window in a row above 1e-9 makes a loop ADVISORY. -/
theorem State.advise_hot (h : 1 ≤ (s.loopSt n).hot) : ((s.advise n true).loopSt n).state = .advisory := by
  rw [State.advise_state hw hu, LoopSt.flagged, LoopSt.ber_advised_hot h, if_pos rfl]

theorem State.advise_cool (h : 1 ≤ (s.loopSt n).cool) : ((s.advise n false).loopSt n).state = .active := by
  rw [State.advise_state hw hu, LoopSt.flagged, LoopSt.ber_advised_cool h, if_neg Bool.false_ne_true]

theorem State.advise_other {m : Nat} (hm : m ≠ n) (hot : Bool) : (s.advise n hot).loopSt m = s.loopSt m := by
  rw [State.advise_eq, State.loopFlag_other (State.wf_modLoop _ hw) (State.usable_advised hw hu hot) hm, State.loopSt_modLoop_other _ hw hm]

end flag

/-! ### BER_LOG (R189) -/

/-- BER_LOG is a number of tenths at which the estimate stands, or the end of its range. -/
theorem berLog_holds {a b : Nat} (ha : 0 < a) (h : a < b) : berLog a b < 255 ∧ a ^ 10 * 10 ^ berLog a b ≤ b ^ 10 := by
  have hzero : decide (a ^ 10 * 10 ^ 0 ≤ b ^ 10) = true := by
    rw [Nat.pow_zero, Nat.mul_one]
    exact decide_eq_true (Nat.pow_le_pow_left (Nat.le_of_lt h) 10)
  have hsome : ((List.range 255).reverse.find? fun t => decide (a ^ 10 * 10 ^ t ≤ b ^ 10)).isSome = true :=
    List.find?_isSome.2 ⟨0, List.mem_reverse.2 (List.mem_range.2 (by decide)), hzero⟩
  obtain ⟨t, ht⟩ := Option.isSome_iff_exists.1 hsome
  have hlog : berLog a b = t := by
    rw [berLog, if_neg (Nat.ne_of_gt ha), ht]
    rfl
  have hholds := List.find?_some ht
  rw [hlog]
  exact ⟨List.mem_range.1 (List.mem_reverse.1 (List.mem_of_find?_eq_some ht)), of_decide_eq_true hholds⟩

theorem berLog_zero (b : Nat) : berLog 0 b = 255 := if_pos rfl

/-! ### The statement -/

/-- Settles O49: each instruction by the state of the ring or loop that it finds, a loop's judgement by the rings above 1e-7 and by whether its
window is complete, and the others from what a change of one ring or loop leaves. That the offset of a ring in RELOCK is applied in a later
step, so that RESONANCE_HELD and LOCK_TIMEOUT act on RELOCK as on LOCKING, is the model's choice (log 142). -/
theorem ringsLockAndLoopsAreJudged : Obligations.RingsLockAndLoopsAreJudged := by
  unfold Obligations.RingsLockAndLoopsAreJudged
  refine ⟨?ring, ?attempt, ?window, ?judge, ?advise, fun _ _ ha _ h => berLog_holds ha h, berLog_zero⟩
  case ring =>
    exact fun s i => ⟨fun _ he => ⟨exec_identityWindow_of_verify_other he, exec_identityWindow_of_verify_second he,
        exec_identityWindow_of_verify_first he, exec_identityWindow_of_locked_same he, exec_identityWindow_of_locked_other he⟩,
      fun _ => exec_identityWindow_of_no_ring, fun h => ⟨exec_resonanceHeld_of_locks h, exec_lockTimeout_of_locks h⟩,
      fun hl hr => ⟨exec_resonanceHeld_of_rests hl hr, exec_lockTimeout_of_rests hl hr⟩, exec_ringMuteDone_of_muted, exec_ringMuteDone_of_not_muted⟩
  case attempt =>
    intro s r hw
    refine ⟨State.ringLocked_holds hw, fun h => ?_, State.attemptFails_of_third⟩
    rw [State.ring_attemptFails hw h]
    exact ⟨rfl, rfl⟩
  case window =>
    exact fun s n rings ue => ⟨exec_skeinHealthWindow_of_usable, exec_skeinHealthWindow_of_tested, exec_skeinHealthWindow_of_untested,
      exec_skeinHealthWindow_of_unlit⟩
  case judge =>
    intro s n
    refine ⟨fun hb h => State.judgeLoop_of_bad h hb, State.judgeLoop_of_two, fun hb h => State.judgeLoop_of_good h hb,
      fun k => State.judgeLoop_of_one_good, fun k => State.judgeLoop_of_one_short, State.judgeLoop_of_short, fun h => ?_, fun h => ?_,
      fun k c b h => ⟨LoopSt.mem_next_rings h, LoopSt.mem_badRings h⟩⟩
    · rw [LoopSt.next_of_short h]
      exact ⟨rfl, rfl, rfl, rfl⟩
    · rw [LoopSt.next_of_full h]
      exact ⟨rfl, rfl, rfl, rfl, rfl⟩
  case advise =>
    exact fun s n hw hu => ⟨State.advise_hot hw hu, State.advise_cool hw hu, fun m hm =>
      ⟨State.advise_other hw hu hm true, State.advise_other hw hu hm false⟩⟩

end Sys2Proof.Machine
end

section
/-! PROOFS. DEMAND bobbins and phase circuits (R190-R193, R204-R206): when a request is granted and when it is dropped, what the Creel does
1,000 ns before a LEA phase is due, at a barrier's release and at a switch point, what a retuned ring leaves, and the statement that they
settle. -/

namespace Sys2Proof.Machine

/-! ### DEMAND bobbins (R190, R192, R193) -/

@[simp] theorem State.assignRing_creel (s : State) (n line : Nat) : (s.assignRing n line).creel = s.creel := State.when_keeps (·.creel) rfl _

/-- A DEMAND bobbin is granted: its rings begin to lock on its line, and its sender and receivers begin afresh (R171, R183). -/
def State.beginDemand (s : State) (src dst : Stn) (i : Nat) (b : Bob) : State :=
  (s.forEach b.rings fun r u => u.assignRing r b.line).freshBob (packetId 1 src dst i, b) s.time.lea

theorem State.beginDemand_creel (s : State) (src dst : Stn) (i : Nat) (b : Bob) : (s.beginDemand src dst i b).creel = s.creel :=
  State.forEach_keeps (·.creel) (fun r u => State.assignRing_creel u r b.line) s b.rings

/-- The index of a pair's next DEMAND bobbin is one of 4 to 19, and no DEMAND bobbin of the pair has it. -/
theorem State.demandIndex_holds {s : State} {src dst i : Nat} (h : s.demandIndex src dst = some i) :
    4 ≤ i ∧ i ≤ 19 ∧ ∀ d ∈ s.creel.demand, d.src = src → d.dst = dst → d.index ≠ i := by
  obtain ⟨k, hk, rfl⟩ := List.mem_map.1 (List.mem_of_find?_eq_some h)
  have hlt := List.mem_range.1 hk
  have hfree := List.find?_some h
  refine ⟨by omega, by omega, fun d hd hsrc hdst hi => ?_⟩
  have hused : (s.creel.demand.any fun d => decide (d.src = src) && decide (d.dst = dst) && decide (d.index = k + 4)) = true :=
    List.any_eq_true.2 ⟨d, hd, by simp [hsrc, hdst, hi]⟩
  rw [hused] at hfree
  exact Bool.false_ne_true hfree

section demand
variable {s : State} {src dst : Stn}

theorem exec_demandRequest : exec (.demandRequest src dst) s = execDemandRequest src dst s := rfl

theorem exec_demandRequest_of_place {i : Nat} {b : Bob} (hne : src ≠ dst) (hsrc : s.isFenced src = false) (hdst : s.isFenced dst = false)
    (hold : ∀ g ∈ s.creel.grants, g.1 = 64 * src.val + dst.val → 10000 ≤ since g.2 s.time.lea) (hi : s.demandIndex src dst = some i)
    (hb : s.place s.demandUse.1 s.demandUse.2 { kind := 1, src := src, drops := [dst.val], i := i, sel := 15 } = some b) :
    let d : Demand := { src := src, dst := dst, index := i, bob := b, at_ := s.time.lea }
    let lit := s.beginDemand src dst i b
    exec (.demandRequest src dst) s = .next (({ lit with creel := { lit.creel with
      demand := lit.creel.demand ++ [d]
      grants := (64 * src.val + dst.val, s.time.lea) :: lit.creel.grants.filter fun g => decide (g.1 ≠ 64 * src.val + dst.val) } }).bump
        Ctr.creelGrant) := by
  have hrecent : (s.creel.grants.any fun g => decide (g.1 = 64 * src.val + dst.val) && decide (since g.2 s.time.lea < 10000)) = false := by
    simpa using hold
  simp only [exec_demandRequest, execDemandRequest, decide_eq_true hne, hsrc, hdst, hrecent, hi, hb, State.beginDemand, Bool.not_false,
    Bool.and_self, if_true, Option.bind_some, Option.map_some]

theorem exec_demandRequest_of_denied (h : src = dst ∨ s.isFenced src = true ∨ s.isFenced dst = true ∨
      ∃ g ∈ s.creel.grants, g.1 = 64 * src.val + dst.val ∧ since g.2 s.time.lea < 10000) :
    exec (.demandRequest src dst) s = .next (s.bump Ctr.demandDeny) := by
  have hclosed : (decide (src ≠ dst) && !s.isFenced src && !s.isFenced dst &&
      !s.creel.grants.any fun g => decide (g.1 = 64 * src.val + dst.val) && decide (since g.2 s.time.lea < 10000)) = false := by
    obtain h | h | h | ⟨g, hg, hpair, hsince⟩ := h
    · simp [h]
    · simp [h]
    · simp [h]
    · have hrecent : (s.creel.grants.any fun g => decide (g.1 = 64 * src.val + dst.val) && decide (since g.2 s.time.lea < 10000)) = true :=
        List.any_eq_true.2 ⟨g, hg, by simp [hpair, hsince]⟩
      rw [hrecent, Bool.not_true, Bool.and_false]
  simp only [exec_demandRequest, execDemandRequest, hclosed, Bool.false_eq_true, if_false]

section release
variable {id : BitVec 32} {d : Demand}

theorem exec_demandIdleRelease : exec (.demandIdleRelease id) s = execDemandIdleRelease id s := rfl

variable (hd : (s.creel.demand.find? fun d => decide (packetId 1 d.src d.dst d.index = id)) = some d)
include hd

theorem exec_demandIdleRelease_of_idle (hl : s.lit d.bob = true) (ht : 100000 ≤ since d.at_ s.time.lea) :
    exec (.demandIdleRelease id) s = .next (s.withdraw [id]) := by
  have hel : s.elapsed d.at_ 100000 = true := decide_eq_true ht
  simp only [exec_demandIdleRelease, execDemandIdleRelease, hd, hl, hel, Bool.and_self, State.when_true]

theorem exec_demandIdleRelease_of_used (h : s.lit d.bob = false ∨ since d.at_ s.time.lea < 100000) : exec (.demandIdleRelease id) s = .next s := by
  have hkeeps : (s.lit d.bob && s.elapsed d.at_ 100000) = false := by
    rcases h with hl | ht
    · rw [hl, Bool.false_and]
    · have hel : s.elapsed d.at_ 100000 = false := decide_eq_false (Nat.not_le.2 ht)
      rw [hel, Bool.and_false]
  simp only [exec_demandIdleRelease, execDemandIdleRelease, hd, hkeeps, State.when_false]

end release
end demand

/-! ### Phases (R204-R206) -/

section phases
variable {s : State} {r : Run} {p : Nat} {t : TableSt}

theorem State.modRun_of_run (hr : s.creel.run = some r) (f : Run → Run) :
    s.modRun f = { s with creel := { s.creel with run := some (f r) } } := by
  rw [State.modRun, hr]
  rfl

theorem exec_phaseDecision : exec .phaseDecision s = execPhaseDecision s := rfl
theorem exec_phaseBarrierTrigger (n : Nat) : exec (.phaseBarrierTrigger n) s = execPhaseBarrierTrigger n s := rfl
theorem exec_phaseSwitch (failed : List (BitVec 32 × Nat)) (ns : Nat) (w : List (PlyIx × PlyMeas)) :
    exec (.phaseSwitch failed ns w) s = execPhaseSwitch failed ns w s := rfl

/-- The state in which phase `p` has been switched in and the next switch is pending. -/
def State.switched (s : State) (t : TableSt) (r : Run) (p : Nat) (failed : List (BitVec 32 × Nat)) (ns : Nat) (w : List (PlyIx × PlyMeas)) : State :=
  (s.switchTo t r p failed ns w).pendNext t p (s.time.lea + BitVec.ofNat 64 ns) r.pauseEnd.isSome

/-- A table that is not resident begins to tune the rings of its next phase (R204). -/
def State.tuneNext (s : State) (t : TableSt) : State := s.when (!t.resident) fun u => match u.creel.run with
  | some r => match r.next with | some q => u.retuneFor (t.placed[q]?.getD []) | none => u
  | none => u

theorem State.tuneNext_of_resident (h : t.resident = true) : s.tuneNext t = s := by
  rw [State.tuneNext, h, Bool.not_true, State.when_false]

theorem State.tuneNext_of_streamed (h : t.resident = false) (hr : s.creel.run = some r) (hn : r.next = some p) :
    s.tuneNext t = s.retuneFor (t.placed[p]?.getD []) := by
  simp only [State.tuneNext, h, Bool.not_false, State.when_true, hr, hn]

/-- The state in which the Creel has noted the lowest region that is late for phase `p`, 63 when none is (R212). -/
def State.noteLate (s : State) (t : TableSt) (p : Nat) : State :=
  { s with creel := { s.creel with lateStn := ((takingPart t p).filter fun x => !s.regionReady x p).foldl min 63 } }

theorem State.ringsReady_noteLate (bs : List Bob) : (s.noteLate t p).ringsReady bs = s.ringsReady bs := rfl

section pending
variable (hr : s.creel.run = some r) (hn : r.next = some p) (ht : s.table r.handle = some t)
include hr hn ht

/-! #### PHASE_DECISION -/

section decision

theorem exec_phaseDecision_of_early (hb : before s.time.lea (dueAt t r p - 1000) = true) : exec .phaseDecision s = .next s := by
  simp only [exec_phaseDecision, execPhaseDecision, hr, hn, ht, hb, Bool.or_true, if_true]

variable (ha : r.armed = false) (hbar : s.nextIsBarrier = false) (hb : before s.time.lea (dueAt t r p - 1000) = false)
include ha hbar hb

/-- 1,000 ns before it is due a phase is armed or deferred, by whether its regions and rings are ready. -/
theorem exec_phaseDecision_of_due : exec .phaseDecision s = .next (
    if ((takingPart t p).filter fun x => !s.regionReady x p).isEmpty && s.ringsReady (t.placed[p]?.getD []) then
      (s.noteLate t p).modRun fun r => { r with armed := true }
    else (s.noteLate t p).defer t p 1 false) := by
  simp only [exec_phaseDecision, execPhaseDecision, hr, hn, ht, ha, hbar, hb, Bool.or_self, Bool.false_eq_true, if_false, State.noteLate]

theorem exec_phaseDecision_of_ready (hl : ((takingPart t p).filter fun x => !s.regionReady x p) = [])
    (hrings : (s.noteLate t p).ringsReady (t.placed[p]?.getD []) = true) :
    exec .phaseDecision s = .next { s.noteLate t p with creel := { (s.noteLate t p).creel with run := some { r with armed := true } } } := by
  rw [exec_phaseDecision_of_due hr hn ht ha hbar hb, hl, ← State.ringsReady_noteLate, hrings]
  exact congrArg _ (State.modRun_of_run (s := s.noteLate t p) hr _)

theorem exec_phaseDecision_of_late (hl : ((takingPart t p).filter fun x => !s.regionReady x p) ≠ []) :
    exec .phaseDecision s = .next ((s.noteLate t p).defer t p 1 false) := by
  rw [exec_phaseDecision_of_due hr hn ht ha hbar hb, List.isEmpty_eq_false_iff.2 hl]
  rfl

end decision

/-! #### PHASE_BARRIER_TRIGGER -/

section barrier
variable {n : Nat} {d : PhaseD} (hd : t.phases[p]? = some d)
include hd

theorem exec_phaseBarrierTrigger_of_named (hnone : r.trigger = none) (hb : d.barrier = true) (hid : d.barrierId = n) :
    exec (.phaseBarrierTrigger n) s =
      .next { s with creel := { s.creel with run := some { r with trigger := some s.time.lea } } } := by
  simp only [exec_phaseBarrierTrigger, execPhaseBarrierTrigger, hr, hn, ht, hd, hnone, hb, hid, decide_true, Option.isNone_none, Bool.and_self,
    State.when_true, State.modRun_of_run hr]

theorem exec_phaseBarrierTrigger_of_other (hid : d.barrierId ≠ n) : exec (.phaseBarrierTrigger n) s = .next s := by
  simp only [exec_phaseBarrierTrigger, execPhaseBarrierTrigger, hr, hn, ht, hd, hid, decide_false, Bool.and_false, Bool.false_and,
    State.when_false]

end barrier

/-! #### PHASE_SWITCH -/

section switch
variable {failed : List (BitVec 32 × Nat)} {ns : Nat} {w : List (PlyIx × PlyMeas)}

theorem exec_phaseSwitch_of_waiting (h : s.atSwitch t r p = false) : exec (.phaseSwitch failed ns w) s = .next s := by
  simp only [exec_phaseSwitch, execPhaseSwitch, hr, hn, ht, h, Bool.not_false, if_true]

variable (h : s.atSwitch t r p = true)
include h

/-- At its switch point a table that is to stop stops. -/
theorem exec_phaseSwitch_of_stopping (hs : r.stopping = true) : exec (.phaseSwitch failed ns w) s =
    .next (s.stopTable.endLops (fun l => decide (l.opcode = 0x0505)) .ok (result [(16, 2, r.live.getD 0)])) := by
  simp only [exec_phaseSwitch, execPhaseSwitch, hr, hn, ht, h, hs, Bool.not_true, Bool.false_eq_true, if_false, if_true]

variable (hs : r.stopping = false)
include hs

theorem exec_phaseSwitch_of_unready (hready : ¬(s.nextIsBarrier = false ∨ s.ringsReady (t.placed[p]?.getD []) = true)) :
    exec (.phaseSwitch failed ns w) s = .next s.waitBarrier := by
  obtain ⟨hbar, hrings⟩ := not_or.1 hready
  simp only [exec_phaseSwitch, execPhaseSwitch, hr, hn, ht, h, hs, Bool.eq_true_of_not_eq_false hbar, Bool.eq_false_of_not_eq_true hrings,
    Bool.not_true, Bool.not_false, Bool.false_eq_true, Bool.and_self, if_false, if_true]

variable (hready : s.nextIsBarrier = false ∨ s.ringsReady (t.placed[p]?.getD []) = true)
include hready

/-- The switch runs, and what the table's next phase needs goes on. -/
theorem exec_phaseSwitch_of_ready : exec (.phaseSwitch failed ns w) s = .next ((s.switched t r p failed ns w).tuneNext t) := by
  have hgo : (s.nextIsBarrier && !s.ringsReady (t.placed[p]?.getD [])) = false := by
    obtain hbar | hrings := hready
    · rw [hbar, Bool.false_and]
    · rw [hrings, Bool.not_true, Bool.and_false]
  simp only [exec_phaseSwitch, execPhaseSwitch, hr, hn, ht, h, hs, hgo, Bool.not_true, Bool.false_eq_true, if_false]
  rfl

theorem exec_phaseSwitch_of_resident (hres : t.resident = true) : exec (.phaseSwitch failed ns w) s = .next (s.switched t r p failed ns w) := by
  rw [exec_phaseSwitch_of_ready hr hn ht h hs hready, State.tuneNext_of_resident hres]

theorem exec_phaseSwitch_of_streamed {u : Run} {q : Nat} (hres : t.resident = false) (hu : (s.switched t r p failed ns w).creel.run = some u)
    (hq : u.next = some q) :
    exec (.phaseSwitch failed ns w) s = .next ((s.switched t r p failed ns w).retuneFor (t.placed[q]?.getD [])) := by
  rw [exec_phaseSwitch_of_ready hr hn ht h hs hready, State.tuneNext_of_streamed hres hu hq]

end switch
end pending
end phases

/-! ### Retuned rings (R204) -/

section retuned
variable {s : State} {i : RingIx}

theorem exec_ringRetuneDone : exec (.ringRetuneDone i) s = execRingRetuneDone i s := rfl

theorem exec_ringRetuneDone_of_locks (h : (s.ring (ringIx i)).state = .locking ∨ (s.ring (ringIx i)).state = .verify)
    (hr : s.creel.retune.contains (ringIx i) = true) : exec (.ringRetuneDone i) s = .next (s.ringLocked (ringIx i)) := by
  obtain h | h := h <;> simp only [exec_ringRetuneDone, execRingRetuneDone, h, hr, State.when_true]

theorem exec_ringRetuneDone_of_rests (h : (s.ring (ringIx i)).state ≠ .locking ∧ (s.ring (ringIx i)).state ≠ .verify) :
    exec (.ringRetuneDone i) s = .next s := by
  obtain ⟨hl, hv⟩ := h
  rw [exec_ringRetuneDone, execRingRetuneDone]
  split
  case h_1 hs => exact absurd hs hl
  case h_2 hs => exact absurd hs hv
  case h_3 => rfl

/-- A ring that is not being retuned is left to its identity windows. -/
theorem exec_ringRetuneDone_of_other (hr : s.creel.retune.contains (ringIx i) = false) : exec (.ringRetuneDone i) s = .next s := by
  rw [exec_ringRetuneDone, execRingRetuneDone, hr]
  split <;> rfl

end retuned

section locked
variable {s : State}

theorem State.lightDemand_of_none (h : s.creel.demand = []) (n : Nat) : s.lightDemand n = s := by
  simp only [State.lightDemand, h, List.filter_nil, List.map_nil, State.forEach_nil]
  rw [← h]

theorem State.locksDone_of_none (hs : s.creel.start = none) (hq : s.creel.requal = none) (hk : s.skein.state ≠ 1) : s.locksDone = s := by
  simp only [State.locksDone, State.tryStart, State.tryRequal, hs, hq, decide_eq_false hk, State.when_false]

/-- A ring that nothing waits for is LOCKED, and is no longer to be retuned. -/
theorem State.ringLocked_of_none (n : Nat) (hd : s.creel.demand = []) (hs : s.creel.start = none) (hq : s.creel.requal = none)
    (hk : s.skein.state ≠ 1) :
    s.ringLocked n = { s.modRing n fun x => { x with state := .locked, attempts := 0, passed := 0 } with
      creel := { s.creel with retune := s.creel.retune.filter (· ≠ n) } } := by
  refine State.ringLocked_eq.trans ((congrArg State.locksDone (State.lightDemand_of_none ?_ n)).trans (State.locksDone_of_none ?_ ?_ ?_))
  · exact hd
  · exact hs
  · exact hq
  · exact hk

end locked

/-! ### The statement -/

/-- Settles O20: a request by whether its pair is open to it, a phase's decision and its switch by what the table and its regions and rings
have come to, and a retuned ring by what waits for it. That CREEL_GRANT counts each bobbin once is the model's choice (log 92). -/
theorem demandAndPhaseCircuitsAreSwitched : Obligations.DemandAndPhaseCircuitsAreSwitched := by
  unfold Obligations.DemandAndPhaseCircuitsAreSwitched
  refine ⟨⟨?grant, fun _ _ _ => exec_demandRequest_of_denied, ?release⟩, ?decision, ?early, ?barrier, ?switch,
    fun _ _ => exec_ringRetuneDone_of_locks, ?rests, fun _ n => State.ringLocked_of_none n⟩
  case grant =>
    exact fun s src dst i b hne hsrc hdst hold hi hb => ⟨exec_demandRequest_of_place hne hsrc hdst hold hi hb,
      State.beginDemand_creel s src dst i b, State.demandIndex_holds hi⟩
  case release => exact fun _ _ _ hd => ⟨exec_demandIdleRelease_of_idle hd, exec_demandIdleRelease_of_used hd⟩
  case decision =>
    exact fun _ _ _ _ hr hn ht ha hbar hb => ⟨exec_phaseDecision_of_ready hr hn ht ha hbar hb, exec_phaseDecision_of_late hr hn ht ha hbar hb⟩
  case early => exact fun _ _ _ _ => exec_phaseDecision_of_early
  case barrier =>
    exact fun _ _ _ _ _ _ hr hn ht hd hnone => ⟨exec_phaseBarrierTrigger_of_named hr hn ht hd hnone, exec_phaseBarrierTrigger_of_other hr hn ht hd⟩
  case switch =>
    exact fun _ _ _ _ _ _ _ hr hn ht => ⟨exec_phaseSwitch_of_waiting hr hn ht, exec_phaseSwitch_of_stopping hr hn ht,
      exec_phaseSwitch_of_resident hr hn ht, fun _ _ h hs hready => exec_phaseSwitch_of_streamed hr hn ht h hs hready,
      exec_phaseSwitch_of_unready hr hn ht⟩
  case rests => exact fun _ _ h => h.elim exec_ringRetuneDone_of_rests exec_ringRetuneDone_of_other

end Sys2Proof.Machine
end

section
/-! PROOFS. Phase tables, fences and withdrawn loops by command (R188, R199, R200, R205, R209): what each command does when it passes, when a
TABLE_START and a REQUALIFY end and what they leave of the Creel, and the statement that they settle. -/

namespace Sys2Proof.Machine

/-! ### What shared operations leave of the Creel -/

section frames
variable (s : State)

@[simp] theorem State.restRings_creel (rs : List Nat) : (s.restRings rs).creel = s.creel :=
  State.forEach_keeps (·.creel) (fun _ _ => by split <;> rfl) _ _

@[simp] theorem State.degradedEvent_creel (old : Bool) : (s.degradedEvent old).creel = s.creel := State.when_keeps (·.creel) rfl _
@[simp] theorem State.degradedEvent_skein (old : Bool) : (s.degradedEvent old).skein = s.skein := State.when_keeps (·.skein) rfl _

@[simp] theorem State.trained_creel (i : Nat) (w : PlyMeas) : (s.trained i w).creel = s.creel := by
  rw [State.trained]
  split <;> rfl

@[simp] theorem State.trainTable_creel (h : Nat) (t : TableSt) (w : List (PlyIx × PlyMeas)) : (s.trainTable h t w).creel = s.creel := by
  refine State.forEach_keeps (·.creel) (fun p u => State.forEach_keeps (·.creel) (fun i u => ?_) _ _) _ _
  dsimp only
  split
  · exact (State.when_keeps (·.creel) rfl _).trans (State.trained_creel _ _ _)
  · rfl

@[simp] theorem State.outOfStep_creel : s.outOfStep.creel = s.creel := by
  rw [State.outOfStep]
  split
  · rfl
  · exact State.forEach_keeps (·.creel) (fun d u => State.modSp_creel u d _) _ _

@[simp] theorem State.linkDown_creel : s.linkDown.creel = s.creel := State.when_keeps (·.creel) (by simp) _

@[simp] theorem State.linkAt_creel (w : Nat) (e : LinkEnds) : (s.linkAt w e).creel = s.creel :=
  State.when_keeps (·.creel) (State.forEach_keeps (·.creel) (fun d u => State.modSp_creel u d _) _ _) _

@[simp] theorem State.relight_creel (g : Nat) : (s.relight g).creel = s.creel := by
  have hfresh : ∀ u : State, (u.forEach (loopsOf g) fun n v => v.modLight n fun x => { x with windows := [], below := 0 }).creel = u.creel :=
    fun u => State.forEach_keeps (·.creel) (fun n v => State.modLight_creel v n _) u _
  simp only [State.relight]
  split
  · rfl
  · split
    · rw [hfresh]
      rfl
    · split
      · rw [hfresh]
        rfl
      · rfl

theorem State.forEach_relight_creel (gs : List Nat) : (s.forEach gs fun g u => u.relight g).creel = s.creel :=
  State.forEach_keeps (·.creel) (fun g u => State.relight_creel u g) _ _

/-- A new plan changes the plan in force and what goes with it. -/
@[simp] theorem State.regrant_creel (plan : List (Nat × Nat × Nat × Bob)) : (s.regrant plan).creel =
    { s.creel with plan := plan, mapped := true, commitAt := s.time.lea, out := s.creel.out.filter fun i => decide (i.toNat ≥ 2 ^ 30) } :=
  (State.forEach_keeps (·.creel) (fun (a : Nat × Nat) u => State.modRing_creel u a.1 _) _ _).trans (State.restRings_creel _ _)

theorem State.modRing_epoch (n : Nat) (f : RingSt → RingSt) : (s.modRing n f).skein.epoch = s.skein.epoch := rfl

@[simp] theorem State.restRings_epoch (rs : List Nat) : (s.restRings rs).skein.epoch = s.skein.epoch :=
  State.forEach_keeps (·.skein.epoch) (fun _ _ => by split <;> rfl) _ _

@[simp] theorem State.regrant_epoch (plan : List (Nat × Nat × Nat × Bob)) : (s.regrant plan).skein.epoch = s.skein.epoch :=
  (State.forEach_keeps (·.skein.epoch) (fun (a : Nat × Nat) u => State.modRing_epoch u a.1 _) _ _).trans (State.restRings_epoch _ _)

/-! ### The epoch that is committed (R198) -/

@[simp] theorem State.commit_creel_epoch (cause : Nat) : (s.commit cause).creel.epoch = succ32 s.creel.epoch := by simp [State.commit]
@[simp] theorem State.commit_skein_epoch (cause : Nat) : (s.commit cause).skein.epoch = succ32 s.creel.epoch := by simp [State.commit]
@[simp] theorem State.commit_creel_requal (cause : Nat) : (s.commit cause).creel.requal = s.creel.requal := by simp [State.commit]
@[simp] theorem State.commit_creel_lanes (cause : Nat) : (s.commit cause).creel.lanes = s.creel.lanes := by simp [State.commit]

end frames

/-! ### A command that passes finds the Creel as it was -/

section taken
variable {s : State} {k : CmdSpec} {c : Cmd} {v : Verdict}

@[simp] theorem accepted_table (h : Nat) : (accepted s k c v).table h = s.table h := by simp only [State.table, accepted_creel]
@[simp] theorem accepted_freeTable : (accepted s k c v).freeTable = s.freeTable := by simp only [State.freeTable, accepted_table]
@[simp] theorem accepted_reg (r : Nat) : (accepted s k c v).reg r = s.reg r := by simp only [State.reg, accepted_region]

end taken

/-! ### Loading and unloading tables (R201-R205) -/

section tables
variable {s : State} {c : Cmd}

theorem exec_tableLoad : exec (.tableLoad c) s = execTableLoad c s := rfl

theorem exec_tableLoad_of_passes {h : Nat} {t u : TableSt}
    (hp : Passes s { op := 0x0502, named := [(16, 27)], long := true, needsJob := true } c { reads := some (c.field s 16 8, c.field s 24 4) })
    (ht : (readSpace s (c.port s) 1 (c.field s 16 8) (c.field s 24 4)).bind s.readTable = some t) (hf : s.freeTable = some h)
    (hu : s.placeTable h t = some u) :
    let on := accepted s { op := 0x0502, named := [(16, 27)], long := true, needsJob := true } c { reads := some (c.field s 16 8, c.field s 24 4) }
    let room := on.withdraw (on.displaced u)
    exec (.tableLoad c) s = .next ({ room with creel := { room.creel with table := room.creel.table.set none h (some u) } }.done c .ok
      (result [(16, 1, h), (17, 1, if u.resident then 1 else 2), (18, 2, mostRings u)])) := by
  simp only [exec_tableLoad, execTableLoad, ht, hf, hu, Option.bind_some, Option.getD_some, Option.isNone_some, Bool.false_eq_true, if_false,
    selkan_passes hp, accepted_freeTable]

theorem exec_tableUnload : exec (.tableUnload c) s = execTableUnload c s := rfl

theorem exec_tableUnload_of_passes (hp : Passes s { op := 0x0503, named := [(16, 16)], needsJob := true } c {})
    (ht : (s.table (c.field s 16 1)).isSome = true) (hi : s.tableInUse (c.field s 16 1) = false) :
    exec (.tableUnload c) s =
      .next (((accepted s { op := 0x0503, named := [(16, 16)], needsJob := true } c {}).unloadTable (c.field s 16 1)).done c .ok) := by
  have hnone : (s.table (c.field s 16 1)).isNone = false := Option.isNone_eq_false_iff.2 ht
  simp only [exec_tableUnload, execTableUnload, hnone, hi, Bool.false_eq_true, if_false, selkan_passes hp]

theorem State.unloadTable_table (h : Nat) : (s.unloadTable h).creel.table = s.creel.table.set none h none :=
  congrArg (·.table) (State.restRings_creel _ _)

end tables

/-! ### Starting a table (R204, R205) -/

section start
variable {s : State}

/-- Rings that a TABLE_START verifies, each with its line. -/
def startRings (h : Nat) (t : TableSt) : List (Nat × Nat) := (startBobs h t).flatMap fun b => b.2.rings.map fun r => (r, b.2.line)

theorem exec_tableStart {c : Cmd} (w : List (PlyIx × PlyMeas)) : exec (.tableStart c w) s = execTableStart c w s := rfl

theorem exec_tableStart_of_passes {c : Cmd} {w : List (PlyIx × PlyMeas)} {t : TableSt}
    (hp : Passes s { op := 0x0504, named := [(16, 16), (24, 31)], long := true, needsJob := true } c {})
    (ht : s.table (c.field s 16 1) = some t) (hr : s.creel.run = none) (hs : s.creel.start = none) :
    let on := accepted s { op := 0x0504, named := [(16, 16), (24, 31)], long := true, needsJob := true } c {}
    let tuned := on.forEach ((startBobs (c.field s 16 1) t).flatMap fun b => (b.2.rings.filter on.ringOk).map fun r => (r, b.2.line)) fun a u =>
      u.assignRing a.1 a.2
    exec (.tableStart c w) s = .next (State.tryStart { tuned with creel := { tuned.creel with
      start := some { handle := c.field s 16 1, base := BitVec.ofNat 64 (c.field on 24 8), ply := w } } }) := by
  simp only [exec_tableStart, execTableStart, ht, hr, hs, Option.isNone_some, Option.isSome_none, Bool.or_self, Bool.false_eq_true, if_false,
    selkan_passes hp, accepted_table]

variable {x : Starting} {t : TableSt} (hs : s.creel.start = some x) (ht : s.table x.handle = some t)
include hs ht

/-- The start waits while a ring in service does not stand on its line. -/
theorem State.tryStart_of_waiting (h : ∃ a ∈ startRings x.handle t, s.ringOk a.1 = true ∧ s.tuned a.1 a.2 = false) : s.tryStart = s := by
  obtain ⟨a, ha, hok, htuned⟩ := h
  have hall : ((startRings x.handle t).all fun a => !s.ringOk a.1 || s.tuned a.1 a.2) = false :=
    List.all_eq_false.2 ⟨a, ha, by simp [hok, htuned]⟩
  rw [startRings] at hall
  simp only [State.tryStart, hs, ht, hall, State.when_false]

theorem State.tryStart_creel (h : ∀ a ∈ startRings x.handle t, s.ringOk a.1 = true → s.tuned a.1 a.2 = true) :
    s.tryStart.creel = { s.creel with run := some { handle := x.handle, base := x.base }, start := none } := by
  have hall : ((startRings x.handle t).all fun a => !s.ringOk a.1 || s.tuned a.1 a.2) = true := by
    refine List.all_eq_true.2 fun a ha => ?_
    cases hok : s.ringOk a.1
    · rfl
    · exact h a ha hok
  rw [startRings] at hall
  have htrain : (s.when t.resident fun u => u.trainTable x.handle t x.ply).creel = s.creel :=
    State.when_keeps (·.creel) (State.trainTable_creel _ _ _ _) _
  simp only [State.tryStart, hs, ht, hall, State.when_true, State.endLops_creel, htrain]

end start

/-! ### Stopping a table (R205) -/

section stop
variable {s : State} {c : Cmd} {r : Run}

theorem exec_tableStop : exec (.tableStop c) s = execTableStop c s := rfl

variable (hp : Passes s { op := 0x0505, named := [(16, 17)], long := true, needsJob := true } c {})
  (ht : (s.table (c.field s 16 1)).isSome = true) (hr : s.creel.run = some r) (hh : r.handle = c.field s 16 1)
include hp ht hr hh

/-- A stop without FORCE waits for the switch that is to come, if there is one. -/
theorem exec_tableStop_of_passes (hforce : c.field s 17 1 ≤ 1) :
    let on := accepted s { op := 0x0505, named := [(16, 17)], long := true, needsJob := true } c {}
    exec (.tableStop c) s = .next (if c.field s 17 1 = 1 ∨ r.next.isNone = true then on.stopTable.done c .ok (result [(16, 2, r.live.getD 0)])
      else on.modRun fun r => { r with stopping := true }) := by
  have hnone : (s.table (c.field s 16 1)).isNone = false := Option.isNone_eq_false_iff.2 ht
  have hruns : s.runs (c.field s 16 1) = true := by simp only [State.runs, hr, hh, decide_true]
  simp only [exec_tableStop, execTableStop, hnone, hruns, Nat.not_lt.2 hforce, Bool.not_true, Bool.false_eq_true, if_false, selkan_passes hp,
    accepted_creel, hr, Option.bind_some]

theorem exec_tableStop_of_force (hf : c.field s 17 1 = 1) : exec (.tableStop c) s =
    .next ((accepted s { op := 0x0505, named := [(16, 17)], long := true, needsJob := true } c {}).stopTable.done c .ok
      (result [(16, 2, r.live.getD 0)])) := by
  rw [exec_tableStop_of_passes hp ht hr hh (by omega), if_pos (.inl hf)]

variable (hf : c.field s 17 1 = 0)
include hf

theorem exec_tableStop_of_last (hn : r.next = none) : exec (.tableStop c) s =
    .next ((accepted s { op := 0x0505, named := [(16, 17)], long := true, needsJob := true } c {}).stopTable.done c .ok
      (result [(16, 2, r.live.getD 0)])) := by
  rw [exec_tableStop_of_passes hp ht hr hh (by omega), if_pos (.inr (Option.isNone_iff_eq_none.2 hn))]

theorem exec_tableStop_of_next (hn : r.next ≠ none) :
    let on := accepted s { op := 0x0505, named := [(16, 17)], long := true, needsJob := true } c {}
    exec (.tableStop c) s = .next { on with creel := { on.creel with run := some { r with stopping := true } } } := by
  intro on
  have hon : on.creel.run = some r := by rw [accepted_creel, hr]
  have hlater : ¬(c.field s 17 1 = 1 ∨ r.next.isNone = true) := by
    rw [hf, Option.isNone_iff_eq_none]
    simpa using hn
  rw [exec_tableStop_of_passes hp ht hr hh (by omega), if_neg hlater, State.modRun_of_run hon]

end stop

/-! ### Fences (R205, R209) -/

section fences
variable {s : State} {c : Cmd}

theorem maskBad_of_lt {m : Nat} (h : m < 2 ^ 34) : maskBad m = none := if_pos h

theorem exec_fence : exec (.fence c) s = execFence c s := rfl
theorem exec_unfence : exec (.unfence c) s = execUnfence c s := rfl

theorem exec_fence_of_passes (hp : Passes s { op := 0x0506, named := [(16, 23)], needsJob := true } c {}) (hm : c.field s 16 8 < 2 ^ 34) :
    let fenced := (accepted s { op := 0x0506, named := [(16, 23)], needsJob := true } c {}).forEach (onesOf 34 (c.field s 16 8)) fun st u => u.fence st
    exec (.fence c) s = .next (fenced.done c .ok (result [(16, 8, fenced.creel.fenced)])) := by
  simp only [exec_fence, execFence, maskBad_of_lt hm, selkan_passes hp]

/-- A mask that names no region in RESET or PARKED unfences every station that it names. -/
theorem exec_unfence_of_passes (hp : Passes s { op := 0x0507, named := [(16, 23)], needsJob := true } c {}) (hm : c.field s 16 8 < 2 ^ 34)
    (hup : ∀ st ∈ onesOf 34 (c.field s 16 8), st < 16 → (s.reg st).state ≠ .reset ∧ (s.reg st).state ≠ .parked) :
    exec (.unfence c) s = .next (((accepted s { op := 0x0507, named := [(16, 23)], needsJob := true } c {}).forEach
      (onesOf 34 (c.field s 16 8)) fun st u => u.unfence st).done c .ok) := by
  have hall : ((onesOf 34 (c.field s 16 8)).filter fun st =>
      !(decide (st < 16) && (decide ((s.reg st).state = .reset) || decide ((s.reg st).state = .parked)))) = onesOf 34 (c.field s 16 8) := by
    refine List.filter_eq_self.2 fun st hst => ?_
    by_cases hlt : st < 16
    · obtain ⟨hreset, hparked⟩ := hup st hst hlt
      simp [hreset, hparked]
    · simp [hlt]
  simp only [exec_unfence, execUnfence, maskBad_of_lt hm, selkan_passes hp, accepted_reg, hall]

variable {st : Nat}

theorem State.fence_of_fenced (h : s.isFenced st = true) : s.fence st = s := if_pos h

theorem State.isFenced_fence : (s.fence st).isFenced st = true := by
  rw [State.fence]
  split
  next h => exact h
  next => simp only [State.isFenced, bit_eq_testBit, Nat.testBit_or, Nat.testBit_two_pow_self, Bool.or_true]

theorem bit_sub_two_pow_self {n b : Nat} (h : bit n b = true) : bit (n - 2 ^ b) b = false := by
  have hodd : n / 2 ^ b % 2 = 1 := of_decide_eq_true h
  have hdiv : (n - 2 ^ b) / 2 ^ b = n / 2 ^ b - 1 := by simpa using Nat.sub_mul_div n (2 ^ b) 1
  refine decide_eq_false ?_
  rw [hdiv]
  omega

theorem State.isFenced_unfence : (s.unfence st).isFenced st = false := by
  rw [State.unfence]
  split
  next h => exact bit_sub_two_pow_self h
  next h => exact Bool.eq_false_of_not_eq_true h

end fences

/-! ### LOOP_WITHDRAW (R188) -/

theorem exec_loopWithdraw (s : State) (c : Cmd) : exec (.loopWithdraw c) s = execLoopWithdraw c s := rfl

theorem exec_loopWithdraw_of_passes {s : State} {c : Cmd} (hp : Passes s { op := 0x0508, named := [(16, 16)], needsJob := true } c {})
    (hn : c.field s 16 1 < 128) :
    let gone := (accepted s { op := 0x0508, named := [(16, 16)], needsJob := true } c {}).withdrawLoops [c.field s 16 1] 4
    exec (.loopWithdraw c) s = .next (gone.done c .ok (result [(16, 4, gone.creel.epoch.toNat)])) := by
  simp only [exec_loopWithdraw, execLoopWithdraw, ge_iff_le, Nat.not_le.2 hn, if_false, selkan_passes hp]

/-! ### REQUALIFY (R199, R200) -/

section requalBegins
variable {s : State}

/-- FAULTY rings, which a REQUALIFY relocks. -/
def State.faultyRings (s : State) : List Nat := (s.skein.ring.filter fun r => decide (r.2.state = .faulty)).map (·.1)

/-- A REQUALIFY begins, what is dark lit already: FAULTY rings and the withdrawn loops that have light begin to lock. -/
def State.beginRequal (s : State) (e : LinkEnds) : State :=
  let relocking := s.forEach s.faultyRings fun r u => u.modRing r fun x => { x with state := .locking, attempts := 0, passed := 0 }
  let testing := relocking.forEach s.relit fun n u =>
    (u.modLoop n fun x => { x with state := .locking, corrected := 0, bits := 0, ue := 0, rings := [] }).modLight n fun x =>
      { x with advisory := false, fadeDue := false, below := 0 }
  { testing with creel := { testing.creel with requal := some { loops := s.relit, rings := s.faultyRings, lanes := e } } }

theorem State.beginRequal_creel (e : LinkEnds) :
    (s.beginRequal e).creel = { s.creel with requal := some { loops := s.relit, rings := s.faultyRings, lanes := e } } := by
  refine congrArg (fun k : Creel => { k with requal := some { loops := s.relit, rings := s.faultyRings, lanes := e } }) ?_
  exact (State.forEach_keeps (·.creel) (fun n u => (State.modLight_creel _ n _).trans (State.modLoop_creel u n _)) _ _).trans
    (State.forEach_keeps (·.creel) (fun r u => State.modRing_creel u r _) _ _)

theorem exec_requalify {c : Cmd} (e : LinkEnds) : exec (.requalify c e) s = execRequalify c e s := rfl

theorem exec_requalify_of_passes {c : Cmd} {e : LinkEnds} (hp : Passes s { op := 0x0509, long := true, noJob := true } c {})
    (hq : s.creel.requal = none) : exec (.requalify c e) s = .next
      (((accepted s { op := 0x0509, long := true, noJob := true } c {}).forEach (List.range 8) fun g u => u.relight g).beginRequal e).tryRequal := by
  have hv : ({ busy := if s.creel.requal.isSome then some 0 else none } : Verdict) = {} := by
    rw [hq]
    rfl
  rw [exec_requalify, execRequalify, selkan_passes_of hv hp]
  generalize ((accepted s { op := 0x0509, long := true, noJob := true } c {}).forEach (List.range 8) fun g u => u.relight g) = lit
  rfl

theorem State.lightOk_holds {n : Nat} (h : s.lightOk n = true) :
    (s.grp (n / 16)).state ≠ .dark ∧ ∀ l, (s.light.loop.get {} n).level = some l → -100 < l := by
  obtain ⟨hlit, hlevel⟩ := Bool.and_eq_true_iff.1 h
  refine ⟨of_decide_eq_true hlit, fun l hl => ?_⟩
  rw [hl] at hlevel
  exact of_decide_eq_true hlevel

theorem State.mem_relit {n : Nat} (h : n ∈ s.relit) : (s.loopSt n).state = .withdrawn ∧ s.lightOk n = true := by
  obtain ⟨hw, hl⟩ := Bool.and_eq_true_iff.1 (List.mem_filter.1 h).2
  exact ⟨of_decide_eq_true hw, hl⟩

theorem State.beginRequal_holds (e : LinkEnds) :
    (s.beginRequal e).creel.requal = some { loops := s.relit, rings := s.faultyRings, lanes := e } ∧ (s.beginRequal e).creel.epoch = s.creel.epoch ∧
      ∀ n ∈ s.relit, (s.loopSt n).state = .withdrawn ∧ (s.grp (n / 16)).state ≠ .dark ∧
        ∀ l, (s.light.loop.get {} n).level = some l → -100 < l := by
  rw [State.beginRequal_creel]
  refine ⟨rfl, rfl, fun n hn => ?_⟩
  obtain ⟨hw, hl⟩ := State.mem_relit hn
  exact ⟨hw, State.lightOk_holds hl⟩

end requalBegins

section link
variable {s : State} {e : LinkEnds}

theorem four_le_linkWidth {n : Nat} (h : 4 ≤ n) : 4 ≤ linkWidth n := by
  unfold linkWidth
  simp only [ge_iff_le, if_pos h]
  split
  · omega
  · split <;> omega

/-- Training the link changes the map's width at most. -/
theorem State.relink_creel : (s.relink e).creel = { s.creel with lanes := (s.relink e).creel.lanes } := by
  simp only [State.relink]
  split
  · rfl
  · split <;> simp

theorem State.relink_lanes_of_trained (ha : s.spin.present.a = true) (hb : s.spin.present.b = true) (h : 4 ≤ linkLanes e) :
    (s.relink e).creel.lanes = linkWidth (linkLanes e) := by
  simp only [State.relink, ha, hb, Nat.not_lt.2 (four_le_linkWidth h), Bool.and_self, Bool.not_true, Bool.false_eq_true, if_false]

theorem State.relink_of_absent (h : s.spin.present.a = false ∨ s.spin.present.b = false) : s.relink e = s := by
  refine if_pos ?_
  obtain h | h := h <;> simp [h]

end link

section requalEnds
variable {s : State} {q : Requal}

/-- A REQUALIFY ends once each of its rings is LOCKED or FAULTY and each of its loops judged. -/
def State.requalEnds (s : State) (q : Requal) : Bool :=
  (q.rings.all fun r => decide ((s.ring r).state = .locked) || decide ((s.ring r).state = .faulty)) &&
    q.loops.all fun n => q.admits n || decide ((s.loopSt n).state ≠ .locking)

theorem State.requalEnds_iff : s.requalEnds q = true ↔ (∀ r ∈ q.rings, (s.ring r).state = .locked ∨ (s.ring r).state = .faulty) ∧
    ∀ n ∈ q.loops, q.passed.contains n = true ∨ (s.loopSt n).state ≠ .locking := by
  simp only [State.requalEnds, Requal.admits, Bool.and_eq_true, List.all_eq_true, Bool.or_eq_true, decide_eq_true_eq]

/-- Loops under test that a REQUALIFY admits. -/
def State.admitted (s : State) (q : Requal) : List Nat := q.loops.filter fun n => q.admits n && decide ((s.loopSt n).state = .locking)

/-- A REQUALIFY ends, before its epoch: the loops that passed are ACTIVE, the stations' set is that of the dies present, and the link
trains. -/
def State.readmit (s : State) (q : Requal) : State :=
  let lit := s.forEach (s.admitted q) fun n u => u.modLoop n fun _ => { state := .active }
  State.relink { lit with creel := { lit.creel with requal := none, mapStn := lit.spin.present } } q.lanes

/-- A REQUALIFY has ended with its epoch, its events and its entry. -/
def State.requalified (s : State) (q : Requal) : State :=
  ((((s.readmit q).commit 6).forEach (s.admitted q) fun n u => u.fire (0x200 + n) 0 n 2).degradedEvent s.degraded).endLops
    (fun l => decide (l.opcode = 0x0509)) .ok
    (result [(16, 2, (s.admitted q).length), (20, 4, (q.rings.filter fun r => decide ((s.ring r).state = .locked)).length)])

theorem State.requalified_creel : (s.requalified q).creel = ((s.readmit q).commit 6).creel := by
  rw [State.requalified, State.endLops_creel, State.degradedEvent_creel]
  exact State.forEach_keeps (·.creel) (fun n u => State.fire_creel u _ _ _ _) _ _

theorem State.requalified_skein : (s.requalified q).skein = ((s.readmit q).commit 6).skein := by
  rw [State.requalified, State.endLops_skein, State.degradedEvent_skein]
  exact State.forEach_keeps (·.skein) (fun n u => State.fire_skein u _ _ _ _) _ _

/-- Admitting loops changes nothing but their entries. -/
theorem State.forEach_modLoop_creel (ns : List Nat) (f : LoopSt → LoopSt) : (s.forEach ns fun n u => u.modLoop n f).creel = s.creel :=
  State.forEach_keeps (·.creel) (fun n u => State.modLoop_creel u n f) _ _
theorem State.forEach_modLoop_spin (ns : List Nat) (f : LoopSt → LoopSt) : (s.forEach ns fun n u => u.modLoop n f).spin = s.spin :=
  State.forEach_keeps (·.spin) (fun n u => State.modLoop_spin u n f) _ _

theorem State.readmit_creel :
    (s.readmit q).creel = { s.creel with requal := none, mapStn := s.spin.present, lanes := (s.readmit q).creel.lanes } := by
  rw [State.readmit, State.relink_creel]
  simp only [State.forEach_modLoop_creel, State.forEach_modLoop_spin]

theorem State.readmit_lanes_of_trained (ha : s.spin.present.a = true) (hb : s.spin.present.b = true) (h : 4 ≤ linkLanes q.lanes) :
    (s.readmit q).creel.lanes = linkWidth (linkLanes q.lanes) := by
  rw [State.readmit, State.relink_lanes_of_trained _ _ h] <;> simpa only [State.forEach_modLoop_spin]

theorem State.readmit_lanes_of_absent (h : s.spin.present.a = false ∨ s.spin.present.b = false) :
    (s.readmit q).creel.lanes = s.creel.lanes := by
  rw [State.readmit, State.relink_of_absent (by simpa only [State.forEach_modLoop_spin])]
  simp only [State.forEach_modLoop_creel]

variable (hq : s.creel.requal = some q)
include hq

theorem State.tryRequal_eq : s.tryRequal = s.when (s.requalEnds q) fun u => u.requalified q := by
  simp only [State.tryRequal, hq]
  rfl

theorem State.tryRequal_of_waiting (h : s.requalEnds q = false) : s.tryRequal = s := by
  rw [State.tryRequal_eq hq, h, State.when_false]

theorem State.tryRequal_of_ends (h : s.requalEnds q = true) : s.tryRequal = s.requalified q := by
  rw [State.tryRequal_eq hq, h, State.when_true]

end requalEnds

/-! ### The statement -/

/-- Settles O21: each command by what it does when it passes, and a TABLE_START and a REQUALIFY under way by whether their rings and loops
have come to rest. The number of rings that TABLE_LOAD returns (log 44), what UNFENCE brings back (log 91) and that the rings of a table that
stops stay tuned (log 143) are the model's choices. -/
theorem tablesStationsAndLoopsComeAndGo : Obligations.TablesStationsAndLoopsComeAndGo := by
  unfold Obligations.TablesStationsAndLoopsComeAndGo
  refine ⟨⟨?load, ?unload, ?start, ?tried, ?stop, fun _ => ⟨rfl, rfl⟩⟩, fun _ _ => exec_fence_of_passes, fun _ _ => exec_unfence_of_passes,
    fun _ _ => exec_loopWithdraw_of_passes, ?twice, ?requalify, ?ends⟩
  case load => exact fun _ _ _ _ _ hp => exec_tableLoad_of_passes hp
  case unload =>
    intro s c h k on hp ht hi
    refine ⟨exec_tableUnload_of_passes hp ht hi, ?_⟩
    rw [State.unloadTable_table, accepted_creel]
  case start => exact fun _ _ _ _ hp ht hr hs => exec_tableStart_of_passes hp ht hr hs
  case tried =>
    intro s x t hs ht rings
    refine ⟨State.tryStart_of_waiting hs ht, fun h => ?_⟩
    rw [State.tryStart_creel hs ht h]
    exact ⟨rfl, rfl, rfl⟩
  case stop =>
    exact fun _ _ _ hp ht hr hh => ⟨exec_tableStop_of_force hp ht hr hh, exec_tableStop_of_last hp ht hr hh, exec_tableStop_of_next hp ht hr hh⟩
  case twice => exact fun _ _ _ => ⟨State.isFenced_fence, State.fence_of_fenced State.isFenced_fence, State.isFenced_unfence⟩
  case requalify =>
    intro s c e k lit rings hp hq
    have hexec : exec (.requalify c e) s = .next (lit.beginRequal e).tryRequal := exec_requalify_of_passes hp hq
    have hlit : lit.creel = s.creel := by simp only [lit, State.forEach_relight_creel, accepted_creel]
    clear_value lit
    obtain ⟨hrequal, hepoch, hrelit⟩ := State.beginRequal_holds (s := lit) e
    exact ⟨lit.beginRequal e, hexec, hrequal, hepoch.trans (congrArg (·.epoch) hlit), hrelit⟩
  case ends =>
    intro s q hq settled judged
    refine ⟨fun h => State.tryRequal_of_waiting hq ?_, fun hr hn => ?_⟩
    · refine Bool.eq_false_of_not_eq_true fun hends => ?_
      obtain ⟨hr, hn⟩ := State.requalEnds_iff.1 hends
      obtain ⟨r, hmem, hnot⟩ | ⟨n, hmem, hnot⟩ := h
      · exact hnot (hr r hmem)
      · exact hnot (hn n hmem)
    · rw [State.tryRequal_of_ends hq (State.requalEnds_iff.2 ⟨hr, hn⟩), State.requalified_creel, State.requalified_skein, State.commit_creel_requal,
        State.commit_creel_epoch, State.commit_skein_epoch, State.commit_creel_lanes]
      refine ⟨?_, ?_, ?_, State.readmit_lanes_of_trained, State.readmit_lanes_of_absent⟩ <;> rw [State.readmit_creel]

end Sys2Proof.Machine
end

section
/-! PROOFS. Groups of ply ports (R215-R229): what a port reads after the operations on it, how counts and slots are taken, what each
instruction of a group does, and the statement that they settle. -/

namespace Sys2Proof.Machine

/-! ### A port after an operation on it -/

section ports
variable {s : State} {i j : Nat}

theorem State.plyPort_congr {t : State} (h : t.ply = s.ply) (i : Nat) : t.plyPort i = s.plyPort i := by rw [State.plyPort, h, State.plyPort]

@[simp] theorem State.bump_plyPort (k : Ctr) (n : Nat) : (s.bump k n).plyPort i = s.plyPort i := State.plyPort_congr (State.bump_ply ..) i
@[simp] theorem State.fire_plyPort (src code index value : Nat) : (s.fire src code index value).plyPort i = s.plyPort i :=
  State.plyPort_congr (State.fire_ply ..) i

/-- A change of a port is what it makes of the port it finds. -/
theorem State.modPly_congr {f g : PlyPort → PlyPort} (h : f (s.plyPort i) = g (s.plyPort i)) : s.modPly i f = s.modPly i g :=
  congrArg (fun x => { s with ply := s.ply.set {} i x }) h

@[simp] theorem State.endDesc_ply (s : State) (c no : Nat) (how : DescEnd) : (s.endDesc c no how).ply = s.ply := rfl

theorem State.endGroup_of_none (h : (s.plyPort i).grp = none) (code stn : Nat) : s.endGroup i code stn = s := by
  simp only [State.endGroup, h]

theorem State.endGroup_ply {g : PlyGroup} (h : (s.plyPort i).grp = some g) (code stn : Nat) :
    (s.endGroup i code stn).ply = (s.modPly i fun x => { x with grp := none }).ply := by
  simp only [State.endGroup, h]
  refine congrArg (fun t : Tab PlyPort => t.mod {} i fun x => { x with grp := none }) ?_
  exact (State.stamp_ply ..).trans (State.forEach_keeps (·.ply) (fun (d : Nat × DescSt) u => State.endDesc_ply u d.1 d.2.no .fault) _ _)

variable (hw : Tab.wf s.ply {} = true)
include hw

theorem State.wf_bump_ply (k : Ctr) (n : Nat) : Tab.wf (s.bump k n).ply {} = true := by rwa [State.bump_ply]

theorem State.wf_endGroup (code stn : Nat) : Tab.wf (s.endGroup i code stn).ply {} = true := by
  cases h : (s.plyPort i).grp with
  | none => rwa [State.endGroup_of_none h]
  | some g =>
    rw [State.endGroup_ply h]
    exact State.wf_modPly _ hw

theorem State.endGroup_plyPort (code stn : Nat) : (s.endGroup i code stn).plyPort i = { s.plyPort i with grp := none } := by
  cases h : (s.plyPort i).grp with
  | none =>
    rw [State.endGroup_of_none h, ← h]
  | some g => exact (State.plyPort_congr (State.endGroup_ply h code stn) i).trans (State.plyPort_modPly _ hw)

theorem State.endGroup_plyPort_other (hj : j ≠ i) (code stn : Nat) : (s.endGroup i code stn).plyPort j = s.plyPort j := by
  cases h : (s.plyPort i).grp with
  | none => rw [State.endGroup_of_none h]
  | some g => exact (State.plyPort_congr (State.endGroup_ply h code stn) j).trans (State.plyPort_modPly_other _ hw hj)

theorem State.faultPort_plyPort : (s.faultPort i).plyPort i = { s.plyPort i with state := .faulted, lastCause := 5 } := by
  rw [State.faultPort, State.fire_plyPort, State.plyPort_modPly _ (State.wf_bump_ply hw _ _), State.bump_plyPort]

theorem State.faultPort_plyPort_other (hj : j ≠ i) : (s.faultPort i).plyPort j = s.plyPort j := by
  rw [State.faultPort, State.fire_plyPort, State.plyPort_modPly_other _ (State.wf_bump_ply hw _ _) hj, State.bump_plyPort]

end ports

/-! ### A port that loses a member (R228, R229) -/

section lost
variable {s : State} {i : Nat}

theorem State.loseMember_of_ready (h : (s.plyPort i).state = .ready) (code stn : Nat) : s.loseMember i code stn = s.faultPort i := by
  simp only [State.loseMember, h]
  rfl

theorem State.loseMember_of_run (h : (s.plyPort i).state = .run) (code stn : Nat) :
    s.loseMember i code stn = (s.endGroup i code stn).faultPort i := by
  simp only [State.loseMember, h]
  rfl

theorem State.loseMember_faults (code stn : Nat) (hw : Tab.wf s.ply {} = true) (h : (s.plyPort i).state = .ready ∨ (s.plyPort i).state = .run) :
    ((s.loseMember i code stn).plyPort i).state = .faulted ∧ ((s.loseMember i code stn).plyPort i).lastCause = 5 ∧
      ((s.plyPort i).state = .run → ((s.loseMember i code stn).plyPort i).grp = none) ∧
      ∀ j, j ≠ i → (s.loseMember i code stn).plyPort j = s.plyPort j := by
  obtain hready | hrun := h
  · have hnot : (s.plyPort i).state ≠ .run := by simp [hready]
    rw [State.loseMember_of_ready hready, State.faultPort_plyPort hw]
    exact ⟨rfl, rfl, fun hrun => absurd hrun hnot, fun _ => State.faultPort_plyPort_other hw⟩
  · have hend : Tab.wf (s.endGroup i code stn).ply {} = true := State.wf_endGroup hw code stn
    rw [State.loseMember_of_run hrun, State.faultPort_plyPort hend, State.endGroup_plyPort hw]
    exact ⟨rfl, rfl, fun _ => rfl, fun _ hj => (State.faultPort_plyPort_other hend hj).trans (State.endGroup_plyPort_other hw hj code stn)⟩

variable {p : PlyIx} {m : Fin 16}

theorem exec_plyLost : exec (.plyLost p m) s = execPlyLost p m s := rfl

theorem exec_plyLost_of_member (h : m.val < (s.plyPort p).members.length) :
    exec (.plyLost p m) s = .next (s.loseMember p 0x040A (plyStn p)) := by
  simp only [exec_plyLost, execPlyLost, h, decide_true, State.when_true]

theorem exec_plyLost_of_none (h : (s.plyPort p).members.length ≤ m.val) : exec (.plyLost p m) s = .next s := by
  simp only [exec_plyLost, execPlyLost, Nat.not_lt.2 h, decide_false, State.when_false]

end lost

/-! ### Counts (R217, R218) -/

/-- Of rising levels, those at or below `x` are the first ones, as many as there are. -/
theorem length_filter_le_of_strictMono {f : Nat → Nat} (hf : StrictMono f) (x n : Nat) :
    let c := ((List.range n).filter fun k => decide (f k ≤ x)).length
    c ≤ n ∧ (0 < c → f (c - 1) ≤ x) ∧ (c < n → x < f c) := by
  induction n with
  | zero => simp
  | succ n ih =>
    obtain ⟨hle, hlast, hnext⟩ := ih
    simp only [List.range_succ, List.filter_append, List.length_append]
    by_cases hn : f n ≤ x
    · have hall : ((List.range n).filter fun k => decide (f k ≤ x)).length = n := by
        refine le_antisymm hle (Nat.le_of_not_lt fun hlt => ?_)
        exact absurd (hnext hlt) (Nat.not_lt.2 ((hf hlt).le.trans hn))
      simp [hn, hall]
    · have hnone : ([n].filter fun k => decide (f k ≤ x)) = [] := by simp [hn]
      rw [hnone, List.length_nil, Nat.add_zero]
      refine ⟨by omega, hlast, fun hlt => ?_⟩
      obtain heq | hlt := Nat.lt_succ_iff_lt_or_eq.1 hlt |>.symm
      · rw [heq]
        omega
      · exact hnext hlt

theorem codeAbove_strictMono (wide : Bool) : StrictMono (codeAbove wide) := by
  intro a b hab
  cases wide <;> simp only [codeAbove, Bool.false_eq_true, if_false, if_true] <;> omega

theorem countOf_band (wide : Bool) (code : Nat) : countOf wide code ≤ (if wide then 16 else 8) ∧
    (0 < countOf wide code → codeAbove wide (countOf wide code - 1) ≤ code) ∧
    (countOf wide code < (if wide then 16 else 8) → code < codeAbove wide (countOf wide code)) :=
  length_filter_le_of_strictMono (codeAbove_strictMono wide) code _

/-- At split 1 a symbol is one slot. -/
theorem symbolCounts_one (wide : Bool) (codes : List Nat) : symbolCounts wide 1 codes = codes.map (countOf wide) := by
  refine List.ext_getElem (by simp [symbolCounts]) fun k hk hk' => ?_
  have hlt : k < codes.length := by simpa using hk'
  simp [symbolCounts, List.take_one, hlt]

/-! ### Slots of a stream (R215) -/

theorem proofSlot_eq_false {n : Nat} : proofSlot n = false ↔ n % 256 < 255 := by
  simp only [proofSlot, decide_eq_false_iff_not]
  omega

/-- Data slots lead from one data slot to another. -/
theorem slotAfter_data {n d : Nat} (hn : proofSlot n = false) : proofSlot (slotAfter n d) = false ∧ n + d ≤ slotAfter n d := by
  rw [proofSlot_eq_false] at hn ⊢
  rw [slotAfter]
  omega

/-! ### A group starts, or ends before it does (R226, R228) -/

/-- GO is sent on a port, which enters state `st`. -/
def State.startGroup (s : State) (p : Nat) (g : PlyGroup) (d : Desc) (st : PlyState) : State :=
  s.modPly p fun x => { x with state := st, group := g.group, width := plyWidth d.ext, grp := some { g with go := true } }

/-- What becomes of a group whose sink and members agree, by the state of its port. -/
def State.agreed (s : State) (p : Nat) (g : PlyGroup) (d : Desc) : State :=
  match (s.plyPort p).state with
  | .faulted => s.endGroup p 0x040A (plyStn p)
  | .ready => s.startGroup p g d .run
  | .digital => s.startGroup p g d .digital
  | _ => s

section agreed
variable {s : State} {p : Nat} {g : PlyGroup} {d : Desc}

theorem State.agreed_of_ready (h : (s.plyPort p).state = .ready) : s.agreed p g d = s.startGroup p g d .run := by
  simp only [State.agreed, h]
theorem State.agreed_of_digital (h : (s.plyPort p).state = .digital) : s.agreed p g d = s.startGroup p g d .digital := by
  simp only [State.agreed, h]
theorem State.agreed_of_faulted (h : (s.plyPort p).state = .faulted) : s.agreed p g d = s.endGroup p 0x040A (plyStn p) := by
  simp only [State.agreed, h]

end agreed

section start
variable {s : State} {p : PlyIx} {g : PlyGroup} (hg : (s.plyPort p).grp = some g)

theorem exec_plyGroupStart : exec (.plyGroupStart p) s = execPlyGroupStart p s := rfl
theorem exec_plyTimeout : exec (.plyTimeout p) s = execPlyTimeout p s := rfl
theorem exec_plyGo (m : Fin 16) (slot : Nat) : exec (.plyGo p m slot) s = execPlyGo p m slot s := rfl

include hg

theorem exec_plyGroupStart_of_waits (h : g.go = true ∨ (s.plyPort p).posted = false) : exec (.plyGroupStart p) s = .next s := by
  have hwaits : (g.go || !(s.plyPort p).posted) = true := by simpa using h
  simp only [exec_plyGroupStart, execPlyGroupStart, hg, hwaits, if_true]

theorem exec_plyTimeout_of_late (hgo : g.go = false) (h : 100000 ≤ since g.startAt s.time.lea) :
    exec (.plyTimeout p) s = .next (s.endGroup p 0x0409 (plyStn p)) := by
  simp only [exec_plyTimeout, execPlyTimeout, hg, hgo, State.elapsed, ge_iff_le, h, Bool.not_false, decide_true, Bool.and_self, State.when_true]

theorem exec_plyTimeout_of_early (h : g.go = true ∨ since g.startAt s.time.lea < 100000) : exec (.plyTimeout p) s = .next s := by
  have hearly : (!g.go && s.elapsed g.startAt 100000) = false := by simpa [State.elapsed, imp_iff_not_or] using h
  simp only [exec_plyTimeout, execPlyTimeout, hg, hearly, State.when_false]

theorem exec_plyGo_of_member {m : Fin 16} {slot : Nat} (hgo : g.go = true) (hm : m.val < (s.plyPort p).members.length) :
    exec (.plyGo p m slot) s = .next (s.modPly p fun x => { x with grp := some { g with slot := slot, going := g.going ||| 2 ^ m.val } }) := by
  refine congrArg _ (State.modPly_congr ?_)
  simp only [hg, hgo, hm, decide_true, Bool.and_self, if_true]

variable {d : Desc} (hgo : g.go = false) (hposted : (s.plyPort p).posted = true) (hd : s.plySinkDesc g = some d)
include hgo hposted hd

theorem exec_plyGroupStart_of_mismatch (h : ∃ m ∈ s.plyMemberDescs g, plyAgree d m.2 = false) :
    exec (.plyGroupStart p) s = .next (s.endGroup p 0x0408 (plyStn p)) := by
  obtain ⟨m, hm, hne⟩ := h
  have hdiffer : ((s.plyMemberDescs g).all fun m => plyAgree d m.2) = false := List.all_eq_false.2 ⟨m, hm, by simp [hne]⟩
  simp only [exec_plyGroupStart, execPlyGroupStart, hg, hgo, hposted, hd, hdiffer, Bool.not_true, Bool.not_false, Bool.or_self,
    Bool.false_eq_true, if_false, if_true]

theorem exec_plyGroupStart_of_agree (h : ∀ m ∈ s.plyMemberDescs g, plyAgree d m.2 = true) :
    exec (.plyGroupStart p) s = .next (s.agreed p g d) := by
  have hagree : ((s.plyMemberDescs g).all fun m => plyAgree d m.2) = true := List.all_eq_true.2 h
  simp only [exec_plyGroupStart, execPlyGroupStart, hg, hgo, hposted, hd, hagree, Bool.not_true, Bool.or_self,
    Bool.false_eq_true, if_false]
  rfl

end start

/-! ### A block in light (R222, R224) -/

section blocks
variable {s : State} {p : PlyIx}

theorem exec_plyResidueCheck (codes : List Nat) : exec (.plyResidueCheck p codes) s = execPlyResidueCheck p codes s := rfl
theorem exec_plyUnderrun (m : Fin 16) : exec (.plyUnderrun p m) s = execPlyUnderrun p m s := rfl

/-- While no block is due in light, neither a residue nor an underrun does anything. -/
theorem exec_ply_of_idle (h : s.plyRuns p = none) :
    (∀ codes, exec (.plyResidueCheck p codes) s = .next s) ∧ ∀ m, exec (.plyUnderrun p m) s = .next s := by
  simp only [exec_plyResidueCheck, execPlyResidueCheck, exec_plyUnderrun, execPlyUnderrun, h, implies_true, and_self]

variable {g : PlyGroup} (hr : s.plyRuns p = some g)

/-- Data slots of a block. -/
def State.blockSlots (s : State) (p : Nat) (g : PlyGroup) : Nat := 64 * s.plyBits g * (s.plyPort p).split

/-- A block has passed and its residues do not agree: it is recomputed. -/
def State.plyMismatched (s : State) (p : Nat) (g : PlyGroup) : State :=
  (((s.bump Ctr.plyBlock p).blockPassed p (s.blockSlots p g)).modPly p fun x => { x with mismatches := s.plyRecent p ++ [s.time.lea] }).redoNext p

theorem State.plyMismatched_mems (g : PlyGroup) : (s.plyMismatched p g).mems = s.mems := rfl

include hr

theorem exec_plyResidueCheck_of_agree {codes : List Nat} (h : (s.plySums p g codes).sum % 255 = s.plyResidues g g.next % 255) :
    exec (.plyResidueCheck p codes) s = .next
      (((((s.bump Ctr.plyBlock p).blockPassed p (s.blockSlots p g)).writeBlock p { g with slot := slotAfter g.slot (s.blockSlots p g) } g.next
        (s.plySums p g codes)).modPly p fun x =>
          { x with grp := some { g with slot := slotAfter g.slot (s.blockSlots p g), next := g.next + 1 } }).accepted p) := by
  simp only [exec_plyResidueCheck, execPlyResidueCheck, hr, h, if_true]
  rfl

theorem exec_plyResidueCheck_of_differ {codes : List Nat} (h : (s.plySums p g codes).sum % 255 ≠ s.plyResidues g g.next % 255) :
    exec (.plyResidueCheck p codes) s = .next
      ((s.plyMismatched p g).when (decide (8 ≤ (s.plyRecent p ++ [s.time.lea]).length)) fun u => u.goDigital p 3) := by
  simp only [exec_plyResidueCheck, execPlyResidueCheck, hr, h, if_false]
  rfl

theorem exec_plyUnderrun_of_member {m : Fin 16} (h : m.val < (s.plyPort p).members.length) :
    exec (.plyUnderrun p m) s = .next (((s.bump Ctr.plyUnderrun p).blockPassed p (s.blockSlots p g)).redoNext p) := by
  simp only [exec_plyUnderrun, execPlyUnderrun, hr, h, decide_true, State.when_true]
  rfl

end blocks

theorem State.blockPassed_plyPort {s : State} {p n : Nat} (hw : Tab.wf s.ply {} = true) : (s.blockPassed p n).plyPort p =
    { (s.plyPort p).boundary with grp := (s.plyPort p).grp.map fun g => { g with slot := slotAfter g.slot n } } :=
  State.plyPort_modPly _ hw

theorem PlyPort.boundary_split {x : PlyPort} (h : x.narrowDue = true) : x.boundary.split = 2 * x.split := by
  simp only [PlyPort.boundary, h, if_true, PlyPort.resplit]

/-! ### Recomputation and confirmation (R224, R226) -/

section redo
variable {s : State} {p : PlyIx} {m : Fin 16} {g : PlyGroup} (hg : (s.plyPort p).grp = some g)

theorem exec_plyRedo : exec (.plyRedo p m) s = execPlyRedo p m s := rfl
theorem exec_plyConfirm : exec (.plyConfirm p m) s = execPlyConfirm p m s := rfl

/-- A recomputation to which member `m` has sent its values `vs`. -/
def Redo.add (r : Redo) (m : Nat) (vs : List Nat) : Redo := { r with got := r.got ||| 2 ^ m, sums := r.sums.zipWith (· + ·) vs }

include hg

/-- Outside DIGITAL a member's values go to the oldest recomputation that lacks them. -/
theorem exec_plyRedo_of_redo {r : Redo} {d : Nat × Desc} (hlight : (s.plyPort p).state ≠ .digital) (hr : g.redoFor m = some r)
    (hd : ((s.plyMemberDescs g).find? fun d => decide (d.1 = m.val)) = some d) :
    exec (.plyRedo p m) s = .next (if (r.add m (s.plyVals d.2 r.block)).got = 2 ^ (s.plyPort p).members.length - 1 then
        (((s.bump Ctr.plyRedo p).writeBlock p g r.block (r.add m (s.plyVals d.2 r.block)).sums).modPly p fun x =>
          { x with grp := some { g with redo := g.redo.filter fun x => decide (x.block ≠ r.block) } }).accepted p
      else s.modPly p fun x =>
        { x with grp := some { g with redo := g.redo.map fun x => if x.block = r.block then r.add m (s.plyVals d.2 r.block) else x } }) := by
  simp only [exec_plyRedo, execPlyRedo, hg, hlight, decide_false, Bool.false_and, State.when_false, hr, hd]
  rfl

theorem exec_plyConfirm_of_last {c : Nat} (hgo : g.go = true) (ht : s.plyTotal g ≤ g.accepted) (hc : g.cells.get none m.val = some c) :
    exec (.plyConfirm p m) s = .next
      (((s.modPly p fun x => { x with grp := some { g with confirmed := g.accepted } }).settle c g.group).modPly p fun x =>
        { x with grp := if (g.cells.set none m.val none).isEmpty then none
          else some { g with confirmed := g.accepted, cells := g.cells.set none m.val none } }) := by
  simp only [exec_plyConfirm, execPlyConfirm, hg, hgo, ge_iff_le, ht, decide_true, Bool.and_self, if_true, hc]

theorem exec_plyConfirm_of_more (h : g.go = false ∨ g.accepted < s.plyTotal g) :
    exec (.plyConfirm p m) s = .next (s.modPly p fun x => { x with grp := some { g with confirmed := g.accepted } }) := by
  have hmore : (g.go && decide (g.accepted ≥ s.plyTotal g)) = false := by simpa [imp_iff_not_or] using h
  simp only [exec_plyConfirm, execPlyConfirm, hg, hmore, Bool.false_eq_true, if_false]

end redo

/-! ### The statement -/

/-- Settles O50: each instruction by the state of its port and group, a code by rising levels, a slot by its place among 256, and a lost
member by whether a group runs. The gain of a port of width 1 and where a threshold lies between two codes (log 139), and that a port in
DIGITAL computes its blocks by PLY_REDO (log 88), are the model's choices. -/
theorem plyGroupsAcceptCheckedBlocks : Obligations.PlyGroupsAcceptCheckedBlocks := by
  unfold Obligations.PlyGroupsAcceptCheckedBlocks
  refine ⟨?group, ?block, countOf_band, symbolCounts_one, fun _ _ hn _ => slotAfter_data hn, ?narrowed, fun _ _ => exec_ply_of_idle, ?redo,
    fun _ _ _ => ⟨exec_plyLost_of_member, exec_plyLost_of_none⟩, fun _ _ code stn => State.loseMember_faults code stn⟩
  case group =>
    intro s p g hg x
    refine ⟨exec_plyGroupStart_of_waits hg, ?_,
      exec_plyTimeout_of_late hg, exec_plyTimeout_of_early hg, fun _ _ => exec_plyGo_of_member hg, fun _ _ => exec_plyConfirm_of_last hg,
      fun _ => exec_plyConfirm_of_more hg⟩
    intro d hgo hposted hd go
    refine ⟨exec_plyGroupStart_of_mismatch hg hgo hposted hd, fun h => ?_⟩
    have hstart := exec_plyGroupStart_of_agree hg hgo hposted hd h
    exact ⟨fun hx => hstart.trans (congrArg _ (State.agreed_of_ready hx)), fun hx => hstart.trans (congrArg _ (State.agreed_of_digital hx)),
      fun hx => hstart.trans (congrArg _ (State.agreed_of_faulted hx))⟩
  case block =>
    intro s p g hr n rho g1 s1 recent again
    refine ⟨fun _ => exec_plyResidueCheck_of_agree hr, fun codes hne hlt => ?_, fun codes hne hle => ?_, State.plyMismatched_mems g,
      fun _ => exec_plyUnderrun_of_member hr⟩
    · have hcalm : decide (8 ≤ (s.plyRecent p ++ [s.time.lea]).length) = false := decide_eq_false (Nat.not_le.2 hlt)
      rw [exec_plyResidueCheck_of_differ hr hne, hcalm, State.when_false]
      rfl
    · have hstorm : decide (8 ≤ (s.plyRecent p ++ [s.time.lea]).length) = true := decide_eq_true hle
      rw [exec_plyResidueCheck_of_differ hr hne, hstorm, State.when_true]
      rfl
  case narrowed =>
    intro s p x hw hx hdue
    rw [State.blockPassed_plyPort hw, hx]
    exact ⟨PlyPort.boundary_split hdue, rfl⟩
  case redo =>
    intro s p m g r d hlight hg hr hd r1
    have hredo := exec_plyRedo_of_redo hg hlight hr hd
    refine ⟨fun hsome => ?_, fun hall => ?_⟩
    · rw [hredo]
      exact congrArg _ (if_neg hsome)
    · rw [hredo]
      exact congrArg _ (if_pos hall)

end Sys2Proof.Machine
end

section
/-! PROOFS. The margin of ply ports (R215-R221, R228, R231): what a window, a proof slot, narrowing and training leave of a port, how members
and splits go together, and the statement that they settle. -/

namespace Sys2Proof.Machine

/-! ### Narrowing and DIGITAL (R221, R228) -/

section narrow
variable {s : State} {i j cause : Nat}

theorem State.goDigital_plyPort (hw : Tab.wf s.ply {} = true) :
    (s.goDigital i cause).plyPort i = { s.plyPort i with state := .digital, lastCause := cause, narrowDue := false } := by
  rw [State.goDigital, State.plyEvent, State.fire_plyPort, State.plyPort_modPly _ (State.wf_bump_ply hw _ _), State.bump_plyPort]

theorem State.goDigital_plyPort_other (hw : Tab.wf s.ply {} = true) (hj : j ≠ i) : (s.goDigital i cause).plyPort j = s.plyPort j := by
  rw [State.goDigital, State.plyEvent, State.fire_plyPort, State.plyPort_modPly_other _ (State.wf_bump_ply hw _ _) hj, State.bump_plyPort]

variable {b : Bool} (hrun : (s.plyPort i).state = .run)
include hrun

theorem State.narrow_of_widest (h : 4 ≤ (s.plyPort i).split) : s.narrow i cause b = s.goDigital i cause := by
  simp only [State.narrow, hrun, ne_eq, not_true, false_and, if_false, ge_iff_le, h, if_true]

theorem State.narrow_of_narrower (h : (s.plyPort i).split < 4) : s.narrow i cause b = ((s.bump Ctr.plyNarrow i).modPly i fun x =>
    { (if b then x.resplit (2 * x.split) else x) with lastCause := cause, narrowDue := !b }).plyEvent i cause 4 := by
  simp only [State.narrow, hrun, ne_eq, not_true, false_and, if_false, ge_iff_le, Nat.not_le.2 h, if_true]

variable (hw : Tab.wf s.ply {} = true)
include hw

theorem State.narrow_plyPort (h : (s.plyPort i).split < 4) : (s.narrow i cause b).plyPort i =
    { (if b then (s.plyPort i).resplit (2 * (s.plyPort i).split) else s.plyPort i) with lastCause := cause, narrowDue := !b } := by
  rw [State.narrow_of_narrower hrun h, State.plyEvent, State.fire_plyPort, State.plyPort_modPly _ (State.wf_bump_ply hw _ _),
    State.bump_plyPort]

theorem State.narrow_plyPort_other (hj : j ≠ i) : (s.narrow i cause b).plyPort j = s.plyPort j := by
  obtain h | h := Nat.lt_or_ge (s.plyPort i).split 4
  · rw [State.narrow_of_narrower hrun h, State.plyEvent, State.fire_plyPort, State.plyPort_modPly_other _ (State.wf_bump_ply hw _ _) hj,
      State.bump_plyPort]
  · rw [State.narrow_of_widest hrun h, State.goDigital_plyPort_other hw hj]

end narrow

/-! ### What a window leaves in a port (R221, R231) -/

section measured
variable (x : PlyPort) (w : PlyMeas)

/-- A member after a window, with its correction sent and not yet applied; `k` is its number. -/
def PlyMember.read (m : PlyMember) (k : Nat) (w : PlyMeas) : PlyMember :=
  let lev := w.levels.getD k m.level
  { m with level := lev, low := if 2 * lev < w.reference then min (m.low + 1) 2 else 0,
           trimDue := m.trimDue + max (-1) (min 1 (w.trims.getD k 0)) }

/-- A member at a block boundary: the trim that it was sent is applied. -/
def PlyMember.applied (m : PlyMember) : PlyMember := { m with trim := m.trim + m.trimDue, trimDue := 0 }

theorem PlyPort.boundary_members : x.boundary.members = x.members.map PlyMember.applied := by
  unfold PlyPort.boundary
  split <;> rfl

theorem PlyPort.boundary_split_of_calm (h : x.narrowDue = false) : x.boundary.split = x.split := by
  simp only [PlyPort.boundary, h, Bool.false_eq_true, if_false]

theorem PlyPort.boundary_predLog : x.boundary.predLog = x.predLog := by
  unfold PlyPort.boundary
  split <;> rfl

theorem PlyPort.boundary_state : x.boundary.state = x.state := by
  unfold PlyPort.boundary
  split <;> rfl

theorem PlyPort.measured_predLog : (x.measured w).predLog = plyPredLog (plyDet x.members.length x.split w) w.sigmaUc := by
  unfold PlyPort.measured
  split
  · rfl
  · exact PlyPort.boundary_predLog _

theorem PlyPort.measured_state : (x.measured w).state = x.state := by
  unfold PlyPort.measured
  split
  · rfl
  · exact PlyPort.boundary_state _

theorem PlyPort.measured_split (h : x.narrowDue = false) : (x.measured w).split = x.split := by
  unfold PlyPort.measured
  split
  · rfl
  · exact PlyPort.boundary_split_of_calm _ h

theorem PlyPort.measured_members_of_run (h : x.state = .run) :
    (x.measured w).members = x.members.zipIdx.map fun m => m.1.read m.2 w := by
  unfold PlyPort.measured
  rw [if_pos h]
  rfl

theorem PlyPort.measured_members_of_rest (h : x.state ≠ .run) :
    (x.measured w).members = x.members.zipIdx.map fun m => (m.1.read m.2 w).applied := by
  unfold PlyPort.measured
  rw [if_neg h, PlyPort.boundary_members, List.map_map]
  rfl

/-- Each member after a window: its correction is applied at once unless a group runs. -/
theorem PlyPort.measured_getElem? (i : Nat) : (x.measured w).members[i]? = (x.members[i]?).map fun m =>
    if x.state = .run then m.read i w else (m.read i w).applied := by
  by_cases h : x.state = .run
  · simp [PlyPort.measured_members_of_run x w h, h, List.getElem?_zipIdx, Function.comp_def]
  · simp [PlyPort.measured_members_of_rest x w h, h, List.getElem?_zipIdx, Function.comp_def]

theorem PlyPort.measured_length : (x.measured w).members.length = x.members.length := by
  by_cases h : x.state = .run
  · simp [PlyPort.measured_members_of_run x w h]
  · simp [PlyPort.measured_members_of_rest x w h]

/-- A window moves what a member is to hold by one step at most; a running member keeps its trim, another has none due. -/
theorem PlyPort.measured_trim {x : PlyPort} {w : PlyMeas} {i : Nat} {m n : PlyMember} (hm : x.members[i]? = some m)
    (hn : (x.measured w).members[i]? = some n) : n.bobbin = m.bobbin ∧ m.trim + m.trimDue - 1 ≤ n.trim + n.trimDue ∧
      n.trim + n.trimDue ≤ m.trim + m.trimDue + 1 ∧ (x.state = .run → n.trim = m.trim) ∧ (x.state ≠ .run → n.trimDue = 0) := by
  rw [PlyPort.measured_getElem?, hm, Option.map_some, Option.some_inj] at hn
  subst hn
  by_cases h : x.state = .run
  · simp only [h, if_true, PlyMember.read, not_true, ne_eq, false_imp_iff, implies_true, and_true, true_and]
    omega
  · simp only [h, if_false, PlyMember.read, PlyMember.applied, not_false_eq_true, ne_eq, false_imp_iff, implies_true, and_true, true_and]
    omega

end measured

/-! ### Windows and proof slots (R215, R221) -/

section windows
variable {s : State} {p : PlyIx} {w : PlyMeas}

theorem exec_plyWindow : exec (.plyWindow p w) s = execPlyWindow p w s := rfl
theorem exec_plyProofMiss (m : ProofRead) : exec (.plyProofMiss m) s = execPlyProofMiss m s := rfl

theorem exec_plyWindow_of_other (hrun : (s.plyPort p).state ≠ .run) (hready : (s.plyPort p).state ≠ .ready) :
    exec (.plyWindow p w) s = .next s := by
  simp only [exec_plyWindow, execPlyWindow, hrun, hready, ne_eq, not_false_eq_true, and_self, if_true]

theorem PlyPort.not_unlit {x : PlyPort} (h : x.state = .run ∨ x.state = .ready) : ¬(x.state ≠ .run ∧ x.state ≠ .ready) :=
  fun ⟨hrun, hready⟩ => h.elim hrun hready

theorem PlyPort.proofAt_of_other {x : PlyPort} (hrun : x.state ≠ .run) (hready : x.state ≠ .ready) (n : Nat) : x.proofAt n = none := by
  unfold PlyPort.proofAt
  split
  next h => exact absurd h hrun
  next h => exact absurd h hready
  next => rfl

theorem PlyPort.proofAt_of_proof {x : PlyPort} {n q : Nat}
    (h : x.state = .run ∧ n % 256 = 255 ∧ q = n / 256 % 32 ∨ x.state = .ready ∧ q = n % 32) : x.proofAt n = some q := by
  obtain ⟨hrun, hn, rfl⟩ | ⟨hready, rfl⟩ := h
  · simp only [PlyPort.proofAt, hrun, proofSlot, hn, decide_true, if_true]
  · simp only [PlyPort.proofAt, hready]

theorem PlyPort.proofAt_of_data {x : PlyPort} {n : Nat} (hrun : x.state = .run) (hn : n % 256 ≠ 255) : x.proofAt n = none := by
  simp only [PlyPort.proofAt, hrun, proofSlot, hn, decide_false, Bool.false_eq_true, if_false]

variable {slot code q : Nat}

theorem exec_plyProofMiss_of_none (h : (s.plyPort p).proofAt slot = none) :
    exec (.plyProofMiss { port := p, slot := slot, code := code }) s = .next s := by
  simp only [exec_plyProofMiss, execPlyProofMiss, h]

variable (hq : (s.plyPort p).proofAt slot = some q)
include hq

theorem exec_plyProofMiss_of_wrong (h : countOf (plyWide (s.plyPort p).members.length (s.plyPort p).split) code ≠
      proofCount (s.plyPort p).members.length (s.plyPort p).split q) :
    exec (.plyProofMiss { port := p, slot := slot, code := code }) s =
      .next (((s.bump Ctr.plyProofMiss p).modPly p fun x => { x with proofMiss := satAdd 0xFFFF x.proofMiss 1 }).narrow p 2 true) := by
  simp only [exec_plyProofMiss, execPlyProofMiss, hq, ne_eq, h, not_false_eq_true, decide_true, State.when_true]

theorem exec_plyProofMiss_of_right (h : countOf (plyWide (s.plyPort p).members.length (s.plyPort p).split) code =
      proofCount (s.plyPort p).members.length (s.plyPort p).split q) :
    exec (.plyProofMiss { port := p, slot := slot, code := code }) s = .next s := by
  simp only [exec_plyProofMiss, execPlyProofMiss, hq, ne_eq, h, not_true, decide_false, State.when_false]

end windows

section evaluated
variable {s : State} {p : PlyIx} {w : PlyMeas} (hx : (s.plyPort p).state = .run ∨ (s.plyPort p).state = .ready)
include hx

/-- A window on a running or READY port that finds a member lost. -/
theorem exec_plyWindow_of_lost (h : ∃ m ∈ ((s.modPly p (·.measured w)).plyPort p).members, 2 ≤ m.low) :
    exec (.plyWindow p w) s = .next ((s.modPly p (·.measured w)).loseMember p 0x040A (plyStn p)) := by
  obtain ⟨m, hm, hlow⟩ := h
  have hsome : (((s.modPly p (·.measured w)).plyPort p).members.find? fun m => decide (m.low ≥ 2)).isSome = true :=
    List.find?_isSome.2 ⟨m, hm, decide_eq_true hlow⟩
  obtain ⟨k, hk⟩ := Option.isSome_iff_exists.1 hsome
  simp only [exec_plyWindow, execPlyWindow, PlyPort.not_unlit hx, if_false, hk]

/-- A window that finds no member lost leaves the port as measured, or with its margin spent. -/
theorem exec_plyWindow_of_whole (h : ∀ m ∈ ((s.modPly p (·.measured w)).plyPort p).members, m.low < 2) :
    exec (.plyWindow p w) s = .next (if meets (s.plyPort p).members.length (s.plyPort p).split w then s.modPly p (·.measured w)
      else (s.modPly p (·.measured w)).narrow p 1 false) := by
  have hnone : (((s.modPly p (·.measured w)).plyPort p).members.find? fun m => decide (m.low ≥ 2)) = none :=
    List.find?_eq_none.2 fun m hm => by simpa using h m hm
  simp only [exec_plyWindow, execPlyWindow, PlyPort.not_unlit hx, if_false, hnone]

end evaluated

/-! ### Training (R220, R228) -/

section training
variable {s : State} {p : PlyIx} {w : PlyMeas}

theorem exec_plyTrainDone : exec (.plyTrainDone p w) s = execPlyTrainDone p w s := rfl
theorem exec_plyTrainTimeout : exec (.plyTrainTimeout p) s = execPlyTrainTimeout p s := rfl
theorem exec_plyCheckTimeout : exec (.plyCheckTimeout p) s = execPlyCheckTimeout p s := rfl

theorem exec_plyTrainDone_of_train (h : (s.plyPort p).state = .train) : exec (.plyTrainDone p w) s = .next (s.trained p w) := by
  simp only [exec_plyTrainDone, execPlyTrainDone, h]

theorem exec_plyTrainDone_of_check (h : (s.plyPort p).state = .check) : exec (.plyTrainDone p w) s = .next (s.checked p w) := by
  simp only [exec_plyTrainDone, execPlyTrainDone, h]

theorem exec_plyTrainDone_of_run (h : (s.plyPort p).state = .run) : exec (.plyTrainDone p w) s = .next s := by
  simp only [exec_plyTrainDone, execPlyTrainDone, h]

theorem exec_plyTrainTimeout_of_late (h : (s.plyPort p).state = .train) (ht : 50000 ≤ since (s.plyPort p).since_ s.time.lea) :
    exec (.plyTrainTimeout p) s = .next (s.goDigital p 4) := by
  simp only [exec_plyTrainTimeout, execPlyTrainTimeout, h, State.elapsed, ge_iff_le, ht, decide_true, Bool.and_self, State.when_true]

theorem exec_plyTrainTimeout_of_early (h : (s.plyPort p).state ≠ .train ∨ since (s.plyPort p).since_ s.time.lea < 50000) :
    exec (.plyTrainTimeout p) s = .next s := by
  have hearly : (decide ((s.plyPort p).state = .train) && s.elapsed (s.plyPort p).since_ 50000) = false := by
    simpa [State.elapsed, imp_iff_not_or] using h
  simp only [exec_plyTrainTimeout, execPlyTrainTimeout, hearly, State.when_false]

theorem exec_plyCheckTimeout_of_late (h : (s.plyPort p).state = .check) (ht : 1400 ≤ since (s.plyPort p).since_ s.time.lea) :
    exec (.plyCheckTimeout p) s = .next (s.modPly p fun x => { x with state := .train, since_ := s.time.lea }) := by
  simp only [exec_plyCheckTimeout, execPlyCheckTimeout, h, State.elapsed, ge_iff_le, ht, decide_true, Bool.and_self, State.when_true]

theorem exec_plyCheckTimeout_of_early (h : (s.plyPort p).state ≠ .check ∨ since (s.plyPort p).since_ s.time.lea < 1400) :
    exec (.plyCheckTimeout p) s = .next s := by
  have hearly : (decide ((s.plyPort p).state = .check) && s.elapsed (s.plyPort p).since_ 1400) = false := by
    simpa [State.elapsed, imp_iff_not_or] using h
  simp only [exec_plyCheckTimeout, execPlyCheckTimeout, hearly, State.when_false]

theorem PlyPort.aligned_split (x : PlyPort) (sp : Nat) (w : PlyMeas) : (x.aligned sp w).split = sp :=
  PlyPort.measured_split { x with split := sp, narrowDue := false } w rfl

variable {i : Nat} (hw : Tab.wf s.ply {} = true)
include hw

theorem State.trained_of_split {sp : Nat} (h : splitFor (s.plyPort i).members.length s.plan.widthCap w = some sp) :
    ((s.trained i w).plyPort i).state = .ready ∧ ((s.trained i w).plyPort i).split = sp := by
  have hport : (s.trained i w).plyPort i = { ((s.plyPort i).aligned sp w).keep with state := .ready } := by
    simp only [State.trained, h]
    exact State.plyPort_modPly _ hw
  rw [hport]
  exact ⟨rfl, PlyPort.aligned_split _ sp w⟩

theorem State.trained_of_none (h : splitFor (s.plyPort i).members.length s.plan.widthCap w = none) :
    ((s.trained i w).plyPort i).state = .digital ∧ ((s.trained i w).plyPort i).lastCause = 4 := by
  simp only [State.trained, h]
  rw [State.goDigital_plyPort (State.wf_modPly _ hw)]
  exact ⟨rfl, rfl⟩

theorem State.checked_of_ok (h : (meets (s.plyPort i).members.length (s.plyPort i).split w &&
    proofsRight (s.plyPort i).members.length (s.plyPort i).split w.codes) = true) : ((s.checked i w).plyPort i).state = .ready := by
  simp only [State.checked, h, if_true]
  rw [State.plyPort_modPly _ hw]

theorem State.checked_of_bad (h : (meets (s.plyPort i).members.length (s.plyPort i).split w &&
      proofsRight (s.plyPort i).members.length (s.plyPort i).split w.codes) = false) :
    ((s.checked i w).plyPort i).state = .train ∧ ((s.checked i w).plyPort i).since_ = s.time.lea := by
  simp only [State.checked, h, Bool.false_eq_true, if_false]
  rw [State.plyPort_modPly _ hw]
  exact ⟨rfl, rfl⟩

end training

/-! ### Splits and subsets (R217, R220) -/

theorem widthPerSlot_le_iff {n sp k : Nat} (hsp : 0 < sp) : widthPerSlot n sp ≤ k ↔ n ≤ sp * k := by
  rw [widthPerSlot, ← Nat.lt_succ_iff, Nat.div_lt_iff_lt_mul hsp, Nat.succ_mul, Nat.mul_comm k]
  omega

theorem splitOk_iff {n eqRes cap sp : Nat} (hsp : 0 < sp) :
    splitOk n eqRes cap sp = true ↔ ∃ lim, widthLimit eqRes = some lim ∧ n ≤ sp * min lim cap := by
  unfold splitOk
  split
  next lim hlim => simp [hlim, widthPerSlot_le_iff hsp]
  next hnone => simp [hnone]

/-- The split chosen is allowed and meets the margin, and no smaller one is and does. -/
theorem splitFor_least {n cap sp : Nat} {w : PlyMeas} (h : splitFor n cap w = some sp) :
    sp ∈ [1, 2, 4] ∧ splitOk n w.eqRes cap sp = true ∧ meets n sp w = true ∧
      ∀ t ∈ [1, 2, 4], t < sp → splitOk n w.eqRes cap t = false ∨ meets n t w = false := by
  obtain ⟨hsp, as, bs, hlist, hbefore⟩ := List.find?_eq_some_iff_append.1 h
  obtain ⟨hok, hmeets⟩ := Bool.and_eq_true_iff.1 hsp
  refine ⟨List.mem_of_find?_eq_some h, hok, hmeets, fun t ht hlt => ?_⟩
  have hrising : ([1, 2, 4] : List Nat).Pairwise (· < ·) := by decide
  rw [hlist] at ht hrising
  have hbef : t ∈ as := by
    obtain ht | ht := List.mem_append.1 ht
    · exact ht
    · exfalso
      obtain rfl | ht := List.mem_cons.1 ht
      · omega
      · have := List.rel_of_pairwise_cons (List.pairwise_append.1 hrising).2.1 ht
        omega
  simpa [imp_iff_not_or] using hbefore t hbef

theorem splitFor_holds {n cap sp : Nat} {w : PlyMeas} (h : splitFor n cap w = some sp) :
    ∃ lim, widthLimit w.eqRes = some lim ∧ sp ∈ [1, 2, 4] ∧ n ≤ sp * min lim cap ∧ meets n sp w = true ∧
      ∀ t ∈ [1, 2, 4], t < sp → t * min lim cap < n ∨ meets n t w = false := by
  have hpos : ∀ t ∈ [1, 2, 4], 0 < t := by decide
  obtain ⟨hmem, hok, hmeets, hleast⟩ := splitFor_least h
  obtain ⟨lim, hlim, hfits⟩ := (splitOk_iff (hpos sp hmem)).1 hok
  refine ⟨lim, hlim, hmem, hfits, hmeets, fun t ht hlt => (hleast t ht hlt).imp_left fun hno => ?_⟩
  refine Nat.lt_of_not_le fun hfit => ?_
  rw [(splitOk_iff (hpos t ht)).2 ⟨lim, hlim, hfit⟩] at hno
  exact Bool.noConfusion hno

theorem subsetSize_eq_count (n sp k : Nat) : subsetSize n sp k = Nat.count (· % sp = k) n := by
  rw [Nat.count_eq_card_filter_range]
  rfl

theorem subsetSize_eq {n sp k : Nat} (hk : k < sp) : subsetSize n sp k = n / sp + if k < n % sp then 1 else 0 := by
  have hmod := Nat.count_modEq_card n (Nat.zero_lt_of_lt hk) k
  rw [Nat.mod_eq_of_lt hk] at hmod
  rw [subsetSize_eq_count, ← hmod]
  simp only [Nat.ModEq, Nat.mod_eq_of_lt hk]

/-- Each member is in one subset. -/
theorem sum_subsetSize {n sp : Nat} (hsp : 0 < sp) : ((List.range sp).map (subsetSize n sp)).sum = n := by
  have hsizes : ∀ k ∈ Finset.range sp, subsetSize n sp k = ((Finset.range n).filter fun m => m % sp = k).card := fun _ _ => rfl
  calc ((List.range sp).map (subsetSize n sp)).sum = ∑ k ∈ Finset.range sp, subsetSize n sp k := rfl
    _ = ∑ k ∈ Finset.range sp, ((Finset.range n).filter fun m => m % sp = k).card := Finset.sum_congr rfl hsizes
    _ = (Finset.range n).card := (Finset.card_eq_sum_card_fiberwise fun m _ => by simpa using Nat.mod_lt m hsp).symm
    _ = n := Finset.card_range n

theorem subsetSize_le {n sp k : Nat} (hk : k < sp) : subsetSize n sp k ≤ widthPerSlot n sp := by
  have hn := Nat.div_add_mod n sp
  rw [subsetSize_eq hk]
  split
  next hlt =>
    rw [← Nat.lt_iff_add_one_le, ← Nat.not_le, widthPerSlot_le_iff (Nat.zero_lt_of_lt hk)]
    omega
  next =>
    rw [Nat.add_zero, widthPerSlot]
    exact Nat.div_le_div_right (by omega)

/-! ### The statement -/

/-- Settles O51: a window and a proof slot by the state of the port and what they show, narrowing and training by what they leave of it, and
a split by the list from which it is taken. How D is formed (log 140) and when a trim applies while no group runs (log 141) are the model's
choices. -/
theorem plyPortsKeepTheirMargin : Obligations.PlyPortsKeepTheirMargin := by
  unfold Obligations.PlyPortsKeepTheirMargin
  refine ⟨?dark, ?lit, fun x w => ⟨x.measured_predLog w, x.measured_length w, x.measured_state w, fun _ _ _ => PlyPort.measured_trim⟩,
    ?narrowed, fun _ _ _ => ⟨exec_plyTrainDone_of_train, exec_plyTrainDone_of_check, exec_plyTrainDone_of_run⟩, ?trained,
    fun _ _ _ _ => splitFor_holds, ?subsets, ?late⟩
  case dark =>
    exact fun s p w hrun hready => ⟨exec_plyWindow_of_other hrun hready, fun n _ =>
      exec_plyProofMiss_of_none (PlyPort.proofAt_of_other hrun hready n)⟩
  case lit =>
    intro s p w hx n sp s1
    refine ⟨exec_plyWindow_of_lost hx, fun h hmeets => ?_, fun h hmeets => ?_, fun slot code q hq =>
      ⟨exec_plyProofMiss_of_wrong (PlyPort.proofAt_of_proof hq), exec_plyProofMiss_of_right (PlyPort.proofAt_of_proof hq)⟩,
      fun slot code hrun hdata => exec_plyProofMiss_of_none (PlyPort.proofAt_of_data hrun hdata)⟩
    · exact (exec_plyWindow_of_whole hx h).trans (congrArg _ (if_pos hmeets))
    · exact (exec_plyWindow_of_whole hx h).trans (congrArg _ (if_neg (Bool.eq_false_iff.1 hmeets)))
  case narrowed =>
    intro s i cause b hw hrun
    refine ⟨fun h hb => ?_, fun h hb => ?_, fun h => ?_, fun _ => State.narrow_plyPort_other hrun hw⟩
    · rw [State.narrow_plyPort hrun hw h, hb]
      exact ⟨rfl, hrun⟩
    · rw [State.narrow_plyPort hrun hw h, hb]
      exact ⟨rfl, rfl⟩
    · rw [State.narrow_of_widest hrun h, State.goDigital_plyPort hw]
      exact ⟨rfl, rfl⟩
  case trained =>
    exact fun s i w hw => ⟨fun _ => State.trained_of_split hw, State.trained_of_none hw, State.checked_of_ok hw, State.checked_of_bad hw⟩
  case subsets =>
    intro n sp _ hmem
    have hpos : 0 < sp := (by decide : ∀ t ∈ [1, 2, 4], 0 < t) sp hmem
    exact ⟨sum_subsetSize hpos, fun _ => subsetSize_le⟩
  case late =>
    exact fun s p => ⟨exec_plyTrainTimeout_of_late, exec_plyTrainTimeout_of_early, exec_plyCheckTimeout_of_late, exec_plyCheckTimeout_of_early⟩

end Sys2Proof.Machine
end

section
/-! PROOFS. The light of the loops (R235-R237, R241, R242, R245): what light that is lost withdraws, how a loop's window is entered and judged,
what a commissioning leaves and what a cage's poll does, and the statement that they settle. -/

namespace Sys2Proof.Machine

/-! ### Light that is lost (R237, R242) -/

section lostLight
variable {s : State} {k : Cage}

theorem exec_lightLost (what : LightWhat) : exec (.lightLost what) s = execLightLost what s := rfl

theorem State.lightLost_of_fed {n : Nat} (h : (s.loopSt n).state.fed = true) (g : Nat) :
    s.lightLost [n] g = (s.bump Ctr.lightLost g).withdrawLoops [n] 3 := by
  simp only [State.lightLost, List.any_cons, List.any_nil, Bool.or_false, h, State.when_true]

theorem exec_lightLost_loop_of_fed {n : Loop} (h : (s.loopSt n).state.fed = true) :
    exec (.lightLost (.loop n)) s = .next ((s.bump Ctr.lightLost (n.val / 16)).withdrawLoops [n.val] 3) := by
  rw [exec_lightLost, execLightLost, State.lightLost_of_fed h]

theorem exec_lightLost_cage_of_sound (hf : (s.cage k).faultPin = false) (hp : (s.cage k).present = true) :
    exec (.lightLost (.cage k)) s = .next s := by
  simp only [exec_lightLost, execLightLost, hf, hp, Bool.not_true, Bool.or_self, State.when_false]

/-- A source that has signalled its fault or left its cage takes every group that the cage lights. -/
theorem exec_lightLost_cage_of_gone (h : (s.cage k).faultPin = true ∨ (s.cage k).present = false) : exec (.lightLost (.cage k)) s =
    .next (s.forEach (s.groupsOfCage k) fun g u => u.lightLost (loopsOf g) g) := by
  have hgone : ((s.cage k).faultPin || !(s.cage k).present) = true := by simpa using h
  simp only [exec_lightLost, execLightLost, hgone, State.when_true]

end lostLight

/-! ### A window of a loop (R235, R237) -/

/-- How many windows in a row stand at or below -2.5 dB, after this one. -/
def State.belowAfter (s : State) (n : Loop) (w : LightMeas) : Nat :=
  if (s.weakest n w.powers).1 ≤ -250 then min ((s.light.loop.get {} n.val).below + 1) 2 else 0

/-- The state in which a window has entered the level of its weakest line. -/
def State.enterWindow (s : State) (n : Loop) (w : LightMeas) : State :=
  s.modLight n fun x => { x with
    windows := ((s.weakest n w.powers).1 :: x.windows).take 10, worstLine := (s.weakest n w.powers).2, below := s.belowAfter n w }

section lightWindow
variable {s : State} {n : Loop} {w : LightMeas}

theorem exec_lightWindow : exec (.lightWindow n w) s =
    .next (if !(s.loopSt n).state.fed then (s.enterWindow n w).judgeWithdrawn n
      else if w.totalDrop > 1000 then (s.enterWindow n w).lightLost [n.val] (n.val / 16)
      else if s.belowAfter n w ≥ 2 then (s.enterWindow n w).withdrawLoops [n.val] 2
      else (s.enterWindow n w).judge n) := rfl

theorem State.two_le_belowAfter (hlow : (s.weakest n w.powers).1 ≤ -250) (h : 1 ≤ (s.light.loop.get {} n.val).below) : 2 ≤ s.belowAfter n w := by
  rw [State.belowAfter, if_pos hlow]
  omega

theorem State.belowAfter_lt_two (h : -250 < (s.weakest n w.powers).1 ∨ (s.light.loop.get {} n.val).below = 0) : s.belowAfter n w < 2 := by
  rw [State.belowAfter]
  split <;> omega

theorem exec_lightWindow_of_unfed (h : (s.loopSt n).state.fed = false) :
    exec (.lightWindow n w) s = .next ((s.enterWindow n w).judgeWithdrawn n) := by
  simp only [exec_lightWindow, h, Bool.not_false, if_true]

section fed
variable (h : (s.loopSt n).state.fed = true)
include h

theorem exec_lightWindow_of_lost (hd : 1000 < w.totalDrop) :
    exec (.lightWindow n w) s = .next ((s.enterWindow n w).lightLost [n.val] (n.val / 16)) := by
  simp only [exec_lightWindow, h, Bool.not_true, Bool.false_eq_true, if_false, gt_iff_lt, hd, if_true]

variable (hd : w.totalDrop ≤ 1000)
include hd

/-- The second window in a row at or below -2.5 dB withdraws the loop. -/
theorem exec_lightWindow_of_faded (hb : 2 ≤ s.belowAfter n w) :
    exec (.lightWindow n w) s = .next ((s.enterWindow n w).withdrawLoops [n.val] 2) := by
  simp only [exec_lightWindow, h, Bool.not_true, Bool.false_eq_true, if_false, gt_iff_lt, Int.not_lt.2 hd, ge_iff_le, hb, if_true]

theorem exec_lightWindow_of_lit (hb : s.belowAfter n w < 2) : exec (.lightWindow n w) s = .next ((s.enterWindow n w).judge n) := by
  simp only [exec_lightWindow, h, Bool.not_true, Bool.false_eq_true, if_false, gt_iff_lt, Int.not_lt.2 hd, ge_iff_le, Nat.not_le.2 hb]

end fed
end lightWindow

/-! ### The average of ten windows judged (R237, R241) -/

theorem LoopLight.average_of_few {x : LoopLight} (h : x.windows.length < 10) : x.average = none := if_pos h

section averaged
variable {s : State} {n : Nat}

theorem State.judge_of_none (h : (s.light.loop.get {} n).average = none) : s.judge n = s := by simp only [State.judge, h]

theorem State.judgeWithdrawn_of_none (h : (s.light.loop.get {} n).average = none) : s.judgeWithdrawn n = s := by
  simp only [State.judgeWithdrawn, h]

theorem State.judgeWithdrawn_of_other (h : (s.loopSt n).state ≠ .withdrawn) : s.judgeWithdrawn n = s := by
  cases ha : (s.light.loop.get {} n).average with
  | none => exact State.judgeWithdrawn_of_none ha
  | some a => simp only [State.judgeWithdrawn, ha, h, decide_false, Bool.false_and, State.when_false]

variable {a : Int} (ha : (s.light.loop.get {} n).average = some a)
include ha

theorem State.judgeWithdrawn_of_withdrawn (h : (s.loopSt n).state = .withdrawn) :
    s.judgeWithdrawn n = s.when (decide (a ≤ -150)) fun u => u.handover (n / 16) := by
  simp only [State.judgeWithdrawn, ha, h, decide_true, Bool.true_and]

/-- While no hand-over is due, the judgement is that of the loop's advisory flag alone. -/
theorem State.judge_of_some (h : -150 < a) : s.judge n =
    if a ≤ -100 ∧ (s.light.loop.get {} n).advisory = false then (s.flagLight n true).bump Ctr.lightAdvisory (n / 16)
    else if a ≥ -70 ∧ (s.light.loop.get {} n).advisory = true then s.flagLight n false
    else s := by
  simp only [State.judge, ha, Int.not_le.2 h, decide_false, State.when_false]

theorem State.judge_of_between (hlo : -100 < a) (hhi : a < -70) : s.judge n = s := by
  rw [State.judge_of_some ha (by omega), if_neg fun h => absurd h.1 (by omega), if_neg fun h => absurd h.1 (by omega)]

/-- The light after a judgement: as before, or with the loop's flag as its average asks. -/
theorem State.judge_light (h : -150 < a) : (s.judge n).light = s.light ∨
    ∃ b, (s.judge n).light = (s.modLight n fun x => { x with advisory := b }).light := by
  rw [State.judge_of_some ha h]
  split
  · exact .inr ⟨true, rfl⟩
  · split
    · exact .inr ⟨false, rfl⟩
    · exact .inl rfl

theorem State.judge_group (h : -150 < a) : (s.judge n).light.group = s.light.group := by
  obtain hl | ⟨b, hl⟩ := State.judge_light ha h <;> rw [hl]
  rfl

variable (hw : Tab.wf s.light.loop {} = true)
include hw

omit ha in
theorem State.flagLight_advisory (b : Bool) : ((s.flagLight n b).light.loop.get {} n).advisory = b :=
  congrArg (·.advisory) (Tab.get_mod_same n (fun x : LoopLight => { x with advisory := b }) hw)

theorem State.judge_loop_other (h : -150 < a) {m : Nat} (hm : m ≠ n) : (s.judge n).light.loop.get {} m = s.light.loop.get {} m := by
  obtain hl | ⟨b, hl⟩ := State.judge_light ha h <;> rw [hl]
  exact Tab.get_mod_other hm (fun x : LoopLight => { x with advisory := b }) hw

theorem State.judge_advisory_of_low (hlo : -150 < a) (h : a ≤ -100) : ((s.judge n).light.loop.get {} n).advisory = true := by
  rw [State.judge_of_some ha hlo]
  cases hadv : (s.light.loop.get {} n).advisory with
  | false =>
    rw [if_pos ⟨h, rfl⟩, State.bump_light]
    exact State.flagLight_advisory hw true
  | true =>
    rw [if_neg fun hc => Bool.noConfusion hc.2, if_neg fun hc => absurd hc.1 (by omega)]
    exact hadv

theorem State.judge_advisory_of_high (h : -70 ≤ a) : ((s.judge n).light.loop.get {} n).advisory = false := by
  rw [State.judge_of_some ha (by omega), if_neg fun hc => absurd hc.1 (by omega)]
  cases hadv : (s.light.loop.get {} n).advisory with
  | false =>
    rw [if_neg fun hc => Bool.noConfusion hc.2]
    exact hadv
  | true =>
    rw [if_pos ⟨h, rfl⟩]
    exact State.flagLight_advisory hw false

end averaged

/-! ### Commissioning (R236) -/

/-- The state in which the windows of every loop measured begin anew. -/
def State.beginWindows (s : State) (pw : List LinePower) : State :=
  s.forEach ((pw.map fun p => p.loop.val).eraseDups) fun n u => u.modLight n fun x => { x with windows := [], below := 0 }

/-- P_c with the powers measured in it. -/
def Light.measured (x : Light) (pw : List LinePower) : Light :=
  { x with commissioned := true
           pc := pw.foldl (fun t p => t.setAll (-100) (96 * p.loop.val + if p.standby then 48 else 0) (p.powers.take 48)) x.pc }

theorem shortLoops_eq_nil {pw : List LinePower} (h : ∀ p ∈ pw, ∀ x ∈ p.powers, -100 ≤ x) : shortLoops pw = [] := by
  have hshort : pw.filter (fun p => p.powers.any (· < -100)) = [] := by
    refine List.filter_eq_nil_iff.2 fun p hp hany => ?_
    obtain ⟨x, hx, hlt⟩ := List.any_eq_true.1 hany
    exact Int.not_lt.2 (h p hp x hx) (of_decide_eq_true hlt)
  rw [shortLoops, hshort]
  rfl

section commission
variable {s : State} {c : Cmd} {pw : List LinePower} (hp : Passes s { op := 0x0810, long := true, noJob := true, nvm := true } c {})
include hp

theorem exec_lightCommission_of_passes : exec (.lightCommission c pw) s =
    .next (let on := accepted s { op := 0x0810, long := true, noJob := true, nvm := true } c {}
      if (shortLoops pw).isEmpty then (({ on with light := on.light.measured pw } : State).beginWindows pw).done c .ok
      else ((on.beginWindows pw).withdrawLoops (shortLoops pw) 2).done c .fault (BitVec.ofNat 128 (((shortLoops pw).map fun n => 2 ^ n).sum))) :=
  congrArg _ (selkan_passes hp)

theorem exec_lightCommission_of_bright (h : shortLoops pw = []) :
    let on := accepted s { op := 0x0810, long := true, noJob := true, nvm := true } c {}
    exec (.lightCommission c pw) s = .next ((({ on with light := on.light.measured pw } : State).beginWindows pw).done c .ok) := by
  rw [exec_lightCommission_of_passes hp, h]
  rfl

theorem exec_lightCommission_of_short (h : shortLoops pw ≠ []) :
    let on := accepted s { op := 0x0810, long := true, noJob := true, nvm := true } c {}
    exec (.lightCommission c pw) s = .next (((on.beginWindows pw).withdrawLoops (shortLoops pw) 2).done c .fault
      (BitVec.ofNat 128 (((shortLoops pw).map fun n => 2 ^ n).sum))) := by
  have hsome : (shortLoops pw).isEmpty = false := List.isEmpty_eq_false_iff.2 h
  rw [exec_lightCommission_of_passes hp, hsome]
  rfl

end commission

/-! ### Cages (R245) -/

/-- A cage whose management bus has answered. -/
def CageSt.answered (x : CageSt) (r : CageRead) : CageSt :=
  { x with
    misses := 0, mgmtOk := true, tempC := r.tempC, minLine := r.minLine
    state := if r.ready && decide (x.state = .warming) then .ready else x.state
    faultCode := if r.faultCode = 0 then x.faultCode else r.faultCode.toNat }

section cages
variable {s : State} {k : Cage}

theorem exec_cagePoll (r : Option CageRead) : exec (.cagePoll k r) s = execCagePoll k r s := rfl

/-- A cage's change is what it makes of the cage as it stands. -/
theorem State.modCage_congr {f f' : CageSt → CageSt} (h : f (s.cage k) = f' (s.cage k)) : s.modCage k f = s.modCage k f' :=
  congrArg (fun x => { s with light := { s.light with cage := s.light.cage.set {} k x } }) h

/-- The third transaction in a row without an answer takes MGMT_OK. -/
theorem exec_cagePoll_of_third_miss (hm : (s.cage k).misses = 2) (ho : (s.cage k).mgmtOk = true) :
    exec (.cagePoll k none) s = .next ((s.modCage k fun x => { x with misses := 3, mgmtOk := false }).fire (0x288 + k.val) 1 k) := by
  have hcage : (s.modCage k fun x => { x with misses := min (x.misses + 1) 3, mgmtOk := x.mgmtOk && decide (x.misses < 2) }) =
      s.modCage k fun x => { x with misses := 3, mgmtOk := false } :=
    State.modCage_congr (by simp [hm])
  simp only [exec_cagePoll, execCagePoll, ite_self, hm, ho, hcage]
  rfl

theorem exec_cagePoll_of_answer {r : CageRead} (hp : s.spin.present.get (dieOfCage k) = true) : exec (.cagePoll k (some r)) s =
    .next ((s.modCage k (·.answered r)).when (r.ready && decide ((s.cage k).state = .warming)) fun u => u.fire (0x288 + k) 0 k 2) := by
  simp only [exec_cagePoll, execCagePoll, hp, if_true]
  rfl

theorem State.cage_when_fire (u : State) (b : Bool) (src code index value j : Nat) :
    (u.when b fun v => v.fire src code index value).cage j = u.cage j := State.when_keeps (·.cage j) rfl b

end cages

/-! ### The statement -/

/-- Settles O34: a window by the loop's state and the drop that it shows, a judgement by where its average lies, and a commissioning and a poll by
what was measured. That a withdrawn loop is judged for its hand-over (log 71), the code 1 of the event of a lost management bus (log 85), and that
P_c of every loop stays when one falls short (log 95) are the model's choices. -/
theorem lightIsMeasuredAndJudged : Obligations.LightIsMeasuredAndJudged := by
  unfold Obligations.LightIsMeasuredAndJudged
  refine ⟨?window, ?judged, fun s n h => State.judge_of_none (LoopLight.average_of_few h), fun _ _ => exec_lightLost_loop_of_fed,
    fun _ _ => exec_lightLost_cage_of_sound, fun _ _ => exec_lightLost_cage_of_gone, ?commission, fun _ _ _ => exec_cagePoll_of_third_miss,
    ?answer, ?withdrawn, ?other⟩
  case window =>
    exact fun s n w => ⟨exec_lightWindow_of_unfed, exec_lightWindow_of_lost,
      fun h hd hlow hb => exec_lightWindow_of_faded h hd (State.two_le_belowAfter hlow hb),
      fun h hd hb => exec_lightWindow_of_lit h hd (State.belowAfter_lt_two hb)⟩
  case judged =>
    exact fun s n a ha hw => ⟨fun h hlo => State.judge_advisory_of_low ha hw hlo h, State.judge_advisory_of_high ha hw, State.judge_of_between ha,
      State.judge_group ha, fun h _ => State.judge_loop_other ha hw h⟩
  case commission =>
    exact fun s c pw hp => ⟨fun h => exec_lightCommission_of_bright hp (shortLoops_eq_nil h), exec_lightCommission_of_short hp⟩
  case answer =>
    intro s k r hp hw
    refine ⟨_, exec_cagePoll_of_answer hp, ?_⟩
    simp only [State.cage_when_fire, State.cage_modCage _ hw]
    refine ⟨rfl, rfl, rfl, rfl, ?_, fun j hj => State.cage_modCage_other _ hw hj⟩
    simp only [CageSt.answered, Bool.and_eq_true, decide_eq_true_eq]
  case withdrawn =>
    intro s n a ha hs
    rw [State.judgeWithdrawn_of_withdrawn ha hs]
    exact ⟨fun h => by rw [decide_eq_true h, State.when_true], fun h => by rw [decide_eq_false (Int.not_le.2 h), State.when_false]⟩
  case other =>
    exact fun s n h => h.elim State.judgeWithdrawn_of_other fun hf => State.judgeWithdrawn_of_none (LoopLight.average_of_few hf)

end Sys2Proof.Machine
end

section
/-! PROOFS. Hand-over of light groups (R238-R243): what a source that is ready or late, a pause, a transfer and a LIGHT_RETURN do in each state
of the group, what the move of the selectors leaves, and the statement that they settle. -/

namespace Sys2Proof.Machine

theorem State.elapsed_eq_true {s : State} {t : Lea} {ns : Nat} (h : ns ≤ since t s.time.lea) : s.elapsed t ns = true := decide_eq_true h
theorem State.elapsed_eq_false {s : State} {t : Lea} {ns : Nat} (h : since t s.time.lea < ns) : s.elapsed t ns = false :=
  decide_eq_false (Nat.not_le.2 h)

/-! ### Arming (R238, R242) -/

section arming
variable {s : State} {g : Group}

theorem exec_sourceReady : exec (.sourceReady g) s = execSourceReady g s := rfl
theorem exec_armingTimeout : exec (.armingTimeout g) s = execArmingTimeout g s := rfl

theorem exec_sourceReady_of_rests (h : (s.grp g).state ≠ .arming ∨ (s.cage (s.targetCage g)).state = .fault) :
    exec (.sourceReady g) s = .next s := by
  rw [exec_sourceReady, execSourceReady, if_neg fun hc => h.elim (· hc.1) hc.2.1]

theorem exec_armingTimeout_of_early (ht : since (s.grp g).changedAt s.time.lea < 5000000) : exec (.armingTimeout g) s = .next s := by
  simp only [exec_armingTimeout, execArmingTimeout, State.elapsed_eq_false ht, Bool.and_false, State.when_false]

variable (h : (s.grp g).state = .arming)
include h

theorem exec_sourceReady_of_arming (hf : (s.cage (s.targetCage g)).state ≠ .fault) (ha : (s.cage (s.targetCage g)).state ≠ .absent) :
    exec (.sourceReady g) s = .next ((s.modCage (s.targetCage g) fun c => { c with state := .lit }).enterGrp g
      (if (s.grp g).unpaused then .transfer else .waiting)) := by
  rw [exec_sourceReady, execSourceReady, if_pos ⟨h, hf, ha⟩]

/-- 5 ms of arming: a return ends in STANDBY and its command with FAULT; any other hand-over ends on the primary, and takes the group out. -/
theorem exec_armingTimeout_of_late (ht : 5000000 ≤ since (s.grp g).changedAt s.time.lea) : exec (.armingTimeout g) s =
    .next (let k := s.targetCage g
      let back := ((s.modCage k fun c => { c with state := .fault, bundle := 15 }).fire (0x288 + k) 0 k 4).enterGrp g
        (if (s.grp g).returning then .standby else .primary) fun x => { x with returning := false, unpaused := false }
      if (s.grp g).returning then back.endReturn g .fault else back.groupOut g) := by
  simp only [exec_armingTimeout, execArmingTimeout, h, State.elapsed_eq_true ht, decide_true, Bool.and_self, State.when_true]

end arming

/-! ### Pauses (R239, R240) -/

section pauses
variable {s : State} {g : Group} {o : PauseRead} {ns : Nat}

theorem exec_pauseOpen : exec (.pauseOpen g o ns) s = execPauseOpen g o ns s := rfl
theorem exec_handoverWaitLapse : exec (.handoverWaitLapse g o ns) s = execHandoverWaitLapse g o ns s := rfl

theorem exec_handoverWaitLapse_of_early (ht : since (s.grp g).changedAt s.time.lea < 1000000 * s.light.waitMs) :
    exec (.handoverWaitLapse g o ns) s = .next s := by
  simp only [exec_handoverWaitLapse, execHandoverWaitLapse, State.elapsed_eq_false ht, Bool.and_false, State.when_false]

section elsewhere
variable (h : (s.grp g).state ≠ .waiting)
include h

theorem exec_pauseOpen_of_other : exec (.pauseOpen g o ns) s = .next s := by
  rw [exec_pauseOpen, execPauseOpen, if_pos h]

theorem exec_handoverWaitLapse_of_other : exec (.handoverWaitLapse g o ns) s = .next s := by
  simp only [exec_handoverWaitLapse, execHandoverWaitLapse, h, decide_false, Bool.false_and, State.when_false]

end elsewhere

section waiting
variable (h : (s.grp g).state = .waiting)
include h

theorem exec_pauseOpen_of_no_run (hr : s.creel.run = none) : exec (.pauseOpen g o ns) s = .next (s.pause g o.failed o.faded ns 0) := by
  rw [exec_pauseOpen, execPauseOpen, if_neg (not_not_intro h), hr]

/-- A switch of the running table that is no allowed gap opens no pause; one that is waits for the pause's end. -/
theorem exec_pauseOpen_of_run {r : Run} (hr : s.creel.run = some r) : exec (.pauseOpen g o ns) s =
    .next (s.when (s.gapAt r g) fun s =>
      let s1 := (s.withdraw (s.phaseOn g)).pause g o.failed o.faded ns 0
      { s1 with creel := { s1.creel with run := s1.creel.run.map fun r => { r with pauseEnd := some (s.time.lea + BitVec.ofNat 64 ns) } } }) := by
  rw [exec_pauseOpen, execPauseOpen, if_neg (not_not_intro h), hr]

theorem exec_handoverWaitLapse_of_late (ht : 1000000 * s.light.waitMs ≤ since (s.grp g).changedAt s.time.lea) :
    exec (.handoverWaitLapse g o ns) s = .next ((((s.bump Ctr.lightHandoverForced g).withdraw (s.phaseOn g)).modGrp g
      fun x => { x with forced := true }).pause g o.failed o.faded ns 1) := by
  simp only [exec_handoverWaitLapse, execHandoverWaitLapse, h, State.elapsed_eq_true ht, decide_true, Bool.and_self, State.when_true]

end waiting
end pauses

/-! ### The selectors move (R234, R235, R238, R240) -/

section transfer
variable {s : State} {g : Group}

theorem exec_lightTransfer : exec (.lightTransfer g) s = execLightTransfer g s := rfl

theorem exec_lightTransfer_of_transfer (h : (s.grp g).state = .transfer) : exec (.lightTransfer g) s = .next (s.moved g 2) := by
  simp only [exec_lightTransfer, execLightTransfer, h, decide_true, State.when_true]

theorem exec_lightTransfer_of_other (h : (s.grp g).state ≠ .transfer) : exec (.lightTransfer g) s = .next s := by
  simp only [exec_lightTransfer, execLightTransfer, h, decide_false, State.when_false]

end transfer

/-- The sources after the move: the new one lights the group, the old one is dark or ready. -/
def State.switchSources (s : State) (g : Nat) : State :=
  let back := (s.grp g).returning
  (s.modCage (if back then standbyCage g else g) fun c => { c with state := if c.state = .lit then .ready else c.state, bundle := 15 }).modCage
    (if back then g else standbyCage g) fun c =>
      { c with state := if c.state = .fault || c.state = .absent then c.state else .lit, bundle := if back then 15 else g % 4 }

/-- The windows of a group's loops begin anew, and the trims stored for its ply ports are gone. -/
def State.beginGroup (s : State) (g : Nat) : State :=
  let s2 := s.forEach (loopsOf g) fun n s => s.modLight n fun x => { x with windows := [], below := 0 }
  s2.forEach ((s2.ply.filter fun p => decide (p.1 % 64 / 8 = g)).map (·.1)) fun p s => s.modPly p fun x => { x with stored := [] }

/-- The state in which the selectors have moved, before the group takes its new state. -/
def State.onNewSource (s : State) (g kind : Nat) : State :=
  let s3 := (s.switchSources g).beginGroup g
  ({ s3 with light := { s3.light with lastGroup := g, lastKind := if (s.grp g).returning then 3 else kind } } : State).bump Ctr.lightHandover g

/-- A group that the move has put on its other source, at the time `lea`. -/
def GroupSt.onOther (x : GroupSt) (lea : Lea) : GroupSt :=
  { x with state := if x.returning then .primary else .standby, changedAt := lea, onStandby := !x.returning, returning := false, unpaused := false }

section moved
variable (s : State) (g kind : Nat)

theorem State.beginGroup_keeps {β : Type} (f : State → β) (hl : ∀ (u : State) n h, f (u.modLight n h) = f u)
    (hp : ∀ (u : State) p h, f (u.modPly p h) = f u) : f (s.beginGroup g) = f s :=
  (State.forEach_keeps f (fun p u => hp u p _) _ _).trans (State.forEach_keeps f (fun n u => hl u n _) _ _)

@[simp] theorem State.onNewSource_group : (s.onNewSource g kind).light.group = s.light.group :=
  State.beginGroup_keeps _ g (·.light.group) (fun _ _ _ => rfl) fun _ _ _ => rfl

@[simp] theorem State.onNewSource_pc : (s.onNewSource g kind).light.pc = s.light.pc :=
  State.beginGroup_keeps _ g (·.light.pc) (fun _ _ _ => rfl) fun _ _ _ => rfl

@[simp] theorem State.onNewSource_mems : (s.onNewSource g kind).mems = s.mems :=
  State.beginGroup_keeps _ g (·.mems) (fun _ _ _ => rfl) fun _ _ _ => rfl

theorem State.moved_eq : s.moved g kind =
    ((s.onNewSource g kind).enterGrp g (if (s.grp g).returning then .primary else .standby) fun x =>
      { x with onStandby := !(s.grp g).returning, returning := false, unpaused := false }).when (s.grp g).returning fun u => u.endReturn g .ok := rfl

theorem State.moved_light : (s.moved g kind).light = ((s.onNewSource g kind).modGrp g fun x =>
    { x with state := if (s.grp g).returning then .primary else .standby, changedAt := (s.onNewSource g kind).time.lea
             onStandby := !(s.grp g).returning, returning := false, unpaused := false }).light := by
  rw [State.moved_eq, State.when_keeps (·.light) (State.endLops_light _ _ _ _)]
  rfl

theorem State.moved_hbm : (s.moved g kind).mems.hbm = s.mems.hbm := by
  rw [State.moved_eq, State.when_keeps (·.mems.hbm) (State.endLops_hbm _ _ _ _)]
  exact congrArg (·.hbm) (State.onNewSource_mems s g kind)

theorem State.moved_sram : (s.moved g kind).mems.sram = s.mems.sram := by
  rw [State.moved_eq, State.when_keeps (·.mems.sram) (State.endLops_sram _ _ _ _)]
  exact congrArg (·.sram) (State.onNewSource_mems s g kind)

theorem State.moved_lastGroup : (s.moved g kind).light.lastGroup = g := by
  rw [State.moved_light]
  rfl

theorem State.moved_pc : (s.moved g kind).light.pc = s.light.pc := by
  rw [State.moved_light]
  exact State.onNewSource_pc s g kind

theorem State.moved_group : (s.moved g kind).light.group = s.light.group.mod {} g (·.onOther (s.onNewSource g kind).time.lea) := by
  rw [State.moved_light, State.modGrp, State.onNewSource_group]
  rfl

variable {s} (hw : Tab.wf s.light.group {} = true)
include hw

theorem State.moved_grp : (s.moved g kind).grp g = (s.grp g).onOther (s.onNewSource g kind).time.lea := by
  rw [State.grp, State.moved_group]
  exact Tab.get_mod_same g _ hw

theorem State.moved_grp_other {h : Nat} (hh : h ≠ g) : (s.moved g kind).grp h = s.grp h := by
  rw [State.grp, State.moved_group]
  exact Tab.get_mod_other hh _ hw

end moved

section onOther
variable {x : GroupSt} {lea : Lea}

theorem GroupSt.onOther_of_handover (h : x.returning = false) : (x.onOther lea).state = .standby ∧ (x.onOther lea).onStandby = true := by
  simp [GroupSt.onOther, h]

theorem GroupSt.onOther_of_return (h : x.returning = true) : (x.onOther lea).state = .primary ∧ (x.onOther lea).onStandby = false := by
  simp [GroupSt.onOther, h]

end onOther

/-! ### LIGHT_RETURN (R243) -/

/-- Is a LIGHT_RETURN of the group in progress already, or the bus of its primary cage lost? -/
def State.returnBusy (s : State) (g : Nat) : Bool :=
  (s.spin.lops.any fun l => decide (l.opcode = 0x0811) && decide (l.aux = g)) || !(s.cage g).mgmtOk

theorem exec_lightReturn_of_passes {s : State} {c : Cmd} {v : Verdict} (hv : v = { busy := if s.returnBusy (c.field s 16 1) then some 0 else none })
    (hg : c.field s 16 1 < 8) (hs : (s.grp (c.field s 16 1)).state = .standby) (hr : (s.cage (c.field s 16 1)).state = .ready)
    (hp : Passes s { op := 0x0811, named := [(16, 16)], long := true } c v) :
    exec (.lightReturn c) s = .next (((accepted s { op := 0x0811, named := [(16, 16)], long := true } c v).setAux c (c.field s 16 1)).enterGrp
      (c.field s 16 1) .arming fun x => { x with returning := true, forced := false, unpaused := false }) := by
  have hverdict : ({ bad := if c.field s 16 1 ≥ 8 then some 16 else none
                     state := decide ((s.grp (c.field s 16 1)).state ≠ .standby) || decide ((s.cage (c.field s 16 1)).state ≠ .ready)
                     busy := if s.returnBusy (c.field s 16 1) then some 0 else none } : Verdict) = v := by
    simp [hv, Nat.not_le.2 hg, hs, hr]
  exact congrArg _ (selkan_passes_of hverdict hp)

/-! ### The statement -/

/-- Settles O35: each instruction by the state of its group and, where one runs, of the table or of the time, and the move of the selectors by
what it leaves of the light. The code 0 with the value 4 of the event of a source that stays dark (log 85), and that a return needs the bus of the
primary cage alone (log 90), are the model's choices. -/
theorem groupsAreHandedOver : Obligations.GroupsAreHandedOver := by
  unfold Obligations.GroupsAreHandedOver
  refine ⟨fun _ _ => exec_sourceReady_of_arming, fun _ _ => exec_sourceReady_of_rests, ?late, ?waiting,
    fun _ _ _ _ _ h => ⟨exec_pauseOpen_of_other h, exec_handoverWaitLapse_of_other h⟩,
    fun _ _ => ⟨exec_lightTransfer_of_transfer, exec_lightTransfer_of_other⟩, ?moved, fun _ _ => exec_lightReturn_of_passes rfl⟩
  case late =>
    refine fun s g h => ⟨exec_armingTimeout_of_early, fun ht => ⟨fun hr => ?_, fun hr => ?_⟩⟩ <;>
    · rw [exec_armingTimeout_of_late h ht, hr]
      rfl
  case waiting =>
    refine fun s g failed faded ns h => ⟨exec_pauseOpen_of_no_run h, fun r hr => ⟨fun hgap => ?_, fun hgap => ?_⟩,
      exec_handoverWaitLapse_of_early, exec_handoverWaitLapse_of_late h⟩
    · rw [exec_pauseOpen_of_run h hr, hgap, State.when_false]
    · rw [exec_pauseOpen_of_run h hr, hgap, State.when_true]
  case moved =>
    intro s g kind hw t
    have hg : t.grp g = (s.grp g).onOther (s.onNewSource g kind).time.lea := State.moved_grp g kind hw
    rw [hg]
    exact ⟨rfl, rfl, State.moved_lastGroup s g kind, GroupSt.onOther_of_handover, GroupSt.onOther_of_return,
      fun h => State.moved_grp_other g kind hw, State.moved_pc s g kind, State.moved_hbm s g kind, State.moved_sram s g kind⟩

end Sys2Proof.Machine
end

section
/-! SUPPORT. What every step keeps: one relation between the state before and the state after, and for each operation of the model the lemma that
it keeps it, in the order of the model. The three invariants are read off the relation. -/

set_option Elab.async false

namespace Sys2Proof.Machine

/-- `t` keeps what every step keeps of `s`: memories in canonical form, blown fuses, the SVN count and the rest of the fuses, and
HELD, unless `L` holds, which says that the step is one of those that may leave HELD. -/
structure Keeps (L : Prop) (s t : State) : Prop where
  canonical : MemsWf s.mems → MemsWf t.mems
  blown : ∀ d : IoDie, s.fuse.testLock.get d = true → t.fuse.testLock.get d = true
  counted : ∀ d : IoDie, s.fuse.svn.get d ≤ t.fuse.svn.get d
  fixed : t.fuse = { s.fuse with svn := t.fuse.svn, testLock := t.fuse.testLock }
  stays : s.mod.state = .held → t.mod.state = .held ∨ L

/-- What a command answers keeps all that `Keeps` names. -/
def Steps (L : Prop) (s : State) (o : Host.Outcome State Fault Refusal) : Prop := ∀ t, o = .next t → Keeps L s t

section
variable {L : Prop} {s u : State}

theorem Keeps.refl : Keeps L s s := ⟨id, fun _ => id, fun _ => Nat.le_refl _, rfl, .inl⟩

theorem Steps.next (h : Keeps L s u) : Steps L s (.next u) := fun _ ht => Host.Outcome.next.inj ht ▸ h

/-- Whichever branch is taken. -/
theorem Keeps.ite {c : Prop} [Decidable c] {a b : State} (ha : Keeps L s a) (hb : Keeps L s b) : Keeps L s (if c then a else b) := by
  split <;> assumption

theorem Keeps.dite {c : Prop} [Decidable c] {a : c → State} {b : ¬c → State} (ha : ∀ h, Keeps L s (a h)) (hb : ∀ h, Keeps L s (b h)) :
    Keeps L s (if h : c then a h else b h) := by
  split
  · exact ha _
  · exact hb _

theorem Steps.ite {c : Prop} [Decidable c] {a b : Host.Outcome State Fault Refusal} (ha : Steps L s a) (hb : Steps L s b) :
    Steps L s (if c then a else b) := by
  split <;> assumption

/-- A fold whose every step keeps it. -/
theorem Keeps.foldl {α : Type} {xs : List α} {f : State → α → State} (h : Keeps L s u) (hf : ∀ {x u}, Keeps L s u → Keeps L s (f u x)) :
    Keeps L s (xs.foldl f u) := by
  induction xs generalizing u with
  | nil => exact h
  | cons x xs ih => exact ih (hf h)

/-- A change that leaves the memories, the fuses and MODULE.STATE alone. -/
theorem Keeps.same {t : State} (hm : t.mems = u.mems) (hf : t.fuse = u.fuse) (hs : t.mod.state = u.mod.state) (h : Keeps L s u) :
    Keeps L s t := by
  obtain ⟨h1, h2, h3, h4, h5⟩ := h
  exact ⟨hm ▸ h1, hf ▸ h2, hf ▸ h3, hf ▸ h4, hs ▸ h5⟩

/-- The same, for an update of any of the other fields. -/
theorem Keeps.rest {time obs host spin conf pow job cal plan sec card region block cell guard light skein creel ply memory reel rport free pending}
    (h : Keeps L s u) :
    Keeps L s ⟨time, obs, host, u.mems, spin, u.mod, conf, pow, job, cal, plan, sec, card, u.fuse, region, block, cell, guard, light, skein, creel,
      ply, memory, reel, rport, free, pending⟩ := .same (u := u) rfl rfl rfl h

/-- An update that writes memories as well, and keeps their form. -/
theorem Keeps.write {time obs host mems spin conf pow job cal plan sec card region block cell guard light skein creel ply memory reel rport free pending}
    (hw : MemsWf u.mems → MemsWf mems) (h : Keeps L s u) :
    Keeps L s ⟨time, obs, host, mems, spin, u.mod, conf, pow, job, cal, plan, sec, card, u.fuse, region, block, cell, guard, light, skein, creel,
      ply, memory, reel, rport, free, pending⟩ :=
  ⟨fun hs => hw (h.canonical hs), h.blown, h.counted, h.fixed, h.stays⟩

/-- An update of the module's state as well, which does not leave HELD. -/
theorem Keeps.moves {time obs host spin mod conf pow job cal plan sec card region block cell guard light skein creel ply memory reel rport free pending}
    (hs : u.mod.state = .held → mod.state = .held ∨ L) (h : Keeps L s u) :
    Keeps L s ⟨time, obs, host, u.mems, spin, mod, conf, pow, job, cal, plan, sec, card, u.fuse, region, block, cell, guard, light, skein, creel,
      ply, memory, reel, rport, free, pending⟩ :=
  ⟨h.canonical, h.blown, h.counted, h.fixed, fun hh => (h.stays hh).elim hs .inr⟩


/-- An update that blows locks or raises the SVN count. -/
theorem Keeps.fused {time obs host spin conf pow job cal plan sec card region block cell guard light skein creel ply memory reel rport free pending}
    {svn : Two Nat} {lock : Two Bool} (hl : ∀ d : IoDie, u.fuse.testLock.get d = true → lock.get d = true)
    (hn : ∀ d : IoDie, u.fuse.svn.get d ≤ svn.get d) (h : Keeps L s u) :
    Keeps L s ⟨time, obs, host, u.mems, spin, u.mod, conf, pow, job, cal, plan, sec, card, { u.fuse with svn := svn, testLock := lock }, region, block,
      cell, guard, light, skein, creel, ply, memory, reel, rport, free, pending⟩ := by
  refine ⟨h.canonical, fun d hd => hl d (h.blown d hd), fun d => (h.counted d).trans (hn d), ?_, h.stays⟩
  exact (congrArg (fun f : Fuse => ({ f with svn := svn, testLock := lock } : Fuse)) h.fixed).trans rfl

/-! ### Writes of the memories -/

/-- A fold whose every step keeps the canonical form keeps it. -/
theorem Tab.wf_foldl {α β : Type} [DecidableEq α] {d : α} {f : Tab α → β → Tab α} (hf : ∀ t x, Tab.wf t d = true → Tab.wf (f t x) d = true) :
    ∀ (xs : List β) {t : Tab α}, Tab.wf t d = true → Tab.wf (xs.foldl f t) d = true
  | [], _, h => h
  | _ :: xs, _, h => wf_foldl hf xs (hf _ _ h)

section mems
variable {m : Mems}

theorem MemsWf.hbm (h : MemsWf m) {hbm : Memory} {marks : Tab Bool} (h1 : hbm.wf = true) (h2 : Tab.wf marks false = true) :
    MemsWf { m with hbm := hbm, hbmPoison := marks } := by
  obtain ⟨-, hs, hb, ha, hc, -, hq⟩ := h
  exact ⟨h1, hs, hb, ha, hc, h2, hq⟩

theorem MemsWf.sram (h : MemsWf m) {sram : Memory} {marks : Tab Bool} (h1 : sram.wf = true) (h2 : Tab.wf marks false = true) :
    MemsWf { m with sram := sram, sramPoison := marks } := by
  obtain ⟨hm, -, hb, ha, hc, hp, -⟩ := h
  exact ⟨hm, h1, hb, ha, hc, hp, h2⟩

theorem MemsWf.bar4 (h : MemsWf m) {a : Nat} {bs : List Byte} : MemsWf { m with bar4 := m.bar4.write a bs } := by
  obtain ⟨hm, hs, hb, hr⟩ := h
  exact ⟨hm, hs, Memory.wf_write a bs hb, hr⟩

theorem MemsWf.writeHost {p : Port} {a : Nat} {bs : List Byte} (h : MemsWf m) : MemsWf (m.writeHost p a bs) := by
  obtain ⟨hm, hs, hb, ha, hc, hr⟩ := h
  unfold Mems.writeHost
  split
  · exact ⟨hm, hs, hb, Memory.wf_write a bs ha, hc, hr⟩
  · exact ⟨hm, hs, hb, ha, Memory.wf_write a bs hc, hr⟩

theorem MemsWf.writeRing {q : QueueSt} {a : Nat} {bs : List Byte} (h : MemsWf m) : MemsWf (m.writeRing q a bs) := by
  unfold Mems.writeRing
  split
  · exact MemsWf.bar4 h
  · exact MemsWf.writeHost h

/-- The marks of a write: each unit touched is marked, cleared or left. -/
theorem wf_marks {t : Tab Bool} {xs : List Nat} {bad : Bool} {whole : Nat → Bool} (h : Tab.wf t false = true) :
    Tab.wf (xs.foldl (fun t l => if bad then t.set false l true else if whole l then t.set false l false else t) t) false = true := by
  refine Tab.wf_foldl (fun t l ht => ?_) xs h
  split
  · exact Tab.wf_set _ _ ht
  · split
    · exact Tab.wf_set _ _ ht
    · exact ht

theorem MemsWf.writeSram {a : Nat} {bs : List Byte} {bad : Bool} (h : MemsWf m) : MemsWf (m.writeSram a bs bad) := by
  have h' := h
  obtain ⟨-, hs, -, -, -, -, hq⟩ := h'
  exact MemsWf.sram h (Memory.wf_write a bs hs) (wf_marks hq)

theorem MemsWf.writeHbm {a : Nat} {bs : List Byte} {bad : Bool} (h : MemsWf m) : MemsWf (m.writeHbm a bs bad) := by
  have h' := h
  obtain ⟨hm, -, -, -, -, hp, -⟩ := h'
  exact MemsWf.hbm h (Memory.wf_write a bs hm) (wf_marks hp)

theorem MemsWf.storeHbm {a : Nat} {bs : List Byte} {bad : Bool} (h : MemsWf m) : MemsWf (m.storeHbm a bs bad) := by
  unfold Mems.storeHbm
  extract_lets skip
  clear_value skip
  generalize linesOf a bs.length = ls
  induction ls generalizing m with
  | nil => exact h
  | cons l ls ih =>
    rw [List.foldl_cons]
    split
    · exact ih h
    · exact ih (MemsWf.writeHbm h)

/-- A word of SRAM marked. -/
theorem MemsWf.markWord {w : Nat} (h : MemsWf m) : MemsWf { m with sramPoison := m.sramPoison.set false w true } := by
  have h' := h
  obtain ⟨-, hs, -, -, -, -, hq⟩ := h'
  exact MemsWf.sram h hs (Tab.wf_set w true hq)

/-- A line of HBM marked. -/
theorem MemsWf.markLine {l : Nat} (h : MemsWf m) : MemsWf { m with hbmPoison := m.hbmPoison.set false l true } := by
  have h' := h
  obtain ⟨hm, -, -, -, -, hp, -⟩ := h'
  exact MemsWf.hbm h hm (Tab.wf_set l true hp)

end mems

/-! ### The operations of the model, in its order -/


/-- An update that leaves HELD, in a step that may. -/
theorem Keeps.ends {mod : Mod} (hL : L) (h : Keeps L s u) : Keeps L s { u with mod := mod } := .moves (fun _ => .inr hL) h

theorem le_two_max {x : Two Nat} {n : Nat} (d : IoDie) : x.get d ≤ (⟨max x.a n, max x.b n⟩ : Two Nat).get d := by
  unfold Two.get
  split <;> exact Nat.le_max_left _ _

theorem two_true (d : IoDie) : (⟨true, true⟩ : Two Bool).get d = true := by
  unfold Two.get
  split <;> rfl

theorem two_or {x y : Two Bool} (d : IoDie) (h : x.get d = true) : (⟨x.a || y.a, x.b || y.b⟩ : Two Bool).get d = true := by
  revert h
  unfold Two.get
  split <;> intro h <;> simp [h]

theorem Keeps.modQueue {q : Nat} {f : QueueSt → QueueSt} (h : Keeps L s u) : Keeps L s (u.modQueue q f) := .rest h
theorem Keeps.modPort {p : Port} {f : PortSt → PortSt} (h : Keeps L s u) : Keeps L s (u.modPort p f) := .rest h
theorem Keeps.modReg {r : Nat} {f : RegionSt → RegionSt} (h : Keeps L s u) : Keeps L s (u.modReg r f) := .rest h
theorem Keeps.modBlk {b : Nat} {f : BlockSt → BlockSt} (h : Keeps L s u) : Keeps L s (u.modBlk b f) := .rest h
theorem Keeps.modCel {c : Nat} {f : CellSt → CellSt} (h : Keeps L s u) : Keeps L s (u.modCel c f) := .rest h
theorem Keeps.modThr {c t : Nat} {f : ThreadSt → ThreadSt} (h : Keeps L s u) : Keeps L s (u.modThr c t f) := .modCel h
theorem Keeps.modGuard {t : Nat} {f : Guard → Guard} (h : Keeps L s u) : Keeps L s (u.modGuard t f) := .rest h
theorem Keeps.modDie {d : Nat} {f : Die → Die} (h : Keeps L s u) : Keeps L s (u.modDie d f) := .rest h

theorem Keeps.when {b : Bool} {f : State → State} (h : Keeps L s u) (hf : ∀ {u}, Keeps L s u → Keeps L s (f u)) :
    Keeps L s (u.when b f) := .ite (hf h) h

theorem Keeps.forEach {α : Type} {xs : List α} {f : α → State → State} (h : Keeps L s u) (hf : ∀ {x} {u}, Keeps L s u → Keeps L s (f x u)) :
    Keeps L s (u.forEach xs f) := .foldl h fun h => hf h

theorem Keeps.fresh (h : Keeps L s u) : Keeps L s u.fresh := .rest h
theorem Keeps.fire {src code : Nat} {index value : Nat} (h : Keeps L s u) : Keeps L s (u.fire src code index value) := .rest h
theorem Keeps.bump {k : Ctr} {i n : Nat} (h : Keeps L s u) : Keeps L s (u.bump k i n) := .rest h

theorem Keeps.stamp {code index station : Nat} {f : Cause → Cause} (h : Keeps L s u) :
    Keeps L s (u.stamp code index station f) := .rest (.when h fun h => .fire h)

theorem Keeps.makeRec {r : Rec} (h : Keeps L s u) : Keeps L s (u.makeRec r) := by
  unfold State.makeRec
  split
  · exact .rest h

theorem Keeps.flushRecs (h : Keeps L s u) : Keeps L s u.flushRecs := .rest h

theorem Keeps.postOne {n : Nat} {e : Completion} (h : Keeps L s u) : Keeps L s (u.postOne n e) := by
  unfold State.postOne
  extract_lets q f host' mems' obs'
  refine .write (fun w => ?_) h
  dsimp only [mems']
  split
  · exact MemsWf.writeRing w
  · exact w

theorem Keeps.post {cq : Nat} {seq : BitVec 32} {st : Status} {stamp : Lea} {res : BitVec 128} {takeover : Bool} (h : Keeps L s u) :
    Keeps L s (u.post cq seq st stamp res takeover) := .ite (.postOne (.postOne h)) (.postOne h)

theorem Keeps.modStk {k : Nat} {f : StackSt → StackSt} (h : Keeps L s u) : Keeps L s (u.modStk k f) := .rest h
theorem Keeps.setStk {k : Nat} {f : StackSt → StackSt} (h : Keeps L s u) : Keeps L s (u.setStk k f) := .when (.modStk h) fun h => .fire h

theorem Keeps.hbmConsume {pa : Nat} {f : Cause → Cause} (h : Keeps L s u) : Keeps L s (u.hbmConsume pa f) := by
  unfold State.hbmConsume
  exact .stamp (.fire (.bump h))

theorem Keeps.hbmSpindleRead {pa : Nat} (h : Keeps L s u) : Keeps L s (u.hbmSpindleRead pa) := .fire (.bump h)

theorem Keeps.readCounts {a n : Nat} (h : Keeps L s u) : Keeps L s (u.readCounts a n) := by
  unfold State.readCounts
  split
  · exact .hbmSpindleRead h
  · exact h

theorem Keeps.sramCause {a : Nat} {f : Cause → Cause} (h : Keeps L s u) : Keeps L s (u.sramCause a f) := .ite (.stamp h) (.stamp h)
theorem Keeps.notePoison {r : Nat} (h : Keeps L s u) : Keeps L s (u.notePoison r) := .when h fun h => .modReg h

theorem Keeps.storeSram {a : Nat} {bs : List Byte} {bad : Bool} (h : Keeps L s u) : Keeps L s (u.storeSram a bs bad) := by
  unfold State.storeSram
  exact .when (.write (fun w => MemsWf.writeSram w) (.when h fun h => .sramCause h)) fun h => .notePoison h

theorem Keeps.putSram {a : Nat} {bs : List Byte} {bad : Bool} {who : HeldBy} (h : Keeps L s u) :
    Keeps L s (u.putSram a bs bad who) := .ite (.modCel h) (.storeSram h)

theorem Keeps.noteLines {k : Nat} (h : Keeps L s u) : Keeps L s (u.noteLines k) := .when h fun h => .modStk h

theorem Keeps.storeHbm {a : Nat} {bs : List Byte} {bad : Bool} (h : Keeps L s u) : Keeps L s (u.storeHbm a bs bad) := by
  unfold State.storeHbm
  exact .when (.write (fun w => MemsWf.storeHbm w) (.forEach h fun h => .hbmConsume h)) fun h => .forEach h fun h => .noteLines h

theorem Keeps.consume {space a n : Nat} {f : Cause → Cause} (h : Keeps L s u) :
    Keeps L s (u.consume space a n f) := .ite (.sramCause h) (.hbmConsume h)

theorem Keeps.store {space a : Nat} {bs : List Byte} {bad : Bool} {who : HeldBy} (h : Keeps L s u) :
    Keeps L s (u.store space a bs bad who) := .ite (.putSram h) (.storeHbm h)

theorem Keeps.modRing {n : Nat} {f : RingSt → RingSt} (h : Keeps L s u) : Keeps L s (u.modRing n f) := .rest h
theorem Keeps.modSnd {id : BitVec 32} {f : Sender → Sender} (h : Keeps L s u) : Keeps L s (u.modSnd id f) := .rest h
theorem Keeps.sendOn {id : BitVec 32} {p : SPkt} (h : Keeps L s u) : Keeps L s (u.sendOn id p) := .rest (.modSnd h)
theorem Keeps.send {p : SPkt} (h : Keeps L s u) : Keeps L s (u.send p) := .ite h (by split; exacts [.sendOn h, h])
theorem Keeps.openBobs (h : Keeps L s u) : Keeps L s u.openBobs := .forEach h fun h => .when h fun h => .modSnd h
theorem Keeps.takeCredit {r : Nat} {f : Flit} (h : Keeps L s u) : Keeps L s (u.takeCredit r f) := .when h fun h => .modReg h
theorem Keeps.giveBack {r st : Nat} {f : Flit} (h : Keeps L s u) : Keeps L s (u.giveBack r st f) := .when h fun h => .modReg h
theorem Keeps.modGate {r port : Nat} {f : Xing → Xing} (h : Keeps L s u) : Keeps L s (u.modGate r port f) := .modReg h
theorem Keeps.gateTakes {r st : Nat} {f : Flit} (h : Keeps L s u) : Keeps L s (u.gateTakes r st f) := .ite (.modGate h) (.giveBack (.modGate h))

theorem Keeps.queueFlit {r source : Nat} {f : Flit} (h : Keeps L s u) :
    Keeps L s (u.queueFlit r source f) := .ite (.when h fun h => .gateTakes h) (.modReg h)

theorem Keeps.ringAccess {b tag vc type_ space a n : Nat} {data : List Byte} {bad : Bool} (h : Keeps L s u) :
    Keeps L s (u.ringAccess b tag vc type_ space a n data bad) := by
  unfold State.ringAccess
  exact .when h fun h => .forEach h fun h => .queueFlit h

theorem Keeps.tell {r : Nat} {m : CtrlMsg} (h : Keeps L s u) : Keeps L s (u.tell r m) := .when h fun h => .modReg h
theorem Keeps.tellSignal {b k n : Nat} (h : Keeps L s u) : Keeps L s (u.tellSignal b k n) := .tell h
theorem Keeps.tellArrive {b k : Nat} (h : Keeps L s u) : Keeps L s (u.tellArrive b k) := .tell h
theorem Keeps.tellRelease {r k gen : Nat} (h : Keeps L s u) : Keeps L s (u.tellRelease r k gen) := .tell h
theorem Keeps.take {c : Cmd} (h : Keeps L s u) : Keeps L s (u.take c) := .rest h
theorem Keeps.setSeq {c : Cmd} (h : Keeps L s u) : Keeps L s (u.setSeq c) := .ite h (.modQueue h)
theorem Keeps.leave {c : Cmd} (h : Keeps L s u) : Keeps L s (u.leave c) := .rest h
theorem Keeps.done {c : Cmd} {st : Status} {res : BitVec 128} (h : Keeps L s u) : Keeps L s (u.done c st res) := .ite (.leave h) (.post (.leave h))

theorem Keeps.refusalEffects {op : Nat} {r : Reject} (h : Keeps L s u) :
    Keeps L s (u.refusalEffects op r) := .when (.when h fun h => .bump h) fun h => .fire (.bump h)

theorem Keeps.refuse {op : Nat} {c : Cmd} {r : Reject} (h : Keeps L s u) :
    Keeps L s (u.refuse op c r) := .done (.refusalEffects (.when h fun h => .setSeq h))

theorem Keeps.accept {k : CmdSpec} {c : Cmd} (h : Keeps L s u) : Keeps L s (u.accept k c) := .when (.rest (.setSeq h)) fun h => .post h
theorem Keeps.readFor {c : Cmd} {v : Verdict} (h : Keeps L s u) : Keeps L s (u.readFor c v) := .forEach h fun h => .readCounts h

theorem Keeps.takeCmd {k : CmdSpec} {c : Cmd} {v : Verdict} {act : State → State} (h : Keeps L s u) (hact : ∀ {u}, Keeps L s u → Keeps L s (act u)) :
    Keeps L s (takeCmd k c v act u) := .ite (.done (.take h)) (by
    split
    · exact .refuse (.when (.take h) fun h => .readFor h)
    · exact hact (.accept (.readFor (.take h))))

theorem Keeps.setMute {m : Option Cmd} (h : Keeps L s u) : Keeps L s (u.setMute m) := .rest h

theorem Keeps.selkan {k : CmdSpec} {c : Cmd} {v : Verdict} {act : State → State} (h : Keeps L s u) (hact : ∀ {u}, Keeps L s u → Keeps L s (act u)) :
    Keeps L s (selkan k c v act u) := .ite h (.ite (.setMute (.takeCmd (.setMute h) fun h => hact h)) (.takeCmd h fun h => hact h))

theorem Keeps.writeHostOut {c : Cmd} {addr : Nat} {bs : List Byte} {w : HostWr} {extra : State → State} (h : Keeps L s u)
    (hextra : ∀ {u}, Keeps L s u → Keeps L s (extra u)) : Keeps L s (u.writeHostOut c addr bs w extra) := by
  unfold State.writeHostOut
  split
  · exact .done (hextra (.write (fun w => MemsWf.writeHost w) h))
  · exact .done (.write (fun w => MemsWf.writeHost w) h)

theorem Keeps.setAux {c : Cmd} {aux : Nat} (h : Keeps L s u) : Keeps L s (u.setAux c aux) := .rest h

theorem Keeps.endLops {p : LOp → Bool} {st : Status} {res : BitVec 128} (h : Keeps L s u) :
    Keeps L s (u.endLops p st res) := .forEach h fun h => .done h

theorem Keeps.issue {c t : Nat} (h : Keeps L s u) : Keeps L s (u.issue c t) := .modThr (.modCel h)
theorem Keeps.nextIp {c t : Nat} (h : Keeps L s u) : Keeps L s (u.nextIp c t) := .modThr h
theorem Keeps.park {c t : Nat} {st : TState} {w : SyncWait} (h : Keeps L s u) : Keeps L s (u.park c t st w) := .modThr (.modCel h)
theorem Keeps.threadFault {c t code : Nat} (h : Keeps L s u) : Keeps L s (u.threadFault c t code) := .park (.stamp h)
theorem Keeps.threadUe {c t a : Nat} (h : Keeps L s u) : Keeps L s (u.threadUe c t a) := .park (.sramCause h)

theorem Keeps.instr {c t k : Nat} {legal : Bool} {act : State → State} (h : Keeps L s u) (hact : ∀ {u}, Keeps L s u → Keeps L s (act u)) :
    Keeps L s (instr c t k legal act u) :=
  .ite h (.ite (.threadUe (.issue h)) (.ite (.threadFault (.issue h)) (.ite h (.ite (.threadFault (.issue h)) (hact (.issue h))))))

theorem Keeps.regUe {c t : Nat} (h : Keeps L s u) : Keeps L s (u.regUe c t) := .park (.stamp h)

theorem Keeps.reads {c t : Nat} {xs vs : List Nat} {act : State → State} (h : Keeps L s u) (hact : ∀ {u}, Keeps L s u → Keeps L s (act u)) :
    Keeps L s (reads c t xs vs act u) := .ite (.regUe h) (hact h)

theorem Keeps.setX {c t r : Nat} {v : Word} (h : Keeps L s u) : Keeps L s (u.setX c t r v) := .modThr (.modCel h)
theorem Keeps.setV {c t r : Nat} {v : BitVec 2048} (h : Keeps L s u) : Keeps L s (u.setV c t r v) := .modThr (.modCel h)
theorem Keeps.modSlot {tag : Nat} {f : SlotSt → SlotSt} (h : Keeps L s u) : Keeps L s (u.modSlot tag f) := .modBlk h
theorem Keeps.countReel {reel : Bool} (h : Keeps L s u) : Keeps L s (u.countReel reel) := .ite (.rest h) h
theorem Keeps.notePeak {r : Nat} (h : Keeps L s u) : Keeps L s (u.notePeak r) := .modReg h

theorem Keeps.atomicSram {tag : Nat} {r : SlotSt} {a : Nat} (h : Keeps L s u) :
    Keeps L s (u.atomicSram tag r a) := .ite (.modSlot h) (.ite (.modSlot (.sramCause h)) (.modSlot (.putSram h)))

theorem Keeps.ringAck {tag home : Nat} (h : Keeps L s u) : Keeps L s (u.ringAck tag home) := .when h fun h => .queueFlit h

theorem Keeps.sendThread {c i : Nat} {r0 : SlotSt} (h : Keeps L s u) : Keeps L s (u.sendThread c i r0) := .ite (.modBlk (.countReel h)) (by
    split
    · exact .ite (.modSlot (.ringAccess (.send (.modBlk (.countReel h))))) (.ite (.store (.ringAccess (.send (.modBlk (.countReel h))))) (.ite
        (.atomicSram (.ringAccess (.send (.modBlk (.countReel h))))) (.ringAccess (.send (.modBlk (.countReel h))))))
    · exact .modBlk (.countReel h))

theorem Keeps.request {c t : Nat} {r : SlotSt} (h : Keeps L s u) : Keeps L s (u.request c t r) := by
  unfold State.request
  split
  · exact .notePeak (.sendThread h)
  · exact .modCel h

theorem Keeps.latch {r kind id : Nat} (h : Keeps L s u) : Keeps L s (u.latch r kind id) := .forEach h fun h => .when h fun h => .modBlk h
theorem Keeps.tryToken {r k : Nat} {w : Nat × Nat × Nat × Bool} (h : Keeps L s u) : Keeps L s (u.tryToken r k w) := .ite h (.modThr (.modReg h))

theorem Keeps.signal {r k : Nat} {n unit_ : Nat} (h : Keeps L s u) :
    Keeps L s (u.signal r k n unit_) := .ite (.stamp h) (.forEach (.latch (.modReg h)) fun h => .tryToken h)

theorem Keeps.modBar {r k : Nat} {f : Barrier → Barrier} (h : Keeps L s u) : Keeps L s (u.modBar r k f) := .modReg h

theorem Keeps.releaseBar {r k : Nat} (h : Keeps L s u) :
    Keeps L s (u.releaseBar r k) := .forEach (.latch (.tellRelease (.modBar h))) fun h => .modThr h

theorem Keeps.arrive {r k : Nat} {waiter : Option (Nat × Nat)} (h : Keeps L s u) :
    Keeps L s (u.arrive r k waiter) := .ite (.ite (.modBar (.modBar h)) (.releaseBar (.modBar h))) (.modBar h)

theorem Keeps.modLaunch {n : BitVec 32} {f : Launch → Launch} (h : Keeps L s u) : Keeps L s (u.modLaunch n f) := .rest h

theorem Keeps.addCounts {r k : Nat} {n : Cnt} (h : Keeps L s u) : Keeps L s (u.addCounts r k n) := by
  unfold State.addCounts
  extract_lets
  split
  · exact .modLaunch (.bump (.bump (.bump (.bump (.bump h)))))
  · exact .bump (.bump (.bump (.bump (.bump h))))

theorem Keeps.modRp {p : Nat} {f : RPortSt → RPortSt} (h : Keeps L s u) : Keeps L s (u.modRp p f) := .rest h
theorem Keeps.enqueue {p : Nat} {k : Pkt} (h : Keeps L s u) : Keeps L s (u.enqueue p k) := .modRp h

theorem Keeps.passOn {k : Pkt} {route : BitVec 16} (h : Keeps L s u) : Keeps L s (u.passOn k route) := by
  unfold State.passOn
  dsimp only
  split
  · exact .enqueue h
  · exact h

theorem Keeps.sendPkt {k : Pkt} {route : BitVec 16} (h : Keeps L s u) : Keeps L s (u.sendPkt k route) := .ite (.rest h) (.passOn h)
theorem Keeps.unpark (h : Keeps L s u) : Keeps L s u.unpark := .forEach (.rest h) fun h => .passOn h
theorem Keeps.endSlot {tag : Nat} (h : Keeps L s u) : Keeps L s (u.endSlot tag) := .when (.modBlk h) fun h => .modCel h
theorem Keeps.slotCause {tag code : Nat} (h : Keeps L s u) : Keeps L s (u.slotCause tag code) := .ite (.park (.stamp h)) (.stamp h)
theorem Keeps.mcLineDone {x : McLine} {n : Nat} (h : Keeps L s u) : Keeps L s (u.mcLineDone x n) := .endSlot (.modCel h)

theorem Keeps.sendMcast {tag : Nat} {r : SlotSt} {g : McGroup} {n : Nat} (h : Keeps L s u) :
    Keeps L s (u.sendMcast tag r g n) := .ite (.mcLineDone h) (.forEach (.rest h) fun h => .sendPkt h)

theorem Keeps.turnDown {tag : Nat} (h : Keeps L s u) : Keeps L s (u.turnDown tag) := .endSlot (.slotCause h)

theorem Keeps.sendReel {tag : Nat} (h : Keeps L s u) : Keeps L s (u.sendReel tag) := .ite (.modSlot h) (.ite (by
    split
    · exact .ite (.sendMcast (.modSlot h)) (.turnDown (.modSlot h))
    · exact .turnDown (.modSlot h)) (.ite (.sendPkt (.ite (.modSlot h) (.rest (.modSlot h)))) (.turnDown (.modSlot h))))

theorem Keeps.wakeReel (h : Keeps L s u) : Keeps L s u.wakeReel := .forEach h fun h => .sendReel h

theorem Keeps.ringError {r st ring : Nat} {cw : Bool} {e : RingErr} (h : Keeps L s u) : Keeps L s (u.ringError r st ring cw e) := by
  unfold State.ringError
  extract_lets
  split
  · exact h
  · exact .modReg (.bump h)
  · exact .stamp (.fire (.modReg (.bump h)))
  · exact .stamp (.fire (.modReg (.bump h)))

theorem Keeps.redWrite {g : RedGroup} {d : Desc} {i : Nat} {bs : List Byte} {bad : Bool} {clamps r : Nat} (h : Keeps L s u) :
    Keeps L s (u.redWrite g d i bs bad clamps r) := by
  unfold State.redWrite
  split
  extract_lets wr s1 slot
  have h1 : Keeps L s s1 := .forEach h fun h => .write (fun w => MemsWf.writeSram w) h
  clear_value s1 slot
  split
  · exact .addCounts h1
  · exact h1

theorem Keeps.redSeen {r : Nat} {bad : Bool} {clamps : Nat} (h : Keeps L s u) : Keeps L s (u.redSeen r bad clamps) := .modReg h

theorem Keeps.redDone {b group : Nat} (h : Keeps L s u) : Keeps L s (u.redDone b group) := by
  unfold State.redDone
  extract_lets
  split
  · exact .when (.modBlk h) fun h => .modReg h
  · exact .modBlk h

theorem Keeps.redAdded {b : Nat} {g : RedGroup} {d : Desc} {f : Flit} (h : Keeps L s u) :
    Keeps L s (u.redAdded b g d f) := .redDone (.redSeen (.when h fun h => .sramCause h))

theorem Keeps.redTake {b : Nat} {g : RedGroup} {d : Desc} {f : Flit} (h : Keeps L s u) :
    Keeps L s (u.redTake b g d f) := .ite (.modBlk (.redSeen h)) (.redDone (.redWrite (.modBlk (.redSeen (.when h fun h => .sramCause h)))))

theorem Keeps.instrOp {c t : Nat} {k op : Nat} {legal : Bool} {act : State → State} (h : Keeps L s u) (hact : ∀ {u}, Keeps L s u → Keeps L s (act
    u)) :
    Keeps L s (instrOp c t k op legal act u) := .ite h (.instr h fun h => hact h)

theorem Steps.execScalarAlu {c : Cell} {t : Thread} {i : AluOp} (h : Keeps L s u) :
    Steps L s (execScalarAlu c t i u) := .next (.instrOp h fun h => .reads h fun h => .ite (.threadFault (.bump h)) (.nextIp (.modThr (.setX h))))

theorem Keeps.storeOwn {c t a : Nat} {bs : List Byte} (h : Keeps L s u) : Keeps L s (u.storeOwn c t a bs) := .putSram h
theorem Keeps.stored {c t : Nat} (h : Keeps L s u) : Keeps L s (u.stored c t) := .ite (.park (.nextIp h)) (.nextIp h)

theorem Keeps.postOut {c t : Nat} {r : SlotSt} (h : Keeps L s u) :
    Keeps L s (u.postOut c t r) :=
  .ite (.park h) (.ite (.park (.nextIp (.modThr (.wakeReel (.request h))))) (.park (.nextIp (.modThr (.wakeReel (.request h))))))

theorem Steps.execScalarMem {c : Cell} {t : Thread} {i : MemOp} (h : Keeps L s u) :
    Steps L s (execScalarMem c t i u) :=
  .next (.instr h fun h => .reads h fun h => .ite (.ite (.ite (.threadUe h) (.nextIp (.setX h))) (.stored (.storeOwn h))) (.ite (.park h) (.ite
      (.park (.nextIp (.request h))) (.postOut h))))

theorem Steps.execVectorAlu {c : Cell} {t : Thread} {i : VecOp} (h : Keeps L s u) :
    Steps L s (execVectorAlu c t i u) := .next (.instrOp h fun h => .reads h fun h => .ite (.threadFault (.bump h)) (.nextIp (.setV h)))

theorem Steps.execVectorMem {c : Cell} {t : Thread} {i : VMemOp} (h : Keeps L s u) :
    Steps L s (execVectorMem c t i u) :=
  .next (.instr h fun h => .reads h fun h => .ite (.ite (.ite (.threadUe h) (.nextIp (.setV h))) (.stored (.forEach h fun h => .storeOwn h))) (.ite
      (.park h) (.ite (.park (.nextIp (.request h))) (.postOut h))))

theorem Steps.execConvert {c : Cell} {t : Thread} {i : CvtOp} (h : Keeps L s u) :
    Steps L s (execConvert c t i u) := .next (.instr h fun h => .reads h fun h => (by
    split
    · exact .ite (.threadFault (.bump h)) (.ite (.threadFault h) (.nextIp (.setV (.fresh h))))
    · exact h))

theorem Keeps.wakeArray {c : Nat} (h : Keeps L s u) : Keeps L s (u.wakeArray c) := .forEach h fun h => .modThr h
theorem Keeps.queueTile {c a : Nat} (h : Keeps L s u) : Keeps L s (u.queueTile c a) := .modCel h

theorem Steps.execArray {c : Cell} {t : Thread} {rs : Reg} {legal : Bool} (h : Keeps L s u) :
    Steps L s (execArray c t rs legal u) :=
  .next (.instr h fun h => .reads h fun h => .ite (.threadFault h) (.ite (.threadUe h) (.ite (.threadFault h) (.ite (.park h) (.nextIp (.queueTile
      h))))))

theorem Keeps.fenced {c t : Nat} {act : State → State} (h : Keeps L s u) (hact : ∀ {u}, Keeps L s u → Keeps L s (act u)) :
    Keeps L s (u.fenced c t act) := .ite (.park h) (hact h)

theorem Keeps.vc0Room {c t : Nat} {act : State → State} (h : Keeps L s u) (hact : ∀ {u}, Keeps L s u → Keeps L s (act u)) :
    Keeps L s (vc0Room c t act u) := .ite (.park h) (hact h)

theorem Steps.execSyncSignal {c : Cell} {t : Thread} {token n : Nat} (h : Keeps L s u) :
    Steps L s (execSyncSignal c t token n u) := .next (.instr h fun h => .fenced h fun h => .vc0Room h fun h => .tellSignal (.signal (.nextIp h)))

theorem Steps.execSyncWait {c : Cell} {t : Thread} {token n : Nat} (h : Keeps L s u) :
    Steps L s (execSyncWait c t token n u) := .next (.instr h fun h => .ite (.nextIp (.modReg h)) (.park (.nextIp h)))

theorem Steps.execSyncPeek {c : Cell} {t : Thread} {token n : Nat} (h : Keeps L s u) :
    Steps L s (execSyncPeek c t token n u) := .next (.instr h fun h => .ite (.nextIp h) (.park (.nextIp h)))

theorem Steps.execSyncFence {c : Cell} {t : Thread} (h : Keeps L s u) :
    Steps L s (execSyncFence c t u) := .next (.instr h fun h => .fenced h fun h => .nextIp h)

theorem Steps.execSyncArrive {c : Cell} {t : Thread} {barrier : Nat} {wait : Bool} (h : Keeps L s u) :
    Steps L s (execSyncArrive c t barrier wait u) :=
  .next (.instr h fun h => .fenced h fun h => .ite (.arrive (.park (.tellArrive (.nextIp h)))) (.arrive (.tellArrive (.nextIp h))))

theorem Steps.execModuleBarrierRelease {n barrier : Nat} (h : Keeps L s u) :
    Steps L s (execModuleBarrierRelease n barrier u) := .next (by split; exacts [.when h fun h => .forEach h fun h => .releaseBar h, h])

theorem Steps.execBarrierTimeout {r : Region} {barrier : Nat} (h : Keeps L s u) : Steps L s (execBarrierTimeout r barrier u) := .next (by
    split
    · exact .forEach (.when h fun h => .forEach (.modBar (.stamp h)) fun h => .park h) fun h => .threadFault h
    · exact h)

theorem Steps.execAtomic {c : Cell} {t : Thread} {i : AtomOp} (h : Keeps L s u) :
    Steps L s (execAtomic c t i u) := .next (.instrOp h fun h => .reads h fun h => .postOut h)

theorem Steps.execBranch {c : Cell} {t : Thread} {i : BrOp} (h : Keeps L s u) :
    Steps L s (execBranch c t i u) := .next (.instr h fun h => .reads h fun h => .modThr h)

theorem Steps.execSpecial {c : Cell} {t : Thread} {rd : Reg} {what : SpecialRead} {legal : Bool} (h : Keeps L s u) :
    Steps L s (execSpecial c t rd what legal u) := .next (.instr h fun h => .nextIp (.setX h))

theorem Steps.execEndThread {c : Cell} {t : Thread} (h : Keeps L s u) : Steps L s (execEndThread c t u) := .next (.instr h fun h => .park (.nextIp h))
theorem Steps.execThreadQuantum {c : Cell} (h : Keeps L s u) : Steps L s (execThreadQuantum c u) := .next (.when h fun h => .park h)
theorem Keeps.haltTile {c : Nat} (h : Keeps L s u) : Keeps L s (u.haltTile c) := .wakeArray (.modCel h)

theorem Keeps.runTile {c : Nat} {tile : Tile} (h : Keeps L s u) :
    Keeps L s (u.runTile c tile) := .ite (.haltTile (.stamp h)) (.ite (.haltTile (.stamp h)) (.fresh (.modCel h)))

theorem Steps.execTileIssue {c : Cell} (h : Keeps L s u) : Steps L s (execTileIssue c u) := .next (by split; exacts [.ite (.runTile h) h, h])

theorem Keeps.freeHeld {c : Nat} {h' : HeldStore} (h : Keeps L s u) : Keeps L s (u.freeHeld c h') := by
  unfold State.freeHeld
  extract_lets
  split
  · exact .when (.storeSram h) fun h => .modThr h
  · exact .ringAck (.storeSram h)
  · exact .storeSram h

theorem Keeps.releaseTile {c : Nat} {tile : Tile} {out : TileOut} (h : Keeps L s u) :
    Keeps L s (u.releaseTile c tile out) := .when (.forEach (.wakeArray (.modCel (by
    split
    · exact .modGuard (.addCounts (.forEach h fun h => .when h fun h => .storeSram h))
    · exact .forEach h fun h => .when h fun h => .storeSram h))) fun h => .freeHeld h) fun h => .tellSignal (.signal h)

theorem Keeps.teaselFault {c code : Nat} {tile : Tile} (h : Keeps L s u) : Keeps L s (u.teaselFault c code tile) := .stamp (.haltTile h)

theorem Steps.execTeaselCompare {c : Cell} {upset : TileUpset} (h : Keeps L s u) : Steps L s (execTeaselCompare c upset u) := .next (by
    split
    · exact (by
        split
        · exact .ite (.releaseTile (.when h fun h => .fire (.bump h))) (.ite (.teaselFault (.modCel (.fire (.bump h)))) (.ite (.modCel (.modCel
            (.fire (.bump h)))) (.teaselFault (.modCel (.fire (.bump h))))))
        · exact h)
    · exact h)

theorem Steps.execReplayIssue {c : Cell} (h : Keeps L s u) : Steps L s (execReplayIssue c u) := .next (by split; exacts [.ite (.runTile h) h, h])

theorem Steps.execEntropyHealthFail {r : Region} (h : Keeps L s u) :
    Steps L s (execEntropyHealthFail r u) := .next (.ite h (.ite (.stamp (.modReg (.fire (.bump h)))) (.modReg (.fire (.bump h)))))

theorem Keeps.badDesc {c : Nat} {d : Desc} (h : Keeps L s u) : Keeps L s (u.badDesc c d) := .stamp (.bump h)
theorem Keeps.postDesc {c : Nat} {d : Desc} (h : Keeps L s u) : Keeps L s (u.postDesc c d) := .ite (.modCel h) (.badDesc h)

theorem Steps.execDesc {c : Cell} {t : Thread} {ref : DescRef} {legal : Bool} (h : Keeps L s u) :
    Steps L s (execDesc c t ref legal u) :=
  .next (.instr h fun h => .reads h fun h => .ite (.park h) (by split; exacts [.ite (.threadUe h) (.postDesc (.nextIp h)), .badDesc (.nextIp h)]))

theorem Keeps.modDesc {c no : Nat} {f : DescSt → DescSt} (h : Keeps L s u) : Keeps L s (u.modDesc c no f) := .modCel h
theorem Keeps.giveSlot {b i : Nat} {r : SlotSt} (h : Keeps L s u) : Keeps L s (u.giveSlot b i r) := .notePeak (.modBlk (.countReel h))

theorem Keeps.reelRead {b i : Nat} {r : SlotSt} (h : Keeps L s u) : Keeps L s (u.reelRead b i r) := by
  unfold State.reelRead
  extract_lets
  split
  · exact .ite (.sendReel (.bump (.fresh (.rest (.giveSlot h))))) (.endSlot (.store (.bump (.fresh (.rest (.giveSlot h))))))
  · exact .sendReel (.when (.giveSlot h) fun h => .bump h)

theorem Keeps.stopDesc {c no : Nat} (h : Keeps L s u) : Keeps L s (u.stopDesc c no) := .modDesc h

theorem Keeps.landPiece {tag : Nat} {bs : List Byte} {bad : Bool} (h : Keeps L s u) :
    Keeps L s (u.landPiece tag bs bad) := .ite (.modSlot (.ringAccess (.send h))) (.when (.ringAccess (.send h)) fun h => .store h)

theorem Keeps.copyPiece {c : Nat} {d : Desc} {i : Nat} {r : SlotSt} {src dst n : Nat} (h : Keeps L s u) :
    Keeps L s (u.copyPiece c d i r src dst n) :=
  .ite (.modSlot (.ringAccess (.giveSlot h))) (.when (.send (.when (.ringAccess (.giveSlot h)) fun h => .consume h)) fun h => .landPiece h)

theorem Keeps.issueIndex {c : Nat} {q : DescSt} {i : Nat} (h : Keeps L s u) :
    Keeps L s (u.issueIndex c q i) := .ringAccess (.send (.giveSlot (.modDesc (.when h fun h => .sramCause h))))

theorem Keeps.issueScale {c : Nat} {q : DescSt} {i : Nat} (h : Keeps L s u) : Keeps L s (u.issueScale c q i) := .copyPiece (.modDesc h)

theorem Keeps.issuePiece {c : Nat} {q : DescSt} {i : Nat} (h : Keeps L s u) :
    Keeps L s (u.issuePiece c q i) :=
  .ite (.badDesc (.stopDesc h)) (.ite (.reelRead (.modDesc h)) (.ite (.sendReel (.giveSlot (.when (.modDesc h) fun h => .consume h))) (.ite
      (.copyPiece (.modDesc h)) (.landPiece (.giveSlot (.modDesc h))))))

theorem Keeps.issueOne {c no i : Nat} (h : Keeps L s u) : Keeps L s (u.issueOne c no i) := by
  unfold State.issueOne
  split
  · exact (by split; exacts [.issueIndex h, .issuePiece h, .issueScale h, h])
  · exact h

theorem Keeps.leaveBuffer {c t : Nat} (h : Keeps L s u) : Keeps L s (u.leaveBuffer c t) := .when (.modCel h) fun h => .modThr h

theorem Keeps.grantSlot {b : Nat} (h : Keeps L s u) : Keeps L s (u.grantSlot b) := by
  unfold State.grantSlot
  split
  · exact .ite h (by
      split
      · exact .notePeak (.wakeReel (.sendThread (.leaveBuffer h)))
      · exact (by split; exacts [.issueOne (.modBlk h), h]))
  · exact h

theorem Keeps.markStarted {c : Nat} {q : DescSt} {outstanding row : Nat} (h : Keeps L s u) :
    Keeps L s (u.markStarted c q outstanding row) := .modCel (.when h fun h => .modReg h)

theorem Keeps.startDesc {c op : Nat} {act : DescSt → State → State} (h : Keeps L s u) (hact : ∀ {x} {u}, Keeps L s u → Keeps L s (act x u)) :
    Keeps L s (u.startDesc c op act) := by
  unfold State.startDesc
  split
  · exact .when h fun h => hact h
  · exact h

theorem Keeps.startMove {c : Nat} {q : DescSt} (h : Keeps L s u) : Keeps L s (u.startMove c q) := .forEach (.markStarted h) fun h => .grantSlot h

theorem Keeps.holdSlot {c : Nat} {q : DescSt} (h : Keeps L s u) : Keeps L s (u.holdSlot c q) := by
  unfold State.holdSlot
  split
  · exact .giveSlot h
  · exact h

theorem Keeps.startStream {c : Nat} {q : DescSt} {outstanding : Nat} (h : Keeps L s u) :
    Keeps L s (u.startStream c q outstanding) := .holdSlot (.markStarted h)

theorem Keeps.dropSlot {c no : Nat} (h : Keeps L s u) : Keeps L s (u.dropSlot c no) := .modBlk h
theorem Keeps.endDesc {c no : Nat} {how : DescEnd} (h : Keeps L s u) : Keeps L s (u.endDesc c no how) := .modCel (.dropSlot h)
theorem Keeps.failDesc {c : Nat} {q : DescSt} {code : Nat} (h : Keeps L s u) : Keeps L s (u.failDesc c q code) := .endDesc (.stamp h)
theorem Keeps.touchSlot {c no : Nat} (h : Keeps L s u) : Keeps L s (u.touchSlot c no) := .modBlk h
theorem Steps.execCopy {c : Cell} (h : Keeps L s u) : Steps L s (execCopy c u) := .next (.startDesc h fun h => .startMove h)
theorem Steps.execGather {c : Cell} (h : Keeps L s u) : Steps L s (execGather c u) := .next (.startDesc h fun h => .startMove h)
theorem Steps.execScatter {c : Cell} (h : Keeps L s u) : Steps L s (execScatter c u) := .next (.startDesc h fun h => .startMove h)
theorem Steps.execFill {c : Cell} (h : Keeps L s u) : Steps L s (execFill c u) := .next (.startDesc h fun h => .startMove h)
theorem Keeps.notLive {c : Nat} {q : DescSt} (h : Keeps L s u) : Keeps L s (u.notLive c q) := .failDesc h

theorem Keeps.streamRows {c : Nat} {q : DescSt} {type_ : Nat} (h : Keeps L s u) :
    Keeps L s (u.streamRows c q type_) := .forEach h fun h => .forEach h fun h => .queueFlit h

theorem Steps.execRawTx {c : Cell} (h : Keeps L s u) :
    Steps L s (execRawTx c u) :=
  .next (.startDesc h fun h => .ite (.modSnd (.streamRows (.when (.startStream h) fun h => .sramCause h))) (.notLive (.startStream h)))

theorem Keeps.modRcv {id : BitVec 32} {stn : Nat} {f : Receiver → Receiver} (h : Keeps L s u) : Keeps L s (u.modRcv id stn f) := .rest h

theorem Steps.execRawRx {c : Cell} (h : Keeps L s u) :
    Steps L s (execRawRx c u) := .next (.startDesc h fun h => .ite (.modRcv (.startStream h)) (.notLive (.startStream h)))

theorem Steps.execRingReduce {c : Cell} (h : Keeps L s u) :
    Steps L s (execRingReduce c u) :=
  .next (.startDesc h fun h => .ite (.ite (.modReg (.modBlk (.forEach (.modBlk (.startStream h)) fun h => .redWrite (.when h fun h => .sramCause
      h)))) (.modBlk (.startStream h))) (.ite (.forEach (.modBlk (.startStream h)) fun h => .queueFlit (.redSeen (.when h fun h => .sramCause h)))
      (.modBlk (.startStream h))))

theorem Keeps.completionEffects {c : Nat} {q : DescSt} (h : Keeps L s u) : Keeps L s (u.completionEffects c q) := by
  unfold State.completionEffects
  extract_lets
  split
  · split
    · exact .when (.putSram h) fun h => .stamp h
    · exact .putSram h
  · exact .modBlk h
  · exact .ite (by split; exacts [.when (.when (.storeHbm h) fun h => .bump h) fun h => .stamp h, h]) h

theorem Keeps.tokenOf {c : Nat} {d : Desc} (h : Keeps L s u) : Keeps L s (u.tokenOf c d) := .when h fun h => .tellSignal (.signal h)

theorem Steps.execDescriptorComplete {c : Cell} {n : Nat} (h : Keeps L s u) :
    Steps L s (execDescriptorComplete c n u) := .next (by split; exacts [.when h fun h => .tokenOf (.endDesc (.completionEffects h)), h])

theorem Steps.execSlotGrant {b : Block} (h : Keeps L s u) : Steps L s (execSlotGrant b u) := .next (.grantSlot h)
theorem Keeps.loadDone {r : SlotSt} {data : List Byte} (h : Keeps L s u) : Keeps L s (u.loadDone r data) := .modThr (.ite (.setV h) (.setX h))

theorem Keeps.atomicDone {r : SlotSt} {old : BitVec 128} (h : Keeps L s u) :
    Keeps L s (u.atomicDone r old) := .modThr (.when (.setX h) fun h => .setX h)

theorem Keeps.reply {tag : BitVec 16} {gen : BitVec 10} {status : Nat} {poison : Bool} {data : List Byte} (h : Keeps L s u) :
    Keeps L s (u.reply tag gen status poison data) := .ite (.bump h) (.ite h (by
    split
    · exact .endSlot (.slotCause h)
    · exact (by
        split
        · exact .ite (.endSlot (.park (.sramCause h))) (.ite (.endSlot (.park h)) (.endSlot (.loadDone h)))
        · exact .ite (.endSlot (.park (.sramCause h))) (.ite (.endSlot (.park h)) (.endSlot (.loadDone h)))
        · exact .endSlot (.modThr h)
        · exact .ite (.endSlot (.park (.modThr h))) (.endSlot (.atomicDone h))
        · exact .endSlot h)))

theorem Steps.execMemoryReply {tag : BitVec 16} {gen : BitVec 10} {status : Nat} {poison : Bool} {data : List Byte} (h : Keeps L s u) :
    Steps L s (execMemoryReply tag gen status poison data u) := .next (.reply h)

theorem Steps.execSeTimeout {tag : BitVec 16} (h : Keeps L s u) :
    Steps L s (execSeTimeout tag u) := .next (.when h fun h => .modBlk (.slotCause (.bump h)))

theorem Steps.execSeParity {b : Block} (h : Keeps L s u) : Steps L s (execSeParity b u) := .next (.stamp (.when (.bump h) fun h => .modBlk h))
theorem Keeps.sramCe {word : Nat} (h : Keeps L s u) : Keeps L s (u.sramCe word) := .rest (.modReg (.bump h))

theorem Keeps.sramUe {word : Nat} (h : Keeps L s u) : Keeps L s (u.sramUe word) :=
  .notePoison (.write (fun w => MemsWf.markWord w) (.modReg (.fire (.bump h))))

theorem Keeps.consumedBy {a : Nat} {who : Consumer} (h : Keeps L s u) : Keeps L s (u.consumedBy a who) := by
  unfold State.consumedBy
  split
  · exact .park (.sramCause h)
  · exact .haltTile (.sramCause h)
  · exact .sramCause h
  · exact .sramCause h
  · exact h
  · exact .regUe h

theorem Keeps.regfileUe {c word : Nat} (h : Keeps L s u) : Keeps L s (u.regfileUe c word) := .notePoison (.modCel (.modReg (.fire (.bump h))))

theorem Steps.execSramReadError {word bits : Nat} {consumer : Consumer} (h : Keeps L s u) :
    Steps L s (execSramReadError word bits consumer u) := .next (by
    split
    · exact .ite (.consumedBy h) (.ite h (.ite (.modReg (.bump h)) (.consumedBy (.regfileUe h))))
    · exact .ite (.consumedBy h) (.ite h (.ite (.sramCe h) (.consumedBy (.sramUe h)))))

theorem Steps.execSramCeWriteback {word : Nat} (h : Keeps L s u) : Steps L s (execSramCeWriteback word u) := .next (.rest h)

theorem Steps.execSramScrub {word bits : Nat} (h : Keeps L s u) :
    Steps L s (execSramScrub word bits u) := .next (.ite h (.ite (.sramCe h) (.sramUe h)))

theorem Keeps.schedAdvance {b slip : Nat} (h : Keeps L s u) : Keeps L s (u.schedAdvance b slip) := by
  unfold State.schedAdvance
  extract_lets
  split
  · exact .when (.modBlk (.bump h)) fun h => .modBlk h
  · exact .modBlk (.bump h)

theorem Keeps.schedIssue {b action : Nat} {ready : SchedEntry → State → Bool} {act : SchedEntry → State → State} (h : Keeps L s u) (hact : ∀ {x}
    {u}, Keeps L s u → Keeps L s (act x u)) :
    Keeps L s (u.schedIssue b action ready act) := by
  unfold State.schedIssue
  split
  · exact .ite (by split; exacts [.schedAdvance (hact h), h]) h
  · exact h

theorem Steps.execSchedEnd {b : Block} (h : Keeps L s u) : Steps L s (execSchedEnd b u) := .next (.schedIssue h fun h => .modBlk h)

theorem Steps.execSchedIssueTile {b : Block} (h : Keeps L s u) :
    Steps L s (execSchedIssueTile b u) := .next (.schedIssue h fun h => .ite (.sramCause h) (.ite (.queueTile h) (.stamp h)))

theorem Steps.execSchedPostDesc {b : Block} (h : Keeps L s u) :
    Steps L s (execSchedPostDesc b u) := .next (.schedIssue h fun h => (by split; exacts [.ite (.sramCause h) (.postDesc h), .badDesc h]))

theorem Steps.execSchedSignal {b : Block} (h : Keeps L s u) :
    Steps L s (execSchedSignal b u) := .next (.schedIssue h fun h => .tellSignal (.signal h))

theorem Steps.execSchedArrive {b : Block} (h : Keeps L s u) :
    Steps L s (execSchedArrive b u) := .next (.schedIssue h fun h => .arrive (.tellArrive h))

theorem Steps.execSchedStartThread {b : Block} (h : Keeps L s u) :
    Steps L s (execSchedStartThread b u) := .next (.schedIssue h fun h => (by split; exacts [(by split; exacts [.modThr h, .stamp h]), h]))

theorem Steps.execPhaseReady {b : Block} (h : Keeps L s u) : Steps L s (execPhaseReady b u) := .next (.schedIssue h fun h => .modBlk h)
theorem Keeps.assignRing {n line : Nat} (h : Keeps L s u) : Keeps L s (u.assignRing n line) := .when h fun h => .modRing h

theorem Keeps.restRings {rs : List Nat} (h : Keeps L s u) :
    Keeps L s (u.restRings rs) := .forEach h fun h => (by split; exacts [.modRing h, .modRing h, .modRing h, h])

theorem Keeps.cutRaw {ids : List (BitVec 32)} (h : Keeps L s u) : Keeps L s (u.cutRaw ids) := .forEach h fun h => .failDesc h
theorem Keeps.modPly {i : Nat} {f : PlyPort → PlyPort} (h : Keeps L s u) : Keeps L s (u.modPly i f) := .rest h

theorem Keeps.endGroup {i code stn : Nat} (h : Keeps L s u) : Keeps L s (u.endGroup i code stn) := by
  unfold State.endGroup
  split
  · exact .modPly (.stamp (.forEach h fun h => .endDesc h))
  · exact h

theorem Keeps.faultPort {i : Nat} (h : Keeps L s u) : Keeps L s (u.faultPort i) := .fire (.modPly (.bump h))

theorem Keeps.loseMember {i code stn : Nat} (h : Keeps L s u) :
    Keeps L s (u.loseMember i code stn) := .ite (.faultPort (.when h fun h => .endGroup h)) (.ite (.endGroup h) h)

theorem Keeps.reissue {id : BitVec 32} {loop : Nat} {p : SPkt} (h : Keeps L s u) :
    Keeps L s (u.reissue id loop p) := .ite (.stamp (.modSnd h)) (by split; exacts [.modSnd (.sendOn (.modSnd h)), .modSnd h])

theorem Keeps.reissueAll {id : BitVec 32} {p : BitVec 5 → Bool} (h : Keeps L s u) : Keeps L s (u.reissueAll id p) := .forEach h fun h => .reissue h

theorem Keeps.moveFlight {id : BitVec 32} (h : Keeps L s u) :
    Keeps L s (u.moveFlight id) := .forEach (.modSnd (.forEach h fun h => .reissue h)) fun h => (by split; exacts [.sendOn h, h])

theorem Keeps.withdraw {ids : List (BitVec 32)} (h : Keeps L s u) :
    Keeps L s (u.withdraw ids) := .forEach (.restRings (.bump (.rest (.forEach (.cutRaw h) fun h => .loseMember h)))) fun h => .moveFlight h

theorem Keeps.poisonRows {d : Desc} {a b : Nat} (h : Keeps L s u) : Keeps L s (u.poisonRows d a b) :=
  .forEach h fun h => .write (fun w => MemsWf.markWord w) h

theorem Keeps.prune {id : BitVec 32} {stn : Nat} (h : Keeps L s u) :
    Keeps L s (u.prune id stn) := .fire (.bump (.forEach h fun h => .tokenOf (.endDesc (.poisonRows h))))

theorem Keeps.fence {stn : Nat} (h : Keeps L s u) :
    Keeps L s (u.fence stn) := .ite h (.rest (.forEach (.forEach (.withdraw h) fun h => .prune h) fun h => .loseMember h))

theorem Keeps.unfence {stn : Nat} (h : Keeps L s u) : Keeps L s (u.unfence stn) := .ite (.rest h) h
theorem Keeps.degradedEvent {old : Bool} (h : Keeps L s u) : Keeps L s (u.degradedEvent old) := .when h fun h => .fire h

theorem Keeps.regrant {plan : List (Nat × Nat × Nat × Bob)} (h : Keeps L s u) :
    Keeps L s (u.regrant plan) := .forEach (.restRings (.rest h)) fun h => .modRing h

theorem Keeps.commit {cause : Nat} (h : Keeps L s u) : Keeps L s (u.commit cause) := .fire (.bump (.bump (.bump (.regrant (.rest h)))))
theorem Keeps.modGrp {g : Nat} {f : GroupSt → GroupSt} (h : Keeps L s u) : Keeps L s (u.modGrp g f) := .rest h
theorem Keeps.modCage {k : Nat} {f : CageSt → CageSt} (h : Keeps L s u) : Keeps L s (u.modCage k f) := .rest h
theorem Keeps.enterGrp {g : Nat} {st : GState} {f : GroupSt → GroupSt} (h : Keeps L s u) : Keeps L s (u.enterGrp g st f) := .fire (.modGrp h)
theorem Keeps.arm {g : Nat} {unpaused : Bool} (h : Keeps L s u) : Keeps L s (u.arm g unpaused) := .modCage (.enterGrp h)

theorem Keeps.groupOut {g : Nat} (h : Keeps L s u) :
    Keeps L s (u.groupOut g) := .ite (by split; exacts [.ite (.arm h) (.enterGrp h), .modGrp h, .enterGrp h, .enterGrp h, h]) h

theorem Keeps.modLoop {n : Nat} {f : LoopSt → LoopSt} (h : Keeps L s u) : Keeps L s (u.modLoop n f) := .rest h
theorem Keeps.modLight {n : Nat} {f : LoopLight → LoopLight} (h : Keeps L s u) : Keeps L s (u.modLight n f) := .rest h
theorem Keeps.dropLoop {n cause : Nat} (h : Keeps L s u) : Keeps L s (u.dropLoop n cause) := .fire (.bump (.modLight (.modLoop h)))
theorem Keeps.failLoops {ns : List Nat} {cause : Nat} (h : Keeps L s u) : Keeps L s (u.failLoops ns cause) := .forEach h fun h => .modLoop h

theorem Keeps.withdrawLoops {ns : List Nat} {cause : Nat} (h : Keeps L s u) :
    Keeps L s (u.withdrawLoops ns cause) :=
  .ite (.failLoops h) (.forEach (.degradedEvent (.commit (.forEach (.withdraw (.failLoops h)) fun h => .dropLoop h))) fun h => .groupOut h)

theorem Keeps.faultRings {rs : List Nat} {cause : Nat} (h : Keeps L s u) :
    Keeps L s (u.faultRings rs cause) :=
  .ite (.forEach (.withdraw h) fun h => .bump (.modRing h)) (.commit (.forEach (.withdraw h) fun h => .bump (.modRing h)))

theorem Keeps.muteRing {r : Nat} (h : Keeps L s u) : Keeps L s (u.muteRing r) := .fire (.bump (.modRing (.withdraw h)))
theorem Keeps.attemptFails {r : Nat} (h : Keeps L s u) : Keeps L s (u.attemptFails r) := .ite (.faultRings h) (.bump (.modRing h))
theorem Steps.execNak {id : BitVec 32} {lo hi : BitVec 5} (h : Keeps L s u) : Steps L s (execNak id lo hi u) := .next (.reissueAll h)

theorem Steps.execDark {id : BitVec 32} {last : BitVec 5} (h : Keeps L s u) : Steps L s (execDark id last u) := .next (by
    split
    · exact .forEach (.reissueAll (.modSnd h)) fun h => .modRing h
    · exact .reissueAll (.modSnd h))

theorem Steps.execSyncNotice {id : BitVec 32} (h : Keeps L s u) : Steps L s (execSyncNotice id u) := .next (.when (.modSnd h) fun h => .modSnd h)

theorem Steps.execDarkBobbinTimeout {id : BitVec 32} (h : Keeps L s u) :
    Steps L s (execDarkBobbinTimeout id u) := .next (.when h fun h => .fire (.modSnd (.withdraw h)))

theorem Keeps.rawFault {id : BitVec 32} {stn code : Nat} (h : Keeps L s u) : Keeps L s (u.rawFault id stn code) := by
  unfold State.rawFault
  split
  · extract_lets total s1 s2
    have h2 : Keeps L s s2 := .modRcv (.failDesc (.poisonRows (.bump h)))
    clear_value s2
    split
    · exact .endDesc (.stamp h2)
    · exact h2
  · exact h

theorem Keeps.rawData {id : BitVec 32} {stn d : Nat} (h : Keeps L s u) : Keeps L s (u.rawData id stn d) := by
  unfold State.rawData
  split
  · exact .ite (.rawFault h) (.modRcv (.forEach h fun h => .putSram h))
  · exact h

theorem Keeps.rawCheck {id : BitVec 32} {stn d : Nat} (h : Keeps L s u) : Keeps L s (u.rawCheck id stn d) := by
  unfold State.rawCheck
  split
  · exact .ite (.modRcv h) (.rawFault h)
  · exact h

theorem Keeps.rawTake {id : BitVec 32} {stn d : Nat} (h : Keeps L s u) : Keeps L s (u.rawTake id stn d) := .ite (.rawCheck h) (.rawData h)

theorem Keeps.rawFrame {id : BitVec 32} {stn d : Nat} (h : Keeps L s u) : Keeps L s (u.rawFrame id stn d) := by
  unfold State.rawFrame
  split
  · exact .ite (.ite (.rawFault (.touchSlot h)) (.modRcv (.touchSlot h))) (.forEach (.modRcv (.touchSlot h)) fun h => .rawTake h)
  · exact h

theorem Steps.execRawCheckAck {id : BitVec 32} {stn : Stn} {final : Bool} (h : Keeps L s u) :
    Steps L s (execRawCheckAck id stn final u) := .next (by split; exacts [.when (.touchSlot h) fun h => .modSnd h, h])

theorem Keeps.retried {id : BitVec 32} {tag : Nat} (h : Keeps L s u) : Keeps L s (u.retried id tag) := .when h fun h => .modSnd (.bump h)

theorem Keeps.answerPkt {stn : Nat} {p : SPkt} {status : Nat} {bad : Bool} {data : List Byte} (h : Keeps L s u) :
    Keeps L s (u.answerPkt stn p status bad data) := .send h

theorem Keeps.gateIn {stn : Nat} {p : SPkt} (h : Keeps L s u) : Keeps L s (u.gateIn stn p) := .forEach h fun h => .queueFlit h

theorem Keeps.pktHere {stn : Nat} {p : SPkt} (h : Keeps L s u) : Keeps L s (u.pktHere stn p) := by
  unfold State.pktHere
  extract_lets
  split
  · exact .ite (.answerPkt h) (.answerPkt h)
  · exact .ite (.answerPkt (.when h fun h => .storeSram h)) (.answerPkt h)
  · exact .when h fun h => .answerPkt h
  · exact .ite (.reply h) h
  · exact .ite (.reply h) h
  · exact .ite (.reply h) h
  · exact h

theorem Keeps.packetCame {id : BitVec 32} {stn : Nat} {p : SPkt} (h : Keeps L s u) :
    Keeps L s (u.packetCame id stn p) :=
  .when h fun h => .ite (.retried h) (.ite (.when (.retried h) fun h => .answerPkt h) (.pktHere (.gateIn (.retried h))))

theorem Steps.execPacketReceive {id : BitVec 32} {stn : Stn} {p : SPkt} {ok : Bool} (h : Keeps L s u) :
    Steps L s (execPacketReceive id stn p ok u) := .next (.when h fun h => .packetCame h)

theorem Keeps.darkNotice {id : BitVec 32} {stn : Nat} (h : Keeps L s u) : Keeps L s (u.darkNotice id stn) := .modRcv (.bump h)

theorem Keeps.framesLost {id : BitVec 32} {stn : Nat} {lo hi : BitVec 5} (h : Keeps L s u) :
    Keeps L s (u.framesLost id stn lo hi) := .ite (.rawFault h) (.modRcv (.bump h))

theorem Keeps.pktFrame {id : BitVec 32} {stn d : Nat} (h : Keeps L s u) : Keeps L s (u.pktFrame id stn d) := by
  unfold State.pktFrame
  extract_lets
  split
  · exact .packetCame (.modRcv h)
  · exact .modRcv h

theorem Keeps.syncFrame {id : BitVec 32} {stn d : Nat} (h : Keeps L s u) :
    Keeps L s (u.syncFrame id stn d) :=
  .ite (.rawFrame (.modRcv (by split; exacts [.when h fun h => .framesLost h, h]))) (.pktFrame (.modRcv (by split; exacts [.when h fun h => .framesLost h, h])))

/-- A change of a loop with two counts. -/
theorem Keeps.countFrame {b : Nat} {f : LoopSt → LoopSt} {k k' : Ctr} {i i' n n' : Nat} (h : Keeps L s u) :
    Keeps L s (((u.modLoop b f).bump k i n).bump k' i' n') := .bump (.bump (.modLoop h))

theorem Steps.execFrameReceive {id : BitVec 32} {stn : Stn} {f : BitVec 544} (h : Keeps L s u) : Steps L s (exec (.frameReceive id stn f) u) := by
  cases hd : u.dropOf id stn with
  | none =>
    rw [exec_frameReceive_of_no_drop hd]
    exact .next h
  | some d =>
    obtain ⟨b, k⟩ := d
    have hs {n ue : Nat} : Keeps L s (u.seenFrame b stn k n ue) := .countFrame h
    cases ha : (u.rcv id stn).align with
    | hunt =>
      by_cases hf : syndrome f = 0
      · rw [exec_frameReceive_of_hunt_found hd ha hf]
        exact .next (.modRcv hs)
      · rw [exec_frameReceive_of_hunt_missed hd ha hf]
        exact .next (.modRcv hs)
    | presync =>
      cases hf : decodeFrame f with
      | none =>
        rw [exec_frameReceive_of_presync_lost hd ha hf]
        exact .next (.modRcv hs)
      | some x =>
        obtain hr | hr := Nat.lt_or_ge (u.rcv id stn).run 5
        · rw [exec_frameReceive_of_presync_early hd ha hf hr]
          exact .next (.modRcv hs)
        · rw [exec_frameReceive_of_presync_sixth hd ha hf hr]
          exact .next (.modRcv hs)
    | sync =>
      cases hf : decodeFrame f with
      | none =>
        obtain hr | hr := Nat.lt_or_ge (u.rcv id stn).run 6
        · rw [exec_frameReceive_of_sync_missed hd ha hf hr]
          exact .next (.modRcv (.framesLost hs))
        · rw [exec_frameReceive_of_sync_lost hd ha hf hr]
          exact .next (.darkNotice (.modRcv (.framesLost hs)))
      | some x =>
        rw [exec_frameReceive_of_sync hd ha hf]
        exact .next (.syncFrame hs)

theorem Steps.execHuntTimeout {id : BitVec 32} {stn : Stn} (h : Keeps L s u) :
    Steps L s (execHuntTimeout id stn u) := .next (.when h fun h => .darkNotice h)

theorem Steps.execPlyTx {c : Cell} (h : Keeps L s u) : Steps L s (execPlyTx c u) := .next (.startDesc h fun h => (by
    extract_lets
    split
    · exact .ite (.notLive (.startStream h)) (.ite h (.modPly (.when (.startStream h) fun h => .streamRows h)))
    · exact .notLive (.startStream h)))

theorem Keeps.plyEvent {i cause st : Nat} (h : Keeps L s u) : Keeps L s (u.plyEvent i cause st) := .fire h
theorem Keeps.goDigital {i cause : Nat} (h : Keeps L s u) : Keeps L s (u.goDigital i cause) := .plyEvent (.modPly (.bump h))

theorem Keeps.narrow {i cause : Nat} {atOnce : Bool} (h : Keeps L s u) :
    Keeps L s (u.narrow i cause atOnce) := .ite h (.ite (.goDigital h) (.ite (.plyEvent (.modPly (.bump h))) h))

theorem Steps.execPlyWindow {p : PlyIx} {w : PlyMeas} (h : Keeps L s u) : Steps L s (execPlyWindow p w u) := .next (.ite h (by
    extract_lets
    split
    · exact .loseMember (.modPly h)
    · exact .ite (.modPly h) (.narrow (.modPly h))))

theorem Steps.execPlyProofMiss {m : ProofRead} (h : Keeps L s u) :
    Steps L s (execPlyProofMiss m u) := .next (by split; exacts [.when h fun h => .narrow (.modPly (.bump h)), h])

theorem Steps.execPlyGroupStart {p : PlyIx} (h : Keeps L s u) : Steps L s (execPlyGroupStart p u) := .next (by
    split
    · exact .ite h (.ite (.endGroup h) (by split; exacts [.endGroup h, .modPly h, .modPly h, h]))
    · exact h)

theorem Steps.execPlyGo {p : PlyIx} {m : Fin 16} {slot : Nat} (h : Keeps L s u) : Steps L s (execPlyGo p m slot u) := .next (.modPly h)

theorem Steps.execPlyTimeout {p : PlyIx} (h : Keeps L s u) :
    Steps L s (execPlyTimeout p u) := .next (by split; exacts [.when h fun h => .endGroup h, h])

theorem Keeps.plyCount {r : Nat} {d : Desc} {n : Cnt} (h : Keeps L s u) : Keeps L s (u.plyCount r d n) := by
  unfold State.plyCount
  split
  · exact .addCounts h
  · exact h

theorem Keeps.writeBlock {p : Nat} {g : PlyGroup} {k : Nat} {us : List Nat} (h : Keeps L s u) : Keeps L s (u.writeBlock p g k us) := by
  unfold State.writeBlock
  split
  · exact .forEach (.plyCount (.when (.forEach h fun h => .plyCount (.when h fun h => .sramCause h)) fun h => .sramCause h)) fun h => .plyCount
      (.putSram h)
  · exact h

theorem Keeps.settle {c group : Nat} (h : Keeps L s u) : Keeps L s (u.settle c group) := .modCel h

theorem Keeps.accepted {p : Nat} (h : Keeps L s u) : Keeps L s (u.accepted p) := by
  unfold State.accepted
  split
  · exact .when (.modPly h) fun h => (by split; exacts [.settle h, h])
  · exact h

theorem Keeps.redoNext {p : Nat} (h : Keeps L s u) : Keeps L s (u.redoNext p) := .modPly h
theorem Keeps.blockPassed {p n : Nat} (h : Keeps L s u) : Keeps L s (u.blockPassed p n) := .modPly h

theorem Steps.execPlyResidueCheck {p : PlyIx} {codes : List Nat} (h : Keeps L s u) : Steps L s (execPlyResidueCheck p codes u) := .next (by
    split
    · exact .ite (.accepted (.modPly (.writeBlock (.blockPassed (.bump h))))) (.when (.redoNext (.modPly (.blockPassed (.bump h)))) fun h =>
        .goDigital h)
    · exact h)

theorem Steps.execPlyUnderrun {p : PlyIx} {m : Fin 16} (h : Keeps L s u) :
    Steps L s (execPlyUnderrun p m u) := .next (by split; exacts [.when h fun h => .redoNext (.blockPassed (.bump h)), h])

theorem Steps.execPlyRedo {p : PlyIx} {m : Fin 16} (h : Keeps L s u) : Steps L s (execPlyRedo p m u) := by
  unfold Machine.execPlyRedo
  extract_lets ready v
  have h1 : Keeps L s v := by
    dsimp only [v, ready]
    split
    · exact .when h fun h => .redoNext h
    · exact h
  clear_value v ready
  refine .next ?_
  split
  · split
    · exact .ite (.accepted (.modPly (.writeBlock (.bump h1)))) (.modPly h1)
    · exact h1
  · exact h1

theorem Steps.execPlyConfirm {p : PlyIx} {m : Fin 16} (h : Keeps L s u) : Steps L s (execPlyConfirm p m u) := .next (by
    split
    · exact .ite (by split; exacts [.modPly (.settle (.modPly h)), .modPly h]) (.modPly h)
    · exact h)

theorem Keeps.trained {i : Nat} {w : PlyMeas} (h : Keeps L s u) : Keeps L s (u.trained i w) := by
  unfold State.trained
  split
  · exact .modPly h
  · exact .goDigital (.modPly h)

theorem Keeps.checked {i : Nat} {w : PlyMeas} (h : Keeps L s u) : Keeps L s (u.checked i w) := .ite (.modPly h) (.modPly h)

theorem Steps.execPlyTrainDone {p : PlyIx} {w : PlyMeas} (h : Keeps L s u) :
    Steps L s (execPlyTrainDone p w u) := .next (by split; exacts [.trained h, .checked h, h])

theorem Steps.execPlyTrainTimeout {p : PlyIx} (h : Keeps L s u) : Steps L s (execPlyTrainTimeout p u) := .next (.when h fun h => .goDigital h)
theorem Steps.execPlyCheckTimeout {p : PlyIx} (h : Keeps L s u) : Steps L s (execPlyCheckTimeout p u) := .next (.when h fun h => .modPly h)
theorem Steps.execPlyLost {p : PlyIx} {m : Fin 16} (h : Keeps L s u) : Steps L s (execPlyLost p m u) := .next (.when h fun h => .loseMember h)

theorem Keeps.lightPort {i : Nat} {members : List PlyMember} {w : Option PlyMeas} (h : Keeps L s u) : Keeps L s (u.lightPort i members w) := by
  unfold State.lightPort
  split
  · exact (by extract_lets; split; exacts [.checked (.modPly h), .modPly h])
  · exact (by extract_lets; split; exacts [.trained (.modPly h), .modPly h])

theorem Keeps.idlePort {i : Nat} (h : Keeps L s u) : Keeps L s (u.idlePort i) := .modPly h
theorem Keeps.lightLost {ns : List Nat} {g : Nat} (h : Keeps L s u) : Keeps L s (u.lightLost ns g) := .when h fun h => .withdrawLoops (.bump h)

theorem Steps.execLightLost {what : LightWhat} (h : Keeps L s u) :
    Steps L s (execLightLost what u) := .next (by split; exacts [.lightLost h, .when h fun h => .forEach h fun h => .lightLost h])

theorem Keeps.handover {g : Nat} (h : Keeps L s u) : Keeps L s (u.handover g) := .ite h (.ite (.bump (.modGrp h)) (.ite (.arm h) h))
theorem Keeps.flagLight {n : Nat} {on : Bool} (h : Keeps L s u) : Keeps L s (u.flagLight n on) := .fire (.modLight h)

theorem Keeps.judge {n : Nat} (h : Keeps L s u) : Keeps L s (u.judge n) := by
  unfold State.judge
  split
  · exact .when (.ite (.bump (.flagLight h)) (.ite (.flagLight h) h)) fun h => .handover h
  · exact h

theorem Keeps.judgeWithdrawn {n : Nat} (h : Keeps L s u) : Keeps L s (u.judgeWithdrawn n) := by
  unfold State.judgeWithdrawn
  split
  · exact .when h fun h => .handover h
  · exact h

theorem Steps.execLightWindow {n : Loop} {w : LightMeas} (h : Keeps L s u) :
    Steps L s (execLightWindow n w u) :=
  .next (.ite (.judgeWithdrawn (.modLight h)) (.ite (.lightLost (.modLight h)) (.ite (.withdrawLoops (.modLight h)) (.judge (.modLight h)))))

theorem Steps.execSourceReady {g : Group} (h : Keeps L s u) : Steps L s (execSourceReady g u) := .next (.ite (.enterGrp (.modCage h)) h)
theorem Keeps.endReturn {g : Nat} {st : Status} (h : Keeps L s u) : Keeps L s (u.endReturn g st) := .endLops h

theorem Steps.execArmingTimeout {g : Group} (h : Keeps L s u) :
    Steps L s (execArmingTimeout g u) :=
  .next (.when h fun h => .ite (.endReturn (.enterGrp (.fire (.modCage h)))) (.groupOut (.enterGrp (.fire (.modCage h)))))

theorem Keeps.moved {g kind : Nat} (h : Keeps L s u) :
    Keeps L s (u.moved g kind) :=
  .when (.enterGrp (.bump (.rest (.forEach (.forEach (.modCage (.modCage h)) fun h => .modLight h) fun h => .modPly h)))) fun h => .endReturn h

theorem Keeps.fadeEnd {g : Nat} (h : Keeps L s u) : Keeps L s (u.fadeEnd g) := .withdrawLoops (.forEach h fun h => .modLight h)

theorem Keeps.pause {g : Nat} {failed : List RingIx} {faded : List Loop} {ns kind : Nat} (h : Keeps L s u) :
    Keeps L s (u.pause g failed faded ns kind) :=
  .fadeEnd (.moved (.rest (.forEach (.forEach (.enterGrp h) fun h => .modLight h) fun h => .bump (.muteRing h))))

theorem Steps.execPauseOpen {g : Group} {o : PauseRead} {ns : Nat} (h : Keeps L s u) :
    Steps L s (execPauseOpen g o ns u) := .next (.ite h (by split; exacts [.pause h, .when h fun h => .rest (.pause (.withdraw h))]))

theorem Steps.execHandoverWaitLapse {g : Group} {o : PauseRead} {ns : Nat} (h : Keeps L s u) :
    Steps L s (execHandoverWaitLapse g o ns u) := .next (.when h fun h => .pause (.modGrp (.withdraw (.bump h))))

theorem Steps.execLightTransfer {g : Group} (h : Keeps L s u) : Steps L s (execLightTransfer g u) := .next (.when h fun h => .moved h)

theorem Steps.execCagePoll {k : Cage} {r : Option CageRead} (h : Keeps L s u) : Steps L s (execCagePoll k r u) := .next (by
    split
    · exact .when (.modCage h) fun h => .fire h
    · exact .when (.modCage h) fun h => .fire h)

theorem Steps.execLightCommission {c : Cmd} {pw : List LinePower} (h : Keeps L s u) :
    Steps L s (execLightCommission c pw u) :=
  .next (.selkan h fun h => .ite (.done (.forEach (.rest h) fun h => .modLight h)) (.done (.withdrawLoops (.forEach h fun h => .modLight h))))

theorem Steps.execLightReturn {c : Cmd} (h : Keeps L s u) : Steps L s (execLightReturn c u) := .next (.selkan h fun h => .enterGrp (.setAux h))
theorem Keeps.freshBob {b : BitVec 32 × Bob} {at_ : Lea} (h : Keeps L s u) : Keeps L s (u.freshBob b at_) := .rest h

theorem Steps.execDemandRequest {src dst : Stn} (h : Keeps L s u) :
    Steps L s (execDemandRequest src dst u) := .next (by split; exacts [.bump (.rest (.freshBob (.forEach h fun h => .assignRing h))), .bump h])

theorem Keeps.lightDemand {r : Nat} (h : Keeps L s u) : Keeps L s (u.lightDemand r) := .forEach (.rest h) fun h => .freshBob h

theorem Steps.execDemandIdleRelease {id : BitVec 32} (h : Keeps L s u) :
    Steps L s (execDemandIdleRelease id u) := .next (by split; exacts [.when h fun h => .withdraw h, h])

theorem Keeps.modRun {f : Run → Run} (h : Keeps L s u) : Keeps L s (u.modRun f) := .rest h

theorem Keeps.defer {t : TableSt} {p n : Nat} {paused : Bool} (h : Keeps L s u) : Keeps L s (u.defer t p n paused) := by
  unfold State.defer
  split
  · exact .when (.rest (.modRun (.bump h))) fun h => .stamp h
  · exact h

theorem Steps.execPhaseDecision (h : Keeps L s u) : Steps L s (execPhaseDecision u) := .next (by
    split
    · exact (by split; exacts [.ite h (.ite (.modRun (.rest h)) (.defer (.rest h))), h])
    · exact h)

theorem Steps.execPhaseBarrierTrigger {barrier : Nat} (h : Keeps L s u) :
    Steps L s (execPhaseBarrierTrigger barrier u) := .next (by split; exacts [(by split; exacts [.when h fun h => .modRun h, h]), h])

theorem Keeps.retire {ids : List (BitVec 32)} (h : Keeps L s u) : Keeps L s (u.retire ids) := .bump (.forEach (.cutRaw h) fun h => .endGroup h)
theorem Keeps.stopTable (h : Keeps L s u) : Keeps L s u.stopTable := .rest (.forEach (.retire h) fun h => .idlePort h)
theorem Keeps.retuneFor {bs : List Bob} (h : Keeps L s u) : Keeps L s (u.retuneFor bs) := .rest (.forEach h fun h => .assignRing h)

theorem Keeps.lightPorts {bs : List (BitVec 32 × Bob)} {out : List (BitVec 32)} {w : List (PlyIx × PlyMeas)} (h : Keeps L s u) :
    Keeps L s (u.lightPorts bs out w) :=
  .forEach (.forEach h fun h => .idlePort h) fun h => .ite (.modPly h) (.ite (.faultPort (.modPly h)) (.lightPort h))

theorem Keeps.renameBob {old new : BitVec 32} {drops : List Nat} (h : Keeps L s u) : Keeps L s (u.renameBob old new drops) := .rest h
theorem Keeps.confirmFail {k : Nat} (h : Keeps L s u) : Keeps L s (u.confirmFail k) := .bump (.modRing (.when h fun h => .bump h))
theorem Keeps.setRatios {b : Bob} (h : Keeps L s u) : Keeps L s (u.setRatios b) := .forEach h fun h => .modRing h

theorem Keeps.switchTo {t : TableSt} {r : Run} {p : Nat} {failed : List (BitVec 32 × Nat)} {ns : Nat} {w : List (PlyIx × PlyMeas)} (h : Keeps L s u) :
    Keeps L s (u.switchTo t r p failed ns w) := by
  unfold State.switchTo
  extract_lets
  split
  · exact .when (.forEach (.lightPorts (.bump (.bump (.modRun (.rest (.forEach (.forEach (.forEach (.retire h) fun h => .renameBob h) fun h =>
      .freshBob (.setRatios h)) fun h => .confirmFail h)))))) fun h => .modBlk h) fun h => .forEach h fun h => .signal h
  · exact .forEach (.lightPorts (.bump (.bump (.modRun (.rest (.forEach (.forEach (.forEach (.retire h) fun h => .renameBob h) fun h => .freshBob
      (.setRatios h)) fun h => .confirmFail h)))))) fun h => .modBlk h

theorem Keeps.pendNext {t : TableSt} {p : Nat} {done : Lea} {paused : Bool} (h : Keeps L s u) : Keeps L s (u.pendNext t p done paused) := by
  unfold State.pendNext
  extract_lets
  split
  · exact (by split; exacts [.when (.modRun h) fun h => .defer h, .modRun h])
  · exact .modRun h

theorem Keeps.waitBarrier (h : Keeps L s u) : Keeps L s u.waitBarrier := by
  unfold State.waitBarrier
  split
  · exact (by split; exacts [.when h fun h => .modRun (.defer h), h])
  · exact h

theorem Steps.execPhaseSwitch {failed : List (BitVec 32 × Nat)} {ns : Nat} {ply : List (PlyIx × PlyMeas)} (h : Keeps L s u) :
    Steps L s (execPhaseSwitch failed ns ply u) := .next (by
    split
    · exact (by
        split
        · exact .ite h (.ite (.endLops (.stopTable h)) (.ite (.waitBarrier h) (.when (.pendNext (.switchTo h)) fun h => (by split; exacts [(by split; exacts [.retuneFor h, h]), h]))))
        · exact h)
    · exact h)

theorem Steps.execCreelStatus {c : Cmd} (h : Keeps L s u) : Steps L s (execCreelStatus c u) := .next (.selkan h fun h => .done h)

theorem Steps.execTableLoad {c : Cmd} (h : Keeps L s u) :
    Steps L s (execTableLoad c u) := .next (.selkan h fun h => (by split; exacts [.done (.rest (.withdraw h)), .done h]))

theorem Keeps.unloadTable {h' : Nat} (h : Keeps L s u) : Keeps L s (u.unloadTable h') := .restRings (.rest h)
theorem Steps.execTableUnload {c : Cmd} (h : Keeps L s u) : Steps L s (execTableUnload c u) := .next (.selkan h fun h => .done (.unloadTable h))

theorem Keeps.trainTable {h' : Nat} {t : TableSt} {ply : List (PlyIx × PlyMeas)} (h : Keeps L s u) :
    Keeps L s (u.trainTable h' t ply) :=
  .forEach h fun h => .forEach h fun h => (by split; exacts [.when (.trained (.modPly h)) fun h => .idlePort h, h])

theorem Keeps.tryStart (h : Keeps L s u) : Keeps L s u.tryStart := by
  unfold State.tryStart
  split
  · exact (by
      split
      · exact .when h fun h => .endLops (.rest (.when h fun h => .trainTable h))
      · exact h)
  · exact h

theorem Steps.execTableStart {c : Cmd} {ply : List (PlyIx × PlyMeas)} (h : Keeps L s u) :
    Steps L s (execTableStart c ply u) :=
  .next (.selkan h fun h => (by split; exacts [.tryStart (.rest (.forEach h fun h => .assignRing h)), .done h]))

theorem Steps.execTableStop {c : Cmd} (h : Keeps L s u) :
    Steps L s (execTableStop c u) := .next (.selkan h fun h => .ite (.done (.stopTable h)) (.modRun h))

theorem Steps.execFence {c : Cmd} (h : Keeps L s u) : Steps L s (execFence c u) := .next (.selkan h fun h => .done (.forEach h fun h => .fence h))

theorem Steps.execUnfence {c : Cmd} (h : Keeps L s u) :
    Steps L s (execUnfence c u) := .next (.selkan h fun h => .done (.forEach h fun h => .unfence h))

theorem Steps.execLoopWithdraw {c : Cmd} (h : Keeps L s u) : Steps L s (execLoopWithdraw c u) := .next (.selkan h fun h => .done (.withdrawLoops h))
theorem Steps.execDroopChange {r : Region} {mv : Nat} (h : Keeps L s u) : Steps L s (execDroopChange r mv u) := .next (.modReg h)
theorem Steps.execDroopRelease {r : Region} (h : Keeps L s u) : Steps L s (execDroopRelease r u) := .next (.when h fun h => .modReg h)
theorem Steps.execGateHold {r : Region} {periods ps : Nat} (h : Keeps L s u) : Steps L s (execGateHold r periods ps u) := .next (.modReg (.bump h))
theorem Keeps.modXing {x : Crossing} {f : Xing → Xing} (h : Keeps L s u) : Keeps L s (u.modXing x f) := .forEach h fun h => .modReg h

theorem Steps.execPhaseCheck {x : Crossing} {m : PhaseRead} (h : Keeps L s u) :
    Steps L s (execPhaseCheck x m u) := .next (.ite h (.ite (.modXing h) (.fire (.bump (.modXing (.modXing h))))))

theorem Steps.execCrossingRecentre {x : Crossing} (h : Keeps L s u) : Steps L s (execCrossingRecentre x u) := .next (.modXing h)

theorem Steps.execSeamModeSwitch {d : Fin 8} {rt : Option Nat} (h : Keeps L s u) : Steps L s (execSeamModeSwitch d rt u) := .next (.ite h (by
    split
    · exact .forEach (.modXing h) fun h => .fire h
    · exact .when h fun h => .forEach (.modXing h) fun h => .fire h))

theorem Steps.execRefAbsent (h : Keeps L s u) : Steps L s (execRefAbsent u) := .next (.when h fun h => .fire (.rest h))
theorem Steps.execRefReturn (h : Keeps L s u) : Steps L s (execRefReturn u) := .next (.when h fun h => .rest h)
theorem Steps.execRefLost (h : Keeps L s u) : Steps L s (execRefLost u) := .next (.when h fun h => .stamp (.rest h))

theorem Keeps.compareLea {skews : List ℤ} {halves : List Nat} (h : Keeps L s u) :
    Keeps L s (u.compareLea skews halves) := .when (.rest h) fun h => .fire (.bump h)

theorem Steps.execLeaCompare {m : LeaRead} (h : Keeps L s u) : Steps L s (execLeaCompare m u) := .next (.compareLea h)

theorem Keeps.unpower (h : Keeps L s u) :
    Keeps L s u.unpower := .rest (.forEach (.forEach (.forEach h fun h => .setStk h) fun h => .modCage h) fun h => .when (.modReg h) fun h => .fire h)

theorem Keeps.heldFault {code index : Nat} (h : Keeps L s u) : Keeps L s (u.heldFault code index) := .when h fun h => .stamp h

theorem Keeps.endReset {st : Status} {res : BitVec 128} (h : Keeps L s u) : Keeps L s (u.endReset st res) := by
  unfold State.endReset
  split
  · exact .moves (fun hh => .inl (by simpa using hh)) (.post h)
  · exact h

theorem Keeps.enterHeld {code index : Nat} (h : Keeps L s u) : Keeps L s (u.enterHeld code index) := by
  unfold State.enterHeld
  exact .ite h (.rest (.unpower (.fire (.makeRec (.endReset (.endLops (.moves (fun _ => .inl rfl) (.heldFault h))))))))

theorem Keeps.lineCe {l : Nat} (h : Keeps L s u) : Keeps L s (u.lineCe l) := .rest (.modStk (.bump h))

theorem Keeps.lineBad {l : Nat} (h : Keeps L s u) : Keeps L s (u.lineBad l) := by
  unfold State.lineBad
  exact .noteLines (.write (fun w => MemsWf.markLine w) (.modStk h))

theorem Keeps.spoil {l : Nat} (h : Keeps L s u) : Keeps L s (u.spoil l) :=
  .write (fun w => MemsWf.hbm w (Memory.wf_write _ _ w.1) w.2.2.2.2.2.1) h

theorem Keeps.probe {l errs : Nat} (h : Keeps L s u) : Keeps L s (u.probe l errs).2 := by
  unfold State.probe
  split
  · exact h
  · split
    · exact h
    · split
      · exact .lineCe h
      · split
        · exact .lineBad h
        · split
          · exact .lineBad (.fresh h)
          · exact .lineCe (.spoil h)
          · exact .spoil h

theorem Keeps.countCheck {who : HbmWho} {f : LineCheck} {l : Nat} {g : Cause → Cause} (h : Keeps L s u) : Keeps L s (u.countCheck who f l g) := by
  unfold State.countCheck
  split
  · exact .hbmConsume h
  · exact .hbmConsume h
  · exact .hbmSpindleRead h
  · exact .hbmSpindleRead h
  · exact .hbmSpindleRead h
  · exact h

theorem Keeps.admitLine {l : Nat} {reel : Bool} (h : Keeps L s u) : Keeps L s (u.admitLine l reel) := .rest h
theorem Steps.execHotSlotFree {line : Nat} (h : Keeps L s u) : Steps L s (execHotSlotFree line u) := .next (by split; exacts [.ite (.rest h) h, h])
theorem Keeps.linkGood {k : Nat} (h : Keeps L s u) : Keeps L s (u.linkGood k) := .modStk h

theorem Keeps.answer {pa : Nat} {tag : BitVec 16} {gen : BitVec 10} {status : Nat} {poison : Bool} {data : List Byte} (h : Keeps L s u) :
    Keeps L s (u.answer pa tag gen status poison data) := .reply (.send h)

theorem Keeps.recopy {pa tag : Nat} {gen : BitVec 10} (h : Keeps L s u) : Keeps L s (u.recopy pa tag gen) := .when h fun h => .store h

theorem Steps.execHbmRead {pa errs : Nat} {tag : BitVec 16} {gen : BitVec 10} {who : HbmWho} (h : Keeps L s u) :
    Steps L s (execHbmRead pa errs tag gen who u) := .next (by
    split
    · exact .when h fun h => .answer h
    · exact h
    · exact .ite h (.when (.countCheck (.probe (.admitLine (.linkGood h)))) fun h => .answer (.recopy h)))

theorem Steps.execHbmWrite {pa : Nat} {data : List Byte} {errs : Nat} {poison : Bool} (h : Keeps L s u) :
    Steps L s (execHbmWrite pa data errs poison u) := .next (by
    split
    · exact .ite h (.ite (.storeHbm (.admitLine (.linkGood h))) (.ite (.hbmConsume (.probe (.admitLine (.linkGood h)))) (.storeHbm (.probe
        (.admitLine (.linkGood h))))))
    · exact h)

theorem Keeps.journal {e : JEntry} (h : Keeps L s u) : Keeps L s (u.journal e) := .rest h

theorem Keeps.atomicAt {pa aop size : Nat} {op cmp : BitVec 128} (h : Keeps L s u) : Keeps L s (u.atomicAt pa aop size op cmp).2 := by
  unfold State.atomicAt
  dsimp only
  exact .storeHbm h

theorem Steps.execHbmAtomic {pa : Nat} {aop : BitVec 4} {size : Nat} {opnd cmp : BitVec 128} {tag : BitVec 16} {gen : BitVec 10} {errs : Nat} (h :
    Keeps L s u) :
    Steps L s (execHbmAtomic pa aop size opnd cmp tag gen errs u) := .next (by
    split
    · exact .answer h
    · exact h
    · exact (by
        split
        · exact .answer h
        · exact .ite (.answer h) (.ite h (.ite (.answer (.hbmConsume (.probe (.admitLine (.linkGood h))))) (.answer (.journal (.atomicAt (.probe
            (.admitLine (.linkGood h))))))))))

theorem Steps.execJournalExpire {k : Fin 8} (h : Keeps L s u) : Steps L s (execJournalExpire k u) := .next (.rest h)
theorem Steps.execHbmCeWriteback {line : Nat} (h : Keeps L s u) : Steps L s (execHbmCeWriteback line u) := .next (.rest h)

theorem Steps.execHbmScrub {line errs : Nat} (h : Keeps L s u) :
    Steps L s (execHbmScrub line errs u) := .next (.ite (by extract_lets; split; exacts [.bump (.probe h), .hbmSpindleRead (.probe h), .probe h]) h)

theorem Steps.execHbmLink {k : Stack} (h : Keeps L s u) :
    Steps L s (execHbmLink k u) := .next (.when h fun h => .ite (.stamp (.linkGood (.bump h))) (.modStk (.bump h)))

theorem Steps.execStackTempRead {k : Stack} {t sk : Nat} (h : Keeps L s u) :
    Steps L s (execStackTempRead k t sk u) := .next (.ite h (.when (.when (.when (.modStk h) fun h => .fire h) fun h => .fire h) fun h => .bump h))

theorem Keeps.receive {p : RPort} {op : Nat} {k : Pkt} {act : State → State} (h : Keeps L s u) (hact : ∀ {u}, Keeps L s u → Keeps L s (act u)) :
    Keeps L s (u.receive p op k act) := .ite h (by split; exacts [.ite (.bump h) (.ite (hact h) h), .bump h, .bump h, h])

theorem Keeps.ingress {p : RPort} {k : Pkt} {act : State → State} (h : Keeps L s u) (hact : ∀ {u}, Keeps L s u → Keeps L s (act u)) :
    Keeps L s (u.ingress p k act) := .ite (.bump h) (.ite (.bump h) (hact h))

theorem Keeps.replyTo {k : Pkt} {op status : Nat} {data : List Byte} {f : Pkt → Pkt} (h : Keeps L s u) :
    Keeps L s (u.replyTo k op status data f) := .sendPkt h

theorem Keeps.reject {p : RPort} {k : Pkt} {op status : Nat} {f : Pkt → Pkt} (h : Keeps L s u) :
    Keeps L s (u.reject p k op status f) := .ite (.bump (.when (.rest h) fun h => .fire h)) (.replyTo (.when (.rest h) fun h => .fire h))

theorem Keeps.retry {k : Pkt} {op hint : Nat} {f : Pkt → Pkt} (h : Keeps L s u) : Keeps L s (u.retry k op hint f) := .replyTo (.bump h)

/-- What a hot line's queue that is full leaves behind. -/
theorem Keeps.hotRetry {l : Nat} {x : Nat × State} (h : Keeps L s u) (hx : u.hotRetry l = some x) : Keeps L s x.2 := by
  unfold State.hotRetry at hx
  split at hx
  · split at hx
    · cases hx
      exact .rest h
    · cases hx
  · split at hx
    · cases hx
      exact .fire (.bump h)
    · cases hx

theorem Keeps.atLine {p : RPort} {k : Pkt} {op right : Nat} {f : Pkt → Pkt} {act : Nat → State → State} (h : Keeps L s u)
    (hact : ∀ {x} {u}, Keeps L s u → Keeps L s (act x u)) : Keeps L s (u.atLine p k op right f act) := by
  unfold State.atLine
  split
  · exact .reject h
  · refine .ite h ?_
    split
    next hr => exact .retry (.hotRetry h hr)
    · exact hact (.admitLine h)

theorem Keeps.pass {k : Pkt} (h : Keeps L s u) : Keeps L s (u.pass k) := .sendPkt h

theorem Keeps.sendBulk {op : Nat} {x : Piece} {data : List Byte} {poison : Bool} (h : Keeps L s u) :
    Keeps L s (u.sendBulk op x data poison) := .sendPkt (.rest h)

theorem Keeps.flushWindow {g : Gather} {poison : Bool} (h : Keeps L s u) :
    Keeps L s (u.flushWindow g poison) := .forEach (.rest h) fun h => .sendBulk h

theorem Keeps.flushReached {node handle : BitVec 16} {lo hi : Nat} (h : Keeps L s u) :
    Keeps L s (u.flushReached node handle lo hi) := .forEach h fun h => .flushWindow h

theorem Keeps.flushRange {node handle : BitVec 16} {lo hi : Nat} (h : Keeps L s u) :
    Keeps L s (u.flushRange node handle lo hi) := .forEach h fun h => .flushWindow h

theorem Keeps.gatherWrite {port : Nat} {k : Pkt} (h : Keeps L s u) : Keeps L s (u.gatherWrite port k) := .ite (.flushWindow (.flushRange h)) (by
    split
    · exact .ite (.flushWindow (.rest h)) (.rest h)
    · exact .rest (.ite (by split; exacts [.flushWindow h, h]) h))

theorem Keeps.stageRead {port : Nat} {k : Pkt} (h : Keeps L s u) :
    Keeps L s (u.stageRead port k) := .ite (.rest (.flushReached h)) (.rest (.flushReached h))

theorem Keeps.forward {p : RPort} {k : Pkt} (h : Keeps L s u) : Keeps L s (u.forward p k) := by
  unfold State.forward
  split
  · exact .ite h (by split; exacts [.stageRead h, .gatherWrite h, .pass (.flushReached h), h, .pass h])
  · exact h

theorem Keeps.request' {p : RPort} {op : Nat} {k : Pkt} {act : State → State} (h : Keeps L s u) (hact : ∀ {u}, Keeps L s u → Keeps L s (act u)) :
    Keeps L s (u.request' p op k act) := .receive h fun h => .ingress h fun h => .ite (hact h) (.forward h)

theorem Keeps.response {p : RPort} {op : Nat} {k : Pkt} {act : State → State} (h : Keeps L s u) (hact : ∀ {u}, Keeps L s u → Keeps L s (act u)) :
    Keeps L s (u.response p op k act) := .receive h fun h => .ite (hact h) (.forward h)

theorem Steps.execGatherFlush {p : RPort} {window : Nat} (h : Keeps L s u) :
    Steps L s (execGatherFlush p window u) := .next (by split; exacts [.when h fun h => .flushWindow h, h])

theorem Steps.execStagedFetch {p : RPort} {piece : Nat} (h : Keeps L s u) :
    Steps L s (execStagedFetch p piece u) := .next (by split; exacts [.when h fun h => .sendBulk (.flushRange (.rest h)), h])

theorem Keeps.endPiece {x : Piece} (h : Keeps L s u) : Keeps L s (u.endPiece x) := .rest h

theorem Steps.execBulkData {p : RPort} {k : Pkt} (h : Keeps L s u) :
    Steps L s (execBulkData p k u) := .next (.response h fun h => (by split; exacts [.forEach (.endPiece h) fun h => .replyTo h, h]))

theorem Steps.execBulkAck {p : RPort} {k : Pkt} (h : Keeps L s u) :
    Steps L s (execBulkAck p k u) := .next (.response h fun h => (by split; exacts [.forEach (.endPiece h) fun h => .replyTo h, h]))

theorem Steps.execReelRead {p : RPort} {k : Pkt} {errs : Nat} (h : Keeps L s u) :
    Steps L s (execReelRead p k errs u) := .next (.request' h fun h => .atLine h fun h => .replyTo (.countCheck (.probe h)))

theorem Steps.execReelWrite {p : RPort} {k : Pkt} (h : Keeps L s u) :
    Steps L s (execReelWrite p k u) := .next (.request' h fun h => .atLine h fun h => .replyTo (.storeHbm h))

theorem Steps.execReelAtomic {p : RPort} {k : Pkt} {errs : Nat} (h : Keeps L s u) : Steps L s (execReelAtomic p k errs u) := by
  refine .next (.request' h fun h => ?_)
  split
  · exact .reject h
  · extract_lets pa l die
    split
    · exact .replyTo (.bump h)
    · refine .ite h (.ite (.retry (.fire (.bump h))) ?_)
      split
      next hr => exact .retry (.hotRetry h hr)
      · exact .ite (.replyTo (.hbmConsume (.probe (.admitLine h)))) (.replyTo (.journal (.atomicAt (.probe (.admitLine h)))))

theorem Keeps.dropRange {node handle : BitVec 16} {offset n : Nat} (h : Keeps L s u) :
    Keeps L s (u.dropRange node handle offset n) := .forEach (.rest h) fun h => .modSlot h

theorem Steps.execInvalidate {p : RPort} {k : Pkt} (h : Keeps L s u) :
    Steps L s (execInvalidate p k u) := .next (.request' h fun h => .replyTo (.dropRange h))

theorem Steps.execMcastWrite {p : RPort} {k : Pkt} (h : Keeps L s u) :
    Steps L s (execMcastWrite p k u) := .next (.request' h fun h => .atLine h fun h => .replyTo (.storeHbm h))

theorem Steps.execBulkWrite {p : RPort} {k : Pkt} (h : Keeps L s u) : Steps L s (execBulkWrite p k u) := .next (.request' h fun h => (by
    extract_lets
    split
    · exact .reject h
    · exact .replyTo (.forEach h fun h => .storeHbm (.admitLine h))))

theorem Steps.execBulkRead {p : RPort} {k : Pkt} (h : Keeps L s u) :
    Steps L s (execBulkRead p k u) :=
  .next (.request' h fun h => (by extract_lets; split; exacts [.reject h, .replyTo (.forEach h fun h => .hbmConsume h)]))

theorem Keeps.reelReply {p : RPort} {op req : Nat} {k : Pkt} {act : SlotSt → State → State} (h : Keeps L s u) (hact : ∀ {x} {u}, Keeps L s u →
    Keeps L s (act x u)) :
    Keeps L s (u.reelReply p op req k act) := .response h fun h => .ite (hact h) (.bump h)

theorem Keeps.retryWait {tag hint : Nat} (h : Keeps L s u) : Keeps L s (u.retryWait tag hint) := .modSlot (.bump (.fresh h))
theorem Keeps.endReel {tag : Nat} (h : Keeps L s u) : Keeps L s (u.endReel tag) := .wakeReel (.endSlot h)

theorem Keeps.onStatus {tag : Nat} {k : Pkt} {ok ue : State → State} (h : Keeps L s u) (hok : ∀ {u}, Keeps L s u → Keeps L s (ok u)) (hue : ∀ {u},
    Keeps L s u → Keeps L s (ue u)) :
    Keeps L s (u.onStatus tag k ok ue) := by
  unfold State.onStatus
  split
  · exact .endReel (hok h)
  · exact .retryWait h
  · exact .endReel (.slotCause (hue h))
  · exact .endReel (.slotCause h)

theorem Steps.execReadResp {p : RPort} {k : Pkt} (h : Keeps L s u) :
    Steps L s (execReadResp p k u) := .next (.reelReply h fun h => .onStatus h (fun h => .store (.ite (.rest h) h)) fun h => .store h)

theorem Steps.execWriteAck {p : RPort} {k : Pkt} (h : Keeps L s u) :
    Steps L s (execWriteAck p k u) := .next (.reelReply h fun h => .onStatus h (fun h => h) fun h => h)

theorem Steps.execAtomicResp {p : RPort} {k : Pkt} (h : Keeps L s u) :
    Steps L s (execAtomicResp p k u) := .next (.reelReply h fun h => .onStatus h (fun h => .atomicDone h) fun h => h)

theorem Keeps.mcResend {x : McLine} (h : Keeps L s u) : Keeps L s (u.mcResend x) := by
  unfold State.mcResend
  split
  · exact .forEach (.rest h) fun h => .sendPkt h
  · exact h

theorem Steps.execReelRetryResend {tag : BitVec 16} (h : Keeps L s u) :
    Steps L s (execReelRetryResend tag u) := .next (by split; exacts [.mcResend h, .when h fun h => .sendReel (.modSlot h)])

theorem Keeps.giveUp {tag code : Nat} (h : Keeps L s u) : Keeps L s (u.giveUp tag code) := .wakeReel (.modBlk (.slotCause (.bump h)))
theorem Steps.execAtomicTry {tag : BitVec 16} (h : Keeps L s u) : Steps L s (execAtomicTry tag u) := .next (.when h fun h => .sendReel h)

theorem Steps.execOutcomeUnknown {tag : BitVec 16} (h : Keeps L s u) :
    Steps L s (execOutcomeUnknown tag u) := .next (.ite (.ite (.giveUp h) (.ite (.wakeReel (.modBlk (.slotCause (.bump h)))) h)) h)

theorem Keeps.mcAnswer {tag m : Nat} {ok : Bool} (h : Keeps L s u) : Keeps L s (u.mcAnswer tag m ok) := by
  unfold State.mcAnswer
  split
  · exact .ite (.wakeReel (.mcLineDone (.rest h))) (.rest h)
  · exact h

theorem Keeps.mcRetry {tag m hint : Nat} (h : Keeps L s u) : Keeps L s (u.mcRetry tag m hint) := .rest (.bump (.fresh h))

theorem Steps.execMcastAck {p : RPort} {k : Pkt} (h : Keeps L s u) : Steps L s (execMcastAck p k u) := .next (.response h fun h => .ite (by
    split
    · exact .mcAnswer h
    · exact .mcRetry h
    · exact .mcAnswer h
    · exact .mcAnswer h
    · exact .mcAnswer (.slotCause h)
    · exact .mcAnswer (.slotCause h)) (.bump h))

theorem Steps.execMcastBranchDrop {tag : BitVec 16} {member : Nat} (h : Keeps L s u) : Steps L s (execMcastBranchDrop tag member u) := .next (by
    split
    · exact (by split; exacts [.ite (.mcAnswer (.forEach h fun h => .modRp h)) h, h])
    · exact h)

theorem Keeps.endInval {v : Inval} {st : Status} (h : Keeps L s u) : Keeps L s (u.endInval v st) := .done (.rest h)

theorem Keeps.invAcked {m : BitVec 16} (h : Keeps L s u) : Keeps L s (u.invAcked m) := by
  unfold State.invAcked
  split
  · exact .ite (.ite (.endInval h) (.rest h)) h
  · exact h

theorem Steps.execInvAck {p : RPort} {k : Pkt} (h : Keeps L s u) :
    Steps L s (execInvAck p k u) := .next (.response h fun h => .when h fun h => .invAcked h)

theorem Steps.execReelTimeout {what : ReelTimeoutWhat} (h : Keeps L s u) : Steps L s (execReelTimeout what u) := .next (by
    split
    · exact .when h fun h => .giveUp h
    · exact .when h fun h => .giveUp h
    · exact (by split; exacts [.when h fun h => .endInval h, h])
    · exact (by split; exacts [.when h fun h => .forEach h fun h => .mcAnswer h, h]))

theorem Steps.execLinesHeldEnd {p : RPort} (h : Keeps L s u) : Steps L s (execLinesHeldEnd p u) := .next (.wakeReel (.rest h))

theorem Steps.execReelRegister {c : Cmd} (h : Keeps L s u) :
    Steps L s (execReelRegister c u) := .next (.selkan h fun h => (by split; exacts [.done (.rest h), .done h]))

theorem Keeps.deregister {h' : Nat} (h : Keeps L s u) : Keeps L s (u.deregister h') := .rest h
theorem Steps.execReelDeregister {c : Cmd} (h : Keeps L s u) : Steps L s (execReelDeregister c u) := .next (.selkan h fun h => .done (.deregister h))
theorem Steps.execSharerGroupSet {c : Cmd} (h : Keeps L s u) : Steps L s (execSharerGroupSet c u) := .next (.selkan h fun h => .done (.rest h))
theorem Steps.execMcastGroupSet {c : Cmd} (h : Keeps L s u) : Steps L s (execMcastGroupSet c u) := .next (.selkan h fun h => .done (.rest h))

theorem Keeps.sendInval {v : Inval} {home handle : BitVec 16} {offset n group : Nat} (h : Keeps L s u) :
    Keeps L s (u.sendInval v home handle offset n group) :=
  .ite (.endInval (.forEach h fun h => .ite (.dropRange h) (.sendPkt h))) (.rest (.forEach h fun h => .ite (.dropRange h) (.sendPkt h)))

theorem Keeps.dropInval {v : Inval} (h : Keeps L s u) : Keeps L s (u.dropInval v) := .done (.rest h)

theorem Keeps.wakeInval (h : Keeps L s u) : Keeps L s u.wakeInval := by
  unfold State.wakeInval
  split
  · exact .ite h (.ite (.dropInval h) (.sendInval h))
  · exact h

theorem Steps.execReelInvalidate {c : Cmd} (h : Keeps L s u) :
    Steps L s (execReelInvalidate c u) := .next (.selkan h fun h => .ite (.rest h) (.wakeInval (.rest h)))

theorem Steps.execReelKeyRotate {c : Cmd} (h : Keeps L s u) : Steps L s (execReelKeyRotate c u) := .next (.selkan h fun h => .setAux (.rest h))

theorem Steps.execKeyRotationEnd (h : Keeps L s u) :
    Steps L s (execKeyRotationEnd u) := .next (by split; exacts [(by split; exacts [.when h fun h => .done (.rest h), .done h]), h])

theorem Keeps.prove {p : Nat} (h : Keeps L s u) : Keeps L s (u.prove p) := .rest (.modRp h)

theorem Keeps.putInForce {n : Settings} (h : Keeps L s u) : Keeps L s (u.putInForce n) := by
  unfold State.putInForce
  exact .when (.when (.ite (.rest h) (.rest (.rest h))) fun h => .forEach h fun h => .modRp h) fun h => .forEach h fun h => .prove h

theorem Keeps.applyNow {c : Cmd} (h : Keeps L s u) :
    Keeps L s (u.applyNow c) := .ite (.done (.putInForce (.rest h))) (.rest (.done (.putInForce (.rest h))))

theorem Keeps.rollback (h : Keeps L s u) : Keeps L s u.rollback := .ite (.rest h) (.putInForce (.rest h))
theorem Keeps.closeWatch {res : Nat} (h : Keeps L s u) : Keeps L s (u.closeWatch res) := .fire (.rest h)

theorem Keeps.autoRollback {code : Nat} (h : Keeps L s u) :
    Keeps L s (u.autoRollback code) := .ite (.closeWatch (.bump (.ite (.rest h) (.putInForce (.rest h))))) h

theorem Keeps.dropLaunch {n : BitVec 32} (h : Keeps L s u) : Keeps L s (u.dropLaunch n) := .rest h
theorem Keeps.judgeLaunches (h : Keeps L s u) : Keeps L s u.judgeLaunches := .ite (.forEach h fun h => .done (.dropLaunch h)) h
theorem Keeps.setRegion {r : Nat} {st : RState} (h : Keeps L s u) : Keeps L s (u.setRegion r st) := .ite h (.judgeLaunches (.fire (.modReg h)))

theorem Keeps.clearRegion {r : Nat} (h : Keeps L s u) :
    Keeps L s (u.clearRegion r) := .rest (.modReg (.forEach (.forEach h fun h => .modBlk h) fun h => .modCel h))

theorem Keeps.enterReset {r : Nat} (h : Keeps L s u) : Keeps L s (u.enterReset r) := .setRegion (.clearRegion (.modReg (.fence h)))

theorem Keeps.calibrateXing {x : Crossing} {tries : List (Option Nat)} (h : Keeps L s u) : Keeps L s (u.calibrateXing x tries) := by
  unfold State.calibrateXing
  exact .when (.when (.modXing h) fun h => .modXing h) fun h => .forEach h fun h => .fire h

theorem Keeps.finishReset {r : Region} {x : ResetRead} (h : Keeps L s u) :
    Keeps L s (u.finishReset r x) := .setRegion (.unfence (.calibrateXing (.calibrateXing (.faultRings h))))

theorem Keeps.closeJob (h : Keeps L s u) : Keeps L s u.closeJob := .rest h

theorem Keeps.resetsDone (h : Keeps L s u) : Keeps L s u.resetsDone := by
  unfold State.resetsDone
  extract_lets s1
  have h1 : Keeps L s s1 := by
    dsimp only [s1]
    split
    · exact .when h fun h => .done (.closeJob h)
    · exact h
  clear_value s1
  split
  · exact .when h1 fun h => .done h
  · exact h1

theorem Steps.execRegionReset {r : Region} {x : ResetRead} (h : Keeps L s u) :
    Steps L s (execRegionReset r x u) := .next (.ite (.resetsDone (.finishReset h)) h)

theorem Steps.execRegionResetTimeout {r : Region} (h : Keeps L s u) : Steps L s (execRegionResetTimeout r u) := .next (.ite (.enterHeld h) h)

theorem Keeps.parkHalf {r : Nat} (h : Keeps L s u) :
    Keeps L s (u.parkHalf r) := .rest (.setRegion (.fence (.when (.modXing h) fun h => .forEach h fun h => .fire h)))

theorem Steps.execRegionPark {c : Cmd} (h : Keeps L s u) :
    Steps L s (execRegionPark c u) := .next (.selkan h fun h => .forEach (.setAux h) fun h => .parkHalf h)

theorem Steps.execRegionUnpark {c : Cmd} (h : Keeps L s u) :
    Steps L s (execRegionUnpark c u) := .next (.selkan h fun h => .forEach (.setAux h) fun h => .rest h)

theorem Keeps.unparked {r : Nat} (h : Keeps L s u) : Keeps L s (u.unparked r) := .ite (.enterReset h) h

theorem Keeps.parksDone (h : Keeps L s u) : Keeps L s u.parksDone := by
  unfold State.parksDone
  split
  · exact .when h fun h => .done h
  · exact h

theorem Keeps.replanned {d : Nat} (h : Keeps L s u) : Keeps L s (u.replanned d) := .ite (.fire (.bump (.rest h))) h

theorem Steps.execRailRampStep {d : Fin 8} (h : Keeps L s u) :
    Steps L s (execRailRampStep d u) := .next (.ite (.replanned (.parksDone (.unparked (.unparked (.rest h))))) h)

theorem Steps.execPllUnlock {d : DieIx} {relocked : Bool} (h : Keeps L s u) :
    Steps L s (execPllUnlock d relocked u) :=
  .next (.ite h (.ite (.rest (.when h fun h => .fire (.stamp (.rest h)))) (.ite (.enterHeld (.rest (.when h fun h => .fire (.stamp (.rest h)))))
      (.rest (.when h fun h => .fire (.stamp (.rest h)))))))

theorem Steps.execLeaStep {c : Cmd} (h : Keeps L s u) : Steps L s (execLeaStep c u) := .next (.selkan h fun h => .done (.fire (.rest h)))

theorem Keeps.giveGuards {first : Nat} {ts : List (List Byte)} (h : Keeps L s u) :
    Keeps L s (u.giveGuards first ts) := .forEach h fun h => .modGuard h

theorem Keeps.freeGuards {im : Image} (h : Keeps L s u) : Keeps L s (u.freeGuards im) := .forEach h fun h => .modGuard h

theorem Keeps.loadSect {mask : Nat} {k : Sect} {body : List Byte} (h : Keeps L s u) : Keeps L s (u.loadSect mask k body) := by
  unfold State.loadSect
  split
  · exact .forEach h fun h => .write (fun w => MemsWf.writeSram w) h
  · exact .forEach h fun h => .write (fun w => MemsWf.writeSram w) h
  · exact .forEach h fun h => .modBlk h
  · exact h

theorem Keeps.loadImage {mask first : Nat} {bs : List Byte} (h : Keeps L s u) :
    Keeps L s (u.loadImage mask first bs) := .rest (.forEach (.giveGuards h) fun h => .loadSect h)

theorem Steps.execJobOpen {c : Cmd} (h : Keeps L s u) : Steps L s (execJobOpen c u) := .next (.selkan h fun h => .done (.rest h))

theorem Keeps.freeTables (h : Keeps L s u) :
    Keeps L s u.freeTables := .endLops (.foldl (.rest (.when h fun h => .stopTable h)) fun h => .unloadTable h)

theorem Keeps.freeJob (h : Keeps L s u) :
    Keeps L s u.freeJob :=
  .rest (.forEach (.forEach (.forEach (.forEach (.forEach (.freeTables h) fun h => .idlePort h) fun h => .modPly h) fun h => .deregister h) fun h
      => .modStk h) fun h => .modReg h)

theorem Steps.execJobClear {c : Cmd} {rr : ResetReads} (h : Keeps L s u) :
    Steps L s (execJobClear c rr u) :=
  .next (.selkan h fun h => .resetsDone (.forEach (.forEach (.freeJob (.setAux h)) fun h => .enterReset h) fun h => (by split; exacts [.finishReset h, h])))

theorem Steps.execLoadImage {c : Cmd} (h : Keeps L s u) :
    Steps L s (execLoadImage c u) := .next (.selkan h fun h => (by split; exacts [.done (.loadImage h), .done h]))

theorem Steps.execUnloadImage {c : Cmd} (h : Keeps L s u) :
    Steps L s (execUnloadImage c u) := .next (.selkan h fun h => (by split; exacts [.done (.rest (.freeGuards h)), .done h]))

theorem Steps.execLaunch {c : Cmd} (h : Keeps L s u) : Steps L s (execLaunch c u) := .next (.selkan h fun h => .rest h)

theorem Keeps.copyArgs {l : Launch} (h : Keeps L s u) : Keeps L s (u.copyArgs l) := by
  unfold State.copyArgs
  exact .ite h (.forEach (.when h fun h => .consume h) fun h => .write (fun w => MemsWf.writeSram w) h)

theorem Keeps.beginRegion {im : Image} {r : Nat} (h : Keeps L s u) :
    Keeps L s (u.beginRegion im r) := .setRegion (.forEach (.modReg h) fun h => .modBlk h)

theorem Keeps.beginThreads {l : Launch} {e : EntryPoint} (h : Keeps L s u) : Keeps L s (u.beginThreads l e) := .forEach h fun h => .modThr h

theorem Keeps.beginLaunch {l : Launch} {im : Image} (h : Keeps L s u) :
    Keeps L s (u.beginLaunch l im) :=
  .forEach (.forEach (.forEach (.modLaunch (.copyArgs h)) fun h => .modGuard h) fun h => .beginRegion h) fun h => .beginThreads h

theorem Steps.execLaunchStart (h : Keeps L s u) : Steps L s (execLaunchStart u) := .next (by
    split
    · exact .ite (.done (.dropLaunch h)) (by split; exacts [.ite (.beginLaunch h) h, h])
    · exact h)

theorem Steps.execLaunchComplete {n : Nat} (h : Keeps L s u) : Steps L s (execLaunchComplete n u) := .next (by
    split
    · exact .ite (.done (.forEach (.dropLaunch (by split; exacts [.forEach h fun h => .modGuard h, h])) fun h => .setRegion h)) h
    · exact h)

theorem Steps.execDeadlineExpiry {q : Queue} {seq : BitVec 32} (h : Keeps L s u) : Steps L s (execDeadlineExpiry q seq u) := .next (by
    split
    · exact .ite (.done (.dropLaunch h)) h
    · exact (by split; exacts [.when h fun h => .dropInval h, h]))

theorem Steps.execJobAbort {c : Cmd} (h : Keeps L s u) : Steps L s (execJobAbort c u) := .next (.selkan h fun h => .ite (.done h) (.stamp h))
theorem Keeps.faultThreads {r : Nat} (h : Keeps L s u) : Keeps L s (u.faultThreads r) := .forEach h fun h => .park h

theorem Steps.execJobFault (h : Keeps L s u) :
    Steps L s (execJobFault u) := .next (.ite (.when (.forEach (.rest h) fun h => .faultThreads (.setRegion h)) fun h => .stopTable h) h)

theorem Keeps.abandonSlots (h : Keeps L s u) : Keeps L s u.abandonSlots := .rest (.forEach h fun h => .modBlk h)

theorem Steps.execJobFaultDrainEnd (h : Keeps L s u) : Steps L s (execJobFaultDrainEnd u) := .next (by
    split
    · exact .ite (.endLops (.rest (.forEach (.makeRec (.rest (.abandonSlots h))) fun h => .done h))) h
    · exact h)

theorem Keeps.modSrc {src t : Nat} {f : SrcAt → SrcAt} (h : Keeps L s u) : Keeps L s (u.modSrc src t f) := .rest h
theorem Keeps.endService {h' : Port} (h : Keeps L s u) : Keeps L s (u.endService h') := .forEach h fun h => .modSrc h
theorem Keeps.putRecord {n : Nat} {bs : List Byte} (h : Keeps L s u) : Keeps L s (u.putRecord n bs) := .write (fun w => MemsWf.writeRing w) h
theorem Keeps.modTarget {t : Nat} {f : TargetSt → TargetSt} (h : Keeps L s u) : Keeps L s (u.modTarget t f) := .rest h
theorem Keeps.delivered {src t : Nat} {served : List Byte} (h : Keeps L s u) : Keeps L s (u.delivered src t served) := .modTarget (.modSrc h)
theorem Keeps.hostWait {t : Nat} (h : Keeps L s u) : Keeps L s (u.hostWait t) := .modTarget (.when h fun h => .bump h)

theorem Steps.execEventFire {src : Source} {code index : Nat} {value : BitVec 64} (h : Keeps L s u) :
    Steps L s (execEventFire src code index value u) := .next (.when h fun h => .fire h)

theorem Keeps.deliverHost {h' : Port} (h : Keeps L s u) : Keeps L s (u.deliverHost h') := by
  unfold State.deliverHost
  extract_lets
  split
  · exact (by split; exacts [.ite (.delivered (.putRecord h)) (.hostWait h), .hostWait h])
  · exact h

theorem Keeps.deliverSpindle {d : IoDie} (h : Keeps L s u) :
    Keeps L s (u.deliverSpindle d) := .ite (by split; exacts [.delivered h, (by split; exacts [.modSrc h, h])]) h

theorem Steps.execEventDeliver {t : Target} (h : Keeps L s u) :
    Steps L s (execEventDeliver t u) := .next (.ite h (.ite (.deliverSpindle h) (.ite (.deliverSpindle h) (.ite (.deliverHost h) (.deliverHost h)))))

theorem Steps.execHostEos {p : Port} {value : BitVec 64} (h : Keeps L s u) :
    Steps L s (execHostEos p value u) := .next (.ite h (.ite (.modSrc h) (.bump h)))

theorem Steps.execLineGlitch {l : ExtLine} (h : Keeps L s u) : Steps L s (execLineGlitch l u) := .next (.when h fun h => .rest h)

theorem Keeps.refuseAccess {p : Port} {kind : Nat} {write : Bool} {offset : Nat} {doorbell : Bool} (h : Keeps L s u) :
    Keeps L s (u.refuseAccess p kind write offset doorbell) := .rest (.bump h)

theorem Keeps.loseEntries {n : Nat} (h : Keeps L s u) : Keeps L s (u.loseEntries n) := .rest h
theorem Keeps.eventQueueGone {n : Nat} (h : Keeps L s u) : Keeps L s (u.eventQueueGone n) := .when h fun h => .endService h
theorem Keeps.queueError {n : Nat} {cause : QCause} (h : Keeps L s u) : Keeps L s (u.queueError n cause) := .fire (.modQueue (.eventQueueGone h))
theorem Keeps.freeQueue {n : Nat} (h : Keeps L s u) : Keeps L s (u.freeQueue n) := .rest (.eventQueueGone h)

theorem Keeps.takeEntries {n : Nat} {stamp : Lea} (h : Keeps L s u) :
    Keeps L s (u.takeEntries n stamp) := .ite h (.ite (.queueError h) (.rest (.modQueue h)))

theorem Keeps.doorbell {p : Port} {n : Nat} {kinds : List QKind} {act : QueueSt → State → State} (h : Keeps L s u) (hact : ∀ {x} {u}, Keeps L s u →
    Keeps L s (act x u)) :
    Keeps L s (u.doorbell p n kinds act) := .ite h (.ite (.refuseAccess h) (.ite (hact h) h))

theorem Keeps.badDoorbell {p : Port} {n : Nat} (h : Keeps L s u) : Keeps L s (u.badDoorbell p n) := .queueError (.bump h)

theorem Steps.execCommandDoorbell {p : Port} {q : Queue} {index : BitVec 32} (h : Keeps L s u) :
    Steps L s (execCommandDoorbell p q index u) :=
  .next (.doorbell h fun h => .ite (.badDoorbell h) (.ite (.modPort (.modQueue h)) (.takeEntries (.modQueue h))))

theorem Steps.execDataMoverDoorbell {p : Port} {q : Queue} {index : BitVec 32} (h : Keeps L s u) :
    Steps L s (execDataMoverDoorbell p q index u) := .next (.doorbell h fun h => .ite (.badDoorbell h) (.modQueue h))

theorem Keeps.drainHeld {n k : Nat} (h : Keeps L s u) : Keeps L s (u.drainHeld n k) := by
  induction k generalizing u with
  | zero => exact h
  | succ k ih =>
    rw [State.drainHeld]
    split
    · exact .ite (ih (.write (fun w => MemsWf.writeRing w) h)) h
    · exact h

theorem Keeps.rearm {n : Nat} {unread : Bool} (h : Keeps L s u) : Keeps L s (u.rearm n unread) := .ite h (.ite (.modPort (.modQueue h)) (.modQueue h))

theorem Steps.execHeadDoorbell {p : Port} {q : Queue} {index : BitVec 32} (h : Keeps L s u) :
    Steps L s (execHeadDoorbell p q index u) := .next (.doorbell h fun h => .ite (.badDoorbell h) (.rearm (.drainHeld (.modQueue h))))

theorem Keeps.flushDoorbells (h : Keeps L s u) :
    Keeps L s u.flushDoorbells := .modPort (.forEach (.modPort (.forEach h fun h => .takeEntries h)) fun h => .takeEntries h)

theorem Steps.execDistaffHeartbeat {d : IoDie} (h : Keeps L s u) : Steps L s (execDistaffHeartbeat d u) := .next (.when h fun h => .rest h)

theorem Steps.execPeerStampReceive {d : IoDie} {t : BitVec 64} (h : Keeps L s u) :
    Steps L s (execPeerStampReceive d t u) := .next (.when h fun h => .rest h)

theorem Keeps.release {e : Stamped} (h : Keeps L s u) : Keeps L s (u.release e) := .ite (.rest (.rest h)) (.selkan (.rest h) fun h => h)

theorem Steps.execCommandRelease {d : IoDie} (h : Keeps L s u) :
    Steps L s (execCommandRelease d u) := .next (.ite (.forEach (.rest h) fun h => .release h) h)

theorem Keeps.setRing {k : Nat} {w : Word} (h : Keeps L s u) : Keeps L s (u.setRing k w) := .rest h

theorem Keeps.ringWrite {p : Port} {k : Fin 4} {w : Word} {ok : Bool} {act : State → State} (h : Keeps L s u) (hact : ∀ {u}, Keeps L s u → Keeps L
    s (act u)) :
    Keeps L s (u.ringWrite p k w ok act) := .ite h (.ite (.refuseAccess h) (.ite (.refuseAccess h) (hact h)))

theorem Steps.execAdminRingEnable {p : Port} {k : Fin 4} {value : BitVec 64} (h : Keeps L s u) :
    Steps L s (execAdminRingEnable p k value u) := .next (.ite h (.ringWrite h fun h => .ite (.setRing h) (.rest (.setRing h))))

theorem Steps.execAdminRingDisable {p : Port} {k : Fin 4} {value : BitVec 64} (h : Keeps L s u) :
    Steps L s (execAdminRingDisable p k value u) := .next (.ite h (.ringWrite h fun h => .when (.setRing h) fun h => .modQueue h))

theorem Steps.execQueueDrained {q : Queue} (h : Keeps L s u) :
    Steps L s (execQueueDrained q u) := .next (.ite (by extract_lets; split; exacts [.done (.freeQueue h), .freeQueue h]) h)

theorem Steps.execQueueCreate {c : Cmd} (h : Keeps L s u) :
    Steps L s (execQueueCreate c u) := .next (.selkan h fun h => (by split; exacts [.done (.rest h), .done h]))

theorem Steps.execQueueDelete {c : Cmd} (h : Keeps L s u) :
    Steps L s (execQueueDelete c u) := .next (.selkan h fun h => .modQueue (.eventQueueGone (.setAux h)))

theorem Steps.execHostRoWrite {p : Port} {offset : Nat} {foreign : Bool} (h : Keeps L s u) :
    Steps L s (execHostRoWrite p offset foreign u) := .next (.ite (by split; exacts [.ite h (.refuseAccess h), .ite (.refuseAccess h) h]) h)

theorem Steps.execBadShapeAccess {p : Port} {offset : Nat} {write : Bool} (h : Keeps L s u) :
    Steps L s (execBadShapeAccess p offset write u) := .next (.ite (.refuseAccess h) h)

theorem Steps.execBar2BaseWrite {p target : Port} {value : BitVec 64} (h : Keeps L s u) :
    Steps L s (execBar2BaseWrite p target value u) := .next (.ite h (.ite (.refuseAccess h) (.ite (.refuseAccess h) (.modPort h))))

theorem Steps.execMsixTableWrite {p : Port} {offset size : Nat} {write : Bool} {value : BitVec 64} (h : Keeps L s u) :
    Steps L s (execMsixTableWrite p offset size write value u) := .next (.ite h (.ite (.refuseAccess h) (.ite (.modPort h) h)))

theorem Keeps.devWrite {x : DevPlace} {bs : List Byte} (h : Keeps L s u) : Keeps L s (u.devWrite x bs) := by
  unfold State.devWrite
  split
  · exact .write (fun w => MemsWf.storeHbm w) h
  · exact .write (fun w => MemsWf.writeSram w) h
  · exact h

theorem Steps.execBar2Read {p : Port} {offset len : Nat} (h : Keeps L s u) :
    Steps L s (execBar2Read p offset len u) := .next (.ite (by split; exacts [.refuseAccess h, .when h fun h => .bump h]) h)

theorem Steps.execBar2Write {p : Port} {offset : Nat} {data : List (Option Byte)} {ep : Bool} (h : Keeps L s u) :
    Steps L s (execBar2Write p offset data ep u) := .next (.ite (.ite (.bump h) (by
    split
    · exact .forEach h fun h => .devWrite h
    · exact .ite (.devWrite h) (.refuseAccess h)
    · exact .refuseAccess h)) h)

theorem Steps.execBar4Access {p : Port} {offset len : Nat} {data : Option (List Byte)} (h : Keeps L s u) :
    Steps L s (execBar4Access p offset len data u) :=
  .next (.ite (.ite (by split; exacts [.write (fun w => MemsWf.bar4 w) h, h]) (.refuseAccess h)) h)

theorem Keeps.moverDone {t : Transfer} {st : Status} {res : BitVec 128} (h : Keeps L s u) : Keeps L s (u.moverDone t st res) := .ite h (.postOne h)

theorem Keeps.move {m : Move} {toDevice : Bool} (h : Keeps L s u) :
    Keeps L s (u.move m toDevice) := .ite h (.ite (.queueError h) (.ite h (.ite (.queueError (.moverDone (.modQueue h))) (.rest (.modQueue h)))))

theorem Steps.execToDevice {m : Move} (h : Keeps L s u) : Steps L s (execToDevice m u) := .next (.move h)
theorem Steps.execFromDevice {m : Move} (h : Keeps L s u) : Steps L s (execFromDevice m u) := .next (.move h)
theorem Keeps.moveIn {t : Transfer} (h : Keeps L s u) : Keeps L s (u.moveIn t) := .moverDone (.devWrite h)

theorem Keeps.moveOut {t : Transfer} (h : Keeps L s u) : Keeps L s (u.moveOut t) := by
  unfold State.moveOut
  extract_lets x bad s1
  have h1 : Keeps L s s1 := .write (fun w => MemsWf.writeHost w) h
  clear_value s1 bad
  split
  · exact .moverDone h1
  · exact .moverDone (.bump h1)

theorem Steps.execDataMoveComplete {q : Queue} {seq : BitVec 32} (h : Keeps L s u) :
    Steps L s (execDataMoveComplete q seq u) := .next (by split; exacts [.ite (.rest h) (.ite (.moveIn (.rest h)) (.moveOut (.rest h))), h])

theorem Keeps.stopStreams {p : Port} (h : Keeps L s u) : Keeps L s (u.stopStreams p) := .forEach h fun h => .rest h
theorem Keeps.queuesDown {p : Port} (h : Keeps L s u) : Keeps L s (u.queuesDown p) := .forEach h fun h => .modQueue (.queueError (.loseEntries h))

theorem Steps.execHostLinkDown {p : Port} (h : Keeps L s u) :
    Steps L s (execHostLinkDown p u) := .next (.ite (.stopStreams (.queuesDown (.modPort h))) h)

theorem Keeps.portReset {p : Port} (h : Keeps L s u) :
    Keeps L s (u.portReset p) := .rest (.modPort (.endService (.forEach h fun h => .freeQueue (.loseEntries h))))

theorem Steps.execPerstAssert {p : Port} (h : Keeps L s u) :
    Steps L s (execPerstAssert p u) := .next (.ite h (.stopStreams (.portReset (.modPort h))))

theorem Steps.execPerstRelease {p : Port} (h : Keeps L s u) : Steps L s (execPerstRelease p u) := .next (.modPort h)
theorem Steps.execHostLinkUp {p : Port} (h : Keeps L s u) : Steps L s (execHostLinkUp p u) := .next (.ite (.modPort h) h)
theorem Keeps.enterPort {p : Nat} {st : PState} {f : RPortSt → RPortSt} (h : Keeps L s u) : Keeps L s (u.enterPort p st f) := .fire (.modRp h)

theorem Keeps.reinjectPkt {p : Nat} {k : Pkt} (h : Keeps L s u) : Keeps L s (u.reinjectPkt p k) := by
  unfold State.reinjectPkt
  extract_lets
  split
  · exact .ite (.bump (.rest h)) (.enqueue (.bump (.rest h)))
  · exact .bump (.rest h)

theorem Keeps.reinject {p : Nat} (h : Keeps L s u) : Keeps L s (u.reinject p) := .forEach (.modRp h) fun h => .reinjectPkt h
theorem Keeps.portDown {p cause : Nat} (h : Keeps L s u) : Keeps L s (u.portDown p cause) := .reinject (.bump (.enterPort h))
theorem Keeps.train {p : Nat} (h : Keeps L s u) : Keeps L s (u.train p) := .enterPort h

theorem Steps.execLaneFail {p : RPort} {lane : Fin 8} (h : Keeps L s u) : Steps L s (execLaneFail p lane u) := .next (.ite h (by
    split
    · exact .ite (.modRp h) (.ite (.portDown (.modRp h)) (.bump (.enterPort (.modRp h))))
    · exact .ite (.train (.modRp h)) (.modRp h)
    · exact .ite (.train (.modRp h)) (.modRp h)
    · exact h))

theorem Steps.execNarrowDone {p : RPort} {ok : Bool} (h : Keeps L s u) :
    Steps L s (execNarrowDone p ok u) := .next (.ite h (by split; exacts [.modRp (.enterPort h), .portDown h]))

theorem Steps.execPortDown {p : RPort} {cause : Nat} (h : Keeps L s u) : Steps L s (execPortDown p cause u) := .next (.when h fun h => .portDown h)
theorem Steps.execCreditTimeout {p : RPort} {v : Vc} (h : Keeps L s u) : Steps L s (execCreditTimeout p v u) := .next (.when h fun h => .portDown h)
theorem Steps.execAckTimeout {p : RPort} (h : Keeps L s u) : Steps L s (execAckTimeout p u) := .next (.when h fun h => .portDown h)
theorem Keeps.endRetrain {p width : Nat} {st : Status} (h : Keeps L s u) : Keeps L s (u.endRetrain p width st) := .endLops h
theorem Steps.execSeekBurst {p : RPort} (h : Keeps L s u) : Steps L s (execSeekBurst p u) := .next (.when h fun h => .endRetrain h)
theorem Steps.execPartnerSignal {p : RPort} (h : Keeps L s u) : Steps L s (execPartnerSignal p u) := .next (.when h fun h => .train h)

theorem Steps.execTrainDone {p : RPort} {lanes : Option (BitVec 8)} {rtt : Nat} (h : Keeps L s u) :
    Steps L s (execTrainDone p lanes rtt u) := .next (.ite h (by
    split
    · exact .endRetrain (.prove (.enterPort h))
    · exact .ite (.endRetrain (.portDown h)) (.endRetrain (.enterPort h))))

theorem Steps.execDownHoldEnd {p : RPort} (h : Keeps L s u) : Steps L s (execDownHoldEnd p u) := .next (.when h fun h => .enterPort h)

theorem Steps.execCageModuleChange {p : RPort} {present : Bool} (h : Keeps L s u) :
    Steps L s (execCageModuleChange p present u) :=
  .next (.ite h (.ite (.ite (.enterPort (.modRp h)) (.modRp h)) (.reinject (.enterPort (.modRp h)))))

theorem Keeps.sendMgmt {p : Nat} {dst : BitVec 16} {mop : Nat} {body : List Byte} (h : Keeps L s u) :
    Keeps L s (u.sendMgmt p dst mop body) := .enqueue (.fresh h)

theorem Keeps.proofFailed {p : Nat} {counted : Bool} (h : Keeps L s u) : Keeps L s (u.proofFailed p counted) := by
  unfold State.proofFailed
  extract_lets
  split
  · exact .enterPort (.when h fun h => .bump h)
  · exact .reinject (.enterPort (.when h fun h => .bump h))
  · exact .when h fun h => .bump h

theorem Keeps.proofPassed {p : Nat} (h : Keeps L s u) : Keeps L s (u.proofPassed p) := .ite (.wakeReel (.ite (.modRp h) (.enterPort h))) h

theorem Steps.execLinkChallenge {p : RPort} {nonce : BitVec 256} {challenger : BitVec 16} (h : Keeps L s u) :
    Steps L s (execLinkChallenge p nonce challenger u) := .next (.when h fun h => .sendMgmt h)

theorem Steps.execLinkResponse {p : RPort} {node : BitVec 16} {port : Nat} {key : BitVec 256} {sigOk : Bool} (h : Keeps L s u) :
    Steps L s (execLinkResponse p node port key sigOk u) :=
  .next (.when h fun h => .ite (.proofPassed (.sendMgmt (.modRp (.when h fun h => .fire (.bump h))))) (.proofFailed (.sendMgmt (.modRp (.when h fun
      h => .fire (.bump h))))))

theorem Steps.execLinkVerdict {p : RPort} {accepted : Bool} (h : Keeps L s u) :
    Steps L s (execLinkVerdict p accepted u) := .next (.when h fun h => .ite (.proofPassed (.modRp h)) (.proofFailed h))

theorem Steps.execProveTimeout {p : RPort} (h : Keeps L s u) :
    Steps L s (execProveTimeout p u) := .next (by split; exacts [.when h fun h => .proofFailed h, h])

theorem Steps.execQuarantineRetry {p : RPort} (h : Keeps L s u) : Steps L s (execQuarantineRetry p u) := .next (.when h fun h => .prove h)

theorem Keeps.setPort {p : Nat} {on gateway : Bool} (h : Keeps L s u) :
    Keeps L s (u.setPort p on gateway) :=
  .ite (.ite (.enterPort (.modRp h)) (.modRp h)) (.ite (.modRp h) (.enterPort (.ite (.modRp h) (.portDown (.modRp h)))))

theorem Keeps.resume (h : Keeps L s u) : Keeps L s u.resume := .unpark (.wakeInval (.wakeReel (.rest h)))

theorem Keeps.drainAct {d : Drain} {ns : Nat} (h : Keeps L s u) : Keeps L s (u.drainAct d ns) := by
  unfold State.drainAct
  split
  · exact .done (.rest h)
  · exact .applyNow h
  · exact .done (.setPort h)
  · exact h

theorem Keeps.tryDrain (h : Keeps L s u) : Keeps L s u.tryDrain := by
  unfold State.tryDrain
  split
  · exact .ite (.resume (.fire (.drainAct (.rest h)))) h
  · exact h

theorem Keeps.startDrain {what : Nat} {c : Cmd} {aux : Nat} (h : Keeps L s u) : Keeps L s (u.startDrain what c aux) := .tryDrain (.rest h)

theorem Steps.execDrainTimeout (h : Keeps L s u) : Steps L s (execDrainTimeout u) := .next (by
    split
    · exact .ite (.resume (.fire (by
        split
        · exact .done (.ite (.rest (.rest (.bump (.forEach h fun h => .modRp h)))) (.rest (.bump (.forEach h fun h => .modRp h))))
        · exact .ite (.rest (.rest (.bump (.forEach h fun h => .modRp h)))) (.rest (.bump (.forEach h fun h => .modRp h)))))) h
    · exact h)

theorem Keeps.rollWindow {p : Nat} (h : Keeps L s u) : Keeps L s (u.rollWindow p) := .modRp h

theorem Steps.execLinkFlit {p : RPort} {f : LFlit} {crcOk : Bool} (h : Keeps L s u) :
    Steps L s (execLinkFlit p f crcOk u) :=
  .next (.ite h (.ite (.modRp (.modRp (.rollWindow h))) (.tryDrain (.when (.modRp (.modRp (.rollWindow h))) fun h => .bump h))))

theorem Keeps.noteAsk {src : BitVec 16} (h : Keeps L s u) : Keeps L s (u.noteAsk src) := .rest h

theorem Steps.execCmapReq {p : RPort} {src : BitVec 16} {first count : Nat} (h : Keeps L s u) :
    Steps L s (execCmapReq p src first count u) := .next (.when h fun h => .ite (.bump h) (.forEach (.noteAsk h) fun h => .sendMgmt h))

theorem Steps.execPortReq {p : RPort} {src : BitVec 16} (h : Keeps L s u) :
    Steps L s (execPortReq p src u) := .next (.when h fun h => .ite (.bump h) (.sendMgmt (.noteAsk h)))

theorem Steps.execCmapSample (h : Keeps L s u) : Steps L s (execCmapSample u) := .next (.when h fun h => .rest h)
theorem Keeps.setMaster {ok : Bool} (h : Keeps L s u) : Keeps L s (u.setMaster ok) := .when (.rest h) fun h => .fire h

theorem Steps.execTimeReq (h : Keeps L s u) :
    Steps L s (execTimeReq u) := .next (.ite h (.when (by split; exacts [.sendMgmt (.rest h), .rest h]) fun h => .setMaster h))

theorem Steps.execTimeResp {src : BitVec 16} {t1 t2 : BitVec 64} {t3 t4 : BitVec 64} {corr : ℤ} (h : Keeps L s u) :
    Steps L s (execTimeResp src t1 t2 t3 t4 corr u) := .next (.ite (.setMaster (.rest h)) h)

theorem Steps.execTimeReqAnswer {p : RPort} {src : BitVec 16} {t1 t2 t3 : BitVec 64} (h : Keeps L s u) :
    Steps L s (execTimeReqAnswer p src t1 t2 t3 u) := .next (.when h fun h => .sendMgmt h)

theorem Steps.execReelStatus {c : Cmd} (h : Keeps L s u) : Steps L s (execReelStatus c u) := .next (.selkan h fun h => .done h)
theorem Steps.execRouteLoad {c : Cmd} (h : Keeps L s u) : Steps L s (execRouteLoad c u) := .next (.selkan h fun h => .done (.rest h))
theorem Steps.execRouteSwap {c : Cmd} (h : Keeps L s u) : Steps L s (execRouteSwap c u) := .next (.selkan h fun h => .startDrain h)

theorem Steps.execPortSet {c : Cmd} (h : Keeps L s u) :
    Steps L s (execPortSet c u) := .next (.selkan h fun h => .ite (.startDrain h) (.done (.setPort h)))

theorem Steps.execPortRetrain {c : Cmd} (h : Keeps L s u) :
    Steps L s (execPortRetrain c u) := .next (.selkan h fun h => .ite (.modRp (.modRp (.setAux h))) (.modRp (.portDown (.modRp (.setAux h)))))

theorem Keeps.modSp {d : IoDie} {f : Spindle → Spindle} (h : Keeps L s u) : Keeps L s (u.modSp d f) := .rest h
theorem Keeps.letGo {d : IoDie} {check : Nat} {planned : Bool} (h : Keeps L s u) : Keeps L s (u.letGo d check planned) := .ite (.rest h) h
theorem Keeps.gate {d : IoDie} {ws : List (Word × Word)} (h : Keeps L s u) : Keeps L s (u.gate d ws) := .rest h
theorem Keeps.selfCheckFails {d : IoDie} {check : Nat} (h : Keeps L s u) : Keeps L s (u.selfCheckFails d check) := .modSp (.gate (.letGo (.bump h)))

theorem Steps.execSpindleSelfcheckFail {d : IoDie} {check : Nat} (h : Keeps L s u) :
    Steps L s (execSpindleSelfcheckFail d check u) := .next (by split; exacts [.selfCheckFails h, .selfCheckFails h, .selfCheckFails h, h])

theorem Steps.execDigestExchange {a b : StepWrites} (h : Keeps L s u) :
    Steps L s (execDigestExchange a b u) := .next (.ite (.ite (.gate h) (.rest (.gate (.fire (.bump h))))) h)

theorem Keeps.heldHead (h : Keeps L s u) : Keeps L s u.heldHead := by
  unfold State.heldHead
  split
  · exact .ite (.take h) (.done (.take h))
  · exact h

theorem Keeps.digestHeld (h : Keeps L s u) : Keeps L s u.digestHeld := .enterHeld (.rest (.heldHead h))

theorem Steps.execSelfCheckDone {failA failB : Bool} (h : Keeps L s u) : Steps L s (execSelfCheckDone failA failB u) := .next (.ite h (by
    split
    · exact .digestHeld (.rest h)
    · exact .selfCheckFails (.rest h)
    · exact .selfCheckFails (.rest h)
    · exact .digestHeld (.modSp (.bump (.selfCheckFails (.rest h))))))

theorem Keeps.takeClaim {d : IoDie} (h : Keeps L s u) : Keeps L s (u.takeClaim d) := .rest (.modSp h)

theorem Keeps.repeatRecord {src : Nat} {h' : Port} (h : Keeps L s u) : Keeps L s (u.repeatRecord src h') := by
  unfold State.repeatRecord
  extract_lets
  split
  · exact .when h fun h => .putRecord h
  · exact h

theorem Keeps.takeOver {d : IoDie} {t0 : Lea} {check : Nat} {planned : Bool} {unproven : List Nat} (h : Keeps L s u) :
    Keeps L s (u.takeOver d t0 check planned unproven) :=
  .forEach (.fire (.bump (.rest (.takeClaim (.rest h))))) fun h => .repeatRecord (.repeatRecord h)

theorem Steps.execClaimReleased {unproven : List Source} (h : Keeps L s u) :
    Steps L s (execClaimReleased unproven u) := .next (by split; exacts [.ite h (.ite (.takeOver h) (.enterHeld (.rest h))), h])

theorem Keeps.catchup {d : IoDie} (h : Keeps L s u) : Keeps L s (u.catchup d) := .modSp h
theorem Steps.execSpindleBootTimeout {d : IoDie} (h : Keeps L s u) : Steps L s (execSpindleBootTimeout d u) := .next (.ite (.modSp h) h)
theorem Steps.execCatchupTimeout {d : IoDie} (h : Keeps L s u) : Steps L s (execCatchupTimeout d u) := .next (.ite (.modSp h) h)

theorem Keeps.endSpReset {d : IoDie} (h : Keeps L s u) : Keeps L s (u.endSpReset d) := by
  unfold State.endSpReset
  split
  · exact .done h
  · exact h

theorem Steps.execMirrorRejoin {d : IoDie} (h : Keeps L s u) :
    Steps L s (execMirrorRejoin d u) := .next (.ite (.endSpReset (.fire (.bump (.rest (.modSp h))))) h)

/-- One Spindle's reset whose time is over ends with TIMEOUT. -/
theorem Steps.execSpindleResetTimeout (h : Keeps L s u) : Steps L s (execSpindleResetTimeout u) := by
  unfold Machine.execSpindleResetTimeout
  extract_lets go
  have hg {d : IoDie} {t : State} (h : Keeps L s t) : Keeps L s (go d t) := by
    dsimp only [go]
    split
    · exact .when h fun h => .done h
    · exact h
  exact .next (hg (hg h))

theorem Keeps.resetSpindle {d : IoDie} (h : Keeps L s u) : Keeps L s (u.resetSpindle d) := .modSp (.letGo h)
theorem Keeps.outOfStep (h : Keeps L s u) : Keeps L s u.outOfStep := .ite h (.forEach h fun h => .catchup h)
theorem Keeps.linkDown (h : Keeps L s u) : Keeps L s u.linkDown := .when h fun h => .stamp (.outOfStep (.fire (.bump (.rest h))))

theorem Keeps.linkAt {w : Nat} {e : LinkEnds} (h : Keeps L s u) : Keeps L s (u.linkAt w e) := by
  unfold State.linkAt
  exact .when (.rest h) fun h => .forEach h fun h => .catchup h

theorem Keeps.linkTrained {e : LinkEnds} (h : Keeps L s u) :
    Keeps L s (u.linkTrained e) := .ite (.linkDown h) (.when (.linkAt h) fun h => .fire (.commit (.rest h)))

theorem Steps.execIolinkDown (h : Keeps L s u) : Steps L s (execIolinkDown u) := .next (.linkDown h)
theorem Steps.execIolinkUp {e : LinkEnds} (h : Keeps L s u) : Steps L s (execIolinkUp e u) := .next (.when h fun h => .linkTrained h)
theorem Keeps.portsLost {d : IoDie} (h : Keeps L s u) : Keeps L s (u.portsLost d) := .forEach h fun h => .modRp h

theorem Steps.execIodieLost {d : IoDie} (h : Keeps L s u) :
    Steps L s (execIodieLost d u) :=
  .next (.ite h (.stamp (.fence (.portsLost (.forEach (.stopStreams (.queuesDown (.modPort (.rest (.modSp (.letGo h)))))) fun h => .queueError h)))))

theorem Keeps.portsBack {d : IoDie} (h : Keeps L s u) : Keeps L s (u.portsBack d) := .forEach h fun h => .enterPort h

theorem Steps.execIodieReturn {d : IoDie} {e : LinkEnds} (h : Keeps L s u) :
    Steps L s (execIodieReturn d e u) := .next (.ite h (.portsBack (.unfence (.linkTrained (.modSp (.portReset (.rest h)))))))

theorem Steps.execCalStatus {c : Cmd} (h : Keeps L s u) : Steps L s (execCalStatus c u) := .next (.selkan h fun h => .done h)

theorem Steps.execCalSave {c : Cmd} {w : HostWr} (h : Keeps L s u) :
    Steps L s (execCalSave c w u) := .next (.selkan h fun h => .writeHostOut (.rest h) fun h => h)

theorem Keeps.restored {img : List Byte} {misses : Nat} (h : Keeps L s u) : Keeps L s (u.restored img misses) := .forEach (.rest h) fun h => .bump h

theorem Steps.execCalRestore {c : Cmd} {snap : SnapRead} (h : Keeps L s u) :
    Steps L s (execCalRestore c snap u) := .next (.selkan h fun h => .done (.restored h))

theorem Keeps.compareGaps {uv : List Nat} (h : Keeps L s u) : Keeps L s (u.compareGaps uv) := .forEach (.rest h) fun h => .fire h
theorem Steps.execBandgapCompare {uv : List Nat} (h : Keeps L s u) : Steps L s (execBandgapCompare uv u) := .next (.ite (.compareGaps h) h)
theorem Steps.execAgeingSample {a : AgeRead} (h : Keeps L s u) : Steps L s (execAgeingSample a u) := .next (.ite (.rest h) h)
theorem Keeps.accumulate (h : Keeps L s u) : Keeps L s u.accumulate := .rest h
theorem Steps.execAgeingAccumulate (h : Keeps L s u) : Steps L s (execAgeingAccumulate u) := .next (.ite h (.ite (.accumulate h) (.rest h)))
theorem Keeps.retarget {d : Nat} (h : Keeps L s u) : Keeps L s (u.retarget d) := .forEach h fun h => .rest h

theorem Keeps.replanGuard {d : Nat} (h : Keeps L s u) :
    Keeps L s (u.replanGuard d) := .ite h (.ite (.replanned (.retarget (.rest h))) (.fire (.bump h)))

theorem Keeps.replanWidth {ok : Bool} (h : Keeps L s u) : Keeps L s (u.replanWidth ok) := .ite h (.fire (.bump (.rest h)))
theorem Keeps.replanRings (h : Keeps L s u) : Keeps L s u.replanRings := .forEach h fun h => .fire (.bump h)
theorem Keeps.summarise (h : Keeps L s u) : Keeps L s u.summarise := .replanRings (.replanWidth (.forEach (.rest h) fun h => .replanGuard h))
theorem Steps.execAgeingSummary (h : Keeps L s u) : Steps L s (execAgeingSummary u) := .next (.ite h (.ite (.summarise h) (.rest h)))
theorem Keeps.ageingWrites (h : Keeps L s u) : Keeps L s u.ageingWrites := .when (.when h fun h => .accumulate h) fun h => .summarise h

theorem Steps.execAgeingRead {c : Cmd} {w : HostWr} (h : Keeps L s u) :
    Steps L s (execAgeingRead c w u) := .next (.selkan h fun h => .writeHostOut (.rest h) fun h => h)

theorem Steps.execConfigStage {c : Cmd} {set : Settings} {sig : Bool} (h : Keeps L s u) :
    Steps L s (execConfigStage c set sig u) := .next (.selkan h fun h => .done (.rest h))

theorem Steps.execConfigApply {c : Cmd} {sig recheck : Bool} (h : Keeps L s u) :
    Steps L s (execConfigApply c sig recheck u) := .next (.selkan h fun h => .ite (.done (.rest h)) (.ite (.startDrain h) (.applyNow h)))

theorem Steps.execConfigRollback {c : Cmd} (h : Keeps L s u) :
    Steps L s (execConfigRollback c u) := .next (.selkan h fun h => .done (.when (.rest (.rollback h)) fun h => .closeWatch h))

theorem Steps.execConfigRead {c : Cmd} {w : HostWr} (h : Keeps L s u) :
    Steps L s (execConfigRead c w u) := .next (.selkan h fun h => .writeHostOut h fun h => h)

theorem Steps.execWatchWindowExpiry (h : Keeps L s u) : Steps L s (execWatchWindowExpiry u) := .next (.when h fun h => .closeWatch h)

theorem Steps.execConfigAutoRollback {code : Nat} (h : Keeps L s u) :
    Steps L s (execConfigAutoRollback code u) := .next (.when h fun h => .autoRollback h)

theorem Keeps.windowsOpen (h : Keeps L s u) : Keeps L s u.windowsOpen := by
  unfold State.windowsOpen
  refine .ite (.ageingWrites ?_) h
  have h2 : Keeps L s (u.flushRecs.when u.flushRecs.conf.writePending fun s => { s with conf := s.conf.commit }) :=
    .when (.flushRecs h) fun h => .rest h
  split
  · refine .fused (fun _ => id) (fun d => ?_) h2
    exact le_two_max d
  · exact h2

theorem Steps.execNvmWindowOpen {tempC : ℤ} {railMv : Nat} (h : Keeps L s u) :
    Steps L s (execNvmWindowOpen tempC railMv u) := .next (.ite h (.windowsOpen (.rest h)))

theorem Keeps.modStores {f : Store → Store} (h : Keeps L s u) : Keeps L s (u.modStores f) := .rest h
theorem Keeps.modFw {k : Fin 2} {f : FwSlot → FwSlot} (h : Keeps L s u) : Keeps L s (u.modFw k f) := .rest h

theorem Keeps.trialFails (h : Keeps L s u) :
    Keeps L s u.trialFails := .ite (.rest (.modStores (.modFw (.modStores (.rest h))))) (.modStores (.rest h))

theorem Keeps.versionFails (h : Keeps L s u) : Keeps L s u.versionFails := by
  unfold State.versionFails
  exact .ite (.modStores (.rest h))
    (.ite (.fire (.bump (.modStores (.rest (.modStores (.rest h))))))
      (.ite (.moves .inl (.modStores (.rest h))) (.enterHeld (.modStores (.rest h)))))

theorem Steps.execFailedBoot {held : Bool} (h : Keeps L s u) : Steps L s (execFailedBoot held u) :=
  .next (.ite h (.ite (.moves .inl h) (.ite (.trialFails (.moves .inl h)) (.versionFails (.moves .inl h)))))

theorem Keeps.cagePresent {k : Nat} {here : Bool} (h : Keeps L s u) : Keeps L s (u.cagePresent k here) := .fire (.modCage h)
theorem Keeps.cageFault {k : Nat} {on : Bool} (h : Keeps L s u) : Keeps L s (u.cageFault k on) := .fire (.modCage (.when h fun h => .bump h))

theorem Keeps.lineActs {l : Nat} {level : Bool} (h : Keeps L s u) :
    Keeps L s (u.lineActs l level) := .ite (.rest h) (.ite (.cagePresent h) (.ite (.cageFault h) h))

theorem Steps.execLineChange {l : ExtLine} {level : Bool} (h : Keeps L s u) :
    Steps L s (execLineChange l level u) := .next (.ite h (.lineActs (.fire (.rest h))))

theorem Keeps.measure {mv : Nat} (h : Keeps L s u) : Keeps L s (u.measure mv) := .rest h
theorem Keeps.raiseTo {n : Nat} (h : Keeps L s u) : Keeps L s (u.raiseTo n) := .when (.rest h) fun h => .fire (.bump h)

theorem Steps.execSagEnter {mv : Nat} (h : Keeps L s u) :
    Steps L s (execSagEnter mv u) := .next (.ite (.raiseTo (.fire (.bump (.rest (.measure h))))) h)

theorem Steps.execUpperBand {mv : Nat} (h : Keeps L s u) : Steps L s (execUpperBand mv u) := .next (.ite (.fire (.rest (.measure h))) h)

theorem Steps.execPowerWindow {watts mv amp10 : Nat} (h : Keeps L s u) :
    Steps L s (execPowerWindow watts mv amp10 u) := .next (.ite h (.ite (.raiseTo (.rest (.measure h))) (.rest (.measure h))))

theorem Steps.execPowerRelax {avg : Nat} (h : Keeps L s u) : Steps L s (execPowerRelax avg u) := .next (.ite (.rest h) h)

theorem Steps.execTerminalOvercurrent {term : Fin 2} (h : Keeps L s u) :
    Steps L s (execTerminalOvercurrent term u) := .next (.ite (.fire (.rest h)) h)

theorem Steps.execTerminalCapRelease (h : Keeps L s u) : Steps L s (execTerminalCapRelease u) := .next (.rest h)
theorem Steps.execPowerStatus {c : Cmd} (h : Keeps L s u) : Steps L s (execPowerStatus c u) := .next (.selkan h fun h => .done h)
theorem Steps.execPowerCapSet {c : Cmd} (h : Keeps L s u) : Steps L s (execPowerCapSet c u) := .next (.selkan h fun h => .done (.rest h))

theorem Keeps.powerLost (hL : L) (h : Keeps L s u) : Keeps L s u.powerLost :=
  ⟨fun w => ⟨rfl, rfl, rfl, (h.canonical w).2.2.2.1, (h.canonical w).2.2.2.2.1, rfl, rfl⟩, h.blown, h.counted, h.fixed,
    fun _ => .inr hL⟩

theorem Keeps.abandon (h : Keeps L s u) : Keeps L s u.abandon := .moves .inl h

theorem Steps.execPowerFail {cause : FailCause} {samples : List (Nat × Nat)} (hL : L) (h : Keeps L s u) :
    Steps L s (execPowerFail cause samples u) := by
  unfold Machine.execPowerFail
  cases cause with
  | low mv => exact .next (.ite (.ends hL (.unpower (.when (.abandon (.fire (.rest (.measure h)))) fun h => .makeRec h))) h)
  | pwrGood => exact .next (.ite (.ends hL (.unpower (.when (.abandon (.fire (.rest h))) fun h => .makeRec h))) h)
  | overvolt mv => exact .next (.ite (.ends hL (.unpower (.when (.abandon (.fire (.rest (.measure h)))) fun h => .makeRec h))) h)

theorem Steps.execHoldupEnd (hL : L) (h : Keeps L s u) : Steps L s (execHoldupEnd u) := .next (.ite (.rest (.powerLost hL h)) h)
theorem Steps.execSupplyOff (hL : L) (h : Keeps L s u) : Steps L s (execSupplyOff u) := .next (.ite h (.powerLost hL h))

theorem Keeps.putTemp {w : Watched} {z t : Nat} (h : Keeps L s u) : Keeps L s (u.putTemp w z t) := by
  unfold State.putTemp
  split
  · exact .modDie h
  · exact .modDie (.modDie h)
  · exact .modStk h
  · exact .modDie (.modStk h)

theorem Steps.execThermalReading {w : Watched} {tempC : Nat} (h : Keeps L s u) :
    Steps L s (execThermalReading w tempC u) :=
  .next (.ite h (.when (.when (.when (.putTemp h) fun h => .fire (.bump h)) fun h => .fire (.bump h)) fun h => .fire h))

theorem Steps.execThermalThrottleStep {d : DieIx} (h : Keeps L s u) :
    Steps L s (execThermalThrottleStep d u) := .next (.ite (.rest h) (.modDie (.rest h)))

theorem Keeps.unmanaged (h : Keeps L s u) : Keeps L s u.unmanaged := .rest (.queuesDown (.queuesDown h))

theorem Steps.execThermalShutdown (h : Keeps L s u) : Steps L s (execThermalShutdown u) := by
  unfold Machine.execThermalShutdown
  refine .next ?_
  split
  · exact .when (.moves .inl (.enterHeld (.rest (.makeRec (.rest h))))) fun h => .unmanaged h
  · exact h

theorem Keeps.poisonRow {stack l : Nat} (h : Keeps L s u) : Keeps L s (u.poisonRow stack l) :=
  .noteLines (.write (fun w => MemsWf.hbm w w.1 (Tab.wf_foldl (fun _ _ ht => Tab.wf_set _ _ ht) _ w.2.2.2.2.2.1)) h)

theorem Keeps.repair {action index : Nat} {address spareLeft : Nat} (h : Keeps L s u) :
    Keeps L s (u.repair action index address spareLeft) := .ite (.poisonRow (.modStk h)) (.ite (.modStk h) h)

theorem Keeps.enterFail {pending : Bool} {f : CardFail} (h : Keeps L s u) : Keeps L s (u.enterFail pending f) := .rest h
theorem Keeps.narrowBy {fs : List CardFail} (h : Keeps L s u) : Keeps L s (u.narrowBy fs) := .faultRings (.withdrawLoops h)

theorem Keeps.unrepairable {out : List Nat} (h : Keeps L s u) : Keeps L s (u.unrepairable out) := by
  unfold State.unrepairable
  extract_lets
  split
  · exact .enterHeld (.forEach h fun h => .setStk h)
  · exact .enterHeld (.forEach h fun h => .setStk h)

theorem Keeps.zeroRegion {r : Nat} (h : Keeps L s u) : Keeps L s (u.zeroRegion r) := by
  unfold State.zeroRegion
  generalize regionSram r = y
  obtain ⟨a, b⟩ := y
  refine .write (fun w => ?_) (.forEach h fun h => .modCel h)
  exact MemsWf.sram w (Tab.wf_clear _ _ (Tab.wf_clear _ _ w.2.1)) (Tab.wf_clear _ _ (Tab.wf_clear _ _ w.2.2.2.2.2.2))

theorem Keeps.zeroHbm (h : Keeps L s u) : Keeps L s u.zeroHbm := .write (fun w => MemsWf.hbm w rfl rfl) h
theorem Keeps.toTest {d : Nat} (h : Keeps L s u) : Keeps L s (u.toTest d) := .forEach h fun h => .setRegion h
theorem Keeps.fromTest {d : Nat} {x : ResetReads} (h : Keeps L s u) : Keeps L s (u.fromTest d x) := .forEach h fun h => .finishReset (.enterReset h)

theorem Steps.execCardingRun {c : Cmd} (h : Keeps L s u) :
    Steps L s (execCardingRun c u) := .next (.selkan h fun h => .forEach (.rest h) fun h => .toTest h)

theorem Keeps.poisonFound {fs : List CardFail} (h : Keeps L s u) :
    Keeps L s (u.poisonFound fs) := .forEach h fun h => .forEach h fun h => .bump (.lineBad h)

theorem Keeps.endPass {l : LOp} {tail : List CardFail} (h : Keeps L s u) :
    Keeps L s (u.endPass l tail) :=
  .ite (.unrepairable (.narrowBy (.rest (.forEach (.ite (.zeroHbm h) (.poisonFound h)) fun h => .enterFail h)))) (.done (.narrowBy (.rest (.forEach
      (.ite (.zeroHbm h) (.poisonFound h)) fun h => .enterFail h))))

theorem Steps.execCardingPair {d : Fin 8} {fails tail : List CardFail} {x : ResetReads} (h : Keeps L s u) :
    Steps L s (execCardingPair d fails tail x u) := .next (by
    split
    · exact .endPass h
    · exact .ite h (by
        extract_lets
        split
        · exact .endPass (.fromTest (.rest (.forEach (.forEach h fun h => .zeroRegion h) fun h => .enterFail h)))
        · exact .toTest (.fromTest (.rest (.forEach (.forEach h fun h => .zeroRegion h) fun h => .enterFail h))))
    · exact h)

theorem Steps.execCardingThermalStop {d : Fin 8} {x : ResetReads} (h : Keeps L s u) :
    Steps L s (execCardingThermalStop d x u) := .next (by split; exacts [.ite h (.done (.rest (.fromTest h))), h])

theorem Steps.execCardingResult {c : Cmd} {w : HostWr} (h : Keeps L s u) :
    Steps L s (execCardingResult c w u) := .next (.selkan h fun h => .writeHostOut h fun h => h)

theorem Keeps.bootFirmware {b : BringUp} (h : Keeps L s u) : Keeps L s (u.bootFirmware b) := by
  unfold State.bootFirmware
  extract_lets refused mark r lock
  cases lock && u.nvmOpen
  · exact .rest h
  · exact .fused (fun d _ => two_true d) (fun _ => Nat.le_refl _) h

theorem Keeps.bootLink {b : BringUp} (h : Keeps L s u) : Keeps L s (u.bootLink b) := .ite (.rest h) h

theorem Keeps.bootSpindle {b : BringUp} {d : IoDie} (h : Keeps L s u) :
    Keeps L s (u.bootSpindle b d) := .ite (.modSp h) (.ite (.selfCheckFails (.modSp h)) (.modSp (.modSp h)))

theorem Keeps.firstClaim {d : IoDie} (h : Keeps L s u) : Keeps L s (u.firstClaim d) := .ite (.catchup (.takeClaim h)) (.takeClaim h)

theorem Keeps.bootSpindles {b : BringUp} (h : Keeps L s u) :
    Keeps L s (u.bootSpindles b) := .ite (.firstClaim (.bootSpindle (.bootSpindle h))) (.bootSpindle (.bootSpindle h))

theorem Keeps.bootStores {b : BringUp} (h : Keeps L s u) : Keeps L s (u.bootStores b) := .rest h
theorem Keeps.bootConfig {b : BringUp} (h : Keeps L s u) : Keeps L s (u.bootConfig b) := .ite h (.rest h)
theorem Keeps.bootSettings (h : Keeps L s u) : Keeps L s u.bootSettings := .forEach (.rest h) fun h => .modRp h
theorem Keeps.flashNow {rs : List (IoDie × Nat × List Byte)} (h : Keeps L s u) : Keeps L s (u.flashNow rs) := .rest h

theorem Keeps.bootRecords (h : Keeps L s u) :
    Keeps L s u.bootRecords := .rest (.forEach h fun h => .ite (.fire (.bump h)) (.fire (.bump (.fire (.bump h)))))

theorem Keeps.bootRails (h : Keeps L s u) : Keeps L s u.bootRails := .rest h
theorem Keeps.stackTrained {k : Nat} {r : TrainOutcome} (h : Keeps L s u) : Keeps L s (u.stackTrained k r) := .setStk h

theorem Keeps.bootStacks {b : BringUp} (h : Keeps L s u) :
    Keeps L s (u.bootStacks b) := .forEach h fun h => .ite h (by extract_lets; split; exacts [.stackTrained (.setStk h), .setStk h])

theorem Keeps.stackHeld (h : Keeps L s u) : Keeps L s u.stackHeld := by
  unfold State.stackHeld
  split
  · exact .enterHeld h
  · exact h

/-- What goes on only while the module is BOOTING. -/
theorem Keeps.onward {f : State → State} (h : Keeps L s u) (hf : ∀ {u}, u.mod.state = .booting → Keeps L s u → Keeps L s (f u)) :
    Keeps L s (u.onward f) := by
  unfold State.onward
  split
  next hb => exact hf hb h
  · exact h

theorem Keeps.bootPlls (h : Keeps L s u) : Keeps L s u.bootPlls := .rest h

theorem Keeps.bootDies {b : BringUp} (h : Keeps L s u) : Keeps L s (u.bootDies b) := by
  unfold State.bootDies
  extract_lets s1 s2 s3 s4
  have h1 : Keeps L s s1 := .bootRecords (.flashNow h)
  split
  · exact .enterHeld h1
  · clear_value s1
    have h2 : Keeps L s s2 := .bootRails (.bootPlls (.when h1 fun h => .compareGaps h))
    have h3 : Keeps L s s3 := .forEach h2 fun h => .setRegion (.modReg h)
    have h4 : Keeps L s s4 := .forEach (.bootStacks h3) fun h => .when h fun h => .portsBack h
    clear_value s4
    exact .stackHeld (.moves .inl h4)

theorem Keeps.bootStart {b : BringUp} (h : Keeps L s u) :
    Keeps L s (u.bootStart b) :=
  .ite (.enterHeld (.rest (.bootSettings (.bootConfig (.modStores (.bootStores h)))))) (.bootDies (.bootSettings (.bootConfig (.modStores
      (.bootStores h)))))

theorem Keeps.bootCarding {b : BringUp} (h : Keeps L s u) : Keeps L s (u.bootCarding b) := by
  unfold State.bootCarding
  extract_lets
  split
  · exact .enterHeld (.rest (.forEach (.ite (.zeroHbm (.forEach (.forEach (.rest h) fun h => .toTest h) fun h => .zeroRegion h)) (.poisonFound
      (.forEach (.forEach (.rest h) fun h => .toTest h) fun h => .zeroRegion h))) fun h => .enterFail h))
  · exact .ite (.unrepairable (.forEach (.ite (.zeroHbm (.forEach (.forEach (.rest h) fun h => .toTest h) fun h => .zeroRegion h)) (.poisonFound
      (.forEach (.forEach (.rest h) fun h => .toTest h) fun h => .zeroRegion h))) fun h => .enterFail h)) (.forEach (.ite (.zeroHbm (.forEach
      (.forEach (.rest h) fun h => .toTest h) fun h => .zeroRegion h)) (.poisonFound (.forEach (.forEach (.rest h) fun h => .toTest h) fun h =>
      .zeroRegion h))) fun h => .enterFail h)

theorem Keeps.bootRepairs {b : BringUp} (h : Keeps L s u) :
    Keeps L s (u.bootRepairs b) := .rest (.foldl (.foldl h fun h => .repair h) fun h => .repair h)

theorem Keeps.coldGroup {g : Nat} (h : Keeps L s u) :
    Keeps L s (u.coldGroup g) := .ite h (.ite (.moved (.enterGrp (.arm (.bump h)))) (.enterGrp (.bump h)))

theorem Keeps.bootLight {b : BringUp} (h : Keeps L s u) :
    Keeps L s (u.bootLight b) := .rest (.forEach (.forEach (.rest h) fun h => .modCage h) fun h => .coldGroup h)

theorem Keeps.bootRings {b : BringUp} (h : Keeps L s u) :
    Keeps L s (u.bootRings b) := .forEach (.forEach (.rest h) fun h => .bump h) fun h => .bump (.modRing h)

theorem Keeps.ringsUp {b : BringUp} (h : Keeps L s u) : Keeps L s (u.ringsUp b) := .rest h

theorem Keeps.bootNarrow {fs : List CardFail} (h : Keeps L s u) :
    Keeps L s (u.bootNarrow fs) := .forEach (.forEach h fun h => .bump (.modLoop h)) fun h => .bump (.modRing h)

theorem Keeps.firstEpoch (h : Keeps L s u) : Keeps L s u.firstEpoch := .degradedEvent (.commit (.rest h))
theorem Keeps.firmwareGood (h : Keeps L s u) : Keeps L s u.firmwareGood := .rest (.when h fun h => .modStores (.modFw h))

theorem Keeps.commandReady {b : BringUp} (hb : u.mod.state = .booting) (h : Keeps L s u) : Keeps L s (u.commandReady b) := by
  unfold State.commandReady
  exact .windowsOpen (.flushDoorbells (.endReset (.when (.firmwareGood (.modStores (.moves (fun hh => by simp [hb] at hh) h))) fun h => .rest h)))

theorem Keeps.bootRegions {b : BringUp} (h : Keeps L s u) : Keeps L s (u.bootRegions b) := .forEach h fun h => .fromTest h

theorem Keeps.bootSkein {b : BringUp} (h : Keeps L s u) : Keeps L s (u.bootSkein b) :=
  .when h fun h => .onward (.bootRegions (.firstEpoch (.bootRepairs (.bootNarrow (.ringsUp h))))) fun hb h => .commandReady hb h

theorem Keeps.bootEnd {b : BringUp} (h : Keeps L s u) : Keeps L s (u.bootEnd b) :=
  .onward (.bootCarding h) fun _ h => .bootSkein (.bootRings (.bootLight h))

theorem Keeps.resumeBoot (h : Keeps L s u) : Keeps L s u.resumeBoot := by
  unfold State.resumeBoot
  split
  · exact .ite h (.ite (.bootSkein h) (.ite (.bootEnd (.ite h (.bootStart h))) (.ite h (.bootStart h))))
  · exact h

theorem Keeps.beginBoot {b : BringUp} {coldStacks : Bool} {snap : State → State} (hL : L) (h : Keeps L s u)
    (hsnap : ∀ {u}, Keeps L s u → Keeps L s (snap u)) : Keeps L s (u.beginBoot b coldStacks snap) := by
  unfold State.beginBoot
  exact .resumeBoot (.bootSpindles (hsnap (.bootFirmware (.bootLink (.moves (fun _ => .inr hL) h)))))

theorem Keeps.cageLines (h : Keeps L s u) : Keeps L s u.cageLines := .forEach h fun h => .modCage h
theorem Keeps.readLines {levels : BitVec 25} (h : Keeps L s u) : Keeps L s (u.readLines levels) := .cageLines (.modPort (.modPort (.rest h)))

theorem Keeps.coldStart {mv : Nat} {b : BringUp} (hL : L) (h : Keeps L s u) : Keeps L s (u.coldStart mv b) :=
  .beginBoot hL (.measure (.rest h)) fun h => h

theorem Steps.execSupplyOn {mv : Nat} {levels : BitVec 25} {b : BringUp} (hL : L) (h : Keeps L s u) : Steps L s (execSupplyOn mv levels b u) :=
  .next (.ite (.coldStart hL (.readLines h)) h)

theorem Steps.execFailRecover {mv : Nat} {b : BringUp} (hL : L) (h : Keeps L s u) : Steps L s (execFailRecover mv b u) :=
  .next (.ite (.coldStart hL (.cageLines (.powerLost hL h))) h)

theorem Steps.execSagExit {mv : Nat} (h : Keeps L s u) : Steps L s (execSagExit mv u) := .next (.ite (.resumeBoot (.fire (.rest (.measure h)))) h)
theorem Steps.execColdClaimB (h : Keeps L s u) : Steps L s (execColdClaimB u) := .next (by split; exacts [.ite (.resumeBoot (.firstClaim h)) h, h])

theorem Steps.execSpindleBootDone {d : IoDie} {digestOk : Bool} (h : Keeps L s u) :
    Steps L s (execSpindleBootDone d digestOk u) := .next (.ite h (.ite (.catchup (.rest h)) (.ite (.resumeBoot (.firstClaim h)) (.modSp h))))

theorem Steps.execStackTrainDone {k : Stack} {r : TrainOutcome} (h : Keeps L s u) : Steps L s (execStackTrainDone k r u) :=
  .next (.ite h (.onward (.stackHeld (.stackTrained h)) fun _ h => .resumeBoot h))

theorem Steps.execStackRepairDone {k : Stack} {ok : Bool} {rows : List Nat} {lanes : Nat} (h : Keeps L s u) :
    Steps L s (execStackRepairDone k ok rows lanes u) :=
  .next (.ite h (.ite (.stackHeld (.stackTrained h)) (.forEach (.setStk h) fun h => .repair h)))

theorem Steps.execThermalAck {c : Cmd} {b : BringUp} (hL : L) (h : Keeps L s u) : Steps L s (execThermalAck c b u) := by
  refine .next (.selkan h fun h => .ite (.done (.modStores h)) (.resumeBoot (.moves (fun _ => .inr hL) (.rest ?_))))
  exact .done (.modStores h)

theorem Keeps.moduleCleared (hL : L) (h : Keeps L s u) : Keeps L s u.moduleCleared := by
  refine ⟨fun w => ?_, h.blown, h.counted, h.fixed, fun _ => .inr hL⟩
  obtain ⟨hm, -, hb, ha, hc, hp, -⟩ := h.canonical w
  refine ⟨?_, rfl, hb, ha, hc, ?_, rfl⟩
  · unfold State.moduleCleared
    dsimp only
    split
    · exact rfl
    · exact hm
  · unfold State.moduleCleared
    dsimp only
    split
    · exact rfl
    · exact hp

theorem Keeps.resetSnap {img : Option (List Byte)} {misses : Nat} (h : Keeps L s u) : Keeps L s (u.resetSnap img misses) := by
  unfold State.resetSnap
  split
  · exact h
  · exact (by split; exacts [.restored h, .rest h])

theorem Keeps.moduleReset {c : Cmd} {b : BringUp} {snap : SnapRead} (hL : L) (h : Keeps L s u) : Keeps L s (u.moduleReset c b snap) := by
  unfold State.moduleReset
  extract_lets p a img cold s1
  have h1 : Keeps L s s1 := .moduleCleared hL h
  clear_value s1
  exact .beginBoot hL (.moves .inl h1) fun h => .resetSnap h

theorem Steps.execModuleReset {c : Cmd} {b : BringUp} {snap : SnapRead} (hL : L) (h : Keeps L s u) : Steps L s (execModuleReset c b snap u) :=
  .next (.selkan h fun h => .ite (.moduleReset hL h) (.resetSpindle (.setAux h)))

theorem Keeps.relight {g : Nat} (h : Keeps L s u) :
    Keeps L s (u.relight g) :=
  .ite h (.ite (.forEach (.enterGrp (.modCage h)) fun h => .modLight h) (.ite (.forEach (.enterGrp (.modCage h)) fun h => .modLight h) h))

theorem Keeps.relink {e : LinkEnds} (h : Keeps L s u) : Keeps L s (u.relink e) := .ite h (.ite (.linkDown h) (.rest (.linkAt h)))

theorem Keeps.tryRequal (h : Keeps L s u) : Keeps L s u.tryRequal := by
  unfold State.tryRequal
  split
  · exact .when h fun h => .endLops (.degradedEvent (.forEach (.commit (.relink (.rest (.forEach h fun h => .modLoop h)))) fun h => .fire h))
  · exact h

theorem Steps.execRequalify {c : Cmd} {lanes : LinkEnds} (h : Keeps L s u) :
    Steps L s (execRequalify c lanes u) :=
  .next (.selkan h fun h => .tryRequal (.rest (.forEach (.forEach (.forEach h fun h => .relight h) fun h => .modRing h) fun h => .modLight
      (.modLoop h))))

theorem Keeps.loopFlag {n : Nat} (h : Keeps L s u) : Keeps L s (u.loopFlag n) := .ite (.fire (.modLoop h)) h
theorem Keeps.advise {n : Nat} {hot : Bool} (h : Keeps L s u) : Keeps L s (u.advise n hot) := .loopFlag (.modLoop h)

theorem Keeps.judgeLoop {n : Nat} (h : Keeps L s u) :
    Keeps L s (u.judgeLoop n) :=
  .ite (.withdrawLoops (by split; exacts [.faultRings (.modLoop h), .modLoop h])) (.when (by split; exacts [.faultRings (.modLoop h), .modLoop h]) fun h => .advise h)

theorem Keeps.judgeTest {n : Nat} (h : Keeps L s u) :
    Keeps L s (u.judgeTest n) := .ite (.ite (.failLoops (.modLoop h)) (.ite (.failLoops (.modLoop h)) (.rest (.faultRings (.modLoop h))))) h

theorem Steps.execSkeinHealthWindow {n : Loop} {rings : List RingBer} {ue : Nat} (h : Keeps L s u) :
    Steps L s (execSkeinHealthWindow n rings ue u) := .next (by
    split
    · exact .judgeLoop (.modLoop h)
    · exact .judgeLoop (.modLoop h)
    · exact .when h fun h => .tryRequal (.judgeTest (.modLoop h))
    · exact h)

theorem Keeps.locksDone (h : Keeps L s u) : Keeps L s u.locksDone := .when (.tryRequal (.tryStart h)) fun h => .resumeBoot h
theorem Keeps.ringLocked {r : Nat} (h : Keeps L s u) : Keeps L s (u.ringLocked r) := .locksDone (.lightDemand (.rest (.modRing h)))

theorem Steps.execIdentityWindow {i : RingIx} {pilot : Option Line} (h : Keeps L s u) : Steps L s (execIdentityWindow i pilot u) := .next (.ite h (by
    split
    · exact .ite (.locksDone (.attemptFails h)) (.ite (.ringLocked h) (.modRing h))
    · exact .when h fun h => .muteRing (.bump h)
    · exact h))

theorem Steps.execResonanceHeld {i : RingIx} (h : Keeps L s u) :
    Steps L s (execResonanceHeld i u) := .next (by split; exacts [.modRing h, .modRing h, h])

theorem Steps.execLockTimeout {i : RingIx} (h : Keeps L s u) :
    Steps L s (execLockTimeout i u) := .next (by split; exacts [.locksDone (.attemptFails h), .locksDone (.attemptFails h), h])

theorem Steps.execRingMuteDone {i : RingIx} (h : Keeps L s u) : Steps L s (execRingMuteDone i u) := .next (by split; exacts [.modRing (.bump h), h])

theorem Steps.execRingRetuneDone {i : RingIx} (h : Keeps L s u) :
    Steps L s (execRingRetuneDone i u) := .next (by split; exacts [.when h fun h => .ringLocked h, .when h fun h => .ringLocked h, h])

theorem Keeps.offsetsApplied (h : Keeps L s u) : Keeps L s u.offsetsApplied := .forEach h fun h => .modRing h
theorem Keeps.modRingSlot {r lane st : Nat} {f : RingSlot → RingSlot} (h : Keeps L s u) : Keeps L s (u.modRingSlot r lane st f) := .modReg h
theorem Keeps.ride {r st : Nat} {f : Flit} (h : Keeps L s u) : Keeps L s (u.ride r st f) := .modReg (.modRingSlot h)

theorem Keeps.ringReply {f : Flit} {bad : Bool} (h : Keeps L s u) :
    Keeps L s (u.ringReply f bad) :=
  .ite (.bump h) (.ite (.ite (.modSlot h) (.ite (.landPiece (.modSlot (.modSlot h))) (.reply (.modSlot h)))) (.ite (.reply (.modSlot h)) h))

theorem Keeps.ringServe {r : Nat} {f : Flit} {bad : Bool} (h : Keeps L s u) : Keeps L s (u.ringServe r f bad) := by
  unfold State.ringServe
  extract_lets
  split
  · exact .queueFlit (.when h fun h => .sramCause h)
  · exact .ite (.ringAck (.modSlot (.putSram h))) (.putSram h)
  · exact .ringAck (.modSlot (.atomicSram h))
  · exact .ringReply h

theorem Keeps.ejectFlit {r : Nat} {f : Flit} {bad : Bool} (h : Keeps L s u) :
    Keeps L s (u.ejectFlit r f bad) := .ite (.gateTakes h) (.ite (.ringServe (.giveBack h)) (.giveBack h))

theorem Steps.execRingFlitArrival {r : Region} {f : Flit} {err : RingErr} (h : Keeps L s u) :
    Steps L s (execRingFlitArrival r f err u) :=
  .next (.when h fun h => .ite (.ringError (.modRingSlot h)) (.ejectFlit (.ringError (.modRingSlot h))))

theorem Keeps.redReach {r st : Nat} {f : Flit} (h : Keeps L s u) : Keeps L s (u.redReach r st f) := by
  unfold State.redReach
  extract_lets
  split
  · exact .modReg (.bump h)
  · exact .ite (.stamp (.giveBack h)) (.ite (.redTake (.giveBack h)) (.ite (.ride (.takeCredit (.redAdded (.giveBack h)))) (.modReg (.bump h))))

theorem Steps.execRedFlitAdd {r : Region} {stn : Fin 16} {f : Flit} {err : RingErr} (h : Keeps L s u) :
    Steps L s (execRedFlitAdd r stn f err u) := .next (.when h fun h => .ite (.ringError (.modRingSlot h)) (.redReach (.ringError (.modRingSlot h))))

theorem Keeps.redDrain {r st : Nat} (h : Keeps L s u) :
    Keeps L s (u.redDrain r st) := .forEach h fun h => (by split; exacts [.when h fun h => .redReach (.modReg h), h])

theorem Steps.execRedTimeout {b : Block} {group : Nat} (h : Keeps L s u) :
    Steps L s (execRedTimeout b group u) := .next (by split; exacts [.when h fun h => .stamp h, h])

theorem Steps.execRingCreditReturn {r : Region} {k : CreditKey} (h : Keeps L s u) :
    Steps L s (execRingCreditReturn r k u) := .next (.when h fun h => .modReg (.modRingSlot h))

theorem Keeps.reserve {r st lane : Nat} (h : Keeps L s u) : Keeps L s (u.reserve r st lane) := .modReg (.modRingSlot (.bump h))

theorem Steps.execRingRsv {r : Region} {stn : Fin 16} {ring : Fin 4} {cw : Bool} (h : Keeps L s u) :
    Steps L s (execRingRsv r stn ring cw u) := .next (.when h fun h => .reserve h)

theorem Steps.execControlMessage {r : Region} {m : CtrlMsg} {parityOk : Bool} (h : Keeps L s u) :
    Steps L s (execControlMessage r m parityOk u) := .next (by
    split
    · exact .ite (.modRingSlot h) (.ringError (.modRingSlot h))
    · exact .ite (.ringError h) (by split; exacts [.signal h, .arrive h, .when h fun h => .releaseBar h, h]))

theorem Keeps.sendCtrl {r st lane : Nat} (h : Keeps L s u) : Keeps L s (u.sendCtrl r st lane) := by
  unfold State.sendCtrl
  extract_lets
  split
  · exact .when h fun h => .when (.modReg (.modRingSlot h)) fun h => .forEach h fun h => .when h fun h => .modThr h
  · exact h

theorem Keeps.inject {r st lane : Nat} {h' : Head} {others : List Head} (h : Keeps L s u) :
    Keeps L s (u.inject r st lane h' others) := .ride (.takeCredit (.when (.modReg (by
    split
    · exact .modReg (by split; exacts [.redAdded (.giveBack h), h])
    · exact .ite (.redDone (.modReg h)) (.modReg h))) fun h => .modReg (.modRingSlot h)))

theorem Keeps.fillLane {r st lane : Nat} (h : Keeps L s u) : Keeps L s (u.fillLane r st lane) := by
  unfold State.fillLane
  extract_lets
  split
  · exact .when h fun h => .modReg h
  · exact .ite (.inject h) (.when (.modReg h) fun h => .reserve h)

theorem Keeps.fillRing {r st q : Nat} (h : Keeps L s u) : Keeps L s (u.fillRing r st q) := .ite (.fillLane h) (.fillLane (.fillLane h))

theorem Keeps.takeSlot {r lane st : Nat} (h : Keeps L s u) : Keeps L s (u.takeSlot r lane st) := by
  unfold State.takeSlot
  extract_lets x s1 s2
  have h1 : Keeps L s s1 := by
    dsimp only [s1]
    split
    · exact .when h fun h => .ite (.redReach (.modRingSlot h)) (.ejectFlit (.modRingSlot h))
    · exact h
  clear_value s1
  have h2 : Keeps L s s2 := by
    dsimp only [s2]
    split
    · exact .when h1 fun h => .modReg (.modRingSlot h)
    · exact h1
  clear_value s2
  split
  · exact .when h2 fun h => .modRingSlot h
  · exact h2

theorem Keeps.sendCredit {r lane st : Nat} (h : Keeps L s u) : Keeps L s (u.sendCredit r lane st) := by
  unfold State.sendCredit
  split
  · exact .when h fun h => .modReg (.modRingSlot h)
  · exact h

theorem Keeps.gatePass {r port : Nat} (h : Keeps L s u) : Keeps L s (u.gatePass r port) := by
  unfold State.gatePass
  extract_lets x r2 open_ s1 y
  have h1 : Keeps L s s1 := by
    dsimp only [s1]
    split
    · exact .when (.modGate h) fun h => .queueFlit h
    · exact h
  clear_value y
  clear_value s1
  split
  · exact .when h1 fun h => .giveBack (.modGate h)
  · exact h1

theorem Keeps.ringBeat {r : Nat} (h : Keeps L s u) :
    Keeps L s (u.ringBeat r) :=
  .ite h (.modReg (.forEach (.forEach (.forEach (.forEach (.forEach (.forEach h fun h => .takeSlot h) fun h => .redDrain h) fun h => .gatePass h)
      fun h => .sendCredit h) fun h => .when (.fillRing h) fun h => .sendCtrl (.sendCtrl h)) fun h => .when h fun h => .modBlk h))

theorem Steps.execSecStatus {c : Cmd} (h : Keeps L s u) : Steps L s (execSecStatus c u) := .next (.selkan h fun h => .done h)

theorem Steps.execAttest {c : Cmd} {w : HostWr} (h : Keeps L s u) :
    Steps L s (execAttest c w u) := .next (.selkan h fun h => .writeHostOut (.rest h) fun h => .bump h)

theorem Keeps.writeFw {k : Fin 2} {version : BitVec 32} {svn : Nat} (h : Keeps L s u) :
    Keeps L s (u.writeFw k version svn) := .rest (.modStores (.modFw h))

theorem Steps.execFwUpdate {c : Cmd} {sig : Bool} {fw : FwRead} (h : Keeps L s u) :
    Steps L s (execFwUpdate c sig fw u) := .next (.selkan h fun h => .done (.rest (.writeFw h)))

theorem Steps.execRecoveryImage {d : IoDie} {fw : FwRead} (h : Keeps L s u) :
    Steps L s (execRecoveryImage d fw u) := .next (.ite h (.ite (.modSp (.rest (.writeFw h))) (.rest (.modFw (.writeFw h)))))

theorem Steps.execTestLock {c : Cmd} {sig : Bool} (h : Keeps L s u) : Steps L s (execTestLock c sig u) :=
  .next (.selkan h fun h => .done (.fused (fun d => two_or d) (fun _ => Nat.le_refl _) h))

theorem Steps.execDebugMailbox {c : Cmd} (h : Keeps L s u) : Steps L s (execDebugMailbox c u) := .next (.selkan h fun h => .done (.rest h))
theorem Steps.execSmbusRequest {d : IoDie} {q : BmcReq} (h : Keeps L s u) : Steps L s (execSmbusRequest d q u) := .next (.rest h)
theorem Steps.execNop {c : Cmd} (h : Keeps L s u) : Steps L s (execNop c u) := .next (.selkan h fun h => .done h)
theorem Steps.execModuleStatus {c : Cmd} (h : Keeps L s u) : Steps L s (execModuleStatus c u) := .next (.selkan h fun h => .done h)
theorem Keeps.capture {g : Nat} (h : Keeps L s u) : Keeps L s (u.capture g) := .rest h
theorem Keeps.clearGroup {g : Nat} (h : Keeps L s u) : Keeps L s (u.clearGroup g) := .rest h

theorem Steps.execSnapshot {c : Cmd} (h : Keeps L s u) :
    Steps L s (execSnapshot c u) := .next (.selkan h fun h => .done (.forEach h fun h => .capture h))

theorem Steps.execSnapshotClear {c : Cmd} (h : Keeps L s u) :
    Steps L s (execSnapshotClear c u) := .next (.selkan h fun h => .done (.forEach h fun h => .clearGroup (.capture h)))

theorem Steps.execTelemetryStart {c : Cmd} (h : Keeps L s u) : Steps L s (execTelemetryStart c u) := .next (.selkan h fun h => .done (.rest h))
theorem Steps.execTelemetryStop {c : Cmd} (h : Keeps L s u) : Steps L s (execTelemetryStop c u) := .next (.selkan h fun h => .done (.rest h))

theorem Keeps.writeSample {x : Stream} {bs : List Byte} {offset : Nat} (h : Keeps L s u) : Keeps L s (u.writeSample x bs offset) :=
  .ite (.ite h (.storeHbm h)) (.write (fun w => MemsWf.writeHost w) h)

theorem Steps.execTelemetrySample {k : Nat} {late : Bool} (h : Keeps L s u) :
    Steps L s (execTelemetrySample k late u) := .next (.ite h (.ite (.bump (.rest h)) (.rest (.writeSample h))))

theorem Steps.execRecordRead {c : Cmd} {w : HostWr} (h : Keeps L s u) :
    Steps L s (execRecordRead c w u) := .next (.selkan h fun h => .writeHostOut (.rest h) fun h => h)

theorem Steps.execRecordClear {c : Cmd} (h : Keeps L s u) : Steps L s (execRecordClear c u) := .next (.selkan h fun h => .done (.rest h))
theorem Keeps.countIdle {r : Nat} (h : Keeps L s u) : Keeps L s (u.countIdle r) := .forEach h fun h => .when h fun h => .bump h

theorem Keeps.beatEnd {r : Nat} (h : Keeps L s u) : Keeps L s (u.beatEnd r) := by
  unfold State.beatEnd
  exact .when (.modReg (.countIdle (.ringBeat h))) fun h => .bump (.bump h)

theorem Keeps.beatsDue {r k : Nat} (h : Keeps L s u) : Keeps L s (u.beatsDue r k) := by
  induction k generalizing u with
  | zero => exact h
  | succ k ih =>
    rw [State.beatsDue]
    exact .ite (ih (.beatEnd h)) h

theorem Keeps.pace {r : Nat} (h : Keeps L s u) : Keeps L s (u.pace r) := .when h fun h => .beatsDue (.modReg h)
theorem Keeps.circuits (h : Keeps L s u) : Keeps L s u.circuits := .wakeReel (.locksDone (.waitBarrier (.offsetsApplied (.openBobs h))))
theorem Keeps.tick (h : Keeps L s u) : Keeps L s u.tick := .when h fun h => .circuits (.forEach (.rest h) fun h => .pace h)

/-! ### The step -/

/-- The commands that may leave HELD: MODULE_RESET, THERMAL_ACK and what the supply does (R352, R371, R398, R431). -/
def leavesHeld (c : Instr) : Prop :=
  (∃ k b r, c = .moduleReset k b r) ∨ (∃ k b, c = .thermalAck k b) ∨ (∃ x y, c = .powerFail x y) ∨ c = .holdupEnd ∨ c = .supplyOff ∨
    (∃ mv b, c = .failRecover mv b) ∨ ∃ mv l b, c = .supplyOn mv l b

/-- What every command of the table keeps, by the lemma of its meaning. -/
theorem Steps.exec (c : Instr) : Steps (leavesHeld c) s (exec c s) := by
  cases c with
  | nop => exact .execNop .refl
  | moduleStatus => exact .execModuleStatus .refl
  | moduleReset => exact .execModuleReset (.inl ⟨_, _, _, rfl⟩) .refl
  | queueCreate => exact .execQueueCreate .refl
  | queueDelete => exact .execQueueDelete .refl
  | configStage => exact .execConfigStage .refl
  | configApply => exact .execConfigApply .refl
  | configRollback => exact .execConfigRollback .refl
  | configRead => exact .execConfigRead .refl
  | jobOpen => exact .execJobOpen .refl
  | loadImage => exact .execLoadImage .refl
  | unloadImage => exact .execUnloadImage .refl
  | launch => exact .execLaunch .refl
  | jobClear => exact .execJobClear .refl
  | jobAbort => exact .execJobAbort .refl
  | reelRegister c =>
    show Steps _ s (Machine.execReelRegister c s)
    exact .execReelRegister .refl
  | reelDeregister => exact .execReelDeregister .refl
  | sharerGroupSet => exact .execSharerGroupSet .refl
  | mcastGroupSet => exact .execMcastGroupSet .refl
  | reelInvalidate => exact .execReelInvalidate .refl
  | reelKeyRotate => exact .execReelKeyRotate .refl
  | creelStatus => exact .execCreelStatus .refl
  | tableLoad => exact .execTableLoad .refl
  | tableUnload => exact .execTableUnload .refl
  | tableStart => exact .execTableStart .refl
  | tableStop => exact .execTableStop .refl
  | fence => exact .execFence .refl
  | unfence => exact .execUnfence .refl
  | loopWithdraw => exact .execLoopWithdraw .refl
  | requalify => exact .execRequalify .refl
  | reelStatus => exact .execReelStatus .refl
  | routeLoad => exact .execRouteLoad .refl
  | routeSwap => exact .execRouteSwap .refl
  | portSet => exact .execPortSet .refl
  | portRetrain => exact .execPortRetrain .refl
  | leaStep => exact .execLeaStep .refl
  | powerStatus => exact .execPowerStatus .refl
  | powerCapSet => exact .execPowerCapSet .refl
  | regionPark => exact .execRegionPark .refl
  | regionUnpark => exact .execRegionUnpark .refl
  | thermalAck => exact .execThermalAck (.inr (.inl ⟨_, _, rfl⟩)) .refl
  | calStatus => exact .execCalStatus .refl
  | calSave => exact .execCalSave .refl
  | calRestore => exact .execCalRestore .refl
  | ageingRead => exact .execAgeingRead .refl
  | lightCommission => exact .execLightCommission .refl
  | lightReturn => exact .execLightReturn .refl
  | secStatus => exact .execSecStatus .refl
  | attest => exact .execAttest .refl
  | fwUpdate => exact .execFwUpdate .refl
  | testLock => exact .execTestLock .refl
  | debugMailbox => exact .execDebugMailbox .refl
  | snapshot => exact .execSnapshot .refl
  | snapshotClear => exact .execSnapshotClear .refl
  | telemetryStart => exact .execTelemetryStart .refl
  | telemetryStop => exact .execTelemetryStop .refl
  | recordRead => exact .execRecordRead .refl
  | recordClear => exact .execRecordClear .refl
  | cardingRun => exact .execCardingRun .refl
  | cardingResult => exact .execCardingResult .refl
  | toDevice => exact .execToDevice .refl
  | fromDevice => exact .execFromDevice .refl
  | commandDoorbell => exact .execCommandDoorbell .refl
  | dataMoverDoorbell => exact .execDataMoverDoorbell .refl
  | headDoorbell => exact .execHeadDoorbell .refl
  | hostEos => exact .execHostEos .refl
  | adminRingEnable => exact .execAdminRingEnable .refl
  | adminRingDisable => exact .execAdminRingDisable .refl
  | bar2BaseWrite => exact .execBar2BaseWrite .refl
  | msixTableWrite => exact .execMsixTableWrite .refl
  | hostRoWrite => exact .execHostRoWrite .refl
  | badShapeAccess => exact .execBadShapeAccess .refl
  | bar2Read => exact .execBar2Read .refl
  | bar2Write => exact .execBar2Write .refl
  | bar4Access => exact .execBar4Access .refl
  | queueDrained => exact .execQueueDrained .refl
  | perstAssert => exact .execPerstAssert .refl
  | perstRelease => exact .execPerstRelease .refl
  | hostLinkDown => exact .execHostLinkDown .refl
  | distaffHeartbeat => exact .execDistaffHeartbeat .refl
  | peerStampReceive => exact .execPeerStampReceive .refl
  | commandRelease => exact .execCommandRelease .refl
  | digestExchange => exact .execDigestExchange .refl
  | selfCheckDone => exact .execSelfCheckDone .refl
  | spindleSelfcheckFail => exact .execSpindleSelfcheckFail .refl
  | claimReleased => exact .execClaimReleased .refl
  | coldClaimB => exact .execColdClaimB .refl
  | spindleBootTimeout => exact .execSpindleBootTimeout .refl
  | catchupTimeout => exact .execCatchupTimeout .refl
  | mirrorRejoin => exact .execMirrorRejoin .refl
  | iodieLost => exact .execIodieLost .refl
  | iodieReturn => exact .execIodieReturn .refl
  | iolinkDown => exact .execIolinkDown .refl
  | watchWindowExpiry => exact .execWatchWindowExpiry .refl
  | configAutoRollback => exact .execConfigAutoRollback .refl
  | nvmWindowOpen => exact .execNvmWindowOpen .refl
  | failedBoot => exact .execFailedBoot .refl
  | eventFire => exact .execEventFire .refl
  | eventDeliver => exact .execEventDeliver .refl
  | lineChange => exact .execLineChange .refl
  | lineGlitch => exact .execLineGlitch .refl
  | supplyOn => exact .execSupplyOn (.inr (.inr (.inr (.inr (.inr (.inr ⟨_, _, _, rfl⟩)))))) .refl
  | sagEnter => exact .execSagEnter .refl
  | sagExit => exact .execSagExit .refl
  | upperBand => exact .execUpperBand .refl
  | powerFail => exact .execPowerFail (.inr (.inr (.inl ⟨_, _, rfl⟩))) .refl
  | holdupEnd => exact .execHoldupEnd (.inr (.inr (.inr (.inl rfl)))) .refl
  | supplyOff => exact .execSupplyOff (.inr (.inr (.inr (.inr (.inl rfl))))) .refl
  | failRecover => exact .execFailRecover (.inr (.inr (.inr (.inr (.inr (.inl ⟨_, _, rfl⟩)))))) .refl
  | powerWindow => exact .execPowerWindow .refl
  | powerRelax => exact .execPowerRelax .refl
  | terminalOvercurrent => exact .execTerminalOvercurrent .refl
  | thermalReading => exact .execThermalReading .refl
  | thermalThrottleStep => exact .execThermalThrottleStep .refl
  | thermalShutdown => exact .execThermalShutdown .refl
  | railRampStep => exact .execRailRampStep .refl
  | bandgapCompare => exact .execBandgapCompare .refl
  | ageingSample => exact .execAgeingSample .refl
  | ageingAccumulate => exact .execAgeingAccumulate .refl
  | ageingSummary => exact .execAgeingSummary .refl
  | regionReset => exact .execRegionReset .refl
  | regionResetTimeout => exact .execRegionResetTimeout .refl
  | cardingPair => exact .execCardingPair .refl
  | cardingThermalStop => exact .execCardingThermalStop .refl
  | jobFault => exact .execJobFault .refl
  | jobFaultDrainEnd => exact .execJobFaultDrainEnd .refl
  | launchStart => exact .execLaunchStart .refl
  | launchComplete => exact .execLaunchComplete .refl
  | scalarAlu => exact .execScalarAlu .refl
  | scalarMem => exact .execScalarMem .refl
  | vectorAlu => exact .execVectorAlu .refl
  | vectorMem => exact .execVectorMem .refl
  | convert => exact .execConvert .refl
  | array => exact .execArray .refl
  | syncSignal => exact .execSyncSignal .refl
  | syncWait => exact .execSyncWait .refl
  | syncPeek => exact .execSyncPeek .refl
  | syncFence => exact .execSyncFence .refl
  | syncArrive => exact .execSyncArrive .refl
  | moduleBarrierRelease => exact .execModuleBarrierRelease .refl
  | barrierTimeout => exact .execBarrierTimeout .refl
  | desc => exact .execDesc .refl
  | atomic => exact .execAtomic .refl
  | branch => exact .execBranch .refl
  | special => exact .execSpecial .refl
  | endThread => exact .execEndThread .refl
  | threadQuantum => exact .execThreadQuantum .refl
  | slotGrant => exact .execSlotGrant .refl
  | memoryReply => exact .execMemoryReply .refl
  | seTimeout => exact .execSeTimeout .refl
  | copy => exact .execCopy .refl
  | gather => exact .execGather .refl
  | scatter => exact .execScatter .refl
  | fill => exact .execFill .refl
  | rawTx => exact .execRawTx .refl
  | rawRx => exact .execRawRx .refl
  | ringReduce => exact .execRingReduce .refl
  | plyTx => exact .execPlyTx .refl
  | descriptorComplete => exact .execDescriptorComplete .refl
  | tileIssue => exact .execTileIssue .refl
  | teaselCompare => exact .execTeaselCompare .refl
  | replayIssue => exact .execReplayIssue .refl
  | entropyHealthFail => exact .execEntropyHealthFail .refl
  | sramReadError => exact .execSramReadError .refl
  | sramCeWriteback => exact .execSramCeWriteback .refl
  | sramScrub => exact .execSramScrub .refl
  | seParity => exact .execSeParity .refl
  | schedEnd => exact .execSchedEnd .refl
  | schedIssueTile => exact .execSchedIssueTile .refl
  | schedPostDesc => exact .execSchedPostDesc .refl
  | schedSignal => exact .execSchedSignal .refl
  | schedArrive => exact .execSchedArrive .refl
  | schedStartThread => exact .execSchedStartThread .refl
  | phaseReady => exact .execPhaseReady .refl
  | ringFlitArrival => exact .execRingFlitArrival .refl
  | ringCreditReturn => exact .execRingCreditReturn .refl
  | ringRsv => exact .execRingRsv .refl
  | controlMessage => exact .execControlMessage .refl
  | redFlitAdd => exact .execRedFlitAdd .refl
  | redTimeout => exact .execRedTimeout .refl
  | droopChange => exact .execDroopChange .refl
  | droopRelease => exact .execDroopRelease .refl
  | gateHold => exact .execGateHold .refl
  | phaseCheck => exact .execPhaseCheck .refl
  | crossingRecentre => exact .execCrossingRecentre .refl
  | seamModeSwitch => exact .execSeamModeSwitch .refl
  | refAbsent => exact .execRefAbsent .refl
  | refReturn => exact .execRefReturn .refl
  | refLost => exact .execRefLost .refl
  | pllUnlock => exact .execPllUnlock .refl
  | leaCompare => exact .execLeaCompare .refl
  | timeReq => exact .execTimeReq .refl
  | timeResp => exact .execTimeResp .refl
  | frameReceive => exact .execFrameReceive .refl
  | huntTimeout => exact .execHuntTimeout .refl
  | packetReceive => exact .execPacketReceive .refl
  | nak => exact .execNak .refl
  | dark => exact .execDark .refl
  | syncNotice => exact .execSyncNotice .refl
  | darkBobbinTimeout => exact .execDarkBobbinTimeout .refl
  | rawCheckAck => exact .execRawCheckAck .refl
  | skeinHealthWindow => exact .execSkeinHealthWindow .refl
  | identityWindow => exact .execIdentityWindow .refl
  | resonanceHeld => exact .execResonanceHeld .refl
  | lockTimeout => exact .execLockTimeout .refl
  | ringMuteDone => exact .execRingMuteDone .refl
  | demandRequest => exact .execDemandRequest .refl
  | demandIdleRelease => exact .execDemandIdleRelease .refl
  | phaseDecision => exact .execPhaseDecision .refl
  | phaseBarrierTrigger => exact .execPhaseBarrierTrigger .refl
  | phaseSwitch => exact .execPhaseSwitch .refl
  | ringRetuneDone => exact .execRingRetuneDone .refl
  | plyGroupStart => exact .execPlyGroupStart .refl
  | plyTimeout => exact .execPlyTimeout .refl
  | plyWindow => exact .execPlyWindow .refl
  | plyProofMiss => exact .execPlyProofMiss .refl
  | plyResidueCheck => exact .execPlyResidueCheck .refl
  | plyRedo => exact .execPlyRedo .refl
  | plyUnderrun => exact .execPlyUnderrun .refl
  | plyConfirm => exact .execPlyConfirm .refl
  | plyTrainDone => exact .execPlyTrainDone .refl
  | plyTrainTimeout => exact .execPlyTrainTimeout .refl
  | plyCheckTimeout => exact .execPlyCheckTimeout .refl
  | plyLost => exact .execPlyLost .refl
  | lightWindow => exact .execLightWindow .refl
  | lightLost => exact .execLightLost .refl
  | sourceReady => exact .execSourceReady .refl
  | armingTimeout => exact .execArmingTimeout .refl
  | pauseOpen => exact .execPauseOpen .refl
  | handoverWaitLapse => exact .execHandoverWaitLapse .refl
  | lightTransfer => exact .execLightTransfer .refl
  | cagePoll => exact .execCagePoll .refl
  | hbmRead => exact .execHbmRead .refl
  | hbmWrite => exact .execHbmWrite .refl
  | hbmAtomic => exact .execHbmAtomic .refl
  | hbmCeWriteback => exact .execHbmCeWriteback .refl
  | hbmScrub => exact .execHbmScrub .refl
  | hbmLink => exact .execHbmLink .refl
  | stackTempRead => exact .execStackTempRead .refl
  | hotSlotFree => exact .execHotSlotFree .refl
  | journalExpire => exact .execJournalExpire .refl
  | stackTrainDone => exact .execStackTrainDone .refl
  | reelRead => exact .execReelRead .refl
  | reelWrite => exact .execReelWrite .refl
  | reelAtomic => exact .execReelAtomic .refl
  | invalidate => exact .execInvalidate .refl
  | mcastWrite => exact .execMcastWrite .refl
  | bulkWrite => exact .execBulkWrite .refl
  | bulkRead => exact .execBulkRead .refl
  | readResp => exact .execReadResp .refl
  | writeAck => exact .execWriteAck .refl
  | atomicResp => exact .execAtomicResp .refl
  | invAck => exact .execInvAck .refl
  | mcastAck => exact .execMcastAck .refl
  | bulkData => exact .execBulkData .refl
  | bulkAck => exact .execBulkAck .refl
  | reelRetryResend => exact .execReelRetryResend .refl
  | reelTimeout => exact .execReelTimeout .refl
  | atomicTry => exact .execAtomicTry .refl
  | outcomeUnknown => exact .execOutcomeUnknown .refl
  | gatherFlush => exact .execGatherFlush .refl
  | stagedFetch => exact .execStagedFetch .refl
  | mcastBranchDrop => exact .execMcastBranchDrop .refl
  | linesHeldEnd => exact .execLinesHeldEnd .refl
  | linkFlit => exact .execLinkFlit .refl
  | laneFail => exact .execLaneFail .refl
  | narrowDone => exact .execNarrowDone .refl
  | portDown => exact .execPortDown .refl
  | creditTimeout => exact .execCreditTimeout .refl
  | ackTimeout => exact .execAckTimeout .refl
  | seekBurst => exact .execSeekBurst .refl
  | partnerSignal => exact .execPartnerSignal .refl
  | trainDone => exact .execTrainDone .refl
  | proveTimeout => exact .execProveTimeout .refl
  | quarantineRetry => exact .execQuarantineRetry .refl
  | downHoldEnd => exact .execDownHoldEnd .refl
  | linkChallenge => exact .execLinkChallenge .refl
  | linkResponse => exact .execLinkResponse .refl
  | linkVerdict => exact .execLinkVerdict .refl
  | cmapReq => exact .execCmapReq .refl
  | portReq => exact .execPortReq .refl
  | cmapSample => exact .execCmapSample .refl
  | drainTimeout => exact .execDrainTimeout .refl
  | cageModuleChange => exact .execCageModuleChange .refl
  | telemetrySample => exact .execTelemetrySample .refl
  | recoveryImage => exact .execRecoveryImage .refl
  | smbusRequest => exact .execSmbusRequest .refl
  | spindleBootDone => exact .execSpindleBootDone .refl
  | spindleResetTimeout => exact .execSpindleResetTimeout .refl
  | iolinkUp => exact .execIolinkUp .refl
  | stackRepairDone => exact .execStackRepairDone .refl
  | deadlineExpiry => exact .execDeadlineExpiry .refl
  | keyRotationEnd => exact .execKeyRotationEnd .refl
  | hostLinkUp => exact .execHostLinkUp .refl
  | dataMoveComplete => exact .execDataMoveComplete .refl
  | terminalCapRelease => exact .execTerminalCapRelease .refl
  | plyGo => exact .execPlyGo .refl
  | timeReqAnswer => exact .execTimeReqAnswer .refl

/-- What a step keeps: on an empty queue time passes, else the command in front runs. -/
theorem step_keeps {t : State} (h : step s = .next t) : Keeps (∃ c rest, s.pending = c :: rest ∧ leavesHeld c) s t := by
  unfold step at h
  split at h
  · cases h
    exact .tick .refl
  next c rest hp =>
    have hc := Steps.exec c t h
    obtain ⟨h1, h2, h3, h4, h5⟩ := hc
    exact ⟨h1, h2, h3, h4, fun hs => (h5 hs).imp_right fun hl => ⟨c, rest, hp, hl⟩⟩

end
end Sys2Proof.Machine

section
open Sys2Proof Sys2Proof.Machine

/-- Settles O57: every step keeps the canonical form of every memory, because each write of a memory is a `Tab.set` or a
clearing of it. -/
theorem memoriesKeepTheirForm : Obligations.MemoriesKeepTheirForm := fun _ _ hs h => (step_keeps h).canonical hs

/-- Settles O58: only TEST_LOCK and the bring-up write TEST_LOCK, and only the opening of the write windows the SVN count, to a
maximum. -/
theorem fusesAreNeverRestored : Obligations.FusesAreNeverRestored := fun _ _ h =>
  ⟨(step_keeps h).blown, (step_keeps h).counted, (step_keeps h).fixed⟩

/-- Settles O59: what goes on in a bring-up goes on only while the module is BOOTING, and the commands that begin one are those named. -/
theorem onlyResetsAndPowerLeaveHeld : Obligations.OnlyResetsAndPowerLeaveHeld := fun _ _ hs h => (step_keeps h).stays hs

/-- Settles O1: no arm of the dispatch answers anything but a next state. -/
theorem stepRunsFrontCommand : Obligations.StepRunsFrontCommand := by
  refine ⟨fun s c rest => rfl, fun s c => ?_⟩
  cases c <;> exact ⟨_, rfl⟩

end
end

section
/-! SUPPORT. The eleven checks in their order, and what a refusal leaves as it was. -/

set_option Elab.async false

namespace Sys2Proof.Machine
section
variable {s : State} {k : CmdSpec} {c : Cmd} {v : Verdict} {r : Reject} {n m : Nat}

/-! ### The checks, one by one (R338) -/

section checks

theorem check_of_stale (h : seqNew (s.queue c.queue.val) c.seq = false) : check s k c v = some { status := .badSeq } := by
  simp [check, h]

variable (hseq : seqNew (s.queue c.queue.val) c.seq = true)
include hseq

theorem check_of_late (h : (c.deadline != 0 && !before c.stamp c.deadline) = true) : check s k c v = some { status := .late } := by
  simp only [check, hseq, h, Bool.not_true, Bool.false_eq_true, if_false, if_true]

variable (hlate : (c.deadline != 0 && !before c.stamp c.deadline) = false)
include hlate

theorem check_of_noFeature (h : v.noFeature = true) : check s k c v = some { status := .badOpcode } := by
  simp only [check, hseq, hlate, h, Bool.not_true, Bool.false_eq_true, if_false, if_true]

variable (hfeat : v.noFeature = false)
include hfeat

theorem check_of_wrong (h : (c.malformed s k).isSome = true ∨ v.bad.isSome = true) : (check s k c v).map (·.status) = some .badParam := by
  simp only [check, hseq, hlate, hfeat, Bool.not_true, Bool.false_eq_true, if_false]
  cases hm : c.malformed s k with
  | some b => rfl
  | none =>
    obtain ⟨b, hb⟩ := Option.isSome_iff_exists.1 (h.resolve_left (by simp [hm]))
    simp [hb]

variable (hform : c.malformed s k = none) (hbad : v.bad = none)
include hform hbad

/-- The checks after those of the parameters. -/
theorem check_of_formed : check s k c v =
    if s.mod.state = .held && !k.inHeld then some { status := .held, result := heldResult s }
    else if (k.needsJob && !s.jobOpen) || (k.noJob && s.jobOpen) || v.state then some { status := .badState }
    else if v.denied then some { status := .denied }
    else if v.needSig && !(c.signed && v.sigOk) then some { status := .badSignature, sigRefused := c.signed && !v.quiet }
    else if k.nvm && !s.pow.tempOk then some { status := .tempForbidden }
    else if k.nvm && !s.pow.supplyOk then some { status := .supplyForbidden }
    else (busyHint s k v).map fun h => { status := .busy, result := result [(16, 4, h)] } := by
  simp only [check, hseq, hlate, hfeat, hform, hbad, Bool.not_true, Bool.false_eq_true, if_false]
  cases busyHint s k v <;> rfl

end checks

/-! ### What a completion and a refusal leave alone -/

@[simp] theorem State.leave_commands : (s.leave c).spin.commands = s.spin.commands := rfl

@[simp] theorem State.done_commands (st : Status) (res : BitVec 128) : (s.done c st res).spin.commands = s.spin.commands := by
  unfold State.done
  split <;> simp

@[simp] theorem State.setSeq_commands : (s.setSeq c).spin.commands = s.spin.commands := by
  unfold State.setSeq
  split <;> simp

/-- A refusal with nothing read for it. -/
theorem selkan_refuses_unread {act : State → State} (he : Executes s) (hm : s.muted c = false) (hcut : s.cutOff c = false)
    (hr : check s k c v = some r) (hread : r.early = true ∨ cmdReads c v = []) : selkan k c v act s = (s.take c).refuse k.op c r := by
  rw [selkan_refuses he hm hcut hr]
  obtain h | h := hread
  · rw [h]; rfl
  · have hf : (s.take c).readFor c v = s.take c := by simp [State.readFor, h]
    cases r.early
    · exact congrArg (fun t : State => t.refuse k.op c r) hf
    · rfl

theorem State.refuse_commands (op : Nat) : (s.refuse op c r).spin.commands = s.spin.commands := by
  unfold State.refuse
  rw [State.done_commands, State.refusalEffects_spin]
  exact State.when_keeps (·.spin.commands) (f := (·.setSeq c)) State.setSeq_commands _

/-- Settles O3: the checks are read one by one, and a refusal is the refusal of the command as it was taken. -/
theorem checksRefuseInOrder : Obligations.ChecksRefuseInOrder := by
  unfold Obligations.ChecksRefuseInOrder
  refine ⟨⟨?order, ?booting, ?unassigned, by decide⟩, ?refused⟩
  case order =>
    intro s k c v
    dsimp only
    refine ⟨fun h => by simp [check_of_stale h], fun h1 h2 => by simp [check_of_late h1 h2],
      fun h1 h2 h3 => by simp [check_of_noFeature h1 h2 h3], fun h1 h2 h3 h4 => check_of_wrong h1 h2 h3 h4, fun h1 h2 h3 h4 h5 => ?_⟩
    have hc := check_of_formed h1 h2 h3 h4 h5
    refine ⟨fun hh hk => by simp [hc, hh, hk], fun hh => ?_⟩
    have hheld : (decide (s.mod.state = .held) && !k.inHeld) = false := by
      obtain h | h := hh <;> simp [h]
    rw [hheld, if_neg Bool.false_ne_true] at hc
    refine ⟨fun h6 => by rw [hc, if_pos h6]; rfl, fun h6 h7 => ?_, fun h6 h7 h8 => ?_, fun h6 h7 h8 hn ht => ?_, fun h6 h7 h8 hn ht hs => ?_,
      fun h6 h7 h8 hn hb => ?_, fun h6 h7 h8 hn hb => ?_⟩ <;> rw [h6, if_neg Bool.false_ne_true, h7] at hc
    · rw [hc, if_pos rfl]; rfl
    all_goals rw [if_neg Bool.false_ne_true, h8] at hc
    · rw [hc, if_pos rfl]; rfl
    all_goals rw [if_neg Bool.false_ne_true] at hc
    · simp [hc, hn, ht]
    · simp [hc, hn, ht, hs]
    all_goals
      have hw : (k.nvm && !s.pow.tempOk) = false ∧ (k.nvm && !s.pow.supplyOk) = false := by
        cases hk : k.nvm
        · exact ⟨rfl, rfl⟩
        · have := hn hk
          simp only [State.nvmOpen, Bool.and_eq_true] at this
          simp [this]
      rw [hw.1, hw.2, if_neg Bool.false_ne_true, if_neg Bool.false_ne_true] at hc
    · obtain ⟨h, hh⟩ := Option.isSome_iff_exists.1 hb
      simp [hc, hh]
    · simp [hc, hb]
  case booting => exact fun s k c v act h => selkan_waits fun he => he.1 h
  case unassigned =>
    intro s e _ _ _ _ hs hd
    rw [check_of_noFeature hs ?_ rfl]
    · rfl
    · obtain h | h := hd <;> simp [h]
  case refused =>
    intro s k c v act r he hcut hm hr hread t
    have ht : t = (s.take c).refuse k.op c r := selkan_refuses_unread he hm hcut hr hread
    have htake : (s.take c).spin.commands = s.spin.commands := rfl
    rw [ht]
    simp [State.refuse_commands, htake]

end
end Sys2Proof.Machine
end

section
/-! SUPPORT. The queues after a completion, LAST_SEQ, and what a command that passes its checks acts on. -/

set_option Elab.async false

namespace Sys2Proof.Machine
section
variable {s : State} {k : CmdSpec} {c : Cmd} {v : Verdict} {r : Reject} {n m : Nat}

/-! ### The queues after an operation (R320-R325) -/

theorem HostSide.queue_setQueue (h : HostSide) (x : QueueSt) (hw : Tab.wf h.queues {} = true) : (h.setQueue n x).queue n = x :=
  Tab.get_set_same n x hw

theorem HostSide.queue_setQueue_other (h : HostSide) (x : QueueSt) (hw : Tab.wf h.queues {} = true) (hm : m ≠ n) :
    (h.setQueue n x).queue m = h.queue m := Tab.get_set_other hm x hw

theorem HostSide.wf_setQueue (h : HostSide) (x : QueueSt) (hw : Tab.wf h.queues {} = true) : Tab.wf (h.setQueue n x).queues {} = true :=
  Tab.wf_set n x hw

/-- The queues of the host side stay in their form, and of the queue numbered `n` only the ring and what waits for it change: its
state, cause, tail, arming and what is held back. -/
def HostSide.Only (h h' : HostSide) : Prop :=
  Tab.wf h'.queues {} = true ∧ ∀ m, (h'.queue m).lastSeq = (h.queue m).lastSeq ∧ (h'.queue m).seqSeen = (h.queue m).seqSeen

theorem HostSide.Only.refl {h : HostSide} (hw : Tab.wf h.queues {} = true) : h.Only h := ⟨hw, fun _ => ⟨rfl, rfl⟩⟩

theorem HostSide.Only.trans {h h' h'' : HostSide} (h1 : h.Only h') (h2 : h'.Only h'') : h.Only h'' :=
  ⟨h2.1, fun m => ⟨(h2.2 m).1.trans (h1.2 m).1, (h2.2 m).2.trans (h1.2 m).2⟩⟩

theorem HostSide.Only.setQueue {h : HostSide} (hw : Tab.wf h.queues {} = true) {x : QueueSt} (h1 : x.lastSeq = (h.queue n).lastSeq)
    (h2 : x.seqSeen = (h.queue n).seqSeen) : h.Only (h.setQueue n x) := by
  refine ⟨h.wf_setQueue x hw, fun m => ?_⟩
  by_cases hm : m = n
  · subst hm; rw [h.queue_setQueue x hw]; exact ⟨h1, h2⟩
  · rw [h.queue_setQueue_other x hw hm]; exact ⟨rfl, rfl⟩

theorem HostSide.Only.advance {h : HostSide} (hw : Tab.wf h.queues {} = true) : h.Only (h.advance n) := by
  unfold HostSide.advance
  extract_lets q h1
  have h2 : h.Only h1 := .setQueue hw rfl rfl
  split
  · exact h2
  · exact .setQueue hw rfl rfl

theorem State.postOne_only (e : Completion) (hw : Tab.wf s.host.queues {} = true) : s.host.Only (s.postOne n e).host := by
  unfold State.postOne
  extract_lets q f host'
  dsimp only [host']
  clear_value f
  split
  · exact .refl hw
  · exact .advance hw
  · exact .setQueue hw rfl rfl
  · exact .setQueue hw rfl rfl

theorem State.post_only {seq : BitVec 32} {st : Status} {stamp : Lea} {res : BitVec 128} {b : Bool} (hw : Tab.wf s.host.queues {} = true) :
    s.host.Only (s.post n seq st stamp res b).host := by
  unfold State.post
  split
  · exact (State.postOne_only _ hw).trans (State.postOne_only _ (State.postOne_only _ hw).1)
  · exact State.postOne_only _ hw

theorem State.done_only {st : Status} {res : BitVec 128} (hw : Tab.wf s.host.queues {} = true) : s.host.Only (s.done c st res).host := by
  unfold State.done
  split
  · exact .refl hw
  · exact State.post_only (s := s.leave c) hw

/-- The queues after LAST_SEQ of the command's queue has been set. -/
theorem State.setSeq_queue (hmute : s.spin.mute = none) (hw : Tab.wf s.host.queues {} = true) :
    Tab.wf (s.setSeq c).host.queues {} = true ∧ ((s.setSeq c).queue c.queue.val).lastSeq = c.seq ∧
      ∀ m, m ≠ c.queue.val → (s.setSeq c).queue m = s.queue m := by
  have hset : s.setSeq c = s.modQueue c.queue.val fun q => { q with lastSeq := c.seq, seqSeen := true } := by
    unfold State.setSeq
    rw [hmute, if_neg (by simp)]
  rw [hset]
  refine ⟨State.wf_modQueue _ hw, ?_, fun m hm => State.queue_modQueue_other _ hw hm⟩
  rw [State.queue_modQueue _ hw]

/-- The ACCEPTED entry of an L command. -/
theorem State.accept_only (hw : Tab.wf (s.setSeq c).host.queues {} = true) : (s.setSeq c).host.Only (s.accept k c).host := by
  unfold State.accept
  extract_lets s1 sp s2
  have h2 : Tab.wf s2.host.queues {} = true := hw
  unfold State.when
  split
  · exact State.post_only h2
  · exact .refl h2

/-- LAST_SEQ of every queue after a command has been accepted. -/
theorem accepted_lastSeq (hmute : s.spin.mute = none) (hw : Tab.wf s.host.queues {} = true) :
    ((accepted s k c v).queue c.queue.val).lastSeq = c.seq ∧
      ∀ m, m ≠ c.queue.val → ((accepted s k c v).queue m).lastSeq = (s.queue m).lastSeq := by
  have hhost : ((s.take c).readFor c v).host = s.host := by simp
  have hspin : ((s.take c).readFor c v).spin.mute = none := by simp [hmute, State.take]
  obtain ⟨h1, h2, h3⟩ := State.setSeq_queue (s := (s.take c).readFor c v) (c := c) hspin (by rw [hhost]; exact hw)
  have ho := State.accept_only (k := k) h1
  refine ⟨(ho.2 _).1.trans h2, fun m hm => (ho.2 m).1.trans ?_⟩
  have := h3 m hm
  rw [show (((s.take c).readFor c v).setSeq c).host.queue m = _ from this]
  exact congrArg (fun h : HostSide => (h.queue m).lastSeq) hhost

/-- LAST_SEQ of every queue after a refusal. -/
theorem State.refuse_lastSeq (op : Nat) (hw : Tab.wf s.host.queues {} = true) (hmute : s.spin.mute = none) :
    (r.status = .badSeq → ∀ m, ((s.refuse op c r).queue m).lastSeq = (s.queue m).lastSeq) ∧
    (r.status ≠ .badSeq → ((s.refuse op c r).queue c.queue.val).lastSeq = c.seq ∧
      ∀ m, m ≠ c.queue.val → ((s.refuse op c r).queue m).lastSeq = (s.queue m).lastSeq) := by
  have hdone {t : State} (ht : Tab.wf t.host.queues {} = true) (m : Nat) :
      (((t.refusalEffects op r).done c r.status r.result).queue m).lastSeq = (t.queue m).lastSeq := by
    have h := State.done_only (s := t.refusalEffects op r) (c := c) (st := r.status) (res := r.result) (by simpa using ht)
    rw [State.refusalEffects_host] at h
    exact (h.2 m).1
  obtain ⟨h1, h2, h3⟩ := State.setSeq_queue (c := c) hmute hw
  refine ⟨fun hr m => ?_, fun hr => ?_⟩
  · unfold State.refuse
    rw [decide_eq_true hr, Bool.not_true, State.when_false, hdone hw]
  · unfold State.refuse
    rw [decide_eq_false hr, Bool.not_false, State.when_true]
    refine ⟨(hdone h1 _).trans h2, fun m hm => (hdone h1 m).trans (by rw [h3 m hm])⟩

/-! ### Sequence numbers and commands that pass -/

/-- What is new (R335), as numbers. -/
theorem seqNew_iff {q : QueueSt} {seq : BitVec 32} (h : q.seqSeen = true) :
    seqNew q seq = true ↔ 1 ≤ (seq.toNat + 2 ^ 32 - q.lastSeq.toNat) % 2 ^ 32 ∧ (seq.toNat + 2 ^ 32 - q.lastSeq.toNat) % 2 ^ 32 ≤ 2 ^ 31 - 1 := by
  have hsub : (seq - q.lastSeq).toNat = (seq.toNat + 2 ^ 32 - q.lastSeq.toNat) % 2 ^ 32 := by
    have := q.lastSeq.isLt
    rw [BitVec.toNat_sub, Nat.add_comm, Nat.add_sub_assoc (by omega)]
  rw [seqNew, h, before32, hsub]
  simp only [Bool.not_true, Bool.false_or, Bool.and_eq_true, decide_eq_true_eq]
  omega

theorem seqNew_of_unseen {q : QueueSt} {seq : BitVec 32} (h : q.seqSeen = false) : seqNew q seq = true := by rw [seqNew, h]; rfl

@[simp] theorem State.endService_host (p : Port) : (s.endService p).host = s.host :=
  State.forEach_keeps (·.host) (f := fun src s => s.modSrc src (2 + p.val) SrcAt.ended) (fun _ _ => rfl) _ _

@[simp] theorem State.eventQueueGone_host : (s.eventQueueGone n).host = s.host := by
  unfold State.eventQueueGone
  exact State.when_keeps (·.host) (State.endService_host _) _

/-- A freed queue is as if it had never been made. -/
theorem State.queue_freeQueue (hw : Tab.wf s.host.queues {} = true) : (s.freeQueue n).queue n = {} :=
  HostSide.queue_setQueue _ _ (by rw [State.eventQueueGone_host]; exact hw)

/-- The status of a refusal for a SEQ that is not new, and only of that. -/
theorem check_badSeq_iff (hr : check s k c v = some r) : r.status = .badSeq ↔ seqNew (s.queue c.queue.val) c.seq = false := by
  cases hs : seqNew (s.queue c.queue.val) c.seq with
  | false =>
    rw [check_of_stale hs] at hr
    cases hr
    simp
  | true =>
    simp only [Bool.true_eq_false, iff_false]
    intro hst
    simp only [check, hs, Bool.not_true, Bool.false_eq_true, if_false] at hr
    split at hr
    · cases hr; cases hst
    · split at hr
      · cases hr; cases hst
      · split at hr
        · cases hr; cases hst
        · split at hr
          · cases hr; cases hst
          · repeat' split at hr
            all_goals simp only [Option.some.injEq, reduceCtorEq] at hr
            all_goals subst hr; cases hst

/-- Settles O4: LAST_SEQ is set in taking the command, and no entry written for it moves it again. -/
theorem sequenceNumbersAreKept : Obligations.SequenceNumbersAreKept := by
  unfold Obligations.SequenceNumbersAreKept
  refine ⟨fun q seq => seqNew_iff, fun s c seq => seqNew_of_unseen rfl, fun k w seq => seqNew_of_unseen rfl,
    fun s n seq hw => seqNew_of_unseen (by rw [State.queue_freeQueue hw]), ?refused,
    fun s k c v _ hmute hw => accepted_lastSeq hmute hw⟩
  case refused =>
    intro s k c v act r he hcut hm hmute hw hr n t
    obtain ⟨u, hu, hw', hmute', hq⟩ : ∃ u : State, t = u.refuse k.op c r ∧ Tab.wf u.host.queues {} = true ∧ u.spin.mute = none ∧ ∀ m, u.queue m = s.queue m := by
      refine ⟨_, selkan_refuses he hm hcut hr, ?_⟩
      cases r.early
      · have hh : ((s.take c).readFor c v).host = s.host := by simp
        exact ⟨(congrArg (fun h : HostSide => Tab.wf h.queues {}) hh).trans hw, (by simp [hmute, State.take] : ((s.take c).readFor c v).spin.mute = none), fun m => congrArg (fun h : HostSide => h.queue m) hh⟩
      · exact ⟨hw, hmute, fun _ => rfl⟩
    obtain ⟨h1, h2⟩ := State.refuse_lastSeq (c := c) (r := r) k.op hw' hmute'
    rw [hu]
    refine ⟨fun hs => ?_, fun hs => ?_⟩
    · have hb := (check_badSeq_iff hr).2 hs
      exact ⟨hb, fun m => by rw [h1 hb, hq]⟩
    · have hb : r.status ≠ .badSeq := fun hb => Bool.noConfusion (((check_badSeq_iff hr).1 hb).symm.trans hs)
      exact ⟨(h2 hb).1, fun m hm => by rw [(h2 hb).2 m hm, hq]⟩

/-- The Spindle pair's part of a command that is accepted: it is counted, and an L command is in progress (R339, R360). -/
theorem accepted_spin (hmute : s.spin.mute = none) : (accepted s k c v).spin.commands = s.spin.commands + 1 ∧
    (accepted s k c v).spin.lops =
      if k.long then s.spin.lops ++ [{ opcode := k.op, cmd := c, takeover := decide (s.spin.midStep = some c) }] else s.spin.lops := by
  have hset : (((s.take c).readFor c v).setSeq c).spin = ((s.take c).readFor c v).spin := by simp
  have hspin : ((s.take c).readFor c v).spin = (s.take c).spin := by simp
  have hm : (s.take c).spin.mute = none := hmute
  unfold accepted State.accept
  extract_lets s1 sp s2
  have hwhen : ∀ b : Bool, (s2.when b fun s => s.post (s.cqOf c.queue.val) c.seq .accepted c.stamp 0 (decide (s.spin.midStep = some c))).spin = s2.spin :=
    State.when_keeps (·.spin) (by simp)
  rw [hwhen]
  simp only [s2, s1, hset, hspin, hm, reduceCtorEq, decide_false]
  exact ⟨rfl, rfl⟩

/-- Settles O5: the effects of taking a command are read off the state in which it is accepted. -/
theorem passedCommandIsCountedAndActs : Obligations.PassedCommandIsCountedAndActs := by
  unfold Obligations.PassedCommandIsCountedAndActs
  intro s k c v act hp hmute hw
  refine ⟨selkan_passes hp, (accepted_spin hmute).1, (accepted_lastSeq hmute hw).1, fun hl => ?_, fun hl => ?_, accepted_region .., accepted_job .., accepted_conf ..⟩
  · rw [(accepted_spin hmute).2, hl, if_pos rfl]
  · rw [(accepted_spin hmute).2, hl, if_neg Bool.false_ne_true]

end
end Sys2Proof.Machine
end

section
/-! SUPPORT. Completions in their ring, doorbells, admin rings, queues made and drained, and the merged order of the Distaffs. -/

set_option Elab.async false

namespace Sys2Proof.Machine
section
variable {s : State} {k : CmdSpec} {c : Cmd} {v : Verdict} {p : Port} {q : QueueSt} {n m : Nat}

/-! ### What a completion writes (R325, R334) -/

theorem HostSide.advance_queue {h : HostSide} (hw : Tab.wf h.queues {} = true) :
    (h.advance n).queue n = { h.queue n with
      tail := (h.queue n).tail + 1
      armed := (h.queue n).armed && !((h.queue n).armed && (h.queue n).vector != 0xFFFF) } := by
  unfold HostSide.advance
  extract_lets q h1
  split
  next harm =>
    rw [harm]
    refine (HostSide.queue_setQueue _ _ hw).trans ?_
    simp [q]
  next harm =>
    rw [Bool.not_eq_true] at harm
    rw [harm]
    refine (HostSide.queue_setQueue _ _ hw).trans ?_
    simp [q]

theorem HostSide.advance_queue_other {h : HostSide} (hw : Tab.wf h.queues {} = true) (hm : m ≠ n) : (h.advance n).queue m = h.queue m := by
  unfold HostSide.advance
  extract_lets q h1
  split
  · exact HostSide.queue_setQueue_other _ _ hw hm
  · exact HostSide.queue_setQueue_other _ _ hw hm

/-- The memory that holds a queue's ring. -/
def Mems.ring (m : Mems) (q : QueueSt) : Memory := if q.space then m.bar4 else m.host q.port

theorem Mems.ring_writeRing (m : Mems) (a : Nat) (bs : List Byte) : (m.writeRing q a bs).ring q = (m.ring q).write a bs := by
  unfold Mems.writeRing Mems.ring
  cases q.space
  · simp only [Bool.false_eq_true, if_false, Mems.host, Mems.writeHost]
    split <;> rfl
  · rfl

theorem Completion.length_bytes (e : Completion) (b : Bool) : (e.bytes b).length = 32 := by simp [Completion.bytes]

theorem QueueSt.fate_put (hk : q.kind = .completion) (hs : q.state = .active ∨ q.state = .draining) (hh : q.held = []) (hr : q.room = true) :
    q.fate = .put := by
  rcases hs with hs | hs <;> simp [QueueSt.fate, hk, hs, hh, hr]

/-- A completion that is put is in the ring's next slot, and the tail is past it. -/
theorem State.postOne_of_put (e : Completion) (hf : (s.queue n).fate = .put) :
    s.postOne n e = { s with
      host := s.host.advance n
      mems := s.mems.writeRing (s.queue n) (s.queue n).slotAddr (e.bytes (s.queue n).phase) } := by
  unfold State.postOne
  simp only [hf, if_true]

/-- Settles O6: the entry is the 32 bytes written at the slot of the tail. -/
theorem completionLandsAtTheTail : Obligations.CompletionLandsAtTheTail := by
  intro s n e q hk hs hh hr hbar hhost hw t ring
  have ht : t = _ := State.postOne_of_put e (QueueSt.fate_put hk hs hh hr)
  have hring : ∀ u : State, ring u = u.mems.ring q := fun _ => rfl
  have hwf : (s.mems.ring q).wf = true := by unfold Mems.ring; split <;> assumption
  have hafter : ring t = (s.mems.ring q).write q.slotAddr (e.bytes q.phase) := by rw [hring, ht]; exact Mems.ring_writeRing ..
  have htail : t.queue n = _ := (congrArg (fun u : State => u.queue n) ht).trans (HostSide.advance_queue hw)
  refine ⟨?_, fun a ha => ?_, by rw [htail]; rfl, by rw [htail]; rfl, by rw [ht]; exact Mems.writeRing_hbm .., by rw [ht]; exact Mems.writeRing_sram ..,
    fun m hm => ?_⟩
  · rw [hafter, ← Completion.length_bytes e q.phase]
    exact Memory.read_write _ _ hwf
  · rw [hafter, hring]
    exact Memory.get_write_outside _ hwf (by rwa [Completion.length_bytes])
  · rw [ht]
    exact HostSide.advance_queue_other hw hm

/-! ### Doorbells (R321, R324-R326, R337) -/

section doorbell
variable {kinds : List QKind} {act : QueueSt → State → State} {i : BitVec 32} {Q : Queue}

theorem State.doorbell_of_dead (h : s.portLive p = false) : s.doorbell p n kinds act = s := by simp [State.doorbell, h]

theorem State.doorbell_of_foreign (h : s.portLive p = true) (hf : (s.queue n).state = .free ∨ (s.queue n).port ≠ p) :
    s.doorbell p n kinds act = s.refuseAccess p 3 true (0x00300000 + 64 * n) true := by
  simp [State.doorbell, h, hf]

theorem State.doorbell_of_inactive (h : s.portLive p = true) (hf : (s.queue n).state ≠ .free) (hp : (s.queue n).port = p)
    (ha : (s.queue n).state ≠ .active) : s.doorbell p n kinds act = s := by
  simp [State.doorbell, h, hf, hp, ha]

theorem State.doorbell_acts (h : s.portLive p = true) (ha : (s.queue n).state = .active) (hp : (s.queue n).port = p)
    (hk : kinds.contains (s.queue n).kind = true) : s.doorbell p n kinds act = act (s.queue n) s := by
  unfold State.doorbell
  extract_lets q
  rw [if_neg (by simp [h]), if_neg (by simp [q, ha, hp]), if_pos (by rw [show q.state = .active from ha, hk]; rfl)]

theorem exec_commandDoorbell_of_far (h : s.portLive p = true) (ha : (s.queue Q.val).state = .active) (hp : (s.queue Q.val).port = p)
    (hk : (s.queue Q.val).kind = .command) (hi : 2 ^ (s.queue Q.val).sizeLog2 < (i - (s.queue Q.val).head).toNat) :
    exec (.commandDoorbell p Q i) s = .next (s.badDoorbell p Q.val) :=
  congrArg Host.Outcome.next ((State.doorbell_acts h ha hp (by rw [hk]; rfl)).trans (if_pos hi))

theorem exec_commandDoorbell_of_near (h : s.portLive p = true) (ha : (s.queue Q.val).state = .active) (hp : (s.queue Q.val).port = p)
    (hk : (s.queue Q.val).kind = .command) (hi : (i - (s.queue Q.val).head).toNat ≤ 2 ^ (s.queue Q.val).sizeLog2) :
    exec (.commandDoorbell p Q i) s = .next
      (if s.mod.state = .booting then
        (s.modQueue Q.val fun x => { x with tail := i, lastDb := s.time.lea }).modPort p fun y => { y with heldDb := (y.heldDb.filter fun e => e.1 ≠ Q.val) ++ [(Q.val, i)] }
      else (s.modQueue Q.val fun x => { x with tail := i, lastDb := s.time.lea }).takeEntries Q.val s.time.lea) :=
  congrArg Host.Outcome.next ((State.doorbell_acts h ha hp (by rw [hk]; rfl)).trans (if_neg (Nat.not_lt.2 hi)))

theorem exec_dataMoverDoorbell_of_far (h : s.portLive p = true) (ha : (s.queue Q.val).state = .active) (hp : (s.queue Q.val).port = p)
    (hk : (s.queue Q.val).kind = .dataMover) (hi : 2 ^ (s.queue Q.val).sizeLog2 < (i - (s.queue Q.val).head).toNat) :
    exec (.dataMoverDoorbell p Q i) s = .next (s.badDoorbell p Q.val) :=
  congrArg Host.Outcome.next ((State.doorbell_acts h ha hp (by rw [hk]; rfl)).trans (if_pos hi))

theorem exec_dataMoverDoorbell_of_near (h : s.portLive p = true) (ha : (s.queue Q.val).state = .active) (hp : (s.queue Q.val).port = p)
    (hk : (s.queue Q.val).kind = .dataMover) (hi : (i - (s.queue Q.val).head).toNat ≤ 2 ^ (s.queue Q.val).sizeLog2) :
    exec (.dataMoverDoorbell p Q i) s = .next (s.modQueue Q.val fun x => { x with tail := i, lastDb := s.time.lea }) :=
  congrArg Host.Outcome.next ((State.doorbell_acts h ha hp (by rw [hk]; rfl)).trans (if_neg (Nat.not_lt.2 hi)))

theorem exec_headDoorbell_of_near (h : s.portLive p = true) (ha : (s.queue Q.val).state = .active) (hp : (s.queue Q.val).port = p)
    (hk : (s.queue Q.val).kind = .completion ∨ (s.queue Q.val).kind = .event) (hi : ((s.queue Q.val).tail - i).toNat ≤ 2 ^ (s.queue Q.val).sizeLog2) :
    exec (.headDoorbell p Q i) s = .next
      (((s.modQueue Q.val fun y => { y with head := i, lastDb := s.time.lea, done := y.done + BitVec.ofNat 64 (i - y.head).toNat, armed := false }).drainHeld Q.val 256).rearm
        Q.val (decide (i ≠ (s.queue Q.val).tail))) :=
  congrArg Host.Outcome.next ((State.doorbell_acts h ha hp (by rcases hk with hk | hk <;> rw [hk] <;> rfl)).trans (if_neg (Nat.not_lt.2 hi)))

end doorbell

/-! ### Entries taken, and completions that waited (R321, R325) -/

theorem length_insertStamped (e : Stamped) : ∀ xs : List Stamped, (insertStamped e xs).length = xs.length + 1
  | [] => rfl
  | x :: xs => by
    unfold insertStamped
    split
    · rw [List.length_cons, length_insertStamped e xs, List.length_cons]
    · rfl

theorem length_foldl_insertStamped (es xs : List Stamped) : (es.foldl (fun w e => insertStamped e w) xs).length = xs.length + es.length := by
  induction es generalizing xs with
  | nil => rfl
  | cons e es ih => rw [List.foldl_cons, ih, length_insertStamped, List.length_cons]; omega

/-- What the Distaff takes from an ACTIVE queue whose ring it reads. -/
theorem State.takeEntries_reads (stamp : Lea) (hw : Tab.wf s.host.queues {} = true) (ha : (s.queue n).state = .active) (hr : s.ringReaches (s.queue n) = true) :
    ((s.takeEntries n stamp).queue n).head = (s.queue n).tail ∧ ((s.takeEntries n stamp).queue n).tail = (s.queue n).tail ∧
      (s.takeEntries n stamp).mems = s.mems ∧ (∀ m, m ≠ n → (s.takeEntries n stamp).queue m = s.queue m) ∧
      ((s.takeEntries n stamp).spin.distaff.get (s.queue n).port).waiting.length =
        (s.spin.distaff.get (s.queue n).port).waiting.length + ((s.queue n).tail - (s.queue n).head).toNat := by
  unfold State.takeEntries
  extract_lets q new s1 sp
  rw [if_neg (by simp [q, ha]), if_neg (by simp [q, hr])]
  have hq : s1.queue n = _ := State.queue_modQueue _ hw
  refine ⟨(congrArg QueueSt.head hq).trans rfl, (congrArg QueueSt.tail hq).trans rfl, rfl, fun m hm => (?other : s1.queue m = s.queue m), ?_⟩
  case other => exact State.queue_modQueue_other _ hw hm
  change ((s1.spin.distaff.set q.port _).get q.port).waiting.length = _
  rw [Two.get_set_same]
  dsimp only
  rw [length_foldl_insertStamped, List.length_map, List.length_range]
  rfl

theorem State.drainHeld_queue (hw : Tab.wf s.host.queues {} = true) (j : Nat) : Tab.wf (s.drainHeld n j).host.queues {} = true ∧
    ((s.drainHeld n j).queue n).head = (s.queue n).head ∧ ((s.drainHeld n j).queue n).state = (s.queue n).state := by
  induction j generalizing s with
  | zero => exact ⟨hw, rfl, rfl⟩
  | succ j ih =>
    unfold State.drainHeld
    extract_lets q
    split
    · split
      next e es _ _ =>
        extract_lets s1
        have hset := HostSide.wf_setQueue (n := n) s.host { q with held := es } hw
        have hq : s1.queue n = _ := HostSide.advance_queue hset
        rw [HostSide.queue_setQueue _ _ hw] at hq
        obtain ⟨h1, h2, h3⟩ := ih (s := s1) (HostSide.Only.advance hset).1
        exact ⟨h1, by rw [h2, hq], by rw [h3, hq]⟩
      · exact ⟨hw, rfl, rfl⟩
    · exact ⟨hw, rfl, rfl⟩

theorem State.rearm_queue (b : Bool) (hw : Tab.wf s.host.queues {} = true) :
    ((s.rearm n b).queue n).head = (s.queue n).head ∧ ((s.rearm n b).queue n).state = (s.queue n).state := by
  unfold State.rearm
  extract_lets q
  split
  · exact ⟨rfl, rfl⟩
  · have hq (b : Bool) := State.queue_modQueue (s := s) (n := n) (fun x => { x with armed := b }) hw
    split
    · exact ⟨(congrArg QueueSt.head (hq false)).trans rfl, (congrArg QueueSt.state (hq false)).trans rfl⟩
    · exact ⟨(congrArg QueueSt.head (hq true)).trans rfl, (congrArg QueueSt.state (hq true)).trans rfl⟩

/-! ### Queues made and drained (R322-R324) -/

theorem exec_queueCreate_of_free {t : State} (hp : Passes s { op := 0x0110, named := [(16, 31)], inHeld := true } c {}) (hb : s.createBad c = none)
    (hn : s.queueWanted c = some n) (ht : t = accepted s { op := 0x0110, named := [(16, 31)], inHeld := true } c {}) (hn' : t.queueWanted c = some n) :
    exec (.queueCreate c) s = .next ({ t with host := t.host.setQueue n (t.newQueue c) }.done c .ok (result [(16, 2, n)])) := by
  refine congrArg Host.Outcome.next ((selkan_passes_of (by rw [hb, hn]; rfl) hp).trans ?_)
  rw [← ht, hn']

theorem exec_queueDelete_of_owner (hp : Passes s { op := 0x0111, named := [(16, 17)], long := true, inHeld := true } c {}) (h4 : 4 ≤ c.field s 16 2)
    (hlt : c.field s 16 2 < 16384) (hf : (s.queue (c.field s 16 2)).state ≠ .free) (hcq : s.namedAsCq (c.field s 16 2) = false)
    (hport : (s.queue (c.field s 16 2)).port = c.port s) :
    exec (.queueDelete c) s = .next (((((accepted s { op := 0x0111, named := [(16, 17)], long := true, inHeld := true } c {}).setAux c
        (c.field s 16 2 + 16384 * (s.queue (c.field s 16 2)).drops)).eventQueueGone (c.field s 16 2))).modQueue (c.field s 16 2) fun q =>
      { q with state := .draining, cause := .none, tail := if q.kind.written then q.tail else q.head, held := [] }) := by
  refine congrArg Host.Outcome.next (selkan_passes_of ?_ hp)
  rw [if_neg (by omega), hcq, decide_eq_false hf, decide_eq_false (not_not.2 hport)]
  rfl

theorem exec_queueDrained_of_quiet {Q : Queue} (hd : (s.queue Q.val).state = .draining) (hq : s.queueQuiet Q.val = true) :
    exec (.queueDrained Q) s = .next
      (match s.spin.lops.find? fun l => decide (l.opcode = 0x0111) && decide (l.aux % 16384 = Q.val) with
        | some l => (s.freeQueue Q.val).done l.cmd .ok (result [(16, 4, l.aux / 16384)])
        | none => s.freeQueue Q.val) :=
  congrArg Host.Outcome.next (if_pos (by simp [hd, hq]))

/-- Settles O7: the status commands answer at once, and the queue commands and doorbells by the state of their queue. -/
theorem statusIsAnsweredAndQueuesAreMade : Obligations.StatusIsAnsweredAndQueuesAreMade := by
  unfold Obligations.StatusIsAnsweredAndQueuesAreMade
  refine ⟨?status, fun s c n hp hb hn hn' => ⟨exec_queueCreate_of_free hp hb hn rfl hn', rfl, rfl, rfl⟩,
    fun s c hp h4 hlt hf hcq hport => exec_queueDelete_of_owner hp h4 hlt hf hcq hport, fun s Q hd hq => ⟨fun l hl => ?_, fun hl => ?_⟩,
    fun s n hw => State.queue_freeQueue hw, ?doorbells⟩
  case status =>
    intro s c on pass
    exact ⟨fun h => congrArg Host.Outcome.next (selkan_passes h), fun h => congrArg Host.Outcome.next (selkan_passes h),
      fun h => congrArg Host.Outcome.next (selkan_passes h), fun h => congrArg Host.Outcome.next (selkan_passes h),
      fun h => congrArg Host.Outcome.next (selkan_passes h), fun h => congrArg Host.Outcome.next (selkan_passes h),
      fun h => congrArg Host.Outcome.next (selkan_passes h)⟩
  · rw [exec_queueDrained_of_quiet hd hq, hl]
  · rw [exec_queueDrained_of_quiet hd hq, hl]
  case doorbells =>
    intro s p Q i hlive hw x ha hp
    have hmoved := State.queue_modQueue (s := s) (n := Q.val) (fun x => { x with tail := i, lastDb := s.time.lea }) hw
    refine ⟨fun hk hb hr hi => ⟨_, (exec_commandDoorbell_of_near hlive ha hp hk hi).trans (by rw [if_neg hb]), ?_⟩,
      fun hk hi => ⟨_, exec_dataMoverDoorbell_of_near hlive ha hp hk hi, by rw [hmoved], by rw [hmoved], rfl⟩,
      fun hk hi => ⟨_, exec_headDoorbell_of_near hlive ha hp hk hi, ?_⟩⟩
    · obtain ⟨h1, h2, h3, -, -⟩ := State.takeEntries_reads (n := Q.val) s.time.lea (State.wf_modQueue _ hw) (by rw [hmoved]; exact ha) (by rw [hmoved]; exact hr)
      rw [hmoved] at h1 h2
      exact ⟨h1, h2, h3⟩
    · have hq := State.queue_modQueue (s := s) (n := Q.val)
        (fun y => { y with head := i, lastDb := s.time.lea, done := y.done + BitVec.ofNat 64 (i - y.head).toNat, armed := false }) hw
      obtain ⟨hw', h1, h2⟩ := State.drainHeld_queue (n := Q.val) (State.wf_modQueue _ hw) 256
      obtain ⟨h3, h4⟩ := State.rearm_queue (n := Q.val) (decide (i ≠ (s.queue Q.val).tail)) hw'
      exact ⟨h3.trans (h1.trans (congrArg QueueSt.head hq)), h4.trans (h2.trans ((congrArg QueueSt.state hq).trans ha))⟩

/-! ### Admin rings (R323) -/

section ring
variable {K : Fin 4} {w : BitVec 64} {ok : Bool} {act : State → State}

theorem State.ringWrite_of_foreign (h : s.portLive p = true) (hp : p ≠ ringPort K) :
    s.ringWrite p K w ok act = s.refuseAccess p 3 true (0x100 + 8 * K.val) := by
  unfold State.ringWrite
  extract_lets old off
  rw [if_neg (by simp [h]), if_pos hp]

theorem State.ringWrite_acts (h : s.portLive (ringPort K) = true) (hok : ok = true)
    (hp : (s.host.adminRing.get 0 K.val).getLsbD 0 = true → placement (s.host.adminRing.get 0 K.val) = placement w) :
    s.ringWrite (ringPort K) K w ok act = act s := by
  unfold State.ringWrite
  extract_lets old off
  rw [if_neg (by simp [h]), if_neg (not_not.2 rfl), if_neg]
  simp only [hok, Bool.not_true, Bool.or_false, Bool.and_eq_true, decide_eq_true_eq, not_and, not_not]
  exact hp

theorem exec_adminRingEnable_of_set (hb : w.getLsbD 0 = true) :
    exec (.adminRingEnable p K w) s = .next (s.ringWrite p K w (decide (w.toNat / 128 % 16 ≤ 10) && !decide ((s.queue K.val).state = .draining)) fun u =>
      if (s.host.adminRing.get 0 K.val).getLsbD 0 then u.setRing K.val w
      else { u.setRing K.val w with host := (u.setRing K.val w).host.setQueue K.val (adminQueue K w) }) :=
  congrArg Host.Outcome.next (if_neg (by simp [hb]))

theorem exec_adminRingDisable_of_clear (hb : w.getLsbD 0 = false) :
    exec (.adminRingDisable p K w) s = .next (s.ringWrite p K w true fun u =>
      (u.setRing K.val w).when ((s.host.adminRing.get 0 K.val).getLsbD 0) fun u =>
        u.modQueue K.val fun q => if q.state = .free then q else { q with state := .draining, cause := .none, tail := q.head, held := [] }) :=
  congrArg Host.Outcome.next (if_neg (by rw [hb]; exact Bool.false_ne_true))

theorem exec_adminRingEnable_of_off (h : s.portLive (ringPort K) = true) (hb : w.getLsbD 0 = true) (hsize : w.toNat / 128 % 16 ≤ 10)
    (hd : (s.queue K.val).state ≠ .draining) (hoff : (s.host.adminRing.get 0 K.val).getLsbD 0 = false) :
    exec (.adminRingEnable (ringPort K) K w) s = .next { s.setRing K.val w with host := (s.setRing K.val w).host.setQueue K.val (adminQueue K w) } := by
  rw [exec_adminRingEnable_of_set hb, State.ringWrite_acts h (by simp [hsize, hd]) (fun hon => Bool.noConfusion (hoff.symm.trans hon)), hoff]
  rfl

theorem exec_adminRingDisable_of_on (h : s.portLive (ringPort K) = true) (hb : w.getLsbD 0 = false) (hon : (s.host.adminRing.get 0 K.val).getLsbD 0 = true)
    (hp : placement (s.host.adminRing.get 0 K.val) = placement w) (ha : (s.queue K.val).state = .active) :
    exec (.adminRingDisable (ringPort K) K w) s = .next ((s.setRing K.val w).modQueue K.val fun q =>
      { q with state := .draining, cause := .none, tail := q.head, held := [] }) := by
  rw [exec_adminRingDisable_of_clear hb, State.ringWrite_acts h rfl fun _ => hp, hon, State.when_true]
  have hq : ((s.setRing K.val w).host.queue K.val).state ≠ .free := fun h => QState.noConfusion (ha.symm.trans h)
  simp only [State.modQueue, if_neg hq]

end ring

/-- Settles O36: a doorbell and a write of an admin ring, by its port and by the state of its queue. -/
theorem doorbellsAreTakenFromTheirPort : Obligations.DoorbellsAreTakenFromTheirPort := by
  unfold Obligations.DoorbellsAreTakenFromTheirPort
  refine ⟨fun s p Q i hlive => ⟨fun hf => ?foreign, fun hf hp ha => ?inactive, fun ha hp hi => ?far, fun ha hp hi => ?near,
      fun ha hp hk hi => exec_headDoorbell_of_near hlive ha hp hk hi⟩, fun s p Q i hlive => ?dead,
    fun s n stamp hw ha hr => State.takeEntries_reads stamp hw ha hr, fun s K w hlive hb hsize hd hoff hw => ?enabled,
    fun s p K w hlive hp => ⟨fun hb => ?_, fun hb => ?_⟩, fun s K w hlive hb hon hp ha => exec_adminRingDisable_of_on hlive hb hon hp ha,
    fun K w => ⟨rfl, rfl, rfl, rfl, rfl⟩⟩
  case foreign =>
    exact ⟨congrArg Host.Outcome.next (State.doorbell_of_foreign hlive hf), congrArg Host.Outcome.next (State.doorbell_of_foreign hlive hf),
      congrArg Host.Outcome.next (State.doorbell_of_foreign hlive hf)⟩
  case inactive =>
    exact ⟨congrArg Host.Outcome.next (State.doorbell_of_inactive hlive hf hp ha), congrArg Host.Outcome.next (State.doorbell_of_inactive hlive hf hp ha),
      congrArg Host.Outcome.next (State.doorbell_of_inactive hlive hf hp ha)⟩
  case far => exact ⟨fun hk => exec_commandDoorbell_of_far hlive ha hp hk hi, fun hk => exec_dataMoverDoorbell_of_far hlive ha hp hk hi⟩
  case near =>
    refine ⟨fun hk => exec_dataMoverDoorbell_of_near hlive ha hp hk hi, fun hk hb => ?_, fun hk hb => ?_⟩
    · rw [exec_commandDoorbell_of_near hlive ha hp hk hi, if_neg hb]
    · rw [exec_commandDoorbell_of_near hlive ha hp hk hi, if_pos hb]
  case dead =>
    exact ⟨congrArg Host.Outcome.next (State.doorbell_of_dead hlive), congrArg Host.Outcome.next (State.doorbell_of_dead hlive),
      congrArg Host.Outcome.next (State.doorbell_of_dead hlive)⟩
  case enabled =>
    exact ⟨_, exec_adminRingEnable_of_off hlive hb hsize hd hoff, HostSide.queue_setQueue _ _ hw, fun m hm => HostSide.queue_setQueue_other _ _ hw hm, rfl, rfl⟩
  · rw [exec_adminRingEnable_of_set hb, State.ringWrite_of_foreign hlive hp]
  · rw [exec_adminRingDisable_of_clear hb, State.ringWrite_of_foreign hlive hp]

/-! ### The merged order (R327, R350) -/

section distaff
variable {d : IoDie} {e : Stamped} {t : BitVec 64}

theorem exec_distaffHeartbeat_of_present (h : s.spin.present.get d = true) :
    exec (.distaffHeartbeat d) s = .next { s with spin := { s.spin with distaff := s.spin.distaff.mod d fun x => { x with ownSent := s.time.lea } } } :=
  congrArg Host.Outcome.next (by rw [h, State.when_true])

theorem exec_peerStampReceive_of_linked (h : s.spin.present.get d = true) (hw : 4 ≤ s.spin.width) :
    exec (.peerStampReceive d t) s = .next { s with spin := { s.spin with distaff := s.spin.distaff.mod d fun x => { x with peerSeen := later x.peerSeen t } } } :=
  congrArg Host.Outcome.next (by rw [h, decide_eq_true hw, Bool.and_self, State.when_true])

theorem exec_peerStampReceive_of_narrow (hw : s.spin.width < 4) : exec (.peerStampReceive d t) s = .next s :=
  congrArg Host.Outcome.next (by rw [decide_eq_false (Nat.not_le.2 hw), Bool.and_false, State.when_false])

theorem Two.get_mod_same {α : Type} (x : Two α) (i : Fin 2) (f : α → α) : (x.mod i f).get i = f (x.get i) := Two.get_set_same x i _

theorem Two.get_mod_other {α : Type} (x : Two α) (i : Fin 2) (f : α → α) : (x.mod i f).get (other i) = x.get (other i) := Two.get_set_other x (other_ne i) _

theorem State.release_of_assigned (h : opcodeAssigned e.opcode = true) : s.release e = { s with spin := { s.spin with
      released := s.spin.released + 1
      releaseLast := min (since e.stamp s.time.lea) 0xFFFF
      releaseMax := max s.spin.releaseMax (min (since e.stamp s.time.lea) 0xFFFF)
      merged := s.insertMerged e s.spin.merged } } := by
  have hins : ∀ (sp : Spin) (l : List Stamped), ({ s with spin := sp } : State).insertMerged e l = s.insertMerged e l := by
    intro sp l
    induction l with
    | nil => rfl
    | cons x l ih => simp only [State.insertMerged, ih]; rfl
  unfold State.release
  extract_lets ns sp s1
  rw [if_pos h]
  exact congrArg (fun l => ({ s1 with spin := { s1.spin with merged := l } } : State)) (hins _ _)

theorem State.release_of_unassigned (h : opcodeAssigned e.opcode = false) : s.release e = selkan { op := e.opcode } e.cmd { noFeature := true } id { s with spin := { s.spin with
      released := s.spin.released + 1
      releaseLast := min (since e.stamp s.time.lea) 0xFFFF
      releaseMax := max s.spin.releaseMax (min (since e.stamp s.time.lea) 0xFFFF) } } :=
  if_neg (by simp [h])

theorem leNat_take_drop_lt {xs : List Byte} {i j : Nat} (h : i + j ≤ xs.length) : leNat ((xs.drop i).take j) < 2 ^ (8 * j) := by
  have hl : ((xs.drop i).take j).length = j := by rw [List.length_take, List.length_drop]; omega
  have hlt := leNat_lt ((xs.drop i).take j)
  rwa [hl, show 256 = 2 ^ 8 from rfl, ← pow_mul] at hlt

end distaff

/-- Settles O37: each Distaff instruction by the die and the link, and a released entry by its opcode. -/
theorem distaffsReleaseInStampOrder : Obligations.DistaffsReleaseInStampOrder := by
  unfold Obligations.DistaffsReleaseInStampOrder
  refine ⟨fun s d h => ⟨_, exec_distaffHeartbeat_of_present h, rfl, ?_, ?_, Two.get_mod_other ..⟩,
    fun s d x h hw => ⟨_, exec_peerStampReceive_of_linked h hw, rfl, ?_, Two.get_mod_other ..⟩,
    fun s d x hw => exec_peerStampReceive_of_narrow hw,
    fun s d h hb => congrArg Host.Outcome.next (if_pos (by simp [h, hb])),
    fun s d h => congrArg Host.Outcome.next (if_neg (by rcases h with h | h <;> simp [h])),
    fun s e h => ?assigned, fun s e h he hm hcut hnew hdl => ?unassigned,
    fun s e x l => ⟨fun h => if_pos h, fun h => if_neg (by simp [h])⟩, fun e h => ⟨?_, ?_, ?_, rfl⟩⟩
  · exact congrArg Distaff.ownSent (Two.get_mod_same ..)
  · rw [Two.get_mod_same]
  · rw [Two.get_mod_same]
  case assigned =>
    rw [State.release_of_assigned h]
    exact ⟨rfl, rfl, rfl, rfl, rfl⟩
  case unassigned =>
    have hcheck {u : State} (hq : u.queue e.cmd.queue.val = s.queue e.cmd.queue.val) :
        check u { op := e.opcode } e.cmd { noFeature := true } = some { status := .badOpcode } :=
      check_of_noFeature (by rw [hq]; exact hnew) (by rcases hdl with hdl | hdl <;> simp [hdl]) rfl
    rw [State.release_of_unassigned h]
    refine ⟨_, ?_, ?_, ?_, selkan_refuses he hm hcut (hcheck rfl)⟩ <;> rfl
  all_goals
    simp only [Stamped.cmd, BitVec.toNat_ofNat]
    exact Nat.mod_eq_of_lt (leNat_take_drop_lt (by omega))

end
end Sys2Proof.Machine
end

section
/-! SUPPORT. What is done to every queue of a port, the data mover, and a port's link and PERST. -/

set_option Elab.async false

namespace Sys2Proof.Machine
section
variable {s : State} {p : Port} {q : QueueSt} {n m : Nat}

/-! ### Every queue of a port (R330) -/

/-- A unit that does not read the default has an entry. -/
theorem Tab.mem_of_get_ne {α : Type} {d : α} (t : Tab α) (h : t.get d n ≠ d) : (n, t.get d n) ∈ t := by
  induction t with
  | nil => exact absurd rfl h
  | cons e t ih =>
    obtain ⟨k, v⟩ := e
    rw [Tab.get_cons] at h ⊢
    split at h
    next hk => rw [if_pos hk, hk]; exact List.mem_cons_self
    next hk =>
      rw [if_neg hk]
      split at h
      · exact absurd rfl h
      next hlt => rw [if_neg hlt]; exact List.mem_cons_of_mem _ (ih h)

/-- An entry of a canonical table is what its unit reads. -/
theorem Tab.get_of_mem {α : Type} [DecidableEq α] {d v : α} (t : Tab α) (lo : Option Nat) (hw : Tab.wfFrom d lo t = true) (h : (n, v) ∈ t) :
    t.get d n = v ∧ ∀ l, lo = some l → l < n := by
  induction t generalizing lo with
  | nil => cases h
  | cons e t ih =>
    obtain ⟨k, w⟩ := e
    simp only [Tab.wfFrom, Bool.and_eq_true, decide_eq_true_eq] at hw
    obtain ⟨⟨hk, hd⟩, ht⟩ := hw
    have hlo : ∀ l, lo = some l → l < k := by rintro l rfl; simpa using hk
    rw [Tab.get_cons]
    rcases List.mem_cons.1 h with h | h
    · cases h
      exact ⟨if_pos rfl, hlo⟩
    · obtain ⟨h1, h2⟩ := ih (some k) ht h
      have hkn := h2 k rfl
      exact ⟨by rw [if_neg (by omega), if_neg (by omega), h1], fun l hl => lt_trans (hlo l hl) hkn⟩

theorem HostSide.mem_ofPort {h : HostSide} (hw : Tab.wf h.queues {} = true) : n ∈ h.ofPort p ↔ (h.queue n).port = p ∧ (h.queue n).state ≠ .free := by
  unfold HostSide.ofPort
  simp only [List.mem_map, List.mem_filter, Bool.and_eq_true, decide_eq_true_eq]
  constructor
  · rintro ⟨⟨k, v⟩, ⟨hmem, hp, hs⟩, rfl⟩
    rw [show h.queue k = v from (Tab.get_of_mem _ none hw hmem).1]
    exact ⟨hp, hs⟩
  · rintro ⟨hp, hs⟩
    exact ⟨(n, h.queue n), ⟨Tab.mem_of_get_ne _ fun h0 => hs (congrArg QueueSt.state h0), hp, hs⟩, rfl⟩

/-- A visit of the queues numbered `ns`, each of which changes the queue visited alone and leaves it with `Q`. -/
theorem State.forEach_queues {Q : QueueSt → Prop} {f : Nat → State → State}
    (hf : ∀ (u : State) (n : Nat), Tab.wf u.host.queues {} = true →
      Tab.wf (f n u).host.queues {} = true ∧ Q ((f n u).queue n) ∧ ∀ m, m ≠ n → (f n u).queue m = u.queue m)
    (ns : List Nat) (hw : Tab.wf s.host.queues {} = true) :
    Tab.wf (s.forEach ns f).host.queues {} = true ∧ ∀ n, (n ∈ ns → Q ((s.forEach ns f).queue n)) ∧ (n ∉ ns → (s.forEach ns f).queue n = s.queue n) := by
  induction ns generalizing s with
  | nil => exact ⟨hw, fun n => ⟨fun h => absurd h List.not_mem_nil, fun _ => rfl⟩⟩
  | cons k ns ih =>
    obtain ⟨h1, h2, h3⟩ := hf s k hw
    obtain ⟨h4, h5⟩ := ih h1
    refine ⟨h4, fun n => ⟨fun hn => ?_, fun hn => ?_⟩⟩
    · by_cases hk : n ∈ ns
      · exact (h5 n).1 hk
      · have : n = k := (List.mem_cons.1 hn).resolve_right hk
        rw [State.forEach_cons, (h5 n).2 hk, this]
        exact h2
    · rw [List.mem_cons, not_or] at hn
      rw [State.forEach_cons, (h5 n).2 hn.2, h3 n hn.1]

theorem State.queueError_host (cause : QCause) : (s.queueError n cause).host = s.host.setQueue n { s.queue n with state := .error, cause := cause } := by
  unfold State.queueError
  have h := State.eventQueueGone_host (s := s) (n := n)
  simp only [State.fire, State.modQueue, h]
  rfl

/-- A queue whose port is lost. -/
theorem State.queueDown_queue (hw : Tab.wf s.host.queues {} = true) (f : QueueSt → QueueSt) (hf : ∀ q, (f q).state = q.state ∧ (f q).cause = q.cause) :
    let t := ((s.loseEntries n).queueError n .linkDown).modQueue n f
    Tab.wf t.host.queues {} = true ∧ ((t.queue n).state = .error ∧ (t.queue n).cause = .linkDown) ∧ ∀ m, m ≠ n → t.queue m = s.queue m := by
  intro t
  have hw1 : Tab.wf ((s.loseEntries n).queueError n .linkDown).host.queues {} = true := by
    rw [State.queueError_host]; exact HostSide.wf_setQueue _ _ hw
  have hq : t.queue n = _ := State.queue_modQueue f hw1
  have hu : ∀ m, ((s.loseEntries n).queueError n .linkDown).queue m = _ := fun m => congrArg (fun h : HostSide => h.queue m) (State.queueError_host ..)
  refine ⟨State.wf_modQueue _ hw1, ?_, fun m hm => ?_⟩
  · have hn := (hu n).trans (HostSide.queue_setQueue _ _ hw)
    rw [hq, (hf _).1, (hf _).2, hn]
    exact ⟨rfl, rfl⟩
  · exact (State.queue_modQueue_other f hw1 hm).trans ((hu m).trans (HostSide.queue_setQueue_other _ _ hw hm))

theorem State.freed_queue (hw : Tab.wf s.host.queues {} = true) : Tab.wf ((s.loseEntries n).freeQueue n).host.queues {} = true ∧
    ((s.loseEntries n).freeQueue n).queue n = {} ∧ ∀ m, m ≠ n → ((s.loseEntries n).freeQueue n).queue m = s.queue m := by
  have hh : ((s.loseEntries n).eventQueueGone n).host.queues = s.host.queues := by rw [State.eventQueueGone_host]; rfl
  have hw1 : Tab.wf ((s.loseEntries n).eventQueueGone n).host.queues {} = true := by rw [hh]; exact hw
  exact ⟨HostSide.wf_setQueue _ _ hw1, HostSide.queue_setQueue _ _ hw1, fun m hm => (HostSide.queue_setQueue_other _ _ hw1 hm).trans (congrArg (fun qs : Tab QueueSt => qs.get {} m) hh)⟩

/-- Every queue of a port that is lost is in ERROR. -/
theorem State.queuesDown_queue (hw : Tab.wf s.host.queues {} = true) (hp : (s.queue n).port = p) (hs : (s.queue n).state ≠ .free) :
    ((s.queuesDown p).queue n).state = .error ∧ ((s.queuesDown p).queue n).cause = .linkDown :=
  ((State.forEach_queues (Q := fun q => q.state = .error ∧ q.cause = .linkDown) (fun _ _ hu => State.queueDown_queue hu (fun q => { q with held := [] }) fun _ => ⟨rfl, rfl⟩) _ hw).2 n).1
    ((HostSide.mem_ofPort hw).2 ⟨hp, hs⟩)

/-- A lost link stops streams, which no host side sees. -/
theorem State.stopStreams_frame : (s.stopStreams p).host = s.host ∧ (s.stopStreams p).mems = s.mems :=
by
  unfold State.stopStreams
  exact ⟨State.forEach_keeps (·.host) (by intros; rfl) _ _, State.forEach_keeps (·.mems) (by intros; rfl) _ _⟩

@[simp] theorem State.endService_mems (p : Port) : (s.endService p).mems = s.mems :=
  State.forEach_keeps (·.mems) (f := fun src s => s.modSrc src (2 + p.val) SrcAt.ended) (fun _ _ => rfl) _ _

/-- Freeing the queues of a port writes no memory, and leaves the ports and the admin rings as they were. -/
theorem State.freeAll_frame (ns : List Nat) : let t := s.forEach ns fun n s => (s.loseEntries n).freeQueue n
    t.mems = s.mems ∧ t.host.ports = s.host.ports ∧ t.host.adminRing = s.host.adminRing := by
  have hgone (u : State) (n : Nat) : (u.eventQueueGone n).mems = u.mems := by
    unfold State.eventQueueGone
    exact State.when_keeps (·.mems) (State.endService_mems _) _
  have hhost (u : State) (n : Nat) : ((u.loseEntries n).freeQueue n).host = (u.loseEntries n).host.setQueue n {} :=
    congrArg (HostSide.setQueue · n {}) State.eventQueueGone_host
  refine ⟨State.forEach_keeps (·.mems) (f := fun n s => (s.loseEntries n).freeQueue n) (fun n u => (hgone (u.loseEntries n) n).trans rfl) _ _,
    State.forEach_keeps (·.host.ports) (fun n u => (congrArg HostSide.ports (hhost u n)).trans rfl) _ _,
    State.forEach_keeps (·.host.adminRing) (fun n u => (congrArg HostSide.adminRing (hhost u n)).trans rfl) _ _⟩

/-! ### The data mover and a port's life (R314, R328-R330) -/

section mover
variable {x : Move} {b : Bool} {t : Transfer} {seq : BitVec 32} {Q : Queue}

/-- The transfer that an entry of the data mover asks for. -/
def moveTransfer (x : Move) (q : QueueSt) (toDevice : Bool) : Transfer :=
  { queue := x.queue.val, port := q.port, cq := q.cq, seq := x.seq, toDevice := toDevice, hostAddr := x.hostAddr.toNat, devAddr := x.devAddr.toNat, bytes := x.bytes.toNat }

/-- A data-mover queue whose head entry can be read. -/
def State.MoverReads (s : State) (q : QueueSt) : Prop :=
  s.portLive q.port = true ∧ q.kind = .dataMover ∧ q.state = .active ∧ q.head ≠ q.tail ∧ s.ringReaches q = true

theorem State.move_of_reads (h : s.MoverReads (s.queue x.queue.val)) : s.move x b =
    if x.flags.getLsbD 0 && s.host.transfers.any (fun t => decide (t.queue = x.queue.val)) then s
    else if s.moveBad x then
      ((s.modQueue x.queue.val fun q => { q with head := q.head + 1, done := q.done + 1 }).moverDone (moveTransfer x (s.queue x.queue.val) b) .badParam 0).queueError
        x.queue.val .badEntry
    else { s.modQueue x.queue.val fun q => { q with head := q.head + 1, done := q.done + 1 } with
      host := { (s.modQueue x.queue.val fun q => { q with head := q.head + 1, done := q.done + 1 }).host with
        transfers := s.host.transfers ++ [moveTransfer x (s.queue x.queue.val) b] } } := by
  obtain ⟨hl, hk, ha, hne, hr⟩ := h
  unfold State.move
  extract_lets n q t
  rw [if_neg (by simp [q, n, hl, hk, ha, hne]), if_neg (by simp [q, n, hr])]
  rfl

theorem State.move_of_fenced (h : s.MoverReads (s.queue x.queue.val)) (ht : ∃ t ∈ s.host.transfers, t.queue = x.queue.val) (hf : x.flags.getLsbD 0 = true) :
    s.move x b = s := by
  rw [State.move_of_reads h, if_pos]
  rw [hf, Bool.true_and, List.any_eq_true]
  obtain ⟨t, ht, hq⟩ := ht
  exact ⟨t, ht, decide_eq_true hq⟩

theorem State.move_of_plain (h : s.MoverReads (s.queue x.queue.val)) (hf : x.flags = 0) : s.move x b =
    if s.moveBad x then
      ((s.modQueue x.queue.val fun q => { q with head := q.head + 1, done := q.done + 1 }).moverDone (moveTransfer x (s.queue x.queue.val) b) .badParam 0).queueError
        x.queue.val .badEntry
    else { s.modQueue x.queue.val fun q => { q with head := q.head + 1, done := q.done + 1 } with
      host := { (s.modQueue x.queue.val fun q => { q with head := q.head + 1, done := q.done + 1 }).host with
        transfers := s.host.transfers ++ [moveTransfer x (s.queue x.queue.val) b] } } := by
  rw [State.move_of_reads h, if_neg]
  simp [hf]

/-- The transfer that ends, taken from those under way. -/
def State.withoutTransfer (s : State) (t : Transfer) : State := { s with host := { s.host with transfers := s.host.transfers.erase t } }

theorem exec_dataMoveComplete_of_found (h : (s.host.transfers.find? fun t => decide (t.queue = Q.val) && decide (t.seq = seq)) = some t) :
    exec (.dataMoveComplete Q seq) s = .next (if t.lost then s.withoutTransfer t
      else if t.toDevice then (s.withoutTransfer t).moveIn t else (s.withoutTransfer t).moveOut t) := by
  refine congrArg Host.Outcome.next ?_
  rw [h]
  rfl

theorem exec_dataMoveComplete_of_none (h : ∀ t ∈ s.host.transfers, t.queue = Q.val → t.seq ≠ seq) : exec (.dataMoveComplete Q seq) s = .next s := by
  have hn : (s.host.transfers.find? fun t => decide (t.queue = Q.val) && decide (t.seq = seq)) = none := by
    rw [List.find?_eq_none]
    intro t ht
    simpa using h t ht
  refine congrArg Host.Outcome.next ?_
  rw [hn]

theorem exec_perstAssert_of_low (h : (s.host.ports.get p).perst = false) :
    exec (.perstAssert p) s = .next (((s.modPort p fun x => { x with perst := true }).portReset p).stopStreams p) :=
  congrArg Host.Outcome.next (if_neg (by simp [h]))

/-- What PERST of a port leaves. -/
theorem State.portReset_leaves (hw : Tab.wf s.host.queues {} = true) (hr : Tab.wf s.host.adminRing 0 = true) :
    let t := s.portReset p
    (t.host.ports.get p).perst = (s.host.ports.get p).perst ∧ (t.host.ports.get p).up = false ∧ (t.host.ports.get p).bar2Base = 0 ∧
      t.host.adminRing.get 0 (2 * p.val) = 0 ∧ t.host.adminRing.get 0 (2 * p.val + 1) = 0 ∧ t.mems = s.mems ∧
      t.host.ports.get (other p) = s.host.ports.get (other p) ∧
      (∀ n, (s.queue n).port = p → (t.queue n).state = .free) ∧ ∀ n, (s.queue n).port ≠ p → t.queue n = s.queue n := by
  unfold State.portReset
  extract_lets s1 s2 s3 k h3 t
  obtain ⟨hmems, hports, hring⟩ := State.freeAll_frame (s := s) (s.host.ofPort p)
  have hhost : s2.host = s1.host := State.endService_host _
  have hp : s3.host.ports = s1.host.ports.mod p fun x => { x with up := false, bar2Base := 0, msix := [], pba := [], heldDb := [] } :=
    congrArg (fun h : HostSide => h.ports.mod p fun x => { x with up := false, bar2Base := 0, msix := [], pba := [], heldDb := [] }) hhost
  have hport : t.host.ports.get p = { s1.host.ports.get p with up := false, bar2Base := 0, msix := [], pba := [], heldDb := [] } :=
    (congrArg (Two.get · p) hp).trans (Two.get_mod_same ..)
  have hring3 : s3.host.adminRing = s.host.adminRing := (congrArg HostSide.adminRing hhost).trans hring
  have hset : Tab.wf (s3.host.adminRing.set 0 k 0) 0 = true := Tab.wf_set _ _ (by rw [hring3]; exact hr)
  have hqueue (n : Nat) : t.queue n = s1.queue n := (congrArg (fun h : HostSide => h.queue n) hhost :)
  obtain ⟨-, hfreed⟩ := State.forEach_queues (Q := fun q => q = {}) (f := fun n s => (s.loseEntries n).freeQueue n) (fun u n hu => State.freed_queue hu) (s.host.ofPort p) hw
  refine ⟨?_, ?_, ?_, ?_, Tab.get_set_same _ _ hset, (State.endService_mems _).trans hmems, ?_, fun n hn => ?_, fun n hn => ?_⟩
  · rw [hport, show s1.host.ports = s.host.ports from hports]
  · rw [hport]
  · rw [hport]
  · exact (Tab.get_set_other (by omega) _ hset).trans (Tab.get_set_same _ _ (by rw [hring3]; exact hr))
  · refine (congrArg (Two.get · (other p)) hp).trans ((Two.get_mod_other ..).trans ?_)
    rw [show s1.host.ports = s.host.ports from hports]
  · rw [hqueue]
    by_cases hs : (s.queue n).state = .free
    · rw [(hfreed n).2 fun hmem => ((HostSide.mem_ofPort hw).1 hmem).2 hs]
      exact hs
    · rw [(hfreed n).1 ((HostSide.mem_ofPort hw).2 ⟨hn, hs⟩)]
  · rw [hqueue]
    exact (hfreed n).2 fun hmem => hn ((HostSide.mem_ofPort hw).1 hmem).1

end mover

/-- Settles O39: the data mover by its entry and its transfer, and a port's life by the link and PERST. That all bytes of a transfer move in one
DATA_MOVE_COMPLETE, and that both rows of the mover take an entry whose OP is reserved (log 106), are the model's choices. -/
theorem transfersMoveTheirBytes : Obligations.TransfersMoveTheirBytes := by
  unfold Obligations.TransfersMoveTheirBytes
  refine ⟨fun s m => ?moved, fun s Q seq t ht => ?completed, fun s Q seq h => exec_dataMoveComplete_of_none h,
    fun s p h => congrArg Host.Outcome.next (if_pos h), fun s p hw n hp hs => State.queuesDown_queue hw hp hs, fun s p h hw hr => ?perst,
    fun s p h => congrArg Host.Outcome.next (if_pos h), fun s p => rfl, fun s p h hd hs => congrArg Host.Outcome.next (if_pos (by simp [h, hd, hs])),
    fun s p h => congrArg Host.Outcome.next (if_neg (by simp [h]))⟩
  case moved =>
    intro n q t s1 hl hk ha hne hr
    have h : s.MoverReads q := ⟨hl, hk, ha, hne, hr⟩
    refine ⟨fun ht hf => ⟨congrArg Host.Outcome.next (State.move_of_fenced h ht hf), congrArg Host.Outcome.next (State.move_of_fenced h ht hf)⟩,
      fun hop hf hrest hpos hle hplace => ?_, fun hf hbad => ?_⟩
    · have hgood : s.moveBad m = false := by
        have hplace' : ¬s.devPlace m.devAddr.toNat m.bytes.toNat = .reserved := hplace
        have hb : m.bytes ≠ 0 := by rintro hb; rw [hb] at hpos; exact absurd hpos (by decide)
        simpa [State.moveBad, hop, hf, hrest, hplace'] using ⟨hb, hle⟩
      constructor <;> refine congrArg Host.Outcome.next ((State.move_of_plain h hf).trans ?_) <;> rw [if_neg (by simp [hgood])] <;> rfl
    · have hbad' : s.moveBad m = true := by
        rcases hbad with hop | hplace
        · simp [State.moveBad, hop]
        · have hplace' : s.devPlace m.devAddr.toNat m.bytes.toNat = .reserved := hplace
          simp [State.moveBad, hplace']
      constructor <;> refine congrArg Host.Outcome.next ((State.move_of_plain h hf).trans ?_) <;> rw [if_pos hbad'] <;> rfl
  case completed =>
    intro s1
    refine ⟨fun hl => ?_, fun hl hd => ?_, fun hl hd hb => ?_⟩ <;> rw [exec_dataMoveComplete_of_found ht, hl]
    · rfl
    · rw [hd]; rfl
    · rw [hd]
      refine congrArg Host.Outcome.next ?_
      simp only [Bool.false_eq_true, if_false, State.moveOut]
      have hb' : (s.withoutTransfer t).devBad ((s.withoutTransfer t).devPlace t.devAddr t.bytes) t.bytes = [] := hb
      rw [hb']
      rfl
  case perst =>
    obtain ⟨h1, h2, h3, h4, h5, h6, h7, h8, h9⟩ := State.portReset_leaves (s := s.modPort p fun x => { x with perst := true }) (p := p) hw hr
    have hq : ∀ (u : State) n, (u.stopStreams p).queue n = u.queue n := fun u n => congrArg (fun h : HostSide => h.queue n) State.stopStreams_frame.1
    refine ⟨_, exec_perstAssert_of_low h, ?_⟩
    rw [State.stopStreams_frame.1, State.stopStreams_frame.2]
    refine ⟨h1.trans (congrArg PortSt.perst (Two.get_mod_same ..)), h2, h3, h4, h5, h6, h7.trans (Two.get_mod_other ..), fun n hn => ?_, fun n hn => ?_⟩
    · rw [hq]; exact h8 n hn
    · rw [hq]; exact h9 n hn

end
end Sys2Proof.Machine
end

section
/-! SUPPORT. Requests at a line's home, what a write of HBM stores, and the care of the stacks. -/

set_option Elab.async false

namespace Sys2Proof.Machine
section
variable {s : State} {pa errs l n : Nat} {tag : BitVec 16} {gen : BitVec 10} {data bs : List Byte} {bad : Bool}

/-! ### Where a request stands at its home, and what its line's check says (R248, R250, R251, R262) -/

theorem State.atHome_of_beyond (h : hbmBytes ≤ pa) : s.atHome pa = .refused 2 := if_pos h

theorem State.atHome_of_failed (h : pa < hbmBytes) (hf : (s.stk (stackOf pa)).state = .failed) : s.atHome pa = .refused 1 :=
  (if_neg (Nat.not_le.2 h)).trans (if_pos hf)

theorem State.serves_iff {k : Nat} : s.serves k = true ↔ (s.stk k).state = .ready ∨ (s.stk k).state = .throttled := by
  simp [State.serves]

theorem State.atHome_of_serves (h : pa < hbmBytes) (hs : s.serves (stackOf pa) = true) : s.atHome pa = .serve := by
  have hf : (s.stk (stackOf pa)).state ≠ .failed := fun hf => by
    rcases State.serves_iff.1 hs with hr | hr <;> rw [hf] at hr <;> cases hr
  exact (if_neg (Nat.not_le.2 h)).trans ((if_neg hf).trans (if_pos hs))

theorem State.probe_of_poisoned (e : Nat) (h : s.mems.hbmPoison.get false l = true) : s.probe l e = (.poisoned, s) := if_pos h

theorem State.probe_of_sound (h : s.mems.hbmPoison.get false l = false) (e : Nat) : s.probe l e =
    if e = 0 then (.clean, s)
    else if e ≤ 3 then (.corrected, s.lineCe l)
    else if e ≤ 5 then (.found, s.lineBad l)
    else match (Config.word s.free).toNat % 3 with
      | 0 => (.found, s.fresh.lineBad l)
      | 1 => (.corrected, (s.spoil l).lineCe l)
      | _ => (.clean, s.spoil l) := if_neg (by rw [h]; exact Bool.false_ne_true)

theorem State.countCheck_of_good {who : HbmWho} {f : LineCheck} {g : Cause → Cause} (h : f.bad = false) : s.countCheck who f l g = s := by
  cases f with
  | clean => cases who <;> rfl
  | corrected => cases who <;> rfl
  | found => cases h
  | poisoned => cases h

theorem State.countCheck_unit_of_bad {f : LineCheck} {g : Cause → Cause} (h : f.bad = true) : s.countCheck .unit f l g = s.hbmConsume (128 * l) g := by
  cases f with
  | clean => cases h
  | corrected => cases h
  | found => rfl
  | poisoned => rfl

@[simp] theorem State.hbmConsume_mems (f : Cause → Cause) : (s.hbmConsume pa f).mems = s.mems := by simp [State.hbmConsume, State.fire, State.bump]

/-- The line of an address, admitted and checked. -/
def State.lineAt (s : State) (pa errs : Nat) : LineCheck × State := ((s.linkGood (stackOf pa)).admitLine (pa / 128) false).probe (pa / 128) errs

theorem exec_hbmRead_of_serves {who : HbmWho} (h : pa < hbmBytes) (hs : s.serves (stackOf pa) = true) (hh : s.hotFull (pa / 128) = false) :
    exec (.hbmRead pa errs tag gen who) s = .next
      (((s.lineAt pa errs).2.countCheck who (s.lineAt pa errs).1 (pa / 128) (s.slotBy tag.toNat)).when (decide (who = .unit)) fun u =>
        (u.recopy pa tag.toNat gen).answer pa tag gen (if u.mems.hbmBad pa (s.slot tag.toNat).bytes then 3 else 0) (u.mems.hbmBad pa (s.slot tag.toNat).bytes)
          (u.mems.hbm.read pa (s.slot tag.toNat).bytes)) := by
  refine congrArg Host.Outcome.next ?_
  rw [State.atHome_of_serves h hs]
  exact if_neg (by rw [hh]; exact Bool.false_ne_true)

theorem exec_hbmWrite_of_serves (h : pa < hbmBytes) (hs : s.serves (stackOf pa) = true) (hh : s.hotFull (pa / 128) = false) (hl : pa + data.length ≤ hbmBytes) :
    exec (.hbmWrite pa data errs bad) s = .next
      (if pa % 128 = 0 ∧ data.length ≥ 128 then ((s.linkGood (stackOf pa)).admitLine (pa / 128) false).storeHbm pa data bad
      else if (s.lineAt pa errs).1 = .found then (s.lineAt pa errs).2.hbmConsume (128 * (pa / 128)) else (s.lineAt pa errs).2.storeHbm pa data bad) := by
  refine congrArg Host.Outcome.next ?_
  rw [State.atHome_of_serves h hs]
  exact if_neg (by rw [hh, decide_eq_false (Nat.not_lt.2 hl)]; exact Bool.false_ne_true)

section atomic
variable {aop : BitVec 4} {size : Nat} {o c : BitVec 128}

theorem exec_hbmAtomic_of_refused {st : Nat} (h : s.atHome pa = .refused st) :
    exec (.hbmAtomic pa aop size o c tag gen errs) s = .next (s.answer pa tag gen st false []) := by
  refine congrArg Host.Outcome.next ?_
  rw [h]

theorem exec_hbmAtomic_of_journaled {e : JEntry} (h : pa < hbmBytes) (hs : s.serves (stackOf pa) = true)
    (hj : s.journaled (dieOfLine (pa / 128)) true s.node tag gen.toNat = some e) :
    exec (.hbmAtomic pa aop size o c tag gen errs) s = .next (s.answer pa tag gen 0 false (leBytes 16 e.reply.toNat)) := by
  refine congrArg Host.Outcome.next ?_
  rw [State.atHome_of_serves h hs, hj]

theorem exec_hbmAtomic_of_new (h : pa < hbmBytes) (hs : s.serves (stackOf pa) = true)
    (hj : s.journaled (dieOfLine (pa / 128)) true s.node tag gen.toNat = none) :
    exec (.hbmAtomic pa aop size o c tag gen errs) s = .next
      (if !aopAllowed aop.toNat size || decide (pa % size ≠ 0) then s.answer pa tag gen 2 false []
      else if decide (s.jUsed (dieOfLine (pa / 128)) true ≥ 32768) || s.hotFull (pa / 128) then s
      else if (s.lineAt pa errs).1.bad then ((s.lineAt pa errs).2.hbmConsume (128 * (pa / 128)) (s.slotBy tag.toNat)).answer pa tag gen 3 true []
      else (((s.lineAt pa errs).2.atomicAt pa aop.toNat size o c).2.journal
          ⟨dieOfLine (pa / 128), true, s.node, tag, gen.toNat, ((s.lineAt pa errs).2.atomicAt pa aop.toNat size o c).1, s.time.lea⟩).answer pa tag gen 0 false
            (leBytes 16 ((s.lineAt pa errs).2.atomicAt pa aop.toNat size o c).1.toNat)) := by
  refine congrArg Host.Outcome.next ?_
  rw [State.atHome_of_serves h hs, hj]
  rfl

end atomic

/-! ### What a write of HBM stores (R249, R250) -/

theorem State.storeHbm_mems : (s.storeHbm pa bs bad).mems = s.mems.storeHbm pa bs bad := by
  have hmerge : (s.forEach (s.mems.hbmMerges pa bs.length) fun l s => s.hbmConsume (128 * l)).mems = s.mems :=
    State.forEach_keeps (·.mems) (fun l u => State.hbmConsume_mems id) _ _
  unfold State.storeHbm
  extract_lets s1 s2
  refine (State.when_keeps (·.mems) (State.forEach_keeps (·.mems) (fun k u => ?_) _ _) _).trans (congrArg (Mems.storeHbm · pa bs bad) hmerge)
  exact State.when_keeps (·.mems) rfl _

theorem linesOf_of_one_line (h : pa / 128 = (pa + n - 1) / 128) (hn : 0 < n) : linesOf pa n = [pa / 128] := by
  rw [linesOf, show (pa + n + 127) / 128 - pa / 128 = 1 by omega]
  simp

theorem Mems.storeHbm_of_merges {m : Mems} (h : pa / 128 = (pa + bs.length - 1) / 128) (hb : bs ≠ []) (hm : m.hbmMerges pa bs.length ≠ []) :
    m.storeHbm pa bs bad = m := by
  have hl := linesOf_of_one_line h (List.length_pos_iff.2 hb)
  have hsub : (m.hbmMerges pa bs.length).Sublist [pa / 128] := hl ▸ List.filter_sublist
  have hmem := (List.sublist_singleton.1 hsub).resolve_left hm
  rw [Mems.storeHbm_eq_foldl_storeLine, hmem, hl]
  simp

/-- Settles O52: a request by where it stands at its home and by the check of its line. That a descriptor's request that has moved its line moves it as
it was read (log 42) is the model's choice. -/
theorem homeLinesAreReadWrittenAndUpdated : Obligations.HomeLinesAreReadWrittenAndUpdated := by
  unfold Obligations.HomeLinesAreReadWrittenAndUpdated
  refine ⟨fun s pa errs tag gen => ?home, fun s pa bs bad hw hone hb => ?stored, fun s l => ?probed, fun old op cmp => ?applied⟩
  case home =>
    intro l on p
    have hp : s.lineAt pa errs = p := rfl
    refine ⟨fun h => ?_, fun h hf => ?_, fun h hs hh => ⟨fun hg hb => ?_, fun hg hb => ?_, fun hg => ⟨?_, ?_⟩⟩, fun h hs hh data bad hl => ?_,
      fun aop size o c h hs => ⟨fun e hj => exec_hbmAtomic_of_journaled h hs hj, fun hj hbad => ?_, fun hj ha hsz hu hh => ⟨fun hg => ?_, fun hg => ?_⟩⟩⟩
    · have ht := State.atHome_of_beyond (s := s) h
      refine ⟨congrArg Host.Outcome.next ?_, congrArg Host.Outcome.next ?_, fun a n o c => exec_hbmAtomic_of_refused ht⟩ <;> rw [ht] <;> rfl
    · have ht := State.atHome_of_failed h hf
      refine ⟨congrArg Host.Outcome.next ?_, fun d b => congrArg Host.Outcome.next ?_, fun a n o c => exec_hbmAtomic_of_refused ht⟩ <;> rw [ht]
      rfl
    · rw [exec_hbmRead_of_serves h hs hh, hp, State.countCheck_of_good hg]
      refine congrArg Host.Outcome.next ((State.when_true ..).trans ?_)
      have hb' : p.2.mems.hbmBad pa (s.slot tag.toNat).bytes = false := hb
      rw [hb']
      rfl
    · rw [exec_hbmRead_of_serves h hs hh, hp, State.countCheck_unit_of_bad hg]
      refine congrArg Host.Outcome.next ((State.when_true ..).trans ?_)
      have hb' : p.2.mems.hbmBad pa (s.slot tag.toNat).bytes = true := hb
      simp only [State.hbmConsume_mems, hb']
      rfl
    · rw [exec_hbmRead_of_serves h hs hh, hp, State.countCheck_of_good hg]; rfl
    · rw [exec_hbmRead_of_serves h hs hh, hp, State.countCheck_of_good hg]; rfl
    · refine ⟨fun ha hn => ?_, fun hn hf => ?_, fun hn hf => ?_⟩ <;> rw [exec_hbmWrite_of_serves h hs hh hl, hp]
      · rw [if_pos ⟨ha, hn⟩]
      · rw [if_neg (by omega), if_neg hf]
      · rw [if_neg (by omega), if_pos hf]
    · rw [exec_hbmAtomic_of_new h hs hj, if_pos]
      rcases hbad with hbad | hbad <;> simp [hbad]
    · rw [exec_hbmAtomic_of_new h hs hj, hp, if_neg (by simp [ha, hsz]), if_neg (by rw [decide_eq_false (Nat.not_le.2 hu), hh]; exact Bool.false_ne_true), if_pos hg]
    · rw [exec_hbmAtomic_of_new h hs hj, hp, if_neg (by simp [ha, hsz]), if_neg (by rw [decide_eq_false (Nat.not_le.2 hu), hh]; exact Bool.false_ne_true), if_neg (by rw [hg]; exact Bool.false_ne_true)]
  case stored =>
    rw [State.storeHbm_mems]
    exact ⟨fun hm => Mems.storeHbm_read hw hm, fun a ha => Mems.storeHbm_get_outside hw ha, fun hm => congrArg Mems.hbm (Mems.storeHbm_of_merges hone hb hm)⟩
  case probed =>
    refine ⟨fun h e => State.probe_of_poisoned e h, fun h => ⟨?_, fun e h1 h3 => ?_, fun e h4 h5 => ?_⟩⟩ <;> rw [State.probe_of_sound h]
    · rfl
    · rw [if_neg (by omega), if_pos h3]
    · rw [if_neg (by omega), if_neg (by omega), if_pos h5]
  case applied =>
    intro o x
    have hback (y : BitVec 64) : (y.setWidth 128).setWidth 64 = y := by simp
    have hcond {b : Bool} : (if b then x.setWidth 128 else old).setWidth 64 = if b then x else o := by cases b <;> simp [o]
    refine ⟨rfl, rfl, fun h => if_pos h, fun h => if_neg h, hcond, hcond, hcond, hcond, hback _, hback _, hback _, ?_⟩
    · change (if o = cmp.setWidth 64 then x.setWidth 128 else old).setWidth 64 = _
      split <;> simp [o]

/-! ### Care of the stacks (R247, R250, R256, R257, R259, R260) -/

section stack
variable {x : StackSt} {t sk : Nat} {k : Stack}

/-- The temperatures at which a stack is throttled: those reached, or those it has not fallen below while it was. -/
def StackSt.tooHot (x : StackSt) (t sk : Nat) : Prop := 95 ≤ t ∨ 85 ≤ sk ∨ x.state = .throttled ∧ (90 < t ∨ 80 < sk)

theorem StackSt.heat_state (h : x.state = .ready ∨ x.state = .throttled) :
    (x.tooHot t sk → (x.heat t sk).state = .throttled) ∧ (¬ x.tooHot t sk → (x.heat t sk).state = .ready) := by
  have hiff : (decide (t ≥ 95) || decide (sk ≥ 85) || (decide (x.state = .throttled) && (decide (t > 90) || decide (sk > 80)))) = true ↔ x.tooHot t sk := by
    simp [StackSt.tooHot, or_assoc]
  unfold StackSt.heat
  extract_lets hot y
  rw [if_pos h]
  exact ⟨fun hh => if_pos (hiff.2 hh), fun hh => if_neg fun hc => hh (hiff.1 hc)⟩

theorem StackSt.heat_state_other (h1 : x.state ≠ .ready) (h2 : x.state ≠ .throttled) : (x.heat t sk).state = x.state := by
  unfold StackSt.heat
  rw [if_neg (by simp [h1, h2])]

theorem StackSt.heat_read : (x.heat t sk).tempC = t ∧ (x.heat t sk).skeinC = sk ∧ (x.heat t sk).fast = fastAt x.fast t := by
  unfold StackSt.heat
  split <;> exact ⟨rfl, rfl, rfl⟩

theorem exec_stackTempRead_of_powered (h1 : (s.stk k).state ≠ .off) (h2 : (s.stk k).state ≠ .failed) :
    exec (.stackTempRead k t sk) s = .next (((((s.modStk k fun _ => (s.stk k).heat t sk).when (decide (((s.stk k).heat t sk).fast ≠ (s.stk k).fast)) fun u =>
        u.fire (0x104 + 8 * k) ((s.stk k).heat t sk).fast.toNat k t)).when (decide (((s.stk k).heat t sk).state ≠ (s.stk k).state)) fun u =>
        u.fire (0x101 + 8 * k) (decide (((s.stk k).heat t sk).state = .throttled)).toNat k t).when
        (decide (((s.stk k).heat t sk).state = .throttled) && decide ((s.stk k).state = .ready)) fun u => u.bump Ctr.hbmThrottle k) := by
  refine congrArg Host.Outcome.next (if_neg ?_)
  simp [h1, h2]

end stack

section slots
variable {h : HotSlot}

theorem exec_hotSlotFree_of_slot (hl : s.hotSlot l = some h) : exec (.hotSlotFree l) s = .next
    (if !before s.time.lea h.served && s.elapsed h.served 1000 && !before s.time.lea h.tFree then
      { s with memory := { s.memory with hot := s.memory.hot.filter fun x => !decide (x.line = l) } }
    else s) := by
  refine congrArg Host.Outcome.next ?_
  rw [hl]

end slots

/-- Settles O53: each reading and each scrub by the state of the stack and the check of the line. The codes 1 and 0 of the notes of a stack's throttle and
refresh (log 85) are the model's choice. -/
theorem stacksAreScrubbedCooledAndKept : Obligations.StacksAreScrubbedCooledAndKept := by
  unfold Obligations.StacksAreScrubbedCooledAndKept
  refine ⟨fun s l => ⟨_, rfl, rfl, ?_, fun k hk => ?_⟩, fun s l errs => ?scrub, fun s k => ⟨fun hs => ?_, fun hs hl => ?_, fun hs hl => ?_⟩,
    fun s k t sk => ?temp, fun x t k => ?heat, fun s l h hl => ⟨fun h1 h2 h3 => ?_, fun hno => ?_⟩, fun s k => ⟨_, rfl, rfl, fun e => ?_⟩⟩
  · simp
  · simp [hk]
  case scrub =>
    intro k p
    refine ⟨fun h => congrArg Host.Outcome.next (if_neg ?_), fun hs hl => ?_⟩
    · rcases h with h | h
      · rw [h]; exact Bool.false_ne_true
      · rw [decide_eq_false (Nat.not_lt.2 h), Bool.and_false]; exact Bool.false_ne_true
    · have hserve : exec (.hbmScrub l errs) s = .next (match p.1 with
          | .corrected => p.2.bump Ctr.hbmScrubCe k
          | .found => p.2.hbmSpindleRead (128 * l)
          | _ => p.2) := congrArg Host.Outcome.next (if_pos (by rw [hs, decide_eq_true hl]; rfl))
      refine ⟨fun hp => ?_, fun hp => ?_, fun hp => ?_⟩
      · rw [hserve, hp]
      · rw [hserve, hp]
      · rw [hserve]
        rcases hp with hp | hp <;> rw [hp]
  · exact congrArg Host.Outcome.next (by rw [hs, State.when_false])
  · exact congrArg Host.Outcome.next (by rw [hs, State.when_true]; exact if_neg (by omega))
  · exact congrArg Host.Outcome.next (by rw [hs, State.when_true]; exact if_pos hl)
  case temp =>
    intro x y
    have hx : s.stk k = x := rfl
    have hy : x.heat t sk = y := rfl
    refine ⟨fun h => congrArg Host.Outcome.next (if_pos h), fun h1 h2 hf hst => ?_, fun hr hf ht => ?_, fun ht hf hr => ?_⟩
    · rw [exec_stackTempRead_of_powered h1 h2, hx, hy]
      have hno : (decide (x.state = .throttled) && decide (x.state = .ready)) = false := by cases x.state <;> rfl
      rw [hf, hst, hno]
      simp
    · rw [exec_stackTempRead_of_powered (by rw [hx, hr]; decide) (by rw [hx, hr]; decide), hx, hy]
      simp [hf, ht, hr]
    · rw [exec_stackTempRead_of_powered (by rw [hx, ht]; decide) (by rw [hx, ht]; decide), hx, hy]
      simp [hf, ht, hr]
  case heat =>
    obtain ⟨h1, h2, h3⟩ := StackSt.heat_read (x := x) (t := t) (sk := k)
    refine ⟨h1, h2, fun hr => ⟨fun h => ?_, fun ht hk => ?_⟩, fun hth => ⟨fun ht hk => ?_, fun h => ?_⟩, fun hr hth => StackSt.heat_state_other hr hth,
      fun ht => ?_, fun ht => ?_, fun ht ht' => ?_⟩
    · exact (StackSt.heat_state (.inl hr)).1 (h.elim .inl fun h => .inr (.inl h))
    · refine (StackSt.heat_state (.inl hr)).2 ?_
      rintro (h | h | ⟨h, -⟩)
      · omega
      · omega
      · rw [hr] at h; cases h
    · refine (StackSt.heat_state (.inr hth)).2 ?_
      rintro (h | h | ⟨-, h⟩) <;> omega
    · exact (StackSt.heat_state (.inr hth)).1 (.inr (.inr ⟨hth, h⟩))
    · rw [h3, fastAt, decide_eq_true ht, Bool.true_or]
    · rw [h3, fastAt, decide_eq_false (by omega), decide_eq_false (by omega), Bool.and_false, Bool.or_false]
    · rw [h3, fastAt, decide_eq_false (by omega), decide_eq_true ht, Bool.and_true, Bool.false_or]
  · refine ⟨_, (exec_hotSlotFree_of_slot hl).trans (congrArg Host.Outcome.next (if_pos ?_)), rfl, ?_, fun k hk => ?_⟩
    · rw [h1, h3, State.elapsed, decide_eq_true h2]; rfl
    · refine List.find?_eq_none.2 fun x hx => ?_
      simpa using (List.mem_filter.1 hx).2
    · refine (List.find?_filter ..).trans (congrArg (List.find? · s.memory.hot) ?_)
      funext x
      by_cases hxk : x.line = k
      · simp [hxk, hk]
      · simp [hxk]
  · refine (exec_hotSlotFree_of_slot hl).trans (congrArg Host.Outcome.next (if_neg ?_))
    rcases hno with hno | hno | hno
    · simp [hno]
    · simp [State.elapsed, Nat.not_le.2 hno]
    · simp [hno]
  · simp

end
end Sys2Proof.Machine
end

section
/-! SUPPORT. Handles, groups, invalidation and key rotation. -/

set_option Elab.async false

namespace Sys2Proof.Machine
section
variable {s : State} {k : CmdSpec} {c : Cmd} {v : Verdict} {h n m : Nat}

/-! ### Handles (R268) -/

theorem accepted_elapsed (t : Lea) (ns : Nat) : (accepted s k c v).elapsed t ns = s.elapsed t ns := by simp only [State.elapsed, accepted_time]

theorem accepted_freeHandle : (accepted s k c v).freeHandle = s.freeHandle := by simp only [State.freeHandle, accepted_reel, accepted_elapsed]

/-- A handle that may be given out names no region and has been out of use for 250 µs. -/
theorem State.freeHandle_free (hf : s.freeHandle = some h) :
    1 ≤ h ∧ h ≤ 8192 ∧ s.reel.regions.get none h = none ∧ ∀ g ∈ s.reel.gone, g.1 = h → 250000 ≤ since g.2 s.time.lea := by
  have hmem := List.mem_of_find?_eq_some hf
  have hp := List.find?_some hf
  rw [List.mem_map] at hmem
  obtain ⟨i, -, rfl⟩ := hmem
  simp only [Bool.and_eq_true, Option.isNone_iff_eq_none, Bool.not_eq_true', List.any_eq_false, decide_eq_true_eq, not_and, Bool.not_eq_false] at hp
  exact ⟨by omega, by omega, hp.1, fun g hg hgh => of_decide_eq_true (hp.2 g hg hgh)⟩

theorem exec_reelRegister_of_free (hp : Passes s { op := 0x0401, named := [(16, 32), (36, 39)], needsJob := true } c {})
    (hb : c.field s 16 8 % 1024 = 0) (hbm : c.field s 16 8 < hbmBytes) (hl : c.field s 24 8 % 1024 = 0) (hlen : 1024 ≤ c.field s 24 8)
    (hend : c.field s 16 8 + c.field s 24 8 ≤ hbmBytes) (hr : c.field s 32 1 < 32) (hk : c.field s 36 4 ≠ 0) (hf : s.freeHandle = some h) :
    exec (.reelRegister c) s = .next ({ accepted s { op := 0x0401, named := [(16, 32), (36, 39)], needsJob := true } c {} with reel := { s.reel with
      regions := s.reel.regions.set none h (some { base := c.field s 16 8, length := c.field s 24 8, rights := c.field s 32 1, key := BitVec.ofNat 32 (c.field s 36 4) })
      nextHandle := h % 8192 + 1
      gone := s.reel.gone.filter fun g => !s.elapsed g.2 250000 } }.done c .ok (result [(16, 2, h)])) := by
  refine congrArg Host.Outcome.next ((selkan_passes_of ?_ hp).trans ?_)
  · rw [if_neg (by omega), if_neg (by omega), if_neg (by omega), if_neg hk, hf]; rfl
  · simp only [accepted_freeHandle, hf, accepted_elapsed, accepted_reel]

theorem exec_reelDeregister_of_live (hp : Passes s { op := 0x0402, named := [(16, 17)], long := true, needsJob := true } c {})
    (hr : s.reel.regions.get none (c.field s 16 2) ≠ none) :
    exec (.reelDeregister c) s = .next (((accepted s { op := 0x0402, named := [(16, 17)], long := true, needsJob := true } c {}).deregister (c.field s 16 2)).done c .ok) := by
  refine congrArg Host.Outcome.next (selkan_passes_of ?_ hp)
  rw [if_neg (by simpa using hr)]

/-! ### Groups (R268, R284, R285) -/

theorem exec_sharerGroupSet_of_read {bs : List Byte}
    (hp : Passes s { op := 0x0403, named := [(16, 16), (20, 31)], needsJob := true } c { reads := some (c.field s 24 8, 2 * c.field s 20 2) })
    (h1 : 1 ≤ c.field s 20 2) (h2 : c.field s 20 2 ≤ 4096) (hb : readSpace s (c.port s) 1 (c.field s 24 8) (2 * c.field s 20 2) = some bs)
    {on : State} (hon : on = accepted s { op := 0x0403, named := [(16, 16), (20, 31)], needsJob := true } c { reads := some (c.field s 24 8, 2 * c.field s 20 2) }) :
    exec (.sharerGroupSet c) s = .next ({ on with reel := { s.reel with
      sharers := s.reel.sharers.set none (c.field on 16 1) (some ((List.range (c.field s 20 2)).map fun i => BitVec.ofNat 16 (leNat ((bs.drop (2 * i)).take 2)))) } }.done c .ok) := by
  have hreel : on.reel = s.reel := by rw [hon, accepted_reel]
  refine congrArg Host.Outcome.next ((selkan_passes_of ?_ hp).trans ?_)
  · rw [if_neg (by omega), hb]; rfl
  · rw [← hon, hreel, hb]; rfl

theorem exec_mcastGroupSet_of_read {bs : List Byte}
    (hp : Passes s { op := 0x0404, named := [(16, 18), (20, 39)], needsJob := true } c { reads := some (c.field s 24 8, 16 * c.field s 17 1) })
    (hfuse : s.fuse.mcast = true) (h1 : 1 ≤ c.field s 17 1) (h2 : c.field s 17 1 ≤ 64) (hpol : c.field s 18 1 ≤ 1)
    (hb : readSpace s (c.port s) 1 (c.field s 24 8) (16 * c.field s 17 1) = some bs)
    (hm : ∀ m ∈ (List.range (c.field s 17 1)).map (mcMember bs), routeGateway (s.routeOf m.node) = false) (hmask : c.field s 32 8 + 2048 ≤ hbmBytes)
    {on : State} (hon : on = accepted s { op := 0x0404, named := [(16, 18), (20, 39)], needsJob := true } c { reads := some (c.field s 24 8, 16 * c.field s 17 1) }) :
    exec (.mcastGroupSet c) s = .next ({ on with reel := { s.reel with
      mcast := s.reel.mcast.set none (c.field on 16 1) (some
        { members := (List.range (c.field s 17 1)).map (mcMember bs), missFault := decide (c.field s 18 1 = 1), key := BitVec.ofNat 32 (c.field on 20 4), maskBase := c.field s 32 8 }) } }.done c .ok) := by
  have hreel : on.reel = s.reel := by rw [hon, accepted_reel]
  have hany : ((List.range (c.field s 17 1)).map (mcMember bs)).any (fun m => routeGateway (s.routeOf m.node)) = false := by
    rw [List.any_eq_false]
    exact fun m hmem => by rw [hm m hmem]; exact Bool.false_ne_true
  refine congrArg Host.Outcome.next ((selkan_passes_of ?_ hp).trans ?_)
  · rw [hb, hfuse, if_neg (by omega), if_neg (by omega), if_neg (by simpa using hm), if_neg (by omega)]; rfl
  · rw [← hon, hreel, hb]; rfl

/-! ### Invalidation and key rotation (R279, R442) -/

theorem exec_reelInvalidate_of_group {ms : List (BitVec 16)} (hp : Passes s { op := 0x0405, named := [(16, 16), (20, 35)], long := true, needsJob := true } c {})
    (hg : s.reel.sharers.get none (c.field s 16 1) = some ms) (ho : c.field s 24 8 % 128 = 0) (hlt : c.field s 24 8 < 2 ^ 48) (h1 : 1 ≤ c.field s 32 4)
    (h2 : c.field s 32 4 ≤ 65536) {started : State}
    (hs : started = { accepted s { op := 0x0405, named := [(16, 16), (20, 35)], long := true, needsJob := true } c {} with
      reel := { s.reel with inval := some { cmd := c, members := ms, startAt := s.time.lea, sent := false } } }) :
    exec (.reelInvalidate c) s = .next (if s.reel.drain.isSome then started else started.wakeInval) := by
  refine congrArg Host.Outcome.next ((selkan_passes_of ?_ hp).trans ?_)
  · rw [hg, if_neg (by simp), if_neg (by omega), if_neg (by omega)]
  · simp only [accepted_reel, accepted_time, hg, Option.getD_some, hs]

theorem exec_reelKeyRotate_of_new {r : RegionReg} (hp : Passes s { op := 0x0406, named := [(16, 17), (20, 23)], long := true, needsJob := true } c {})
    (hr : s.reel.regions.get none (c.field s 16 2) = some r) (h0 : BitVec.ofNat 32 (c.field s 20 4) ≠ 0) (hne : BitVec.ofNat 32 (c.field s 20 4) ≠ r.key) :
    exec (.reelKeyRotate c) s = .next (({ accepted s { op := 0x0406, named := [(16, 17), (20, 23)], long := true, needsJob := true } c {} with
      reel := { s.reel with regions := s.reel.regions.mod none (c.field s 16 2) fun r => r.map fun r =>
        { r with key := BitVec.ofNat 32 (c.field s 20 4), oldKey := some r.key, rotatedAt := s.time.lea } } } : State).setAux c (c.field s 16 2)) := by
  refine congrArg Host.Outcome.next ((selkan_passes_of ?_ hp).trans ?_)
  · simp only [hr, if_neg (not_or.2 ⟨h0, hne⟩)]
  · simp only [accepted_reel, accepted_time]

theorem exec_keyRotationEnd_of_region {l : LOp} {r : RegionReg} (hl : s.lop 0x0406 = some l) (hr : s.reel.regions.get none l.aux = some r) :
    exec .keyRotationEnd s = .next (s.when (s.elapsed r.rotatedAt 250000) fun s =>
      { s with reel := { s.reel with regions := s.reel.regions.set none l.aux (some { r with oldKey := none }) } }.done l.cmd .ok
        (result [(20, 4, (r.oldKey.getD 0).toNat)])) := by
  refine congrArg Host.Outcome.next ?_
  rw [hl]
  simp only [hr]

theorem RegionReg.opens_iff {r : RegionReg} {key : BitVec 32} : r.opens key = true ↔ key = r.key ∨ r.oldKey = some key := by
  simp [RegionReg.opens, eq_comm (a := r.key)]

/-- Settles O16: each command of the Reel's objects acts on the state in which it is accepted, and KEY_ROTATION_END by the time since the rotation. -/
theorem reelObjectsAreSetAndInvalidated : Obligations.ReelObjectsAreSetAndInvalidated := by
  unfold Obligations.ReelObjectsAreSetAndInvalidated
  refine ⟨⟨?register, ?deregister, fun s c bs hp h1 h2 hb => exec_sharerGroupSet_of_read hp h1 h2 hb rfl,
      fun s c bs hp hfuse h1 h2 hpol hb hm hmask => exec_mcastGroupSet_of_read hp hfuse h1 h2 hpol hb hm hmask rfl⟩,
    ?invalidate, ?rotate, ?rotated, fun r key => RegionReg.opens_iff⟩
  case register =>
    intro s c h k on base len hp hb hbm hl hlen hend hr hk hf
    exact ⟨exec_reelRegister_of_free hp hb hbm hl hlen hend hr hk hf, State.freeHandle_free hf⟩
  case deregister =>
    intro s c k on h hp hr
    rw [exec_reelDeregister_of_live hp hr]
    simp only [State.deregister, accepted_reel, accepted_time, on, k, h]
  case invalidate =>
    intro s c ms k on started hp hg ho hlt h1 h2
    refine ⟨fun hd => ?_, fun hd => ?_⟩ <;> rw [exec_reelInvalidate_of_group hp hg ho hlt h1 h2 (started := started) rfl, hd] <;> rfl
  case rotate =>
    intro s c r h key k on hp hr h0 hne hw
    refine ⟨_, exec_reelKeyRotate_of_new hp hr h0 hne, rfl, ?_, fun g hg => Tab.get_mod_other hg _ hw⟩
    refine (Tab.get_mod_same _ _ hw).trans ?_
    rw [show s.reel.regions.get none (c.field s 16 2) = some r from hr]
    rfl
  case rotated =>
    intro s l r hl hr
    refine ⟨fun ht => ?_, fun ht => ?_⟩ <;> rw [exec_keyRotationEnd_of_region hl hr, State.elapsed]
    · rw [decide_eq_true ht, State.when_true]
    · rw [decide_eq_false (Nat.not_le.2 ht), State.when_false]

end
end Sys2Proof.Machine
end

section
/-! SUPPORT. What arrives on the Reel, the home's checks, and its reads, writes and atomics. -/

set_option Elab.async false

namespace Sys2Proof.Machine
section
variable {s : State} {p : RPort} {k : Pkt} {op right unit n : Nat} {act : State → State}

/-! ### What arrives (R269, R294, R300) -/

theorem State.receive_acts (h : Answered s p op k) (hm : op ≠ 0x10) : s.receive p op k act = act s := by
  obtain ⟨hd, hu, hk, ho, -⟩ := h
  unfold State.receive
  rw [if_neg (by simp [hd]), hu]
  simp only
  have h16 : k.opcode ≠ 16#8 := by rintro h; rw [h] at ho; exact hm ho.symm
  rw [if_neg (by simp [ho, hk, h16]), if_pos ho]

theorem State.response_acts (h : Answered s p op k) (hm : op ≠ 0x10) : s.response p op k act = act s :=
  (State.receive_acts h hm).trans (if_pos h.2.2.2.2)

theorem State.request_acts (h : Asked s p op k) (hm : op ≠ 0x10) : s.request' p op k act = act s := by
  obtain ⟨h, hst, hf⟩ := h
  refine (State.receive_acts h hm).trans ?_
  unfold State.ingress
  rw [if_neg (by simp [hst]), if_neg (by simp [hf])]
  exact if_pos h.2.2.2.2

theorem State.homeCheck_of_gone (sound : Bool) (h : s.regionReg k.handle = none) : s.homeCheck k right unit n sound = some 5 := by
  rw [State.homeCheck, h]

theorem State.homeCheck_of_region (sound : Bool) {r : RegionReg} (h : s.regionReg k.handle = some r) : s.homeCheck k right unit n sound =
    if !r.opens k.key then some 2
    else if !bit r.rights right then some 3
    else if !sound || decide (k.offset.toNat % unit ≠ 0) || decide (k.offset.toNat / 128 * 128 + max n 128 > r.length) then some 4
    else if (s.stk (stackOf (r.base + k.offset.toNat))).state = .failed then some 5
    else none := by
  rw [State.homeCheck, h]

theorem State.atLine_of_admitted {f : Pkt → Pkt} {act : Nat → State → State} (hc : s.homeCheck k right 128 128 = none)
    (hs : s.serves (stackOf (s.homeAddr k)) = true) (hh : s.hotRetry (s.homeAddr k / 128) = none) :
    s.atLine p k op right f act = act (s.homeAddr k) (s.admitLine (s.homeAddr k / 128) true) := by
  unfold State.atLine
  rw [hc]
  simp only [hh]
  exact if_neg (by simp [hs])

theorem State.atLine_of_refused {f : Pkt → Pkt} {act : Nat → State → State} {st : Nat} (hc : s.homeCheck k right 128 128 = some st) :
    s.atLine p k op right f act = s.reject p k op st f := by
  rw [State.atLine, hc]

/-! ### Answers write no memory -/

theorem State.sendPkt_mems (x : Pkt) (route : BitVec 16) : (s.sendPkt x route).mems = s.mems := by
  unfold State.sendPkt
  split
  · rfl
  · unfold State.passOn
    extract_lets q
    cases q <;> rfl

theorem State.replyTo_mems (status : Nat) (data : List Byte) (f : Pkt → Pkt) : (s.replyTo k op status data f).mems = s.mems := State.sendPkt_mems ..

theorem State.reject_mems (status : Nat) (f : Pkt → Pkt) : (s.reject p k op status f).mems = s.mems := by
  unfold State.reject
  extract_lets i old x quiet key y rl s1 s2
  have h2 : s2.mems = s.mems := State.when_keeps (·.mems) rfl _
  split
  · exact h2
  · exact (State.replyTo_mems ..).trans h2

/-! ### Requests at the home (R254, R269, R276) -/

section home
variable {errs st : Nat} {r : RegionReg}

theorem exec_reelRead_of_admitted (ha : Asked s p 0x01 k) (hc : s.homeCheck k 0 128 128 = none) (hr : s.regionReg k.handle = some r)
    (hs : s.serves (stackOf (s.homeAddr k)) = true) (hh : s.hotRetry (s.homeAddr k / 128) = none)
    {c : LineCheck × State} (hp : c = (s.admitLine (s.homeAddr k / 128) true).probe (s.homeAddr k / 128) errs)
    {u : State} (hu : u = c.2.countCheck .unit c.1 (s.homeAddr k / 128)) :
    exec (.reelRead p k errs) s = .next (u.replyTo k 0x02 (if c.1.bad then 6 else 0) (u.mems.hbm.read (128 * (s.homeAddr k / 128)) 128)
      fun y => { y with flags := if bit r.rights 4 then 1 else 0 }) := by
  refine congrArg Host.Outcome.next ((State.request_acts ha (by decide)).trans ((State.atLine_of_admitted hc hs hh).trans ?_))
  have hr' : (s.admitLine (s.homeAddr k / 128) true).regionReg k.handle = some r := hr
  rw [hu, hp]
  simp only [hr']

theorem exec_reelRead_of_refused (ha : Asked s p 0x01 k) (hc : s.homeCheck k 0 128 128 = some st) :
    exec (.reelRead p k errs) s = .next (s.reject p k 0x02 st) :=
  congrArg Host.Outcome.next ((State.request_acts ha (by decide)).trans (State.atLine_of_refused hc))

theorem exec_reelWrite_of_admitted (ha : Asked s p 0x03 k) (hc : s.homeCheck k 1 128 128 = none)
    (hs : s.serves (stackOf (s.homeAddr k)) = true) (hh : s.hotRetry (s.homeAddr k / 128) = none) :
    exec (.reelWrite p k) s = .next (((s.admitLine (s.homeAddr k / 128) true).storeHbm (s.homeAddr k) (k.data.take 128) k.poison).replyTo k 0x04 0) :=
  congrArg Host.Outcome.next ((State.request_acts ha (by decide)).trans (State.atLine_of_admitted hc hs hh))

theorem exec_reelWrite_of_refused (ha : Asked s p 0x03 k) (hc : s.homeCheck k 1 128 128 = some st) :
    exec (.reelWrite p k) s = .next (s.reject p k 0x04 st) :=
  congrArg Host.Outcome.next ((State.request_acts ha (by decide)).trans (State.atLine_of_refused hc))

theorem exec_mcastWrite_of_admitted (ha : Asked s p 0x09 k) (hc : s.homeCheck k 3 128 128 = none)
    (hs : s.serves (stackOf (s.homeAddr k)) = true) (hh : s.hotRetry (s.homeAddr k / 128) = none) :
    exec (.mcastWrite p k) s = .next (((s.admitLine (s.homeAddr k / 128) true).storeHbm (s.homeAddr k) (k.data.take 128) k.poison).replyTo k 0x0A 0 []
      fun y => { y with aux := k.aux }) :=
  congrArg Host.Outcome.next ((State.request_acts ha (by decide)).trans (State.atLine_of_admitted hc hs hh))

theorem exec_invalidate_of_asked (ha : Asked s p 0x07 k) :
    exec (.invalidate p k) s = .next ((s.dropRange (k.key.setWidth 16) k.handle k.offset.toNat k.count.toNat).replyTo k 0x08 0) :=
  congrArg Host.Outcome.next (State.request_acts ha (by decide))

/-- What an invalidation leaves in the remote-line cache: the lines outside its range. -/
theorem State.dropRange_rcache (node handle : BitVec 16) (o n : Nat) : (s.dropRange node handle o n).memory.rcache =
    s.memory.rcache.filter fun l => !covers node handle o n l.node l.handle l.offset := by
  unfold State.dropRange
  exact State.forEach_keeps (·.memory.rcache) (by intros; rfl) _ _

theorem exec_bulkWrite_of_admitted (ha : Asked s p 0x0B k)
    (hc : s.homeCheck k 1 128 (128 * (bulkLines k.data).foldl (fun a e => max a (e.1 + 1)) 1) = none) :
    exec (.bulkWrite p k) s = .next ((s.forEach ((bulkLines k.data).filter fun e => s.serves (stackOf (s.homeAddr k + 128 * e.1))) fun e u =>
      (u.admitLine ((s.homeAddr k + 128 * e.1) / 128) true).storeHbm (s.homeAddr k + 128 * e.1) e.2 k.poison).replyTo k 0x0E 0) := by
  refine congrArg Host.Outcome.next ((State.request_acts ha (by decide)).trans ?_)
  dsimp only
  rw [hc]

theorem exec_bulkRead_of_sound (ha : Asked s p 0x0C k) (hc : s.homeCheck k 0 128 (128 * min 32 k.count.toNat) = none)
    (hr : s.regionReg k.handle = some r)
    (hb : ((linesOf (s.homeAddr k) (128 * min 32 k.count.toNat)).filter fun l => s.mems.hbmPoison.get false l) = []) {data : List Byte}
    (hd : data = s.mems.hbm.read (s.homeAddr k) (128 * min 32 k.count.toNat)) :
    exec (.bulkRead p k) s = .next (s.replyTo k 0x0D 0 (data ++ leBytes (4096 - data.length) 0)
      fun y => { y with aux := k.aux, count := k.count, flags := if bit r.rights 4 then 1 else 0 }) := by
  refine congrArg Host.Outcome.next ((State.request_acts ha (by decide)).trans ?_)
  dsimp only
  rw [hc]
  simp only [hb, hr, hd]
  rfl

/-! ### Atomics at the home -/

theorem exec_reelAtomic_of_refused (ha : Asked s p 0x05 k)
    (hc : s.homeCheck k 2 (reelAopSize k.aop.toNat) (reelAopSize k.aop.toNat) (decide (k.aop.toNat ≤ 11)) = some st) :
    exec (.reelAtomic p k errs) s = .next (s.reject p k 0x06 st) := by
  refine congrArg Host.Outcome.next ((State.request_acts ha (by decide)).trans ?_)
  rw [hc]

theorem exec_reelAtomic_of_journaled {e : JEntry} (ha : Asked s p 0x05 k)
    (hc : s.homeCheck k 2 (reelAopSize k.aop.toNat) (reelAopSize k.aop.toNat) (decide (k.aop.toNat ≤ 11)) = none)
    (hj : s.journaled (dieOfLine (s.homeAddr k / 128)) false k.src k.tag k.epoch.toNat = some e) :
    exec (.reelAtomic p k errs) s = .next ((s.bump Ctr.reelAtomicReplay).replyTo k 0x06 0 (leBytes 16 e.reply.toNat)) := by
  refine congrArg Host.Outcome.next ((State.request_acts ha (by decide)).trans ?_)
  rw [hc]
  simp only [hj]

theorem exec_reelAtomic_of_new (ha : Asked s p 0x05 k)
    (hc : s.homeCheck k 2 (reelAopSize k.aop.toNat) (reelAopSize k.aop.toNat) (decide (k.aop.toNat ≤ 11)) = none)
    (hj : s.journaled (dieOfLine (s.homeAddr k / 128)) false k.src k.tag k.epoch.toNat = none) (hs : s.serves (stackOf (s.homeAddr k)) = true)
    (hu : s.jUsed (dieOfLine (s.homeAddr k / 128)) false < 98304) (hh : s.hotRetry (s.homeAddr k / 128) = none)
    {c : LineCheck × State} (hp : c = (s.admitLine (s.homeAddr k / 128) true).probe (s.homeAddr k / 128) errs) (hg : c.1.bad = false)
    {a : BitVec 128 × State} (hat : a = c.2.atomicAt (s.homeAddr k) k.aop.toNat (reelAopSize k.aop.toNat) (BitVec.ofNat 128 (leNat (k.data.take 16)))
      (BitVec.ofNat 128 (leNat ((k.data.drop 16).take 16)))) :
    exec (.reelAtomic p k errs) s = .next ((a.2.journal ⟨dieOfLine (s.homeAddr k / 128), false, k.src, k.tag, k.epoch.toNat, a.1, s.time.lea⟩).replyTo k 0x06 0
      (leBytes 16 a.1.toNat)) := by
  refine congrArg Host.Outcome.next ((State.request_acts ha (by decide)).trans ?_)
  rw [hc]
  simp only [hj, hh]
  rw [if_neg (by simp [hs]), if_neg (by omega), ← hp, if_neg (by simp [hg]), ← hat]

end home

/-- Settles O17: a request that reaches the home by its checks, an atomic by the journal. That the home node of an invalidation stands in the low 16 bits
of KEY (log 46) is the model's choice. -/
theorem homeServesRejectsAndUpdates : Obligations.HomeServesRejectsAndUpdates := by
  unfold Obligations.HomeServesRejectsAndUpdates
  refine ⟨⟨fun s p k r ha hc hr hs hh errs => exec_reelRead_of_admitted ha hc hr hs hh rfl rfl, fun s p k ha hc hs hh => exec_reelWrite_of_admitted ha hc hs hh,
      fun s p k ha hc hs hh => exec_mcastWrite_of_admitted ha hc hs hh, fun s p k ha => ⟨exec_invalidate_of_asked ha, fun l hl => ?_⟩,
      fun s p k ha hc => exec_bulkWrite_of_admitted ha hc, fun s p k r ha hc hr hb => exec_bulkRead_of_sound ha hc hr hb rfl⟩,
    ⟨?checks, fun s p k st ha hc errs => ⟨exec_reelRead_of_refused ha hc, State.reject_mems ..⟩,
      fun s p k st ha hc => ⟨exec_reelWrite_of_refused ha hc, State.reject_mems ..⟩,
      fun s p k st errs ha hc => ⟨exec_reelAtomic_of_refused ha hc, State.reject_mems ..⟩⟩,
    fun s p k errs ha hc => ⟨fun e hj => ⟨exec_reelAtomic_of_journaled ha hc hj, State.replyTo_mems ..⟩,
      fun hj hs hu hh hg => exec_reelAtomic_of_new ha hc hj hs hu hh rfl hg rfl⟩⟩
  · rw [State.dropRange_rcache, List.mem_filter, Bool.not_eq_true'] at hl
    exact ⟨hl.2, hl.1⟩
  case checks =>
    refine fun s k right unit n sound => ⟨State.homeCheck_of_gone sound, fun r hr => ⟨fun ho => ?_, fun ho hb => ?_, fun ho hb => ⟨fun hbad => ?_, fun hs hu hl => ?_⟩⟩⟩ <;>
      rw [State.homeCheck_of_region sound hr, ho]
    · rfl
    · rw [hb]; rfl
    · rw [hb, Bool.not_true, if_neg Bool.false_ne_true, if_neg Bool.false_ne_true, if_pos]
      rcases hbad with h | h | h <;> simp [h]
    · rw [hb, Bool.not_true, if_neg Bool.false_ne_true, if_neg Bool.false_ne_true, if_neg]
      simp [hs, hu, hl]

end
end Sys2Proof.Machine
end

section
/-! SUPPORT. The gateway's windows and pieces, the requester's timers, and replies. -/

set_option Elab.async false

namespace Sys2Proof.Machine
section
variable {s : State} {p : RPort} {k : Pkt} {n : Nat} {x : Piece} {tag : BitVec 16}

/-! ### The gateway (R282, R283) -/

section gateway

theorem exec_gatherFlush_of_window {w : Nat} {g : Gather} (h : (s.reel.gather.filter fun g => decide (g.port = p.val))[w]? = some g) :
    exec (.gatherFlush p w) s = .next (s.when (s.elapsed g.last 2000 || decide (g.lines.length ≥ 512)) fun s => s.flushWindow g) := by
  refine congrArg Host.Outcome.next ?_
  rw [h]

theorem exec_stagedFetch_of_piece (h : (s.reel.pieces.filter fun x => decide (x.port = p.val) && x.fetch && !x.sent)[n]? = some x)
    (ht : 500 ≤ since x.at_ s.time.lea) :
    exec (.stagedFetch p n) s = .next (((s.endPiece x).flushRange x.node x.handle x.base (x.base + 4096)).sendBulk 0x0C x [] false) := by
  refine congrArg Host.Outcome.next ?_
  rw [h]
  simp only [State.elapsed_eq_true ht, State.when_true]
  rfl

theorem exec_bulkData_of_piece (ha : Answered s p 0x0D k) (hx : s.pieceOf k true = some x) :
    exec (.bulkData p k) s = .next ((s.endPiece x).forEach x.pkts fun r u =>
      u.replyTo r 0x02 k.status.toNat ((k.data.drop (r.offset.toNat % 4096)).take 128) fun y => { y with src := k.src, flags := k.flags }) := by
  refine congrArg Host.Outcome.next ((State.response_acts ha (by decide)).trans ?_)
  rw [hx]

theorem exec_bulkAck_of_piece (ha : Answered s p 0x0E k) (hx : s.pieceOf k false = some x) :
    exec (.bulkAck p k) s = .next ((s.endPiece x).forEach x.pkts fun w u => u.replyTo w 0x04 k.status.toNat [] fun y => { y with src := k.src }) := by
  refine congrArg Host.Outcome.next ((State.response_acts ha (by decide)).trans ?_)
  rw [hx]

theorem State.not_mem_endPiece : x ∉ (s.endPiece x).reel.pieces := fun h => by simpa using (List.mem_filter.1 h).2

end gateway

/-! ### The requester's timers (R274, R275, R277, R286, R302) -/

section timers

theorem exec_reelRetryResend_of_request (h : (s.reel.mcLines.find? fun x => decide (x.tag = tag.toNat)) = none) :
    exec (.reelRetryResend tag) s = .next (s.when ((s.slot tag.toNat).reel && (s.slot tag.toNat).waiting && decide ((s.slot tag.toNat).until_ ≠ 0) &&
        !before s.time.lea (s.slot tag.toNat).until_ && !(decide ((s.slot tag.toNat).opcode = 5) && s.elapsed (s.slot tag.toNat).firstAt 150000)) fun s =>
      (s.modSlot tag.toNat fun x => { x with until_ := 0, resend := true }).sendReel tag.toNat) := by
  refine congrArg Host.Outcome.next ?_
  rw [h]

theorem exec_reelRetryResend_of_line {y : McLine} (h : (s.reel.mcLines.find? fun x => decide (x.tag = tag.toNat)) = some y) :
    exec (.reelRetryResend tag) s = .next (s.mcResend y) := by
  refine congrArg Host.Outcome.next ?_
  rw [h]

theorem exec_outcomeUnknown_of_atomic (h : (s.slot tag.toNat).reel = true) (h5 : (s.slot tag.toNat).opcode = 5) (ht : 0 < (s.slot tag.toNat).tries) :
    exec (.outcomeUnknown tag) s = .next
      (if s.elapsed (s.slot tag.toNat).firstAt 150000 && decide ((s.slot tag.toNat).retries > 0) then s.giveUp tag.toNat 0x0603
      else if s.elapsed (s.slot tag.toNat).firstAt 150000 ||
          (decide ((s.slot tag.toNat).retries = 0) && decide ((s.slot tag.toNat).tries ≥ 3) && s.elapsed (s.slot tag.toNat).sentAt 20000) then
        (((s.bump Ctr.reelOutcomeUnknown).slotCause tag.toNat 0x0604).modBlk (tag.toNat / 256) (·.release (tag.toNat % 256))).wakeReel
      else s) :=
  congrArg Host.Outcome.next (if_pos (by simp [h, h5, ht]))

theorem exec_reelTimeout_invalidation_of_sent {v : Inval} (h : s.reel.inval = some v) (hs : v.sent = true)
    (ht : 1000 * s.conf.inForce.requestUs ≤ since v.startAt s.time.lea) :
    exec (.reelTimeout .invalidation) s = .next ({ s with reel := { s.reel with inval := none } }.done v.cmd .timeout v.result) := by
  refine congrArg Host.Outcome.next ?_
  simp only [h, hs, State.elapsed_eq_true (show s.requestNs ≤ _ from ht)]
  rfl

theorem exec_reelTimeout_multicast_of_line {y : McLine} {g : McGroup} (h : (s.reel.mcLines.find? fun x => decide (x.tag = tag.toNat)) = some y)
    (hg : s.reel.mcast.get none y.group = some g) (ht : 1000 * s.conf.inForce.requestUs ≤ since y.at_ s.time.lea) :
    exec (.reelTimeout (.multicast tag)) s =
      .next (s.forEach ((List.range g.members.length).filter fun m => !y.answers.any fun a => decide (a.1 = m)) fun m u => u.mcAnswer tag.toNat m false) := by
  refine congrArg Host.Outcome.next ?_
  simp only [h, State.elapsed_eq_true (show s.requestNs ≤ _ from ht), State.when_true]
  rw [hg]

/-- Is the packet the branch of a multicast line to its member number `i` at a node? -/
def isBranch (tag : BitVec 16) (i : Nat) (node : BitVec 16) (k : Pkt) : Bool :=
  decide (k.opcode = 9) && decide (k.tag = tag) && decide (k.aux.toNat = i) && decide (k.dst = node)

theorem exec_mcastBranchDrop_of_held {y : McLine} {g : McGroup} {m : McMember} {i : Nat}
    (h : (s.reel.mcLines.find? fun x => decide (x.tag = tag.toNat)) = some y) (hg : s.reel.mcast.get none y.group = some g) (hm : g.members[i]? = some m)
    (hq : (s.rport.any fun e => (e.2.vcq 6).any (isBranch tag i m.node)) = true) (ht : 20000 ≤ since y.at_ s.time.lea) :
    exec (.mcastBranchDrop tag i) s = .next ((s.forEach ((s.rport.filter fun e => (e.2.vcq 6).any (isBranch tag i m.node)).map (·.1)) fun p u =>
      u.modRp p fun y => { y with queue := y.queue.mod [] 6 fun q => q.filter fun k => !isBranch tag i m.node k }).mcAnswer tag.toNat i false) := by
  refine congrArg Host.Outcome.next ?_
  simp only [h, hg, Option.bind_some, hm]
  refine if_pos ?_
  rw [State.elapsed_eq_true ht, Bool.true_or, Bool.and_true]
  exact hq

end timers

/-- Settles O18: the gateway by its windows and pieces, and each timer of the requester by the times of its slot. That the branch of a multicast line is
known by its member's index in AUX (log 46) is the model's choice. -/
theorem requesterGathersResendsAndGivesUp : Obligations.RequesterGathersResendsAndGivesUp := by
  unfold Obligations.RequesterGathersResendsAndGivesUp
  refine ⟨⟨fun s p w g h => ⟨fun ht => ?_, fun ht hl => ?_⟩, fun s p n x h ht => exec_stagedFetch_of_piece h ht, fun s p k x ha hx => exec_bulkData_of_piece ha hx,
      fun s p k x ha hx => exec_bulkAck_of_piece ha hx, fun s x => State.not_mem_endPiece⟩,
    fun s tag => ?slot, fun s v h hs ht => exec_reelTimeout_invalidation_of_sent h hs ht, fun s tag x g h hg ht => exec_reelTimeout_multicast_of_line h hg ht,
    fun s tag x g m i h hg hm hq ht => exec_mcastBranchDrop_of_held h hg hm hq ht, fun s p => rfl⟩
  · rw [exec_gatherFlush_of_window h]
    rcases ht with ht | ht
    · rw [State.elapsed_eq_true ht]; rfl
    · rw [decide_eq_true ht, Bool.or_true]; rfl
  · rw [exec_gatherFlush_of_window h, State.elapsed_eq_false ht, decide_eq_false (by omega)]; rfl
  case slot =>
    intro n r mcLine
    refine ⟨fun hr hw hu hb ho hm => ?_, fun hno hm => ?_, fun x hx => exec_reelRetryResend_of_line hx, fun hr h5 hw h3 ht hf => ?_, fun hno => ?_,
      fun hr h5 h0 h3 ht => ?_, fun hr h5 h0 h3 ht => ?_, fun hr h5 hw ht hm => ?_, fun hr h5 h0 ht => ?_⟩
    · rw [exec_reelRetryResend_of_request hm]
      have hlate : (decide (r.opcode = 5) && s.elapsed r.firstAt 150000) = false := by
        rcases ho with ho | ho
        · rw [decide_eq_false ho, Bool.false_and]
        · rw [State.elapsed_eq_false ho, Bool.and_false]
      simp only [show s.slot tag.toNat = r from rfl, hr, hw, hb, hlate, decide_eq_true hu]
      rfl
    · rw [exec_reelRetryResend_of_request hm]
      rcases hno with hb | ⟨h5, ht⟩
      · simp only [show s.slot tag.toNat = r from rfl, hb]
        simp
      · simp only [show s.slot tag.toNat = r from rfl, decide_eq_true h5, State.elapsed_eq_true ht]
        simp
    · refine congrArg Host.Outcome.next ?_
      simp only [show s.slot tag.toNat = r from rfl, hr, hw, decide_eq_true h5, decide_eq_true h3, State.elapsed_eq_true ht, State.elapsed_eq_false hf]
      rfl
    · refine congrArg Host.Outcome.next ?_
      rcases hno with h | h | h
      · simp only [show s.slot tag.toNat = r from rfl, decide_eq_false (Nat.not_lt.2 h)]
        simp
      · simp only [show s.slot tag.toNat = r from rfl, State.elapsed_eq_false h]
        simp
      · simp only [show s.slot tag.toNat = r from rfl, State.elapsed_eq_true h]
        simp
    · rw [exec_outcomeUnknown_of_atomic hr h5 (by show 0 < r.tries; omega)]
      simp only [show s.slot tag.toNat = r from rfl, h0, decide_eq_true h3, State.elapsed_eq_true ht]
      simp [n]
    · rw [exec_outcomeUnknown_of_atomic hr h5 h3]
      simp only [show s.slot tag.toNat = r from rfl, decide_eq_true h0, State.elapsed_eq_true ht]
      rfl
    · refine congrArg Host.Outcome.next ?_
      have hany : (s.reel.mcLines.any fun x => decide (x.tag = tag.toNat)) = false := by simpa using hm
      simp only [show s.slot tag.toNat = r from rfl, hr, hw, decide_eq_true h5, State.elapsed_eq_true (show s.requestNs ≤ _ from ht), hany]
      rfl
    · refine congrArg Host.Outcome.next ?_
      simp only [show s.slot tag.toNat = r from rfl, hr, decide_eq_true h0, decide_eq_true h5, State.elapsed_eq_true (show 16 * s.requestNs ≤ _ from ht)]
      rfl

/-! ### Replies (R267, R271, R273) -/

section replies
variable {op req : Nat} {act : SlotSt → State → State}

/-- The reply to a request that the slot holds. -/
theorem State.reelReply_fits (ha : Answered s p op k) (hm : op ≠ 0x10) (h1 : (s.slot k.tag.toNat).reel = true) (h2 : (s.slot k.tag.toNat).kind ≠ .free)
    (h3 : (s.slot k.tag.toNat).opcode = req) (h4 : (s.slot k.tag.toNat).epoch = k.epoch)
    (h5 : (s.slot k.tag.toNat).node ≠ s.node ∨ (s.slot k.tag.toNat).handle.toNat < 0xFF00) :
    s.reelReply p op req k act = act (s.slot k.tag.toNat) s := by
  refine (State.response_acts ha hm).trans (if_pos ?_)
  rcases h5 with h5 | h5 <;> simp [h1, h2, h3, h4, h5]

/-- A reply to no request of the slot. -/
theorem State.reelReply_stale (ha : Answered s p op k) (hm : op ≠ 0x10)
    (h : (s.slot k.tag.toNat).kind = .free ∨ (s.slot k.tag.toNat).opcode ≠ req ∨ (s.slot k.tag.toNat).epoch ≠ k.epoch) :
    s.reelReply p op req k act = s.bump Ctr.seStaleReply (k.tag.toNat / 256) := by
  refine (State.response_acts ha hm).trans (if_neg ?_)
  rcases h with h | h | h <;> simp [h]

theorem State.onStatus_of_ok {ok ue : State → State} (h : k.status = 0) : s.onStatus n k ok ue = (ok s).endReel n := by rw [State.onStatus, h]; rfl

theorem State.onStatus_of_retry {ok ue : State → State} (h : k.status = 1) : s.onStatus n k ok ue = s.retryWait n k.aux.toNat := by rw [State.onStatus, h]; rfl

theorem State.onStatus_of_refused {ok ue : State → State} (h : k.status = 2) : s.onStatus n k ok ue = (s.slotCause n 0x0601).endReel n := by
  rw [State.onStatus, h]; rfl

theorem exec_invAck_of_counted (ha : Answered s p 0x08 k) (h : k.status = 0 ∨ k.status = 5) : exec (.invAck p k) s = .next (s.invAcked k.src) := by
  refine congrArg Host.Outcome.next ((State.response_acts ha (by decide)).trans ?_)
  rcases h with h | h <;> rw [h] <;> rfl

theorem exec_mcastAck_of_line (ha : Answered s p 0x0A k) (hr : (s.slot k.tag.toNat).reel = true) (he : (s.slot k.tag.toNat).epoch = k.epoch)
    (hx : ∃ x ∈ s.reel.mcLines, x.tag = k.tag.toNat) : exec (.mcastAck p k) s = .next (match k.status.toNat with
      | 0 => s.mcAnswer k.tag.toNat k.aux.toNat true
      | 1 => s.mcRetry k.tag.toNat k.aux.toNat k.aux.toNat
      | 5 | 7 => s.mcAnswer k.tag.toNat k.aux.toNat false
      | 6 => (s.slotCause k.tag.toNat 0x0602).mcAnswer k.tag.toNat k.aux.toNat false
      | _ => (s.slotCause k.tag.toNat 0x0601).mcAnswer k.tag.toNat k.aux.toNat false) := by
  refine congrArg Host.Outcome.next ((State.response_acts ha (by decide)).trans (if_pos ?_))
  simpa [hr, he] using hx

end replies

/-- Settles O19: a reply by whether it fits its slot, and by its status. That AUX of an answer to a line of a multicast is both the member's index and the
hint of a RETRY (log 150) is the model's choice. -/
theorem repliesEndTheirSlots : Obligations.RepliesEndTheirSlots := by
  unfold Obligations.RepliesEndTheirSlots
  intro s p k n r fits stale
  refine ⟨fun ha ⟨h1, h2, h3, h4, h5⟩ hst hfill => ?_, fun ha ⟨h1, h2, h3, h4, h5⟩ hst => ?_, fun ha he => ?_, fun ha ⟨h1, h2, h3, h4, h5⟩ hst => ?_,
    fun ha ⟨h1, h2, h3, h4, h5⟩ hst => ?_, fun ha hf => ?_, fun ha ⟨h1, h2, h3, h4, h5⟩ hst => ?_, fun ha ho => ?_,
    fun ha hst => exec_invAck_of_counted ha hst, fun ha hr he hx => ⟨fun hst => ?_, fun hst => ?_, fun hst => ?_, fun hst => ?_⟩⟩
  · refine congrArg Host.Outcome.next ((State.reelReply_fits ha (by decide) h1 h2 h3 h4 h5).trans ((State.onStatus_of_ok hst).trans ?_))
    have hno : (k.flags.getLsbD 0 && !r.noFill && !r.noCache) = false := by rcases hfill with h | h | h <;> rw [h] <;> simp
    dsimp only
    rw [if_neg (by rw [hno]; exact Bool.false_ne_true)]
  · exact congrArg Host.Outcome.next ((State.reelReply_fits ha (by decide) h1 h2 h3 h4 h5).trans (State.onStatus_of_retry hst))
  · exact congrArg Host.Outcome.next (State.reelReply_stale ha (by decide) (.inr (.inr he)))
  · exact congrArg Host.Outcome.next ((State.reelReply_fits ha (by decide) h1 h2 h3 h4 h5).trans (State.onStatus_of_ok hst))
  · exact congrArg Host.Outcome.next ((State.reelReply_fits ha (by decide) h1 h2 h3 h4 h5).trans (State.onStatus_of_refused hst))
  · exact congrArg Host.Outcome.next (State.reelReply_stale ha (by decide) (.inl hf))
  · exact congrArg Host.Outcome.next ((State.reelReply_fits ha (by decide) h1 h2 h3 h4 h5).trans (State.onStatus_of_ok hst))
  · exact congrArg Host.Outcome.next (State.reelReply_stale ha (by decide) (.inr (.inl ho)))
  all_goals rw [exec_mcastAck_of_line ha hr he hx, hst]; rfl

end
end Sys2Proof.Machine
end

section
/-! SUPPORT. Ports and their states, the link proof, link flits and management packets. -/

set_option Elab.async false

namespace Sys2Proof.Machine
section
variable {s : State} {p : RPort} {n : Nat}

/-! ### Lanes and widths (R290) -/

section lanes
variable {lane : Fin 8} {w : Nat × Nat}

/-- What is left of the good lanes of a port when one fails. -/
theorem exec_laneFail_of_running (hp : s.spin.present.get (dieOfPort p) = true) (hu : (s.rp p).state = .up)
    (hw : runSet (s.rp p).lanesOk (s.rp p).width = some w) (hl : bit w.2 lane = true) (hok : bit (s.rp p).lanesOk lane = true) :
    exec (.laneFail p lane) s = .next
      (if (runSet ((s.rp p).lanesOk - 2 ^ lane.val) (s.rp p).width).isNone then
        (s.modRp p fun y => { y with lanesOk := (s.rp p).lanesOk - 2 ^ lane.val }).portDown p 6
      else ((s.modRp p fun y => { y with lanesOk := (s.rp p).lanesOk - 2 ^ lane.val }).enterPort p .narrow).bump Ctr.reelNarrow p) := by
  refine congrArg Host.Outcome.next ((if_neg (by simp [hp])).trans ?_)
  rw [hu, hw]
  simp only [hl, hok, if_true, Bool.not_true, Bool.false_eq_true, if_false]

theorem exec_narrowDone_of_narrow {ok : Bool} (h : (s.rp p).state = .narrow) : exec (.narrowDone p ok) s = .next
    (match if ok && !s.elapsed (s.rp p).since_ 20000 then runSet (s.rp p).lanesOk (s.rp p).width else none with
      | some w => (s.enterPort p .up fun y => { y with width := w.1, most := w.1 }).modRp p fun y => y.pump s.time.lea
      | none => s.portDown p 6) :=
  congrArg Host.Outcome.next (if_neg (not_not.2 h))

theorem exec_trainDone_of_train {lanes : Option (BitVec 8)} {rtt : Nat} (h : (s.rp p).state = .train) : exec (.trainDone p lanes rtt) s = .next
    (match if s.elapsed (s.rp p).since_ 50000000 then none else lanes.bind fun l => (runSet l.toNat (s.rp p).most).map fun w => (l, w.1) with
      | some w =>
        ((s.enterPort p .prove fun y => { y with lanesOk := w.1.toNat, width := w.2, most := w.2, rttNs := min rtt 65535, trainFails := 0 }).prove p).endRetrain p w.2 .ok
      | none =>
        if (s.rp p).trainFails ≥ 2 then (s.portDown p 6).endRetrain p 0 .timeout
        else (s.enterPort p .seek fun y => { y with trainFails := y.trainFails + 1, width := 0 }).endRetrain p 0 .timeout) :=
  congrArg Host.Outcome.next (if_neg (not_not.2 h))

theorem exec_trainDone_of_none {rtt : Nat} (h : (s.rp p).state = .train) : exec (.trainDone p none rtt) s = .next
    (if (s.rp p).trainFails ≥ 2 then (s.portDown p 6).endRetrain p 0 .timeout
      else (s.enterPort p .seek fun y => { y with trainFails := y.trainFails + 1, width := 0 }).endRetrain p 0 .timeout) := by
  rw [exec_trainDone_of_train h, Option.bind_none, ite_self]

end lanes

/-! ### Ports that go DOWN (R293, R294) -/

/-- What DOWN makes of a port at Lea time `t`, with its latest entries to DOWN. -/
def RPortSt.downed (x : RPortSt) (t : Lea) (downs : List Lea) (cause : Nat) : RPortSt :=
  { x with cause := if downs.length ≥ 4 then 9 else cause, downs := downs, width := 0, proven := false, proving := none, trainFails := 0, state := .down, since_ := t }

/-- A port that holds no packets goes DOWN, and nothing is re-injected. -/
theorem State.rp_portDown_of_empty (cause : Nat) (hw : Tab.wf s.rport {} = true) (hr : (s.rp n).replay = []) (hq : (s.rp n).queue = []) :
    (s.portDown n cause).rp n = { (s.rp n).downed s.time.lea (s.time.lea :: s.recentDowns (s.rp n)) cause with replay := [], queue := [], passed := [] } := by
  unfold State.portDown
  extract_lets downs s1
  have h1 : s1.rport = s.rport.mod {} n fun x => x.downed s.time.lea downs cause := rfl
  have hrp : (s1.bump Ctr.reelPortDown n).rp n = (s.rp n).downed s.time.lea downs cause := (congrArg (fun t : Tab RPortSt => t.get {} n) h1).trans (Tab.get_mod_same n _ hw)
  have hnone : ((s1.bump Ctr.reelPortDown n).rp n).unacked = [] := by
    rw [hrp, RPortSt.unacked, show ((s.rp n).downed s.time.lea downs cause).replay = [] from hr]
    simp [RPortSt.vcq, show ((s.rp n).downed s.time.lea downs cause).queue = [] from hq]
  unfold State.reinject
  extract_lets ks
  rw [show ks = [] from hnone, State.forEach_nil]
  have hw1 : Tab.wf (s1.bump Ctr.reelPortDown n).rport {} = true := by
    rw [show (s1.bump Ctr.reelPortDown n).rport = s1.rport from rfl, h1]; exact Tab.wf_mod _ _ hw
  exact (State.rp_modRp _ hw1).trans (by rw [hrp])

theorem State.recentDowns_eq (x : RPortSt) : s.recentDowns x = x.downs.filter fun t => decide (since t s.time.lea < 10000000000) := by
  unfold State.recentDowns State.elapsed
  congr 1
  funext t
  rw [← decide_not]
  exact decide_eq_decide.2 Nat.not_le

/-- Settles O22: each event of a port by its state and its times, and DOWN by what is then in the port. -/
theorem portsFollowTheirStateTable : Obligations.PortsFollowTheirStateTable := by
  unfold Obligations.PortsFollowTheirStateTable
  refine ⟨fun s p => ?events, fun s p cause hw hr hq => ?down⟩
  case events =>
    intro x here
    refine ⟨fun lane hp hu w hw hl hok => ⟨fun hno => ?_, fun hsome => ?_⟩, fun hst w hw ht => ?_, fun hst => ?_, fun hst => ?_, fun hst cause => ?_,
      fun v hst hv hc ht => ?_, fun hst hr ht => ?_, fun hst hr => ?_, fun hst ht => ?_, fun hst hp => ?_, fun lanes rtt w hst ht hw => ?_,
      fun rtt hst hf => ?_, fun rtt hst hf => ?_, fun hst hc he hp ht => ?_, fun hc => ?_, fun hp he hst => ?_, fun hp => ?_⟩
    · rw [exec_laneFail_of_running hp hu hw hl hok, show runSet ((s.rp p).lanesOk - 2 ^ lane.val) (s.rp p).width = none from hno]; rfl
    · rw [exec_laneFail_of_running hp hu hw hl hok, if_neg (by simpa using hsome)]
    · rw [exec_narrowDone_of_narrow hst, State.elapsed_eq_false ht]
      simp only [Bool.not_false, Bool.and_self, if_true, show runSet (s.rp p).lanesOk (s.rp p).width = some w from hw]
    · rw [exec_narrowDone_of_narrow hst]; rfl
    · exact congrArg Host.Outcome.next (by rw [decide_eq_true hst]; rfl)
    · exact congrArg Host.Outcome.next (by rw [decide_eq_false hst]; rfl)
    · refine congrArg Host.Outcome.next ?_
      rw [decide_eq_true hst, decide_eq_true hc, State.elapsed_eq_true ht, List.isEmpty_eq_false_iff.2 hv]
      rfl
    · refine congrArg Host.Outcome.next ?_
      rw [decide_eq_true hst, State.elapsed_eq_true ht, List.isEmpty_eq_false_iff.2 hr]
      rfl
    · refine congrArg Host.Outcome.next ?_
      rw [show (s.rp p).replay = [] from hr, List.isEmpty_nil, Bool.not_true, Bool.and_false, Bool.false_and]
      rfl
    · refine congrArg Host.Outcome.next ?_
      rw [decide_eq_true hst, State.elapsed_eq_true ht]
      rfl
    · refine congrArg Host.Outcome.next ?_
      rw [decide_eq_true hst, hp]
      rfl
    · rw [exec_trainDone_of_train hst, State.elapsed_eq_false ht]
      simp only [Bool.false_eq_true, if_false, Option.bind_some, hw, Option.map_some, x]
    · rw [exec_trainDone_of_none hst, if_neg (Nat.not_le.2 hf)]
    · rw [exec_trainDone_of_none hst, if_pos hf]
    · refine congrArg Host.Outcome.next ?_
      rw [decide_eq_true hst, decide_eq_true hc, he, hp, State.elapsed_eq_true ht]
      rfl
    · refine congrArg Host.Outcome.next ?_
      rw [decide_eq_false (not_not.2 hc), Bool.and_false, Bool.false_and, Bool.false_and, Bool.false_and]
      rfl
    · refine congrArg Host.Outcome.next ((if_neg (by rw [hp]; decide)).trans ((if_pos rfl).trans (if_pos ?_)))
      rw [he, decide_eq_true hst]
      rfl
    · exact congrArg Host.Outcome.next ((if_neg (by rw [hp]; decide)).trans (if_neg (by decide)))
  case down =>
    rw [State.rp_portDown_of_empty cause hw hr hq, State.recentDowns_eq]
    refine ⟨rfl, rfl, rfl, ?_⟩
    simp only [RPortSt.downed, List.length_cons, ge_iff_le, Nat.succ_le_succ_iff]

/-! ### The link proof (R295, R441) -/

section proof
variable {node : BitVec 16} {port : Nat} {key : BitVec 256}

theorem trusted_of_mem {ts : List Trust} (h : ∃ t ∈ ts, t.key = key ∧ (t.isSwitch = true ∨ t.node = node)) : trusted ts key node = true := by
  obtain ⟨t, ht, hk, hs⟩ := h
  exact List.any_eq_true.2 ⟨t, ht, by simpa [hk] using hs⟩

theorem not_trusted {ts : List Trust} (h : ∀ t ∈ ts, t.key = key → t.isSwitch = false ∧ t.node ≠ node) : trusted ts key node = false := by
  refine List.any_eq_false.2 fun t ht => ?_
  by_cases hk : t.key = key
  · obtain ⟨h1, h2⟩ := h t ht hk
    simp [h1, h2]
  · simp [hk]

/-- The answer to a response whose signature holds, by whether its key is good. -/
theorem exec_linkResponse_of_signed (hm : s.mgmtUp p = true) (hp : (s.rp p).proving.isSome = true) {ok : Bool}
    (hok : (decide (port < 256) && trusted s.conf.inForce.trust key node && decide (node ≠ s.node)) = ok) :
    exec (.linkResponse p node port key true) s = .next
      (let u := (s.modRp p fun x => { x with ourVerdict := ok, candidate := node }).sendMgmt p node 0x0003 (leBytes 1 ok.toNat)
       if ok then u.proofPassed p else u.proofFailed p true) := by
  refine congrArg Host.Outcome.next ?_
  rw [hm, hp, Bool.and_self, State.when_true]
  simp only [Bool.true_and, hok]
  rfl

theorem exec_linkVerdict_of_proving {b : Bool} (hm : s.mgmtUp p = true) (hp : (s.rp p).proving.isSome = true) :
    exec (.linkVerdict p b) s = .next (if b then (s.modRp p fun x => { x with theirVerdict := true }).proofPassed p else s.proofFailed p true) := by
  refine congrArg Host.Outcome.next ?_
  rw [hm, hp]
  rfl

theorem State.wakeReel_of_none (h : s.reelSlots = []) : s.wakeReel = s := by
  unfold State.wakeReel
  rw [h]
  rfl

/-- A port that both verdicts prove is UP, with the partner it named. -/
theorem State.rp_proofPassed (hw : Tab.wf s.rport {} = true) (hst : (s.rp n).state = .prove) (ho : (s.rp n).ourVerdict = true) (ht : (s.rp n).theirVerdict = true)
    (hslots : s.reelSlots = []) : (s.proofPassed n).rp n = { s.rp n with
      proven := true, partner := (s.rp n).candidate, proving := none, windowAt := s.time.lea, state := .up, since_ := s.time.lea } := by
  unfold State.proofPassed
  extract_lets x g
  rw [if_pos (by rw [ho, ht]; rfl), if_neg (by rw [show x.state = .prove from hst]; decide), State.wakeReel_of_none (by exact hslots)]
  exact Tab.get_mod_same n (fun x => { g x with state := .up, since_ := s.time.lea }) hw

end proof

/-! ### Link flits and management packets (R291, R292, R297, R306, R307, R309) -/

section flits
variable {f : LFlit} {x : RPortSt}

/-- The port has taken its counts of a window and what the FEC reports with a flit. -/
def State.heardFlit (s : State) (p : RPort) (f : LFlit) : State := (s.rollWindow p).modRp p fun x => x.heard f

/-- The port after an intact flit, at Lea time `t`. -/
def RPortSt.tookFlit (x : RPortSt) (f : LFlit) (t : Lea) : RPortSt :=
  let y := if f.ackValid then x.acked f.ack t else x
  let z := (if f.nak then y.replayed else y).credited f
  ((z.sequenced f).pump t).says (z.returns f)

theorem exec_linkFlit_of_up {ok : Bool} (hp : s.spin.present.get (dieOfPort p) = true) (hu : (s.rp p).state = .up) : exec (.linkFlit p f ok) s = .next
    (if !ok then (s.heardFlit p f).modRp p fun x => { x with crcs := x.crcs + 1, asks := true }.says []
    else (((s.heardFlit p f).modRp p fun x => x.tookFlit f s.time.lea).when
      (f.nak && f.ackValid && !(((s.heardFlit p f).rp p).acked f.ack s.time.lea).replay.isEmpty) fun s => s.bump Ctr.reelReplay p).tryDrain) := by
  refine congrArg Host.Outcome.next ?_
  rw [hp, hu]
  rfl

theorem RPortSt.sequenced_of_other (h : f.seq ≠ x.rxSeq) : x.sequenced f = { x with asks := x.asks || decide ((f.seq - x.rxSeq).toNat < 2048) } := by
  unfold RPortSt.sequenced
  rw [if_neg h]
  split
  next hs => rw [decide_eq_true hs, Bool.or_true]
  next hs => rw [decide_eq_false hs, Bool.or_false]

theorem RPortSt.credit_credited (h : x.state = .up) (hw : Tab.wf x.credit 0 = true) :
    (x.credited f).credit.get 0 f.crVc = min (x.advertised.get 0 f.crVc) (x.credit.get 0 f.crVc + f.crCount) := by
  unfold RPortSt.credited
  rw [if_neg (by rw [h]; decide)]
  exact Tab.get_mod_same f.crVc (fun n => min (x.advertised.get 0 f.crVc) (n + f.crCount)) hw

end flits

section management
variable {src : BitVec 16} {a : Nat}

theorem exec_portReq_of_up (h : s.mgmtUp p = true) : exec (.portReq p src) s = .next
    (if s.askedNow src then s.bump Ctr.reelMgmtQuiet p
    else (s.noteAsk src).sendMgmt p src 0x0023 ((List.range 8).flatMap fun q => leBytes 8 (s.portWord q).toNat)) :=
  congrArg Host.Outcome.next (by rw [h, State.when_true])

theorem exec_cmapReq_of_up (h : s.mgmtUp p = true) : exec (.cmapReq p src a n) s = .next
    (if s.askedNow src then s.bump Ctr.reelMgmtQuiet p
    else (s.noteAsk src).forEach (List.range ((((s.reel.cmap.drop a).take (min n 16)).length + 1) / 2)) fun i u => u.sendMgmt p src 0x0021
      (((((s.reel.cmap.drop a).take (min n 16)).drop (2 * i)).take 2).flatMap fun x => leBytes 8 x.1.toNat ++ x.2.map (BitVec.ofNat 8 ·))) :=
  congrArg Host.Outcome.next (by rw [h, State.when_true])

theorem State.askedNow_noteAsk : (s.noteAsk src).askedNow src = true := by
  refine List.any_eq_true.2 ⟨(src, s.time.lea), List.mem_append_right _ (List.mem_singleton.2 rfl), ?_⟩
  have hsince : since s.time.lea s.time.lea = 0 := by simp [since]
  have he : (s.noteAsk src).elapsed s.time.lea 10000 = false := State.elapsed_eq_false (by rw [show (s.noteAsk src).time.lea = s.time.lea from rfl, hsince]; decide)
  simp only [he, decide_true, Bool.not_false, Bool.and_self]

end management

/-- Settles O23: the proof by its verdicts, a flit by its CRC and its sequence, a management request by the quiet time of its node. That the packets which
a flit completes give back their credits at once (log 41) is the model's choice. -/
theorem linksAreProvenAndFlitsServed : Obligations.LinksAreProvenAndFlitsServed := by
  unfold Obligations.LinksAreProvenAndFlitsServed
  refine ⟨⟨fun s p nonce from_ h => congrArg Host.Outcome.next (by rw [h, State.when_true]), fun s p node port key hm hp hport hn ht => ?_,
      fun s p node port key hm hp ht => ?_, fun s p hm hp => ⟨exec_linkVerdict_of_proving hm hp, exec_linkVerdict_of_proving hm hp⟩, fun s p hp => ⟨?_, fun b => ?_⟩,
      fun s p t hp hst ht => ?_, fun s p hst ht => ?_, fun s p hw hst ho ht hslots => ?_, fun x v hst => ?_⟩,
    fun s p f hp hu => ⟨exec_linkFlit_of_up hp hu, exec_linkFlit_of_up hp hu⟩, fun s p f b hst => ?_, fun x f => ⟨fun hk hs => ?_, RPortSt.sequenced_of_other, fun hk hs => ?_⟩,
    fun x f hst hw => RPortSt.credit_credited hst hw, fun s p src h => ⟨fun hq => ⟨?_, fun a n => ?_⟩, fun hq => ⟨?_, fun a n => ?_⟩⟩,
    fun s src => State.askedNow_noteAsk, fun s h => ?_, fun s h => ?_⟩
  · rw [exec_linkResponse_of_signed hm hp (ok := true) (by rw [decide_eq_true hport, decide_eq_true hn, trusted_of_mem ht]; rfl)]
    rfl
  · rw [exec_linkResponse_of_signed hm hp (ok := false) (by rw [not_trusted ht, Bool.and_false, Bool.false_and])]
    rfl
  · refine congrArg Host.Outcome.next ?_
    rw [hp]
  · exact congrArg Host.Outcome.next (by rw [hp, Option.isSome_none, Bool.and_false, State.when_false])
  · refine congrArg Host.Outcome.next ?_
    rw [hp]
    have hdue : (decide ((s.rp p).state = .prove) || decide ((s.rp p).state = .up)) = true := by rcases hst with h | h <;> simp [h]
    simp only [hdue, State.elapsed_eq_true ht]
    rfl
  · exact congrArg Host.Outcome.next (by rw [decide_eq_true hst, State.elapsed_eq_true ht]; rfl)
  · rw [State.rp_proofPassed hw hst ho ht hslots]
    exact ⟨rfl, rfl⟩
  · rw [RPortSt.maySend, hst]
    exact decide_eq_true_iff
  · refine congrArg Host.Outcome.next ?_
    rw [hst, Bool.and_false]
    rfl
  · rw [RPortSt.sequenced, if_pos hs, if_pos hk]
  · rw [RPortSt.sequenced, if_pos hs, if_neg hk]
  · rw [exec_portReq_of_up h, hq]; rfl
  · rw [exec_cmapReq_of_up h, hq]; rfl
  · rw [exec_portReq_of_up h, hq]; rfl
  · rw [exec_cmapReq_of_up h, hq]; rfl
  · exact congrArg Host.Outcome.next (by rw [decide_eq_true h, State.when_true])
  · exact congrArg Host.Outcome.next (by rw [decide_eq_false h, State.when_false])

end
end Sys2Proof.Machine
end

section
/-! SUPPORT. Drains, routes, and the commands of ports. -/

set_option Elab.async false

namespace Sys2Proof.Machine
section
variable {s u : State} {p n : Nat} {c : Cmd} {d : Drain} {bs : List Byte}

/-! ### What sending leaves of a drain (R305) -/

/-- What of the Reel a drain's end sets: the active table, the drain and its result. -/
def State.drainState (s : State) : Fin 2 × Option Drain × Nat := (s.reel.active, s.reel.drain, s.reel.drainResult)

section frame

@[simp] theorem State.drainState_sendPkt (x : Pkt) (route : BitVec 16) : (s.sendPkt x route).drainState = s.drainState := by
  unfold State.sendPkt
  split
  · rfl
  · unfold State.passOn
    extract_lets q
    cases q <;> rfl

@[simp] theorem State.drainState_passOn (x : Pkt) (route : BitVec 16) : (s.passOn x route).drainState = s.drainState := by
  unfold State.passOn
  extract_lets q
  cases q <;> rfl

@[simp] theorem State.drainState_slotCause (tag code : Nat) : (s.slotCause tag code).drainState = s.drainState := by
  have hs (f : Cause → Cause) (a b d : Nat) : (s.stamp a b d f).drainState = s.drainState := by simp only [State.drainState, State.stamp_reel]
  unfold State.slotCause
  extract_lets r
  split
  · exact hs (fun c => s.slotBy tag { c with addr := r.offset }) _ _ _
  · exact hs (fun c => s.slotBy tag { c with addr := r.offset }) _ _ _

@[simp] theorem State.drainState_endSlot (tag : Nat) : (s.endSlot tag).drainState = s.drainState := State.when_keeps State.drainState rfl _

@[simp] theorem State.drainState_turnDown (tag : Nat) : (s.turnDown tag).drainState = s.drainState :=
  (State.drainState_endSlot tag).trans (State.drainState_slotCause tag _)

@[simp] theorem State.drainState_sendMcast (tag : Nat) (r : SlotSt) (g : McGroup) (k : Nat) : (s.sendMcast tag r g k).drainState = s.drainState := by
  unfold State.sendMcast
  extract_lets line reel s1
  split
  · exact State.drainState_endSlot _
  · exact State.forEach_keeps State.drainState (fun _ _ => State.drainState_sendPkt ..) _ _

@[simp] theorem State.drainState_sendReel (tag : Nat) : (s.sendReel tag).drainState = s.drainState := by
  unfold State.sendReel
  extract_lets r mc s1 memory s2
  have h1 : s1.drainState = s.drainState := rfl
  have h2 : s2.drainState = s.drainState := by
    simp only [s2]
    split <;> rfl
  split
  · rfl
  · split
    · split
      · split
        · exact (State.drainState_sendMcast ..).trans h1
        · exact (State.drainState_turnDown _).trans h1
      · exact (State.drainState_turnDown _).trans h1
    · split
      · exact (State.drainState_sendPkt ..).trans h2
      · exact (State.drainState_turnDown _).trans h1

@[simp] theorem State.drainState_wakeReel : s.wakeReel.drainState = s.drainState :=
  State.forEach_keeps State.drainState (fun _ _ => State.drainState_sendReel _) _ _

@[simp] theorem State.drainState_dropRange (node handle : BitVec 16) (o k : Nat) : (s.dropRange node handle o k).drainState = s.drainState := by
  unfold State.dropRange
  exact State.forEach_keeps State.drainState (by intros; rfl) _ _

@[simp] theorem State.drainState_done (st : Status) (res : BitVec 128) : (s.done c st res).drainState = s.drainState := by
  simp only [State.drainState, State.done_reel]

theorem State.drainState_sendInval (v : Inval) (home handle : BitVec 16) (o k g : Nat) : (s.sendInval v home handle o k g).drainState = s.drainState := by
  unfold State.sendInval
  extract_lets s1 got w
  have h1 : s1.drainState = s.drainState := by
    refine State.forEach_keeps State.drainState (fun m u => ?_) _ _
    split
    · exact State.drainState_dropRange ..
    · exact State.drainState_sendPkt ..
  split
  · exact (State.drainState_done ..).trans h1
  · exact h1

@[simp] theorem State.drainState_wakeInval : s.wakeInval.drainState = s.drainState := by
  unfold State.wakeInval
  split
  · split
    · rfl
    · split
      · exact State.drainState_done ..
      · exact State.drainState_sendInval ..
  · rfl

@[simp] theorem State.drainState_unpark : s.unpark.drainState = s.drainState := by
  unfold State.unpark
  exact State.forEach_keeps State.drainState (fun _ _ => State.drainState_passOn ..) _ _

/-- After a drain has ended, there is none. -/
theorem State.drainState_resume : s.resume.drainState = (s.reel.active, none, s.reel.drainResult) := by
  unfold State.resume
  rw [State.drainState_unpark, State.drainState_wakeInval, State.drainState_wakeReel]
  rfl

end frame

/-- A ROUTE_SWAP that finds the fabric drained exchanges the tables at once. -/
theorem State.drainState_startSwap (h : s.drained = true) : (s.startDrain 1 c).drainState = (other s.reel.active, none, 1) := by
  simp only [State.startDrain, State.tryDrain]
  rw [if_pos (by exact h), State.drainState_resume]
  simp only [State.fire_reel, State.drainAct, State.done_reel]

/-! ### Commands (R303, R305, R310) -/

section commands

theorem exec_routeLoad_of_read (hn : 1 ≤ c.field s 26 4) (hl : c.field s 24 2 + c.field s 26 4 ≤ 65536)
    (hp : Passes s { op := 0x0602, named := [(16, 29)], long := true } c { reads := some (c.field s 16 8, 4 * c.field s 26 4) })
    (hb : readSpace s (c.port s) 1 (c.field s 16 8) (4 * c.field s 26 4) = some bs)
    (he : ∀ e ∈ (List.range (c.field s 26 4)).map fun i => leNat ((bs.drop (4 * i)).take 4), s.routeOk e = true) :
    exec (.routeLoad c) s = .next ({ accepted s { op := 0x0602, named := [(16, 29)], long := true } c { reads := some (c.field s 16 8, 4 * c.field s 26 4) } with
      reel := { s.reel with
        routes := s.reel.routes.mod (other s.reel.active) fun t => t.setAll 0 (c.field s 24 2) ((List.range (c.field s 26 4)).map fun i => leNat ((bs.drop (4 * i)).take 4)) } }.done c .ok) := by
  have hle : c.field s 26 4 ≤ 65536 := by omega
  have hany : ((List.range (c.field s 26 4)).map fun i => leNat ((bs.drop (4 * i)).take 4)).any (fun e => !s.routeOk e) = false :=
    List.any_eq_false.2 fun e hmem => by rw [he e hmem]; exact Bool.false_ne_true
  refine congrArg Host.Outcome.next ((selkan_passes_of ?_ hp).trans ?_)
  · rw [if_pos hle, Nat.min_eq_left hle, hb, if_neg (by omega), if_neg (by rw [Option.getD_some, hany]; exact Bool.false_ne_true), if_pos hle]
  · simp only [accepted_reel, if_pos hle, Nat.min_eq_left hle, hb, Option.getD_some]

theorem exec_routeSwap_of_idle (hp : Passes s { op := 0x0603, long := true } c {}) (hd : s.reel.drain = none) :
    exec (.routeSwap c) s = .next ((accepted s { op := 0x0603, long := true } c {}).startDrain 1 c) :=
  congrArg Host.Outcome.next (selkan_passes_of (by rw [hd]; rfl) hp)

/-- The request packets queued for egress. -/
def State.requestsQueued (s : State) : Nat := (s.rport.map fun p => (p.2.queue.map fun q => (q.2.filter fun k => isRequest k.opcode.toNat).length).sum).sum

/-- Those discarded, and counted. -/
def State.requestsDropped (s : State) : State := (s.forEach (List.range 8) fun p u => u.modRp p (·.dropRequests)).bump Ctr.reelDrainDiscard 0 s.requestsQueued

theorem exec_drainTimeout_of_late (h : s.reel.drain = some d) (ht : 50000 ≤ since d.at_ s.time.lea) (hd : s.drained = false) (hc : d.cmd = some c)
    {kept : State} (hk : kept = { s.requestsDropped with
      reel := { s.requestsDropped.reel with drainNs := since d.at_ s.time.lea, drainResult := 2, discarded := min s.requestsQueued 65535 } }) :
    exec .drainTimeout s = .next
      ((((if d.what = 1 then { kept with reel := { kept.reel with active := other kept.reel.active, routed := true } } else kept).done c .timeout
        (if d.what = 1 then result [(16, 4, since d.at_ s.time.lea), (20, 4, s.requestsQueued)] else result [(16, 4, 3)])).fire 0x310 2 0 (since d.at_ s.time.lea)).resume) := by
  refine congrArg Host.Outcome.next ?_
  rw [h]
  simp only
  rw [if_pos (by rw [State.elapsed_eq_true ht, hd]; rfl), hc, hk]
  rfl

theorem exec_drainTimeout_of_early (h : s.reel.drain = some d) (ht : since d.at_ s.time.lea < 50000 ∨ s.drained = true) : exec .drainTimeout s = .next s := by
  refine congrArg Host.Outcome.next ?_
  rw [h]
  refine if_neg ?_
  rcases ht with ht | ht
  · rw [State.elapsed_eq_false ht]; exact Bool.false_ne_true
  · rw [ht, Bool.not_true, Bool.and_false]; exact Bool.false_ne_true

/-- Does a PORT_SET change the gateway mode of its port? -/
def State.turnsGateway (s : State) (c : Cmd) : Bool :=
  decide (c.field s 16 1 < 8) && decide (c.field s 18 1 ≤ 1) && decide ((s.rp (c.field s 16 1)).gateway ≠ decide (c.field s 18 1 = 1))

theorem exec_portSet_of_passes {t : Bool} (hp : Passes s { op := 0x0604, named := [(16, 18)], long := t, noJob := t } c {}) (ht : s.turnsGateway c = t)
    (h8 : c.field s 16 1 < 8) (h1 : c.field s 17 1 ≤ 1) (hg : c.field s 18 1 ≤ 1) (hf : c.field s 18 1 = 1 → s.fuse.gateway = true)
    (hd : t = true → s.reel.drain = none) {on : State} (hon : on = accepted s { op := 0x0604, named := [(16, 18)], long := t, noJob := t } c {}) :
    exec (.portSet c) s = .next (if t then on.startDrain 3 c (c.field s 16 1)
      else (on.setPort (c.field s 16 1) (decide (c.field s 17 1 = 1)) (s.rp (c.field s 16 1)).gateway).done c .ok) := by
  have hrp : on.rp (c.field s 16 1) = s.rp (c.field s 16 1) := by rw [hon, State.rp, accepted_rport]; rfl
  have hturn : (decide (c.field s 16 1 < 8) && decide (c.field s 18 1 ≤ 1) && decide ((s.rp (c.field s 16 1)).gateway ≠ decide (c.field s 18 1 = 1))) = t := ht
  refine congrArg Host.Outcome.next ?_
  simp only [hturn]
  refine (selkan_passes_of ?_ hp).trans ?_
  · rw [if_neg (by omega), if_neg (by omega), if_neg (by rintro (h | ⟨h, h'⟩); omega; rw [hf h] at h'; cases h')]
    cases t with
    | false => rfl
    | true => rw [hd rfl]; rfl
  · rw [← hon, hrp]

theorem exec_portRetrain_of_passes (hp : Passes s { op := 0x0605, named := [(16, 16)], long := true } c {}) (h8 : c.field s 16 1 < 8)
    (he : (s.rp (c.field s 16 1)).enabled = true) (hm : (s.rp (c.field s 16 1)).present = true) {on : State}
    (hon : on = ((accepted s { op := 0x0605, named := [(16, 16)], long := true } c {}).setAux c (c.field s 16 1)).modRp (c.field s 16 1) fun x => { x with most := 8 }) :
    exec (.portRetrain c) s = .next (if (s.rp (c.field s 16 1)).state = .down then on.modRp (c.field s 16 1) fun x => { x with cause := 7 }
      else (on.portDown (c.field s 16 1) 7).modRp (c.field s 16 1) fun x => { x with cause := 7 }) := by
  have hrp : ∀ k v, (accepted s k c v).rp (c.field s 16 1) = s.rp (c.field s 16 1) := fun k v => by rw [State.rp, accepted_rport]; rfl
  refine congrArg Host.Outcome.next ((selkan_passes_of ?_ hp).trans ?_)
  · rw [if_neg (by omega), he, hm]; rfl
  · simp only [hrp, ← hon]

end commands

/-- Settles O24: each command and the end of a drain by what they find. -/
theorem routesAndPortsAreSet : Obligations.RoutesAndPortsAreSet := by
  unfold Obligations.RoutesAndPortsAreSet
  refine ⟨fun s c bs hp hn hl hb he => ⟨exec_routeLoad_of_read hn hl hp hb he, ?shadow⟩, fun s c hp hd => exec_routeSwap_of_idle hp hd, fun s c h => ?swapped,
    fun s d h ht => exec_drainTimeout_of_early h ht, fun s d c h ht hd hw hc => ?swapLate, fun s d c h ht hd hw hc => ?late, fun s c hp h8 h1 hg hsame hf => ?kept,
    fun s c hp h8 h1 hg hne hf hd => ?turned, fun s c hp h8 he hm => ⟨fun hst => ?_, fun hst => ?_⟩⟩
  case shadow =>
    have hback : ∀ i : Fin 2, other (other i) = i := by decide
    have h := Two.get_mod_other s.reel.routes (other s.reel.active) fun t =>
      t.setAll 0 (c.field s 24 2) ((List.range (c.field s 26 4)).map fun i => leNat ((bs.drop (4 * i)).take 4))
    rwa [hback] at h
  case swapped =>
    have h := State.drainState_startSwap (c := c) h
    exact ⟨congrArg Prod.fst h, congrArg (fun x => x.2.1) h, congrArg (fun x => x.2.2) h⟩
  case swapLate =>
    rw [exec_drainTimeout_of_late h ht hd hc rfl, if_pos hw, if_pos hw]
    rfl
  case late =>
    rw [exec_drainTimeout_of_late h ht hd hc rfl, if_neg hw, if_neg hw]
    rfl
  case kept =>
    rw [exec_portSet_of_passes (t := false) hp (by simp [State.turnsGateway, hsame]) h8 h1 hg hf (fun h => Bool.noConfusion h) rfl]
    rfl
  case turned =>
    rw [exec_portSet_of_passes (t := true) hp (by simpa [State.turnsGateway, h8, hg] using Ne.symm hne) h8 h1 hg hf (fun _ => hd) rfl]
    rfl
  · rw [exec_portRetrain_of_passes hp h8 he hm rfl, if_pos hst]
  · rw [exec_portRetrain_of_passes hp h8 he hm rfl, if_neg hst]

end
end Sys2Proof.Machine
end

section
/-! SUPPORT. Configuration slots, what is in force, and the commands that stage, apply and read a version. -/

set_option Elab.async false

namespace Sys2Proof.Machine
section
variable {s : State} {k : CmdSpec} {c : Cmd} {v : Verdict} {n : Settings} {x : Conf}

/-! ### Configuration slots (R363-R365, R369) -/

theorem other_other (i : Fin 2) : other (other i) = i := by revert i; decide

/-- Which slot is active, by its number. -/
theorem Conf.activeIx_eq {i : Fin 2} (h1 : (x.slot.get i).state = .active) (h2 : (x.slot.get (Sys2Proof.other i)).state ≠ .active) : x.activeIx = i := by
  unfold Conf.activeIx
  by_cases hi : i = 0
  · subst hi; exact if_pos h1
  · obtain rfl : i = 1 := by omega
    exact if_neg h2

/-- The slots after the other one has been activated. -/
theorem Conf.activate_slots :
    (x.activate.slot.get (Sys2Proof.other x.activeIx)).state = .active ∧ (x.activate.slot.get x.activeIx).state = .kept ∧
      (x.activate.slot.get (Sys2Proof.other x.activeIx)).version = x.other.version := by
  have hturn : (x.turn.slot.get (Sys2Proof.other x.activeIx)) = { x.other with state := .active } := by
    refine (Two.get_mod_same ..).trans ?_
    rw [Two.get_mod_other]
    rfl
  have hkept : (x.turn.slot.get x.activeIx).state = .kept := by
    have h := Two.get_mod_other (x.slot.mod x.activeIx fun x => { x with state := .kept }) (Sys2Proof.other x.activeIx) fun x => { x with state := .active }
    rw [other_other] at h
    refine (congrArg Slot.state h).trans ?_
    rw [Two.get_mod_same]
  have hix : x.turn.activeIx = Sys2Proof.other x.activeIx := Conf.activeIx_eq (by rw [hturn]) (by rw [other_other, hkept]; decide)
  have hcommit : x.activate.slot = x.turn.slot.mod (Sys2Proof.other x.activeIx) fun y => { y with actSeq := succ32 x.turn.other.actSeq } := by rw [← hix]; rfl
  refine ⟨?_, ?_, ?_⟩
  · rw [hcommit, Two.get_mod_same, hturn]
  · rw [hcommit]
    have h := Two.get_mod_other x.turn.slot (Sys2Proof.other x.activeIx) fun y => { y with actSeq := succ32 x.turn.other.actSeq }
    rw [other_other] at h
    exact (congrArg Slot.state h).trans hkept
  · rw [hcommit, Two.get_mod_same, hturn]

theorem Conf.activeIx_activate : x.activate.activeIx = Sys2Proof.other x.activeIx := by
  obtain ⟨h1, h2, -⟩ := Conf.activate_slots (x := x)
  exact Conf.activeIx_eq h1 (by rw [other_other, h2]; decide)

/-- What putting settings into force does to the configuration, and to the time. -/
theorem State.putInForce_frame : (s.putInForce n).conf = { s.conf with inForce := n, creelDue := s.conf.creelDue || !creelSame s.conf.inForce n } ∧
    (s.putInForce n).time = s.time := by
  have hf {β : Type} (g : State → β) (hp : ∀ (u : State) p f, g (u.modRp p f) = g u) (hfree : ∀ (u : State) p, g (u.prove p) = g u)
      (hpow : ∀ (u : State) x, g { u with pow := x } = g u) :
      g (s.putInForce n) = g { s with conf := { s.conf with inForce := n, creelDue := s.conf.creelDue || !creelSame s.conf.inForce n } } := by
    unfold State.putInForce
    extract_lets o cf s1 pw s2 s3
    have h2 : g s2 = g s1 := by
      simp only [s2]
      split
      · rfl
      · exact hpow _ _
    have h3 : g s3 = g s2 := State.when_keeps g (State.forEach_keeps g (fun p u => hp u p _) _ _) _
    refine (State.when_keeps g (State.forEach_keeps g (fun p u => hfree u p) _ _) _).trans (h3.trans h2)
  exact ⟨hf (·.conf) (fun _ _ _ => rfl) (fun _ _ => rfl) fun _ _ => rfl, hf (·.time) (fun _ _ _ => rfl) (fun _ _ => rfl) fun _ _ => rfl⟩

/-- The version that CONFIG_APPLY puts in force. -/
theorem State.applyNow_conf : (s.applyNow c).conf.activeIx = other s.conf.activeIx ∧ (s.applyNow c).conf.inForce = s.conf.other.settings ∧
    (s.applyNow c).conf.active.version = s.conf.other.version ∧
    (onlyPower s.conf.active.settings s.conf.other.settings = true → (s.applyNow c).conf.watching = s.conf.watching) ∧
    (onlyPower s.conf.active.settings s.conf.other.settings = false →
      (s.applyNow c).conf.watching = true ∧ (s.applyNow c).conf.until_ = (s.applyNow c).time.lea + 30000000000) := by
  have hslot : (s.applyNow c).conf.slot = s.conf.activate.slot ∧ (s.applyNow c).conf.inForce = s.conf.other.settings := by
    unfold State.applyNow
    extract_lets o m s1 s2 conf
    have h : s2.conf = s1.conf := State.done_conf ..
    have h1 : s1.conf = _ := State.putInForce_frame.1
    split
    · rw [h, h1]; exact ⟨rfl, rfl⟩
    · exact ⟨(congrArg Conf.slot (h.trans h1)).trans rfl, (congrArg Conf.inForce (h.trans h1)).trans rfl⟩
  have hix : (s.applyNow c).conf.activeIx = other s.conf.activeIx := by
    rw [← Conf.activeIx_activate, Conf.activeIx, Conf.activeIx, hslot.1]
  refine ⟨hix, hslot.2, ?_, fun h => ?_, fun h => ?_⟩
  · rw [Conf.active, hix, hslot.1]
    exact Conf.activate_slots.2.2
  · unfold State.applyNow
    extract_lets o m s1 s2 conf
    rw [if_pos h]
    exact (congrArg Conf.watching ((State.done_conf ..).trans State.putInForce_frame.1)).trans rfl
  · unfold State.applyNow
    extract_lets o m s1 s2 conf
    rw [if_neg (by rw [h]; exact Bool.false_ne_true)]
    exact ⟨rfl, rfl⟩

/-! ### Commands (R345, R346, R366, R367) -/

theorem exec_configStage_of_good {set : Settings} {sig : Bool} {img : List Byte}
    (hk : k = { op := 0x0201, named := [(16, 28)], long := true, nvm := true, blockForm := true })
    (hv : v = { needSig := s.claimed && !secSame s.conf.active.settings set, sigOk := s.signedBy c 0 sig, reads := s.imageReads c })
    (hp : Passes s k c v) (hb : s.stageBad c set = none) (hw : s.conf.watching = false) (hi : (accepted s k c v).stageImage c = some img) :
    exec (.configStage c set sig) s = .next ({ accepted s k c v with conf := { (accepted s k c v).conf with
      slot := (accepted s k c v).conf.slot.set (other (accepted s k c v).conf.activeIx)
        { state := .staged, version := BitVec.ofNat 32 (imageField img 8 4), actSeq := 0, image := img, settings := set }
      highWater := BitVec.ofNat 32 (imageField img 8 4) } }.done c .ok (result [(16, 4, (BitVec.ofNat 32 (imageField img 8 4)).toNat)])) := by
  subst hk
  refine congrArg Host.Outcome.next ((selkan_passes_of (by rw [hb, hw, hv]) hp).trans ?_)
  simp only [hi, Option.getD_some]

theorem exec_configApply_of_staged {sig recheck : Bool}
    (hk : k = { op := 0x0202, named := [(16, 19)], long := true, nvm := true, noJob := !onlyPower s.conf.active.settings s.conf.other.settings, blockForm := true })
    (hv : v = { needSig := s.claimed && !secSame s.conf.active.settings s.conf.other.settings, sigOk := s.signedBy c 0 sig })
    (hp : Passes s k c v) (hst : s.conf.other.state = .staged) (hver : s.conf.other.version.toNat = c.field s 16 4) (hw : s.conf.watching = false)
    (hd : fabricSame s.conf.active.settings s.conf.other.settings = false → s.reel.drain = none) :
    exec (.configApply c sig recheck) s = .next
      (if !recheck then { accepted s k c v with conf := { (accepted s k c v).conf with
          slot := (accepted s k c v).conf.slot.mod (other (accepted s k c v).conf.activeIx) fun y => { y with state := .invalid } } }.done c .fault
      else if !fabricSame s.conf.active.settings s.conf.other.settings then (accepted s k c v).startDrain 2 c else (accepted s k c v).applyNow c) := by
  have hbusy : (!fabricSame s.conf.active.settings s.conf.other.settings && s.reel.drain.isSome) = false := by
    cases hf : fabricSame s.conf.active.settings s.conf.other.settings with
    | false => rw [hd hf]; rfl
    | true => rfl
  subst hk
  refine congrArg Host.Outcome.next (selkan_passes_of ?_ hp)
  simp only [hbusy, hst, hver, hw, hv]
  rfl

theorem exec_configRead_of_held {w : HostWr} {x : Slot} (hp : Passes s { op := 0x0204, named := [(16, 19), (24, 31)], long := true, inHeld := true } c {})
    (hx : s.conf.holding (c.field s 16 4) = some x) {on : State}
    (hon : on = accepted s { op := 0x0204, named := [(16, 19), (24, 31)], long := true, inHeld := true } c {}) :
    exec (.configRead c w) s = .next (on.writeHostOut c (c.field on 24 8) x.bytes w) := by
  refine congrArg Host.Outcome.next ((selkan_passes_of (by rw [hx]; rfl) hp).trans ?_)
  rw [hx, ← hon]
  rfl

/-- Settles O8: each command on the state in which it is accepted, and what is in force after CONFIG_APPLY. -/
theorem configurationIsStagedAndApplied : Obligations.ConfigurationIsStagedAndApplied := by
  unfold Obligations.ConfigurationIsStagedAndApplied
  refine ⟨fun s c set sig img hp hb hw hi => exec_configStage_of_good rfl rfl hp hb hw hi, fun s c sig recheck => ?apply, fun s c w x => ?read⟩
  case apply =>
    intro o n k v on hp hst hver hw hd
    have h := exec_configApply_of_staged (recheck := recheck) (k := k) (v := v) rfl rfl hp hst hver hw hd
    refine ⟨fun hr => ?_, fun hr hf => ?_, fun hr hf => ⟨_, h.trans ?_, State.applyNow_conf (s := on) (c := c)⟩⟩
    · rw [h, hr]; rfl
    · rw [h, hr, show fabricSame s.conf.active.settings s.conf.other.settings = false from hf]; rfl
    · rw [hr, show fabricSame s.conf.active.settings s.conf.other.settings = true from hf]; rfl
  case read =>
    intro k on hp hx
    have h := exec_configRead_of_held (w := w) hp hx rfl
    refine ⟨fun hw => ?_, fun n hw => ?_⟩
    · rw [h, hw]; rfl
    · rw [h, hw]; rfl

end
end Sys2Proof.Machine
end

section
/-! SUPPORT. What fencing leaves alone; parking, rails, beats and crossings. -/

set_option Elab.async false

namespace Sys2Proof.Machine
section
variable {s u w : State} {k : CmdSpec} {c : Cmd} {v : Verdict} {x : Crossing} {f : RegionSt → RegionSt} {r q : Nat}

/-! ### What cutting a station off leaves alone (R205)

Fencing ends descriptors, wakes threads and moves packets. It leaves the region states and the seams' modes, and every part of
the state that is not about compute or the light. -/

/-- `t` has what `s` has of everything that fencing leaves alone. -/
structure State.Spares (s t : State) : Prop where
  regions : Tab.wf s.region {} = true →
    Tab.wf t.region {} = true ∧ ∀ q, (t.reg q).state = (s.reg q).state ∧ (t.reg q).seam.mode = (s.reg q).seam.mode
  rest : (t.time, t.host, t.spin, t.mod, t.conf, t.pow, t.cal, t.plan, t.sec, t.card, t.fuse) =
    (s.time, s.host, s.spin, s.mod, s.conf, s.pow, s.cal, s.plan, s.sec, s.card, s.fuse)

section
variable {cell t no code i stn n m : Nat} {id : BitVec 32} {how : DescEnd}

theorem State.Spares.refl : s.Spares s := ⟨fun h => ⟨h, fun _ => ⟨rfl, rfl⟩⟩, rfl⟩

theorem State.Spares.trans (h : s.Spares u) (h2 : u.Spares w) : s.Spares w :=
  ⟨fun hw => ⟨(h2.regions (h.regions hw).1).1, fun q => ⟨((h2.regions (h.regions hw).1).2 q).1.trans ((h.regions hw).2 q).1,
    ((h2.regions (h.regions hw).1).2 q).2.trans ((h.regions hw).2 q).2⟩⟩, h2.rest.trans h.rest⟩

/-- What leaves the regions and the rest as they are spares them. -/
theorem State.Spares.same (h : s.Spares u) (hr : w.region = u.region := by rfl)
    (hs : (w.time, w.host, w.spin, w.mod, w.conf, w.pow, w.cal, w.plan, w.sec, w.card, w.fuse) =
      (u.time, u.host, u.spin, u.mod, u.conf, u.pow, u.cal, u.plan, u.sec, u.card, u.fuse) := by rfl) : s.Spares w :=
  h.trans ⟨fun hw => ⟨hr ▸ hw, fun q => by rw [State.reg, State.reg, hr]; exact ⟨rfl, rfl⟩⟩, hs⟩

theorem State.Spares.modReg (h : s.Spares u) (hf : ∀ y : RegionSt, (f y).state = y.state ∧ (f y).seam.mode = y.seam.mode) : s.Spares (u.modReg r f) := by
  refine h.trans ⟨fun hw => ⟨State.wf_modReg f hw, fun q => ?_⟩, rfl⟩
  by_cases hq : q = r
  · rw [hq, State.reg_modReg f hw]; exact hf _
  · rw [State.reg_modReg_other f hw hq]; exact ⟨rfl, rfl⟩

theorem State.Spares.when {f : State → State} {b : Bool} (h : s.Spares u) (hf : s.Spares u → s.Spares (f u)) : s.Spares (u.when b f) :=
  State.when_holds (P := s.Spares) h hf b

theorem State.Spares.ite {p : Prop} [Decidable p] (h : s.Spares u) (h2 : s.Spares w) : s.Spares (if p then u else w) := by
  split
  · exact h
  · exact h2

theorem State.Spares.forEach {α : Type} {xs : List α} {f : α → State → State} (h : s.Spares u)
    (hf : ∀ {u : State} {a}, s.Spares u → s.Spares (f a u)) : s.Spares (u.forEach xs f) :=
  State.forEach_holds (P := s.Spares) (fun _ _ => hf) h xs

theorem State.Spares.modCel {f : CellSt → CellSt} (h : s.Spares u) : s.Spares (u.modCel n f) := h.same
theorem State.Spares.modThr {f : ThreadSt → ThreadSt} (h : s.Spares u) : s.Spares (u.modThr n m f) := h.modCel
theorem State.Spares.modBlk {f : BlockSt → BlockSt} (h : s.Spares u) : s.Spares (u.modBlk n f) := h.same
theorem State.Spares.modSnd {f : Sender → Sender} (h : s.Spares u) : s.Spares (u.modSnd id f) := h.same
theorem State.Spares.modRing {f : RingSt → RingSt} (h : s.Spares u) : s.Spares (u.modRing n f) := h.same
theorem State.Spares.modPly {f : PlyPort → PlyPort} (h : s.Spares u) : s.Spares (u.modPly n f) := h.same

theorem State.Spares.stamp {f : Cause → Cause} (h : s.Spares u) : s.Spares (u.stamp code i stn f) :=
  State.Spares.same (u := u.when (decide (stn < 16)) (·.fire (16 * stn) code i u.time.lea.toNat)) (h.when fun h => h.same)

theorem State.Spares.latch (h : s.Spares u) : s.Spares (u.latch r n i) := h.forEach fun h => h.when fun h => h.modBlk

theorem State.Spares.tryToken {y : Nat × Nat × Nat × Bool} (h : s.Spares u) : s.Spares (u.tryToken r n y) :=
  .ite h (.modThr (.modReg h fun _ => ⟨rfl, rfl⟩))

theorem State.Spares.signal (h : s.Spares u) : s.Spares (u.signal r n m i) :=
  .ite h.stamp (.forEach (.latch (.modReg h fun _ => ⟨rfl, rfl⟩)) fun h => h.tryToken)

theorem State.Spares.tell {y : CtrlMsg} (h : s.Spares u) : s.Spares (u.tell r y) := by
  unfold State.tell
  exact .when h fun h => .modReg h fun _ => ⟨rfl, rfl⟩

theorem State.Spares.tellSignal (h : s.Spares u) : s.Spares (u.tellSignal i n m) := .tell h

theorem State.Spares.tokenOf {d : Desc} (h : s.Spares u) : s.Spares (u.tokenOf cell d) := .when h fun h => .tellSignal (.signal h)

theorem State.Spares.endDesc (h : s.Spares u) : s.Spares (u.endDesc cell no how) := .modCel (.modBlk h)

theorem State.Spares.cutRaw {ids : List (BitVec 32)} (h : s.Spares u) : s.Spares (u.cutRaw ids) := h.forEach fun h => h.stamp.endDesc

theorem State.Spares.endGroup (h : s.Spares u) : s.Spares (u.endGroup i code stn) := by
  unfold State.endGroup
  split
  · exact .modPly (.stamp (.forEach h fun h => h.endDesc))
  · exact h

theorem State.Spares.loseMember (h : s.Spares u) : s.Spares (u.loseMember i code stn) :=
  .ite (.same (u := u.when _ fun v => v.endGroup i code stn) (h.when fun h => h.endGroup)) (.ite h.endGroup h)

theorem State.Spares.restRings {rs : List Nat} (h : s.Spares u) : s.Spares (u.restRings rs) := by
  refine h.forEach fun h => ?_
  split
  case h_4 => exact h
  all_goals exact h.same

theorem State.Spares.sendOn {p : SPkt} (h : s.Spares u) : s.Spares (u.sendOn id p) := by
  unfold State.sendOn
  extract_lets s1
  exact .same (u := s1) (.modSnd h)

theorem State.Spares.reissue {loop : Nat} {p : SPkt} (h : s.Spares u) : s.Spares (u.reissue id loop p) := by
  refine .ite (.stamp (.modSnd h)) ?_
  split
  · exact .modSnd (.sendOn (.modSnd h))
  · exact .modSnd h

theorem State.Spares.moveFlight (h : s.Spares u) : s.Spares (u.moveFlight id) := by
  refine .forEach (.same (u := u.forEach _ fun p u => u.reissue id 128 p) (h.forEach fun h => h.reissue)) fun h => ?_
  split
  · exact h.sendOn
  · exact h

theorem State.Spares.withdraw {ids : List (BitVec 32)} (h : s.Spares u) : s.Spares (u.withdraw ids) := by
  unfold State.withdraw
  extract_lets s1 s2 gone
  have h2 : s.Spares s2 := h.cutRaw.forEach fun h => h.loseMember
  exact .forEach (.restRings h2.same) fun h => h.moveFlight

theorem State.Spares.poisonRows {d : Desc} {a b : Nat} (h : s.Spares u) : s.Spares (u.poisonRows d a b) := h.forEach fun h => h.same

theorem State.Spares.prune (h : s.Spares u) : s.Spares (u.prune id stn) := by
  unfold State.prune
  extract_lets y ds s1
  exact (h.forEach fun h => h.poisonRows.endDesc.tokenOf : s.Spares s1).same

theorem State.Spares.fence (h : s.Spares u) : s.Spares (u.fence stn) := by
  refine .ite h ?_
  extract_lets live gone pruned s1 s2
  exact ((h.withdraw.forEach fun h => h.prune : s.Spares s1).forEach fun h => h.loseMember : s.Spares s2).same

end


/-! ### Regions and crossings -/

/-- What an update of one region changes. -/
theorem State.modReg_only (r : Nat) (f : RegionSt → RegionSt) (hw : Tab.wf s.region {} = true) :
    s.modReg r f = { s with region := (s.modReg r f).region } ∧ (∀ q, q ≠ r → (s.modReg r f).reg q = s.reg q) ∧ (s.modReg r f).reg r = f (s.reg r) :=
  ⟨rfl, fun _ hq => State.reg_modReg_other f hw hq, State.reg_modReg f hw⟩

/-- Both ends of a seam take an update of it. -/
theorem State.modXing_seam (d : Fin 8) (f : Xing → Xing) (hw : Tab.wf s.region {} = true) :
    Tab.wf (s.modXing (.seam d) f).region {} = true ∧ ∀ r, r / 2 = d.val → (s.modXing (.seam d) f).reg r = { s.reg r with seam := f (s.reg r).seam } := by
  have h1 : Tab.wf (s.modReg (2 * d.val) fun y => { y with seam := f y.seam }).region {} = true := State.wf_modReg _ hw
  refine ⟨State.wf_modReg (s := s.modReg (2 * d.val) fun y => { y with seam := f y.seam }) _ h1, fun r hr => ?_⟩
  change ((s.modReg (2 * d.val) fun y => { y with seam := f y.seam }).modReg (2 * d.val + 1) fun y => { y with seam := f y.seam }).reg r = _
  obtain rfl | rfl : r = 2 * d.val ∨ r = 2 * d.val + 1 := by omega
  · rw [State.reg_modReg_other _ h1 (by omega), State.reg_modReg _ hw]
  · rw [State.reg_modReg _ h1, State.reg_modReg_other _ hw (by omega)]

/-- A half that is parked. -/
theorem State.parkHalf_reg {r : Nat} (hr : r < 16) (hw : Tab.wf s.region {} = true) :
    ((s.parkHalf r).reg r).state = .parked ∧ ((s.parkHalf r).reg r).seam.mode = 1 ∧ (s.parkHalf r).cal.railTarget = s.cal.railTarget.set 750 r 550 := by
  unfold State.parkHalf
  extract_lets d was s1 s2 s3
  obtain ⟨hw1, h1⟩ : Tab.wf s1.region {} = true ∧ ∀ q, q / 2 = d.val → s1.reg q = _ := State.modXing_seam d _ hw
  have hs : s1.Spares (s2.fence r) := .fence (.when .refl fun h => .forEach h fun h => .same h)
  obtain ⟨hw3, h3⟩ := hs.regions hw1
  obtain ⟨-, h4, -⟩ := State.setRegion_reg r .parked hw3
  have hcal : s3.cal = s.cal := (State.setRegion_keeps (·.cal) (by simp [State.dropLaunch]) r .parked fun _ _ _ _ => rfl).trans (congrArg (·.2.2.2.2.2.2.1) hs.rest)
  refine ⟨congrArg RegionSt.state h4, ?_, congrArg (fun y : Cal => y.railTarget.set 750 r 550) hcal⟩
  calc (s3.reg r).seam.mode = ((s2.fence r).reg r).seam.mode := congrArg (·.seam.mode) h4
    _ = (s1.reg r).seam.mode := (h3 r).2
    _ = 1 := by rw [h1 r (by simp only [d]; omega)]


/-! ### Parking and rails (R391) -/

theorem exec_regionPark_of_ready (hk : k = { op := 0x0703, named := [(16, 17)], long := true }) (hp : Passes s k c {}) (hm : c.field s 16 2 ≠ 0)
    (hr : ∀ r ∈ onesOf 16 (c.field s 16 2), (s.reg r).state = .ready ∧ (s.reg (2 * (r / 2) + (1 - r % 2))).state = .ready) :
    exec (.regionPark c) s = .next (((accepted s k c {}).setAux c (c.field s 16 2)).forEach (onesOf 16 (c.field s 16 2)) fun r s => s.parkHalf r) := by
  subst hk
  have hall : ((onesOf 16 (c.field s 16 2)).all fun r =>
      decide ((s.reg r).state = .ready) && decide ((s.reg (2 * (r / 2) + (1 - r % 2))).state = .ready)) = true :=
    List.all_eq_true.mpr fun r h => by rw [decide_eq_true (hr r h).1, decide_eq_true (hr r h).2]; rfl
  refine congrArg Host.Outcome.next (selkan_passes_of ?_ hp)
  simp only [regionMaskBad, if_neg hm, hall, Bool.not_true]

/-- The set-points of named halves, taken as one update: none changes the guardband plan. -/
theorem State.forEach_setPoint (s : State) (rs : List Nat) :
    s.forEach rs (fun r u => { u with cal := { u.cal with railTarget := u.cal.railTarget.set 750 r (u.setPoint r) } }) =
      s.forEach rs fun r (u : State) => { u with cal := { u.cal with railTarget := u.cal.railTarget.set 750 r (750 + s.plan.guard.get 0 (r / 2)) } } := by
  suffices h : ∀ u : State, u.plan = s.plan → u.forEach rs (fun r u => { u with cal := { u.cal with railTarget := u.cal.railTarget.set 750 r (u.setPoint r) } }) =
      u.forEach rs fun r (u : State) => { u with cal := { u.cal with railTarget := u.cal.railTarget.set 750 r (750 + s.plan.guard.get 0 (r / 2)) } } from h s rfl
  intro u hu
  induction rs generalizing u with
  | nil => rfl
  | cons r rs ih =>
    have h : u.setPoint r = 750 + s.plan.guard.get 0 (r / 2) := congrArg (fun p : Plan => 750 + p.guard.get 0 (r / 2)) hu
    rw [State.forEach_cons, State.forEach_cons, h]
    exact ih _ hu

theorem exec_regionUnpark_of_parked (hk : k = { op := 0x0704, named := [(16, 17)], long := true }) (hp : Passes s k c {}) (hm : c.field s 16 2 ≠ 0)
    (hr : ∀ r ∈ onesOf 16 (c.field s 16 2), (s.reg r).state = .parked) :
    exec (.regionUnpark c) s = .next (((accepted s k c {}).setAux c (c.field s 16 2)).forEach (onesOf 16 (c.field s 16 2)) fun r (u : State) =>
      { u with cal := { u.cal with railTarget := u.cal.railTarget.set 750 r (750 + s.plan.guard.get 0 (r / 2)) } }) := by
  have hall : ((onesOf 16 (c.field s 16 2)).all fun r => decide ((s.reg r).state = .parked)) = true :=
    List.all_eq_true.mpr fun r h => decide_eq_true (hr r h)
  have hplan : ((accepted s k c {}).setAux c (c.field s 16 2)).plan = s.plan := accepted_plan ..
  rw [← hplan, ← State.forEach_setPoint]
  subst hk
  refine congrArg Host.Outcome.next (selkan_passes_of ?_ hp)
  simp only [regionMaskBad, if_neg hm, hall, Bool.not_true]

theorem toward_steps (a b : Nat) : (a < b → toward a b = a + 1) ∧ (b < a → toward a b = a - 1) ∧ toward a a = a := by
  unfold toward
  refine ⟨fun h => if_pos h, fun h => ?_, ?_⟩
  · rw [if_neg (by omega), if_pos h]
  · rw [if_neg (lt_irrefl a), if_neg (lt_irrefl a)]

/-- A step of the two rails of a die, at each half. -/
theorem Tab.get_rails (t goal : Tab Nat) (d r : Nat) (hw : Tab.wf t 750 = true) :
    ((t.set 750 (2 * d) (toward (t.get 750 (2 * d)) (goal.get 750 (2 * d)))).mod 750 (2 * d + 1) fun mv => toward mv (goal.get 750 (2 * d + 1))).get 750 r =
      if r / 2 = d then toward (t.get 750 r) (goal.get 750 r) else t.get 750 r := by
  have hw1 : Tab.wf (t.set 750 (2 * d) (toward (t.get 750 (2 * d)) (goal.get 750 (2 * d)))) 750 = true := Tab.wf_set _ _ hw
  split
  next hr =>
    obtain rfl | rfl : r = 2 * d ∨ r = 2 * d + 1 := by omega
    · rw [Tab.get_mod_other (by omega) _ hw1, Tab.get_set_same _ _ hw]
    · rw [Tab.get_mod_same _ _ hw1, Tab.get_set_other (by omega) _ hw]
  next hr => rw [Tab.get_mod_other (by omega) _ hw1, Tab.get_set_other (by omega) _ hw]

theorem exec_leaStep_of_passes (hk : k = { op := 0x0606, named := [(16, 23)], noJob := true }) (hp : Passes s k c {}) {lea : Lea}
    (hl : lea = s.time.lea + BitVec.ofNat 64 (c.field (accepted s k c {}) 16 8)) :
    exec (.leaStep c) s = .next ((({ accepted s k c {} with time := { s.time with lea := lea, stepped := true } }).fire 0x311 2 0 lea.toNat).done c .ok
      (result [(16, 8, lea.toNat)])) := by
  subst hk hl
  rw [← accepted_time (s := s) (k := { op := 0x0606, named := [(16, 23)], noJob := true }) (c := c) (v := {})]
  exact congrArg Host.Outcome.next (selkan_passes hp)

/-! ### Beats and crossings (R145, R148, R153, R155) -/

/-- The largest of a list is at least each member. -/
theorem le_foldl_max {n m : Nat} {xs : List Nat} (h : n ≤ m ∨ n ∈ xs) : n ≤ xs.foldl max m := by
  induction xs generalizing m with
  | nil => exact h.resolve_right (by simp)
  | cons y ys ih =>
    refine ih ?_
    rcases h with h | h
    · exact .inl (Nat.le_trans h (Nat.le_max_left ..))
    · rcases List.mem_cons.mp h with rfl | h
      · exact .inl (Nat.le_max_right ..)
      · exact .inr h

/-- A late stage in the last microsecond is seen in NOW_PS. -/
theorem State.le_hsNow {ps : Nat} (h : (s.time.lea, ps) ∈ (s.reg r).hsRecent) : ps ≤ s.hsNow r := by
  refine le_foldl_max (.inr (List.mem_map.mpr ⟨_, List.mem_filter.mpr ⟨h, decide_eq_true ?_⟩, rfl⟩))
  rw [since, BitVec.sub_self]
  decide

theorem exec_phaseCheck_of_queued {slip : Int} {far : Bool} (h : (s.xing x (xingReceiver x far)).mode ≠ 0) :
    exec (.phaseCheck x { slip := slip, far := far }) s = .next s :=
  congrArg Host.Outcome.next (if_pos (by rw [bne_iff_ne]; exact h))

theorem exec_phaseCheck_of_forwarded {slip : Int} {far : Bool} (h : (s.xing x (xingReceiver x far)).mode = 0) {t : State}
    (ht : t = s.modXing x fun y => { y with slipMax := max y.slipMax (min slip.natAbs 0xFF) }) : exec (.phaseCheck x { slip := slip, far := far }) s =
      .next (if slip.natAbs ≤ 2 then t else ((t.modXing x fun y => { y with hold := true, detOk := false }).bump Ctr.crossSlip (xingReceiver x far)).fire
        (16 * xingReceiver x far + 5) 0 (xingReceiver x far) slip.natAbs) := by
  subst ht
  exact congrArg Host.Outcome.next (if_neg (by rw [h]; decide))

/-- The seam of halves that are not PARKED. -/
theorem seam_unparked {d : Fin 8} (h0 : (s.reg (2 * d.val)).state ≠ .parked) (h1 : (s.reg (2 * d.val + 1)).state ≠ .parked) :
    ((xingEnds (.seam d)).any fun r => decide ((s.reg r).state = .parked)) = false := by
  simp only [xingEnds, List.any_cons, List.any_nil, decide_eq_false h0, decide_eq_false h1, Bool.or_false]

theorem exec_seamModeSwitch_of_unparked {d : Fin 8} (h0 : (s.reg (2 * d.val)).state ≠ .parked) (h1 : (s.reg (2 * d.val + 1)).state ≠ .parked)
    {told : State → State} (ht : told = fun u => u.forEach [2 * d.val, 2 * d.val + 1] fun r (u : State) => u.fire (16 * r + 5) 0 r (u.reg r).seam.mode) :
    exec (.seamModeSwitch d none) s = .next (told (s.modXing (.seam d) fun y => { y with mode := 1, detOk := false })) ∧
    ∀ rt, exec (.seamModeSwitch d (some rt)) s =
      .next (s.when (s.railsSettled d && decide ((s.reg (2 * d.val)).seam.calFails < 3)) fun s => told (s.modXing (.seam d) (·.recalibrate rt))) := by
  subst ht
  have h : ¬ ((xingEnds (.seam d)).any fun r => decide ((s.reg r).state = .parked)) = true := by rw [seam_unparked h0 h1]; exact Bool.false_ne_true
  exact ⟨congrArg Host.Outcome.next (if_neg h), fun rt => congrArg Host.Outcome.next (if_neg h)⟩

/-- Settles O14: rails, beats and crossings, clause by clause. That the set-point is 750 mV is the model's choice (log 5), and so are
the codes of notes 0x311 and 16r+5 (log 85). -/
theorem railsBeatsAndCrossingsAreKept : Obligations.RailsBeatsAndCrossingsAreKept := by
  unfold Obligations.RailsBeatsAndCrossingsAreKept
  refine ⟨⟨fun s c => exec_regionPark_of_ready rfl, fun s r hr hw hc => ?park, fun s c => exec_regionUnpark_of_parked rfl,
    fun s d hm => congrArg Host.Outcome.next (if_neg hm), fun s d hm => ⟨fun hw r => Tab.get_rails _ _ _ _ hw, congrArg Host.Outcome.next (if_pos hm)⟩,
    toward_steps, fun s c hp => exec_leaStep_of_passes rfl hp rfl⟩, fun s r mv hw => ?droop, fun s r hw hd => ?release, fun s r hd => ?deep,
    fun s r n ps hw => ?gate, fun s r slip far hw hm => ?check, fun s x slip far => exec_phaseCheck_of_queued, fun s x => rfl, fun s d h0 h1 => ?seam⟩
  case park =>
    obtain ⟨hs, hm, ht⟩ := State.parkHalf_reg hr hw
    exact ⟨hs, hm, by rw [ht, Tab.get_set_same _ _ hc]⟩
  case droop =>
    obtain ⟨hf, ho, hn⟩ := State.modReg_only (s := s) r.val (fun x => { x with
      droopMv := mv, droopLen := if mv < 25 then x.droopLen else droopBeat mv, deepest := max x.deepest (min mv 0xFF) }) hw
    refine ⟨_, rfl, hf, ho, ?_⟩
    rw [hn]
    exact ⟨rfl, fun h => if_neg (by omega), fun h => if_pos h, rfl, rfl⟩
  case release =>
    obtain ⟨hf, ho, hn⟩ := State.modReg_only (s := s) r.val (fun x => { x with droopLen := 1 }) hw
    exact ⟨_, congrArg (fun b => Host.Outcome.next (s.when b _)) (decide_eq_true hd), hf, ho, hn⟩
  case deep => exact congrArg (fun b => Host.Outcome.next (s.when b _)) (decide_eq_false (by omega))
  case gate =>
    obtain ⟨hf, ho, hn⟩ := State.modReg_only (s := s.bump Ctr.gateHold r.val) r.val (fun x => { x with
      gate := x.gate + n, hsWorst := max x.hsWorst ps, gateHolds := satAdd 0xFFFF x.gateHolds 1
      hsRecent := (x.hsRecent.filter fun e => decide (since e.1 s.time.lea < 1000)) ++ [(s.time.lea, ps)] }) hw
    refine ⟨_, rfl, hf, ho, congrArg RegionSt.gate hn, State.le_hsNow ?_, congrArg RegionSt.hsWorst hn⟩
    exact (congrArg RegionSt.hsRecent hn).symm ▸ List.mem_append_right _ (List.mem_singleton.mpr rfl)
  case check =>
    obtain ⟨hf, ho, hn⟩ := State.modReg_only (s := s) r.val (fun y => { y with stn := { y.stn with slipMax := max y.stn.slipMax (min slip.natAbs 0xFF) } }) hw
    have h := exec_phaseCheck_of_forwarded (s := s) (x := .stn r) (slip := slip) (far := far) hm rfl
    by_cases hs : slip.natAbs ≤ 2
    · rw [if_pos hs] at h
      exact ⟨_, h, hf, ho, congrArg (·.stn.slipMax) hn, fun _ => ⟨congrArg (·.stn.hold) hn, congrArg (·.stn.detOk) hn, rfl⟩, fun h => absurd hs (by omega)⟩
    · rw [if_neg hs] at h
      obtain ⟨-, ho2, hn2⟩ := State.modReg_only (s := s.modXing (.stn r) fun y => { y with slipMax := max y.slipMax (min slip.natAbs 0xFF) }) r.val
        (fun y => { y with stn := { y.stn with hold := true, detOk := false } }) (State.wf_modReg _ hw)
      exact ⟨_, h, rfl, fun q hq => (ho2 q hq).trans (ho q hq), (congrArg (·.stn.slipMax) hn2).trans (congrArg (·.stn.slipMax) hn), fun h => absurd h hs,
        fun _ => ⟨congrArg (·.stn.hold) hn2, congrArg (·.stn.detOk) hn2⟩⟩
  case seam =>
    obtain ⟨hn, hs⟩ := exec_seamModeSwitch_of_unparked h0 h1 rfl
    refine ⟨hn, fun rt => ⟨fun hr hc => ?_, fun hr => ?_⟩⟩
    · rw [hs, hr, decide_eq_true hc]; rfl
    · rw [hs, show (s.railsSettled d && decide ((s.reg (2 * d.val)).seam.calFails < 3)) = false by
        rcases hr with hr | hr
        · rw [hr]; rfl
        · rw [decide_eq_false (by omega), Bool.and_false]]
      rfl

end
end Sys2Proof.Machine
end

section
/-! SUPPORT. The loss of the rails, and the supply's table. -/

set_option Elab.async false

namespace Sys2Proof.Machine
section
variable {s : State} {k : CmdSpec} {c : Cmd} {v : Verdict} {mv : Nat}

/-! ### Losing the rails (R392, R394, R431) -/

/-- What the rails' loss leaves of the state. -/
theorem State.unpower_fields : s.unpower.time = s.time ∧ s.unpower.host = s.host ∧ s.unpower.mems = s.mems ∧ s.unpower.spin = s.spin ∧ s.unpower.mod = s.mod ∧
    s.unpower.conf = s.conf ∧ s.unpower.job = s.job ∧ s.unpower.cal = s.cal ∧ s.unpower.plan = s.plan ∧ s.unpower.sec = s.sec ∧ s.unpower.card = s.card ∧
    s.unpower.fuse = s.fuse ∧ s.unpower.guard = s.guard ∧ s.unpower.pow.supply = s.pow.supply := by
  have hf {β : Type} (g : State → β) (hm : ∀ (u : State) k f, g (u.modStk k f) = g u) (hn : ∀ (u : State) a b c d, g (u.fire a b c d) = g u)
      (hc : ∀ (u : State) k f, g (u.modCage k f) = g u) (hr : ∀ (u : State) r f, g (u.modReg r f) = g u)
      (hl : ∀ u : State, g { u with
        pow := { u.pow with die := u.pow.die.filter fun e => decide (16 ≤ e.1) && decide (e.1 < 18) }
        block := []
        cell := []
        ply := []
        skein := { u.skein with state := 0, locked := false, loop := [], ring := [], rcv := [], snd := [] }
        creel := { u.creel with
          mapped := false, plan := [], out := [], demand := [], table := [], run := none, start := none, requal := none, retune := [], pruned := 0 }
        light := { u.light with ready := false, group := [], loop := [] }
        memory := { u.memory with journal := [], hot := [], recent := [], rcache := [], writeback := [], sramWriteback := [] } } = g u) : g s.unpower = g s := by
    refine (hl _).trans ?_
    refine (State.forEach_keeps g (fun r u => (State.when_keeps g (hn ..) _).trans (hr ..)) _ _).trans ?_
    refine (State.forEach_keeps g (fun k u => hc u k _) _ _).trans ?_
    exact State.forEach_keeps g (fun k u => (State.when_keeps g (hn ..) _).trans (hm ..)) _ _
  have h := hf (fun u => (u.time, u.host, u.mems, u.spin, u.mod, u.conf, u.job, u.cal, u.plan, u.sec, u.card, u.fuse, u.guard, u.pow.supply))
    (fun _ _ _ => rfl) (fun _ _ _ _ _ => rfl) (fun _ _ _ => rfl) (fun _ _ _ => rfl) fun _ => rfl
  simpa only [Prod.mk.injEq] using h

/-! ### The supply's table (R383-R386, R392) -/

theorem exec_sagEnter_of_low (hs : s.pow.supply = .run) (hm : mv < 47000 ∨ s.hold = true) {sag : State}
    (h : sag = { s.measure mv with pow := { (s.measure mv).pow with supply := .sag, sagAt := s.time.lea, sagMin := mv } }) :
    exec (.sagEnter mv) s = .next (((sag.bump Ctr.sagEnter).fire 0x340 2 0 mv).raiseTo (max s.pow.level s.pow.sagLevel)) := by
  subst h
  exact congrArg Host.Outcome.next (if_pos (by
    rw [hs, Bool.and_eq_true, Bool.or_eq_true, decide_eq_true_eq, decide_eq_true_eq]
    exact ⟨rfl, hm⟩))

theorem exec_sagEnter_of_not (h : s.pow.supply ≠ .run ∨ 47000 ≤ mv ∧ s.hold = false) : exec (.sagEnter mv) s = .next s := by
  refine congrArg Host.Outcome.next (if_neg ?_)
  simp only [Bool.and_eq_true, Bool.or_eq_true, decide_eq_true_eq]
  rintro ⟨hr, hm⟩
  rcases h with h | ⟨h1, h2⟩
  · exact h hr
  · rw [h2] at hm
    exact hm.elim (by omega) Bool.false_ne_true

theorem State.elapsed_iff {t : Lea} {ns : Nat} : s.elapsed t ns = true ↔ ns ≤ since t s.time.lea := decide_eq_true_iff

/-- When SAG is left. -/
def State.Recovers (s : State) (mv : Nat) : Prop :=
  s.pow.supply = .sag ∧ 48000 ≤ mv ∧ s.hold = false ∧ 100000 ≤ since s.pow.sagAt s.time.lea ∧ 100000 ≤ since (s.obs.line.get {} 2).since_ s.time.lea

theorem State.recovers_iff : (decide (s.pow.supply = .sag) && decide (mv ≥ 48000) && !s.hold && s.elapsed s.pow.sagAt 100000 &&
    s.elapsed (s.obs.line.get {} 2).since_ 100000) = true ↔ s.Recovers mv := by
  simp only [Bool.and_eq_true, decide_eq_true_eq, Bool.not_eq_true', State.elapsed_iff, State.Recovers, and_assoc, ge_iff_le]

theorem exec_sagExit_of_recovered (h : s.Recovers mv) {run : State}
    (hr : run = { s.measure mv with pow := { (s.measure mv).pow with supply := .run, sagUs := since s.pow.sagAt s.time.lea / 1000 } }) :
    exec (.sagExit mv) s = .next (run.fire 0x340 1 0 mv).resumeBoot := by
  subst hr
  exact congrArg Host.Outcome.next (if_pos (State.recovers_iff.mpr h))

theorem exec_sagExit_of_not (h : ¬ s.Recovers mv) : exec (.sagExit mv) s = .next s :=
  congrArg Host.Outcome.next (if_neg (mt State.recovers_iff.mp h))

theorem exec_upperBand_of_crossed {high : Bool} (hs : s.pow.supply.on = true) (hb : decide (57000 ≤ mv ∧ mv ≤ 60000) = high) (hc : high ≠ s.pow.overV) :
    exec (.upperBand mv) s = .next (({ s.measure mv with pow := { (s.measure mv).pow with overV := high } }).fire 0x340 high.toNat 1 mv) := by
  rw [Bool.decide_and] at hb
  subst hb
  exact congrArg Host.Outcome.next (if_pos (by rw [hs, decide_eq_true hc]; rfl))

/-- A power-fail stops what is in progress and takes the rails; the configuration, the fuses and the memories stay. -/
theorem exec_powerFail_of_failing {cause : FailCause} {samples : List (Nat × Nat)} (hs : s.pow.supply.on = true) (hf : s.failing cause = true) :
    ∃ t, exec (.powerFail cause samples) s = .next t ∧ t.pow.supply = .fail ∧ t.mod.state = .booting ∧ t.spin.lops = [] ∧ t.spin.merged = [] ∧
      t.job.launches = [] ∧ t.block = [] ∧ t.cell = [] ∧ t.skein.state = 0 ∧ t.fuse = s.fuse ∧ t.conf = s.conf ∧ t.mems = s.mems := by
  have hc : (s.pow.supply.on && s.failing cause) = true := by rw [hs, hf]; rfl
  refine ⟨_, congrArg Host.Outcome.next (if_pos hc), ?_⟩
  extract_lets pw s1 s2 s3
  have h1 : (s1.fuse, s1.conf, s1.mems, s1.pow.supply) = (s.fuse, s.conf, s.mems, .fail) := by
    simp only [s1]
    cases cause <;> rfl
  have h3 : (s3.pow, s3.spin, s3.job, s3.fuse, s3.conf, s3.mems) = (s2.pow, s2.spin, s2.job, s2.fuse, s2.conf, s2.mems) :=
    State.when_keeps (fun u => (u.pow, u.spin, u.job, u.fuse, u.conf, u.mems)) (by simp only [State.makeRec_pow]; rfl) _
  obtain ⟨f1, c1, m1, p1⟩ : s1.fuse = _ ∧ s1.conf = _ ∧ s1.mems = _ ∧ s1.pow.supply = _ := by simpa only [Prod.mk.injEq] using h1
  obtain ⟨p3, sp3, j3, f3, c3, m3⟩ : s3.pow = _ ∧ s3.spin = _ ∧ s3.job = _ ∧ s3.fuse = _ ∧ s3.conf = _ ∧ s3.mems = _ := by
    simpa only [Prod.mk.injEq] using h3
  obtain ⟨-, -, um, usp, -, uc, uj, -, -, -, -, uf, -, up⟩ := State.unpower_fields (s := s3)
  have f2 : s2.fuse = s1.fuse := rfl
  have c2 : s2.conf = s1.conf := rfl
  have m2 : s2.mems = s1.mems := rfl
  have hspin : s3.unpower.spin = s2.spin := usp.trans sp3
  have hsup : s3.pow.supply = s2.pow.supply := by rw [p3]
  have hjob : s3.unpower.job = s2.job := uj.trans j3
  dsimp only
  refine ⟨up.trans (hsup.trans p1), rfl, ?_, ?_, ?_, rfl, rfl, rfl, uf.trans (f3.trans (f2.trans f1)), uc.trans (c3.trans (c2.trans c1)),
    um.trans (m3.trans (m2.trans m1))⟩
  · rw [hspin]; rfl
  · rw [hspin]; rfl
  · rw [hjob]; rfl

/-- What the loss of the input leaves. -/
theorem State.powerLost_keeps : s.conf.writePending = false →
    s.powerLost.conf.slot = s.conf.slot ∧ s.powerLost.conf.highWater = s.conf.highWater ∧ s.powerLost.conf.failedBoots = s.conf.failedBoots := by
  intro h
  have hc : s.conf.cold = { slot := s.conf.slot, highWater := s.conf.highWater, failedBoots := s.conf.failedBoots, watchAgain := s.conf.cold.watchAgain } := by
    rw [Conf.cold, h]; rfl
  exact ⟨(congrArg Conf.slot hc :), (congrArg Conf.highWater hc :), (congrArg Conf.failedBoots hc :)⟩

/-- Settles O25: each row of the supply's table, and what the loss of the input leaves. The code and index of note 0x340 are the
model's choice (log 85). -/
theorem supplyFollowsItsTable : Obligations.SupplyFollowsItsTable := by
  unfold Obligations.SupplyFollowsItsTable
  refine ⟨⟨fun s mv hs hm => exec_sagEnter_of_low hs hm rfl, fun s mv => exec_sagEnter_of_not, fun s mv hs hm hh ht hl => exec_sagExit_of_recovered ⟨hs, hm, hh, ht, hl⟩ rfl,
    fun s mv h => exec_sagExit_of_not ?unsag, fun s mv hs hc => exec_upperBand_of_crossed hs rfl hc, fun s cause samples => exec_powerFail_of_failing,
    fun s cause samples h => congrArg Host.Outcome.next (if_neg ?stands), fun s mv => ⟨rfl, rfl, rfl⟩, fun s h => congrArg Host.Outcome.next (if_pos h),
    fun s h => congrArg Host.Outcome.next (if_neg h), fun s mv b hs hm hl => congrArg Host.Outcome.next (if_pos ?recover),
    fun s mv levels b hs hm hl => congrArg Host.Outcome.next (if_pos ?on), fun s mv levels b hs hd => congrArg Host.Outcome.next (if_neg ?supplied),
    fun s mv levels b h => ⟨congrArg Host.Outcome.next (if_neg ?dark), fun hm => congrArg Host.Outcome.next (if_neg ?low)⟩⟩,
    fun s => ⟨rfl, rfl, rfl, rfl, rfl, rfl, rfl, rfl, rfl, State.powerLost_keeps, rfl, rfl, rfl, rfl, rfl, rfl, rfl, rfl, rfl, rfl, rfl, rfl, rfl, rfl, rfl⟩⟩
  case unsag =>
    rintro ⟨hs, hm, hh, ht, hl⟩
    rcases h with h | h | h | h | h
    · exact h hs
    · omega
    · rw [hh] at h; exact Bool.false_ne_true h
    · omega
    · omega
  case stands =>
    rw [Bool.and_eq_true]
    rintro ⟨h1, h2⟩
    rcases h with h | h
    · rw [h1] at h; exact Bool.false_ne_true h.symm
    · rw [h2] at h; exact Bool.false_ne_true h.symm
  case recover => rw [hs, hl, decide_eq_true hm]; rfl
  case on =>
    rw [decide_eq_true hm, hl, Bool.and_true, Bool.and_true, Bool.or_eq_true, decide_eq_true_eq]
    exact hs
  case supplied => rw [decide_eq_false hs, hd]; exact Bool.false_ne_true
  case dark =>
    simp only [Bool.and_eq_true, decide_eq_true_eq]
    rintro ⟨⟨-, hm⟩, hl⟩
    rcases h with h | h
    · omega
    · rw [h] at hl; exact Bool.false_ne_true hl
  case low =>
    simp only [Bool.and_eq_true, decide_eq_true_eq]
    rintro ⟨⟨-, h⟩, -⟩
    omega

end
end Sys2Proof.Machine
end

section
/-! SUPPORT. Entering HELD, caps, throttling and temperature. -/

set_option Elab.async false

namespace Sys2Proof.Machine
section
variable {s : State} {k : CmdSpec} {c : Cmd} {v : Verdict} {mv : Nat} {w : Watched}

/-! ### Entering HELD (R431) -/

theorem State.endReset_fields (st : Status) (res : BitVec 128) : (s.endReset st res).pow = s.pow ∧ (s.endReset st res).fuse = s.fuse ∧
    (s.endReset st res).mod.state = s.mod.state ∧ (s.endReset st res).mod.heldCause = s.mod.heldCause := by
  unfold State.endReset
  split
  · exact ⟨State.post_pow .., State.post_fuse .., rfl, rfl⟩
  · exact ⟨rfl, rfl, rfl, rfl⟩

theorem State.heldFault_fields (code index : Nat) : (s.heldFault code index).pow = s.pow ∧ (s.heldFault code index).fuse = s.fuse :=
  ⟨State.when_keeps (·.pow) (f := fun u => u.stamp code index (32 + u.spin.holder.val)) (State.stamp_pow ..) _,
    State.when_keeps (·.fuse) (f := fun u => u.stamp code index (32 + u.spin.holder.val)) (State.stamp_fuse ..) _⟩

/-- A module that enters HELD. -/
theorem State.enterHeld_fields (code index : Nat) (h : s.mod.state ≠ .held) : (s.enterHeld code index).mod.state = .held ∧
    (s.enterHeld code index).mod.heldCause = code ∧ (s.enterHeld code index).light.ready = false ∧ (s.enterHeld code index).pow.supply = s.pow.supply ∧
    (s.enterHeld code index).fuse = s.fuse := by
  unfold State.enterHeld
  rw [if_neg h]
  extract_lets s1 m s2 s3 s4 s5
  obtain ⟨p1, f1⟩ : s1.pow = s.pow ∧ s1.fuse = s.fuse := State.heldFault_fields ..
  obtain ⟨p3, f3, m3, c3⟩ : s3.pow = _ ∧ s3.fuse = _ ∧ s3.mod.state = _ ∧ s3.mod.heldCause = _ := State.endReset_fields ..
  obtain ⟨-, -, -, -, um, -, -, -, -, -, -, uf, -, up⟩ := State.unpower_fields (s := s4.fire 0x321 code index)
  have hm : s3.mod.state = .held ∧ s3.mod.heldCause = code := by
    rw [m3, c3, State.endLops_mod]
    exact ⟨rfl, rfl⟩
  have hp : s3.pow = s.pow := by
    rw [p3, State.endLops_pow]
    exact p1
  have hf : s3.fuse = s.fuse := by
    rw [f3, State.endLops_fuse]
    exact f1
  dsimp only
  refine ⟨(congrArg Mod.state um).trans hm.1, (congrArg Mod.heldCause um).trans hm.2, rfl, up.trans (congrArg Pow.supply hp), uf.trans hf⟩

theorem State.enterHeld_of_held {code index : Nat} (h : s.mod.state = .held) : s.enterHeld code index = s := if_pos h

/-! ### Caps (R387, R389, R461) -/

theorem exec_powerCapSet_of_good (hk : k = { op := 0x0702, named := [(16, 20)] }) (hp : Passes s k c {}) (h1 : 3000 ≤ c.field s 16 4)
    (h2 : c.field s 16 4 ≤ 5000) (h3 : 60 ≤ c.field s 20 1) (h4 : c.field s 20 1 ≤ 100) : exec (.powerCapSet c) s =
      .next ({ accepted s k c {} with pow := { s.pow with capW := c.field s 16 4, sagPct := c.field s 20 1 } }.done c .ok) := by
  rw [← accepted_pow s k c {}]
  subst hk
  refine congrArg Host.Outcome.next (selkan_passes_of ?_ hp)
  rw [if_neg (by omega), if_neg (by omega)]

theorem exec_powerWindow_of_on {w a : Nat} (hs : s.pow.supply.on = true) : exec (.powerWindow w mv a) s =
    .next (if w > s.pow.effective then ({ s.measure mv with pow := { (s.measure mv).pow with watts := w, amp10 := a } } : State).raiseTo (min (s.pow.level + 1) 4)
      else { s.measure mv with pow := { (s.measure mv).pow with watts := w, amp10 := a } }) :=
  congrArg Host.Outcome.next (if_neg (by rw [hs]; exact Bool.false_ne_true))

/-- When the throttle level falls. -/
def State.Relaxes (s : State) (avg : Nat) : Prop :=
  s.pow.supply.on = true ∧ 0 < s.pow.level ∧ 10 * avg ≤ 9 * s.pow.effective ∧ 100000 ≤ since s.pow.stepAt s.time.lea

theorem State.relaxes_iff {avg : Nat} : (s.pow.supply.on && decide (s.pow.level > 0) && decide (10 * avg ≤ 9 * s.pow.effective) &&
    s.elapsed s.pow.stepAt 100000) = true ↔ s.Relaxes avg := by
  simp only [Bool.and_eq_true, decide_eq_true_eq, State.elapsed_iff, State.Relaxes, and_assoc, gt_iff_lt]

theorem Pow.effective_bounds (p : Pow) : (p.termCap = true → p.effective ≤ 3000) ∧ (p.termCap = false → p.supply ≠ .sag → p.effective = p.capW) ∧
    (p.supply = .sag → p.effective ≤ 50 * p.sagPct) := by
  unfold Pow.effective
  refine ⟨fun h => ?_, fun h hs => ?_, fun hs => ?_⟩
  · rw [if_pos h]; exact Nat.min_le_right ..
  · rw [if_neg (by rw [h]; exact Bool.false_ne_true), if_neg hs]
  · rw [if_pos hs]
    have h : min p.capW p.sagW ≤ 50 * p.sagPct := Nat.min_le_right ..
    split
    · exact Nat.le_trans (Nat.min_le_left ..) h
    · exact h

/-! ### Temperature (R395-R398) -/

/-- The zone of a die's junction: each level entered when reached, and cleared 5 degrees below. -/
theorem zoneAfter_die (z t : Nat) : zoneAfter [95, 105, 115] z t =
    if 115 ≤ t ∨ (3 ≤ z ∧ 110 < t) then 3 else if 105 ≤ t ∨ (2 ≤ z ∧ 100 < t) then 2 else if 95 ≤ t ∨ (1 ≤ z ∧ 90 < t) then 1 else 0 := by
  change max (max (max 0 (if t ≥ 95 ∨ (z > 0 ∧ t + 5 > 95) then 1 else 0)) (if t ≥ 105 ∨ (z > 1 ∧ t + 5 > 105) then 2 else 0))
    (if t ≥ 115 ∨ (z > 2 ∧ t + 5 > 115) then 3 else 0) = _
  split_ifs <;> omega

/-- Does THERM_ALERT_N ask for throttling? -/
theorem State.alert_recent : (match s.pow.alertOff with | some t => !s.elapsed t 1000000 | none => true) =
    (match s.pow.alertOff with | some t => decide (since t s.time.lea < 1000000) | none => true) := by
  cases s.pow.alertOff with
  | none => rfl
  | some t => exact decide_not.symm.trans (decide_eq_decide.mpr Nat.not_le)

/-- Is the throttle of a die due to move, whose last step was at `o`? -/
theorem State.stepDue_iff {o : Option Lea} {ns : Nat} : (match o with | some t => s.elapsed t ns | none => true) = true ↔
    ∀ t, o = some t → ns ≤ since t s.time.lea := by
  cases o with
  | none => exact ⟨fun _ _ h => absurd h (by simp), fun _ => rfl⟩
  | some t => exact State.elapsed_iff.trans ⟨fun h u hu => Option.some.inj hu ▸ h, fun h => h t rfl⟩


/-- A step of the throttle of a compute die, with what it reads. -/
theorem exec_thermalThrottleStep_of_compute {d : DieIx} (hd : d.val < 8) (hm : s.mod.state ≠ .held) {alert hot : Bool}
    (ha : alert = (s.pow.thermAlert && (match s.pow.alertOff with | some t => decide (since t s.time.lea < 1000000) | none => true)))
    (hh : hot = ((s.die d.val).srcOwn || (s.die d.val).srcSkein || alert)) {read : State}
    (hr : read = { s with pow := { s.pow with thermAlert := alert, alertOff := if alert then s.pow.alertOff else none } }) :
    ((∀ t, (s.die d.val).stepAt = some t → (if hot then 100000 else 1000000) ≤ since t s.time.lea) → exec (.thermalThrottleStep d) s =
      .next (read.modDie d.val fun y => { y with level := if hot then min (y.level + 1) 3 else y.level - 1, stepAt := some s.time.lea })) ∧
    (¬ (∀ t, (s.die d.val).stepAt = some t → (if hot then 100000 else 1000000) ≤ since t s.time.lea) → exec (.thermalThrottleStep d) s = .next read) := by
  rw [← State.alert_recent] at ha
  subst ha hh hr
  refine ⟨fun h => congrArg Host.Outcome.next (if_neg ?_), fun h => congrArg Host.Outcome.next (if_pos (.inr (.inr ?_)))⟩
  · rintro (h1 | h1 | h1)
    · omega
    · exact hm h1
    · exact Bool.false_ne_true (h1.symm.trans (State.stepDue_iff.mpr h))
  · exact Bool.not_eq_true _ ▸ mt State.stepDue_iff.mp h

/-- What sees neither the observations nor a queue does not see a queue go into ERROR. -/
theorem State.queueError_keeps {β : Type} (g : State → β) (ho : ∀ (u : State) o, g { u with obs := o } = g u)
    (hq : ∀ (u : State) n f, g (u.modQueue n f) = g u) (n : Nat) (cause : QCause) : g (s.queueError n cause) = g s := by
  have hend (u : State) (p : Port) : g (u.endService p) = g u :=
    State.forEach_keeps g (f := fun src u => u.modSrc src (2 + p.val) SrcAt.ended) (fun src u => ho u _) _ _
  have hgone : g (s.eventQueueGone n) = g s := State.when_keeps g (f := fun v => v.endService (s.queue n).port) (hend ..) _
  exact (ho ((s.eventQueueGone n).modQueue n fun q => { q with state := .error, cause := cause }) _).trans ((hq ..).trans hgone)

/-- What sees, besides, no entry that a queue loses does not see the queues of a port go down. -/
theorem State.queuesDown_keeps {β : Type} (g : State → β) (ho : ∀ (u : State) o, g { u with obs := o } = g u) (hq : ∀ (u : State) n f, g (u.modQueue n f) = g u)
    (hl : ∀ (u : State) n, g (u.loseEntries n) = g u) (p : Port) : g (s.queuesDown p) = g s :=
  State.forEach_keeps g (f := fun n u => ((u.loseEntries n).queueError n .linkDown).modQueue n fun q => { q with held := [] })
    (fun n u => (hq ..).trans ((State.queueError_keeps g ho hq n .linkDown).trans (hl u n))) _ _

/-- Without management the module is as it was but for its Spindles, ports and queues. -/
theorem State.unmanaged_keeps {β : Type} (g : State → β) (hg : ∀ (u : State) o h sp, g { u with obs := o, host := h, spin := sp } = g u) : g s.unmanaged = g s := by
  have hd (u : State) (p : Port) : g (u.queuesDown p) = g u :=
    State.queuesDown_keeps g (fun u o => hg u o u.host u.spin) (fun u n f => hg u u.obs _ u.spin) (fun u n => hg u u.obs _ _) p
  exact (hg ((s.queuesDown 0).queuesDown 1) ((s.queuesDown 0).queuesDown 1).obs _ _).trans ((hd ..).trans (hd ..))

/-- The state when a thermal shutdown has its record, and the supply is off. -/
def State.shutRecorded (s : State) (w : Watched) : State :=
  let r : Rec := { kind := 3, job := s.jobId, stamp := s.time.lea, cause := 0x0806, index := watchedDie w, context := s.shutContext w }
  { ({ s with free := s.free + 18 } : State).makeRec r with pow := { s.pow with supply := .shutdown } }

theorem State.shutRecorded_fields : (s.shutRecorded w).mod = s.mod ∧ (s.shutRecorded w).pow.supply = .shutdown ∧ (s.shutRecorded w).fuse = s.fuse := ⟨rfl, rfl, rfl⟩

theorem exec_thermalShutdown_acts (hs : s.pow.supply.on = true) (hw : (watched.find? fun w => decide (s.zoneOf w ≥ 3)) = some w) {u : State}
    (hu : u = (s.shutRecorded w).enterHeld 0x0806 (watchedDie w)) :
    exec .thermalShutdown s = .next (State.when { u with mod := { u.mod with heldCause := 0x0806, boot := none } } (watchedIo w) (·.unmanaged)) := by
  subst hu
  refine congrArg Host.Outcome.next ?_
  rw [if_pos hs, hw]
  rfl

/-- A unit in the shutdown zone. -/
theorem exec_thermalShutdown_of_hot (hs : s.pow.supply.on = true) (hw : (watched.find? fun w => decide (s.zoneOf w ≥ 3)) = some w) :
    ∃ t, exec .thermalShutdown s = .next t ∧ t.pow.supply = .shutdown ∧ t.mod.state = .held ∧ t.mod.heldCause = 0x0806 ∧
      (s.mod.state ≠ .held → t.light.ready = false) ∧ t.fuse = s.fuse := by
  obtain ⟨hm, hp, hf⟩ := State.shutRecorded_fields (s := s) (w := w)
  refine ⟨_, exec_thermalShutdown_acts hs hw rfl, ?_⟩
  have hk {β : Type} (g : State → β) (hg : ∀ (u : State) o h sp, g { u with obs := o, host := h, spin := sp } = g u) (u : State) :
      g (u.when (watchedIo w) (·.unmanaged)) = g u := State.when_keeps g (State.unmanaged_keeps g hg) _
  generalize s.shutRecorded w = s1 at hm hp hf ⊢
  have held : (s1.enterHeld 0x0806 (watchedDie w)).mod.state = .held ∧ (s.mod.state ≠ .held → (s1.enterHeld 0x0806 (watchedDie w)).light.ready = false) ∧
      (s1.enterHeld 0x0806 (watchedDie w)).pow.supply = .shutdown ∧ (s1.enterHeld 0x0806 (watchedDie w)).fuse = s.fuse := by
    by_cases h : s1.mod.state = .held
    · rw [State.enterHeld_of_held h]
      exact ⟨h, fun h2 => absurd (hm ▸ h) h2, hp, hf⟩
    · obtain ⟨h1, -, h3, h4, h5⟩ := State.enterHeld_fields 0x0806 (watchedDie w) h
      exact ⟨h1, fun _ => h3, h4.trans hp, h5.trans hf⟩
  obtain ⟨h1, h2, h3, h4⟩ := held
  refine ⟨(hk (·.pow.supply) (fun _ _ _ _ => rfl) _).trans h3, (hk (·.mod.state) (fun _ _ _ _ => rfl) _).trans h1, (hk (·.mod.heldCause) (fun _ _ _ _ => rfl) _).trans rfl,
    fun h => (hk (·.light.ready) (fun _ _ _ _ => rfl) _).trans (h2 h), (hk (·.fuse) (fun _ _ _ _ => rfl) _).trans h4⟩

theorem exec_thermalShutdown_of_cool (h : ∀ w ∈ watched, s.zoneOf w < 3) : exec .thermalShutdown s = .next s := by
  have hn : (watched.find? fun w => decide (s.zoneOf w ≥ 3)) = none :=
    List.find?_eq_none.mpr fun w hw => by rw [decide_eq_true_eq]; exact Nat.not_le.mpr (h w hw)
  refine congrArg Host.Outcome.next ?_
  rw [hn, ite_self]

theorem exec_thermalAck_of_ackable {b : BringUp} (hk : k = { op := 0x0705, named := [(16, 19)], nvm := true, inHeld := true }) (hp : Passes s k c {})
    (ha : s.ackable (c.field s 16 4) = true) (hw : s.pow.ackPending = true) {told : State}
    (ht : told = ((accepted s k c {}).modStores fun x => x.ack (c.field s 16 4)).done c .ok) :
    exec (.thermalAck c b) s = .next (if told.unacked then told else ({ told with pow := { told.pow with ackPending := false }, mod := { told.mod with
      state := .booting, heldCause := 0, bootAt := told.time.lea, boot := some b, stacksUp := false, coldStacks := true, failDue := true } } : State).resumeBoot) := by
  subst hk ht
  refine congrArg Host.Outcome.next (selkan_passes_of ?_ hp)
  rw [if_pos ha, hw]
  rfl

/-- Settles O26: caps, throttling and temperature, clause by clause. The number that a stack or the Skein goes by (log 62) and the
watched kind as the code of notes 0x343 to 0x345 (log 85) are the model's choices. -/
theorem capsAndTemperatureThrottle : Obligations.CapsAndTemperatureThrottle := by
  unfold Obligations.CapsAndTemperatureThrottle
  refine ⟨⟨fun s c => exec_powerCapSet_of_good rfl, fun s w mv a hs => ⟨fun h => (exec_powerWindow_of_on hs).trans (congrArg Host.Outcome.next (if_pos h)),
      fun h => (exec_powerWindow_of_on hs).trans (congrArg Host.Outcome.next (if_neg (Nat.not_lt.mpr h)))⟩,
    fun s avg hs hl hc ht => congrArg Host.Outcome.next (if_pos (State.relaxes_iff.mpr ⟨hs, hl, hc, ht⟩)),
    fun s avg h => congrArg Host.Outcome.next (if_neg (mt State.relaxes_iff.mp ?keep)),
    fun s t hs => congrArg Host.Outcome.next (if_pos hs), fun s => rfl, Pow.effective_bounds⟩,
    fun s w t hw => congrArg Host.Outcome.next (if_neg (by rw [hw]; exact Bool.false_ne_true)),
    fun s w t hw => congrArg Host.Outcome.next (if_pos (by rw [hw]; rfl)), zoneAfter_die,
    fun s d hd hm hw => ?step, fun s w => exec_thermalShutdown_of_hot, fun s => exec_thermalShutdown_of_cool, fun s c b => ?ack⟩
  case keep =>
    rintro ⟨-, hl, hc, ht⟩
    omega
  case step =>
    intro x alert hot due
    obtain ⟨hy, hn⟩ := exec_thermalThrottleStep_of_compute hd hm (alert := alert) (hot := hot) rfl rfl rfl
    by_cases h : due
    · refine ⟨_, hy h, rfl, rfl, fun _ => State.die_modDie _ hw, fun h2 => absurd h h2, fun k hk => State.die_modDie_other _ hw hk⟩
    · exact ⟨_, hn h, rfl, rfl, fun h2 => absurd h2 h, fun _ => rfl, fun _ _ => rfl⟩
  case ack =>
    intro n k told hp ha hw
    have h := exec_thermalAck_of_ackable (b := b) (told := told) rfl hp ha hw rfl
    exact ⟨fun hu => h.trans (congrArg Host.Outcome.next (if_pos hu)),
      fun hu => h.trans (congrArg Host.Outcome.next (if_neg (by rw [hu]; exact Bool.false_ne_true)))⟩

end
end Sys2Proof.Machine
end

section
/-! SUPPORT. Lines, events, their delivery, and the end of service. -/

set_option Elab.async false

namespace Sys2Proof.Machine
section
variable {s : State} {l : ExtLine} {b : Bool} {src n code index : Nat} {x : SrcAt} {p : Port}

/-! ### External lines (R380, R381) -/

theorem exec_lineChange_of_moved (hs : s.pow.supply ≠ .off) (hl : s.level l.val ≠ b) {moved : State}
    (hm : moved = { s with obs := { s.obs with line := s.obs.line.mod {} l.val fun x => { x with level := b, since_ := s.time.lea } } }) :
    exec (.lineChange l b) s = .next ((moved.fire (0x360 + l.val) b.toNat l.val).lineActs l.val b) := by
  subst hm
  exact congrArg Host.Outcome.next (if_neg (by rw [decide_eq_false hs, decide_eq_false hl]; exact Bool.false_ne_true))

theorem exec_lineChange_of_same (h : s.pow.supply = .off ∨ s.level l.val = b) : exec (.lineChange l b) s = .next s :=
  congrArg Host.Outcome.next (if_pos (by rwa [Bool.or_eq_true, decide_eq_true_eq, decide_eq_true_eq]))

theorem exec_lineGlitch_of_on (hs : s.pow.supply ≠ .off) : exec (.lineGlitch l) s =
    .next { s with obs := { s.obs with line := s.obs.line.mod {} l.val fun x => { x with glitches := satAdd 0xFFFF x.glitches 1 } } } :=
  congrArg (fun b => Host.Outcome.next (s.when (!b) fun s =>
    { s with obs := { s.obs with line := s.obs.line.mod {} l.val fun x => { x with glitches := satAdd 0xFFFF x.glitches 1 } } })) (decide_eq_false hs)

theorem exec_eventFire {src : Source} {v : BitVec 64} :
    exec (.eventFire src code index v) s = .next (s.when (!decide (s.pow.supply = .off)) fun s => s.fire src.val code index v.toNat) := rfl

/-! ### Delivery and the end of service (R375-R378) -/

theorem exec_eventDeliver_host (hs : s.pow.supply ≠ .off) : exec (.eventDeliver 2) s = .next (s.deliverHost 0) :=
  congrArg Host.Outcome.next (if_neg hs)

theorem exec_eventDeliver_spindle (hs : s.pow.supply ≠ .off) : exec (.eventDeliver 0) s = .next (s.deliverSpindle 0) :=
  congrArg Host.Outcome.next (if_neg hs)

/-- The next source of a host goes into the event queue with room, and waits for room otherwise. -/
theorem State.deliverHost_of_queue (hn : s.obs.next (2 + p.val) = some (src, x)) (hq : s.host.eventQueue p = some n) {bs : List Byte}
    (hb : bs = recordBytes src x (s.obs.target.get {} (2 + p.val)).evseq false (!s.spin.inStep)) :
    s.deliverHost p = if (s.queue n).room then (s.putRecord n bs).delivered src (2 + p.val) bs else s.hostWait (2 + p.val) := by
  subst hb
  unfold State.deliverHost
  simp only [hn, hq]

theorem State.deliverSpindle_of_next {d : IoDie} (hl : (s.spin.spindle.get d).state.live = true) (hn : s.obs.next d.val = some (src, x)) :
    s.deliverSpindle d = s.delivered src d.val [] := by
  unfold State.deliverSpindle
  simp only [hl, hn, if_true]

theorem exec_hostEos_of_live {v : BitVec 64} (hp : s.portLive p = true) : exec (.hostEos p v) s =
    .next (if (s.obs.srcAt (v.toNat % 1024) (2 + p.val)).serving then s.modSrc (v.toNat % 1024) (2 + p.val) SrcAt.ended else s.bump Ctr.evcBadEos) :=
  congrArg Host.Outcome.next (if_neg (by rw [hp]; exact Bool.false_ne_true))

/-- Settles O27: lines, events, their delivery, and the host's EOS. The level as the code of note 0x360+l is the model's choice
(log 85). -/
theorem linesAndEventsReachTheirTargets : Obligations.LinesAndEventsReachTheirTargets := by
  unfold Obligations.LinesAndEventsReachTheirTargets
  refine ⟨fun s l b hs hl => exec_lineChange_of_moved hs hl rfl, fun s l b => exec_lineChange_of_same, fun s l => exec_lineGlitch_of_on,
    fun s src code index v => ⟨fun hs => ?fired, fun hs => ?off⟩, fun s src n x hs hn hq => ?deliver,
    fun s src x hs hl hn => (exec_eventDeliver_spindle hs).trans (congrArg Host.Outcome.next (State.deliverSpindle_of_next hl hn)), fun s p v hp => ?eos⟩
  case fired => rw [exec_eventFire, decide_eq_false hs]; rfl
  case off => rw [exec_eventFire, decide_eq_true hs]; rfl
  case deliver =>
    have h := (exec_eventDeliver_host hs).trans (congrArg Host.Outcome.next (State.deliverHost_of_queue hn hq rfl))
    exact ⟨fun hr => h.trans (congrArg Host.Outcome.next (if_pos hr)), fun hr => h.trans (congrArg Host.Outcome.next (if_neg (by rw [hr]; exact Bool.false_ne_true)))⟩
  case eos =>
    have h := exec_hostEos_of_live (v := v) hp
    exact ⟨fun hr => h.trans (congrArg Host.Outcome.next (if_pos hr)), fun hr => h.trans (congrArg Host.Outcome.next (if_neg (by rw [hr]; exact Bool.false_ne_true)))⟩

end
end Sys2Proof.Machine
end

section
/-! SUPPORT. Module reset, the cold claim, the Spindles' boot, and the training of the stacks. -/

set_option Elab.async false

namespace Sys2Proof.Machine
section
variable {s : State} {k : CmdSpec} {c : Cmd} {b : BringUp} {snap : SnapRead} {d : IoDie} {t : Lea}

/-! ### MODULE_RESET (R355, R416, R417) -/

theorem exec_moduleReset_module (hk : k = { op := 0x0102, named := [(16, 16), (24, 31)], long := true, inHeld := true }) (hp : Passes s k c {})
    (hl : c.field s 16 1 = 0) (hs : s.pow.supply ≠ .shutdown) : exec (.moduleReset c b snap) s = .next ((accepted s k c {}).moduleReset c b snap) := by
  subst hk
  refine congrArg Host.Outcome.next ((selkan_passes_of ?_ hp).trans (if_pos hl))
  rw [hl, if_neg (by decide), if_pos rfl, decide_eq_false hs]

theorem exec_moduleReset_spindle {l : Nat} (hk : k = { op := 0x0102, named := [(16, 16), (24, 31)], long := true, inHeld := true }) (hp : Passes s k c {})
    (hl : l = 1 ∨ l = 2) (hc : c.field s 16 1 = l) (hr : s.resetRefused (levelDie l) = false) :
    exec (.moduleReset c b snap) s = .next (((accepted s k c {}).setAux c ((levelDie l).val + 2 * s.time.lea.toNat)).resetSpindle (levelDie l)) := by
  subst hk
  have hl0 : c.field s 16 1 ≠ 0 ∧ ¬ c.field s 16 1 > 2 ∧ levelDie (c.field s 16 1) = levelDie l := by
    rw [hc]
    exact ⟨by omega, by omega, rfl⟩
  refine congrArg Host.Outcome.next ((selkan_passes_of ?_ hp).trans ((if_neg hl0.1).trans ?_))
  · rw [if_neg hl0.1, if_neg hl0.2.1, hl0.2.2, hr]
  · rw [hl0.2.2, accepted_time]

/-! ### The claim at bring-up, and the Spindles' boot (R353, R356, R435) -/

theorem exec_coldClaimB_of_passed (hp : (s.sp 1).passed = some t) (hc : s.spin.claim = none) (hr : s.spin.releasing = none) :
    exec .coldClaimB s = .next (if s.elapsed t 10000000 = true then (s.firstClaim 1).resumeBoot else s) := by
  refine congrArg Host.Outcome.next ?_
  rw [hp]
  simp only [hc, hr, true_and]

theorem exec_spindleBootDone_of_boot {ok : Bool} (hs : (s.sp d).state = .boot) (hr : s.sec.recovery.get d = false) (hn : s.spin.releasing = none) :
    exec (.spindleBootDone d ok) s = .next (if s.spin.claim = some (other d) then ({ s with sec := { s.sec with mismatch := !ok } } : State).catchup d
      else if d = 0 then (s.firstClaim 0).resumeBoot else s.modSp d fun x => { x with passed := some (x.passed.getD s.time.lea) }) := by
  refine congrArg Host.Outcome.next (if_neg ?_)
  rintro (h | h | h)
  · exact h hs
  · rw [hr] at h; exact Bool.false_ne_true h
  · exact h hn

/-! ### The stacks' training (R261, R262) -/

section
variable {k : Stack} {rows : List Nat} {lanes : Nat} {r : TrainOutcome}

theorem exec_stackTrainDone_of_train (hk : (s.stk k).state = .train) (hm : s.mod.state = .booting) : exec (.stackTrainDone k r) s =
    .next (((s.stackTrained k (if s.elapsed (s.stk k).since_ 500000001 then .fail else r)).stackHeld).onward (·.resumeBoot)) :=
  congrArg Host.Outcome.next (if_neg (by rintro (h | h); exacts [h hk, h hm]))

theorem exec_stackRepairDone_of_repair {ok : Bool} (hk : (s.stk k).state = .repair) (hm : s.mod.state = .booting) : exec (.stackRepairDone k ok rows lanes) s =
    .next (if !ok || s.elapsed (s.stk k).since_ 2000000001 then (s.stackTrained k .fail).stackHeld
      else (s.setStk k fun x => { x with state := .train, since_ := s.time.lea, lanesRepaired := satAdd 255 x.lanesRepaired lanes }).forEach rows
        fun l s => s.repair 3 k l 0xFFFF) :=
  congrArg Host.Outcome.next (if_neg (by rintro (h | h); exacts [h hk, h hm]))

end

/-- Settles O28: MODULE_RESET, what it clears, and the steps of a bring-up. -/
theorem moduleResetBootsAndTrains : Obligations.ModuleResetBootsAndTrains := by
  unfold Obligations.ModuleResetBootsAndTrains
  refine ⟨⟨fun s c b snap hp => ⟨exec_moduleReset_module rfl hp, fun l => exec_moduleReset_spindle rfl hp⟩, fun s => ?cleared, rfl, rfl⟩,
    fun s t hp hc hr => ⟨fun ht => ?claimed, fun ht => ?early⟩,
    fun s d ok hs hr hn => ⟨fun hc => ?peer, fun hc hd => ?first, fun hc hd => ?waits⟩,
    fun s d ok hs => congrArg Host.Outcome.next (if_pos (.inl hs)), fun s k r hk hm => ⟨fun ht => ?trained, fun ht => ?late⟩,
    fun s k r h => congrArg Host.Outcome.next (if_pos h), fun s k rows lanes hk hm => ⟨fun ht => ?repaired, ?spent⟩⟩
  case cleared =>
    refine ⟨rfl, rfl, rfl, rfl, rfl, rfl, rfl, rfl, rfl, fun h => if_neg h, fun h => if_pos h, rfl, rfl, rfl, rfl, rfl, fun e he => ?_, rfl⟩
    exact of_decide_eq_true (List.mem_filter.mp he).2
  case claimed => rw [exec_coldClaimB_of_passed hp hc hr, if_pos (State.elapsed_eq_true ht)]
  case early => rw [exec_coldClaimB_of_passed hp hc hr, State.elapsed_eq_false ht]; rfl
  case peer => rw [exec_spindleBootDone_of_boot hs hr hn, if_pos hc]
  case first => rw [exec_spindleBootDone_of_boot hs hr hn, hc, hd]; rfl
  case waits => rw [exec_spindleBootDone_of_boot hs hr hn, hc, hd]; rfl
  case trained => rw [exec_stackTrainDone_of_train hk hm, State.elapsed_eq_false (by omega)]; rfl
  case late => rw [exec_stackTrainDone_of_train hk hm, State.elapsed_eq_true (by omega)]; rfl
  case repaired => rw [exec_stackRepairDone_of_repair hk hm, State.elapsed_eq_false (by omega)]; rfl
  case spent => rw [exec_stackRepairDone_of_repair hk hm]; rfl

end
end Sys2Proof.Machine
end

section
/-! SUPPORT. The claim and the Spindles' states, the link between the I/O dies, and the loss of a die. -/

set_option Elab.async false

namespace Sys2Proof.Machine
section
variable {s : State} {d : IoDie} {t : Lea} {n : Nat}

/-! ### The self-checks and the claim (R352-R356) -/

theorem State.sp_modSp (f : Spindle → Spindle) : (s.modSp d f).sp d = f (s.sp d) := Two.get_mod_same ..
theorem State.sp_modSp_other (f : Spindle → Spindle) : (s.modSp d f).sp (other d) = s.sp (other d) := Two.get_mod_other ..

/-- The states in which a Spindle checks itself. -/
theorem SpState.runs_iff (x : SpState) : x.live = true ∨ x = .catchup ↔ x = .active ∨ x = .standby ∨ x = .catchup := by cases x <;> decide

theorem exec_spindleSelfcheckFail_of_runs (h : (s.sp d).state.live = true ∨ (s.sp d).state = .catchup) :
    exec (.spindleSelfcheckFail d n) s = .next (s.selfCheckFails d n) := by
  refine congrArg Host.Outcome.next ?_
  rcases (SpState.runs_iff _).mp h with h | h | h
  · rw [h]
  · rw [h]
  · rw [h]

theorem exec_spindleSelfcheckFail_of_failed (h : (s.sp d).state = .failed) : exec (.spindleSelfcheckFail d n) s = .next s := by
  refine congrArg Host.Outcome.next ?_
  rw [h]

/-- The holder that fails its self-check lets the claim go. -/
theorem State.selfCheckFails_claim (h : s.spin.claim = some d) : (s.selfCheckFails d n).spin.claim = none ∧
    (s.selfCheckFails d n).spin.releasing = some (s.time.lea, n, false) ∧ ((s.selfCheckFails d n).sp d).lastCheck = n := by
  have hg : (s.bump Ctr.spindleSelfcheckFail d.val).letGo d n false =
      { s.bump Ctr.spindleSelfcheckFail d.val with spin := { s.spin with claim := none, releasing := some (s.time.lea, n, false) } } := if_pos h
  refine ⟨?_, ?_, congrArg Spindle.lastCheck (State.sp_modSp ..)⟩
  · exact congrArg (·.spin.claim) hg
  · exact congrArg (·.spin.releasing) hg

theorem exec_digestExchange_of_inStep {a b : StepWrites} (hs : s.spin.inStep = true) (hc : s.spin.checking = false) {idle : IoDie} (hi : idle = other s.spin.holder) {told : State}
    (ht : told = ((s.bump Ctr.digestMismatch).fire 0x321 0x0702).gate idle (if idle = 0 then a.writes else b.writes)) : exec (.digestExchange a b) s =
      .next (if digestOf a = digestOf b then s.gate idle [] else { told with spin := { told.spin with checking := true } }) := by
  subst hi ht
  exact congrArg Host.Outcome.next (if_pos (by rw [hs, hc]; rfl))

theorem exec_digestExchange_of_not {a b : StepWrites} (h : s.spin.inStep = false ∨ s.spin.checking = true) : exec (.digestExchange a b) s = .next s := by
  refine congrArg Host.Outcome.next (if_neg ?_)
  rcases h with h | h <;> rw [h] <;> simp

theorem exec_selfCheckDone_of_checking {a b : Bool} (hc : s.spin.checking = true) {rest : State} (hr : rest = { s with spin := { s.spin with checking := false } }) :
    (a = false → b = false → exec (.selfCheckDone a b) s = .next rest.digestHeld) ∧
    (s.spin.holder = 0 → a = false → b = true → exec (.selfCheckDone a b) s = .next (rest.selfCheckFails 1 4)) ∧
    (s.spin.holder = 0 → a = true → b = false → exec (.selfCheckDone a b) s = .next (rest.selfCheckFails 0 4)) := by
  subst hr
  have h0 : ¬ (!s.spin.checking) = true := by rw [hc]; exact Bool.false_ne_true
  refine ⟨fun ha hb => congrArg Host.Outcome.next ((if_neg h0).trans ?_), fun hh ha hb => congrArg Host.Outcome.next ((if_neg h0).trans ?_),
    fun hh ha hb => congrArg Host.Outcome.next ((if_neg h0).trans ?_)⟩
  · subst ha hb
    simp only [ite_self]
  · subst ha hb
    simp only [hh]
    rfl
  · subst ha hb
    simp only [hh]
    rfl

/-- The command whose step is not trusted ends; the module is as it was. -/
theorem State.heldHead_mod : s.heldHead.mod = s.mod := by
  unfold State.heldHead
  split
  · dsimp only
    split
    · exact State.take_mod ..
    · rw [State.done_mod, State.take_mod]
  · rfl

theorem State.digestHeld_mod (h : s.mod.state ≠ .held) : s.digestHeld.mod.state = .held ∧ s.digestHeld.mod.heldCause = 0x0702 := by
  obtain ⟨h1, h2, -⟩ := State.enterHeld_fields (s := { s.heldHead with spin := { s.heldHead.spin with digestHeld := true, gated := ⟨[], []⟩ } }) 0x0702 0
    (by rw [State.heldHead_mod]; exact h)
  exact ⟨h1, h2⟩

/-- A claim that was let go. -/
theorem exec_claimReleased_of_releasing {t0 : Lea} {pl : Bool} {us : List Source} (h : s.spin.releasing = some (t0, n, pl)) : exec (.claimReleased us) s =
    .next (if s.elapsed t0 100 = false then s else if (s.sp (other s.spin.holder)).state = .standby then s.takeOver (other s.spin.holder) t0 n pl (us.map (·.val))
      else ({ s with spin := { s.spin with releasing := none } } : State).enterHeld 0x0807) := by
  refine congrArg Host.Outcome.next ?_
  rw [h]
  simp only [Bool.not_eq_true']


/-! ### Spindle states (R356, R357, R417) -/

theorem Spindle.failed_state (x : Spindle) (t : Lea) :
    (x.failed t).state = if (x.recent.filter fun u => decide (since u t < 3600000000000)).length ≥ 2 then .failed else .boot := by
  have h : (x.failures t).length ≥ 3 ↔ (x.recent.filter fun u => decide (since u t < 3600000000000)).length ≥ 2 := by
    rw [Spindle.failures, List.length_take, List.length_cons, hour]
    omega
  exact if_congr h rfl rfl

theorem exec_spindleBootTimeout_of_late (hs : (s.sp d).state = .boot) (hp : (s.sp d).passed = none) (ht : 2000000000 ≤ since (s.sp d).bootFrom s.time.lea) :
    exec (.spindleBootTimeout d) s = .next (s.modSp d fun x => x.failed s.time.lea) :=
  congrArg Host.Outcome.next (if_pos (by rw [hs, hp, State.elapsed_eq_true ht]; rfl))

theorem exec_spindleBootTimeout_of_early (ht : since (s.sp d).bootFrom s.time.lea < 2000000000) : exec (.spindleBootTimeout d) s = .next s :=
  congrArg Host.Outcome.next (if_neg (by rw [State.elapsed_eq_false ht, Bool.and_false]; exact Bool.false_ne_true))

theorem exec_catchupTimeout_of_late (hs : (s.sp d).state = .catchup) (hw : 4 ≤ s.spin.width) (ht : 100000000 ≤ since (s.sp d).bootFrom s.time.lea) :
    exec (.catchupTimeout d) s = .next (s.modSp d fun x =>
      if x.lapses ≥ 2 then { x with state := .failed, lapses := 0 } else { x with lapses := x.lapses + 1, bootFrom := s.time.lea }) :=
  congrArg Host.Outcome.next (if_pos (by rw [hs, decide_eq_true hw, State.elapsed_eq_true ht]; rfl))

theorem exec_mirrorRejoin_of_current (hs : (s.sp d).state = .catchup) (hw : 4 ≤ s.spin.width) (hc : s.spin.claim = some (other d)) (hm : s.sec.mismatch = false)
    {there : State} (ht : there = s.modSp d fun x => { x with state := .standby, lapses := 0 }) : exec (.mirrorRejoin d) s =
      .next ((({ there with obs := there.obs.copyTarget (other d).val d.val }.bump Ctr.mirrorRejoin).fire 0x323 0 d.val).endSpReset d) := by
  subst ht
  exact congrArg Host.Outcome.next (if_pos (by rw [hs, decide_eq_true hw, decide_eq_true hc, hm]; rfl))

theorem exec_mirrorRejoin_of_mismatch (hm : s.sec.mismatch = true) : exec (.mirrorRejoin d) s = .next s :=
  congrArg Host.Outcome.next (if_neg (by rw [hm, Bool.not_true, Bool.and_false]; exact Bool.false_ne_true))

/-- A reset that has not ended in time; the other Spindle has none in hand. -/
theorem exec_spindleResetTimeout_of_late {l : LOp} (hl : s.spReset 0 = some (l, t))
    (ho : (s.done l.cmd .timeout (result [(16, 4, (s.sp 0).state.code)])).spReset 1 = none) (ht : 2200000000 ≤ since t s.time.lea) :
    exec .spindleResetTimeout s = .next (s.done l.cmd .timeout (result [(16, 4, (s.sp 0).state.code)])) := by
  refine congrArg Host.Outcome.next ?_
  simp only [hl, State.elapsed_eq_true ht, State.when_true, ho]

theorem exec_spindleResetTimeout_of_none (h0 : s.spReset 0 = none) (h1 : s.spReset 1 = none) : exec .spindleResetTimeout s = .next s := by
  refine congrArg Host.Outcome.next ?_
  simp only [h0, h1]

/-! ### The link between the I/O dies (R199, R359) -/

section
variable {e : LinkEnds}

theorem exec_iolinkDown_of_up {down : State} (hw : 4 ≤ s.spin.width)
    (hd : down = ({ s with spin := { s.spin with width := 0, lanesOk := 0 } }.bump Ctr.iolinkDown).fire 0x322 0) :
    exec .iolinkDown s = .next (down.outOfStep.stamp 0x0704 s.spin.holder.val (32 + s.spin.holder.val)) := by
  subst hd
  refine congrArg Host.Outcome.next ?_
  rw [State.linkDown, decide_eq_true hw]
  rfl

theorem exec_iolinkDown_of_down (hw : s.spin.width < 4) : exec .iolinkDown s = .next s := by
  refine congrArg Host.Outcome.next ?_
  rw [State.linkDown, decide_eq_false (by omega)]
  rfl

/-- When the link trains. -/
theorem State.linkTrains_iff : (s.spin.present.a && s.spin.present.b && decide (linkLanes e ≥ 4) && (decide (s.spin.width < 4) || s.spindleBack)) = true ↔
    s.spin.present.a = true ∧ s.spin.present.b = true ∧ 4 ≤ min e.x0 e.x1 ∧ (s.spin.width < 4 ∨ s.spindleBack = true) := by
  simp only [Bool.and_eq_true, Bool.or_eq_true, decide_eq_true_eq, and_assoc, ge_iff_le, linkLanes]

theorem linkWidth_ge {n : Nat} (h : 4 ≤ n) : 4 ≤ linkWidth n := by
  unfold linkWidth
  split_ifs <;> omega

/-- A committed epoch moves no Spindle. -/
theorem State.commit_spin (cause : Nat) : (s.commit cause).spin = s.spin := by
  have hg (u : State) (plan : List (Nat × Nat × Nat × Bob)) : u.Spares (u.regrant plan) := by
    unfold State.regrant
    extract_lets move keep old s1
    exact .forEach (.restRings (.same .refl)) fun h => .modRing h
  have hs (u : State) (plan : List (Nat × Nat × Nat × Bob)) : (u.regrant plan).spin = u.spin := congrArg (·.2.2.1) (hg u plan).rest
  rw [State.commit, State.fire_spin, State.bump_spin, State.bump_spin, State.bump_spin, hs]

/-- The width at which the link runs. -/
theorem State.linkAt_width (w : Nat) : (s.linkAt w e).spin.width = w :=
  State.when_keeps (·.spin.width) (f := fun s => s.forEach ((List.finRange 2).filter fun d => decide ((s.sp d).state = .catchup)) fun d s => s.catchup d)
    (State.forEach_keeps (·.spin.width) (f := fun d s => s.catchup d) (fun _ _ => rfl) _ _) _

/-- A map that the link has narrowed. -/
theorem State.narrowed_width (w : Nat) (b : Bool) (u : State) :
    (u.when b fun s => ({ s with creel := { s.creel with lanes := w } }.commit 5).fire 0x322 1 0 w).spin.width = u.spin.width := by
  cases b with
  | false => rfl
  | true => exact congrArg Spin.width (State.commit_spin (s := { u with creel := { u.creel with lanes := w } }) 5)

/-- The width at which the link has trained. -/
theorem State.linkTrained_width (hl : 4 ≤ s.creel.lanes) (he : 4 ≤ min e.x0 e.x1) :
    (s.linkTrained e).spin.width = min (linkWidth (min e.x0 e.x1)) s.creel.lanes := by
  have hw : ¬ min (linkWidth (linkLanes e)) s.creel.lanes < 4 := Nat.not_lt.mpr (Nat.le_min.mpr ⟨linkWidth_ge he, hl⟩)
  rw [State.linkTrained, if_neg hw, State.narrowed_width, State.linkAt_width, linkLanes]

end

/-! ### Losing an I/O die, and its return (R358) -/

/-- What sees no observation, no queue, no entry and no Reel port does not see what goes with a lost die. -/
theorem State.partsLost_keeps {β : Type} (g : State → β) (ho : ∀ (u : State) o, g { u with obs := o } = g u) (hq : ∀ (u : State) n f, g (u.modQueue n f) = g u)
    (hl : ∀ (u : State) n, g (u.loseEntries n) = g u) (hr : ∀ (u : State) p f, g (u.modRp p f) = g u) (ns : List Nat) :
    g ((((s.queuesDown d).stopStreams d).forEach ns fun n s => s.queueError n .ringRead).portsLost d) = g s := by
  refine (State.forEach_keeps g (fun p u => hr u p _) _ _).trans ((State.forEach_keeps g (fun n u => State.queueError_keeps g ho hq n .ringRead) _ _).trans ?_)
  exact (State.forEach_keeps g (f := fun k u => { u with obs := { u.obs with streams := u.obs.streams.mod {} k fun x => { x with running := false } } })
    (fun k u => ho u _) _ _).trans (State.queuesDown_keeps g ho hq hl d)

/-- The state when what goes with a lost die is gone, but for the fault of an open job. -/
def State.partsLost (s : State) (d : IoDie) : State :=
  let s3 := ((s.modPort d fun x => { x with up := false, heldDb := [] }).queuesDown d).stopStreams d
  ((s3.forEach (s3.ringsLost d) fun n s => s.queueError n .ringRead).portsLost d).fence (32 + d.val)

theorem State.partsLost_fields : (s.partsLost d).spin.present = s.spin.present ∧ (s.partsLost d).spin.width = s.spin.width ∧ (s.partsLost d).sp d = s.sp d ∧
    (s.partsLost d).fuse = s.fuse ∧ ((s.partsLost d).host.ports.get d).up = false ∧ (s.partsLost d).isFenced (32 + d.val) = true ∧
    (s.partsLost d).spin.claim = s.spin.claim := by
  unfold State.partsLost
  extract_lets s3
  have hs {w : State} : w.Spares (w.fence (32 + d.val)) := .fence .refl
  have hspin {w : State} : (w.fence (32 + d.val)).spin = w.spin := congrArg (·.2.2.1) hs.rest
  have hhost {w : State} : (w.fence (32 + d.val)).host = w.host := congrArg (·.2.1) hs.rest
  have hfuse {w : State} : (w.fence (32 + d.val)).fuse = w.fuse := congrArg (·.2.2.2.2.2.2.2.2.2.2) hs.rest
  have hk {β : Type} (g : State → β) := State.partsLost_keeps (s := s.modPort d fun x => { x with up := false, heldDb := [] }) (d := d) g
  rw [State.sp, hspin, hhost, hfuse]
  exact ⟨hk (·.spin.present) (fun _ _ => rfl) (fun _ _ _ => rfl) (fun _ _ => rfl) (fun _ _ _ => rfl) _,
    hk (·.spin.width) (fun _ _ => rfl) (fun _ _ _ => rfl) (fun _ _ => rfl) (fun _ _ _ => rfl) _,
    hk (·.spin.spindle.get d) (fun _ _ => rfl) (fun _ _ _ => rfl) (fun _ _ => rfl) (fun _ _ _ => rfl) _,
    hk (·.fuse) (fun _ _ => rfl) (fun _ _ _ => rfl) (fun _ _ => rfl) (fun _ _ _ => rfl) _,
    (hk (fun u => (u.host.ports.get d).up) (fun _ _ => rfl) (fun _ _ _ => rfl) (fun _ _ => rfl) (fun _ _ _ => rfl) _).trans
      (congrArg PortSt.up (Two.get_mod_same ..)), State.isFenced_fence,
    hk (·.spin.claim) (fun _ _ => rfl) (fun _ _ _ => rfl) (fun _ _ => rfl) (fun _ _ _ => rfl) _⟩

/-- The state when the Spindle of a lost die is OFF and its claim let go. -/
def State.spindleLost (s : State) (d : IoDie) : State :=
  let s1 := (s.letGo d 6 false).modSp d fun x => { x with state := .off, lastCheck := 6, passed := none }
  { s1 with spin := { s1.spin with present := s1.spin.present.set d false, width := 0, lanesOk := 0, distaff := s1.spin.distaff.set d {} } }

theorem State.spindleLost_fields : (s.spindleLost d).spin.present.get d = false ∧ (s.spindleLost d).spin.width = 0 ∧ ((s.spindleLost d).sp d).state = .off ∧
    (s.spindleLost d).fuse = s.fuse ∧ (s.spindleLost d).spin.claim ≠ some d := by
  have hc : (s.letGo d 6 false).spin.claim ≠ some d ∧ (s.letGo d 6 false).fuse = s.fuse := by
    unfold State.letGo
    split
    next => exact ⟨nofun, rfl⟩
    next h => exact ⟨h, rfl⟩
  exact ⟨Two.get_set_same .., rfl, congrArg Spindle.state (State.sp_modSp (s := s.letGo d 6 false) ..), hc.2, hc.1⟩

theorem exec_iodieLost_acts (hp : s.spin.present.get d = true) :
    exec (.iodieLost d) s = .next (((s.spindleLost d).partsLost d).stamp 0x0703 d.val (32 + (other d).val)) :=
  congrArg Host.Outcome.next (if_neg (by rw [hp]; exact Bool.false_ne_true))

/-- A die that is lost. -/
theorem exec_iodieLost_of_present (hp : s.spin.present.get d = true) :
    ∃ t, exec (.iodieLost d) s = .next t ∧ t.spin.present.get d = false ∧ t.spin.width = 0 ∧ (t.sp d).state = .off ∧ t.fuse = s.fuse ∧
      (t.host.ports.get d).up = false ∧ t.isFenced (32 + d.val) = true ∧ t.spin.claim ≠ some d := by
  obtain ⟨p1, w1, s1, f1, c1⟩ := State.spindleLost_fields (s := s) (d := d)
  obtain ⟨p2, w2, s2, f2, u2, i2, c2⟩ := State.partsLost_fields (s := s.spindleLost d) (d := d)
  refine ⟨_, exec_iodieLost_acts hp, ?_⟩
  rw [State.stamp_spin, State.stamp_host, State.stamp_fuse, State.isFenced, State.stamp_creel, State.sp, State.stamp_spin]
  refine ⟨by rw [p2, p1], w2.trans w1, (congrArg Spindle.state s2).trans s1, f2.trans f1, u2, i2, by rw [c2]; exact c1⟩

theorem exec_iodieReturn_of_lost {e : LinkEnds} (hp : s.spin.present.get d = false) (hs : s.pow.supply ≠ .off) {here boot : State}
    (hh : here = { s with spin := { s.spin with present := s.spin.present.set d true } })
    (hb : boot = (here.portReset d).modSp d fun x => { x with state := .boot, bootFrom := s.time.lea, passed := none, lapses := 0 }) :
    exec (.iodieReturn d e) s = .next (((boot.linkTrained e).unfence (32 + d.val)).portsBack d) := by
  subst hb hh
  exact congrArg Host.Outcome.next (if_neg (by rw [hp, decide_eq_false hs]; exact Bool.false_ne_true))


/-- Settles O29: the claim, the Spindles' states, and the link and the loss of a die. That a digest difference is self-check 4
(log 82) and the code 0 of notes 0x322 and 0x323 (log 85) are the model's choices. -/
theorem spindlePairKeepsOneClaim : Obligations.SpindlePairKeepsOneClaim := by
  unfold Obligations.SpindlePairKeepsOneClaim
  refine ⟨⟨fun s d n => exec_spindleSelfcheckFail_of_runs, fun s d n => exec_spindleSelfcheckFail_of_failed, fun s d n => State.selfCheckFails_claim,
      fun s a b hs hc => ⟨fun h => ?differ, fun h => ?agree⟩, fun s a b => exec_digestExchange_of_not, fun s hc a b => ?idle, fun s hc => ?checked,
      fun s t0 n pl us h => ⟨fun ht => ?waits, fun ht hp => ⟨?takes, rfl, rfl⟩, fun ht hp => ?alone⟩⟩,
    ⟨fun s d => exec_spindleBootTimeout_of_late, fun s d => exec_spindleBootTimeout_of_early, Spindle.failed_state, fun s d => exec_catchupTimeout_of_late,
      fun s d hs hw hc hm => exec_mirrorRejoin_of_current hs hw hc hm rfl, fun s d => exec_mirrorRejoin_of_mismatch,
      fun s l t => exec_spindleResetTimeout_of_late, fun s => exec_spindleResetTimeout_of_none⟩,
    fun s hw => exec_iolinkDown_of_up hw rfl, fun s => exec_iolinkDown_of_down,
    fun s e hw ha hb he => ⟨congrArg (fun b => Host.Outcome.next (s.when b fun s => s.linkTrained e)) (State.linkTrains_iff.mpr ⟨ha, hb, he, hw⟩), fun hl => State.linkTrained_width hl he⟩,
    fun s e h => congrArg (fun b => Host.Outcome.next (s.when b fun s => s.linkTrained e)) (Bool.eq_false_iff.mpr (mt State.linkTrains_iff.mp ?untrained)),
    fun s d => exec_iodieLost_of_present, fun s d hp => congrArg Host.Outcome.next (if_pos (by rw [hp]; rfl)),
    fun s d e hp hs => exec_iodieReturn_of_lost hp hs rfl rfl, fun s d e hp => congrArg Host.Outcome.next (if_pos (by rw [hp]; rfl))⟩
  case differ => exact (exec_digestExchange_of_inStep hs hc rfl rfl).trans (congrArg Host.Outcome.next (if_neg h))
  case agree => exact (exec_digestExchange_of_inStep hs hc rfl rfl).trans (congrArg Host.Outcome.next (if_pos h))
  case idle => exact congrArg Host.Outcome.next (if_pos (by rw [hc]; rfl))
  case checked =>
    intro rest
    exact ⟨(exec_selfCheckDone_of_checking hc rfl).1 rfl rfl, fun hh => ⟨(exec_selfCheckDone_of_checking hc rfl).2.1 hh rfl rfl,
      (exec_selfCheckDone_of_checking hc rfl).2.2 hh rfl rfl⟩, State.digestHeld_mod (s := rest)⟩
  case waits => exact (exec_claimReleased_of_releasing h).trans (congrArg Host.Outcome.next (if_pos (State.elapsed_eq_false ht)))
  case takes =>
    rw [exec_claimReleased_of_releasing h, if_neg (by rw [State.elapsed_eq_true ht]; exact Bool.false_ne_true.symm), if_pos hp]
  case alone =>
    rw [exec_claimReleased_of_releasing h, if_neg (by rw [State.elapsed_eq_true ht]; exact Bool.false_ne_true.symm), if_neg hp]
  case untrained =>
    rintro ⟨-, -, he, hw⟩
    rcases h with h | ⟨h1, h2⟩
    · omega
    · rw [h2] at hw
      exact hw.elim (by omega) Bool.false_ne_true

end
end Sys2Proof.Machine
end

section
/-! SUPPORT. Snapshots, band-gaps and ageing. -/

set_option Elab.async false

namespace Sys2Proof.Machine
section
variable {s : State} {k : CmdSpec} {c : Cmd} {v : Verdict} {n d : Nat} {img : List Byte} {misses : Nat}

/-! ### Snapshots (R406-R408) -/

theorem length_freeBytes (k n : Nat) : (freeBytes k n).length = n := by
  rw [freeBytes, List.length_take, length_flatMap_leBytes, List.length_range]
  omega

/-- The fields of a snapshot, one after another. -/
theorem State.snapshot_eq {b : List Byte} {chk : Nat} (hb : b = freeBytes s.free (snapBodies s.fwVersion))
    (hc : chk = crc32 (s.snapHead (64 + b.length) ++ leBytes 4 0 ++ b)) : s.snapshot =
      leBytes 4 0x4A584353 ++ (leBytes 2 (Config.calFormat s.fwVersion).toNat ++ (leBytes 2 0x1FF ++ (leBytes 4 s.fuse.serial.toNat ++ (leBytes 4 (64 + b.length) ++
        (leBytes 8 s.lifeS ++ (leBytes 1 s.meanSkein ++ (leBytes 35 0 ++ (leBytes 4 chk ++ b)))))))) := by
  subst hb hc
  simp only [State.snapshot, State.snapHead, List.append_assoc]

/-- A field that lies before a part of a list. -/
theorem drop_leBytes_append {n v i : Nat} {ys : List Byte} (h : n ≤ i) : (leBytes n v ++ ys).drop i = ys.drop (i - n) := by
  rw [List.drop_append, List.drop_of_length_le (by rw [length_leBytes]; exact h), length_leBytes]
  rfl

/-- A number at the front of a list of bytes. -/
theorem leNat_take_leBytes {n v : Nat} {ys : List Byte} (hv : v < 256 ^ n) : leNat ((leBytes n v ++ ys).take n) = v := by
  rw [List.take_left' (length_leBytes n v), leNat_leBytes, Nat.mod_eq_of_lt hv]

theorem State.length_snapHead (n : Nat) : (s.snapHead n).length = 60 := by
  simp only [State.snapHead, List.length_append, length_leBytes]

theorem State.length_snapshot : s.snapshot.length = 64 + snapBodies s.fwVersion := by
  simp only [State.snapshot, List.length_append, length_leBytes, State.length_snapHead, length_freeBytes]

theorem snapBodies_le (fw : BitVec 32) : snapBodies fw ≤ 2097088 := Nat.min_le_right ..

/-- The CHECK of a snapshot covers it. -/
theorem State.snapshot_check : leNat ((s.snapshot.drop 60).take 4) = crc32 (s.snapshot.take 60 ++ leBytes 4 0 ++ s.snapshot.drop 64) := by
  have h (h b : List Byte) (x : Nat) (hl : h.length = 60) (hx : x < 2 ^ 32) :
      leNat (((h ++ leBytes 4 x ++ b).drop 60).take 4) = x ∧ (h ++ leBytes 4 x ++ b).take 60 = h ∧ (h ++ leBytes 4 x ++ b).drop 64 = b := by
    refine ⟨?_, ?_, List.drop_left' (by rw [List.length_append, hl, length_leBytes])⟩
    · rw [List.append_assoc, List.drop_left' hl]
      exact leNat_take_leBytes hx
    · rw [List.append_assoc, List.take_left' hl]
  obtain ⟨h1, h2, h3⟩ := h (s.snapHead (64 + (freeBytes s.free (snapBodies s.fwVersion)).length)) (freeBytes s.free (snapBodies s.fwVersion)) _
    (State.length_snapHead _) (crc32_lt_two_pow _)
  rw [State.snapshot, h1, h2, h3]

/-- The fields of a snapshot's header, read back. -/
theorem State.snapshot_fields (hl : s.lifeS < 2 ^ 64) : leNat (s.snapshot.take 4) = 0x4A584353 ∧ leNat ((s.snapshot.drop 4).take 2) = (Config.calFormat s.fwVersion).toNat ∧
    leNat ((s.snapshot.drop 8).take 4) = s.fuse.serial.toNat ∧ leNat ((s.snapshot.drop 12).take 4) = s.snapshot.length ∧ leNat ((s.snapshot.drop 16).take 8) = s.lifeS := by
  have hb := snapBodies_le s.fwVersion
  rw [State.length_snapshot, State.snapshot_eq rfl rfl, length_freeBytes]
  refine ⟨leNat_take_leBytes (by decide), ?_, ?_, ?_, ?_⟩
  · rw [drop_leBytes_append (by decide)]
    exact leNat_take_leBytes (Config.calFormat s.fwVersion).isLt
  · rw [drop_leBytes_append (by decide), drop_leBytes_append (by decide), drop_leBytes_append (by decide)]
    exact leNat_take_leBytes s.fuse.serial.isLt
  · rw [drop_leBytes_append (by decide), drop_leBytes_append (by decide), drop_leBytes_append (by decide), drop_leBytes_append (by decide)]
    exact leNat_take_leBytes (by omega)
  · rw [drop_leBytes_append (by decide), drop_leBytes_append (by decide), drop_leBytes_append (by decide), drop_leBytes_append (by decide),
      drop_leBytes_append (by decide)]
    exact leNat_take_leBytes hl

/-- A snapshot may be used at once where it was taken. -/
theorem State.snapCheck_snapshot (hl : s.lifeS < 2 ^ 64) : s.snapshot.length ≤ 2097152 ∧ s.snapCheck s.snapshot = 1 := by
  obtain ⟨h1, h2, h3, h4, h5⟩ := State.snapshot_fields hl
  have hb := snapBodies_le s.fwVersion
  have hn := State.length_snapshot (s := s)
  refine ⟨by omega, ?_⟩
  unfold State.snapCheck
  rw [h1, h2, h3, h4, h5, ← State.snapshot_check, if_neg (by simp only [ne_eq, not_true, false_or, or_false]; omega), if_neg (by simp), if_pos (by omega)]

/-- A snapshot of another module, or of another format, is refused. -/
theorem State.snapCheck_of_foreign : (leNat ((img.drop 8).take 4) ≠ s.fuse.serial.toNat → s.snapCheck img = 2) ∧
    (leNat ((img.drop 4).take 2) ≠ (Config.calFormat s.fwVersion).toNat → s.snapCheck img = 2) := by
  unfold State.snapCheck
  refine ⟨fun h => if_pos (.inr (.inr (.inr (.inr h)))), fun h => ?_⟩
  dsimp only
  rw [if_pos h, ite_self]

theorem State.restored_fields : (s.restored img misses).cal.restoreMiss = (snapDomains img) &&& misses ∧ (s.restored img misses).cal.lastRestore = 1 ∧
    (s.restored img misses).plan = s.plan ∧ (s.restored img misses).mems = s.mems := by
  have hk {β : Type} (g : State → β) (hg : ∀ (u : State), g (u.bump Ctr.calRestoreMiss) = g u) (w : State) :
      g (w.forEach (onesOf 9 ((snapDomains img) &&& misses)) fun _ s => s.bump Ctr.calRestoreMiss) = g w := State.forEach_keeps g (fun _ u => hg u) _ _
  exact ⟨hk (·.cal.restoreMiss) (fun _ => rfl) _, hk (·.cal.lastRestore) (fun _ => rfl) _, hk (·.plan) (fun _ => rfl) _, hk (·.mems) (fun _ => rfl) _⟩

theorem exec_calSave_of_passes {w : HostWr} (hk : k = { op := 0x0802, named := [(16, 23)], long := true }) (hp : Passes s k c {}) {on : State} (ho : on = accepted s k c {}) :
    exec (.calSave c w) s = .next (({ on with free := on.free + (snapBodies on.fwVersion + 7) / 8 } : State).writeHostOut c (c.field on 16 8) on.snapshot w) := by
  subst hk ho
  exact congrArg Host.Outcome.next (selkan_passes hp)

theorem exec_calRestore_of_good {snap : SnapRead} (hi : img = (s.mems.host (c.port s)).read (c.field s 16 8) (c.field s 24 4))
    (hk : k = { op := 0x0803, named := [(16, 27)], long := true, noJob := true })
    (hv : v = { bad := if c.field s 24 4 < 64 ∨ c.field s 24 4 > 2097152 then some 24 else if s.snapCheck img = 2 then some 16 else none, state := decide (s.snapCheck img = 3) })
    (hp : Passes s k c v) : exec (.calRestore c snap) s = .next (((accepted s k c v).restored img snap.misses).done c .ok) := by
  subst hk hv hi
  exact congrArg Host.Outcome.next (selkan_passes hp)

theorem exec_ageingRead_of_passes {w : HostWr} (hk : k = { op := 0x0804, named := [(16, 23)], long := true, inHeld := true }) (hp : Passes s k c {}) {on : State}
    (ho : on = accepted s k c {}) : exec (.ageingRead c w) s =
      .next (({ on with free := on.free + (32 + 16 * on.cal.summaries.length) } : State).writeHostOut c (c.field on 16 8) on.ageingReport w) := by
  subst hk ho
  exact congrArg Host.Outcome.next (selkan_passes hp)

/-! ### Band-gaps (R402) -/

/-- A die is suspect exactly when its band-gap is more than 0.3 % from the median. -/
theorem gapsOff_nonempty_iff (uv : List Nat) : (!(gapsOff uv).isEmpty) = true ↔ ∃ x ∈ uv, 1000 * (max x (median uv) - min x (median uv)) > 3 * median uv := by
  rw [Bool.not_eq_true', List.isEmpty_eq_false_iff_exists_mem]
  simp only [gapsOff, List.mem_map, List.mem_filter, decide_eq_true_eq]
  constructor
  · rintro ⟨_, ⟨x, i⟩, ⟨hm, hx⟩, rfl⟩
    exact ⟨x, List.fst_mem_of_mem_zipIdx hm, hx⟩
  · rintro ⟨x, hm, hx⟩
    obtain ⟨i, hi⟩ := List.mem_iff_getElem?.mp hm
    exact ⟨i, ⟨x, i⟩, ⟨List.mk_mem_zipIdx_iff_getElem?.mpr hi, hx⟩, rfl⟩

theorem State.compareGaps_fields (uv : List Nat) : (s.compareGaps uv).cal.bgSuspect = !(gapsOff uv).isEmpty ∧ (s.compareGaps uv).mems = s.mems ∧
    (s.compareGaps uv).region = s.region := by
  have hk {β : Type} (g : State → β) (hg : ∀ (u : State) a b c d, g (u.fire a b c d) = g u) (w : State) :
      g (w.forEach (gapsOff uv) fun d s => s.fire 0x3F1 4 d (uv.getD d 0)) = g w := State.forEach_keeps g (fun _ u => hg u ..) _ _
  exact ⟨hk (·.cal.bgSuspect) (fun _ _ _ _ _ => rfl) _, hk (·.mems) (fun _ _ _ _ _ => rfl) _, hk (·.region) (fun _ _ _ _ _ => rfl) _⟩


/-! ### Ageing (R411-R414) -/

theorem exec_ageingSample (a : AgeRead) : exec (.ageingSample a) s =
    .next (if s.powered then { s with cal := { s.cal with accS := s.cal.accS + 1, sample := s.cal.sample.sample a } } else s) := rfl

theorem exec_ageingAccumulate : exec .ageingAccumulate s =
    .next (if !s.powered then s else if s.nvmOpen then s.accumulate else { s with cal := { s.cal with writeWaiting := true } }) := rfl

theorem exec_ageingSummary : exec .ageingSummary s =
    .next (if !s.powered then s else if s.nvmOpen then s.summarise else { s with cal := { s.cal with sumWaiting := true } }) := rfl

/-- What a re-plan of a die's rails changes: the set-points' targets, the observations, and which re-plans are due. -/
theorem State.replanned_keeps {β : Type} (g : State → β) (hc : ∀ (u : State) t r, g { u with cal := { u.cal with railTarget := t, replanDue := r } } = g u)
    (ho : ∀ (u : State) o, g { u with obs := o } = g u) : g ((s.retarget d).replanned d) = g s := by
  have h1 : g (s.retarget d) = g s := State.forEach_keeps g (fun r u => hc u _ u.cal.replanDue) _ _
  have h2 (u : State) : g (u.replanned d) = g u := by
    unfold State.replanned
    split
    · refine (ho { u with cal := { u.cal with replanDue := u.cal.replanDue.set false d false } } _).trans (hc u u.cal.railTarget _)
    · rfl
  exact (h2 _).trans h1

/-- What the guardband's re-plan leaves. -/
theorem State.replanGuard_keeps {β : Type} (g : State → β) (hc : ∀ (u : State) t r, g { u with cal := { u.cal with railTarget := t, replanDue := r } } = g u)
    (ho : ∀ (u : State) o, g { u with obs := o } = g u) (hp : ∀ (u : State) t, g { u with plan := { u.plan with guard := t } } = g u) : g (s.replanGuard d) = g s := by
  unfold State.replanGuard
  extract_lets n
  split
  next => rfl
  next =>
    split
    next => exact (State.replanned_keeps g hc ho).trans ((hc { s with plan := { s.plan with guard := s.plan.guard.set 0 d (n + 5) } } s.cal.railTarget _).trans (hp s _))
    next => exact ho s _

theorem State.replanGuard_of_good (h : s.worstPs d ≤ 420) : s.replanGuard d = s := if_pos h

/-- The plan after a re-plan of a die's guardband. -/
theorem State.replanGuard_of_late (h : 420 < s.worstPs d) (hg : s.plan.guard.get 0 d < 40) :
    (s.replanGuard d).plan = { s.plan with guard := s.plan.guard.set 0 d (s.plan.guard.get 0 d + 5) } := by
  rw [State.replanGuard, if_neg (Nat.not_le.mpr h), if_pos hg]
  exact State.replanned_keeps (·.plan) (fun _ _ _ => rfl) fun _ _ => rfl

theorem State.replanGuard_of_limit (h : 420 < s.worstPs d) (hg : 40 ≤ s.plan.guard.get 0 d) :
    s.replanGuard d = (s.bump Ctr.guardLimit d).fire 0x3F1 5 d (s.plan.guard.get 0 d) := by
  rw [State.replanGuard, if_neg (Nat.not_le.mpr h), if_neg (Nat.not_lt.mpr hg)]

/-- No guardband falls. -/
theorem State.replanGuard_guard (e : Nat) (hw : Tab.wf s.plan.guard 0 = true) :
    Tab.wf (s.replanGuard e).plan.guard 0 = true ∧ s.plan.guard.get 0 d ≤ (s.replanGuard e).plan.guard.get 0 d := by
  rcases Nat.lt_or_ge 420 (s.worstPs e) with h | h
  · rcases Nat.lt_or_ge (s.plan.guard.get 0 e) 40 with hg | hg
    · rw [State.replanGuard_of_late h hg]
      refine ⟨Tab.wf_set _ _ hw, ?_⟩
      by_cases hd : d = e
      · rw [hd, Tab.get_set_same _ _ hw]; omega
      · rw [Tab.get_set_other hd _ hw]
    · rw [State.replanGuard_of_limit h hg]
      exact ⟨hw, Nat.le_refl _⟩
  · rw [State.replanGuard_of_good h]
    exact ⟨hw, Nat.le_refl _⟩

theorem widthBelow_lt {w : Nat} (h : w ≠ 0) : widthBelow w < w := by
  unfold widthBelow
  split_ifs <;> omega

theorem State.replanWidth_plan (ok : Bool) : (ok = true → s.replanWidth ok = s) ∧
    (ok = false → s.plan.widthCap ≠ 0 → (s.replanWidth ok).plan = { s.plan with widthCap := widthBelow s.plan.widthCap }) ∧
    (s.plan.widthCap = 0 → s.replanWidth ok = s) := by
  unfold State.replanWidth
  refine ⟨fun h => if_pos (.inl h), fun h hc => ?_, fun h => if_pos (.inr h)⟩
  rw [if_neg (by rw [h]; rintro (h | h); exacts [Bool.false_ne_true h, hc h])]
  rfl

/-- Guardbands stay and WIDTH_CAP does not rise when an eye is judged. -/
theorem State.replanWidth_le (ok : Bool) : (s.replanWidth ok).plan.guard = s.plan.guard ∧ (s.replanWidth ok).plan.widthCap ≤ s.plan.widthCap ∧
    (s.replanWidth ok).cal = s.cal ∧ (s.replanWidth ok).mems = s.mems := by
  unfold State.replanWidth
  split
  next => exact ⟨rfl, Nat.le_refl _, rfl, rfl⟩
  next h => exact ⟨rfl, Nat.le_of_lt (widthBelow_lt (not_or.mp h).2), rfl, rfl⟩

theorem State.replanRings_fields : s.replanRings.plan = s.plan ∧ s.replanRings.cal = s.cal ∧ s.replanRings.mems = s.mems :=
  ⟨State.forEach_keeps (·.plan) (f := fun n s => (s.bump Ctr.ageingReplan).fire 0x3F1 3 n) (fun _ _ => rfl) _ _,
    State.forEach_keeps (·.cal) (f := fun n s => (s.bump Ctr.ageingReplan).fire 0x3F1 3 n) (fun _ _ => rfl) _ _,
    State.forEach_keeps (·.mems) (f := fun n s => (s.bump Ctr.ageingReplan).fire 0x3F1 3 n) (fun _ _ => rfl) _ _⟩

/-- The re-plans of a summary: no guardband falls, WIDTH_CAP does not rise, the summaries and the memories stay. -/
theorem State.replan_fields (ok : Bool) : (Tab.wf s.plan.guard 0 = true →
      s.plan.guard.get 0 d ≤ (((s.forEach (List.range 8) fun d s => s.replanGuard d).replanWidth ok).replanRings).plan.guard.get 0 d) ∧
    (((s.forEach (List.range 8) fun d s => s.replanGuard d).replanWidth ok).replanRings).plan.widthCap ≤ s.plan.widthCap ∧
    (((s.forEach (List.range 8) fun d s => s.replanGuard d).replanWidth ok).replanRings).cal.summaries = s.cal.summaries ∧
    (((s.forEach (List.range 8) fun d s => s.replanGuard d).replanWidth ok).replanRings).mems = s.mems := by
  obtain ⟨p1, c1, m1⟩ := State.replanRings_fields (s := (s.forEach (List.range 8) fun d s => s.replanGuard d).replanWidth ok)
  obtain ⟨g2, w2, c2, m2⟩ := State.replanWidth_le (s := s.forEach (List.range 8) fun d s => s.replanGuard d) ok
  have hk {β : Type} (g : State → β) (hc : ∀ (u : State) t r, g { u with cal := { u.cal with railTarget := t, replanDue := r } } = g u)
      (ho : ∀ (u : State) o, g { u with obs := o } = g u) (hp : ∀ (u : State) t, g { u with plan := { u.plan with guard := t } } = g u) :
      g (s.forEach (List.range 8) fun d s => s.replanGuard d) = g s := State.forEach_keeps g (fun _ _ => State.replanGuard_keeps g hc ho hp) _ _
  rw [p1, c1, m1, g2, c2, m2]
  refine ⟨fun hw => ?_, Nat.le_trans w2 (Nat.le_of_eq (hk (·.plan.widthCap) (fun _ _ _ => rfl) (fun _ _ => rfl) fun _ _ => rfl)),
    hk (·.cal.summaries) (fun _ _ _ => rfl) (fun _ _ => rfl) fun _ _ => rfl, hk (·.mems) (fun _ _ _ => rfl) (fun _ _ => rfl) fun _ _ => rfl⟩
  have h := State.forEach_holds (P := fun u => Tab.wf u.plan.guard 0 = true ∧ s.plan.guard.get 0 d ≤ u.plan.guard.get 0 d) (f := fun d s => s.replanGuard d)
    (fun e u hu => ⟨(State.replanGuard_guard (d := d) e hu.1).1, Nat.le_trans hu.2 (State.replanGuard_guard e hu.1).2⟩) ⟨hw, Nat.le_refl _⟩ (List.range 8)
  exact h.2

/-- A summary. -/
theorem State.summarise_fields : (Tab.wf s.plan.guard 0 = true → s.plan.guard.get 0 d ≤ s.summarise.plan.guard.get 0 d) ∧
    s.summarise.plan.widthCap ≤ s.plan.widthCap ∧ s.summarise.cal.summaries.length ≤ 252 ∧ s.summarise.mems = s.mems := by
  unfold State.summarise
  extract_lets old new all base was cal s1
  obtain ⟨h1, h2, h3, h4⟩ := State.replan_fields (s := { s with cal := cal }) (d := d) new.widthOk
  refine ⟨h1, h2, ?_, h4⟩
  refine le_of_eq_of_le (congrArg List.length h3) ?_
  dsimp only [cal]
  rw [List.length_drop]
  omega

/-- Settles O30: snapshots, band-gaps, and the ageing plan. The free count of AGEING_READ (logs 63 and 109) and code 5 of note
0x3F1 (log 85) are the model's choices. -/
theorem calibrationAndAgeingAreKept : Obligations.CalibrationAndAgeingAreKept := by
  unfold Obligations.CalibrationAndAgeingAreKept
  refine ⟨⟨fun s c w hp => exec_calSave_of_passes rfl hp rfl, fun s => State.snapCheck_snapshot, fun s c snap hp => exec_calRestore_of_good rfl rfl rfl hp,
      fun s img misses => State.restored_fields, fun s img => State.snapCheck_of_foreign, fun s c w hp => exec_ageingRead_of_passes rfl hp rfl, fun s uv => ?gaps⟩,
    fun s a hp => ?sampled, fun s hp hn => ?stored, fun s hp hn => ⟨?waits, ?waitsSummary⟩, fun s hp => ⟨?dark, ?darkSummary, fun a => ?darkSample⟩, fun s hp hn => ?summary,
    fun s d => State.replanGuard_of_good, fun s d h hg hw => ?raised, fun s d h hg => ?limit, fun s => ⟨(State.replanWidth_plan true).1 rfl, fun hc => ?narrowed⟩,
    fun s d => (State.summarise_fields).1, fun s => (State.summarise_fields (d := 0)).2⟩
  case gaps =>
    obtain ⟨h1, h2, h3⟩ := State.compareGaps_fields (s := s) uv
    exact ⟨fun hm => congrArg Host.Outcome.next (if_pos hm), fun hm => congrArg Host.Outcome.next (if_neg hm), by rw [h1]; exact gapsOff_nonempty_iff uv, h2, h3⟩
  case sampled => exact ⟨_, (exec_ageingSample a).trans (congrArg Host.Outcome.next (if_pos hp)), rfl, rfl, rfl, rfl, rfl, rfl⟩
  case stored =>
    refine ⟨s.accumulate, ?_, rfl, rfl, rfl, rfl⟩
    rw [exec_ageingAccumulate, hp, hn]
    rfl
  case waits => rw [exec_ageingAccumulate, hp, hn]; rfl
  case waitsSummary => rw [exec_ageingSummary, hp, hn]; rfl
  case dark => rw [exec_ageingAccumulate, hp]; rfl
  case darkSummary => rw [exec_ageingSummary, hp]; rfl
  case darkSample => rw [exec_ageingSample, hp]; rfl
  case summary => rw [exec_ageingSummary, hp, hn]; rfl
  case raised =>
    rw [State.replanGuard_of_late h hg]
    exact ⟨Tab.get_set_same _ _ hw, fun e he => Tab.get_set_other he _ hw⟩
  case limit => exact ⟨State.replanGuard_of_limit h hg, by rw [State.replanGuard_of_limit h hg]; rfl⟩
  case narrowed =>
    rw [(State.replanWidth_plan false).2.1 rfl hc]
    exact ⟨rfl, widthBelow_lt hc⟩

end
end Sys2Proof.Machine
end

section
/-! SUPPORT. Counter snapshots, telemetry and the record stores. -/

set_option Elab.async false

namespace Sys2Proof.Machine
section
variable {s : State} {k : CmdSpec} {c : Cmd} {v : Verdict} {g a n : Nat} {d : IoDie} {x : Stream} {w : HostWr}

/-! ### Counter snapshots (R449) -/

/-- A table whose entries are copied into another, each as `f` gives it. -/
theorem Tab.get_foldl_set (f : Nat → Word) (l : Tab Nat) (t : Tab Word) (lo : Option Nat) (hl : Tab.wfFrom 0 lo l = true) (ht : Tab.wf t 0 = true) :
    Tab.get (l.foldl (fun (t : Tab Word) e => t.set 0 e.1 (f e.2)) t) 0 a = if l.get 0 a = 0 then t.get 0 a else f (l.get 0 a) := by
  induction l generalizing t lo with
  | nil => exact (if_pos rfl).symm
  | cons e l ih =>
    obtain ⟨k, v⟩ := e
    simp only [Tab.wfFrom, Bool.and_eq_true, decide_eq_true_eq] at hl
    obtain ⟨⟨-, hv⟩, hl⟩ := hl
    rw [List.foldl_cons, ih _ _ hl (Tab.wf_set _ _ ht), Tab.get_cons]
    rcases Nat.lt_trichotomy a k with h | h | h
    · have hk : ¬ a = k := Nat.ne_of_lt h
      rw [if_pos (Tab.get_of_le_bound hl (Nat.le_of_lt h)), Tab.get_set_other hk _ ht, if_neg hk, if_pos h, if_pos rfl]
    · rw [h, if_pos (Tab.get_of_le_bound hl (Nat.le_refl _)), Tab.get_set_same _ _ ht, if_pos rfl, if_neg hv]
    · have hk : ¬ a = k := Nat.ne_of_gt h
      rw [Tab.get_set_other hk _ ht, if_neg hk, if_neg (Nat.not_lt.mpr (Nat.le_of_lt h))]

theorem ctrWord_zero : ctrWord 0 = 0 := by decide

/-- The shadows of a group that is captured. -/
theorem State.capture_shadows (hg : g ≠ 15) (ha : inGroup g a = true) (hc : Tab.wf s.obs.counters 0 = true) (hs : Tab.wf s.obs.shadows 0 = true) :
    (s.capture g).obs.shadows.get 0 a = ctrWord (s.obs.counters.get 0 a) := by
  have hcount : Tab.get (s.obs.counters.filter fun e => inGroup g e.1) 0 a = s.obs.counters.get 0 a := by
    rw [Tab.get_filter_from (inGroup g) _ none hc, if_pos ha]
  have hrest : Tab.get (s.obs.shadows.filter fun e => !inGroup g e.1) 0 a = 0 := by
    rw [Tab.get_filter_from (fun n => !inGroup g n) _ none hs, ha]
    rfl
  unfold State.capture
  extract_lets t0 t1 t2
  have h2 : t2 = t1 := if_neg hg
  have h1 : t1.get 0 a = _ := Tab.get_foldl_set ctrWord (s.obs.counters.filter fun e => inGroup g e.1) t0 none (Tab.wf_filter _ hc) (Tab.wf_filter _ hs)
  dsimp only
  rw [h2, h1, hcount, hrest]
  split
  next h => rw [h, ctrWord_zero]
  next => rfl

/-- The counters after a group is cleared. -/
theorem State.clearGroup_counters (hc : Tab.wf s.obs.counters 0 = true) :
    (s.clearGroup g).obs.counters.get 0 a = if inGroup g a then 0 else s.obs.counters.get 0 a := by
  refine (Tab.get_filter_from (fun n => !inGroup g n) _ none hc a).trans ?_
  cases inGroup g a <;> rfl

theorem exec_snapshot_of_passes (hv : v = { bad := groupMaskBad (c.field s 16 8) }) (hk : k = { op := 0x0A01, named := [(16, 23)], inHeld := true }) (hp : Passes s k c v) :
    exec (.snapshot c) s = .next (((accepted s k c v).forEach (maskGroups (c.field s 16 8)) fun g (u : State) => u.capture g).done c .ok
      (result [(16, 8, (accepted s k c v).time.lea.toNat)])) := by
  subst hk hv
  exact congrArg Host.Outcome.next (selkan_passes hp)

theorem exec_snapshotClear_of_passes (hv : v = { bad := groupMaskBad (c.field s 16 8) }) (hk : k = { op := 0x0A02, named := [(16, 23)], inHeld := true })
    (hp : Passes s k c v) : exec (.snapshotClear c) s =
      .next (((accepted s k c v).forEach (maskGroups (c.field s 16 8)) fun g (u : State) => (u.capture g).clearGroup g).done c .ok
        (result [(16, 8, (accepted s k c v).time.lea.toNat)])) := by
  subst hk hv
  exact congrArg Host.Outcome.next (selkan_passes hp)

/-! ### Telemetry (R452, R453) -/

theorem exec_telemetryStart_of_passes (hv : v = { bad := streamBad s.fuse.cmap (c.field s 16 1) (c.field s 20 4) (c.field s 24 8) })
    (hk : k = { op := 0x0A03, named := [(16, 16), (20, 31)] }) (hp : Passes s k c v) {on : State} (ho : on = accepted s k c v)
    (hx : x = { running := true, periodUs := c.field s 20 4, target := BitVec.ofNat 64 (c.field s 24 8), port := c.port on }) :
    exec (.telemetryStart c) s = .next (({ on with obs := { on.obs with streams := on.obs.streams.set {} (c.field s 16 1) x } } : State).done c .ok) := by
  subst hx hk hv ho
  exact congrArg Host.Outcome.next (selkan_passes hp)

theorem exec_telemetryStop_of_passes (hv : v = { bad := if c.field s 16 1 > 4 then some 16 else none }) (hk : k = { op := 0x0A04, named := [(16, 16)], inHeld := true })
    (hp : Passes s k c v) {on : State} (ho : on = accepted s k c v) : exec (.telemetryStop c) s =
      .next (({ on with obs := { on.obs with streams := on.obs.streams.mod {} (c.field s 16 1) fun x => { x with running := false } } } : State).done c .ok) := by
  subst hk hv ho
  exact congrArg Host.Outcome.next (selkan_passes hp)

theorem State.length_sample : (s.sample n x).length = streamSize n := by
  unfold State.sample
  extract_lets b
  rw [List.length_take, List.length_append, List.length_replicate]
  omega

theorem exec_telemetrySample_of_idle {b : Bool} (hx : x = s.obs.streams.get {} n)
    (h : x.running = false ∨ s.powered = false ∨ s.time.lea.toNat % (1000 * x.periodUs) ≠ 0) : exec (.telemetrySample n b) s = .next s := by
  subst hx
  refine congrArg Host.Outcome.next (if_pos ?_)
  rcases h with h | h | h
  · rw [h]; rfl
  · rw [h, Bool.not_false, Bool.or_true]; rfl
  · rw [decide_eq_true h, Bool.or_true]

theorem exec_telemetrySample_of_due (hx : x = s.obs.streams.get {} n) (hr : x.running = true) (hp : s.powered = true)
    (hd : s.time.lea.toNat % (1000 * x.periodUs) = 0) :
    exec (.telemetrySample n true) s =
      .next (({ s with obs := { s.obs with streams := s.obs.streams.set {} n { x with sseq := x.sseq + 1, skipped := true } } } : State).bump Ctr.telemSkip) ∧
    (x.target.msb = false → exec (.telemetrySample n false) s = .next { s with
      mems := s.mems.writeHost x.port (x.target.toNat + x.sseq.toNat * streamSize n % 65536) (s.sample n x)
      obs := { s.obs with streams := s.obs.streams.set {} n { x with sseq := x.sseq + 1, skipped := false } } }) := by
  have h : ¬ (!x.running || !s.powered || decide (s.time.lea.toNat % (1000 * x.periodUs) ≠ 0)) = true := by
    rw [hr, hp, hd]
    decide
  subst hx
  refine ⟨congrArg Host.Outcome.next (if_neg h), fun hm => congrArg Host.Outcome.next ((if_neg h).trans ?_)⟩
  rw [if_neg (by decide), State.writeSample, if_neg (by rw [hm]; exact Bool.false_ne_true)]

theorem Mems.host_writeHost {m : Mems} {p : Port} {bs : List Byte} : (m.writeHost p a bs).host p = (m.host p).write a bs := by
  unfold Mems.host Mems.writeHost
  split <;> rfl

/-! ### Record stores (R455, R458) -/

theorem length_fit (n : Nat) (bs : List Byte) : (fit n bs).length = n := by
  rw [fit, List.length_take, List.length_append, List.length_replicate]
  omega

theorem Rec.length_bytes (r : Rec) : r.bytes.length = 512 ∧ r.bytes.take 4 = leBytes 4 0x4A585243 := by
  constructor
  · simp only [Rec.bytes, Rec.body, List.length_append, length_leBytes, length_fit]
  · simp only [Rec.bytes, Rec.body, List.append_assoc]
    exact List.take_left' (length_leBytes 4 _)

theorem Rec.clear_cases (r : Rec) (n : BitVec 32) : (r.kind = 3 → r.acked = false → r.clear n = r) ∧ (r.rseq ≠ n → before32 r.rseq n = false → r.clear n = r) ∧
    (r.rseq = n → (r.kind ≠ 3 ∨ r.acked = true) → r.clear n = { r with cleared := true }) := by
  unfold Rec.clear
  refine ⟨fun hk ha => if_neg fun h => h.2 ⟨hk, ha⟩, fun hn hb => if_neg ?_, fun hn hk => if_pos ⟨.inl hn, ?_⟩⟩
  · rintro ⟨h | h, -⟩
    · exact hn h
    · rw [hb] at h; exact Bool.false_ne_true h
  · rintro ⟨h3, ha⟩
    rcases hk with hk | hk
    · exact hk h3
    · rw [ha] at hk; exact Bool.false_ne_true hk

theorem exec_recordRead_of_present (hv : v = { state := !s.spin.present.get d }) (hk : k = { op := 0x0A05, named := [(16, 16), (24, 31)], long := true, inHeld := true })
    (hd : c.field s 16 1 = d.val) (hp : Passes s k c v) {on : State} (ho : on = accepted s k c v) :
    exec (.recordRead c w) s = .next (({ on with free := on.free + 64 } : State).writeHostOut c (c.field on 24 8) (on.recordReport d) w) := by
  have hdie : (if c.field s 16 1 = 1 then 1 else 0 : IoDie) = d := by
    rw [hd]
    exact (by decide : ∀ d : IoDie, (if d.val = 1 then 1 else 0 : IoDie) = d) d
  subst hk hv ho
  refine congrArg Host.Outcome.next ((selkan_passes_of ?_ hp).trans ?_)
  · rw [hdie, if_neg (by omega)]
  · rw [hdie]

theorem exec_recordClear_of_passes (hk : k = { op := 0x0A06, named := [(16, 19)], long := true, nvm := true, inHeld := true }) (hp : Passes s k c {})
    {on : State} (ho : on = accepted s k c {}) {n : BitVec 32} (hn : n = BitVec.ofNat 32 (c.field on 16 4)) :
    exec (.recordClear c) s = .next (({ on with obs := { on.obs with store :=
      ⟨on.obs.store.a.clearTo on.spin.present.a n, on.obs.store.b.clearTo on.spin.present.b n⟩ } } : State).done c .ok) := by
  subst hk hn ho
  exact congrArg Host.Outcome.next (selkan_passes hp)


/-- Settles O31: snapshots of the counters, telemetry, and the commands of the record stores. That RECORD_CLEAR acts on the dies that
are present (log 115, with log 114) is the model's choice. -/
theorem countersTelemetryAndRecordsAreRead : Obligations.CountersTelemetryAndRecordsAreRead := by
  unfold Obligations.CountersTelemetryAndRecordsAreRead
  refine ⟨⟨fun s c hp => exec_snapshot_of_passes rfl rfl hp, fun s c hp => exec_snapshotClear_of_passes rfl rfl hp,
      fun s g a hg ha hc hs => ⟨State.capture_shadows hg ha hc hs, rfl, ?cleared, rfl⟩, fun s g a ha hc => ?kept, fun s g => ⟨rfl, rfl, rfl⟩⟩,
    fun s c hp => exec_telemetryStart_of_passes rfl rfl hp rfl rfl, fun s c hp => exec_telemetryStop_of_passes rfl rfl hp rfl, fun s n => ?sample,
    fun s n x hn => State.length_sample, fun s c w d hd hp => exec_recordRead_of_present rfl rfl hd hp rfl, fun s c hp => exec_recordClear_of_passes rfl hp rfl rfl,
    Rec.clear_cases, Rec.length_bytes⟩
  case cleared => rw [State.clearGroup_counters hc, if_pos ha]
  case kept => rw [State.clearGroup_counters hc, ha]; rfl
  case sample =>
    intro x
    refine ⟨fun h b => exec_telemetrySample_of_idle rfl h, fun hr hp hd => ?_⟩
    obtain ⟨hlate, hput⟩ := exec_telemetrySample_of_due (n := n) rfl hr hp hd
    refine ⟨hlate, fun hm hw hn => ⟨_, hput hm, rfl, ?_, fun a ha => ?_, Mems.writeHost_hbm .., Mems.writeHost_sram .., rfl⟩⟩
    · dsimp only
      rw [Mems.host_writeHost, ← State.length_sample (s := s) (n := n) (x := x)]
      exact Memory.read_write _ _ hw
    · dsimp only
      rw [Mems.host_writeHost]
      exact Memory.get_write_outside _ hw (by rw [State.length_sample]; exact ha)

end
end Sys2Proof.Machine
end

section
/-! SUPPORT. The Carding pass. -/

set_option Elab.async false

namespace Sys2Proof.Machine
section
variable {s : State} {k : CmdSpec} {c : Cmd} {v : Verdict} {d : Fin 8} {x : ResetReads} {l : LOp} {rest : List Nat} {fails tail : List CardFail}

/-! ### The Carding pass (R423-R431) -/

theorem exec_cardingRun_of_ready {ds : List Nat} (hd : ds = pairsOf (c.field s 18 2)) (hk : k = { op := 0x0B01, named := [(16, 16), (18, 19)], long := true, noJob := true })
    (hv : v = { state := !ds.all fun d => (halves d).all fun r => decide ((s.reg r).state = .ready) }) (hp : Passes s k c v) {on : State} (ho : on = accepted s k c v)
    (hf : c.field s 16 1 ≤ 1) {y : Card} (hy : y =
      { present := true, full := decide (c.field on 16 1 = 1), mask := pairMask ds, start := on.time.lea, end_ := on.time.lea, todo := ds, pending := on.card.pending, used := on.card.used }) :
    exec (.cardingRun c) s = .next (({ on with card := y } : State).forEach ds.head?.toList fun d (u : State) => u.toTest d) := by
  subst hy hk hv hd ho
  refine congrArg Host.Outcome.next (selkan_passes_of ?_ hp)
  rw [if_neg (Nat.not_lt.mpr hf)]

/-- The halves of a pair go into TEST, one after the other, and stay there. -/
theorem State.toTest_reg (hw : Tab.wf s.region {} = true) {r : Region} (hr : r ∈ halves d.val) : ((s.toTest d).reg r).state = .test := by
  obtain ⟨hw1, h1, -⟩ := State.setRegion_reg (s := s) (2 * (d.val % 8)) .test hw
  obtain ⟨-, h2, h3⟩ := State.setRegion_reg (s := s.setRegion (2 * (d.val % 8)) .test) (2 * (d.val % 8) + 1) .test hw1
  change (((s.setRegion (2 * (d.val % 8)) .test).setRegion (2 * (d.val % 8) + 1) .test).reg r).state = .test
  rcases List.mem_cons.mp hr with rfl | hr
  · rw [h3 _ (Nat.ne_of_lt (Nat.lt_succ_self _)), h1]
  · rw [List.mem_singleton.mp hr, h2]

/-- A pair's turn, and what comes after it. -/
theorem exec_cardingPair_of_turn (hl : s.carding = some l) (ht : s.card.todo = d.val :: rest) {s1 s2 s3 : State}
    (h1 : s1 = s.forEach (halves d.val) fun r (u : State) => u.zeroRegion r.val) (h2 : s2 = s1.forEach fails fun f (u : State) => u.enterFail true f)
    (h3 : s3 = ({ s2 with card := { s2.card with todo := rest } } : State).fromTest d x) :
    (rest = [] → exec (.cardingPair d fails tail x) s = .next (s3.endPass l tail)) ∧
    (∀ f fs, rest = f :: fs → exec (.cardingPair d fails tail x) s = .next (s3.toTest f)) := by
  have hn : ¬ d.val ≠ d.val := fun h => h rfl
  subst h1 h2 h3
  refine ⟨fun hr => congrArg Host.Outcome.next ?_, fun f fs hr => congrArg Host.Outcome.next ?_⟩
  · rw [hl, ht, hr]
    dsimp only
    rw [if_neg hn]
  · rw [hl, ht, hr]
    dsimp only
    rw [if_neg hn]

theorem exec_cardingPair_of_other {e : Nat} (ht : s.card.todo = e :: rest) (he : e ≠ d.val) : exec (.cardingPair d fails tail x) s = .next s := by
  refine congrArg Host.Outcome.next ?_
  rw [ht]
  cases s.carding with
  | none => rfl
  | some l => exact if_pos he

/-- The SRAM when a region reads zero. -/
theorem State.zeroRegion_sram (r : Nat) : (s.zeroRegion r).mems.sram =
    (s.mems.sram.clear (r * 268435456) ((r + 1) * 268435456)).clear (4294967296 + r * 268435456) (4294967296 + (r + 1) * 268435456) :=
  congrArg (fun t : Memory => (t.clear (r * 268435456) ((r + 1) * 268435456)).clear (4294967296 + r * 268435456) (4294967296 + (r + 1) * 268435456))
    (State.forEach_keeps (·.mems.sram) (f := fun c s => s.modCel c CellSt.zeroed) (fun _ _ => rfl) s _)

theorem State.zeroRegion_get {r a : Nat} (hw : s.mems.sram.wf = true) : (s.zeroRegion r).mems.sram.get 0 a =
    if (r * 268435456 ≤ a ∧ a < (r + 1) * 268435456) ∨ (4294967296 + r * 268435456 ≤ a ∧ a < 4294967296 + (r + 1) * 268435456) then 0 else s.mems.sram.get 0 a := by
  rw [State.zeroRegion_sram, Tab.get_clear _ _ _ (Tab.wf_clear _ _ hw), Tab.get_clear _ _ _ hw]
  by_cases h1 : 4294967296 + r * 268435456 ≤ a ∧ a < 4294967296 + (r + 1) * 268435456
  · rw [if_pos h1, if_pos (.inr h1)]
  · by_cases h2 : r * 268435456 ≤ a ∧ a < (r + 1) * 268435456
    · rw [if_neg h1, if_pos h2, if_pos (.inl h2)]
    · rw [if_neg h1, if_neg h2, if_neg (not_or.mpr ⟨h2, h1⟩)]

/-- A failure in the record. -/
theorem State.enterFail_fields (f : CardFail) : (s.enterFail true f).card.found = satAdd 0xFFFFFFFF s.card.found 1 ∧ (s.enterFail true f).mems = s.mems ∧
    (s.card.entries.length < 4096 → (s.enterFail true f).card.entries.length = s.card.entries.length + 1) ∧
    (4096 ≤ s.card.entries.length → (s.enterFail true f).card.entries = s.card.entries) ∧
    (1 ≤ cardAction s.card.used f → cardAction s.card.used f ≤ 4 → (s.enterFail true f).card.pending.length = s.card.pending.length + 1) := by
  refine ⟨rfl, rfl, fun h => ?_, fun h => if_neg (Nat.not_lt.mpr h), fun h1 h4 => ?_⟩
  · exact (congrArg List.length (if_pos h)).trans (List.length_append ..)
  · have hp : (true && repairAction (cardAction s.card.used f)) = true := by rw [repairAction, decide_eq_true h1, decide_eq_true h4]; rfl
    exact (congrArg List.length (if_pos hp)).trans (List.length_append ..)

theorem exec_cardingThermalStop_of_hot (hl : s.carding = some l) (ht : s.card.todo = d.val :: rest) (hz : 2 ≤ (s.die d.val).zone ∨ 2 ≤ (s.die d.val).skeinZone)
    {s1 : State} (h1 : s1 = s.fromTest d x) : exec (.cardingThermalStop d x) s = .next (({ s1 with card := { s1.card with
      todo := [], outcome := outcomeWith s1.card.outcome 4, stopPair := d.val, end_ := s.time.lea } } : State).done l.cmd .timeout (result [(16, 4, d.val)])) := by
  subst h1
  refine congrArg Host.Outcome.next ?_
  rw [hl, ht]
  exact if_neg (by rintro (h | ⟨h, h2⟩); exacts [h rfl, by omega])

theorem exec_cardingThermalStop_of_cool (h1 : (s.die d.val).zone < 2) (h2 : (s.die d.val).skeinZone < 2) : exec (.cardingThermalStop d x) s = .next s := by
  refine congrArg Host.Outcome.next ?_
  split
  next => exact if_pos (.inr ⟨h1, h2⟩)
  next => rfl

theorem exec_cardingResult_of_present {w : HostWr} (hk : k = { op := 0x0B02, named := [(16, 23)], long := true, inHeld := true }) (hv : v = { state := !s.card.present })
    (hp : Passes s k c v) {on : State} (ho : on = accepted s k c v) : exec (.cardingResult c w) s = .next (on.writeHostOut c (c.field on 16 8) on.card.record w) := by
  subst hk hv ho
  exact congrArg Host.Outcome.next (selkan_passes hp)

/-- Settles O32: the pass pair by pair, the record, and the end of the pass. -/
theorem cardingPassRunsPairByPair : Obligations.CardingPassRunsPairByPair := by
  unfold Obligations.CardingPassRunsPairByPair
  refine ⟨fun s c hf hp => exec_cardingRun_of_ready rfl rfl rfl hp rfl hf rfl, fun s d hw r hr => State.toTest_reg hw hr, fun s d fails tail x l rest hl ht => ?turn,
    fun s d e rest fails tail x => exec_cardingPair_of_other, fun s r a hw => ⟨fun h => ?zero, fun h => ?below, fun h h2 => ?above⟩, fun s f => State.enterFail_fields f,
    fun s d x l rest hl ht hz => exec_cardingThermalStop_of_hot hl ht hz rfl, fun s d x => exec_cardingThermalStop_of_cool,
    fun s c w hp => exec_cardingResult_of_present rfl rfl hp rfl⟩
  case turn =>
    intro s1 s2 s3
    exact exec_cardingPair_of_turn hl ht rfl rfl rfl
  case zero => rw [State.zeroRegion_get hw, if_pos (by omega)]
  case below => rw [State.zeroRegion_get hw, if_neg (by omega)]
  case above => rw [State.zeroRegion_get hw, if_neg (by omega)]

end
end Sys2Proof.Machine
end

section
/-! SUPPORT. Attestation, firmware, the test-access fuse and board management. -/

set_option Elab.async false

namespace Sys2Proof.Machine
section
variable {s : State} {k : CmdSpec} {c : Cmd} {v : Verdict} {d : IoDie} {fw : FwRead} {sig : Bool}

/-! ### The length of a report (R440) -/

theorem length_foldl_of_keeps {α β : Type} {f : List α → β → List α} (h : ∀ l x, (f l x).length = l.length) (l : List α) (xs : List β) :
    (xs.foldl f l).length = l.length := by
  induction xs generalizing l with
  | nil => rfl
  | cons x xs ih => exact (ih (f l x)).trans (h l x)

theorem length_shaRound (l : List Word) (kw : Word × Word) : (shaRound l kw).length = l.length := by
  unfold shaRound
  split <;> rfl

theorem length_shaBlock (l : List Word) (block : List Byte) : (shaBlock l block).length = l.length := by
  rw [shaBlock, List.length_zipWith, length_foldl_of_keeps length_shaRound, Nat.min_self]

/-- SHA-512 answers 64 bytes. -/
theorem length_sha512 (m : List Byte) : (sha512 m).length = 64 := by
  have h : ((List.range ((shaPad m).length / 128)).foldl (fun h i => shaBlock h (((shaPad m).drop (128 * i)).take 128)) shaInit).length = 8 :=
    length_foldl_of_keeps (fun l i => length_shaBlock l _) _ _
  have hw (ws : List Word) : (ws.flatMap fun w => beBytes 8 w.toNat).length = 8 * ws.length := by
    induction ws with
    | nil => rfl
    | cons w ws ih =>
      rw [List.flatMap_cons, List.length_append, ih, beBytes, List.length_reverse, length_leBytes, List.length_cons]
      omega
  exact (hw _).trans (congrArg (8 * ·) h)

theorem length_identityBytes (nonce : BitVec 256) (i n : Nat) : (identityBytes nonce i n).length = n * 8 := by
  rw [identityBytes, length_flatMap_leBytes, List.length_range]

theorem State.length_certificate : s.certificate.length = 128 := by
  simp only [State.certificate, List.length_append, length_leBytes, length_identityBytes]

theorem State.length_reportBody {nonce : List Byte} (h : nonce.length = 32) : (s.reportBody nonce).length = 384 := by
  have hsha := length_sha512 s.conf.active.bytes
  unfold State.reportBody State.fwDigestBytes
  generalize sha512 s.conf.active.bytes = sha at hsha
  simp only [List.length_append, length_leBytes, length_flatMap_leBytes, List.length_range, length_identityBytes, State.length_certificate, h, hsha]

theorem exec_attest_of_passes {w : HostWr} (hk : k = { op := 0x0902, named := [(16, 55)], long := true, inHeld := true }) (hp : Passes s k c {}) {on : State}
    (ho : on = accepted s k c {}) : exec (.attest c w) s = .next (({ on with free := on.free + 8 } : State).writeHostOut c (c.field on 48 8)
      (on.reportBody (leBytes 32 (c.field on 16 32)) ++ freeBytes on.free 64) w fun u => u.bump Ctr.attestDone) := by
  subst hk ho
  exact congrArg Host.Outcome.next (selkan_passes hp)

/-! ### Firmware (R434-R438) -/

theorem exec_fwUpdate_of_passes {img : List Byte} {signed : Bool} (hi : img = (s.fwImage c).getD []) (hs : signed = (s.signedBy c 1 sig && fw.sigOk))
    (hk : k = { op := 0x0903, named := [(16, 28), (32, 95)], long := true, noJob := true, nvm := true, blockForm := true })
    (hv : v = { bad := s.fwBad c fw.sigOk, needSig := true, sigOk := signed && s.fwHeaderOk img, quiet := signed, reads := if c.field s 28 1 = 1 then some (c.field s 16 8, c.field s 24 4) else none })
    (hp : Passes s k c v) {on : State} (ho : on = accepted s k c v) {to_ : Fin 2} (ht : to_ = other on.sec.running) {n : BitVec 32} (hn : n = BitVec.ofNat 32 (imageField img 8 4)) :
    exec (.fwUpdate c sig fw) s = .next (({ on.writeFw to_ n (imageField img 12 4) with sec := { (on.writeFw to_ n (imageField img 12 4)).sec with preferred := to_ } } : State).done c .ok
      (result [(16, 4, n.toNat)])) := by
  subst hn ht ho hv hk hs hi
  exact congrArg Host.Outcome.next (selkan_passes hp)

/-- What writing an image does to the slots. -/
theorem State.writeFw_fields (j : Fin 2) (n : BitVec 32) (svn : Nat) : (s.writeFw j n svn).sec.fw.get j = { state := .trial, version := n, svn := svn } ∧
    (s.writeFw j n svn).sec.fw.get (other j) = s.sec.fw.get (other j) ∧ (s.writeFw j n svn).sec.running = s.sec.running ∧ (s.writeFw j n svn).mems = s.mems :=
  ⟨Two.get_mod_same .., Two.get_mod_other .., rfl, rfl⟩

theorem exec_recoveryImage_of_recovery (hr : s.sec.recovery.get d = true) (hn : s.nvmOpen = true) (hp : s.pow.supply.on = true) :
    exec (.recoveryImage d fw) s = .next (if s.fwVerifies fw then
      ({ s.writeFw 0 fw.version fw.svn with sec := { (s.writeFw 0 fw.version fw.svn).sec with
        recovery := (s.writeFw 0 fw.version fw.svn).sec.recovery.set d false
        running := if s.spin.claim.isNone then 0 else (s.writeFw 0 fw.version fw.svn).sec.running } } : State).modSp d fun x =>
          { x with state := .boot, bootFrom := s.time.lea, passed := none, lapses := 0 }
      else { (s.writeFw 0 fw.version fw.svn).modFw 0 fun x => { x with state := .bad } with
        sec := { ((s.writeFw 0 fw.version fw.svn).modFw 0 fun x => { x with state := .bad }).sec with failedSlot := outcomeWith (s.writeFw 0 fw.version fw.svn).sec.failedSlot 0 } }) :=
  congrArg Host.Outcome.next (if_neg (by rw [hr, hn, hp]; exact Bool.false_ne_true))

theorem exec_recoveryImage_of_not (h : s.sec.recovery.get d = false ∨ s.nvmOpen = false ∨ s.pow.supply.on = false) : exec (.recoveryImage d fw) s = .next s := by
  refine congrArg Host.Outcome.next (if_pos ?_)
  rcases h with h | h | h
  · rw [h]; rfl
  · rw [h, Bool.not_false, Bool.or_true]; rfl
  · rw [h, Bool.not_false, Bool.or_true]

/-! ### Test access and board management (R443-R445) -/

theorem exec_testLock_of_passes (hk : k = { op := 0x0904, long := true, noJob := true, nvm := true, blockForm := true }) (hv : v = { needSig := true, sigOk := s.signedBy c 1 sig })
    (hp : Passes s k c v) {on : State} (ho : on = accepted s k c v) {f : Two Bool}
    (hf : f = ⟨on.fuse.testLock.a || on.spin.present.a, on.fuse.testLock.b || on.spin.present.b⟩) :
    exec (.testLock c sig) s = .next (({ on with fuse := { on.fuse with testLock := f } } : State).done c .ok) := by
  subst hf ho hv hk
  exact congrArg Host.Outcome.next (selkan_passes hp)

/-- A command that is denied does not pass. -/
theorem check_of_denied (h : v.denied = true) : check s k c v ≠ none := by
  simp only [check, h, if_true]
  repeat' split
  all_goals exact Option.some_ne_none _

theorem exec_debugMailbox_of_passes (hk : k = { op := 0x0905, named := [(16, 63)], noJob := true }) (hv : v = { denied := s.locked }) (hp : Passes s k c v) {on : State}
    (ho : on = accepted s k c v) : exec (.debugMailbox c) s = .next (({ on with sec := { on.sec with debugUsed := true }, free := on.free + 2 } : State).done c .ok
      (BitVec.ofNat 128 ((Config.word on.free).toNat + 2 ^ 64 * (Config.word (on.free + 1)).toNat))) := by
  subst ho hv hk
  exact congrArg Host.Outcome.next (selkan_passes hp)

theorem State.bmcAnswer_of_silent {q : BmcReq} (h : s.spin.present.get d = false ∨ s.pow.supply = .off) : s.bmcAnswer d q = .silent := by
  refine if_pos ?_
  rcases h with h | h
  · rw [h]; rfl
  · rw [decide_eq_true h, Bool.or_true]

/-- Board management changes nothing and writes firmware on a die in recovery alone. -/
theorem State.bmcAnswer_of_powered (hp : s.spin.present.get d = true) (hs : s.pow.supply ≠ .off) :
    s.bmcAnswer d .change = (if s.sec.recovery.get d then .silent else .refused) ∧ s.bmcAnswer d .firmware = (if s.sec.recovery.get d then .update else .refused) := by
  have h : ¬ (!s.spin.present.get d || decide (s.pow.supply = .off)) = true := by rw [hp, decide_eq_false hs]; exact Bool.false_ne_true
  unfold State.bmcAnswer
  rw [if_neg h, if_neg h]
  cases s.sec.recovery.get d <;> exact ⟨rfl, rfl⟩

/-- Settles O33: attestation, firmware, the test-access fuse and board management. That a die without supply or absent is silent with
the answer held (log 65), and that DEBUG_MAILBOX answers OK with a free reply (log 117), are the model's choices. -/
theorem firmwareAndTestAccessAreGuarded : Obligations.FirmwareAndTestAccessAreGuarded := by
  unfold Obligations.FirmwareAndTestAccessAreGuarded
  refine ⟨fun s c w hp => exec_attest_of_passes rfl hp rfl, fun s nonce => State.length_reportBody, fun s c sig fw hp => exec_fwUpdate_of_passes rfl rfl rfl rfl hp rfl rfl rfl,
    fun s j n svn => State.writeFw_fields j n svn, fun s d fw hr hn hp => ⟨fun hf => ?verifies, fun hf => ?bad⟩, fun s d fw => exec_recoveryImage_of_not,
    fun s c sig hp => exec_testLock_of_passes rfl rfl hp rfl rfl, fun s c => ⟨fun hl hp => ?denied, fun hp => ⟨_, exec_debugMailbox_of_passes rfl rfl hp rfl⟩⟩,
    fun s d q => ⟨rfl, State.bmcAnswer_of_silent, State.bmcAnswer_of_powered⟩⟩
  case verifies =>
    have h := exec_recoveryImage_of_recovery (fw := fw) hr hn hp
    rw [if_pos hf] at h
    exact ⟨_, h, (State.writeFw_fields 0 fw.version fw.svn).1, Two.get_set_same .., congrArg Spindle.state (Two.get_mod_same ..), rfl⟩
  case bad =>
    have h := exec_recoveryImage_of_recovery (fw := fw) hr hn hp
    rw [if_neg (by rw [hf]; exact Bool.false_ne_true)] at h
    exact ⟨_, h, congrArg FwSlot.state (Two.get_mod_same ..), rfl, rfl, rfl⟩
  case denied => exact check_of_denied hl hp.2.2.2

end
end Sys2Proof.Machine
end
